-- ==== Sys2Proof/Word.lean ====
section
/-! DEFINITION. The word types of the device and the table type its arrays are held in. -/

namespace Sys2Proof

/-- A 32-bit word: the unit of registers and of queue items (R11, R187). -/
abbrev Word := BitVec 32

/-- A byte of a record, a frame or the persistent array. -/
abbrev Byte := BitVec 8

/-- An array of the device by index or address: keys strictly rising, no entry equal to the value an
unlisted key holds. Equal arrays are equal data. The operations are in `Machine/Table.lean`. -/
abbrev Tbl (α : Type) := List (Nat × α)

end Sys2Proof
end

