-- ==== Sys2Proof/Syntax.lean ====
section
/-! DEFINITION. The commands and events of the device with their operands, one constructor per row of
spec/opcode_table.json. What the outside world decides (a level, a code, a frame, a measured value) is an operand. -/

namespace Sys2Proof

/-- The thirteen islands in the order of their numbers (R18). -/
inductive Island where
  | aon | pwr | mgt | qf | sfi | mpi | mc0 | mc1 | mc2 | mc3 | sch | seq | bus
  deriving DecidableEq, Repr

/-- The two target ports (R29). -/
inductive Port where
  | host | mgmt
  deriving DecidableEq, Repr

/-- An item as it reaches its consumer: its words, and whether one of them is a POISON word (R205). -/
structure Item where
  words  : List Word
  poison : Bool
  deriving DecidableEq, Repr

/-- One pad's probe readings in mV: Voc, Vh and Vl (R57). -/
structure PadReading where
  pad : Nat
  voc : Int
  vh  : Int
  vl  : Int
  deriving DecidableEq, Repr

/-- A CAN frame (R520, R523). -/
structure CanFrame where
  id   : BitVec 29
  ide  : Bool
  fdf  : Bool
  brs  : Bool
  rtr  : Bool
  data : List Byte
  deriving DecidableEq, Repr

/-- When a start-of-frame was latched (R520): µs ticks before the present one, and BUS clock periods since that tick. -/
structure SofTime where
  ago : Nat
  clk : Fin 80
  deriving DecidableEq, Repr

/-- How a transmit attempt ends (R527, R532, R535): sent, with the local time in ns of its start-of-frame; lost arbitration;
or an error, `collision` when it came after arbitration was won in the control, data or CRC field. -/
inductive TxOutcome where
  | sent (sof : SofTime)
  | lost
  | error (collision : Bool)
  deriving DecidableEq, Repr

/-- Where the attempt of the head entry stands: none, start-of-frame sent, arbitration won (R534). -/
inductive TxPhase where
  | idle | arbitrating | won
  deriving DecidableEq, Repr

/-- What ISO 11898-1 counts for a bus error (R537): 8 in TEC, nothing (an exception of the transmitter's rule), 1 in REC, 8 in
REC, or 8 (14 dominant bits after an error flag) in the transmitter's TEC or the receiver's REC. -/
inductive CanErr where
  | transmit | exempt | receive | receiveFlag | dominant (transmitter : Bool)
  deriving DecidableEq, Repr

/-- What a Porlux internal check found (R570, R574). -/
inductive PxFault where
  | recheck | parity
  deriving DecidableEq, Repr

/-- A consumer stage: an engine's consumer port by its endpoint code, or the host's port of one queue (R194, R196). -/
inductive StagePort where
  | engine (code : BitVec 16)
  | host (q : Fin 512)
  deriving DecidableEq, Repr

/-- A memory of the lattice: the true and the complemented working memory, and the master (R453, R456). -/
inductive LatMem where
  | tru | cmp | master
  deriving DecidableEq, Repr

/-- A disturbance of the lattice's memories before a pass (R454): one bit of a cell word, a cell output, one bit of a
timer's E, or a snapshot signal; `cmp` names the complemented channel. -/
inductive Upset where
  | cell (mem : LatMem) (n : Fin 1024) (word : Fin 4) (bit : Fin 32)
  | out (cmp : Bool) (n : Fin 1024)
  | timer (cmp : Bool) (t : Fin 64) (bit : Fin 28)
  | signal (cmp : Bool) (addr : BitVec 12)
  deriving DecidableEq, Repr

/-- A step-7 test that failed (R130, R131): its row in the table, the instance it ran on (output, motor engine, loop engine,
figure engine or controller), and whether its repeat passed. -/
structure SelfTestFail where
  row        : Fin 11
  instance_  : Nat
  repeatPass : Bool
  deriving DecidableEq, Repr

/-- The commands and events of the device: one constructor per row of spec/opcode_table.json,
those with operands first (Lean compiles no more than 244 such constructors of one type). -/
inductive Instr where
  /-- SFI_OSC_WINDOW (R19): At the end of each 10 ms window SFI measures its oscillator against XIN and raises SFI_OSC_DEV when the deviation exceeds 4 %. -/
  | sfiOscWindow (cycles : Nat)
  /-- TEMPO_GO (R39): A write of GO to SYS_TEMPO requests a tempo switch, which completes at once, is refused, is deferred or is ignored. -/
  | tempoGo (w : Word)
  /-- TEMPO_QUIESCE_ACK (R41): A scaled island finishes its sample, holds its outputs and raises QACK, and PWR reprograms the PLLs when every QACK has been seen. -/
  | tempoQuiesceAck (isl : Island)
  /-- DEFRES_CHECK_COMPLETE (R58): The probe readings end, every checked pad is classified and compared with its declaration, and the result is PASS, FAIL or PROBE_ERROR. -/
  | defresCheckComplete (selfOk : Bool) (readings : List PadReading)
  /-- LEP_LIMITER_ACT (R67): The independent limiter of an LE port acts, sets FAULT and raises LEP_FAULT. -/
  | lepLimiterAct (p : Fin 32)
  /-- LEP_LIMITER_RELEASE (R67): The independent limiter of an LE port stops acting, and LEP_FAULT falls once no limiter acts. -/
  | lepLimiterRelease (p : Fin 32)
  /-- SO_OVERCURRENT_TRIP (R74): A safety output exceeds its trip current, both switches open within 20 µs, and SO_OVC is raised. -/
  | soOvercurrentTrip (k : Fin 6)
  /-- POWER_ON (R116): VMAIN enters its range and the device begins a start at step 1 with cause POWER_ON. -/
  | powerOn (resetLow vfldOk : Bool)
  /-- VBAT_LOW (R93): The VBAT low warning asserts and writes a record, or an AON log entry in VAULT-WATCH. -/
  | vbatLow (mv : BitVec 16)
  /-- VBAT_ABSENT_CHANGE (R87): VBAT_ABSENT changes while VMAIN is out of range, moving the device between VAULT-WATCH and OFF. -/
  | vbatAbsentChange (absent : Bool)
  /-- HIB_REQUEST (R88): A write of HIB to PWR_STATE requests HIBERNATE, which PWR accepts or refuses with REASON. -/
  | hibRequest (w : Word)
  /-- WAKE_SOURCE_FIRE (R90): An enabled wake source fires in HIBERNATE, and a start begins at step 4 with cause WAKE. -/
  | wakeSourceFire (src : Fin 10) (level : Bool)
  /-- BATTERY_SAMPLE (R102): A battery sample item arrives at PWR port 0x0100 and joins the means of Vb and Ib. -/
  | batterySample (it : Item)
  /-- MAINS_SENSE_CHANGE (R101): The mains-sense input or mains-sense item changes level and the DEB filter starts or restarts. -/
  | mainsSenseChange (level : Bool)
  /-- RESCUE_ESTIMATE_REPLY (R109): An estimate reply reaches PWR, and once both replies are in, PWR evaluates the energy and voltage decision. -/
  | rescueEstimateReply (it : Item)
  /-- RESCUE_PLANNER_EVENT (R105): A planner event for the rescue move reaches PWR, entering DOORS on COMPLETED or ABANDONED otherwise. -/
  | rescuePlannerEvent (it : Item)
  /-- RESCUE_DOOR_ANSWER (R105): A rescue door answer arrives and the sequence enters DONE, or ends in HOLD on FAILED. -/
  | rescueDoorAnswer (it : Item)
  /-- MGMT_REQUEST (R140): A write of GO with the correct KEY to MGT_RSTREQ raises a reset with cause MGMT_REQUEST. -/
  | mgmtRequest (w : Word)
  /-- RAIL_TIMEOUT (R83): A rail fails to reach 90 % within 2 ms, and PWR retries once or holds the device at step 2. -/
  | railTimeout (rail : Fin 4)
  /-- SELFTEST_COMPLETE (R131): The step-7 self-tests end, with a failing test repeated once and a second failure blocking the start. -/
  | selftestComplete (fails : List SelfTestFail)
  /-- ERASE (R164): Slot command ERASE begins erasing the slot that SLOT names. -/
  | slotErase (slotB : Bool)
  /-- OPEN (R164): Slot command OPEN opens a write window on a slot with OFFSET 0. -/
  | slotOpen (slotB : Bool)
  /-- VERIFY (R164): Slot command VERIFY begins checks 1 to 6 of R127 on a slot without loading it. -/
  | slotVerify (slotB : Bool)
  /-- SLOTDATA_WRITE (R165): A write of MGT_SLOTDATA stores one word in the open window and advances OFFSET. -/
  | slotdataWrite (w : Word)
  /-- PWDATA_WRITE (R184): A write of MGT_PWDATA places the next four password bytes in the buffer. -/
  | pwdataWrite (w : Word)
  /-- UNLOCK (R685): Password command UNLOCK is checked and, when no refusal applies, starts the derivation. -/
  | passwordUnlock (len : BitVec 7)
  /-- SET (R174): Password command SET is checked and, when permitted, starts deriving a new stored password. -/
  | passwordSet (len : BitVec 7)
  /-- KEYDATA_WRITE (R177): A write of MGT_KEYDATA stores the next four key bytes. -/
  | keydataWrite (w : Word)
  /-- PROVISION (R177): A write of PROVISION stores the device key and REQTAG when permitted. -/
  | keyProvision (w : Word)
  /-- RWL_WRITE (R169): An accepted RWL write takes effect and writes its change-log record and overlay entry before it is acknowledged, or is refused. -/
  | rwlWrite (addr : BitVec 24) (w : Word)
  /-- REGISTER_WRITE (R14): A write to a register without a row of its own acts per its access type. -/
  | registerWrite (p : Port) (addr : BitVec 24) (w : Word)
  /-- QUEUE_PRODUCER_WORD (R193): A producer port writes a word to a queue, and QF drops the oldest items when the queue is full. -/
  | queueProducerWord (p : BitVec 16) (first last : Bool) (w : Word)
  /-- STAGE_PUSH (R194): QF pushes the oldest visible item into a free consumer stage slot and checks its parity. -/
  | stagePush (p : StagePort) (bad : List Bool) (broken : Bool)
  /-- CONSUMER_READ (R195): An engine reads a word from its consumer stage, freeing the slot after an item's last word. -/
  | consumerRead (p : StagePort)
  /-- STALL_READ_TIMEOUT (R208): A STALL read reaches TIMEOUT with no item staged and ends with status TIMEOUT. -/
  | stallReadTimeout (p : StagePort)
  /-- QUEUE_FLUSH (R210): A FLUSH write of QF_QSTATn flushes a queue at an item boundary and writes QUEUE_FLUSH. -/
  | queueFlush (n : Fin 512) (w : Word) (ending : Option Word)
  /-- QUEUE_CLRCNT (R218): A CLRCNT write of QF_QSTATn sets LOST and FLUSHDROP to 0. -/
  | queueClrcnt (n : Fin 512) (w : Word)
  /-- HOST_QDATA_WRITE (R215): A host write of QF_QDATAn adds a word to the host item, passing the command gate's tag check on CMDQ queues. -/
  | hostQdataWrite (n : Fin 512) (w : Word)
  /-- HOST_QDATA_READ (R216): A host read of QF_QDATAn returns the next staged word, or the last word with UNDERRUN in FLAG mode. -/
  | hostQdataRead (n : Fin 512)
  /-- CLRLTAG (R220): A CLRLTAG write of QF_FCTL empties the lost-tag FIFO and clears OVERFLOW. -/
  | clrltag (w : Word)
  /-- CLRERR (R220): A CLRERR write of QF_FCTL sets METAERR and WORDERR to 0. -/
  | clrerr (w : Word)
  /-- SSI_READ (R224): MPI starts an SSI read 200 µs before the boundary and captures the code or marks the sample absent. -/
  | ssiRead (code : Word) (err high : Bool)
  /-- ENCODER_TRANSITION (R223): The quadrature counter counts a transition, and a simultaneous A and B change raises ENC_ILLEGAL and makes the encoder LOST. -/
  | encoderTransition (pad : Fin 4) (a b : Bool)
  /-- ENCODER_ITEM (R222): A 3-word encoder item from the hoist drive arrives on fusion port 0x0502. -/
  | encoderItem (it : Item)
  /-- CAPTURE_ITEM (R226): A remote capture item from the CARTOP unit arrives on fusion port 0x0501. -/
  | captureItem (it : Item)
  /-- VANE_CHANNEL_EDGE (R225): A vane channel changes level, and an edge is accepted when both channels agree within VANEDISC. -/
  | vaneChannelEdge (pair : Fin 4) (chB level : Bool)
  /-- VANE_WINDOW_EXPIRE (R225): A vane pair's channels miss the VANEDISC window, and the pair becomes LOST after three misses. -/
  | vaneWindowExpire (pair : Fin 4)
  /-- SWITCH_CHANGE_ITEM (R242): A terminal-switch change item arrives on fusion port 0x0504. -/
  | switchChangeItem (it : Item)
  /-- SWITCH_EDGE_COUNT (R242): A switch's new level has held for 5 ms and the edge counts. -/
  | switchEdgeCount (sw : Fin 4)
  /-- NLAND_WRITE (R241): A write of NLAND makes the fusion engine recompute the landing table CRC and set or clear TABOK. -/
  | nlandWrite (w : Word)
  /-- PLANNER_CYCLE (R257): At each fusion boundary a planner fetches up to four commands, advances the running move and posts its reference item. -/
  | plannerCycle (p : Fin 8)
  /-- POSITION (R267): A POSITION move command is checked and held or refused, and when it runs it is planned to its target. -/
  | movePosition (p : Fin 8) (it : Item)
  /-- RELATIVE (R261): A RELATIVE move command is planned as POSITION to the last held target plus its distance. -/
  | moveRelative (p : Fin 8) (it : Item)
  /-- VELOCITY (R272): A VELOCITY move command tracks its target velocity through the slew limiter until superseded. -/
  | moveVelocity (p : Fin 8) (it : Item)
  /-- TABLE (R277): A TABLE move command plays a segment table from the reference position. -/
  | moveTable (p : Fin 8) (it : Item)
  /-- STOP (R269): A STOP command plans a jerk-limited stop and discards every held move. -/
  | moveStop (p : Fin 8) (it : Item)
  /-- ABORT (R291): An ABORT command stops the named running move or removes a held one. -/
  | moveAbort (p : Fin 8) (it : Item)
  /-- ESTIMATE_REQUEST (R285): An estimate request reaches the car-axis planner, which replies with Tmove, Emove and the planned target. -/
  | estimateRequest (it : Item)
  /-- REVDWELL_EXPIRE (R270): The REVDWELL wait after a BEHIND stop ends and the planner plans from rest to the target. -/
  | revdwellExpire (p : Fin 8)
  /-- ARRWAIT_EXPIRE (R280): ARRWAIT passes before arrival and the car-axis move ends OFFLEVEL. -/
  | arrwaitExpire (p : Fin 8)
  /-- HOLDDLY_EXPIRE (R288): A stepper axis has been at rest for HOLDDLY ms and ISCALE drops to IHOLD. -/
  | holddlyExpire (p : Fin 8)
  /-- ESYNC (R290): A write of ESYNC sets EORG so the encoder position equals the reference position, and sets SYNC. -/
  | esync (p : Fin 8) (w : Word)
  /-- PLANNER_CLRCNT (R293): A CLRCNT write of MPI_PLCTLp sets MPI_PLMOVESp to 0. -/
  | plannerClrcnt (p : Fin 8) (w : Word)
  /-- STALLED_CLEAR (R294): A write of 1 to STALLED clears it only with the axis at rest. -/
  | stalledClear (p : Fin 8) (w : Word)
  /-- SPEED_SAMPLE (R337): At each speed boundary a motor engine updates VEL and FBPOS, runs its door functions and runs the LEm sample. -/
  | speedSample (m : Fin 4) (late : Bool)
  /-- LOOP_SAMPLE (R303): A loop engine evaluates its slots, arbitrates, corrects its integrators and posts its output, or misses. -/
  | loopSample (e : Fin 8) (late : Bool)
  /-- CURRENT_SAMPLE (R317): At each current sample the motor engine converts the shunts and computes the duties. -/
  | currentSample (m : Fin 4) (shunts : List (BitVec 14)) (vdc : BitVec 14) (ohm : Option (BitVec 14))
  /-- BRIDGE_GDUV (R319): VGDm stays below 10.5 V for 5 µs and the bridge enters FAULT. -/
  | bridgeGduv (m : Fin 4) (mv : Word)
  /-- BRIDGE_EXTF (R319): BRFLT_N stays low for 1 µs and the bridge enters FAULT. -/
  | bridgeExtf (m : Fin 4) (low : Bool)
  /-- ALIGN_DONE (R315): ALIGNMS passes in ALIGN, ANGOFS is set and the bridge enters RUN. -/
  | alignDone (m : Fin 4)
  /-- ENABLE_WRITE (R315): A write of ENABLE in MCm_CTL moves the bridge between IDLE, ALIGN and RUN. -/
  | enableWrite (m : Fin 4) (w : Word)
  /-- CAL (R324): A CAL write starts an ADC offset calibration, or defers it until the bridge is IDLE. -/
  | calStart (m : Fin 4) (w : Word)
  /-- CAL_COMPLETE (R324): A calibration ends and sets IOFSi, writing CAL_DONE, or writes CAL_FAIL with ADCF. -/
  | calComplete (m : Fin 4) (sums : List Int)
  /-- MC_CLRFLT (R315): A CLRFLT write returns a bridge in FAULT to IDLE when ENABLE is 0 and no cause remains. -/
  | mcClrflt (m : Fin 4) (w : Word)
  /-- RESETI (R328): A RESETI write sets every integrator to 0 at the next sample. -/
  | reseti (e : Fin 8) (w : Word)
  /-- LOOP_CLRCNT (R328): A CLRCNT write of LECMD sets MISSCOUNT to 0. -/
  | loopClrcnt (e : Fin 8) (w : Word)
  /-- HOLD_WRITE (R312): A write of HOLD freezes the working copies or transfers every register to them at the next boundary. -/
  | holdWrite (e : Fin 8) (w : Word)
  /-- FBSET (R320): A write of FBSET sets FBORG so that FBPOS equals the written value. -/
  | fbset (m : Fin 4) (w : Word)
  /-- BATTERY_ITEM_TICK (R323): Every 1 ms a motor engine posts a battery item with VDC and ICUR3. -/
  | batteryItemTick (m : Fin 4)
  /-- DOOR_OPEN (R346): Door command OPEN posts the moves toward TRAVEL or is refused. -/
  | doorOpen (m : Fin 4) (it : Item)
  /-- DOOR_CLOSE (R346): Door command CLOSE posts the moves toward 0 or is refused. -/
  | doorClose (m : Fin 4) (it : Item)
  /-- NUDGE (R355): Door command NUDGE closes the door under nudging limits. -/
  | doorNudge (m : Fin 4) (it : Item)
  /-- DOOR_STOP (R346): Door command STOP makes a quick stop or answers NOTHING_TO_STOP. -/
  | doorStop (m : Fin 4) (it : Item)
  /-- DOOR_HOME (R360): Door command HOME starts a home run at −HOMEV. -/
  | doorHome (m : Fin 4) (it : Item)
  /-- DOOR_LEARN (R362): Door command LEARN starts a learn run of mass and travel. -/
  | doorLearn (m : Fin 4) (it : Item)
  /-- DOOR_INPUT_ITEM (R342): A door input item from SFI reaches the door function and updates its inputs. -/
  | doorInputItem (m : Fin 4) (it : Item)
  /-- DOOR_INPUT_STALE (R342): No valid door input item has been staged within DINAGE ms, and the door takes the safe input values. -/
  | doorInputStale (m : Fin 4)
  /-- DOOR_PLANNER_EVENT (R349): A planner event for a door move ends the door in OPEN, CLOSED or STOPPED, or advances a run. -/
  | doorPlannerEvent (m : Fin 4) (it : Item)
  /-- SESSION_ITEM (R358): A session item reaches a door motor engine and updates SESSION. -/
  | sessionItem (m : Fin 4) (it : Item)
  /-- CLOSELIM_EDGE (R343): A CLOSELIM level has held for 5 ms and counts. -/
  | closelimEdge (m : Fin 4)
  /-- CLOSEWAIT_EXPIRE (R349): The close conditions are unmet CLOSEWAIT ms after COMPLETED and the door enters STOPPED with CLOSE_FAIL. -/
  | closewaitExpire (m : Fin 4)
  /-- HOME_TIMEOUT (R360): No stall is detected within 60 s and the home run fails with TIMEOUT. -/
  | homeTimeout (m : Fin 4)
  /-- SESSGRACE_EXPIRE (R359): SESSION has been 0 for SESSGRACE ms and the door nudges closed. -/
  | sessgraceExpire (m : Fin 4)
  /-- HALL_UP (R384): A HALL_UP call item creates or merges a landing call upward. -/
  | hallUp (it : Item)
  /-- HALL_DN (R384): A HALL_DN call item creates or merges a landing call downward. -/
  | hallDn (it : Item)
  /-- CAR (R384): A CAR call item creates or merges a car call. -/
  | carCall (it : Item)
  /-- SESSION_OPEN (R399): A SESSION_OPEN item opens a vault access session or is refused. -/
  | sessionOpen (it : Item)
  /-- CALL_CANCEL (R385): A CANCEL call item frees a matching open context or is refused. -/
  | callCancel (it : Item)
  /-- SESSION_EXTEND (R400): A SESSION_EXTEND item with the matching token extends the session expiry. -/
  | sessionExtend (it : Item)
  /-- SESSION_CLOSE (R400): A SESSION_CLOSE item with the matching token ends the session. -/
  | sessionClose (it : Item)
  /-- ASSIGN (R392): An ASSIGN assignment item gives a group context to this car. -/
  | assignContext (it : Item)
  /-- WITHDRAW (R392): A WITHDRAW assignment item removes a context from this car unless it is COMMITTED or SERVING. -/
  | withdrawContext (it : Item)
  /-- ASSIGN_LIVE (R402): A LIVE assignment item tells the driving car of a live session. -/
  | assignLive (it : Item)
  /-- ASSIGN_END (R402): An END assignment item tells the driving car that a session has ended. -/
  | assignEnd (it : Item)
  /-- CAR_STATUS_ITEM (R380): A car status item reaches a GROUP scheduler. -/
  | carStatusItem (c : Fin 16) (it : Item)
  /-- DEPART (R398): Door handshake DEPART frees the serving contexts and sets the car IDLE, or is ignored. -/
  | depart (it : Item)
  /-- DOORREM (R398): Door handshake DOORREM reports the remaining dwell. -/
  | doorrem (it : Item)
  /-- SESSION_EXPIRY (R400): A LIVE session's expiry passes and it ends EXPIRED. -/
  | sessionExpiry (x : Fin 1024)
  /-- PENDMAX_EXPIRE (R400): A session not yet LIVE PENDMAX ms after opening ends with PENDMAX. -/
  | pendmaxExpire (x : Fin 1024)
  /-- SESSION_GRANT (R402): A session grant reaches a SESSION_CHECK scheduler, which posts session items for that station. -/
  | sessionGrant (it : Item)
  /-- START (R415): A START write begins a figure at ENTRY or PC, or is refused. -/
  | figureStart (f : Fin 4) (w : Word)
  /-- FIGURE_ABORT (R437): An ABORT write enqueues an abort token that cancels the running figure. -/
  | figureAbort (f : Fin 4) (w : Word)
  /-- FIG_CLRFLT (R436): A CLRFLT write returns a faulted figure engine to IDLE. -/
  | figClrflt (f : Fin 4) (w : Word)
  /-- FSIG_WRITE (R431): A host write of SEQ_FSIGf sets event flags. -/
  | fsigWrite (f : Fin 4) (w : Word)
  /-- NOP (R419): Step NOP does nothing. -/
  | stepNop (f : Fin 4) (bad : Bool)
  /-- LDI (R419): Step LDI loads an immediate into a register. -/
  | stepLdi (f : Fin 4) (bad : Bool)
  /-- LDW (R419): Step LDW loads a 32-bit literal into a register. -/
  | stepLdw (f : Fin 4) (bad : Bool)
  /-- MOV (R419): Step MOV copies a register. -/
  | stepMov (f : Fin 4) (bad : Bool)
  /-- ADD (R416): Step ADD adds two registers with saturation. -/
  | stepAdd (f : Fin 4) (bad : Bool)
  /-- SUB (R416): Step SUB subtracts two registers with saturation. -/
  | stepSub (f : Fin 4) (bad : Bool)
  /-- ADDI (R416): Step ADDI adds an immediate with saturation. -/
  | stepAddi (f : Fin 4) (bad : Bool)
  /-- AND (R419): Step AND ands two registers. -/
  | stepAnd (f : Fin 4) (bad : Bool)
  /-- OR (R419): Step OR ors two registers. -/
  | stepOr (f : Fin 4) (bad : Bool)
  /-- XOR (R419): Step XOR exclusive-ors two registers. -/
  | stepXor (f : Fin 4) (bad : Bool)
  /-- SHL (R416): Step SHL shifts a register left. -/
  | stepShl (f : Fin 4) (bad : Bool)
  /-- SHR (R416): Step SHR shifts a register right, logically or arithmetically. -/
  | stepShr (f : Fin 4) (bad : Bool)
  /-- BR (R420): Step BR branches when a condition holds between two registers. -/
  | stepBr (f : Fin 4) (bad : Bool)
  /-- BRI (R420): Step BRI branches when a condition holds between a register and an immediate. -/
  | stepBri (f : Fin 4) (bad : Bool)
  /-- JMP (R419): Step JMP jumps to TARGET. -/
  | stepJmp (f : Fin 4) (bad : Bool)
  /-- CALL (R419): Step CALL pushes the return address and jumps, faulting on a full stack. -/
  | stepCall (f : Fin 4) (bad : Bool)
  /-- RET (R419): Step RET pops the return address, faulting on an empty stack. -/
  | stepRet (f : Fin 4) (bad : Bool)
  /-- END (R437): Step END enqueues an end token, and the figure ends with STATUS. -/
  | stepEnd (f : Fin 4) (bad : Bool)
  /-- RDREG (R429): Step RDREG posts a register read request and waits for the reply. -/
  | stepRdreg (f : Fin 4) (bad : Bool) (pads : BitVec 64)
  /-- WRREG (R429): Step WRREG posts a register write request and waits for the reply. -/
  | stepWrreg (f : Fin 4) (bad : Bool)
  /-- REG_REQUEST (R429): A figure register request reaches its target island, which performs the access and posts a reply. -/
  | regRequest (f : Fin 4) (isl : Island)
  /-- REG_REPLY (R429): A register reply reaches the figure engine, completing the step or faulting with REGERR. -/
  | regReply (f : Fin 4) (isl : Island)
  /-- REG_TIMEOUT (R429): No register reply arrives within 50 µs and the engine faults with REGTMO. -/
  | regTimeout (f : Fin 4)
  /-- POST (R419): Step POST posts an item of N registers on a producer port. -/
  | stepPost (f : Fin 4) (bad : Bool)
  /-- RECV (R427): Step RECV takes one item from a consumer port into registers. -/
  | stepRecv (f : Fin 4) (bad : Bool)
  /-- FLUSH (R419): Step FLUSH flushes the queue at one of the figure's ports. -/
  | stepFlush (f : Fin 4) (bad : Bool)
  /-- MOVE (R428): Step MOVE posts a move command built from registers. -/
  | stepMove (f : Fin 4) (bad : Bool)
  /-- WAIT (R422): Step WAIT completes at once or suspends the engine until its condition or timeout. -/
  | stepWait (f : Fin 4) (bad : Bool) (pads : BitVec 64)
  /-- WAIT_COMPLETE (R422): A WAIT condition comes to hold and the suspended step completes. -/
  | waitComplete (f : Fin 4) (pads : BitVec 64)
  /-- TSET (R424): Step TSET loads a timer and sets it RUNNING. -/
  | stepTset (f : Fin 4) (bad : Bool)
  /-- FIGURE_TIMER_EXPIRE (R424): A figure timer reaches 0 and becomes EXPIRED, which may end a WAIT through ELSE. -/
  | figureTimerExpire (f : Fin 4) (t : Fin 8) (pads : BitVec 64)
  /-- TRD (R419): Step TRD reads a timer's remaining time. -/
  | stepTrd (f : Fin 4) (bad : Bool)
  /-- RAISE (R432): Step RAISE writes a recorder record 0x0B00 + CODE. -/
  | stepRaise (f : Fin 4) (bad : Bool)
  /-- SIG (R433): Step SIG sets event flags on a figure engine. -/
  | stepSig (f : Fin 4) (bad : Bool)
  /-- OUTL (R434): Step OUTL drives an output line. -/
  | stepOutl (f : Fin 4) (bad : Bool)
  /-- INL (R434): Step INL reads an input line. -/
  | stepInl (f : Fin 4) (bad : Bool) (pads : BitVec 64)
  /-- DEVT (R419): Step DEVT reads device time. -/
  | stepDevt (f : Fin 4) (bad : Bool)
  /-- LATTICE_PASS (R453): Each pass SFI snapshots the signals, evaluates the lattice on both encodings, compares them and applies the demands. -/
  | latticePass (upsets : List Upset)
  /-- LATTICE_TIMER_EXPIRE (R450): A lattice cell timer's E reaches PRESET. -/
  | latticeTimerExpire (t : Fin 64)
  /-- SI_LEVEL_CHANGE (R459): A safety-input terminal's filtered level takes a new value. -/
  | siLevelChange (t : Fin 49) (closed : Bool)
  /-- SI_DISCREPANCY (R461): A dual input's discrepancy timer reaches DISC and DISC is latched. -/
  | siDiscrepancy (n : Fin 24)
  /-- LEP_TEST_PULSE (R462): A CONTACT_SOURCE port ends its test pulse, and a terminal still closed latches a short. -/
  | lepTestPulse (p : Fin 32) (before : BitVec 49) (last : BitVec 49)
  /-- CHAIN_TAP_CHANGE (R465): A chain tap's filtered level changes. -/
  | chainTapChange (c : Fin 8) (level : Bool) (mv : Word)
  /-- PVI_ITEM (R238): A position virtual-input item from MPI is staged in SFI. -/
  | pviItem (it : Item)
  /-- NVI_ITEM (R466): A network virtual-input item from the Porlux engine is staged in SFI. -/
  | nviItem (it : Item)
  /-- VI_STALE (R466): No valid virtual-input item arrives within its window and the inputs are taken as 0. -/
  | viStale (nvi : Bool)
  /-- SO_READBACK_FAULT (R471): A switch fails to follow its command within 100 µs or disagrees later, and its cause is latched. -/
  | soReadbackFault (k : Fin 6) (hs : Bool) (ls : Bool) (late : Bool)
  /-- DARK_TEST_PULSE (R474): At each TPER an ON output opens one switch for TPW and checks its read-back before and after reclosing. -/
  | darkTestPulse (k : Fin 6) (opened : Bool) (reclosed : Bool) (cut : Bool)
  /-- RELOAD (R457): A RELOAD write requests a lattice reload, which starts or waits DEFERRED. -/
  | latticeReload (w : Word)
  /-- LATTICE_CLRCNT (R478): A CLRCNT write of SFI_LATCTL clears SFI_LATERR and every SFI_SOCNTk. -/
  | latticeClrcnt (w : Word)
  /-- FAULT_SOURCE_RISE (R492): A fault source rises and at the next pass boundary SFI sets HOLD on its outputs and sets LOCKOUT. -/
  | faultSourceRise (src : Fin 20)
  /-- BLOCK_ERROR (R487): A block error begins the block's targeted self-test within 100 µs. -/
  | blockError (b : Fin 24) (cause : BitVec 16)
  /-- BLOCK_TEST (R488): A targeted self-test ends and classifies the error as transient or lasting, quarantining the block on a lasting error. -/
  | blockTest (b : Fin 24) (pass : Bool) (us : BitVec 16)
  /-- ACK_PRESS_RELEASE (R494): ACK_IN returns to open and the press is accepted or refused. -/
  | ackPressRelease (ms : BitVec 16)
  /-- QCLR (R490): A write of MGT_QCLR requests quarantine clearances for the next start. -/
  | qclr (w : Word)
  /-- SWREQ (R501): A write of SWREQ requests switch tests, which start or wait DEFERRED. -/
  | swreq (w : Word)
  /-- SWTEST_END (R502): The switch test ends and latches causes on the outputs that failed. -/
  | swtestEnd (fails : List (Fin 6 × BitVec 4))
  /-- CAN_FRAME_RECEIVED (R521): A frame completes without error and is stamped and given to the time service or a receive buffer. -/
  | canFrameReceived (n : Fin 3) (f : CanFrame) (esi : Bool) (sof : SofTime)
  /-- CAN_TX_PORT_ITEM (R529): A transmit port item enters the transmit queue or is refused BAD. -/
  | canTxPortItem (n : Fin 3) (q : Fin 4)
  /-- TXGO (R529): A write of BUS_CANTXGOn enters the host window as a transmit request. -/
  | txgo (n : Fin 3) (w : Word)
  /-- CAN_TX_ATTEMPT_END (R532): A transmit attempt ends in success, lost arbitration or error, and the head entry is sent, retried or removed. -/
  | canTxAttemptEnd (n : Fin 3) (out : TxOutcome)
  /-- TXCANCEL (R534): A write of BUS_CANTXCANCELn cancels the oldest matching entry or answers TOO_LATE or NOTHING_TO_CANCEL. -/
  | txcancel (n : Fin 3) (phase : TxPhase) (w : Word)
  /-- RB_WORD0_READ (R523): A read of word 0 of a HOST buffer sets LOCK. -/
  | rbWord0Read (n : Fin 3) (b : Fin 64)
  /-- RB_LAST_WORD_READ (R523): A read of a HOST buffer's last word clears LOCK and NEW and takes in any pending frame. -/
  | rbLastWordRead (n : Fin 3) (b : Fin 64)
  /-- RB_UNLOCK (R523): A write of UNLOCK clears LOCK and NEW and takes in any pending frame. -/
  | rbUnlock (n : Fin 3) (b : Fin 64) (w : Word)
  /-- CAN_ERROR (R537): A bus error updates TEC and REC and may enter error-passive or bus-off. -/
  | canError (n : Fin 3) (e : CanErr)
  /-- CAN_BUSOFF_END (R538): The 128th recessive sequence in bus-off returns the controller to error-active. -/
  | canBusoffEnd (n : Fin 3)
  /-- CAN_BUS_JOIN (R515): After 11 recessive bits the controller joins the bus. -/
  | canBusJoin (n : Fin 3)
  /-- TSNTLO_READ (R554): A read of BUS_TSNTLO latches BUS_TSNTHI. -/
  | tsntloRead (phase : Fin 80)
  /-- PX_FRAME_BUILD (R561): At each PHASE modulo PERIOD a SAFETY or LEASE connection builds a frame and enters it into the transmit queue. -/
  | pxFrameBuild (c : Fin 64)
  /-- PX_DATA_SEND (R562): A staged DATA item is sent in fragments. -/
  | pxDataSend (c : Fin 64)
  /-- PX_HEARTBEAT (R562): A DATA connection without a frame for PERIOD sends a heartbeat. -/
  | pxHeartbeat (c : Fin 64)
  /-- PX_FRAME_RECEIVE (R565): A Porlux frame record is checked and accepted, delivering its values, or discarded. -/
  | pxFrameReceive (parity : Bool)
  /-- PX_WATCHDOG_EXPIRE (R567): PERIOD passes without an accepted frame in RUN, and the connection's values fall to 0. -/
  | pxWatchdogExpire (c : Fin 64)
  /-- PX_INTERNAL (R570): An SCRC recheck or table parity fails, raising FLT12 and halting the connections. -/
  | pxInternal (c : Fin 64) (kind : PxFault)
  /-- PX_CLRCNT (R572): A CLRCNT write of BUS_PXCTL clears the Porlux counters. -/
  | pxClrcnt (w : Word)
  /-- LEASE_ITEM (R583): A lease item reaches the lease gate, which sets HIGH and STATE. -/
  | leaseItem (it : Item)
  /-- UNIT_REPORT (R586): A unit report reaches the lease issuer. -/
  | unitReport (u : Bool) (it : Item)
  /-- REPORT_LOSS (R586): A unit's report ages past REPLOSS, and the holder is declared lost when it is that unit. -/
  | reportLoss (u : Bool)
  /-- LICTL_WITHDRAW (R586): A write of WITHDRAW declares the holder lost. -/
  | lictlWithdraw (w : Word)
  /-- HANDOVER (R603): A HANDOVER write starts an allemande, which defers or proceeds to the FINAL epoch and release. -/
  | handover (w : Word)
  /-- HANDOVER_CANCEL (R603): A CANCEL write of SFI_LSCTL ends an allemande before RELEASED. -/
  | handoverCancel (w : Word)
  /-- RECORD_TAP_WRITE (R613): An island places a stamped record in its tap, or discards it and counts it in DROPPED when the tap is full. -/
  | recordTapWrite (isl : Island) (code : BitVec 16) (data : List Byte)
  /-- FREEZE (R621): A FREEZE write commits REC_FREEZE and stages all further records. -/
  | recFreeze (w : Word)
  /-- UNFREEZE (R623): An UNFREEZE write ends the freeze, commits the stage and writes REC_UNFREEZE. -/
  | recUnfreeze (w : Word)
  /-- CLRDROP (R633): A CLRDROP write sets MGT_RECDROP to 0. -/
  | clrdrop (w : Word)
  /-- AON_RTCSET (R625): A write of AON_RTCSET sets the wall time, clears RTC_INVALID and commits CLOCK_SET. -/
  | aonRtcset (w : Word)
  /-- TAMPER_SAMPLE (R627): At each SAMP period AON pulses TAMPOUT and samples the tamper inputs. -/
  | tamperSample (before pulse : BitVec 5)
  /-- WRITE (R637): Port opcode WRITE performs LEN writes at consecutive addresses. -/
  | portWrite (p : Port) (bytes : List Byte) (k : Nat)
  /-- READ (R637): Port opcode READ performs LEN reads at consecutive addresses. -/
  | portRead (p : Port) (bytes : List Byte) (k : Nat)
  /-- WRITE_FIXED (R637): Port opcode WRITE_FIXED performs LEN writes to one address. -/
  | portWriteFixed (p : Port) (bytes : List Byte) (k : Nat)
  /-- READ_FIXED (R637): Port opcode READ_FIXED performs LEN reads of one address. -/
  | portReadFixed (p : Port) (bytes : List Byte) (k : Nat)
  /-- CHIP_SELECT_RISE (R645): HCS_N or MCS_N rises and ends the transaction. -/
  | chipSelectRise (p : Port) (begun : Bool)
  /-- GTAGCLR (R648): A write of QF_GTAGCLR returns an INFLIGHT tag to FREE. -/
  | gtagclr (w : Word)
  /-- SUPPLY_MEASUREMENT (R76): Every 1 ms of device time PWR measures VMAIN, VFLD and VBAT and updates the measurement registers, VBATOK and the die temperature readings. -/
  | supplyMeasurement (vmain vfld vbat : Word) (fieldT ctrlT : BitVec 8)
  /-- CAN_ARBITRATION_WON (R534): A head entry with a pending cancel wins arbitration, and the controller answers TOO_LATE while the frame runs on to its end. -/
  | canArbitrationWon (n : Fin 3)
  /-- TEMPO_SWITCH_START (R38): Once the rest conditions hold, PWR sets STATE to SWITCHING and asserts QUIESCE. -/
  | tempoSwitchStart
  /-- TEMPO_PLL_LOCKED (R41): PLL lock restarts the scaled clocks, sets MODE and TEMPO, releases QUIESCE and completes the switch. -/
  | tempoPllLocked
  /-- DEFRES_CHECK_START (R56): Once VFLD is in range, MGT sends the pad declarations to the field die and starts the default-resistor check. -/
  | defresCheckStart
  /-- DEFRES_WAIT_VFLD (R56): After the check has waited 1 s for VFLD, MGT writes one DEFRES_WAIT_VFLD record. -/
  | defresWaitVfld
  /-- VMAIN_OUT_OF_RANGE (R78): VMAIN leaves its range, AON asserts RSTI, and the device moves to VAULT-WATCH or OFF. -/
  | vmainOutOfRange
  /-- VMAIN_PFAIL (R98): PFAIL asserts: PWR writes VMAIN_PFAIL, MGT ends any FREEZE and commits the staged records, and QREM is stored. -/
  | vmainPfail
  /-- PFAIL_CLEAR (R115): PFAIL releases without a reset and PWR writes PFAIL_CLEAR. -/
  | pfailClear
  /-- VFLD_OUT (R79): VFLD leaves its range: the field die opens every safety output and turns off the LE ports and pre-drivers, and VFLD_OK falls. -/
  | vfldOut
  /-- VFLD_BACK (R79): VFLD returns to range and the ports return to their modes within 5 ms. -/
  | vfldBack
  /-- VFLD_LOW (R115): The VFLD low warning asserts and is recorded. -/
  | vfldLow
  /-- HIBERNATE_ENTERED (R89): Power-down completes and only AON, PWR and the SFI input watch remain powered. -/
  | hibernateEntered
  /-- BATTERY_ACCOUNT_TICK (R103): Every 1 ms PWR integrates Ib into the charge account and updates QREM. -/
  | batteryAccountTick
  /-- MEASUREMENT_STALE (R102): No battery sample has arrived for 10 ms, and the measurement is marked stale. -/
  | measurementStale
  /-- QREM_STORE (R103): Once per second PWR stores QREM to the persistent array. -/
  | qremStore
  /-- FULL_CHARGE_DETECT (R104): The full-charge conditions have held for 60 s and PWR sets QREM to QCAP. -/
  | fullChargeDetect
  /-- MAINS_FILTER_EXPIRE (R101): The mains-sense level has held for DEB × 10 ms, and mains counts as lost or restored. -/
  | mainsFilterExpire
  /-- RESCUE_CAR_AT_REST (R107): In STOPPING, the REST line reports the car at rest and PWR enters ESTIMATING and posts its estimate requests. -/
  | rescueCarAtRest
  /-- RESCUE_ENERGY_CHECK (R110): Every 100 ms in MOVING, PWR repeats the energy check and abandons the move if it fails. -/
  | rescueEnergyCheck
  /-- RESCUE_VCUT_TIMEOUT (R110): Vavg has stayed below VCUT for 100 ms in MOVING, and PWR stops the car and enters ABANDONED. -/
  | rescueVcutTimeout
  /-- RESET_PIN (R119): RESET_N is held low for 10 µs or longer and the device enters reset with cause RESET_PIN. -/
  | resetPin
  /-- RESET_RELEASE (R120): RESET_N has been high for 1 ms with VMAIN in range, and AON releases PWR to step 2. -/
  | resetRelease
  /-- RESET_HOLD_ALERT (R121): The RESET_N hold passes 30 s and AON begins the 1 Hz pattern on AON_STAT. -/
  | resetHoldAlert
  /-- RAILS_GOOD (R83): The core rails reach 90 % and the PLLs lock, ending step 2. -/
  | railsGood
  /-- ARRAY_CHECK_DONE (R123): MGT's persistent-array self-check passes, the AON log is copied and the image load of step 4 begins. -/
  | arrayCheckDone
  /-- IMAGE_LOAD (R127): The loader verifies slot A, else slot B, and applies the header, pin section, tiles, parameters and overlay. -/
  | imageLoad
  /-- ISLAND_START (R123): At step 6 the islands leave RSTI, queues are built, and routes, lattice cells and figures are loaded. -/
  | islandStart
  /-- LEASE_ACQUISITION_TIMEOUT (R132): Step 8 ends after 30 ms without a lease decision, with LEASE SEEKING. -/
  | leaseAcquisitionTimeout
  /-- READY (R126): At step 9 PWR drives the READY pad high and enters RUN, and MGT writes the READY record. -/
  | startReady
  /-- START_TIMEOUT (R133): A start has neither reached READY nor blocked within 1 s, and AON restarts it with cause START_TIMEOUT. -/
  | startTimeout
  /-- ERASE_COMPLETE (R164): A slot erase ends and its change-log record is written. -/
  | eraseComplete
  /-- CLOSE (R163): Slot command CLOSE closes the write window and writes a change-log record. -/
  | slotClose
  /-- VERIFY_COMPLETE (R164): A VERIFY ends and its result is placed in VRES. -/
  | verifyComplete
  /-- COPY_AB (R164): Slot command COPY_AB begins verifying slot A in order to copy it over slot B. -/
  | slotCopyAb
  /-- COPY_AB_COMPLETE (R164): The verification and copy end, slot B is written only if slot A passed, and a change-log record is written. -/
  | copyAbComplete
  /-- ACCEPT (R166): Slot command ACCEPT begins verifying slot A for a structure reload. -/
  | slotAccept
  /-- ACCEPT_VERIFIED (R166): ACCEPT's verification ends and the reload starts, is deferred with REASON, or is refused. -/
  | acceptVerified
  /-- STRUCTURE_RELOAD_START (R168): The reload conditions hold and MGT writes the change-log record and IMAGE_ACCEPT, asserts RSTI and enters step 4. -/
  | structureReloadStart
  /-- CANCEL (R163): Slot command CANCEL withdraws a deferred ACCEPT. -/
  | slotCancel
  /-- OVL_CLEAR (R164): Slot command OVL_CLEAR begins erasing the parameter overlay. -/
  | ovlClear
  /-- OVL_CLEAR_COMPLETE (R164): The overlay erase ends and a change-log record is written. -/
  | ovlClearComplete
  /-- SLOTDATA_READ (R183): A read of MGT_SLOTDATA returns the window word at OFFSET and advances OFFSET. -/
  | slotdataRead
  /-- PASSWORD_DERIVATION_DONE (R175): An UNLOCK or SET derivation ends, unlocking on a match or incrementing FAILS and starting the wait on a mismatch. -/
  | passwordDerivationDone
  /-- UNLOCK_WAIT_EXPIRE (R175): The post-failure wait runs out and UNLOCK is accepted again. -/
  | unlockWaitExpire
  /-- LOCK (R176): Password command LOCK locks the session and writes a change-log record of kind 0x07. -/
  | passwordLock
  /-- CLEAR_BUFFER (R184): Password command CLEAR empties the password buffer. -/
  | clearBuffer
  /-- SESSION_IDLE_TIMEOUT (R176): 600 s pass without a management-port access and the unlocked session locks. -/
  | sessionIdleTimeout
  /-- LTAG_READ (R220): A read of QF_LTAG removes the oldest entry from the lost-tag FIFO. -/
  | ltagRead
  /-- FUSION_CYCLE (R229): At each fusion boundary MPI combines the sources into the interval, updates the state and posts the virtual-input and position items. -/
  | fusionCycle
  /-- LEARN (R243): Fusion command LEARN starts a learn run or is refused. -/
  | fusionLearn
  /-- HOME (R245): Fusion command HOME starts a home run or is refused. -/
  | fusionHome
  /-- FUSION_ABORT (R246): Fusion command ABORT ends a running learn or home run, or answers NOTHING_TO_ABORT. -/
  | fusionAbort
  /-- RUN_PHASE_END (R244): A learn or home run phase ends at a counted switch edge with the car at rest, advancing or ending the run. -/
  | runPhaseEnd
  /-- FPOS_READ (R251): A read of MPI_FPOS freezes the other fusion result registers on that cycle. -/
  | fposRead
  /-- RECOMPUTE (R374): At each recompute boundary SCH fetches items, updates cars, assigns calls, drives its car and posts its items. -/
  | recompute
  /-- RECOMPUTE_OVERRUN (R376): A recompute has not completed by the next boundary and is abandoned. -/
  | recomputeOverrun
  /-- GRANT_PERIOD (R401): Every GRANTPER ms the scheduler that holds a LIVE session posts a grant. -/
  | grantPeriod
  /-- SESSION_ITEM_TICK (R402): Every 100 ms a SESSION_CHECK scheduler reposts the session item to each door engine. -/
  | sessionItemTick
  /-- SCH_TAKEOVER (R403): On takeover SCH loads the epoch, ends the sessions, posts a resend request and enters RESYNC. -/
  | schTakeover
  /-- RESYNC_END (R403): The RESYNC stop has been departed and RESENDWAIT has passed, so RESYNC ends. -/
  | resyncEnd
  /-- LATTICE_RELOAD_START (R457): The deferral conditions clear and the lattice reload begins with every output open. -/
  | latticeReloadStart
  /-- LAT_RELOAD (R457): The lattice reload ends and the next pass is a FIRST pass. -/
  | latReload
  /-- ACK_STUCK (R495): ACK_IN has been closed for 3000 ms, and SFI sets STUCK and clears ARMED. -/
  | ackStuck
  /-- DEGTIME_EXPIRE (R498): DEGTIME passes after entry and MPI enters degraded lockout and asserts FLT5. -/
  | degtimeExpire
  /-- DEGOPEN_EXPIRE (R498): DEGOPEN passes after the internal move ends and MPI enters degraded lockout. -/
  | degopenExpire
  /-- SWITCH_TEST_START (R501): The deferral conditions clear and the requested switch test begins. -/
  | switchTestStart
  /-- TIME_REF_SEND (R542): At each RPER the master enters a reference message into its transmit queue. -/
  | timeRefSend
  /-- TIME_REF_RECEIVED (R544): A slave receives a reference message and, when it forms a pair, updates its anchor, rate and correction. -/
  | timeRefReceived
  /-- TIME_HOLDOVER_TIMEOUT (R545): No pair arrives for 3 × RPER ms in LOCKED and the service enters HOLDOVER. -/
  | timeHoldoverTimeout
  /-- TIME_UNSYNC_TIMEOUT (R545): No pair arrives for HOLDMS ms in HOLDOVER and the service enters UNSYNC. -/
  | timeUnsyncTimeout
  /-- NVI_POST_TICK (R569): At least every 1 ms the engine posts the network virtual-input item to SFI. -/
  | nviPostTick
  /-- LEASE_EXPIRY (R583): The held lease expires, and every output opens within 50 µs. -/
  | leaseExpiry
  /-- UNIT_REPORT_POST (R590): BUS posts its report at every change and at least every RENEWMS ms. -/
  | unitReportPost
  /-- LEASE_BUILD (R587): At each build the issuer builds lease frames that renew, withdraw or name a new holder. -/
  | leaseBuild
  /-- REF_GRANT (R588): The guard time has passed with a candidate and the issuer grants a new lease number. -/
  | refGrant
  /-- EPOCH_BEGIN (R592): The ACTIVE unit begins an epoch and requests contributions from SCH and SFI, then sends copy frames. -/
  | epochBegin
  /-- COPY_FRAME (R595): The STANDBY receives a copy frame and assembles the epoch, acknowledging it after the commit frame. -/
  | copyFrame
  /-- EPOCH_ACK (R592): An epoch acknowledgement reaches the ACTIVE unit. -/
  | epochAck
  /-- EPOCH_COMMIT (R596): MGT writes a completed epoch into the other buffer and writes its marker last. -/
  | epochCommit
  /-- LINK_FAULT (R598): No copy frame or acknowledgement arrives within LINKMS, and LINKOK falls. -/
  | linkFault
  /-- LINK_BACK (R598): LINKOK returns. -/
  | linkBack
  /-- RECORD_COMMIT (R614): MGT commits the oldest tap head with the next SEQ into the logs. -/
  | recordCommit
  /-- PERSIST_LANE_WRITE (R25): An island's RWK or persistent state write on its persistence lane is stored within 2 µs. -/
  | persistLaneWrite
  /-- DTMARK_STORE (R615): Every 1 s MGT stores DTMARK. -/
  | dtmarkStore
  /-- RTCSEC_READ (R635): A read of AON_RTCSEC latches AON_RTCFRAC. -/
  | rtcsecRead
  /-- WEARLO_READ (R634): A read of MGT_WEARLO latches MGT_WEARHI. -/
  | wearloRead
  /-- UART_GAP_TIMEOUT (R652): More than 10 ms passes between request bytes and the request is abandoned. -/
  | uartGapTimeout
  /-- FIELD_OVERTEMP (R678): The field die reaches 165 °C and shuts down the outputs, ports and pre-drivers. -/
  | fieldOvertemp
  /-- FIELD_TEMP_OK (R680): The field die falls to 145 °C and the shutdown ends. -/
  | fieldTempOk
  /-- AON_STAT_TOGGLE (R121): While a RESET_N hold beyond 30 s lasts, AON pulls AON_STAT low for 500 ms and releases it for 500 ms, repeating. -/
  | aonStatToggle
  /-- UART_BYTE_OVERLAP (R652): In UART mode a byte arrives while the response to the previous request is still being sent, so the device abandons the request, counts it in ERRORS and writes MPORT_ERROR of kind overlap. -/
  | uartByteOverlap
  deriving DecidableEq, Repr

end Sys2Proof
end

