-- ==== Sys2Proof/Machine/Arith.lean ====
section
/-! DEFINITION. Number formats: saturation (R9), rounding (R8), counters (R10) and the conversions between words and
exact integers. Meanings compute in `Int` and narrow at the end. -/

namespace Sys2Proof.Machine

/-- A word as a signed number (R7). -/
def sInt (w : Word) : Int := w.toInt

/-- The word that holds a number modulo 2^32. -/
def toWord (x : Int) : Word := BitVec.ofInt 32 x

/-- Keep `x` between `lo` and `hi`. -/
def clampInt (lo hi x : Int) : Int := if x < lo then lo else if hi < x then hi else x

/-- Saturate to signed 32 bits (R9). -/
def sat32 (x : Int) : Int := clampInt (-2147483648) 2147483647 x

/-- Saturate to signed 64 bits (R9). -/
def sat64 (x : Int) : Int := clampInt (-9223372036854775808) 9223372036854775807 x

/-- Saturate to unsigned 32 bits (R9). -/
def satU32 (x : Int) : Int := clampInt 0 4294967295 x

/-- The signed word nearest to `x` (R9). -/
def satWord (x : Int) : Word := toWord (sat32 x)

/-- The unsigned word nearest to `x` (R9). -/
def satWordU (x : Int) : Word := toWord (satU32 x)

/-- Quotient rounded to nearest, ties away from zero (R8); 0 for a zero divisor. -/
def rnDiv (a b : Int) : Int :=
  let n := if b < 0 then -a else a
  let d := b.natAbs
  if d = 0 then 0
  else if n < 0 then -(((2 * n.natAbs + d) / (2 * d) : Nat) : Int) else (((2 * n.natAbs + d) / (2 * d) : Nat) : Int)

/-- Quotient rounded up, away from minus infinity; 0 for a zero divisor. -/
def upDiv (a b : Int) : Int := if b = 0 then 0 else -((-a) / b)

/-- Quotient rounded down; 0 for a zero divisor. -/
def downDiv (a b : Int) : Int := if b = 0 then 0 else a / b

/-- µs as ms, rounded to nearest (R8). -/
def msOf (us : Nat) : Nat := (us + 500) / 1000

/-- Sign: -1, 0 or 1. -/
def sgn (x : Int) : Int := if x < 0 then -1 else if x = 0 then 0 else 1

/-- Absolute value. -/
def absInt (x : Int) : Int := (x.natAbs : Int)

/-- Largest `r` with `r * r ≤ n`, found bit by bit from bit `k - 1` down. -/
def isqrtFrom (n : Nat) : Nat → Nat → Nat
  | 0, r => r
  | k + 1, r => if (r + 2 ^ k) * (r + 2 ^ k) ≤ n then isqrtFrom n k (r + 2 ^ k) else isqrtFrom n k r

/-- Integer square root, rounded down, of numbers below 2^160. -/
def isqrt (n : Nat) : Nat := isqrtFrom n 80 0

/-- Integer square root rounded to nearest (R8). -/
def rnSqrt (n : Nat) : Nat :=
  let r := isqrt n
  if r * r + r < n then r + 1 else r

/-- Count one more, saturating at all ones (R10). -/
def satInc {n : Nat} (c : BitVec n) : BitVec n := if c = BitVec.allOnes n then c else c + 1

/-- Count `k` more, saturating at all ones (R10). -/
def satAdd {n : Nat} (c : BitVec n) (k : Nat) : BitVec n :=
  if 2 ^ n ≤ c.toNat + k then BitVec.allOnes n else BitVec.ofNat n (c.toNat + k)

/-- The signed 32-bit difference of two words. -/
def sDiff (a b : Word) : Int := (a - b).toInt

/-- One bit of a word as a number. -/
def bit (b : Bool) : Nat := if b then 1 else 0

/-- Bit `k` of a number. -/
def testBit (w : Nat) (k : Nat) : Bool := w / 2 ^ k % 2 == 1

/-- The low 32 bits of a device time. -/
def lowWord (t : Nat) : Word := BitVec.ofNat 32 t

/-- The device time nearest `now` whose low `bits` bits are `x` (R563, R226). -/
def extendNear (bits : Nat) (now x : Nat) : Nat :=
  let m := 2 ^ bits
  let d := (x + m - now % m) % m
  if d < m / 2 then now + d else now + d - m

end Sys2Proof.Machine
end

