-- ==== Sys2Proof/Machine/State.lean ====
section
/-! DEFINITION. What the device holds: every register group, FIFO, buffer, counter, mode and pin the spec gives it,
as plain data, and the machine right after reset. The registers that hold what is written to them stand in one
table, `State.regs`; every other register is a view of these fields (`Machine/Views.lean`). -/

namespace Sys2Proof.Machine

/-! ### Named states, with the codes the registers show in `Machine/Codes.lean` -/

/-- STATE of SYS_TEMPOSTAT (R37). -/
inductive TempoStat where
  | idle | deferred | switching | done | refused
  deriving DecidableEq, Repr

/-- STATE of MGT_DRCSTAT (R63). -/
inductive DrcStat where
  | notRun | running | pass | fail | probeError | waitingVfld
  deriving DecidableEq, Repr

/-- Resistor class of a pad (R58, R65). -/
inductive PadClass where
  | pulldown | pullup | none | outOfBand | notChecked
  deriving DecidableEq, Repr

/-- Power states (R87); `starting` is a start on its way to READY. -/
inductive PowerState where
  | starting | run | hibernate | vaultWatch | off
  deriving DecidableEq, Repr

/-- STATE of PWR_STATE (R94). -/
inductive HibState where
  | run | entering | refused
  deriving DecidableEq, Repr

/-- States of the rescue sequence (R107). -/
inductive RescueState where
  | idle | confirming | stopping | estimating | moving | doors | done | hold | abandoned | disabled
  deriving DecidableEq, Repr

/-- Reset causes (R116). -/
inductive ResetCause where
  | powerOn | resetPin | mgmtRequest | structureReload | wake | startTimeout
  deriving DecidableEq, Repr

/-- What an output pad does (R51, R126). -/
inductive PadDrive where
  | highZ | low | high
  deriving DecidableEq, Repr

/-- Roles (R1, R136). -/
inductive Role where
  | cartop | machine | group | machineGroup | vaultstn | referee
  deriving DecidableEq, Repr

/-- STATE of MGT_LDSTAT (R181). -/
inductive LoaderStat where
  | idle | busy | done | refused | deferred
  deriving DecidableEq, Repr

/-- Slot commands that take time, and an ACCEPT that has verified and waits for its conditions (R164, R166). -/
inductive SlotOp where
  | erase | verify | copyAB | accept | ovlClear | deferred
  deriving DecidableEq, Repr

/-- Fusion states (R233). -/
inductive FusionState where
  | off | unknown | tracking | degraded | invalid
  deriving DecidableEq, Repr

/-- Fusion runs (R250). -/
inductive RunKind where
  | none | learn | home
  deriving DecidableEq, Repr

/-- STATE of a planner (R294). -/
inductive PlannerState where
  | idle | running | stopping | dwell | arriving | locked
  deriving DecidableEq, Repr

/-- BRSTATE of a motor bridge (R315). -/
inductive BridgeState where
  | idle | align | run | fault
  deriving DecidableEq, Repr

/-- Door states (R344). -/
inductive DoorState where
  | unhomed | homing | closed | opening | open_ | closing | reversing | nudging | stopped | learning
  deriving DecidableEq, Repr

/-- Context states (R386); a FREE context is an absent one. -/
inductive CtxState where
  | registered | assigned | committed | serving | live
  deriving DecidableEq, Repr

/-- Context kinds (R409). -/
inductive CtxKind where
  | hallUp | hallDn | car | session
  deriving DecidableEq, Repr

/-- DRIVE of the scheduler (R407). -/
inductive DriveState where
  | out | idle | moving | atFloor
  deriving DecidableEq, Repr

/-- STATE of the scheduler (R407). -/
inductive SchedState where
  | off | running | resync | standby
  deriving DecidableEq, Repr

/-- States of a figure engine (R414). -/
inductive FigState where
  | idle | running | waiting | aborting | fault
  deriving DecidableEq, Repr

/-- STATE of the lattice (R478). -/
inductive LatState where
  | off | started | running | fault | reloading | deferred
  deriving DecidableEq, Repr

/-- STATE of the time service (R545). -/
inductive TimeState where
  | off | unsync | acquiring | locked | holdover | master
  deriving DecidableEq, Repr

/-- How a consumer port's last read ended (R195, R208): a word with its POISON tag, none staged, or TIMEOUT. -/
inductive PortRead where
  | word (w : Word) (poison : Bool)
  | nothing
  | timeout
  deriving DecidableEq, Repr

/-! ### Islands, tempo, field ports (chapters 01 and 02) -/

/-- The tempo switch of R36 to R41: MODE of SYS_TEMPO, SYS_TEMPOSTAT and the request behind them. -/
structure Tempo where
  mode     : BitVec 2
  stat     : TempoStat
  reason   : BitVec 8
  switches : BitVec 16
  /-- The target a deferred or running switch goes to (R39). -/
  pendingTarget : BitVec 2
  quiesce  : Bool
  /-- The islands whose QACK has been seen (R41). -/
  qack     : List Island
  deriving DecidableEq, Repr

/-- One pad's result of the resistor check (R58, R65, R66). -/
structure PadResult where
  checked  : Bool
  declared : PadClass
  measured : PadClass
  voc      : Int
  dh       : Int
  dl       : Int
  deriving DecidableEq, Repr

/-- The resistor check of R56 to R66. -/
structure DefRes where
  stat      : DrcStat
  firstPad  : BitVec 9
  fails     : BitVec 8
  results   : Tbl PadResult
  /-- Set once the wait for VFLD has been recorded (R56). -/
  waitNoted : Bool
  deriving DecidableEq, Repr

/-- One LE port's status (R67, R73). -/
structure LePort where
  fault   : Bool
  acting  : Bool
  deriving DecidableEq, Repr

/-- The field die: LE ports, temperature shutdown, what its switches are told (R67, R74, R79, R678). -/
structure Field where
  ports    : Tbl LePort
  /-- SO_OVC, one bit per output (R74). -/
  overcurrent : BitVec 6
  shutdown : Bool
  deriving DecidableEq, Repr

/-! ### Power (chapter 03) and the temperatures of chapter 20 -/

/-- The supplies as the comparators and the 1 ms measurement see them (R76, R96, R97). -/
structure Supplies where
  vmainOk    : Bool
  vfldOk     : Bool
  pfail      : Bool
  vbatAbsent : Bool
  vbatOk     : Bool
  vbatLowSeen : Bool
  vfldLowSeen : Bool
  vfldLost   : Bool
  /-- PFAIL changes that wait for a tempo switch to end, oldest first (R41). -/
  pfailHeld  : List Bool
  vmainMv    : BitVec 32
  vfldMv     : BitVec 32
  vbatMv     : BitVec 32
  /-- FIELDT and CTRLT of PWR_TEMP in °C (R679). -/
  fieldT     : BitVec 8
  ctrlT      : BitVec 8
  deriving DecidableEq, Repr

/-- One estimate reply as PWR keeps it (R105, R109, R285). -/
structure Estimate where
  status : BitVec 4
  landing : BitVec 8
  tmove  : BitVec 32
  emove  : BitVec 32
  target : BitVec 32
  deriving DecidableEq, Repr

/-- The rescue sequence and its energy account (R100 to R114). -/
structure Rescue where
  stat    : RescueState
  reason  : BitVec 4
  dirUp   : Bool
  count   : BitVec 16
  eavail  : BitVec 32
  ereq    : BitVec 32
  vmin    : BitVec 32
  vbs     : List (BitVec 32)
  ibs     : List (BitVec 32)
  stale   : Bool
  /-- The unit has become ACTIVE with mains lost and restarts at ESTIMATING once at rest (R100). -/
  restart : Bool
  /-- The charge account in µC (R103). -/
  charge  : Int
  senseOn : Bool
  filterRunning : Bool
  mainsOn : Bool
  up      : Option Estimate
  down    : Option Estimate
  chosen  : Option Estimate
  deriving DecidableEq, Repr

/-- The PWR island beside its rescue sequence. -/
structure Power where
  state     : PowerState
  hib       : HibState
  hibReason : BitVec 4
  wakeSrc   : BitVec 4
  /-- The source whose wake start is under way; WAKESRC takes it at READY (R91). -/
  wakeNext  : BitVec 4
  /-- The active level of the wake input of source 5 in the image left at HIBERNATE, none without one (R148). -/
  wakePin   : Option Bool
  /-- The LE ports left in CONTACT_SOURCE at HIBERNATE, which stay powered through it (R87). -/
  watchPorts : BitVec 32
  gate      : BitVec 13
  /-- Rail failures of this start: none, retried once, or held at step 2 (R83). -/
  railFails : Nat
  deriving DecidableEq, Repr

/-! ### Reset and start-up (chapter 04) -/

/-- The start as SYS_STAT, SYS_BOOT, SYS_RSTCAUSE and SYS_STARTUS show it (R116, R123, R136 to R138). -/
structure Start where
  phase    : BitVec 4
  block    : BitVec 4
  ready    : Bool
  cause    : ResetCause
  entry    : BitVec 4
  failA    : BitVec 4
  failB    : BitVec 4
  fallback : Bool
  slot     : BitVec 2
  startUs  : BitVec 32
  /-- Running time in µs since the entry step, which SYS_STARTUS takes at READY. -/
  elapsed  : Nat
  readyPad : PadDrive
  /-- The islands whose RSTI is asserted (R20). -/
  rsti     : List Island
  deriving DecidableEq, Repr

/-! ### The Glaun image, the slots and the management session (chapter 05) -/

/-- A PINMUX record (R147). -/
structure PinRec where
  pad  : Nat
  func : BitVec 8
  decl : BitVec 8
  arg  : BitVec 32
  deriving DecidableEq, Repr

/-- A TILES record (R150). -/
structure TileRec where
  kind  : BitVec 8
  index : Nat
  arg   : BitVec 32
  deriving DecidableEq, Repr

/-- A ROUTES record (R152). -/
structure RouteRec where
  queue    : Nat
  capacity : Nat
  producer : BitVec 16
  consumer : BitVec 16
  flag     : Bool
  cmdq     : Bool
  timeout  : Nat
  deriving DecidableEq, Repr

/-- An EXPOSE record (R157). -/
structure ExposeRec where
  addr  : Nat
  count : Nat
  read  : Bool
  write : Bool
  deriving DecidableEq, Repr

/-- The image in force, as the loader has taken it in at step 4 (R142 to R161). -/
structure Image where
  role      : Role
  tempo     : BitVec 2
  permit    : BitVec 3
  redundant : Bool
  nodeId    : BitVec 32
  setId     : BitVec 32
  crc       : BitVec 32
  pins      : List PinRec
  tiles     : List TileRec
  routes    : List RouteRec
  lattice   : List (List (BitVec 32))
  params    : List (Nat × BitVec 32)
  expose    : List ExposeRec
  figures   : List (Nat × List (BitVec 32))
  deriving DecidableEq, Repr

/-- The slot commands and their write window (R163 to R168, R181 to R183). -/
structure Loader where
  stat    : LoaderStat
  reason  : BitVec 4
  vres    : BitVec 4
  /-- The slot command that runs or is deferred, with its slot (false A, true B). -/
  op      : Option (SlotOp × Bool)
  window  : Option Bool
  /-- OFFSET of MGT_SLOTADDR, in words. -/
  offset  : Nat
  written : BitVec 32
  skipped : Bool
  deriving DecidableEq, Repr

/-- The management session: password buffer, derivation, lock and key words (R173 to R177, R184, R685). -/
structure Session where
  buffer   : List (BitVec 32)
  derivation : Option (Bool × List (BitVec 8))
  unlocked : Bool
  result   : BitVec 4
  /-- µs until UNLOCK is accepted again (R175). -/
  wait     : Nat
  keyWords : List (BitVec 32)
  keyCount : Nat
  deriving DecidableEq, Repr

/-- One change-log record (R179), as its 32 bytes. -/
abbrev LogBytes := List (BitVec 8)


/-! ### Queue fabric (chapter 06) -/

/-- An item in the pool: the place of its first word in the queue's word stream, its words, the order in which its end marker
was written over the whole fabric and when (R189, R197). A word's parity bit is the one R191 chose unless the word's index stands
in `flaws`. -/
structure PoolItem where
  start : Nat
  words : List (BitVec 32)
  endSeq : Nat
  at_   : Nat
  flaws : List Nat
  deriving DecidableEq, Repr

/-- One built queue (R187 to R219). Word place `k` of the queue's stream lies in the `k / 8`-th cell it has taken. -/
structure Queue where
  route     : RouteRec
  items     : List PoolItem
  /-- The producer's open item, whose end marker has not arrived (R189). -/
  opened    : Option PoolItem
  /-- Word places used since the queue was built; the next word goes to this place. -/
  wcnt      : Nat
  /-- WCNT of R192: words the producer port has sent since the queue was built, dropped ones among them. -/
  sent      : Nat
  /-- Set while words up to the next start marker are dropped (R211). -/
  skipping  : Bool
  lost      : BitVec 32
  flushDrop : BitVec 32
  lossNotedAt : Option Nat
  broken    : Bool
  underrun  : Bool
  poison    : Bool
  last      : Bool
  lastWord  : BitVec 32
  wlen      : Nat
  /-- Words still to come of the host item in progress, 0 between items (R215). -/
  hostLeft  : Nat
  deriving DecidableEq, Repr

/-- An item in a consumer stage: its queue, its words with their POISON tags, how many have been read, and the device time at
which it was staged (R194, R205). -/
structure StageItem where
  queue : Nat
  words : List (BitVec 32 × Bool)
  read  : Nat
  at_   : Nat
  deriving DecidableEq, Repr

/-- The queue fabric. -/
structure Fabric where
  queues  : Tbl (Option Queue)
  /-- Consumer stages by port; a host queue `n` has the port `hostPort n` (R196). -/
  stages  : Tbl (List StageItem)
  /-- Device time at which a port's stage was last full (R194). -/
  fullAt  : Tbl Nat
  /-- QF's block is quarantined: no word is stored and no item moves (R488). -/
  stopped : Bool
  /-- Ports at which a STALL read waits (R208). -/
  waiting : List Nat
  /-- The last word a consumer port's read delivered and whether it ended TIMEOUT (R195, R208). -/
  lastRead : Tbl PortRead
  wordErr : BitVec 16
  metaErr : BitVec 16
  ltags   : List (Nat × BitVec 8)
  overflow : BitVec 16
  endSeq  : Nat
  deriving DecidableEq, Repr

/-! ### Position fusion (chapter 07) -/

/-- A source's standing in fusion (R232, R250). -/
structure SourceStat where
  status   : BitVec 3
  lost     : Bool
  excluded : Nat
  absent   : Nat
  deriving DecidableEq, Repr

/-- An accepted vane edge (R225): pair, on the vane or off it, edge time and channel difference. -/
structure VaneEdge where
  pair : Nat
  on   : Bool
  te   : Nat
  d    : Nat
  deriving DecidableEq, Repr

/-- One vane pair (R225). -/
structure VanePair where
  levelA : Bool
  levelB : Bool
  /-- The channel that has changed while its partner has not yet followed: true for A, with its time. -/
  pend   : Option (Bool × Nat)
  misses : Nat
  lost   : Bool
  deriving DecidableEq, Repr

/-- One terminal switch (R242). -/
structure TermSwitch where
  level   : Bool
  pending : Option (Bool × Nat)
  changes : List Nat
  chatter : Bool
  burst   : Bool
  deriving DecidableEq, Repr

/-- A landing found in a learn run, with the pair whose edges it holds (R244). -/
structure Found where
  pair : Nat
  lo : Option Int
  hi : Option Int
  deriving DecidableEq, Repr

/-- The learn or home run (R243 to R246, R252). -/
structure FusionRun where
  run    : RunKind
  phase  : BitVec 4
  result : BitVec 4
  found  : BitVec 8
  list   : List Found
  /-- The first counted edge of the phase has been taken, and the time of that edge. -/
  edge   : Option Nat
  p      : Option Int
  /-- `p` is the reader's centre at the edge time (R244, R245). -/
  read   : Bool
  ntsup  : Option Int
  waited : Nat
  deriving DecidableEq, Repr

/-- A quadrature pad set (R223). -/
structure Quad where
  a     : Bool
  b     : Bool
  count : BitVec 32
  deriving DecidableEq, Repr

/-- A reader sample: capture time and code as read (R224, R226). -/
structure ReaderSample where
  tc   : Nat
  code : BitVec 32
  deriving DecidableEq, Repr

/-- The six result registers of one cycle (R251). -/
structure FusionResult where
  pos   : BitVec 32
  bound : BitVec 32
  plo   : BitVec 32
  phi   : BitVec 32
  vel   : BitVec 32
  cycle : BitVec 32
  deriving DecidableEq, Repr

/-- The fusion engine. -/
structure Fusion where
  stat    : FusionState
  cfg     : BitVec 32
  interval : Option (Int × Int)
  v       : Int
  /-- The last nonzero sign of V is upward (R230). -/
  lastUp  : Bool
  res     : FusionResult
  frozen  : Option FusionResult
  pvi     : BitVec 16
  enc     : SourceStat
  ssi     : SourceStat
  vane    : SourceStat
  disagree : Bool
  disagreeRun : Nat
  tabOk   : Bool
  quads   : Tbl Quad
  prevCount : Option (BitVec 32)
  /-- The extrapolation term of Eh(k-1), for a queued encoder present in cycle k-1 (R229). -/
  prevEh  : Option Int
  prevPs  : Option (Int × Nat)
  encItem : Option (BitVec 32 × Nat)
  sample  : Option ReaderSample
  pairs   : Tbl VanePair
  edges   : List VaneEdge
  /-- Pairs with a discrepancy in this cycle (R226). -/
  discs   : BitVec 4
  unmatchedAt : Option Nat
  switches : Tbl TermSwitch
  runState : FusionRun
  /-- The parameters used between cycles, as they stood at the last cycle boundary, keyed by byte address (R248). -/
  parms    : Tbl (BitVec 32)
  /-- Entry of degraded mode, the end of its internal move, DSTATE and DEGEXP (R498, R511). -/
  degAt    : Option Nat
  degOpenAt : Option Nat
  degStat  : BitVec 2
  degExp   : Bool
  deriving DecidableEq, Repr

/-! ### Motion planners (chapter 08) -/

/-- A move command as a planner holds it (R260). -/
structure Move where
  tag    : BitVec 8
  kind   : BitVec 4
  blend  : Bool
  revok  : Bool
  quick  : Bool
  table  : Nat
  /-- Word 1, with a RELATIVE distance already made a target (R261). -/
  arg    : Int
  vmax   : BitVec 32
  amax   : BitVec 32
  dmax   : BitVec 32
  jmax   : BitVec 32
  id     : BitVec 32
  /-- Posted by the fusion engine for a learn or home run; skips check 3 (R263). -/
  fusion : Bool
  deriving DecidableEq, Repr

/-- A kinematic state: raw position in 2^-16 LSB, velocity, acceleration (R265). -/
structure Kin where
  pos : Int
  vel : Int
  acc : Int
  deriving DecidableEq, Repr

/-- A piece of constant jerk; `endVel` is set where the velocity is made exact at its end (R266, R267). -/
structure Piece where
  jerk   : Int
  dur    : Nat
  endVel : Option Int
  /-- The exact position in LSB at which the piece ends a stop (R269). -/
  endPos : Option Int := none
  deriving DecidableEq, Repr

/-- What happens when a plan has run out (R268, R269, R270). -/
inductive PlanEnd where
  | arrive (target : Int)
  | replan (target : Int)
  | dwell (target : Int)
  | behind (target : Int)
  | stopped (status : BitVec 8)
  | superseded
  deriving DecidableEq, Repr

/-- How the reference moves at present. -/
inductive Motion where
  | rest
  /-- A planned move: the state at the head piece's start, the time run in it, the µs until its final velocity
  change begins, the pieces left. -/
  | plan (start : Kin) (tau : Nat) (pre : Int) (pieces : List Piece) (fin : PlanEnd)
  /-- A velocity move with the limits it was planned with: AMAX, DMAX and JMAX in force (R272, R292). -/
  | velocity (target a d j : Int)
  | table (base : Int) (tau : Nat) (number : Nat)
  /-- The REVDWELL wait (R270). -/
  | dwell (target : Int)
  /-- Reference at its target, waiting for the interval (R280). -/
  | arriving (target : Int)
  deriving DecidableEq, Repr

/-- One planner. -/
structure Planner where
  running : Option Move
  held    : List Move
  motion  : Motion
  kin     : Kin
  /-- Words 0 to 5 of the last reference (R259). -/
  refWords : List (BitVec 32)
  stat    : PlannerState
  last    : BitVec 8
  moves   : BitVec 32
  corr    : BitVec 32
  arrived : Bool
  stalled : Bool
  degLock : Bool
  pwrLock : Bool
  sync    : Bool
  eorg    : Int
  devRun  : Nat
  degLimit : Bool
  /-- The fusion state the planner last acted on (R281, R282). -/
  seenFusion : FusionState
  standing : Bool
  /-- F of the last reference, the pulses emitted in the cycle that runs, PD_DIR (true upward), the pulses carried (R283). -/
  pdLast  : Int
  pdOut   : Int
  pdUp    : Bool
  pdCarry : Int
  refusedAt : Option Nat
  deriving DecidableEq, Repr

/-! ### Loop engines and motor engines (chapter 09) -/

/-- One slot's runtime state (R303, R306, R308, R330). -/
structure Slot where
  sp    : Int
  d     : Int
  mprev : Int
  i     : Int
  p     : Int
  dterm : Int
  f     : Int
  u     : Int
  v     : Int
  m     : Int
  /-- The slot has not run since RUN entry, reset or RESETI (R306). -/
  fresh : Bool
  deriving DecidableEq, Repr

/-- A reference item a consumer holds: its cycle number and words 1 to 5 (R259, R302). -/
structure RefItem where
  k     : BitVec 32
  pos   : BitVec 32
  vel   : BitVec 32
  acc   : BitVec 32
  stop  : BitVec 32
  flags : BitVec 32
  deriving DecidableEq, Repr

/-- One loop engine (R299 to R314). -/
structure Loop where
  /-- Working copies, keyed by the register's byte address (R312). -/
  copies    : Tbl (BitVec 32)
  held      : Bool
  dirDown   : Bool
  out       : Int
  win       : BitVec 3
  limited   : Bool
  miss      : Bool
  fault     : Bool
  run       : BitVec 8
  missCount : BitVec 32
  n         : BitVec 32
  slots     : Tbl Slot
  resetI    : Bool
  /-- Set until the first sample after RUN entry or reset has taken dir, sp and d afresh (R303, R306). -/
  fresh     : Bool
  refItem   : Option RefItem
  aux       : Option (List (BitVec 32 × Bool))
  auxAge    : Nat
  deriving DecidableEq, Repr

/-- What the gates of a bridge do (R315, R317, R318). -/
inductive Gates where
  | low
  | duty (a b c d : Int)
  deriving DecidableEq, Repr

/-- One motor engine (R315 to R324). -/
structure Motor where
  bridge  : BridgeState
  aligned : Bool
  calst   : BitVec 2
  /-- The start's calibration (R130, R131): 0 none or passed, 1 its first run, 2 its repeat, 3 failed twice. -/
  startCal : BitVec 2
  oc      : Bool
  gduv    : Bool
  extf    : Bool
  adcf    : Bool
  dclow   : Bool
  /-- Causes still present, which CLRFLT waits for (R315). -/
  gduvNow : Bool
  extfNow : Bool
  ocNow   : Bool
  angofs  : BitVec 16
  theta   : BitVec 16
  jd      : Int
  jq      : Int
  idm     : Int
  iqm     : Int
  vd      : Int
  vq      : Int
  iqd     : Int
  gates   : Gates
  iofs    : Tbl Int
  icur    : Tbl Int
  vdc     : Int
  twohm   : BitVec 32
  fborg   : Int
  fbpos   : Int
  vel     : Int
  /-- Quadrature count at the last speed boundary (R320). -/
  speedCount : BitVec 32
  iqs     : List Int
  up      : Int
  un      : Int
  iscale  : Nat
  refAt   : Nat
  deriving DecidableEq, Repr

/-! ### Door function (chapter 10) -/

/-- A command a door is carrying out (R345, R347). -/
structure DoorJob where
  tag : BitVec 8
  id  : BitVec 32
  deriving DecidableEq, Repr

/-- The move of a door that its planner has not yet ended: to TRAVEL, to 0, short of TRAVEL, a home run's, a learn
run's. -/
inductive DoorGoal where
  | none | travel | close | short | home | learn
  deriving DecidableEq, Repr

/-- The sums of a learn run (R363). -/
structure LearnSums where
  na : Nat
  nc : Nat
  sf : Int
  sv : Int
  sa : Int
  sc : Int
  tm : Int
  deriving DecidableEq, Repr

/-- The door function of one motor engine (R334 to R370). -/
structure Door where
  stat     : DoorState
  homed    : Bool
  learned  : Bool
  stale    : Bool
  chatter  : Bool
  burst    : Bool
  homeChatter : Bool
  lastEv   : BitVec 8
  detail   : BitVec 8
  edge     : Bool
  curtain  : Bool
  closeLim : Bool
  coupled  : Bool
  permit   : Bool
  /-- A CLOSELIM level that has not yet held for 5 ms (R343). -/
  closePend : Option Bool
  changes  : List Nat
  sessLive : Bool
  sessStation : BitVec 8
  sessExpiry  : BitVec 32
  sessAt   : Option Nat
  session  : Bool
  /-- Accepted commands without their ending event, oldest first. -/
  jobs     : List DoorJob
  /-- EVENT and DETAIL that end the door once the planner reports the quick stop done (R347, R350). -/
  stopping : Option (BitVec 8 × BitVec 8)
  goal     : DoorGoal
  /-- Moves the door has replaced whose ends the planner has still to report. -/
  oldMoves : Nat
  /-- The planner has reported the move to 0 COMPLETED and the close conditions are awaited (R349). -/
  completed : Bool
  acc      : Int
  velp     : Int
  fobs     : Int
  ekin     : Int
  vadm     : Int
  flimNow  : Int
  muse     : Int
  obsRun   : Nat
  openRun  : Nat
  ekRun    : Nat
  obsPos   : Int
  revCount : BitVec 32
  stall    : List (Int × Int)
  phase    : BitVec 4
  sums     : LearnSums
  /-- MCm_DINMAP as it stood at island start (R368). -/
  map      : BitVec 32
  deriving DecidableEq, Repr

/-! ### Stop scheduler (chapter 11) -/

/-- A call context (R386, R409). -/
structure Ctx where
  stat    : CtxState
  kind    : CtxKind
  floor   : Nat
  car     : Option Nat
  tag     : BitVec 8
  source  : BitVec 16
  station : Nat
  token   : BitVec 64
  time    : Nat
  /-- Registration order, oldest first (R391). -/
  order   : Nat
  life    : Nat
  expiry  : Nat
  cost    : BitVec 32
  tts     : BitVec 32
  moves   : BitVec 8
  phase   : Nat
  /-- The car that held it before it lost it, for REASSIGNED and WITHDRAW (R391, R406). -/
  oldCar  : Option Nat
  /-- The group's context index, on a car that holds it by assignment (R392). -/
  group   : Option (BitVec 32)
  /-- An ended session that still stands at its station until the car departs (R400). -/
  ended   : Bool
  /-- Given back to its car by a refused WITHDRAW since the last recompute, so that no REORDERED shows (R392). -/
  restored : Bool := false
  deriving DecidableEq, Repr

/-- A car as the scheduler sees it: its 16 status words and how many recomputes they have not advanced (R380, R381). -/
structure CarView where
  words : List (BitVec 32)
  age   : Nat
  /-- A status item has been staged. -/
  seen  : Bool
  /-- The car has been recorded as out by its status (R412). -/
  outNoted : Bool
  deriving DecidableEq, Repr

/-- The drive state of car OWNCAR (R395). -/
structure Drive where
  stat   : DriveState
  tgt    : Option Nat
  blend  : Option Nat
  /-- The move IDs of the last move posted and of the last BLEND posted, none before the first (R395). -/
  moveId : Option (BitVec 32)
  blendId : Option (BitVec 32)
  counter : BitVec 31
  dirUp  : Option Bool
  doorRem : BitVec 32
  /-- The floor the car stands at while ATFLOOR. -/
  at_    : Option Nat
  /-- Departure direction while ATFLOOR (R396). -/
  depart : Option Bool
  /-- Words of the newest fusion item (R381). -/
  fusion : Option (List (BitVec 32))
  refusedWithdraw : Option (BitVec 10)
  deriving DecidableEq, Repr

/-- A session grant as a SESSION_CHECK scheduler keeps it (R402). -/
structure Grant where
  live   : Bool
  remain : BitVec 32
  at_    : Nat
  deriving DecidableEq, Repr

/-- The scheduler. -/
structure Sched where
  stat    : SchedState
  ctxs    : Tbl (Option Ctx)
  cars    : Tbl CarView
  drive   : Drive
  service : Bool
  run     : BitVec 8
  miss    : Bool
  fault   : Bool
  missCount : BitVec 32
  ignored : BitVec 4
  count   : BitVec 32
  unserved : Nat
  nextOrder : Nat
  grants  : Tbl (Option Grant)
  grantCount : BitVec 16
  resends : BitVec 16
  resyncStop : Option Nat
  resyncLeft : Bool
  fullAt  : Option Nat
  /-- The epoch's contribution: the contexts and the SCHCAR words as of the last completed recompute (R405, R593). -/
  snapCtxs : Tbl (Option Ctx)
  snapCar : Option (List (BitVec 32))
  deriving DecidableEq, Repr

/-! ### Figure engines (chapter 12) -/

/-- A figure timer (R424): STOPPED, RUNNING until a device time, or EXPIRED. -/
inductive FigTimer where
  | stopped
  | running (until_ : Nat)
  | expired
  deriving DecidableEq, Repr

/-- What a WAITING engine waits in: the step at PC (R414, R422, R427, R429). -/
inductive FigWait where
  | none
  | wait
  | recv
  | reg
  deriving DecidableEq, Repr

/-- One figure engine (R413 to R442). -/
structure Figure where
  stat   : FigState
  pc     : BitVec 12
  stack  : List (BitVec 12)
  regs   : Tbl (BitVec 32)
  timers : Tbl FigTimer
  flags  : BitVec 8
  steps  : BitVec 32
  since  : Nat
  result : BitVec 3
  cause  : BitVec 4
  endst  : BitVec 8
  waiting : FigWait
  /-- Register replies still owed by each island to a cancelled access; they are discarded (R439). -/
  stale  : Tbl Nat
  store  : Tbl (BitVec 32)
  deriving DecidableEq, Repr

/-- SEQ: its engines and the lines they share (R434, R443). Output line `n` is driven once OUTL has named it. -/
structure Seqr where
  figs    : Tbl Figure
  outLvl  : BitVec 64
  outDriven : BitVec 64
  /-- The engine that last drove a line, so that its FAULT releases the line (R435). -/
  outOwner : Tbl (Option Nat)
  inLvl   : BitVec 64
  deriving DecidableEq, Repr

/-! ### Interlock lattice and safety I/O (chapter 13) -/

/-- A lattice cell as its four words (R447). -/
structure Cell where
  w0 : BitVec 32
  w1 : BitVec 32
  w2 : BitVec 32
  w3 : BitVec 32
  deriving DecidableEq, Repr

/-- One channel's memory of the lattice (R453, R454): cell words, cell outputs, fp, and the timers. -/
structure Channel where
  cells  : Tbl Cell
  out    : Tbl Bool
  fp     : Tbl Bool
  /-- Timer: running mark and E. -/
  timers : Tbl (Bool × BitVec 28)
  deriving DecidableEq, Repr

/-- One dual-contact safety input (R459 to R463, R481). -/
structure SafetyIn where
  a       : Bool
  b       : Bool
  disc    : Bool
  shortA  : Bool
  shortB  : Bool
  /-- The OFF pattern must still be shown after a clearance (R462). -/
  offOwed : Bool
  pending : Option Nat
  /-- The contact that changed first into the mixed state: true for B (R484). -/
  firstB  : Bool
  faults  : BitVec 16
  deriving DecidableEq, Repr

/-- One chain tap (R465, R482, R484). -/
structure Tap where
  level : Bool
  mv    : BitVec 32
  /-- Device times of the CT_CHANGE records of the last second. -/
  noted : List Nat
  deriving DecidableEq, Repr

/-- One safety output's stage (R470 to R475, R483). -/
structure SafetyOut where
  demand   : Bool
  on       : Bool
  hsCmd    : Bool
  lsCmd    : Bool
  hsRb     : Bool
  lsRb     : Bool
  /-- A whole pass, longer than the 100 µs of R471, lies behind the command that closes LS: it reads back closed. -/
  lsDue    : Bool
  sof      : Bool
  fcause   : BitVec 4
  nextLs   : Bool
  passed   : BitVec 16
  discarded : BitVec 16
  deriving DecidableEq, Repr

/-- A staged virtual-input item (R238, R466): its first word, POISON, its staging time. -/
structure VItem where
  word   : BitVec 32
  poison : Bool
  at_    : Nat
  deriving DecidableEq, Repr

/-- SFI's lattice and its inputs and outputs. -/
structure Lattice where
  stat    : LatState
  cause   : BitVec 3
  /-- A LATTICE error, an OSC error has put the lattice into FAULT (R497). -/
  faultLat : Bool
  faultOsc : Bool
  count   : Nat
  pass    : BitVec 32
  mcrc    : BitVec 32
  mismatches : BitVec 16
  cellErrs : BitVec 16
  tru     : Channel
  cmp     : Channel
  master  : Tbl Cell
  applied : Tbl Bool
  /-- The next pass starts from the initial state of R452. -/
  initPass : Bool
  /-- The next pass is the first after a reload (R457, R458). -/
  first   : Bool
  /-- No pass has applied its demands since the start or the last reload (R445). -/
  firstDue : Bool
  /-- No pass has applied its demands since the start (R452, R458). -/
  unapplied : Bool
  scan    : Nat
  scanNoted : List Nat
  reloadReq : Bool
  /-- The STATE a reload returns to. -/
  reloadFrom : LatState
  /-- LOCKOUT and ACKP of the last pass (R479). -/
  lastLockout : Bool
  lastAckp : Bool
  /-- SFI_SICFGn, SFI_SOCFGk, SFI_ACKCFG and MCm_DINMAP as they stood at island start (R477, R368). -/
  sicfg   : Tbl (BitVec 32)
  socfg   : Tbl (BitVec 32)
  ackcfg  : BitVec 32
  dinmap  : Tbl (BitVec 32)
  inputs  : Tbl SafetyIn
  ackLevel : Bool
  ackShort : Bool
  taps    : Tbl Tap
  pviItem : Option VItem
  nviItem : Option VItem
  pviStale : Bool
  nviStale : Bool
  startAt : Nat
  outs    : Tbl SafetyOut
  /-- Device time since which every output is demanded OFF (R88), none while one is demanded ON. -/
  offSince : Option Nat
  /-- Levels and time of the last door input item of each motor engine (R341). -/
  doorLast : Tbl (Option (BitVec 5 × Nat))
  /-- SIn of the terminal-switch inputs as last forwarded (R468). -/
  termLast : BitVec 24
  oscDev  : Bool
  /-- SFI's contribution to an epoch, SFI_FRSTAT and SFI_LATSTAT as of the last completed pass (R592). -/
  snap    : Option (BitVec 32 × BitVec 32)
  deriving DecidableEq, Repr

/-! ### Fault reaction (chapter 14) -/

/-- One block's standing as MGT keeps it in the persistent array (R488, R489, R510). -/
structure BlockStat where
  /-- Device times of the transients of the last 24 h, newest first. -/
  times : List Nat
  trans : BitVec 16
  last  : BitVec 4
  quar  : Bool
  deriving DecidableEq, Repr

/-- A fault source: one of sources 0 to 13, or an output's own (R486, R492). -/
inductive FaultSrc where
  | source (i : Fin 14)
  | output (k : Fin 6)
  /-- The hold inherited at a takeover (R601). -/
  | inherited
  deriving DecidableEq, Repr

/-- The fault reaction of SFI and MPI (R486 to R511). -/
structure FaultReact where
  /-- Blocks under test, with the device time of the error and the island's own cause code. -/
  testing : List (Nat × Nat × BitVec 16)
  /-- Blocks whose test has passed since their latest error (R497). -/
  passed  : List Nat
  /-- Sources that asserted at the last pass boundary. -/
  rising  : List FaultSrc
  /-- Sources that have risen since the last pass boundary (R492). -/
  waiting : List FaultSrc
  /-- The outputs each source holds. -/
  holds   : List (FaultSrc × BitVec 6)
  lockout : Bool
  persist : Bool
  restored : Bool := false
  /-- HOLDS of an epoch loaded at a takeover, which the next pass inherits (R601). -/
  inherit : Option (BitVec 6)
  armed   : Bool
  stuck   : Bool
  ackSeen : Bool
  result  : BitVec 4
  accepted : BitVec 16
  /-- The length in ms of an accepted press that the next pass carries out (R494, R497). -/
  ackOwed : Option Nat
  testStat : BitVec 3
  testPend : BitVec 6
  /-- Outputs of the switch test that runs. -/
  testRun : BitVec 6
  deriving DecidableEq, Repr

/-! ### CAN FD controllers and network time (chapter 15) -/

/-- Where a transmit entry came from (R526, R533). -/
inductive TxSrc where
  | port (q : Fin 4)
  | host
  | porlux (conn : Nat)
  | time
  | copy
  deriving DecidableEq, Repr

/-- One entry of a transmit queue (R526 to R534). -/
structure TxEntry where
  src     : TxSrc
  tag     : BitVec 8
  wrap    : Bool
  /-- Word 0 of the request: ID, IDE, FDF, BRS (R529). -/
  head    : BitVec 32
  rtr     : Bool
  oneshot : Bool
  data    : List (BitVec 8)
  attempts : Nat
  /-- A cancel waits for the arbitration of the attempt that runs (R534). -/
  cancel  : Bool
  /-- The cancel was answered TOO_LATE. -/
  tooLate : Bool
  deriving DecidableEq, Repr

/-- A HOST buffer's state (R523). -/
structure RxBuf where
  window  : List (BitVec 32)
  lock    : Bool
  new     : Bool
  pending : Option (List (BitVec 32))
  lost    : BitVec 16
  lostAt  : Option Nat
  deriving DecidableEq, Repr

/-- One CAN controller. -/
structure Can where
  /-- BUS_CANCTL as it stood at the last start (R514, R548). -/
  ctl     : BitVec 32
  /-- Triple sampling is in effect (R518). -/
  triple  : Bool
  onBus   : Bool
  cfgErr  : Bool
  estate  : BitVec 2
  tec     : Nat
  recCnt  : Nat
  busoffs : BitVec 16
  /-- RECOV: occurrences of 11 recessive bits counted in bus-off (R538). -/
  recov   : Nat
  /-- The attempt of the head entry has won arbitration (R534). -/
  won     : Bool
  collisions : BitVec 16
  noMatch : BitVec 32
  idColl  : Bool
  boSeen  : Bool
  queue   : List TxEntry
  last    : BitVec 8
  lastTag : BitVec 8
  collAt  : Option Nat
  bufs    : Tbl RxBuf
  deriving DecidableEq, Repr

/-- The time service (R541 to R547, R554). -/
structure TimeSvc where
  stat  : TimeState
  seq   : BitVec 16
  steps : BitVec 8
  la    : Int
  na    : Int
  rate  : Int
  corr  : Int
  err   : Int
  pair  : Option (Int × Int)
  /-- The last reference message received, with its LT (R543). -/
  prev  : Option (BitVec 16 × Nat)
  /-- Reference messages taken and not yet evaluated: data and LT at start-of-frame (R543). -/
  inbox : List (List (BitVec 8) × Nat)
  good  : Nat
  nthi  : BitVec 32
  /-- LT at the start-of-frame of the last reference message sent, and its SEQ (R542). -/
  sent  : Option (BitVec 16 × Nat)
  /-- BUS_TSCFG as it stood at the last start (R548). -/
  cfg   : BitVec 32
  deriving DecidableEq, Repr

/-! ### Porlux safety frames (chapter 16) -/

/-- States of a connection (R566). -/
inductive ConnState where
  | closed | syncing | run | stale | sending | halted
  deriving DecidableEq, Repr

/-- The item a receiving DATA connection is assembling (R562, R565). -/
structure Assembly where
  k     : Nat
  next  : Nat
  words : List (BitVec 32)
  deriving DecidableEq, Repr

/-- One Porlux connection. -/
structure Conn where
  state    : ConnState
  lastSeq  : BitVec 16
  lastErr  : BitVec 8
  discards : BitVec 16
  expiries : BitVec 16
  /-- CCFG, CCAN, CNODE, CMAP and CTM as they stood at the last start (R571). -/
  cfg      : BitVec 32
  can      : BitVec 32
  node     : BitVec 32
  map      : BitVec 32
  tm       : BitVec 32
  /-- Reception time of the last accepted frame (R567). -/
  accAt    : Option Nat
  /-- PERIOD as the watchdog took it at its last restart (R571). -/
  period   : BitVec 32
  /-- No discard yet since the last accepted frame (R574). -/
  fresh    : Bool
  discAt   : Option Nat
  asm      : Option Assembly
  /-- Payload words 0 and 1 of the last accepted SAFETY frame. -/
  values   : BitVec 16
  word1    : BitVec 32
  /-- A frame has been built since the start: the next SEQ is one more than LASTSEQ (R556, R571). -/
  built    : Bool
  deriving DecidableEq, Repr

/-- A frame record that a PORLUX buffer passes to the Porlux engine (R525, R565): the frame and its reception time in
device µs. -/
structure PxRecord where
  frame  : CanFrame
  at_    : Nat
  deriving DecidableEq, Repr

/-- The Porlux engine. -/
structure Porlux where
  /-- Frame records received and not yet checked, oldest first. -/
  inbox   : List PxRecord
  intFlt  : Bool
  unknown : BitVec 32
  conns   : Tbl Conn
  /-- The newest network-virtual-output item and when it was staged (R561). -/
  nvo     : Option (List (BitVec 32) × Nat)
  nviCnt  : BitVec 32
  nviLast : BitVec 16
  deriving DecidableEq, Repr

/-! ### Lease gate, issuer, epochs and the allemande (chapter 17) -/

/-- STATE of the lease gate, encoded as LEASE of SYS_STAT (R136, R605). -/
inductive LeaseState where
  | none | active | standby | seeking
  deriving DecidableEq, Repr

/-- HSTATE of an allemande (R605). -/
inductive HandState where
  | idle | deferred | finalEpoch | released | done | aborted
  deriving DecidableEq, Repr

/-- COPY (R590, R597). -/
inductive CopyState where
  | none | fresh | stale
  deriving DecidableEq, Repr

/-- The lease gate of SFI and the allemande it starts (R583 to R585, R603, R605, R606). -/
structure Gate where
  stat      : LeaseState
  loss      : BitVec 2
  held      : BitVec 32
  high      : BitVec 32
  /-- A lease item has been accepted since the island started (R583). -/
  seen      : Bool
  exp       : BitVec 32
  takeovers : BitVec 16
  oldNum    : BitVec 16
  /-- The holder of the last lease the gate saw: 0 unit A, 1 unit B, none before (R600, R608). -/
  lastHolder : Option Bool
  hstate    : HandState
  hreason   : BitVec 4
  finalEpoch : BitVec 32
  /-- CONN and UNIT of SFI_LSCFG as they stood at the start (R605). -/
  unit      : Bool
  conn      : BitVec 6
  /-- The unit has become ACTIVE after its peer, and the epoch has still to be loaded (R600). -/
  takeover  : Bool
  deriving DecidableEq, Repr

/-- A unit report as the issuer keeps it (R586, R590). -/
structure Report where
  word0 : BitVec 32
  held  : BitVec 32
  epoch : BitVec 32
  at_   : Nat
  deriving DecidableEq, Repr

/-- STATE of the issuer (R606). -/
inductive IssuerState where
  | off | starting | holding | waiting
  deriving DecidableEq, Repr

/-- The lease issuer (R586 to R589, R606). A unit is false for A, true for B. -/
structure Issuer where
  stat       : IssuerState
  holder     : Option Bool
  lastHolder : Option Bool
  repA       : Option Report
  repB       : Option Report
  grants     : BitVec 16
  startAt    : Nat
  /-- Build time and REMAIN of the last frame that named the holder with WITHDRAW 0 (R588). -/
  named      : Option (Nat × Nat)
  /-- When the present lease was granted, and whether a report of its holder has since shown it ACTIVE (R586). -/
  grantAt    : Nat
  confirmed  : Bool
  /-- Why the last holder was lost: 1 unreachable, 2 state, 3 release, 4 WITHDRAW (R608). -/
  lostBy     : BitVec 8
  /-- The final epoch of a release, whose candidates must have reached it (R588). -/
  released   : Option (BitVec 32)
  /-- A release with OUTOPEN 1 waives the wait (R588). -/
  waived     : Bool
  lostAt     : Nat
  deriving DecidableEq, Repr

/-- An epoch in progress on the ACTIVE unit (R592 to R594). -/
structure EpochRun where
  epoch    : BitVec 32
  final    : Bool
  /-- Data of the frames that have not entered the transmit queue yet, the commit frame last (R594). -/
  todo     : List (List (BitVec 8))
  /-- Device time at which the commit frame was sent (R592). -/
  commitAt : Option Nat
  acked    : Bool
  deriving DecidableEq, Repr

/-- The STANDBY's assembly of copy frames (R595). -/
structure CopyAssembly where
  epoch  : BitVec 32
  total  : Nat
  frames : List (Nat × List (BitVec 8))
  /-- LINKOK was 1 when the first frame arrived (R597). -/
  linked : Bool
  deriving DecidableEq, Repr

/-- An epoch's content and its 32-byte marker, as MGT writes them to a buffer (R594, R596). -/
structure EpochBuf where
  content : List (BitVec 8)
  marker  : List (BitVec 8)
  deriving DecidableEq, Repr

/-- What BUS keeps of the copy link and of the unit's report (R590 to R598, R602). -/
structure Copy where
  run      : Option EpochRun
  seq      : BitVec 32
  /-- The newest acknowledged epoch, and the newest committed one (R590). -/
  ackedSeq : BitVec 32
  committed : BitVec 32
  peerEligible : Bool
  copy     : CopyState
  linkOk   : Bool
  linkAt   : Option Nat
  linkFellAt : Nat
  linkQ    : Bool
  /-- Copy frames and acknowledgements received from the peer and not yet taken (R594, R595). -/
  frames   : List (List (BitVec 8))
  acks     : List (List (BitVec 8))
  /-- Acknowledgements that wait for room in the transmit queue of EPCTRL (R533, R595). -/
  ackTodo  : List (List (BitVec 8))
  assembly : Option CopyAssembly
  /-- An epoch complete in BUS that MGT has still to write (R596). -/
  ready    : Option (EpochBuf × Bool)
  /-- HOLDER of the latest lease frame, 0xFF none (R602). -/
  latestHolder : BitVec 8
  report   : List (BitVec 32)
  /-- EPCFG and EPCTL as they stood at the start (R607). -/
  epcfg    : BitVec 32
  epctl    : BitVec 32
  deriving DecidableEq, Repr

/-! ### Recorder, AON log and persistent registers (chapter 18) -/

/-- A record in a tap: device time, code, data bytes 20 to 29; an AON copy keeps its wall time (R609, R613, R628). -/
structure TapRec where
  dtime : Nat
  code  : BitVec 16
  data  : List (BitVec 8)
  wall  : Option (BitVec 32 × BitVec 16)
  deriving DecidableEq, Repr

/-- One island's tap (R613). -/
structure RecTap where
  recs    : List TapRec
  dropped : BitVec 32
  deriving DecidableEq, Repr

/-- A committed record, as its 32 bytes (R609). -/
abbrev RecBytes := List (BitVec 8)

/-- The recorder's volatile part (R613, R621, R622, R634). -/
structure Recorder where
  taps      : Tbl RecTap
  frozen    : Bool
  frozenAt  : Nat
  /-- Records this freeze has discarded (R623). -/
  freezeDrop : BitVec 16
  /-- The stage of a freeze, oldest first: island and record (R621). -/
  stage     : List (Nat × TapRec)
  stageDrop : BitVec 16
  tapDrop   : BitVec 16
  /-- DTIME of the last record committed (R614). -/
  lastDt    : Nat
  wearHi    : BitVec 32
  /-- MGT_RECSEL has been written since MGT was reset: until then the read-out registers hold their reset values (R634). -/
  selected  : Bool
  deriving DecidableEq, Repr

/-- An RWK word in the persistent array: value and wear counter; WORN follows R630. -/
structure RwkCell where
  value : BitVec 32
  wear  : Nat
  deriving DecidableEq, Repr

/-- An AON log entry: wall time (seconds, fraction), code, six data bytes, and the CRC-16 stored over them (R626). -/
structure AonEntry where
  wsec  : BitVec 32
  wfrac : BitVec 16
  code  : BitVec 16
  data  : List (BitVec 8)
  crc   : BitVec 16
  deriving DecidableEq, Repr

/-- One tamper input (R627). -/
structure Tamper where
  alarm   : Bool
  /-- The opposite state was seen at the last sample. -/
  pend    : Bool
  /-- Wall seconds of the entries of the last hour. -/
  entries : List Nat
  excess  : BitVec 16
  deriving DecidableEq, Repr

/-- AON (chapters 04 and 18): what it holds while VMAIN or VBAT is present. -/
structure Aon where
  rtcSec   : BitVec 32
  rtcFrac  : BitVec 16
  /-- Part of the crystal's next period run, in 1/125 000. -/
  rtcSub   : Nat
  rtcInvalid : Bool
  fracLatch : BitVec 16
  log      : List AonEntry
  lost     : BitVec 16
  bad      : BitVec 8
  tampers  : Tbl Tamper
  /-- An image has enabled the vault-watch (R52, R627). -/
  vaultWatch : Bool
  /-- The pads of TAMP0 to TAMP3, LID and TAMPOUT that this image uses, bits 0 to 5 (R49, R147). -/
  tampPads : BitVec 6
  /-- What is left in µs of TAMPOUT's pulse (R627). -/
  pulseUs  : Nat
  /-- MGT takes AON's codes through its tap (R628 done). -/
  mgtUp    : Bool
  starts   : BitVec 16
  resetLow : Bool
  /-- The RESET_N hold under way, in µs (R121). -/
  holdUs   : Nat
  lastHold : BitVec 32
  alert    : Bool
  statLow  : Bool
  heldOwed : Bool
  timeouts : Nat
  loopHeld : Bool
  wakeWaiting : Option (BitVec 4)
  deriving DecidableEq, Repr

/-! ### Host and management ports (chapter 19) -/

/-- A transaction at a port (R637 to R639, R645, R651). -/
structure Xfer where
  /-- The request has begun: the chip select is low, or in UART mode its first byte has come. -/
  active : Bool
  /-- The request's bytes received so far. -/
  rx     : List (BitVec 8)
  /-- Accesses performed, or passed over after one that failed. -/
  acc    : Nat
  /-- The trailer has been formed. -/
  ended  : Bool
  status : BitVec 8
  /-- Accesses that ended OK. -/
  done   : Nat
  /-- The read words sent. -/
  words  : List (BitVec 32)
  /-- The bytes of the response, wait bytes apart. -/
  response : List (BitVec 8)
  deriving DecidableEq, Repr

/-- The command gate and the two ports (R637 to R658). -/
structure Ports where
  host     : Xfer
  mgmt     : Xfer
  hostLast : BitVec 8
  mgmtLast : BitVec 8
  /-- Tags INFLIGHT, bit t for tag t (R647). -/
  tags     : BitVec 256
  /-- Words still to discard on a CMDQ queue (R647). -/
  busyLeft : Tbl Nat
  irqReady : Bool
  irqLockout : Bool
  errors   : BitVec 16
  errNotedAt : Option Nat
  /-- BAUD in use (R653). -/
  baud     : BitVec 4
  /-- Level of the MPSEL pad, which the board sets: low SPI, high UART (R148, R650). -/
  mpsel    : Bool
  deriving DecidableEq, Repr

/-! ### The persistent array and the whole machine -/

/-- A value on a persistence lane: an RWK register's, or SFI's held-output and source sets (R25, R493). -/
inductive LaneItem where
  | rwk (addr : Nat) (value : Word)
  | held (outs : BitVec 6) (sources : List (FaultSrc × BitVec 6))
  deriving DecidableEq, Repr

/-- What the persistent array holds beside its two image slots' bytes (R618). It survives every reset and
loss of power. -/
structure Persist where
  /-- Image slots A and B as bytes by offset; an unlisted offset reads 0xFF. -/
  slotA    : List Host.Cell
  slotB    : List Host.Cell
  rwk      : Tbl RwkCell
  /-- Overlay entries, address and value, oldest first, and the CRC of the image they belong to (R171). -/
  overlay  : List (Nat × Word)
  ovlCrc   : Word
  salt     : List Byte
  hash     : List Byte
  pwSet    : Bool
  fails    : BitVec 8
  key      : List Byte
  reqTag   : Bool
  prov     : Bool
  /-- Change-log records by number modulo 2048, the next sequence number, the chain word (R179). -/
  clog     : Tbl LogBytes
  clogNext : Word
  clogChain : Word
  dtMark   : Nat
  commissioned : Bool
  blocks   : Tbl BlockStat
  qclr     : BitVec 24
  held     : BitVec 6
  heldBy   : List (FaultSrc × BitVec 6)
  /-- The birth log by index, and how many lines are used (R616, R620). -/
  birth    : Tbl RecBytes
  bcount   : Nat
  /-- The circulating log by line (R616). -/
  circ     : Tbl RecBytes
  /-- SEQ of the next record, and how many records the circulating log holds (R614, R634). -/
  nextSeq  : Word
  circHeld : Nat
  /-- The line of the circulating log the next record takes (R620). -/
  circLine : Nat
  epochs   : Tbl (Option EpochBuf)
  deriving DecidableEq, Repr

/-- The device. -/
structure State where
  /-- Commands waiting, first in first out. -/
  pending : List Instr
  /-- The MODEL's own counter that picks the values the spec leaves open (log entry 2). -/
  fresh   : Nat
  /-- Device time in µs, 48 bits wide (R7, R20). -/
  dev     : Nat
  /-- The stored words of the RW, RWL and RWK registers by byte address; an unlisted one holds its reset value. -/
  regs    : Tbl Word
  /-- RWK and persistent values on their way to the array, oldest first (R25). -/
  lanes   : List LaneItem
  start   : Start
  tempo   : Tempo
  defres  : DefRes
  field   : Field
  supplies : Supplies
  rescue  : Rescue
  power   : Power
  aon     : Aon
  persist : Persist
  loader  : Loader
  session : Session
  image   : Option Image
  recorder : Recorder
  fabric  : Fabric
  ports   : Ports
  lattice : Lattice
  react   : FaultReact
  gate    : Gate
  fusion  : Fusion
  planners : Tbl Planner
  loops   : Tbl Loop
  motors  : Tbl Motor
  doors   : Tbl Door
  sched   : Sched
  seqr    : Seqr
  cans    : Tbl Can
  time    : TimeSvc
  porlux  : Porlux
  issuer  : Issuer
  copy    : Copy
  deriving DecidableEq, Repr

/-- Reasons a step can stop with a fault: none. The device reports every failure in its own registers and goes on,
so no meaning raises one; the type is empty. Safe. -/
inductive Fault where
  deriving DecidableEq, Repr

/-- Reasons a step can be refused. -/
inductive Refusal where
  /-- Raised by an arm of `exec` for a command without a meaning yet. Safe: no claim holds of it. -/
  | notModelled (mnemonic : String)
  deriving DecidableEq, Repr

/-! ### The machine right after reset

The state after a POWER_ON reset of a new device, at step 3 of R123, the first at which a register can be read
(PHASE resets to 3, R136). Values the spec does not give are in log entry 1. -/

def Start.reset : Start :=
  { phase := 3, block := 0, ready := false, cause := .powerOn, entry := 1, failA := 0, failB := 0,
    fallback := false, slot := 0, startUs := 0, elapsed := 0, readyPad := .highZ,
    rsti := [.qf, .sfi, .mpi, .mc0, .mc1, .mc2, .mc3, .sch, .seq, .bus] }

def Tempo.reset : Tempo :=
  { mode := 1, stat := .idle, reason := 0, switches := 0, pendingTarget := 1, quiesce := false, qack := [] }

def DefRes.reset : DefRes :=
  { stat := .notRun, firstPad := 0, fails := 0, results := [], waitNoted := false }

def PadResult.reset : PadResult :=
  { checked := false, declared := .notChecked, measured := .notChecked, voc := 0, dh := 0, dl := 0 }

def LePort.reset : LePort := { fault := false, acting := false }

def Field.reset : Field := { ports := [], overcurrent := 0, shutdown := false }

def Supplies.reset : Supplies :=
  { vmainOk := true, vfldOk := false, pfail := false, vbatAbsent := false,
    vbatOk := false, vbatLowSeen := false, vfldLowSeen := false, vfldLost := false, pfailHeld := [],
    vmainMv := 0, vfldMv := 0, vbatMv := 0, fieldT := 0, ctrlT := 0 }

def Rescue.reset : Rescue :=
  { stat := .disabled, reason := 0, dirUp := false, count := 0, eavail := 0, ereq := 0, vmin := 0, vbs := [],
    ibs := [], stale := true, restart := false, charge := 0, senseOn := true, filterRunning := false, mainsOn := true,
    up := none, down := none, chosen := none }

def Power.reset : Power :=
  { state := .starting, hib := .run, hibReason := 0, wakeSrc := 0, wakeNext := 0, wakePin := none, watchPorts := 0, gate := 0x7, railFails := 0 }

def Tamper.reset : Tamper := { alarm := false, pend := false, entries := [], excess := 0 }

def Aon.reset : Aon :=
  { rtcSec := 0, rtcFrac := 0, rtcSub := 0, rtcInvalid := true, fracLatch := 0, log := [], lost := 0, bad := 0, tampers := [], vaultWatch := false, tampPads := 0, pulseUs := 0,
    mgtUp := false, starts := 0, resetLow := false, holdUs := 0, lastHold := 0, alert := false, statLow := false,
    heldOwed := false, timeouts := 0, loopHeld := false, wakeWaiting := none }

def RwkCell.reset : RwkCell := { value := 0, wear := 0 }

def BlockStat.reset : BlockStat := { times := [], trans := 0, last := 0, quar := false }

def Persist.reset : Persist :=
  { slotA := [], slotB := [], rwk := [], overlay := [], ovlCrc := 0, salt := [], hash := [], pwSet := false,
    fails := 0, key := [], reqTag := false, prov := false, clog := [], clogNext := 0, clogChain := 0, dtMark := 0,
    commissioned := false, blocks := [], qclr := 0, held := 0, heldBy := [], birth := [], bcount := 0, circ := [],
    nextSeq := 0, circHeld := 0, circLine := 0, epochs := [] }

def Loader.reset : Loader :=
  { stat := .idle, reason := 0, vres := 7, op := none, window := none, offset := 0, written := 0, skipped := false }

def Session.reset : Session :=
  { buffer := [], derivation := none, unlocked := false, result := 0, wait := 0, keyWords := [], keyCount := 0 }

def RecTap.reset : RecTap := { recs := [], dropped := 0 }

def Recorder.reset : Recorder :=
  { taps := [], frozen := false, frozenAt := 0, freezeDrop := 0, stage := [], stageDrop := 0, tapDrop := 0, lastDt := 0, wearHi := 0,
    selected := false }

def Fabric.reset : Fabric :=
  { queues := [], stages := [], fullAt := [], stopped := false, waiting := [], lastRead := [], wordErr := 0, metaErr := 0, ltags := [],
    overflow := 0, endSeq := 0 }

def Xfer.reset : Xfer :=
  { active := false, rx := [], acc := 0, ended := false, status := 0, done := 0, words := [], response := [] }

def Ports.reset : Ports :=
  { host := Xfer.reset, mgmt := Xfer.reset, hostLast := 0, mgmtLast := 0, tags := 0, busyLeft := [],
    irqReady := false, irqLockout := false, errors := 0, errNotedAt := none, baud := 0, mpsel := false }

def Cell.reset : Cell := { w0 := 0, w1 := 0, w2 := 0, w3 := 0 }

def Channel.reset : Channel := { cells := [], out := [], fp := [], timers := [] }

def SafetyIn.reset : SafetyIn :=
  { a := false, b := false, disc := false, shortA := false, shortB := false, offOwed := false, pending := none,
    firstB := false, faults := 0 }

def Tap.reset : Tap := { level := false, mv := 0, noted := [] }

def SafetyOut.reset : SafetyOut :=
  { demand := false, on := false, hsCmd := false, lsCmd := false, hsRb := false, lsRb := false, lsDue := false, sof := false,
    fcause := 0, nextLs := false, passed := 0, discarded := 0 }

def Lattice.reset : Lattice :=
  { stat := .off, cause := 0, faultLat := false, faultOsc := false, count := 0, pass := 0, mcrc := 0, mismatches := 0,
    cellErrs := 0, tru := Channel.reset, cmp := Channel.reset, master := [], applied := [], initPass := true,
    first := false, firstDue := true, unapplied := true, scan := 0, scanNoted := [], reloadReq := false, reloadFrom := .off, lastLockout := false,
    lastAckp := false, sicfg := [], socfg := [], ackcfg := 0, dinmap := [], inputs := [], ackLevel := false,
    ackShort := false, taps := [], pviItem := none, nviItem := none, pviStale := false, nviStale := false,
    startAt := 0, outs := [], offSince := some 0, doorLast := [], termLast := 0, oscDev := false,
    snap := none }

def FaultReact.reset : FaultReact :=
  { testing := [], passed := [], rising := [], waiting := [], holds := [], lockout := false, persist := false,
    restored := false, inherit := none, armed := false, stuck := false, ackSeen := false, result := 0, accepted := 0,
    ackOwed := none, testStat := 0, testPend := 0, testRun := 0 }

def Gate.reset : Gate :=
  { stat := .seeking, loss := 0, held := 0, high := 0, seen := false, exp := 0, takeovers := 0, oldNum := 0,
    lastHolder := none, hstate := .idle, hreason := 0, finalEpoch := 0, unit := false, conn := 0,
    takeover := false }

def SourceStat.reset : SourceStat := { status := 0, lost := false, excluded := 0, absent := 0 }

def VanePair.reset : VanePair := { levelA := false, levelB := false, pend := none, misses := 0, lost := false }

def TermSwitch.reset : TermSwitch := { level := false, pending := none, changes := [], chatter := false, burst := false }

def FusionRun.reset : FusionRun :=
  { run := .none, phase := 0, result := 0, found := 0, list := [], edge := none, p := none, read := false, ntsup := none,
    waited := 0 }

def Quad.reset : Quad := { a := false, b := false, count := 0 }

def FusionResult.reset : FusionResult :=
  { pos := 0, bound := 0x7FFFFFFF, plo := 0x80000000, phi := 0x7FFFFFFF, vel := 0, cycle := 0 }

def Fusion.reset : Fusion :=
  { stat := .off, cfg := 0, interval := none, v := 0, lastUp := true, res := FusionResult.reset, frozen := none, pvi := 0,
    enc := SourceStat.reset, ssi := SourceStat.reset, vane := SourceStat.reset, disagree := false, disagreeRun := 0,
    tabOk := false, quads := [], prevCount := none, prevEh := none, prevPs := none, encItem := none, sample := none,
    pairs := [], edges := [], discs := 0, unmatchedAt := none, switches := [], runState := FusionRun.reset, parms := [], degAt := none,
    degOpenAt := none, degStat := 0, degExp := false }

def Kin.reset : Kin := { pos := 0, vel := 0, acc := 0 }

def Planner.reset : Planner :=
  { running := none, held := [], motion := .rest, kin := Kin.reset, refWords := [0, 0, 0, 0, 0, 0], stat := .idle, last := 0,
    moves := 0, corr := 0, arrived := false, stalled := false, degLock := false, pwrLock := false, sync := false,
    eorg := 0, devRun := 0, degLimit := false, seenFusion := .off, standing := false, pdLast := 0,
    pdOut := 0, pdUp := false, pdCarry := 0, refusedAt := none }

def Slot.reset : Slot :=
  { sp := 0, d := 0, mprev := 0, i := 0, p := 0, dterm := 0, f := 0, u := 0, v := 0, m := 0, fresh := false }

def Loop.reset : Loop :=
  { copies := [], held := false, dirDown := false, out := 0, win := 7, limited := false, miss := false, fault := false,
    run := 0, missCount := 0, n := 0, slots := [], resetI := false, fresh := true, refItem := none, aux := none,
    auxAge := 0 }

def Motor.reset : Motor :=
  { bridge := .idle, aligned := false, calst := 0, startCal := 0, oc := false, gduv := false, extf := false,
    adcf := false, dclow := false, gduvNow := false, extfNow := false, ocNow := false, angofs := 0, theta := 0,
    jd := 0, jq := 0, idm := 0, iqm := 0, vd := 0, vq := 0, iqd := 0, gates := .low, iofs := [], icur := [], vdc := 0,
    twohm := 0, fborg := 0, fbpos := 0, vel := 0, speedCount := 0, iqs := [], up := 0, un := 0, iscale := 0, refAt := 0 }

def LearnSums.reset : LearnSums := { na := 0, nc := 0, sf := 0, sv := 0, sa := 0, sc := 0, tm := 0 }

def Door.reset : Door :=
  { stat := .unhomed, homed := false, learned := false, stale := false, chatter := false, burst := false,
    homeChatter := false, lastEv := 0, detail := 0, edge := false, curtain := false, closeLim := false,
    coupled := false, permit := false, closePend := none, changes := [], sessLive := false, sessStation := 0,
    sessExpiry := 0, sessAt := none, session := false, jobs := [], stopping := none, goal := .none, oldMoves := 0,
    completed := false, acc := 0, velp := 0, fobs := 0, ekin := 0, vadm := 0, flimNow := 0, muse := 0, obsRun := 0,
    openRun := 0, ekRun := 0, obsPos := 0, revCount := 0, stall := [], phase := 0,
    sums := LearnSums.reset, map := 0x3FFFFFFF }

def CarView.reset : CarView := { words := [], age := 0, seen := false, outNoted := false }

def Drive.reset : Drive :=
  { stat := .out, tgt := none, blend := none, moveId := none, blendId := none, counter := 0, dirUp := none, doorRem := 0,
    at_ := none, depart := none, fusion := none, refusedWithdraw := none }

def Sched.reset : Sched :=
  { stat := .off, ctxs := [], cars := [], drive := Drive.reset, service := false, run := 0, miss := false, fault := false,
    missCount := 0, ignored := 0, count := 0, unserved := 0, nextOrder := 0, grants := [], grantCount := 0, resends := 0,
    resyncStop := none, resyncLeft := false, fullAt := none, snapCtxs := [], snapCar := none }

def Figure.reset : Figure :=
  { stat := .idle, pc := 0, stack := [], regs := [], timers := [], flags := 0, steps := 0, since := 0, result := 0,
    cause := 0, endst := 0, waiting := .none, stale := [], store := [] }

def Seqr.reset : Seqr := { figs := [], outLvl := 0, outDriven := 0, outOwner := [], inLvl := 0 }

def RxBuf.reset : RxBuf := { window := [], lock := false, new := false, pending := none, lost := 0, lostAt := none }

def Can.reset : Can :=
  { ctl := 0, triple := false, onBus := false, cfgErr := false, estate := 3, tec := 0, recCnt := 0,
    busoffs := 0, recov := 0, won := false, collisions := 0, noMatch := 0, idColl := false, boSeen := false, queue := [], last := 0, lastTag := 0,
    collAt := none, bufs := [] }

def TimeSvc.reset : TimeSvc :=
  { stat := .off, seq := 0, steps := 0, la := 0, na := 0, rate := 0, corr := 0, err := 0, pair := none, prev := none, inbox := [],
    good := 0, nthi := 0, sent := none, cfg := 0 }

def Conn.reset : Conn :=
  { state := .closed, lastSeq := 0, lastErr := 0, discards := 0, expiries := 0, cfg := 0, can := 0, node := 0, map := 0,
    tm := 0, accAt := none, period := 0, fresh := true, discAt := none, asm := none, values := 0, word1 := 0, built := false }

def Porlux.reset : Porlux := { inbox := [], intFlt := false, unknown := 0, conns := [], nvo := none, nviCnt := 0, nviLast := 0 }

def Issuer.reset : Issuer :=
  { stat := .off, holder := none, lastHolder := none, repA := none, repB := none, grants := 0, startAt := 0,
    named := none, grantAt := 0, confirmed := false, lostBy := 0, released := none, waived := false, lostAt := 0 }

def Copy.reset : Copy :=
  { run := none, seq := 0, ackedSeq := 0, committed := 0, peerEligible := false, copy := .none, linkOk := false,
    linkAt := none, linkFellAt := 0, linkQ := false, frames := [], acks := [], ackTodo := [], assembly := none, ready := none, latestHolder := 0xFF,
    report := [], epcfg := 0, epctl := 0 }

/-- The machine right after a POWER_ON reset of a new device, at step 3 of R123. -/
def State.reset : State :=
  { pending := [], fresh := 0, dev := 0, regs := [], lanes := [], start := Start.reset, tempo := Tempo.reset,
    defres := DefRes.reset, field := Field.reset, supplies := Supplies.reset, rescue := Rescue.reset,
    power := Power.reset, aon := Aon.reset, persist := Persist.reset, loader := Loader.reset,
    session := Session.reset, image := none, recorder := Recorder.reset, fabric := Fabric.reset, ports := Ports.reset,
    lattice := Lattice.reset, react := FaultReact.reset, gate := Gate.reset, fusion := Fusion.reset, planners := [],
    loops := [], motors := [], doors := [], sched := Sched.reset, seqr := Seqr.reset, cans := [],
    time := TimeSvc.reset, porlux := Porlux.reset, issuer := Issuer.reset, copy := Copy.reset }

end Sys2Proof.Machine
end

