-- ==== Sys2Proof/Machine/Kinematics.lean ====
section
/-! DEFINITION. The jerk-limited kinematics of R265 to R269 and R286, which the planners, the scheduler and the rescue
estimate share. Positions are raw, in 2^-16 LSB; velocities in µm/s; accelerations in 100 µm/s²; times in µs. -/

namespace Sys2Proof.Machine

/-- S16 of R229. -/
def s16 : Int := 65536

/-- Position at `tau` µs into a piece (R265). -/
def posAt (k : Kin) (j : Int) (tau : Nat) : Int :=
  k.pos + rnDiv (s16 * (6 * 10 ^ 9 * k.vel * tau + 3 * 10 ^ 5 * k.acc * (tau * tau) + j * (tau * tau * tau))) (6 * 10 ^ 16)

/-- Velocity at `tau` µs into a piece (R265). -/
def velAt (k : Kin) (j : Int) (tau : Nat) : Int := k.vel + rnDiv (2 * 10 ^ 5 * k.acc * tau + j * (tau * tau)) (2 * 10 ^ 9)

/-- Acceleration at `tau` µs into a piece (R265). -/
def accAt (k : Kin) (j : Int) (tau : Nat) : Int := k.acc + rnDiv (j * tau) (10 ^ 5)

/-- The state at `tau` µs into a piece (R265). -/
def Kin.at_ (k : Kin) (j : Int) (tau : Nat) : Kin := { pos := posAt k j tau, vel := velAt k j tau, acc := accAt k j tau }

/-- The state at a piece's end; velocity and zero acceleration exact where the piece ends a change (R266, R267), the position
where it ends a stop (R269). -/
def Kin.after (k : Kin) (p : Piece) : Kin :=
  let k := match p.endVel with
    | some v => { pos := posAt k p.jerk p.dur, vel := v, acc := 0 }
    | none => k.at_ p.jerk p.dur
  match p.endPos with
  | some x => { k with pos := x * s16 }
  | none => k

/-- The reference position of a kinematic state, in LSB (R265). -/
def Kin.lsb (k : Kin) : Int := rnDiv k.pos s16

/-- The smallest integer whose square is at least `n` (R266). -/
def sqUp (n : Nat) : Nat := if isqrt n * isqrt n = n then isqrt n else isqrt n + 1

/-- A velocity change: tj, th and j' (R266). -/
structure Change where
  tj : Int
  th : Int
  j  : Int
  deriving DecidableEq, Repr

/-- The change by the magnitude `d` with the limits `a` and `j` (R266). -/
def change (d a j : Int) : Change :=
  if 10 * (a * a) ≤ d * j then
    let tj := upDiv (a * 10 ^ 5) j
    { tj := tj, th := upDiv (d * 10 ^ 4) a - tj, j := downDiv (a * 10 ^ 5) tj }
  else
    let tj : Int := sqUp (upDiv (d * 10 ^ 9) j).toNat
    { tj := tj, th := 0, j := downDiv (d * 10 ^ 9) (tj * tj) }

/-- Dv of R266. -/
def changeTime (x y a j : Int) : Int :=
  let c := change (absInt (y - x)) a j
  2 * c.tj + c.th

/-- Dist of R266. -/
def changeDist (x y a j : Int) : Int := upDiv ((x + y) * changeTime x y a j) (2 * 10 ^ 7)

/-- The pieces of the change from speed `x` to speed `y` in the direction `s` (R266). -/
def changePieces (s x y a j : Int) : List Piece :=
  let c := change (absInt (y - x)) a j
  let g := s * sgn (y - x)
  if x = y then []
  else
    [{ jerk := g * c.j, dur := c.tj.toNat, endVel := none }] ++
    (if c.th = 0 then [] else [{ jerk := 0, dur := c.th.toNat, endVel := none }]) ++
    [{ jerk := -(g * c.j), dur := c.tj.toNat, endVel := some (s * y) }]

/-- The limits in force for a plan. -/
structure Limits where
  vm : Int
  a  : Int
  d  : Int
  j  : Int
  deriving DecidableEq, Repr

/-- Piece 0, which brings the acceleration to 0, with the state after it (R267, step 1). -/
def pieceZero (k : Kin) (j : Int) : List Piece × Kin :=
  if k.acc = 0 then ([], k)
  else
    let opposes := sgn k.acc * sgn k.vel = -1 ∧ j * absInt k.vel ≤ 5 * (k.acc * k.acc)
    let j0 := if opposes then max j (upDiv (5 * (k.acc * k.acc)) (absInt k.vel)) else j
    let t0 := (upDiv (absInt k.acc * 10 ^ 5) j0).toNat
    let v1 := k.vel + rnDiv (5 * k.acc * absInt k.acc) j0
    let p : Piece := { jerk := -(sgn k.acc) * j0, dur := t0, endVel := some v1 }
    ([p], k.after p)

/-- STOPPOS of R269, in LSB. -/
def stopPos (k : Kin) (d j : Int) : Int :=
  let z := (pieceZero k j).2
  z.lsb + sgn z.vel * changeDist (absInt z.vel) 0 d j

/-- The pieces of a stop, the last of which ends exactly at `x` (R269). -/
def endAt (x : Int) : List Piece → List Piece
  | [] => []
  | [p] => [{ p with endPos := some x }]
  | p :: q :: ps => p :: endAt x (q :: ps)

/-- The stop of R269 from a present state: its pieces, which end at STOPPOS. -/
def stopPieces (k : Kin) (d j : Int) : List Piece :=
  let z := pieceZero k j
  endAt (stopPos k d j) (z.1 ++ changePieces (sgn z.2.vel) (absInt z.2.vel) 0 d j)

/-- Total duration of pieces. -/
def piecesTime (ps : List Piece) : Nat := (ps.map (·.dur)).sum

/-- The bisection of step 4 of R267: the largest speed in `lo` to `hi` whose distance fits. -/
def bisect (dist : Int → Int) (r : Int) : Nat → Int → Int → Int
  | 0, lo, _ => lo
  | n + 1, lo, hi =>
    if hi ≤ lo then lo
    else
      let mid := (lo + hi + 1) / 2
      if dist mid ≤ r then bisect dist r n mid hi else bisect dist r n lo (mid - 1)

/-- What the planning of R267 gives: a plan to the target with its cruise speed; a stop with a plan from rest after it
(step 4); or a target that lies behind (step 3). -/
inductive PlanKind where
  | direct (vc : Int)
  | stopFirst
  | behind
  deriving DecidableEq, Repr

/-- A plan: its pieces, the duration before its final change to 0, and its kind. -/
structure Plan where
  pieces : List Piece
  pre    : Nat
  kind   : PlanKind
  deriving DecidableEq, Repr

/-- Plan a move to `target` (LSB) from a present state (R267). For a target behind the axis the pieces are the stop. -/
def planTo (k : Kin) (target : Int) (l : Limits) : Plan :=
  let z := pieceZero k l.j
  let v1 := z.2.vel
  let r := target - z.2.lsb
  let s := if r = 0 then sgn v1 else sgn r
  let u := absInt v1
  let t0 := piecesTime z.1
  let stop := z.1 ++ changePieces (sgn v1) u 0 l.d l.j
  if u ≠ 0 ∧ (sgn v1 ≠ s ∨ absInt r < changeDist u 0 l.d l.j) then { pieces := stopPieces k l.d l.j, pre := t0, kind := .behind }
  else
    let acc (vc : Int) : Int := if vc < u then l.d else l.a
    let dist (vc : Int) : Int := changeDist u vc (acc vc) l.j + changeDist vc 0 l.d l.j
    if l.vm < u ∧ absInt r < dist l.vm then { pieces := stop, pre := t0, kind := .stopFirst }
    else
      let vc := if l.vm < u then l.vm else bisect dist (absInt r) 40 u l.vm
      let tc := if vc = 0 then 0 else downDiv ((absInt r - dist vc) * 10 ^ 7) vc
      let first := changePieces s u vc (acc vc) l.j
      let cruise : List Piece := if tc ≤ 0 then [] else [{ jerk := 0, dur := tc.toNat, endVel := none }]
      { pieces := z.1 ++ first ++ cruise ++ changePieces s vc 0 l.d l.j,
        pre := t0 + piecesTime first + piecesTime cruise, kind := .direct vc }

/-- The state after all the pieces. -/
def Kin.afterAll (k : Kin) (ps : List Piece) : Kin := ps.foldl Kin.after k

/-- Run `dt` µs along the pieces: the head piece's start state, the time run in it, the pieces left. -/
def runPieces (k : Kin) : List Piece → Nat → Kin × Nat × List Piece
  | [], dt => (k, dt, [])
  | p :: ps, dt => if dt < p.dur then (k, dt, p :: ps) else runPieces (k.after p) ps (dt - p.dur)

/-! ### Time and energy of a move (R285, R286) -/

/-- Masses and friction of R286. -/
structure Masses where
  mcar : Int
  load : Int
  mcw  : Int
  mrot : Int
  fric : Int
  deriving DecidableEq, Repr

/-- Emove of R286: the saturated sum of three terms, 64-bit intermediates saturating (R9). -/
def moveEnergy (m : Masses) (dh vc : Int) : Int :=
  let epot := rnDiv (sat64 (sat64 ((m.mcar + m.load - m.mcw) * dh) * 980665)) (10 ^ 10)
  let efric := rnDiv (sat64 (m.fric * absInt dh)) (10 ^ 4)
  let ekin := rnDiv (sat64 ((m.mcar + m.load + m.mcw + m.mrot) * sat64 (vc * vc))) (2 * 10 ^ 12)
  sat32 (sat32 epot + sat32 efric + sat32 ekin)

/-- A planned move's total: duration in µs and the largest cruise speed, over a stop that comes first, a dwell and the
move back where the target lies behind (R285). -/
structure Travel where
  time   : Nat
  vc     : Int
  behind : Bool
  deriving DecidableEq, Repr

/-- Time and cruise speed of the whole move to `target`, `dwell` µs being waited before a move back. -/
def travel (k : Kin) (target : Int) (l : Limits) (dwell : Nat) : Travel :=
  let p := planTo k target l
  let t := piecesTime p.pieces
  let rest := k.afterAll p.pieces
  let again := planTo { pos := rest.pos, vel := 0, acc := 0 } target l
  let vc2 := match again.kind with | .direct v => v | _ => 0
  match p.kind with
  | .direct vc => { time := t, vc := vc, behind := false }
  | .stopFirst => { time := t + piecesTime again.pieces, vc := vc2, behind := false }
  | .behind => { time := t + dwell + piecesTime again.pieces, vc := vc2, behind := true }

end Sys2Proof.Machine
end

