-- ==== Sys2Proof/Config.lean ====
section
/-! DEFINITION. What one device fixes and the values the spec leaves open: constants without a body, so that no
proof can rest on their value. Each is named in a log entry. -/

namespace Sys2Proof.Config

/-- A value the spec leaves open, a fresh one for each value of the counter the step reads (log entry 2). -/
opaque freeWord : Nat → Word

/-- The salt of a new stored password, 16 bytes from the device's random source (R173; log entry 2). -/
opaque freeSalt : Nat → BitVec 128

/-- The outputs that carry a brake demand for the rest condition of R38, one bit each (log entry 3). -/
opaque brakeOutputs : BitVec 6

end Sys2Proof.Config
end

