-- ==== Sys2Proof/Machine/Bytes.lean ====
section
/-! DEFINITION. Byte order, the CRCs of R158, R557 and R610, and the hash functions of R173. -/

namespace Sys2Proof.Machine

/-- The low `n` bytes of a number, least significant first. -/
def leBytes : Nat → Nat → List Byte
  | 0, _ => []
  | n + 1, x => BitVec.ofNat 8 x :: leBytes n (x / 256)

/-- The number whose bytes these are, least significant first. -/
def ofLe : List Byte → Nat
  | [] => 0
  | b :: bs => b.toNat + 256 * ofLe bs

/-- A word's bytes, least significant first. -/
def wordBytes (w : Word) : List Byte := leBytes 4 w.toNat

/-- Words as bytes, least significant byte of each first. -/
def wordsBytes (ws : List Word) : List Byte := ws.flatMap wordBytes

/-- Bytes as words, least significant byte first; missing bytes read 0. -/
def bytesWords (n : Nat) (bs : List Byte) : List Word :=
  (List.range n).map fun k => BitVec.ofNat 32 (ofLe ((bs.drop (4 * k)).take 4))

/-- The number at byte offset `o` of `n` bytes, least significant first. -/
def leAt (bs : List Byte) (o n : Nat) : Nat := ofLe ((bs.drop o).take n)

/-- One bit of a reflected CRC-32 with its polynomial bit-reversed. -/
def crc32Bit (poly : Word) (c : Word) : Word :=
  if c.getLsbD 0 then (c >>> 1) ^^^ poly else c >>> 1

/-- One byte of a reflected CRC-32. -/
def crc32Byte (poly : Word) (c : Word) (b : Byte) : Word :=
  let c := c ^^^ b.setWidth 32
  crc32Bit poly (crc32Bit poly (crc32Bit poly (crc32Bit poly
    (crc32Bit poly (crc32Bit poly (crc32Bit poly (crc32Bit poly c)))))))

/-- CRC-32 of R158: reflected polynomial 0x04C1_1DB7, initial value and final exclusive-or all ones. -/
def crc32 (bs : List Byte) : Word := ~~~ bs.foldl (crc32Byte 0xEDB88320) 0xFFFFFFFF

/-- The bits of a word in reverse order. -/
def revWord (w : Word) : Word :=
  (List.range 32).foldl (fun r k => if w.getLsbD k then r ||| (1#32 <<< (31 - k)) else r) 0

/-- The safety CRC of R557: reflected polynomial 0x1EDC_6F41, initial value SEED, final exclusive-or all ones. -/
def scrc (seed : Word) (bs : List Byte) : Word := ~~~ bs.foldl (crc32Byte 0x82F63B78) (revWord seed)

/-- One bit of the CRC-16 of R610. -/
def crc16Bit (c : BitVec 16) : BitVec 16 := if c.getLsbD 15 then (c <<< 1) ^^^ 0x1021 else c <<< 1

/-- One byte of the CRC-16 of R610. -/
def crc16Byte (c : BitVec 16) (b : Byte) : BitVec 16 :=
  let c := c ^^^ (b.setWidth 16 <<< 8)
  crc16Bit (crc16Bit (crc16Bit (crc16Bit (crc16Bit (crc16Bit (crc16Bit (crc16Bit c)))))))

/-- CRC-16 of R610: polynomial 0x1021, not reflected, initial value 0xFFFF, final exclusive-or 0. -/
def crc16 (bs : List Byte) : BitVec 16 := bs.foldl crc16Byte 0xFFFF

/-! ### SHA-256, HMAC and PBKDF2 (the functions R159 and R173 name)

The constants of SHA-256 are computed from what they are: the first 32 bits of the fractional parts of roots of the first
primes. The hash runs on two sequences of words, A and E, of which each round needs the last four. -/

/-- The largest `r` with `r ^ k ≤ n` among the numbers that agree with `r` above bit `bits`. -/
def floorRoot (k n : Nat) : Nat → Nat → Nat
  | 0, r => r
  | bits + 1, r => floorRoot k n bits (if (r + 2 ^ bits) ^ k ≤ n then r + 2 ^ bits else r)

/-- The first 32 bits of the fractional part of the `k`-th root of `p`, for roots below 8. -/
def rootFraction (k p : Nat) : Word := BitVec.ofNat 32 (floorRoot k (p * 2 ^ (32 * k)) 35 0)

/-- The 64 primes up to 311: no prime up to 17 divides one of them properly. -/
def primes64 : List Nat :=
  (List.range 312).filter fun n => 1 < n && [2, 3, 5, 7, 11, 13, 17].all fun d => n % d != 0 || n == d

/-- The constant each round adds. -/
def shaRoundKeys : List Word := primes64.map (rootFraction 3)

/-- The two sequences, newest word first. -/
structure Mill where
  as : List Word
  es : List Word
  deriving DecidableEq, Repr

/-- Before the first block both sequences hold the square roots' fractions. -/
def Mill.start : Mill :=
  { as := (primes64.take 4).map (rootFraction 2), es := ((primes64.drop 4).take 4).map (rootFraction 2) }

/-- A word turned right by each of the amounts, the results added without carry. -/
def turns (rs : List Nat) (w : Word) : Word := (rs.map w.rotateRight).foldl (· ^^^ ·) 0

/-- Each bit of `y` where `m` is 1, of `n` where it is 0. -/
def pick (m y n : Word) : Word := n ^^^ (m &&& (n ^^^ y))

/-- Each bit as most of the three words have it. -/
def majority (x y z : Word) : Word := (x &&& y) ||| (z &&& (x ||| y))

/-- One round: the next word of both sequences, from the last four of each and the sum of round key and message word. -/
def Mill.turn (m : Mill) (kw : Word) : Mill :=
  let a (n : Nat) : Word := m.as.getD (n - 1) 0
  let e (n : Nat) : Word := m.es.getD (n - 1) 0
  let t := kw + e 4 + turns [6, 11, 25] (e 1) + pick (e 1) (e 2) (e 3)
  { as := (t + turns [2, 13, 22] (a 1) + majority (a 1) (a 2) (a 3)) :: m.as, es := (a 4 + t) :: m.es }

/-- The message stretched by `n` words beyond those given, newest first. -/
def stretch : Nat → List Word → List Word
  | 0, ws => ws
  | n + 1, ws =>
    let older (k : Nat) : Word := ws.getD (k - 1) 0
    let near := turns [17, 19] (older 2) ^^^ (older 2 >>> 10)
    let far := turns [7, 18] (older 15) ^^^ (older 15 >>> 3)
    stretch n ((near + older 7 + far + older 16) :: ws)

/-- One block of 16 words: 64 rounds, then each of the last four words of both sequences is added to the one it replaces. -/
def Mill.block (m : Mill) (ws : List Word) : Mill :=
  let sums := List.zipWith (· + ·) shaRoundKeys (stretch 48 ws.reverse).reverse
  let last := sums.foldl Mill.turn m
  { as := List.zipWith (· + ·) m.as (last.as.take 4), es := List.zipWith (· + ·) m.es (last.es.take 4) }

/-- A word's bytes, most significant first. -/
def beBytes (w : Word) : List Byte := (wordBytes w).reverse

/-- The 16 words of a block of bytes, most significant byte first. -/
def beWords (bs : List Byte) : List Word :=
  (List.range 16).map fun k => BitVec.ofNat 32 (ofLe ((bs.drop (4 * k)).take 4).reverse)

/-- `n` blocks of 64 bytes in order. -/
def Mill.blocks (m : Mill) (n : Nat) (bs : List Byte) : Mill :=
  (List.range n).foldl (fun m k => m.block (beWords ((bs.drop (64 * k)).take 64))) m

/-- A message, then a 1 bit and zeros that leave 8 bytes of a whole block, then the count of its bits. -/
def shaPadded (bs : List Byte) : List Byte :=
  bs ++ 0x80 :: List.replicate ((64 + 55 - bs.length % 64) % 64) 0 ++ (leBytes 8 (8 * bs.length)).reverse

/-- SHA-256. -/
def sha256 (bs : List Byte) : List Byte :=
  let m := Mill.start.blocks ((bs.length + 72) / 64) (shaPadded bs)
  (List.range 8).flatMap fun k => beBytes (if k < 4 then m.as.getD k 0 else m.es.getD (k - 4) 0)

/-- HMAC with SHA-256. -/
def hmacSha256 (key msg : List Byte) : List Byte :=
  let k := if 64 < key.length then sha256 key else key
  let k := k ++ List.replicate (64 - k.length) 0
  sha256 (k.map (· ^^^ 0x5C) ++ sha256 (k.map (· ^^^ 0x36) ++ msg))

def xorBytes (a b : List Byte) : List Byte := List.zipWith (· ^^^ ·) a b

/-- The first block of PBKDF2 with HMAC-SHA-256 (32 bytes). -/
def pbkdf2Loop (pw : List Byte) : Nat → List Byte → List Byte → List Byte
  | 0, _, acc => acc
  | n + 1, u, acc => let u := hmacSha256 pw u; pbkdf2Loop pw n u (xorBytes acc u)

def pbkdf2 (pw salt : List Byte) (count : Nat) : List Byte :=
  let u := hmacSha256 pw (salt ++ [0, 0, 0, 1])
  pbkdf2Loop pw (count - 1) u u

end Sys2Proof.Machine
end

