-- ==== Sys2Proof/Machine/Codes.lean ====
section
/-! DEFINITION. The codes that registers, items and records show for the named states. -/

namespace Sys2Proof.Machine

/-- Number of an island (R17, R18). -/
def islandNum : Island → Nat
  | .aon => 0 | .pwr => 1 | .mgt => 2 | .qf => 3 | .sfi => 4 | .mpi => 5 | .mc0 => 6 | .mc1 => 7
  | .mc2 => 8 | .mc3 => 9 | .sch => 10 | .seq => 11 | .bus => 12

/-- Every island, in the order of their numbers. -/
def allIslands : List Island :=
  [.aon, .pwr, .mgt, .qf, .sfi, .mpi, .mc0, .mc1, .mc2, .mc3, .sch, .seq, .bus]

/-- Island of motor engine `m` (R30). -/
def motorIsland (m : Nat) : Island :=
  match m with
  | 0 => .mc0
  | 1 => .mc1
  | 2 => .mc2
  | _ => .mc3

def tempoStatCode : TempoStat → Nat
  | .idle => 0 | .deferred => 1 | .switching => 2 | .done => 3 | .refused => 4

def drcStatCode : DrcStat → Nat
  | .notRun => 0 | .running => 1 | .pass => 2 | .fail => 3 | .probeError => 4 | .waitingVfld => 5

def padClassCode : PadClass → Nat
  | .pulldown => 0 | .pullup => 1 | .none => 2 | .outOfBand => 3 | .notChecked => 4

def hibCode : HibState → Nat
  | .run => 0 | .entering => 1 | .refused => 2

def rescueCode : RescueState → Nat
  | .idle => 0 | .confirming => 1 | .stopping => 2 | .estimating => 3 | .moving => 4 | .doors => 5 | .done => 6
  | .hold => 7 | .abandoned => 8 | .disabled => 9

def causeCode : ResetCause → Nat
  | .powerOn => 1 | .resetPin => 2 | .mgmtRequest => 3 | .structureReload => 4 | .wake => 5 | .startTimeout => 6

def roleCode : Role → Nat
  | .cartop => 1 | .machine => 2 | .group => 3 | .machineGroup => 4 | .vaultstn => 5 | .referee => 6

def loaderCode : LoaderStat → Nat
  | .idle => 0 | .busy => 1 | .done => 2 | .refused => 3 | .deferred => 4

def fusionCode : FusionState → Nat
  | .off => 0 | .unknown => 1 | .tracking => 2 | .degraded => 3 | .invalid => 4

def runKindCode : RunKind → Nat
  | .none => 0 | .learn => 1 | .home => 2

def plannerCode : PlannerState → Nat
  | .idle => 0 | .running => 1 | .stopping => 2 | .dwell => 3 | .arriving => 4 | .locked => 5

def bridgeCode : BridgeState → Nat
  | .idle => 0 | .align => 1 | .run => 2 | .fault => 3

def doorCode : DoorState → Nat
  | .unhomed => 0 | .homing => 1 | .closed => 2 | .opening => 3 | .open_ => 4 | .closing => 5 | .reversing => 6
  | .nudging => 7 | .stopped => 8 | .learning => 9

def ctxStateCode : CtxState → Nat
  | .registered => 1 | .assigned => 2 | .committed => 3 | .serving => 4 | .live => 5

def ctxKindCode : CtxKind → Nat
  | .hallUp => 1 | .hallDn => 2 | .car => 3 | .session => 4

def driveCode : DriveState → Nat
  | .out => 0 | .idle => 1 | .moving => 2 | .atFloor => 3

def schedCode : SchedState → Nat
  | .off => 0 | .running => 1 | .resync => 2 | .standby => 3

def figCode : FigState → Nat
  | .idle => 0 | .running => 1 | .waiting => 2 | .aborting => 3 | .fault => 4

def latCode : LatState → Nat
  | .off => 0 | .started => 1 | .running => 2 | .fault => 3 | .reloading => 4 | .deferred => 5

def timeCode : TimeState → Nat
  | .off => 0 | .unsync => 1 | .acquiring => 2 | .locked => 3 | .holdover => 4 | .master => 5

def connCode : ConnState → Nat
  | .closed => 0 | .syncing => 1 | .run => 2 | .stale => 3 | .sending => 4 | .halted => 5

def leaseCode : LeaseState → Nat
  | .none => 0 | .active => 1 | .standby => 2 | .seeking => 3

def handCode : HandState → Nat
  | .idle => 0 | .deferred => 1 | .finalEpoch => 2 | .released => 3 | .done => 4 | .aborted => 5

def copyCode : CopyState → Nat
  | .none => 0 | .fresh => 1 | .stale => 2

def issuerCode : IssuerState → Nat
  | .off => 0 | .starting => 1 | .holding => 2 | .waiting => 3

end Sys2Proof.Machine
end

