-- ==== Sys2Proof/Machine/Table.lean ====
section
/-! DEFINITION. The operations on tables: a read with a default, a write that keeps the canonical form. -/

namespace Sys2Proof

/-- The value at key `k`; a key not listed holds `d`. -/
def Tbl.get {α : Type} (t : Tbl α) (d : α) (k : Nat) : α :=
  match t with
  | [] => d
  | (j, v) :: t => if j = k then v else Tbl.get t d k

/-- Put `v` at key `k`, keys rising. -/
def Tbl.insert {α : Type} (t : Tbl α) (k : Nat) (v : α) : Tbl α :=
  match t with
  | [] => [(k, v)]
  | (j, w) :: t =>
    if k < j then (k, v) :: (j, w) :: t
    else if k = j then (k, v) :: t
    else (j, w) :: Tbl.insert t k v

/-- Write `v` at key `k`; writing the default removes the entry. -/
def Tbl.set {α : Type} [DecidableEq α] (t : Tbl α) (d : α) (k : Nat) (v : α) : Tbl α :=
  if v = d then t.filter (fun e => e.1 != k) else Tbl.insert t k v

/-- Change the value at key `k`. -/
def Tbl.modify {α : Type} [DecidableEq α] (t : Tbl α) (d : α) (k : Nat) (f : α → α) : Tbl α :=
  t.set d k (f (t.get d k))

/-- The canonical form: keys strictly rising, no entry equal to the default. -/
def Tbl.wf {α : Type} [DecidableEq α] (d : α) (t : Tbl α) : Bool :=
  match t with
  | [] => true
  | (j, v) :: t => v != d && t.all (fun e => j < e.1) && Tbl.wf d t

end Sys2Proof
end

