-- ==== Sys2Proof/Machine/Registers.lean ====
section
/-! DEFINITION. The registers of the device: names, addresses, fields, access types, reset values and the ranges
writes are clamped to, register by register as the chapters' tables give them. Each register's rule stands beside it.
Loop-engine registers are laid out by engine (R30), so their base is the offset in the engine. -/

namespace Sys2Proof.Machine

/-- Access types of a field (R14, R15). -/
inductive Access where
  | ro | rw | rwl | rwk | w1c | wo
  deriving DecidableEq, Repr

/-- How a write outside a field's range is brought into it: not at all, to the nearer end of an unsigned or a signed
range, to the value of MCm_IMAX (R332), or to a third of LEASEMS (R606). -/
inductive Clamp where
  | none
  | unsigned (lo hi : Nat)
  | signed (lo hi : Int)
  | toImax
  | toLeaseThird
  deriving DecidableEq, Repr

/-- One field of a register: bits, access type, reset value, range. -/
structure FieldSpec where
  hi    : Nat
  lo    : Nat
  acc   : Access
  reset : Nat
  clamp : Clamp
  deriving DecidableEq, Repr

/-- The registers by their names in the spec; an indexed register has one name and takes its indexes beside it. -/
inductive Reg where
  /-- R5 -/
  | SYS_ID
  /-- R36 -/
  | SYS_TEMPO
  /-- R37 -/
  | SYS_TEMPOSTAT
  /-- R63 -/
  | MGT_DRCSTAT
  /-- R64 -/
  | MGT_DRCSEL
  /-- R65 -/
  | MGT_DRCRES
  /-- R66 -/
  | MGT_DRCVOC
  /-- R66 -/
  | MGT_DRCDH
  /-- R66 -/
  | MGT_DRCDL
  /-- R71 -/
  | SFI_LEPCFG
  /-- R72 -/
  | SFI_LEPVSET
  /-- R72 -/
  | SFI_LEPILIM
  /-- R73 -/
  | SFI_LEPSTAT
  /-- R86 -/
  | PWR_GATE
  /-- R94 -/
  | PWR_STATE
  /-- R95 -/
  | PWR_WAKEEN
  /-- R96 -/
  | PWR_SUP
  /-- R97 -/
  | PWR_VMAINMV
  /-- R97 -/
  | PWR_VFLDMV
  /-- R97 -/
  | PWR_VBATMV
  /-- R97 -/
  | PWR_PFAILV
  /-- R112 -/
  | PWR_RESCFG
  /-- R113 -/
  | PWR_RESVCUT
  /-- R113 -/
  | PWR_RESRINT
  /-- R113 -/
  | PWR_RESIPK
  /-- R113 -/
  | PWR_RESQCAP
  /-- R113 -/
  | PWR_RESVFULL
  /-- R113 -/
  | PWR_RESITAPER
  /-- R113 -/
  | PWR_RESETA
  /-- R113 -/
  | PWR_RESMARGIN
  /-- R113 -/
  | PWR_RESPAUX
  /-- R113 -/
  | PWR_RESEDOOR
  /-- R113 -/
  | PWR_RESQREM
  /-- R114 -/
  | PWR_RESSTAT
  /-- R114 -/
  | PWR_RESEAVL
  /-- R114 -/
  | PWR_RESEREQ
  /-- R114 -/
  | PWR_RESVMIN
  /-- R113 -/
  | PWR_RESVEL
  /-- R136 -/
  | SYS_STAT
  /-- R137 -/
  | SYS_BOOT
  /-- R138 -/
  | SYS_RSTCAUSE
  /-- R138 -/
  | SYS_STARTUS
  /-- R139 -/
  | AON_RSTHOLD
  /-- R140 -/
  | MGT_RSTREQ
  /-- R181 -/
  | MGT_LDSTAT
  /-- R182 -/
  | MGT_SLOTCMD
  /-- R183 -/
  | MGT_SLOTADDR
  /-- R183 -/
  | MGT_SLOTDATA
  /-- R184 -/
  | MGT_PWDATA
  /-- R184 -/
  | MGT_PWCMD
  /-- R184 -/
  | MGT_PWSTAT
  /-- R184 -/
  | MGT_KEYDATA
  /-- R184 -/
  | MGT_KEYCMD
  /-- R184 -/
  | MGT_KEYSTAT
  /-- R185 -/
  | MGT_CLOGNEXT
  /-- R185 -/
  | MGT_CLOGSEL
  /-- R185 -/
  | MGT_OVLSTAT
  /-- R185 -/
  | MGT_OVLKEY
  /-- R185 -/
  | MGT_IMGCRC
  /-- R185 -/
  | MGT_CLOGDATA
  /-- R217 -/
  | QF_QCFG
  /-- R218 -/
  | QF_QSTAT
  /-- R219 -/
  | QF_QDATA
  /-- R219 -/
  | QF_QLOST
  /-- R220 -/
  | QF_FSTAT
  /-- R220 -/
  | QF_PARERR
  /-- R220 -/
  | QF_LTAG
  /-- R220 -/
  | QF_LTAGSTAT
  /-- R220 -/
  | QF_FCTL
  /-- R220 -/
  | QF_QFDROP
  /-- R220 -/
  | QF_QEP
  /-- R220 -/
  | QF_QTMO
  /-- R239 -/
  | MPI_LVLO
  /-- R239 -/
  | MPI_LVHI
  /-- R239 -/
  | MPI_LTRIM
  /-- R239 -/
  | MPI_LLEVEL
  /-- R249 -/
  | MPI_FCFG
  /-- R250 -/
  | MPI_FSTAT
  /-- R251 -/
  | MPI_FPOS
  /-- R251 -/
  | MPI_FBOUND
  /-- R251 -/
  | MPI_FPLO
  /-- R251 -/
  | MPI_FPHI
  /-- R251 -/
  | MPI_FVEL
  /-- R251 -/
  | MPI_FCYCLE
  /-- R252 -/
  | MPI_FCMD
  /-- R252 -/
  | MPI_FRUN
  /-- R252 -/
  | MPI_FSW
  /-- R252 -/
  | MPI_FSWMAP
  /-- R253 -/
  | MPI_ENCSCALE
  /-- R253 -/
  | MPI_ENCPPM
  /-- R253 -/
  | MPI_ENCRATE
  /-- R253 -/
  | MPI_SSISCALE
  /-- R253 -/
  | MPI_SSIOFS
  /-- R253 -/
  | MPI_SSIERR
  /-- R253 -/
  | MPI_SSILAT
  /-- R253 -/
  | MPI_VANEERR
  /-- R253 -/
  | MPI_VANELAT
  /-- R253 -/
  | MPI_VANEDISC
  /-- R253 -/
  | MPI_VANECAP
  /-- R253 -/
  | MPI_VERR
  /-- R253 -/
  | MPI_BMAX
  /-- R253 -/
  | MPI_XRUN
  /-- R253 -/
  | MPI_MISSRUN
  /-- R253 -/
  | MPI_DZHALF
  /-- R253 -/
  | MPI_ADEC
  /-- R253 -/
  | MPI_LEARNVEL
  /-- R253 -/
  | MPI_NLAND
  /-- R253 -/
  | MPI_DATUM
  /-- R253 -/
  | MPI_HOMEERR
  /-- R253 -/
  | MPI_NTSDN
  /-- R253 -/
  | MPI_NTSUP
  /-- R253 -/
  | MPI_LTABCRC
  /-- R254 -/
  | MPI_PVICFG
  /-- R254 -/
  | MPI_PVIARG
  /-- R254 -/
  | MPI_PVISTAT
  /-- R275 -/
  | MPI_KNT
  /-- R275 -/
  | MPI_KNP
  /-- R275 -/
  | MPI_KNV
  /-- R293 -/
  | MPI_PLCFG
  /-- R294 -/
  | MPI_PLSTAT
  /-- R293 -/
  | MPI_PLCTL
  /-- R296 -/
  | MPI_PLCORR
  /-- R296 -/
  | MPI_PLVMAX
  /-- R296 -/
  | MPI_PLAMAX
  /-- R296 -/
  | MPI_PLDMAX
  /-- R296 -/
  | MPI_PLJMAX
  /-- R296 -/
  | MPI_PLQDMAX
  /-- R296 -/
  | MPI_PLQJMAX
  /-- R296 -/
  | MPI_PLSOFTLO
  /-- R296 -/
  | MPI_PLSOFTHI
  /-- R296 -/
  | MPI_PLARRTOL
  /-- R296 -/
  | MPI_PLARRWAIT
  /-- R296 -/
  | MPI_PLDEGVEL
  /-- R296 -/
  | MPI_PLREVDWELL
  /-- R296 -/
  | MPI_PLPDSCALE
  /-- R296 -/
  | MPI_PLMCAR
  /-- R296 -/
  | MPI_PLMCW
  /-- R296 -/
  | MPI_PLMROT
  /-- R296 -/
  | MPI_PLFRIC
  /-- R296 -/
  | MPI_PLLOAD
  /-- R296 -/
  | MPI_PLREFPOS
  /-- R296 -/
  | MPI_PLREFVEL
  /-- R296 -/
  | MPI_PLREFACC
  /-- R296 -/
  | MPI_PLSTOPPOS
  /-- R296 -/
  | MPI_PLCURID
  /-- R296 -/
  | MPI_PLMOVES
  /-- R295 -/
  | MPI_PLSTEP
  /-- R296 -/
  | MPI_PLUSCALE
  /-- R296 -/
  | MPI_PLESCALE
  /-- R296 -/
  | MPI_PLDEVWIN
  /-- R296 -/
  | MPI_PLHOLDDLY
  /-- R297 -/
  | MPI_PLTAB
  /-- R326 -/
  | LECTL
  /-- R328 -/
  | LEHOLD
  /-- R327 -/
  | LESTAT
  /-- R328 -/
  | LEMISSCNT
  /-- R328 -/
  | LEOUT
  /-- R328 -/
  | LESAMPLE
  /-- R328 -/
  | LEFFSRC
  /-- R328 -/
  | LEKA
  /-- R328 -/
  | LEKV
  /-- R328 -/
  | LEVNOM
  /-- R328 -/
  | LECMD
  /-- R329 -/
  | LSCFG
  /-- R330 -/
  | LSKP
  /-- R330 -/
  | LSKI
  /-- R330 -/
  | LSKD
  /-- R330 -/
  | LSOUTMIN
  /-- R330 -/
  | LSOUTMAX
  /-- R330 -/
  | LSTRACK
  /-- R330 -/
  | LSSETP
  /-- R330 -/
  | LSRATE
  /-- R330 -/
  | LSJERK
  /-- R330 -/
  | LSSP
  /-- R330 -/
  | LSMEAS
  /-- R330 -/
  | LSU
  /-- R330 -/
  | LSI
  /-- R331 -/
  | MC_CFG
  /-- R331 -/
  | MC_CTL
  /-- R331 -/
  | MC_STAT
  /-- R332 -/
  | MC_KPC
  /-- R332 -/
  | MC_KIC
  /-- R332 -/
  | MC_IMAX
  /-- R332 -/
  | MC_OCLIM
  /-- R332 -/
  | MC_MODMAX
  /-- R332 -/
  | MC_DEADNS
  /-- R332 -/
  | MC_IDREF
  /-- R332 -/
  | MC_EPR
  /-- R332 -/
  | MC_ALIGNI
  /-- R332 -/
  | MC_ALIGNMS
  /-- R332 -/
  | MC_FBSCALE
  /-- R332 -/
  | MC_VFILT
  /-- R332 -/
  | MC_VDCMIN
  /-- R332 -/
  | MC_IRUN
  /-- R332 -/
  | MC_FBSET
  /-- R332 -/
  | MC_ANGOFS
  /-- R332 -/
  | MC_ID
  /-- R332 -/
  | MC_IQ
  /-- R332 -/
  | MC_VD
  /-- R332 -/
  | MC_VQ
  /-- R332 -/
  | MC_THETA
  /-- R332 -/
  | MC_FBPOS
  /-- R332 -/
  | MC_VEL
  /-- R332 -/
  | MC_VDC
  /-- R332 -/
  | MC_IQD
  /-- R332 -/
  | MC_ADCCFG
  /-- R332 -/
  | MC_ISCALE
  /-- R332 -/
  | MC_IOFS
  /-- R332 -/
  | MC_VSCALE
  /-- R332 -/
  | MC_ICUR
  /-- R332 -/
  | MC_TWOHM
  /-- R367 -/
  | MC_DSTAT
  /-- R368 -/
  | MC_DINMAP
  /-- R368 -/
  | MC_DIN
  /-- R368 -/
  | MC_DSTATION
  /-- R369 -/
  | MC_DKF
  /-- R369 -/
  | MC_DFRICV
  /-- R369 -/
  | MC_DAFILT
  /-- R369 -/
  | MC_DFLIM
  /-- R369 -/
  | MC_DFLIMO
  /-- R369 -/
  | MC_DELIM
  /-- R369 -/
  | MC_DELIMN
  /-- R369 -/
  | MC_DELIMO
  /-- R369 -/
  | MC_DMMARGIN
  /-- R369 -/
  | MC_DMASSMIN
  /-- R369 -/
  | MC_DMASSMAX
  /-- R369 -/
  | MC_DOBSF
  /-- R369 -/
  | MC_DOBSRUN
  /-- R369 -/
  | MC_DCLZONE
  /-- R369 -/
  | MC_DOPENV
  /-- R369 -/
  | MC_DCLOSEV
  /-- R369 -/
  | MC_DNUDGEV
  /-- R369 -/
  | MC_DHOMEV
  /-- R369 -/
  | MC_DLRNV
  /-- R369 -/
  | MC_DLRNA
  /-- R369 -/
  | MC_DHOMEF
  /-- R369 -/
  | MC_DSTALLV
  /-- R369 -/
  | MC_DSTALLMS
  /-- R369 -/
  | MC_DSTALLPOS
  /-- R369 -/
  | MC_DOPENGAP
  /-- R369 -/
  | MC_DCOUPLEPOS
  /-- R369 -/
  | MC_DREVLIM
  /-- R369 -/
  | MC_DSESSGRACE
  /-- R369 -/
  | MC_DCLOSETOL
  /-- R369 -/
  | MC_DCLOSEWAIT
  /-- R369 -/
  | MC_DEOVR
  /-- R369 -/
  | MC_DEORUN
  /-- R369 -/
  | MC_DDINAGE
  /-- R369 -/
  | MC_DTRAVEL
  /-- R369 -/
  | MC_DMLEARN
  /-- R369 -/
  | MC_DFRICL
  /-- R369 -/
  | MC_DLCRC
  /-- R369 -/
  | MC_DFOBS
  /-- R369 -/
  | MC_DEKIN
  /-- R369 -/
  | MC_DVADM
  /-- R369 -/
  | MC_DFLIMNOW
  /-- R369 -/
  | MC_DMUSE
  /-- R369 -/
  | MC_DREVCOUNT
  /-- R369 -/
  | MC_DOBSPOS
  /-- R369 -/
  | MC_DACC
  /-- R407 -/
  | SCH_CFG
  /-- R407 -/
  | SCH_CTL
  /-- R407 -/
  | SCH_STAT
  /-- R408 -/
  | SCH_OPEN
  /-- R408 -/
  | SCH_RECOMP
  /-- R408 -/
  | SCH_MISSCNT
  /-- R408 -/
  | SCH_WT
  /-- R408 -/
  | SCH_WD
  /-- R408 -/
  | SCH_HYST
  /-- R408 -/
  | SCH_LEADMS
  /-- R408 -/
  | SCH_PENDMAX
  /-- R408 -/
  | SCH_SESSMAX
  /-- R408 -/
  | SCH_GRANTPER
  /-- R408 -/
  | SCH_GRANTAGE
  /-- R408 -/
  | SCH_RESENDWAIT
  /-- R408 -/
  | SCH_FRAMEOFS
  /-- R408 -/
  | SCH_CTXSEL
  /-- R408 -/
  | SCH_CTXTIME
  /-- R408 -/
  | SCH_CTXCOST
  /-- R408 -/
  | SCH_CTXTTS
  /-- R408 -/
  | SCH_CTXREM
  /-- R409 -/
  | SCH_CTXA
  /-- R409 -/
  | SCH_CTXB
  /-- R410 -/
  | SCH_CVMAX
  /-- R410 -/
  | SCH_CAMAX
  /-- R410 -/
  | SCH_CDMAX
  /-- R410 -/
  | SCH_CJMAX
  /-- R410 -/
  | SCH_CDWELL
  /-- R410 -/
  | SCH_CSLOSS
  /-- R410 -/
  | SCH_CFULL
  /-- R410 -/
  | SCH_CLOAD
  /-- R410 -/
  | SCH_CSTAT
  /-- R410 -/
  | SCH_CPOS
  /-- R410 -/
  | SCH_CVEL
  /-- R411 -/
  | SCH_FLVL
  /-- R411 -/
  | SCH_GSERVE
  /-- R411 -/
  | SCH_STN
  /-- R440 -/
  | SEQ_FCFG
  /-- R440 -/
  | SEQ_FCTL
  /-- R441 -/
  | SEQ_FSTAT
  /-- R442 -/
  | SEQ_FEND
  /-- R442 -/
  | SEQ_FFLAG
  /-- R442 -/
  | SEQ_FSIG
  /-- R442 -/
  | SEQ_FSTEPMAX
  /-- R442 -/
  | SEQ_FSTEPS
  /-- R442 -/
  | SEQ_FG
  /-- R442 -/
  | SEQ_FTMR
  /-- R442 -/
  | SEQ_FTMRST
  /-- R443 -/
  | SEQ_OUTLVL0
  /-- R443 -/
  | SEQ_OUTLVL1
  /-- R443 -/
  | SEQ_INLVL0
  /-- R443 -/
  | SEQ_INLVL1
  /-- R413 -/
  | SEQ_FSTORE
  /-- R478 -/
  | SFI_LATCTL
  /-- R478 -/
  | SFI_LATSTAT
  /-- R479 -/
  | SFI_LATPASS
  /-- R479 -/
  | SFI_LATMCRC
  /-- R479 -/
  | SFI_LATERR
  /-- R479 -/
  | SFI_FLTIN
  /-- R479 -/
  | SFI_SIIN
  /-- R479 -/
  | SFI_CTIN
  /-- R479 -/
  | SFI_VIIN
  /-- R479 -/
  | SFI_COUT
  /-- R479 -/
  | SFI_TMR
  /-- R445 -/
  | SFI_CELL
  /-- R480 -/
  | SFI_LEPTEST
  /-- R480 -/
  | SFI_ACKCFG
  /-- R481 -/
  | SFI_SICFG
  /-- R481 -/
  | SFI_SISTAT
  /-- R482 -/
  | SFI_CTCFG
  /-- R482 -/
  | SFI_CTMV
  /-- R482 -/
  | SFI_NVOSEL
  /-- R483 -/
  | SFI_SOCFG
  /-- R483 -/
  | SFI_SOTEST
  /-- R483 -/
  | SFI_SOSTAT
  /-- R483 -/
  | SFI_SOCNT
  /-- R507 -/
  | SFI_FRMASK
  /-- R508 -/
  | SFI_FRSTAT
  /-- R508 -/
  | SFI_ACKSTAT
  /-- R509 -/
  | SFI_TESTCTL
  /-- R509 -/
  | SFI_TESTSTAT
  /-- R510 -/
  | MGT_BLKSTAT
  /-- R510 -/
  | MGT_QCLR
  /-- R511 -/
  | MPI_DEGTIME
  /-- R511 -/
  | MPI_DEGOPEN
  /-- R511 -/
  | MPI_DEGSTAT
  /-- R549 -/
  | BUS_CANCTL
  /-- R549 -/
  | BUS_CANSTAT
  /-- R550 -/
  | BUS_CANNBT
  /-- R550 -/
  | BUS_CANDBT
  /-- R550 -/
  | BUS_CANTDC
  /-- R551 -/
  | BUS_CANCNT
  /-- R551 -/
  | BUS_CANNOMATCH
  /-- R551 -/
  | BUS_CANTXSTAT
  /-- R551 -/
  | BUS_CANTXCANCEL
  /-- R551 -/
  | BUS_CANTXW
  /-- R551 -/
  | BUS_CANTXGO
  /-- R552 -/
  | BUS_CANTXPCFG
  /-- R552 -/
  | BUS_CANTXPID
  /-- R553 -/
  | BUS_RBCFG
  /-- R553 -/
  | BUS_RBID
  /-- R553 -/
  | BUS_RBMASK
  /-- R553 -/
  | BUS_RBSTAT
  /-- R553 -/
  | BUS_RBW
  /-- R554 -/
  | BUS_TSCFG
  /-- R554 -/
  | BUS_TSCTL
  /-- R554 -/
  | BUS_TSSTAT
  /-- R554 -/
  | BUS_TSRATE
  /-- R554 -/
  | BUS_TSCORR
  /-- R554 -/
  | BUS_TSERR
  /-- R554 -/
  | BUS_TSNTLO
  /-- R554 -/
  | BUS_TSNTHI
  /-- R554 -/
  | BUS_TSLOCKNS
  /-- R554 -/
  | BUS_TSSTEPNS
  /-- R554 -/
  | BUS_TSHOLDMS
  /-- R572 -/
  | BUS_PXSTAT
  /-- R572 -/
  | BUS_PXCTL
  /-- R572 -/
  | BUS_PXUNKNOWN
  /-- R573 -/
  | BUS_PXCCFG
  /-- R573 -/
  | BUS_PXCCAN
  /-- R573 -/
  | BUS_PXCNODE
  /-- R573 -/
  | BUS_PXCPER
  /-- R573 -/
  | BUS_PXCAGE
  /-- R573 -/
  | BUS_PXCMAP
  /-- R573 -/
  | BUS_PXCTM
  /-- R573 -/
  | BUS_PXCSTAT
  /-- R573 -/
  | BUS_PXCERR
  /-- R605 -/
  | SFI_LSCFG
  /-- R605 -/
  | SFI_LSCTL
  /-- R605 -/
  | SFI_LSSTAT
  /-- R606 -/
  | SFI_LSHELD
  /-- R606 -/
  | SFI_LSHIGH
  /-- R606 -/
  | SFI_LSREM
  /-- R606 -/
  | SFI_LSCNT
  /-- R606 -/
  | BUS_LICFG
  /-- R606 -/
  | BUS_LICTL
  /-- R606 -/
  | BUS_LISTAT
  /-- R606 -/
  | BUS_LINUM
  /-- R607 -/
  | BUS_EPCFG
  /-- R607 -/
  | BUS_EPCTL
  /-- R607 -/
  | BUS_EPMAXAGE
  /-- R607 -/
  | BUS_EPSEQ
  /-- R607 -/
  | MGT_EPNUM
  /-- R633 -/
  | MGT_RECSTAT
  /-- R633 -/
  | MGT_RECCTL
  /-- R634 -/
  | MGT_RECNEXT
  /-- R634 -/
  | MGT_RECOLDEST
  /-- R634 -/
  | MGT_RECBIRTH
  /-- R634 -/
  | MGT_RECSEL
  /-- R634 -/
  | MGT_RECRES
  /-- R634 -/
  | MGT_RECDATA
  /-- R634 -/
  | MGT_RECDROP
  /-- R634 -/
  | MGT_WEARSEL
  /-- R634 -/
  | MGT_WEARLO
  /-- R634 -/
  | MGT_WEARHI
  /-- R634 -/
  | MGT_WORNCNT
  /-- R635 -/
  | AON_RTCSEC
  /-- R635 -/
  | AON_RTCFRAC
  /-- R635 -/
  | AON_RTCSET
  /-- R635 -/
  | AON_RTCSTAT
  /-- R635 -/
  | AON_TAMPCFG
  /-- R635 -/
  | AON_TAMPSTAT
  /-- R635 -/
  | AON_LOGSTAT
  /-- R631 -/
  | MGT_KEEP
  /-- R656 -/
  | QF_GSTAT
  /-- R656 -/
  | QF_GIRQEN
  /-- R656 -/
  | QF_GIRQSTAT
  /-- R656 -/
  | QF_GTAGCLR
  /-- R656 -/
  | QF_GTAGMAP
  /-- R656 -/
  | QF_GQPEND
  /-- R657 -/
  | MGT_MPCFG
  /-- R657 -/
  | MGT_MPSTAT
  /-- R679 -/
  | PWR_TEMP
  deriving DecidableEq, Repr

/-- Byte address of the register's first instance, or its offset in a loop engine (R30). -/
def Reg.base : Reg → Nat
  | .SYS_ID => 0x000000
  | .SYS_TEMPO => 0x000020
  | .SYS_TEMPOSTAT => 0x000024
  | .MGT_DRCSTAT => 0x200100
  | .MGT_DRCSEL => 0x200104
  | .MGT_DRCRES => 0x200108
  | .MGT_DRCVOC => 0x20010C
  | .MGT_DRCDH => 0x200110
  | .MGT_DRCDL => 0x200114
  | .SFI_LEPCFG => 0x080400
  | .SFI_LEPVSET => 0x080404
  | .SFI_LEPILIM => 0x080408
  | .SFI_LEPSTAT => 0x08040C
  | .PWR_GATE => 0x01001C
  | .PWR_STATE => 0x010000
  | .PWR_WAKEEN => 0x010004
  | .PWR_SUP => 0x010008
  | .PWR_VMAINMV => 0x01000C
  | .PWR_VFLDMV => 0x010010
  | .PWR_VBATMV => 0x010014
  | .PWR_PFAILV => 0x010018
  | .PWR_RESCFG => 0x010040
  | .PWR_RESVCUT => 0x010044
  | .PWR_RESRINT => 0x010048
  | .PWR_RESIPK => 0x01004C
  | .PWR_RESQCAP => 0x010050
  | .PWR_RESVFULL => 0x010054
  | .PWR_RESITAPER => 0x010058
  | .PWR_RESETA => 0x01005C
  | .PWR_RESMARGIN => 0x010060
  | .PWR_RESPAUX => 0x010064
  | .PWR_RESEDOOR => 0x010068
  | .PWR_RESQREM => 0x01006C
  | .PWR_RESSTAT => 0x010070
  | .PWR_RESEAVL => 0x010074
  | .PWR_RESEREQ => 0x010078
  | .PWR_RESVMIN => 0x01007C
  | .PWR_RESVEL => 0x010080
  | .SYS_STAT => 0x000004
  | .SYS_BOOT => 0x000008
  | .SYS_RSTCAUSE => 0x00000C
  | .SYS_STARTUS => 0x000010
  | .AON_RSTHOLD => 0x020010
  | .MGT_RSTREQ => 0x2000F0
  | .MGT_LDSTAT => 0x200000
  | .MGT_SLOTCMD => 0x200004
  | .MGT_SLOTADDR => 0x200008
  | .MGT_SLOTDATA => 0x20000C
  | .MGT_PWDATA => 0x200010
  | .MGT_PWCMD => 0x200014
  | .MGT_PWSTAT => 0x200018
  | .MGT_KEYDATA => 0x20001C
  | .MGT_KEYCMD => 0x200020
  | .MGT_KEYSTAT => 0x200024
  | .MGT_CLOGNEXT => 0x200028
  | .MGT_CLOGSEL => 0x20002C
  | .MGT_OVLSTAT => 0x200030
  | .MGT_OVLKEY => 0x200034
  | .MGT_IMGCRC => 0x200038
  | .MGT_CLOGDATA => 0x200040
  | .QF_QCFG => 0x050000
  | .QF_QSTAT => 0x050004
  | .QF_QDATA => 0x050008
  | .QF_QLOST => 0x05000C
  | .QF_FSTAT => 0x040000
  | .QF_PARERR => 0x040004
  | .QF_LTAG => 0x040008
  | .QF_LTAGSTAT => 0x04000C
  | .QF_FCTL => 0x040010
  | .QF_QFDROP => 0x040800
  | .QF_QEP => 0x041000
  | .QF_QTMO => 0x041800
  | .MPI_LVLO => 0x0C1000
  | .MPI_LVHI => 0x0C1004
  | .MPI_LTRIM => 0x0C1008
  | .MPI_LLEVEL => 0x0C100C
  | .MPI_FCFG => 0x0C0000
  | .MPI_FSTAT => 0x0C0004
  | .MPI_FPOS => 0x0C0008
  | .MPI_FBOUND => 0x0C000C
  | .MPI_FPLO => 0x0C0010
  | .MPI_FPHI => 0x0C0014
  | .MPI_FVEL => 0x0C0018
  | .MPI_FCYCLE => 0x0C001C
  | .MPI_FCMD => 0x0C0020
  | .MPI_FRUN => 0x0C0024
  | .MPI_FSW => 0x0C0028
  | .MPI_FSWMAP => 0x0C002C
  | .MPI_ENCSCALE => 0x0C0040
  | .MPI_ENCPPM => 0x0C0044
  | .MPI_ENCRATE => 0x0C0048
  | .MPI_SSISCALE => 0x0C004C
  | .MPI_SSIOFS => 0x0C0050
  | .MPI_SSIERR => 0x0C0054
  | .MPI_SSILAT => 0x0C0058
  | .MPI_VANEERR => 0x0C005C
  | .MPI_VANELAT => 0x0C0060
  | .MPI_VANEDISC => 0x0C0064
  | .MPI_VANECAP => 0x0C0068
  | .MPI_VERR => 0x0C006C
  | .MPI_BMAX => 0x0C0070
  | .MPI_XRUN => 0x0C0074
  | .MPI_MISSRUN => 0x0C0078
  | .MPI_DZHALF => 0x0C007C
  | .MPI_ADEC => 0x0C0080
  | .MPI_LEARNVEL => 0x0C0084
  | .MPI_NLAND => 0x0C0088
  | .MPI_DATUM => 0x0C008C
  | .MPI_HOMEERR => 0x0C0090
  | .MPI_NTSDN => 0x0C00A0
  | .MPI_NTSUP => 0x0C00A4
  | .MPI_LTABCRC => 0x0C00A8
  | .MPI_PVICFG => 0x0C0100
  | .MPI_PVIARG => 0x0C0104
  | .MPI_PVISTAT => 0x0C0180
  | .MPI_KNT => 0x0D0000
  | .MPI_KNP => 0x0D0004
  | .MPI_KNV => 0x0D0008
  | .MPI_PLCFG => 0x0C4000
  | .MPI_PLSTAT => 0x0C4004
  | .MPI_PLCTL => 0x0C4008
  | .MPI_PLCORR => 0x0C400C
  | .MPI_PLVMAX => 0x0C4010
  | .MPI_PLAMAX => 0x0C4014
  | .MPI_PLDMAX => 0x0C4018
  | .MPI_PLJMAX => 0x0C401C
  | .MPI_PLQDMAX => 0x0C4020
  | .MPI_PLQJMAX => 0x0C4024
  | .MPI_PLSOFTLO => 0x0C4028
  | .MPI_PLSOFTHI => 0x0C402C
  | .MPI_PLARRTOL => 0x0C4030
  | .MPI_PLARRWAIT => 0x0C4034
  | .MPI_PLDEGVEL => 0x0C4038
  | .MPI_PLREVDWELL => 0x0C403C
  | .MPI_PLPDSCALE => 0x0C4040
  | .MPI_PLMCAR => 0x0C4044
  | .MPI_PLMCW => 0x0C4048
  | .MPI_PLMROT => 0x0C404C
  | .MPI_PLFRIC => 0x0C4050
  | .MPI_PLLOAD => 0x0C4054
  | .MPI_PLREFPOS => 0x0C4060
  | .MPI_PLREFVEL => 0x0C4064
  | .MPI_PLREFACC => 0x0C4068
  | .MPI_PLSTOPPOS => 0x0C406C
  | .MPI_PLCURID => 0x0C4070
  | .MPI_PLMOVES => 0x0C4074
  | .MPI_PLSTEP => 0x0C4080
  | .MPI_PLUSCALE => 0x0C4084
  | .MPI_PLESCALE => 0x0C4088
  | .MPI_PLDEVWIN => 0x0C408C
  | .MPI_PLHOLDDLY => 0x0C4090
  | .MPI_PLTAB => 0x0C4100
  | .LECTL => 0x000000
  | .LEHOLD => 0x000004
  | .LESTAT => 0x000008
  | .LEMISSCNT => 0x00000C
  | .LEOUT => 0x000010
  | .LESAMPLE => 0x000014
  | .LEFFSRC => 0x000018
  | .LEKA => 0x00001C
  | .LEKV => 0x000020
  | .LEVNOM => 0x000024
  | .LECMD => 0x000028
  | .LSCFG => 0x000100
  | .LSKP => 0x000104
  | .LSKI => 0x000108
  | .LSKD => 0x00010C
  | .LSOUTMIN => 0x000110
  | .LSOUTMAX => 0x000114
  | .LSTRACK => 0x000118
  | .LSSETP => 0x00011C
  | .LSRATE => 0x000120
  | .LSJERK => 0x000124
  | .LSSP => 0x000128
  | .LSMEAS => 0x00012C
  | .LSU => 0x000130
  | .LSI => 0x000134
  | .MC_CFG => 0x100000
  | .MC_CTL => 0x100004
  | .MC_STAT => 0x100008
  | .MC_KPC => 0x100010
  | .MC_KIC => 0x100014
  | .MC_IMAX => 0x100018
  | .MC_OCLIM => 0x10001C
  | .MC_MODMAX => 0x100020
  | .MC_DEADNS => 0x100024
  | .MC_IDREF => 0x100028
  | .MC_EPR => 0x10002C
  | .MC_ALIGNI => 0x100030
  | .MC_ALIGNMS => 0x100034
  | .MC_FBSCALE => 0x100038
  | .MC_VFILT => 0x10003C
  | .MC_VDCMIN => 0x100040
  | .MC_IRUN => 0x100044
  | .MC_FBSET => 0x100048
  | .MC_ANGOFS => 0x10005C
  | .MC_ID => 0x100060
  | .MC_IQ => 0x100064
  | .MC_VD => 0x100068
  | .MC_VQ => 0x10006C
  | .MC_THETA => 0x100070
  | .MC_FBPOS => 0x100074
  | .MC_VEL => 0x100078
  | .MC_VDC => 0x10007C
  | .MC_IQD => 0x100080
  | .MC_ADCCFG => 0x10C000
  | .MC_ISCALE => 0x10C010
  | .MC_IOFS => 0x10C020
  | .MC_VSCALE => 0x10C030
  | .MC_ICUR => 0x10C040
  | .MC_TWOHM => 0x10C050
  | .MC_DSTAT => 0x100200
  | .MC_DINMAP => 0x100204
  | .MC_DIN => 0x100208
  | .MC_DSTATION => 0x10020C
  | .MC_DKF => 0x100210
  | .MC_DFRICV => 0x100214
  | .MC_DAFILT => 0x100218
  | .MC_DFLIM => 0x10021C
  | .MC_DFLIMO => 0x100220
  | .MC_DELIM => 0x100224
  | .MC_DELIMN => 0x100228
  | .MC_DELIMO => 0x10022C
  | .MC_DMMARGIN => 0x100230
  | .MC_DMASSMIN => 0x100234
  | .MC_DMASSMAX => 0x100238
  | .MC_DOBSF => 0x10023C
  | .MC_DOBSRUN => 0x100240
  | .MC_DCLZONE => 0x100244
  | .MC_DOPENV => 0x100248
  | .MC_DCLOSEV => 0x10024C
  | .MC_DNUDGEV => 0x100250
  | .MC_DHOMEV => 0x100254
  | .MC_DLRNV => 0x100258
  | .MC_DLRNA => 0x10025C
  | .MC_DHOMEF => 0x100260
  | .MC_DSTALLV => 0x100264
  | .MC_DSTALLMS => 0x100268
  | .MC_DSTALLPOS => 0x10026C
  | .MC_DOPENGAP => 0x100270
  | .MC_DCOUPLEPOS => 0x100274
  | .MC_DREVLIM => 0x100278
  | .MC_DSESSGRACE => 0x10027C
  | .MC_DCLOSETOL => 0x100280
  | .MC_DCLOSEWAIT => 0x100284
  | .MC_DEOVR => 0x100288
  | .MC_DEORUN => 0x10028C
  | .MC_DDINAGE => 0x100290
  | .MC_DTRAVEL => 0x1002A0
  | .MC_DMLEARN => 0x1002A4
  | .MC_DFRICL => 0x1002A8
  | .MC_DLCRC => 0x1002AC
  | .MC_DFOBS => 0x1002B0
  | .MC_DEKIN => 0x1002B4
  | .MC_DVADM => 0x1002B8
  | .MC_DFLIMNOW => 0x1002BC
  | .MC_DMUSE => 0x1002C0
  | .MC_DREVCOUNT => 0x1002C4
  | .MC_DOBSPOS => 0x1002C8
  | .MC_DACC => 0x1002CC
  | .SCH_CFG => 0x140000
  | .SCH_CTL => 0x140004
  | .SCH_STAT => 0x140008
  | .SCH_OPEN => 0x14000C
  | .SCH_RECOMP => 0x140010
  | .SCH_MISSCNT => 0x140014
  | .SCH_WT => 0x140040
  | .SCH_WD => 0x140044
  | .SCH_HYST => 0x140048
  | .SCH_LEADMS => 0x14004C
  | .SCH_PENDMAX => 0x140050
  | .SCH_SESSMAX => 0x140054
  | .SCH_GRANTPER => 0x140058
  | .SCH_GRANTAGE => 0x14005C
  | .SCH_RESENDWAIT => 0x140060
  | .SCH_FRAMEOFS => 0x140064
  | .SCH_CTXSEL => 0x140100
  | .SCH_CTXTIME => 0x14010C
  | .SCH_CTXCOST => 0x140110
  | .SCH_CTXTTS => 0x140114
  | .SCH_CTXREM => 0x140118
  | .SCH_CTXA => 0x140104
  | .SCH_CTXB => 0x140108
  | .SCH_CVMAX => 0x140800
  | .SCH_CAMAX => 0x140804
  | .SCH_CDMAX => 0x140808
  | .SCH_CJMAX => 0x14080C
  | .SCH_CDWELL => 0x140810
  | .SCH_CSLOSS => 0x140814
  | .SCH_CFULL => 0x140818
  | .SCH_CLOAD => 0x14081C
  | .SCH_CSTAT => 0x140820
  | .SCH_CPOS => 0x140824
  | .SCH_CVEL => 0x140828
  | .SCH_FLVL => 0x141000
  | .SCH_GSERVE => 0x141400
  | .SCH_STN => 0x141600
  | .SEQ_FCFG => 0x180000
  | .SEQ_FCTL => 0x180004
  | .SEQ_FSTAT => 0x180008
  | .SEQ_FEND => 0x18000C
  | .SEQ_FFLAG => 0x180010
  | .SEQ_FSIG => 0x180014
  | .SEQ_FSTEPMAX => 0x180018
  | .SEQ_FSTEPS => 0x18001C
  | .SEQ_FG => 0x180040
  | .SEQ_FTMR => 0x180080
  | .SEQ_FTMRST => 0x1800A0
  | .SEQ_OUTLVL0 => 0x184000
  | .SEQ_OUTLVL1 => 0x184004
  | .SEQ_INLVL0 => 0x184008
  | .SEQ_INLVL1 => 0x18400C
  | .SEQ_FSTORE => 0x190000
  | .SFI_LATCTL => 0x080000
  | .SFI_LATSTAT => 0x080004
  | .SFI_LATPASS => 0x080008
  | .SFI_LATMCRC => 0x08000C
  | .SFI_LATERR => 0x080010
  | .SFI_FLTIN => 0x080014
  | .SFI_SIIN => 0x080018
  | .SFI_CTIN => 0x08001C
  | .SFI_VIIN => 0x080020
  | .SFI_COUT => 0x080800
  | .SFI_TMR => 0x080900
  | .SFI_CELL => 0x088000
  | .SFI_LEPTEST => 0x080030
  | .SFI_ACKCFG => 0x080034
  | .SFI_SICFG => 0x080100
  | .SFI_SISTAT => 0x080104
  | .SFI_CTCFG => 0x080200
  | .SFI_CTMV => 0x080204
  | .SFI_NVOSEL => 0x080280
  | .SFI_SOCFG => 0x080300
  | .SFI_SOTEST => 0x080304
  | .SFI_SOSTAT => 0x080308
  | .SFI_SOCNT => 0x08030C
  | .SFI_FRMASK => 0x080040
  | .SFI_FRSTAT => 0x080080
  | .SFI_ACKSTAT => 0x080084
  | .SFI_TESTCTL => 0x080088
  | .SFI_TESTSTAT => 0x08008C
  | .MGT_BLKSTAT => 0x200200
  | .MGT_QCLR => 0x200280
  | .MPI_DEGTIME => 0x0C0094
  | .MPI_DEGOPEN => 0x0C0098
  | .MPI_DEGSTAT => 0x0C009C
  | .BUS_CANCTL => 0x1C0000
  | .BUS_CANSTAT => 0x1C0004
  | .BUS_CANNBT => 0x1C0008
  | .BUS_CANDBT => 0x1C000C
  | .BUS_CANTDC => 0x1C0010
  | .BUS_CANCNT => 0x1C0014
  | .BUS_CANNOMATCH => 0x1C0018
  | .BUS_CANTXSTAT => 0x1C001C
  | .BUS_CANTXCANCEL => 0x1C0020
  | .BUS_CANTXW => 0x1C0080
  | .BUS_CANTXGO => 0x1C00C8
  | .BUS_CANTXPCFG => 0x1C0040
  | .BUS_CANTXPID => 0x1C0044
  | .BUS_RBCFG => 0x1C0400
  | .BUS_RBID => 0x1C0404
  | .BUS_RBMASK => 0x1C0408
  | .BUS_RBSTAT => 0x1C040C
  | .BUS_RBW => 0x1C1000
  | .BUS_TSCFG => 0x1D0000
  | .BUS_TSCTL => 0x1D0004
  | .BUS_TSSTAT => 0x1D0008
  | .BUS_TSRATE => 0x1D000C
  | .BUS_TSCORR => 0x1D0010
  | .BUS_TSERR => 0x1D0014
  | .BUS_TSNTLO => 0x1D0018
  | .BUS_TSNTHI => 0x1D001C
  | .BUS_TSLOCKNS => 0x1D0020
  | .BUS_TSSTEPNS => 0x1D0024
  | .BUS_TSHOLDMS => 0x1D0028
  | .BUS_PXSTAT => 0x1CC000
  | .BUS_PXCTL => 0x1CC004
  | .BUS_PXUNKNOWN => 0x1CC008
  | .BUS_PXCCFG => 0x1CC100
  | .BUS_PXCCAN => 0x1CC104
  | .BUS_PXCNODE => 0x1CC108
  | .BUS_PXCPER => 0x1CC10C
  | .BUS_PXCAGE => 0x1CC110
  | .BUS_PXCMAP => 0x1CC114
  | .BUS_PXCTM => 0x1CC118
  | .BUS_PXCSTAT => 0x1CC11C
  | .BUS_PXCERR => 0x1CC900
  | .SFI_LSCFG => 0x0800A0
  | .SFI_LSCTL => 0x0800A4
  | .SFI_LSSTAT => 0x0800A8
  | .SFI_LSHELD => 0x0800AC
  | .SFI_LSHIGH => 0x0800B0
  | .SFI_LSREM => 0x0800B4
  | .SFI_LSCNT => 0x0800B8
  | .BUS_LICFG => 0x1CCA00
  | .BUS_LICTL => 0x1CCA04
  | .BUS_LISTAT => 0x1CCA08
  | .BUS_LINUM => 0x1CCA0C
  | .BUS_EPCFG => 0x1CCA40
  | .BUS_EPCTL => 0x1CCA44
  | .BUS_EPMAXAGE => 0x1CCA48
  | .BUS_EPSEQ => 0x1CCA4C
  | .MGT_EPNUM => 0x200304
  | .MGT_RECSTAT => 0x200400
  | .MGT_RECCTL => 0x200404
  | .MGT_RECNEXT => 0x200408
  | .MGT_RECOLDEST => 0x20040C
  | .MGT_RECBIRTH => 0x200410
  | .MGT_RECSEL => 0x200418
  | .MGT_RECRES => 0x20041C
  | .MGT_RECDATA => 0x200420
  | .MGT_RECDROP => 0x200440
  | .MGT_WEARSEL => 0x200480
  | .MGT_WEARLO => 0x200484
  | .MGT_WEARHI => 0x200488
  | .MGT_WORNCNT => 0x20048C
  | .AON_RTCSEC => 0x020000
  | .AON_RTCFRAC => 0x020004
  | .AON_RTCSET => 0x020008
  | .AON_RTCSTAT => 0x02000C
  | .AON_TAMPCFG => 0x020020
  | .AON_TAMPSTAT => 0x020024
  | .AON_LOGSTAT => 0x020028
  | .MGT_KEEP => 0x210000
  | .QF_GSTAT => 0x042000
  | .QF_GIRQEN => 0x042004
  | .QF_GIRQSTAT => 0x042008
  | .QF_GTAGCLR => 0x04200C
  | .QF_GTAGMAP => 0x042010
  | .QF_GQPEND => 0x042040
  | .MGT_MPCFG => 0x200500
  | .MGT_MPSTAT => 0x200504
  | .PWR_TEMP => 0x010020

/-- A register of every loop engine (R30). -/
def Reg.isLoop (r : Reg) : Bool :=
  match r with
  | .LECTL => true
  | .LEHOLD => true
  | .LESTAT => true
  | .LEMISSCNT => true
  | .LEOUT => true
  | .LESAMPLE => true
  | .LEFFSRC => true
  | .LEKA => true
  | .LEKV => true
  | .LEVNOM => true
  | .LECMD => true
  | .LSCFG => true
  | .LSKP => true
  | .LSKI => true
  | .LSKD => true
  | .LSOUTMIN => true
  | .LSOUTMAX => true
  | .LSTRACK => true
  | .LSSETP => true
  | .LSRATE => true
  | .LSJERK => true
  | .LSSP => true
  | .LSMEAS => true
  | .LSU => true
  | .LSI => true
  | _ => false

/-- Count and byte stride of each index, outermost first; the engine index of a loop register is not among them. -/
def Reg.dims (r : Reg) : List (Nat × Nat) :=
  match r with
  | .SFI_LEPCFG => [(32, 0x20)]
  | .SFI_LEPVSET => [(32, 0x20)]
  | .SFI_LEPILIM => [(32, 0x20)]
  | .SFI_LEPSTAT => [(32, 0x20)]
  | .MGT_CLOGDATA => [(8, 0x4)]
  | .QF_QCFG => [(512, 0x10)]
  | .QF_QSTAT => [(512, 0x10)]
  | .QF_QDATA => [(512, 0x10)]
  | .QF_QLOST => [(512, 0x10)]
  | .QF_QFDROP => [(512, 0x4)]
  | .QF_QEP => [(512, 0x4)]
  | .QF_QTMO => [(512, 0x4)]
  | .MPI_LVLO => [(256, 0x10)]
  | .MPI_LVHI => [(256, 0x10)]
  | .MPI_LTRIM => [(256, 0x10)]
  | .MPI_LLEVEL => [(256, 0x10)]
  | .MPI_PVICFG => [(16, 0x8)]
  | .MPI_PVIARG => [(16, 0x8)]
  | .MPI_KNT => [(12288, 0x10)]
  | .MPI_KNP => [(12288, 0x10)]
  | .MPI_KNV => [(12288, 0x10)]
  | .MPI_PLCFG => [(8, 0x800)]
  | .MPI_PLSTAT => [(8, 0x800)]
  | .MPI_PLCTL => [(8, 0x800)]
  | .MPI_PLCORR => [(8, 0x800)]
  | .MPI_PLVMAX => [(8, 0x800)]
  | .MPI_PLAMAX => [(8, 0x800)]
  | .MPI_PLDMAX => [(8, 0x800)]
  | .MPI_PLJMAX => [(8, 0x800)]
  | .MPI_PLQDMAX => [(8, 0x800)]
  | .MPI_PLQJMAX => [(8, 0x800)]
  | .MPI_PLSOFTLO => [(8, 0x800)]
  | .MPI_PLSOFTHI => [(8, 0x800)]
  | .MPI_PLARRTOL => [(8, 0x800)]
  | .MPI_PLARRWAIT => [(8, 0x800)]
  | .MPI_PLDEGVEL => [(8, 0x800)]
  | .MPI_PLREVDWELL => [(8, 0x800)]
  | .MPI_PLPDSCALE => [(8, 0x800)]
  | .MPI_PLMCAR => [(8, 0x800)]
  | .MPI_PLMCW => [(8, 0x800)]
  | .MPI_PLMROT => [(8, 0x800)]
  | .MPI_PLFRIC => [(8, 0x800)]
  | .MPI_PLLOAD => [(8, 0x800)]
  | .MPI_PLREFPOS => [(8, 0x800)]
  | .MPI_PLREFVEL => [(8, 0x800)]
  | .MPI_PLREFACC => [(8, 0x800)]
  | .MPI_PLSTOPPOS => [(8, 0x800)]
  | .MPI_PLCURID => [(8, 0x800)]
  | .MPI_PLMOVES => [(8, 0x800)]
  | .MPI_PLSTEP => [(8, 0x800)]
  | .MPI_PLUSCALE => [(8, 0x800)]
  | .MPI_PLESCALE => [(8, 0x800)]
  | .MPI_PLDEVWIN => [(8, 0x800)]
  | .MPI_PLHOLDDLY => [(8, 0x800)]
  | .MPI_PLTAB => [(8, 0x800), (32, 0x4)]
  | .LSCFG => [(6, 0x40)]
  | .LSKP => [(6, 0x40)]
  | .LSKI => [(6, 0x40)]
  | .LSKD => [(6, 0x40)]
  | .LSOUTMIN => [(6, 0x40)]
  | .LSOUTMAX => [(6, 0x40)]
  | .LSTRACK => [(6, 0x40)]
  | .LSSETP => [(6, 0x40)]
  | .LSRATE => [(6, 0x40)]
  | .LSJERK => [(6, 0x40)]
  | .LSSP => [(6, 0x40)]
  | .LSMEAS => [(6, 0x40)]
  | .LSU => [(6, 0x40)]
  | .LSI => [(6, 0x40)]
  | .MC_CFG => [(4, 0x10000)]
  | .MC_CTL => [(4, 0x10000)]
  | .MC_STAT => [(4, 0x10000)]
  | .MC_KPC => [(4, 0x10000)]
  | .MC_KIC => [(4, 0x10000)]
  | .MC_IMAX => [(4, 0x10000)]
  | .MC_OCLIM => [(4, 0x10000)]
  | .MC_MODMAX => [(4, 0x10000)]
  | .MC_DEADNS => [(4, 0x10000)]
  | .MC_IDREF => [(4, 0x10000)]
  | .MC_EPR => [(4, 0x10000)]
  | .MC_ALIGNI => [(4, 0x10000)]
  | .MC_ALIGNMS => [(4, 0x10000)]
  | .MC_FBSCALE => [(4, 0x10000)]
  | .MC_VFILT => [(4, 0x10000)]
  | .MC_VDCMIN => [(4, 0x10000)]
  | .MC_IRUN => [(4, 0x10000)]
  | .MC_FBSET => [(4, 0x10000)]
  | .MC_ANGOFS => [(4, 0x10000)]
  | .MC_ID => [(4, 0x10000)]
  | .MC_IQ => [(4, 0x10000)]
  | .MC_VD => [(4, 0x10000)]
  | .MC_VQ => [(4, 0x10000)]
  | .MC_THETA => [(4, 0x10000)]
  | .MC_FBPOS => [(4, 0x10000)]
  | .MC_VEL => [(4, 0x10000)]
  | .MC_VDC => [(4, 0x10000)]
  | .MC_IQD => [(4, 0x10000)]
  | .MC_ADCCFG => [(4, 0x10000)]
  | .MC_ISCALE => [(4, 0x10000), (4, 0x4)]
  | .MC_IOFS => [(4, 0x10000), (4, 0x4)]
  | .MC_VSCALE => [(4, 0x10000)]
  | .MC_ICUR => [(4, 0x10000), (4, 0x4)]
  | .MC_TWOHM => [(4, 0x10000)]
  | .MC_DSTAT => [(4, 0x10000)]
  | .MC_DINMAP => [(4, 0x10000)]
  | .MC_DIN => [(4, 0x10000)]
  | .MC_DSTATION => [(4, 0x10000)]
  | .MC_DKF => [(4, 0x10000)]
  | .MC_DFRICV => [(4, 0x10000)]
  | .MC_DAFILT => [(4, 0x10000)]
  | .MC_DFLIM => [(4, 0x10000)]
  | .MC_DFLIMO => [(4, 0x10000)]
  | .MC_DELIM => [(4, 0x10000)]
  | .MC_DELIMN => [(4, 0x10000)]
  | .MC_DELIMO => [(4, 0x10000)]
  | .MC_DMMARGIN => [(4, 0x10000)]
  | .MC_DMASSMIN => [(4, 0x10000)]
  | .MC_DMASSMAX => [(4, 0x10000)]
  | .MC_DOBSF => [(4, 0x10000)]
  | .MC_DOBSRUN => [(4, 0x10000)]
  | .MC_DCLZONE => [(4, 0x10000)]
  | .MC_DOPENV => [(4, 0x10000)]
  | .MC_DCLOSEV => [(4, 0x10000)]
  | .MC_DNUDGEV => [(4, 0x10000)]
  | .MC_DHOMEV => [(4, 0x10000)]
  | .MC_DLRNV => [(4, 0x10000)]
  | .MC_DLRNA => [(4, 0x10000)]
  | .MC_DHOMEF => [(4, 0x10000)]
  | .MC_DSTALLV => [(4, 0x10000)]
  | .MC_DSTALLMS => [(4, 0x10000)]
  | .MC_DSTALLPOS => [(4, 0x10000)]
  | .MC_DOPENGAP => [(4, 0x10000)]
  | .MC_DCOUPLEPOS => [(4, 0x10000)]
  | .MC_DREVLIM => [(4, 0x10000)]
  | .MC_DSESSGRACE => [(4, 0x10000)]
  | .MC_DCLOSETOL => [(4, 0x10000)]
  | .MC_DCLOSEWAIT => [(4, 0x10000)]
  | .MC_DEOVR => [(4, 0x10000)]
  | .MC_DEORUN => [(4, 0x10000)]
  | .MC_DDINAGE => [(4, 0x10000)]
  | .MC_DTRAVEL => [(4, 0x10000)]
  | .MC_DMLEARN => [(4, 0x10000)]
  | .MC_DFRICL => [(4, 0x10000)]
  | .MC_DLCRC => [(4, 0x10000)]
  | .MC_DFOBS => [(4, 0x10000)]
  | .MC_DEKIN => [(4, 0x10000)]
  | .MC_DVADM => [(4, 0x10000)]
  | .MC_DFLIMNOW => [(4, 0x10000)]
  | .MC_DMUSE => [(4, 0x10000)]
  | .MC_DREVCOUNT => [(4, 0x10000)]
  | .MC_DOBSPOS => [(4, 0x10000)]
  | .MC_DACC => [(4, 0x10000)]
  | .SCH_CVMAX => [(16, 0x40)]
  | .SCH_CAMAX => [(16, 0x40)]
  | .SCH_CDMAX => [(16, 0x40)]
  | .SCH_CJMAX => [(16, 0x40)]
  | .SCH_CDWELL => [(16, 0x40)]
  | .SCH_CSLOSS => [(16, 0x40)]
  | .SCH_CFULL => [(16, 0x40)]
  | .SCH_CLOAD => [(16, 0x40)]
  | .SCH_CSTAT => [(16, 0x40)]
  | .SCH_CPOS => [(16, 0x40)]
  | .SCH_CVEL => [(16, 0x40)]
  | .SCH_FLVL => [(256, 0x4)]
  | .SCH_GSERVE => [(16, 0x20), (8, 0x4)]
  | .SCH_STN => [(256, 0x4)]
  | .SEQ_FCFG => [(4, 0x1000)]
  | .SEQ_FCTL => [(4, 0x1000)]
  | .SEQ_FSTAT => [(4, 0x1000)]
  | .SEQ_FEND => [(4, 0x1000)]
  | .SEQ_FFLAG => [(4, 0x1000)]
  | .SEQ_FSIG => [(4, 0x1000)]
  | .SEQ_FSTEPMAX => [(4, 0x1000)]
  | .SEQ_FSTEPS => [(4, 0x1000)]
  | .SEQ_FG => [(4, 0x1000), (16, 0x4)]
  | .SEQ_FTMR => [(4, 0x1000), (8, 0x4)]
  | .SEQ_FTMRST => [(4, 0x1000)]
  | .SEQ_FSTORE => [(4, 0x4000), (4096, 0x4)]
  | .SFI_COUT => [(32, 0x4)]
  | .SFI_TMR => [(64, 0x4)]
  | .SFI_CELL => [(1024, 0x10), (4, 0x4)]
  | .SFI_SICFG => [(24, 0x8)]
  | .SFI_SISTAT => [(24, 0x8)]
  | .SFI_CTCFG => [(8, 0x8)]
  | .SFI_CTMV => [(8, 0x8)]
  | .SFI_NVOSEL => [(8, 0x4)]
  | .SFI_SOCFG => [(6, 0x10)]
  | .SFI_SOTEST => [(6, 0x10)]
  | .SFI_SOSTAT => [(6, 0x10)]
  | .SFI_SOCNT => [(6, 0x10)]
  | .SFI_FRMASK => [(14, 0x4)]
  | .MGT_BLKSTAT => [(24, 0x4)]
  | .BUS_CANCTL => [(3, 0x4000)]
  | .BUS_CANSTAT => [(3, 0x4000)]
  | .BUS_CANNBT => [(3, 0x4000)]
  | .BUS_CANDBT => [(3, 0x4000)]
  | .BUS_CANTDC => [(3, 0x4000)]
  | .BUS_CANCNT => [(3, 0x4000)]
  | .BUS_CANNOMATCH => [(3, 0x4000)]
  | .BUS_CANTXSTAT => [(3, 0x4000)]
  | .BUS_CANTXCANCEL => [(3, 0x4000)]
  | .BUS_CANTXW => [(3, 0x4000), (18, 0x4)]
  | .BUS_CANTXGO => [(3, 0x4000)]
  | .BUS_CANTXPCFG => [(3, 0x4000), (4, 0x8)]
  | .BUS_CANTXPID => [(3, 0x4000), (4, 0x8)]
  | .BUS_RBCFG => [(3, 0x4000), (64, 0x10)]
  | .BUS_RBID => [(3, 0x4000), (64, 0x10)]
  | .BUS_RBMASK => [(3, 0x4000), (64, 0x10)]
  | .BUS_RBSTAT => [(3, 0x4000), (64, 0x10)]
  | .BUS_RBW => [(3, 0x4000), (64, 0x80), (32, 0x4)]
  | .BUS_PXCCFG => [(64, 0x20)]
  | .BUS_PXCCAN => [(64, 0x20)]
  | .BUS_PXCNODE => [(64, 0x20)]
  | .BUS_PXCPER => [(64, 0x20)]
  | .BUS_PXCAGE => [(64, 0x20)]
  | .BUS_PXCMAP => [(64, 0x20)]
  | .BUS_PXCTM => [(64, 0x20)]
  | .BUS_PXCSTAT => [(64, 0x20)]
  | .BUS_PXCERR => [(64, 0x4)]
  | .MGT_EPNUM => [(2, 0x4)]
  | .MGT_RECDATA => [(8, 0x4)]
  | .MGT_KEEP => [(256, 0x4)]
  | .QF_GTAGMAP => [(8, 0x4)]
  | .QF_GQPEND => [(16, 0x4)]
  | _ => []

/-- The fields of the register; bits no field names are reserved and read 0. -/
def Reg.fields : Reg → List FieldSpec
  | .SYS_ID => [⟨31, 16, .ro, 0x9400, .none⟩, ⟨15, 8, .ro, 0x0, .none⟩, ⟨7, 4, .ro, 0xB, .none⟩, ⟨3, 0, .ro, 0x0, .none⟩]
  | .SYS_TEMPO => [⟨8, 8, .wo, 0x0, .none⟩, ⟨5, 4, .rw, 0x1, .none⟩, ⟨1, 0, .ro, 0x1, .none⟩]
  | .SYS_TEMPOSTAT => [⟨31, 16, .ro, 0x0, .none⟩, ⟨15, 8, .ro, 0x0, .none⟩, ⟨2, 0, .ro, 0x0, .none⟩]
  | .MGT_DRCSTAT => [⟨24, 16, .ro, 0x0, .none⟩, ⟨15, 8, .ro, 0x0, .none⟩, ⟨2, 0, .ro, 0x0, .none⟩]
  | .MGT_DRCSEL => [⟨8, 0, .rw, 0x1, .none⟩]
  | .MGT_DRCRES => [⟨8, 8, .ro, 0x0, .none⟩, ⟨6, 4, .ro, 0x4, .none⟩, ⟨2, 0, .ro, 0x4, .none⟩]
  | .MGT_DRCVOC => [⟨31, 0, .ro, 0x0, .none⟩]
  | .MGT_DRCDH => [⟨31, 0, .ro, 0x0, .none⟩]
  | .MGT_DRCDL => [⟨31, 0, .ro, 0x0, .none⟩]
  | .SFI_LEPCFG => [⟨2, 0, .ro, 0x0, .none⟩]
  | .SFI_LEPVSET => [⟨31, 0, .rwl, 0x5DC0, .signed (5000) 24000⟩]
  | .SFI_LEPILIM => [⟨31, 0, .rwl, 0x4B, .signed (10) 75⟩]
  | .SFI_LEPSTAT => [⟨4, 4, .w1c, 0x0, .none⟩, ⟨3, 3, .ro, 0x0, .none⟩, ⟨2, 2, .ro, 0x0, .none⟩, ⟨0, 0, .ro, 0x0, .none⟩]
  | .PWR_GATE => [⟨12, 0, .ro, 0x7, .none⟩]
  | .PWR_STATE => [⟨15, 12, .ro, 0x0, .none⟩, ⟨11, 8, .ro, 0x0, .none⟩, ⟨4, 4, .wo, 0x0, .none⟩, ⟨1, 0, .ro, 0x0, .none⟩]
  | .PWR_WAKEEN => [⟨7, 0, .rw, 0xFF, .none⟩]
  | .PWR_SUP => [⟨10, 10, .w1c, 0x0, .none⟩, ⟨9, 9, .w1c, 0x0, .none⟩, ⟨8, 8, .w1c, 0x0, .none⟩, ⟨3, 3, .ro, 0x0, .none⟩, ⟨2, 2, .ro, 0x0, .none⟩, ⟨1, 1, .ro, 0x0, .none⟩, ⟨0, 0, .ro, 0x1, .none⟩]
  | .PWR_VMAINMV => [⟨31, 0, .ro, 0x0, .none⟩]
  | .PWR_VFLDMV => [⟨31, 0, .ro, 0x0, .none⟩]
  | .PWR_VBATMV => [⟨31, 0, .ro, 0x0, .none⟩]
  | .PWR_PFAILV => [⟨31, 0, .rwl, 0x708, .signed (1800) 3400⟩]
  | .PWR_RESCFG => [⟨24, 16, .rwl, 0x0, .none⟩, ⟨11, 10, .rwl, 0x0, .none⟩, ⟨9, 8, .rwl, 0x0, .none⟩, ⟨7, 0, .rwl, 0x14, .unsigned 2 200⟩]
  | .PWR_RESVCUT => [⟨31, 0, .rwl, 0x3E8, .signed (1000) 400000⟩]
  | .PWR_RESRINT => [⟨31, 0, .rwl, 0x64, .unsigned 0 10000⟩]
  | .PWR_RESIPK => [⟨31, 0, .rwl, 0x0, .signed (0) 500000⟩]
  | .PWR_RESQCAP => [⟨31, 0, .rwl, 0x0, .none⟩]
  | .PWR_RESVFULL => [⟨31, 0, .rwl, 0x0, .signed (0) 400000⟩]
  | .PWR_RESITAPER => [⟨31, 0, .rwl, 0x0, .signed (0) 100000⟩]
  | .PWR_RESETA => [⟨31, 0, .rwl, 0x320, .unsigned 500 1000⟩]
  | .PWR_RESMARGIN => [⟨31, 0, .rwl, 0xFA, .unsigned 0 1000⟩]
  | .PWR_RESPAUX => [⟨31, 0, .rwl, 0x0, .none⟩]
  | .PWR_RESEDOOR => [⟨31, 0, .rwl, 0x0, .none⟩]
  | .PWR_RESQREM => [⟨31, 0, .rwk, 0x0, .none⟩]
  | .PWR_RESSTAT => [⟨31, 16, .ro, 0x0, .none⟩, ⟨12, 12, .ro, 0x0, .none⟩, ⟨11, 8, .ro, 0x0, .none⟩, ⟨3, 0, .ro, 0x9, .none⟩]
  | .PWR_RESEAVL => [⟨31, 0, .ro, 0x0, .none⟩]
  | .PWR_RESEREQ => [⟨31, 0, .ro, 0x0, .none⟩]
  | .PWR_RESVMIN => [⟨31, 0, .ro, 0x0, .none⟩]
  | .PWR_RESVEL => [⟨31, 0, .rwl, 0x493E0, .signed (50000) 1000000⟩]
  | .SYS_STAT => [⟨27, 24, .ro, 0x0, .none⟩, ⟨23, 20, .ro, 0x0, .none⟩, ⟨19, 18, .ro, 0x0, .none⟩, ⟨8, 8, .ro, 0x0, .none⟩, ⟨3, 0, .ro, 0x3, .none⟩]
  | .SYS_BOOT => [⟨23, 20, .ro, 0x0, .none⟩, ⟨19, 16, .ro, 0x0, .none⟩, ⟨8, 8, .ro, 0x0, .none⟩, ⟨1, 0, .ro, 0x0, .none⟩]
  | .SYS_RSTCAUSE => [⟨31, 16, .ro, 0x0, .none⟩, ⟨11, 8, .ro, 0x1, .none⟩, ⟨3, 0, .ro, 0x1, .none⟩]
  | .SYS_STARTUS => [⟨31, 0, .ro, 0x0, .none⟩]
  | .AON_RSTHOLD => [⟨31, 0, .ro, 0x0, .none⟩]
  | .MGT_RSTREQ => [⟨31, 16, .wo, 0x0, .none⟩, ⟨0, 0, .wo, 0x0, .none⟩]
  | .MGT_LDSTAT => [⟨27, 24, .ro, 0x7, .none⟩, ⟨23, 20, .ro, 0x0, .none⟩, ⟨16, 16, .ro, 0x0, .none⟩, ⟨12, 12, .ro, 0x0, .none⟩, ⟨2, 0, .ro, 0x0, .none⟩]
  | .MGT_SLOTCMD => [⟨8, 8, .wo, 0x0, .none⟩, ⟨3, 0, .wo, 0x0, .none⟩]
  | .MGT_SLOTADDR => [⟨19, 2, .rw, 0x0, .none⟩]
  | .MGT_SLOTDATA => [⟨31, 0, .rw, 0x0, .none⟩]
  | .MGT_PWDATA => [⟨31, 0, .wo, 0x0, .none⟩]
  | .MGT_PWCMD => [⟨14, 8, .wo, 0x0, .none⟩, ⟨2, 0, .wo, 0x0, .none⟩]
  | .MGT_PWSTAT => [⟨31, 24, .ro, 0x0, .none⟩, ⟨20, 12, .ro, 0x0, .none⟩, ⟨11, 8, .ro, 0x0, .none⟩, ⟨2, 2, .ro, 0x0, .none⟩, ⟨1, 1, .ro, 0x0, .none⟩, ⟨0, 0, .ro, 0x0, .none⟩]
  | .MGT_KEYDATA => [⟨31, 0, .wo, 0x0, .none⟩]
  | .MGT_KEYCMD => [⟨8, 8, .wo, 0x0, .none⟩, ⟨0, 0, .wo, 0x0, .none⟩]
  | .MGT_KEYSTAT => [⟨8, 8, .ro, 0x0, .none⟩, ⟨0, 0, .ro, 0x0, .none⟩]
  | .MGT_CLOGNEXT => [⟨31, 0, .ro, 0x0, .none⟩]
  | .MGT_CLOGSEL => [⟨31, 0, .rw, 0x0, .none⟩]
  | .MGT_OVLSTAT => [⟨16, 16, .ro, 0x0, .none⟩, ⟨11, 0, .ro, 0x0, .none⟩]
  | .MGT_OVLKEY => [⟨31, 0, .ro, 0x0, .none⟩]
  | .MGT_IMGCRC => [⟨31, 0, .ro, 0x0, .none⟩]
  | .MGT_CLOGDATA => [⟨31, 0, .ro, 0x0, .none⟩]
  | .QF_QCFG => [⟨31, 31, .ro, 0x0, .none⟩, ⟨30, 30, .ro, 0x0, .none⟩, ⟨29, 29, .ro, 0x0, .none⟩, ⟨20, 16, .rw, 0x1, .unsigned 1 16⟩, ⟨14, 0, .ro, 0x0, .none⟩]
  | .QF_QSTAT => [⟨31, 31, .wo, 0x0, .none⟩, ⟨30, 30, .wo, 0x0, .none⟩, ⟨29, 29, .ro, 0x0, .none⟩, ⟨28, 28, .ro, 0x0, .none⟩, ⟨27, 27, .w1c, 0x0, .none⟩, ⟨26, 26, .ro, 0x0, .none⟩, ⟨25, 25, .ro, 0x0, .none⟩, ⟨24, 20, .ro, 0x0, .none⟩, ⟨17, 0, .ro, 0x0, .none⟩]
  | .QF_QDATA => [⟨31, 0, .rw, 0x0, .none⟩]
  | .QF_QLOST => [⟨31, 0, .ro, 0x0, .none⟩]
  | .QF_FSTAT => [⟨25, 16, .ro, 0x0, .none⟩, ⟨14, 0, .ro, 0x0, .none⟩]
  | .QF_PARERR => [⟨31, 16, .ro, 0x0, .none⟩, ⟨15, 0, .ro, 0x0, .none⟩]
  | .QF_LTAG => [⟨31, 31, .ro, 0x0, .none⟩, ⟨24, 16, .ro, 0x0, .none⟩, ⟨7, 0, .ro, 0x0, .none⟩]
  | .QF_LTAGSTAT => [⟨31, 16, .ro, 0x0, .none⟩, ⟨6, 0, .ro, 0x0, .none⟩]
  | .QF_FCTL => [⟨1, 1, .wo, 0x0, .none⟩, ⟨0, 0, .wo, 0x0, .none⟩]
  | .QF_QFDROP => [⟨31, 0, .ro, 0x0, .none⟩]
  | .QF_QEP => [⟨31, 16, .ro, 0x0, .none⟩, ⟨15, 0, .ro, 0x0, .none⟩]
  | .QF_QTMO => [⟨31, 0, .ro, 0x0, .none⟩]
  | .MPI_LVLO => [⟨31, 0, .rwk, 0x7FFFFFFF, .none⟩]
  | .MPI_LVHI => [⟨31, 0, .rwk, 0x7FFFFFFF, .none⟩]
  | .MPI_LTRIM => [⟨31, 0, .rwl, 0x0, .signed (-5000) 5000⟩]
  | .MPI_LLEVEL => [⟨31, 0, .ro, 0x7FFFFFFF, .none⟩]
  | .MPI_FCFG => [⟨21, 16, .rwl, 0x18, .unsigned 8 32⟩, ⟨15, 15, .rwl, 0x0, .none⟩, ⟨14, 14, .rwl, 0x0, .none⟩, ⟨13, 12, .rwl, 0x0, .none⟩, ⟨11, 8, .rwl, 0x0, .none⟩, ⟨7, 6, .rwl, 0x0, .none⟩, ⟨5, 4, .rwl, 0x0, .none⟩, ⟨3, 2, .rwl, 0x0, .none⟩, ⟨1, 0, .rwl, 0x0, .none⟩]
  | .MPI_FSTAT => [⟨26, 24, .ro, 0x0, .none⟩, ⟨22, 20, .ro, 0x0, .none⟩, ⟨18, 16, .ro, 0x0, .none⟩, ⟨9, 9, .ro, 0x0, .none⟩, ⟨8, 8, .ro, 0x0, .none⟩, ⟨5, 4, .ro, 0x0, .none⟩, ⟨3, 3, .ro, 0x0, .none⟩, ⟨2, 0, .ro, 0x0, .none⟩]
  | .MPI_FPOS => [⟨31, 0, .ro, 0x0, .none⟩]
  | .MPI_FBOUND => [⟨31, 0, .ro, 0x7FFFFFFF, .none⟩]
  | .MPI_FPLO => [⟨31, 0, .ro, 0x80000000, .none⟩]
  | .MPI_FPHI => [⟨31, 0, .ro, 0x7FFFFFFF, .none⟩]
  | .MPI_FVEL => [⟨31, 0, .ro, 0x0, .none⟩]
  | .MPI_FCYCLE => [⟨31, 0, .ro, 0x0, .none⟩]
  | .MPI_FCMD => [⟨2, 0, .rwl, 0x0, .none⟩]
  | .MPI_FRUN => [⟨23, 16, .ro, 0x0, .none⟩, ⟨7, 4, .ro, 0x0, .none⟩, ⟨3, 0, .ro, 0x0, .none⟩]
  | .MPI_FSW => [⟨11, 8, .w1c, 0x0, .none⟩, ⟨3, 0, .ro, 0x0, .none⟩]
  | .MPI_FSWMAP => [⟨28, 24, .rwl, 0x1F, .none⟩, ⟨20, 16, .rwl, 0x1F, .none⟩, ⟨12, 8, .rwl, 0x1F, .none⟩, ⟨4, 0, .rwl, 0x1F, .none⟩]
  | .MPI_ENCSCALE => [⟨31, 0, .rwl, 0x10000, .none⟩]
  | .MPI_ENCPPM => [⟨31, 0, .rwl, 0x3E8, .unsigned 0 100000⟩]
  | .MPI_ENCRATE => [⟨31, 0, .rwl, 0x64, .signed (0) 100000⟩]
  | .MPI_SSISCALE => [⟨31, 0, .rwl, 0x10000, .none⟩]
  | .MPI_SSIOFS => [⟨31, 0, .rwl, 0x0, .none⟩]
  | .MPI_SSIERR => [⟨31, 0, .rwl, 0x12C, .signed (10) 10000⟩]
  | .MPI_SSILAT => [⟨31, 0, .rwl, 0x28, .unsigned 0 1000⟩]
  | .MPI_VANEERR => [⟨31, 0, .rwl, 0x64, .signed (10) 2000⟩]
  | .MPI_VANELAT => [⟨31, 0, .rwl, 0x14, .unsigned 0 1000⟩]
  | .MPI_VANEDISC => [⟨31, 0, .rwl, 0x3E8, .unsigned 50 10000⟩]
  | .MPI_VANECAP => [⟨31, 0, .rwl, 0x2710, .signed (1000) 50000⟩]
  | .MPI_VERR => [⟨31, 0, .rwl, 0x1388, .signed (0) 1000000⟩]
  | .MPI_BMAX => [⟨31, 0, .rwl, 0x1388, .signed (100) 100000⟩]
  | .MPI_XRUN => [⟨31, 0, .rwl, 0x3, .unsigned 1 16⟩]
  | .MPI_MISSRUN => [⟨31, 0, .rwl, 0x8, .unsigned 1 64⟩]
  | .MPI_DZHALF => [⟨31, 0, .rwl, 0x1D4C, .signed (1000) 20000⟩]
  | .MPI_ADEC => [⟨31, 0, .rwl, 0x2710, .signed (1) 100000⟩]
  | .MPI_LEARNVEL => [⟨31, 0, .rwl, 0x3D090, .signed (50000) 500000⟩]
  | .MPI_NLAND => [⟨31, 0, .rwl, 0x2, .unsigned 1 256⟩]
  | .MPI_DATUM => [⟨31, 0, .rwl, 0x0, .none⟩]
  | .MPI_HOMEERR => [⟨31, 0, .rwl, 0xC8, .signed (100) 5000⟩]
  | .MPI_NTSDN => [⟨31, 0, .rwk, 0x7FFFFFFF, .none⟩]
  | .MPI_NTSUP => [⟨31, 0, .rwk, 0x7FFFFFFF, .none⟩]
  | .MPI_LTABCRC => [⟨31, 0, .rwk, 0x0, .none⟩]
  | .MPI_PVICFG => [⟨3, 0, .rwl, 0x0, .none⟩]
  | .MPI_PVIARG => [⟨31, 0, .rwl, 0x0, .none⟩]
  | .MPI_PVISTAT => [⟨15, 0, .ro, 0x0, .none⟩]
  | .MPI_KNT => [⟨31, 0, .rwl, 0x0, .none⟩]
  | .MPI_KNP => [⟨31, 0, .rwl, 0x0, .none⟩]
  | .MPI_KNV => [⟨31, 0, .rwl, 0x0, .none⟩]
  | .MPI_PLCFG => [⟨8, 8, .ro, 0x0, .none⟩, ⟨1, 0, .ro, 0x0, .none⟩]
  | .MPI_PLSTAT => [⟨28, 24, .ro, 0x0, .none⟩, ⟨23, 16, .ro, 0x0, .none⟩, ⟨12, 12, .ro, 0x0, .none⟩, ⟨11, 11, .w1c, 0x0, .none⟩, ⟨10, 10, .ro, 0x0, .none⟩, ⟨9, 9, .ro, 0x0, .none⟩, ⟨8, 8, .ro, 0x0, .none⟩, ⟨3, 0, .ro, 0x0, .none⟩]
  | .MPI_PLCTL => [⟨2, 2, .wo, 0x0, .none⟩, ⟨1, 1, .wo, 0x0, .none⟩, ⟨0, 0, .rw, 0x0, .none⟩]
  | .MPI_PLCORR => [⟨31, 0, .ro, 0x0, .none⟩]
  | .MPI_PLVMAX => [⟨31, 0, .rwl, 0x10C8E0, .signed (1000) 20000000⟩]
  | .MPI_PLAMAX => [⟨31, 0, .rwl, 0x1388, .signed (10) 100000⟩]
  | .MPI_PLDMAX => [⟨31, 0, .rwl, 0x1388, .signed (10) 100000⟩]
  | .MPI_PLJMAX => [⟨31, 0, .rwl, 0x3E8, .signed (10) 1000000⟩]
  | .MPI_PLQDMAX => [⟨31, 0, .rwl, 0x4E20, .signed (10) 200000⟩]
  | .MPI_PLQJMAX => [⟨31, 0, .rwl, 0x2710, .signed (10) 2000000⟩]
  | .MPI_PLSOFTLO => [⟨31, 0, .rwl, 0x80000000, .none⟩]
  | .MPI_PLSOFTHI => [⟨31, 0, .rwl, 0x7FFFFFFF, .none⟩]
  | .MPI_PLARRTOL => [⟨31, 0, .rwl, 0x1F4, .signed (10) 5000⟩]
  | .MPI_PLARRWAIT => [⟨31, 0, .rwl, 0x7D0, .unsigned 10 60000⟩]
  | .MPI_PLDEGVEL => [⟨31, 0, .rwl, 0x493E0, .signed (50000) 300000⟩]
  | .MPI_PLREVDWELL => [⟨31, 0, .rwl, 0x1F4, .unsigned 0 10000⟩]
  | .MPI_PLPDSCALE => [⟨31, 0, .rwl, 0x10000, .signed (1) 1048576⟩]
  | .MPI_PLMCAR => [⟨31, 0, .rwl, 0x0, .none⟩]
  | .MPI_PLMCW => [⟨31, 0, .rwl, 0x0, .none⟩]
  | .MPI_PLMROT => [⟨31, 0, .rwl, 0x0, .none⟩]
  | .MPI_PLFRIC => [⟨31, 0, .rwl, 0x0, .none⟩]
  | .MPI_PLLOAD => [⟨31, 0, .rw, 0x0, .none⟩]
  | .MPI_PLREFPOS => [⟨31, 0, .ro, 0x0, .none⟩]
  | .MPI_PLREFVEL => [⟨31, 0, .ro, 0x0, .none⟩]
  | .MPI_PLREFACC => [⟨31, 0, .ro, 0x0, .none⟩]
  | .MPI_PLSTOPPOS => [⟨31, 0, .ro, 0x0, .none⟩]
  | .MPI_PLCURID => [⟨31, 0, .ro, 0x0, .none⟩]
  | .MPI_PLMOVES => [⟨31, 0, .ro, 0x0, .none⟩]
  | .MPI_PLSTEP => [⟨25, 16, .rwl, 0x1F4, .unsigned 0 1000⟩, ⟨11, 8, .rwl, 0x3, .none⟩, ⟨6, 6, .rwl, 0x0, .none⟩, ⟨5, 4, .rwl, 0x0, .none⟩, ⟨3, 0, .rwl, 0x8, .none⟩]
  | .MPI_PLUSCALE => [⟨31, 0, .rwl, 0x10000, .none⟩]
  | .MPI_PLESCALE => [⟨31, 0, .rwl, 0x10000, .none⟩]
  | .MPI_PLDEVWIN => [⟨31, 0, .rwl, 0x64, .signed (1) 100000⟩]
  | .MPI_PLHOLDDLY => [⟨31, 0, .rwl, 0x1F4, .unsigned 0 60000⟩]
  | .MPI_PLTAB => [⟨24, 16, .rwl, 0x0, .none⟩, ⟨13, 0, .rwl, 0x0, .none⟩]
  | .LECTL => [⟨31, 24, .rwl, 0x0, .none⟩, ⟨21, 16, .rwl, 0x1, .none⟩, ⟨15, 12, .rwl, 0x3, .unsigned 1 8⟩, ⟨8, 8, .rwl, 0x0, .none⟩, ⟨4, 0, .rwl, 0x0, .none⟩]
  | .LEHOLD => [⟨0, 0, .rwl, 0x0, .none⟩]
  | .LESTAT => [⟨31, 24, .ro, 0x0, .none⟩, ⟨17, 17, .ro, 0x0, .none⟩, ⟨16, 16, .w1c, 0x0, .none⟩, ⟨8, 8, .w1c, 0x0, .none⟩, ⟨5, 5, .ro, 0x0, .none⟩, ⟨4, 4, .ro, 0x0, .none⟩, ⟨2, 0, .ro, 0x7, .none⟩]
  | .LEMISSCNT => [⟨31, 0, .ro, 0x0, .none⟩]
  | .LEOUT => [⟨31, 0, .ro, 0x0, .none⟩]
  | .LESAMPLE => [⟨31, 0, .ro, 0x0, .none⟩]
  | .LEFFSRC => [⟨12, 8, .rwl, 0x0, .none⟩, ⟨4, 0, .rwl, 0x0, .none⟩]
  | .LEKA => [⟨31, 0, .rwl, 0x0, .none⟩]
  | .LEKV => [⟨31, 0, .rwl, 0x0, .none⟩]
  | .LEVNOM => [⟨31, 0, .rwl, 0x5DC0, .none⟩]
  | .LECMD => [⟨1, 1, .wo, 0x0, .none⟩, ⟨0, 0, .wo, 0x0, .none⟩]
  | .LSCFG => [⟨28, 24, .rwl, 0x0, .none⟩, ⟨20, 16, .rwl, 0x0, .none⟩, ⟨12, 8, .rwl, 0x1, .unsigned 1 16⟩, ⟨4, 4, .rwl, 0x0, .none⟩, ⟨3, 3, .rwl, 0x0, .none⟩, ⟨2, 2, .rwl, 0x0, .none⟩, ⟨1, 1, .rwl, 0x0, .none⟩, ⟨0, 0, .rwl, 0x0, .none⟩]
  | .LSKP => [⟨31, 0, .rwl, 0x0, .none⟩]
  | .LSKI => [⟨31, 0, .rwl, 0x0, .none⟩]
  | .LSKD => [⟨31, 0, .rwl, 0x0, .none⟩]
  | .LSOUTMIN => [⟨31, 0, .rwl, 0x80000000, .none⟩]
  | .LSOUTMAX => [⟨31, 0, .rwl, 0x7FFFFFFF, .none⟩]
  | .LSTRACK => [⟨31, 0, .rwl, 0x0, .signed (0) 2147483647⟩]
  | .LSSETP => [⟨31, 0, .rwl, 0x0, .none⟩]
  | .LSRATE => [⟨31, 0, .rwl, 0x0, .signed (0) 2147483647⟩]
  | .LSJERK => [⟨31, 0, .rwl, 0x0, .signed (0) 2147483647⟩]
  | .LSSP => [⟨31, 0, .ro, 0x0, .none⟩]
  | .LSMEAS => [⟨31, 0, .ro, 0x0, .none⟩]
  | .LSU => [⟨31, 0, .ro, 0x0, .none⟩]
  | .LSI => [⟨31, 0, .ro, 0x0, .none⟩]
  | .MC_CFG => [⟨9, 8, .rwl, 0x0, .none⟩, ⟨1, 0, .ro, 0x0, .none⟩]
  | .MC_CTL => [⟨2, 2, .wo, 0x0, .none⟩, ⟨1, 1, .wo, 0x0, .none⟩, ⟨0, 0, .rw, 0x0, .none⟩]
  | .MC_STAT => [⟨13, 13, .ro, 0x0, .none⟩, ⟨12, 12, .w1c, 0x0, .none⟩, ⟨11, 11, .w1c, 0x0, .none⟩, ⟨10, 10, .w1c, 0x0, .none⟩, ⟨9, 9, .w1c, 0x0, .none⟩, ⟨8, 8, .w1c, 0x0, .none⟩, ⟨5, 4, .ro, 0x0, .none⟩, ⟨2, 0, .ro, 0x0, .none⟩]
  | .MC_KPC => [⟨31, 0, .rwl, 0x10000, .none⟩]
  | .MC_KIC => [⟨31, 0, .rwl, 0x1000, .none⟩]
  | .MC_IMAX => [⟨31, 0, .rwl, 0x7D0, .signed (100) 40000⟩]
  | .MC_OCLIM => [⟨31, 0, .rwl, 0xFA0, .signed (100) 60000⟩]
  | .MC_MODMAX => [⟨31, 0, .rwl, 0x384, .unsigned 500 950⟩]
  | .MC_DEADNS => [⟨31, 0, .rwl, 0xC8, .unsigned 50 2000⟩]
  | .MC_IDREF => [⟨31, 0, .rwl, 0x0, .none⟩]
  | .MC_EPR => [⟨31, 0, .rwl, 0x1000, .unsigned 4 1048576⟩]
  | .MC_ALIGNI => [⟨31, 0, .rwl, 0x1F4, .toImax⟩]
  | .MC_ALIGNMS => [⟨31, 0, .rwl, 0xC8, .unsigned 10 2000⟩]
  | .MC_FBSCALE => [⟨31, 0, .rwl, 0x10000, .none⟩]
  | .MC_VFILT => [⟨31, 0, .rwl, 0x2, .unsigned 0 6⟩]
  | .MC_VDCMIN => [⟨31, 0, .rwl, 0x1388, .signed (1000) 60000⟩]
  | .MC_IRUN => [⟨31, 0, .rwl, 0x3E8, .toImax⟩]
  | .MC_FBSET => [⟨31, 0, .wo, 0x0, .none⟩]
  | .MC_ANGOFS => [⟨15, 0, .ro, 0x0, .none⟩]
  | .MC_ID => [⟨31, 0, .ro, 0x0, .none⟩]
  | .MC_IQ => [⟨31, 0, .ro, 0x0, .none⟩]
  | .MC_VD => [⟨31, 0, .ro, 0x0, .none⟩]
  | .MC_VQ => [⟨31, 0, .ro, 0x0, .none⟩]
  | .MC_THETA => [⟨15, 0, .ro, 0x0, .none⟩]
  | .MC_FBPOS => [⟨31, 0, .ro, 0x0, .none⟩]
  | .MC_VEL => [⟨31, 0, .ro, 0x0, .none⟩]
  | .MC_VDC => [⟨31, 0, .ro, 0x0, .none⟩]
  | .MC_IQD => [⟨31, 0, .ro, 0x0, .none⟩]
  | .MC_ADCCFG => [⟨7, 0, .rwl, 0x55, .none⟩]
  | .MC_ISCALE => [⟨31, 0, .rwl, 0x10000, .none⟩]
  | .MC_IOFS => [⟨31, 0, .ro, 0x0, .none⟩]
  | .MC_VSCALE => [⟨31, 0, .rwl, 0x10000, .none⟩]
  | .MC_ICUR => [⟨31, 0, .ro, 0x0, .none⟩]
  | .MC_TWOHM => [⟨31, 0, .ro, 0x0, .none⟩]
  | .MC_DSTAT => [⟨31, 24, .ro, 0x0, .none⟩, ⟨23, 16, .ro, 0x0, .none⟩, ⟨13, 13, .w1c, 0x0, .none⟩, ⟨12, 12, .ro, 0x0, .none⟩, ⟨9, 9, .ro, 0x0, .none⟩, ⟨8, 8, .ro, 0x0, .none⟩, ⟨3, 0, .ro, 0x0, .none⟩]
  | .MC_DINMAP => [⟨29, 24, .rwl, 0x3F, .none⟩, ⟨23, 18, .rwl, 0x3F, .none⟩, ⟨17, 12, .rwl, 0x3F, .none⟩, ⟨11, 6, .rwl, 0x3F, .none⟩, ⟨5, 0, .rwl, 0x3F, .none⟩]
  | .MC_DIN => [⟨5, 0, .ro, 0x0, .none⟩]
  | .MC_DSTATION => [⟨8, 8, .rwl, 0x0, .none⟩, ⟨7, 0, .rwl, 0x0, .none⟩]
  | .MC_DKF => [⟨31, 0, .rwl, 0x50000, .none⟩]
  | .MC_DFRICV => [⟨31, 0, .rwl, 0x0, .unsigned 0 1000000⟩]
  | .MC_DAFILT => [⟨31, 0, .rwl, 0x2, .unsigned 0 6⟩]
  | .MC_DFLIM => [⟨31, 0, .rwl, 0x3A98, .signed (5000) 15000⟩]
  | .MC_DFLIMO => [⟨31, 0, .rwl, 0x3A98, .signed (5000) 30000⟩]
  | .MC_DELIM => [⟨31, 0, .rwl, 0x2710, .signed (1000) 10000⟩]
  | .MC_DELIMN => [⟨31, 0, .rwl, 0xFA0, .signed (1000) 4000⟩]
  | .MC_DELIMO => [⟨31, 0, .rwl, 0x2710, .signed (1000) 25000⟩]
  | .MC_DMMARGIN => [⟨31, 0, .rwl, 0x64, .unsigned 0 500⟩]
  | .MC_DMASSMIN => [⟨31, 0, .rwl, 0x1388, .unsigned 1000 1000000⟩]
  | .MC_DMASSMAX => [⟨31, 0, .rwl, 0x493E0, .unsigned 1000 1000000⟩]
  | .MC_DOBSF => [⟨31, 0, .rwl, 0x2710, .signed (2000) 15000⟩]
  | .MC_DOBSRUN => [⟨31, 0, .rwl, 0x2, .unsigned 1 16⟩]
  | .MC_DCLZONE => [⟨31, 0, .rwl, 0x7D0, .signed (0) 10000⟩]
  | .MC_DOPENV => [⟨31, 0, .rwl, 0x7A120, .signed (50000) 2000000⟩]
  | .MC_DCLOSEV => [⟨31, 0, .rwl, 0x61A80, .signed (50000) 2000000⟩]
  | .MC_DNUDGEV => [⟨31, 0, .rwl, 0x249F0, .signed (20000) 500000⟩]
  | .MC_DHOMEV => [⟨31, 0, .rwl, 0xC350, .signed (10000) 200000⟩]
  | .MC_DLRNV => [⟨31, 0, .rwl, 0x186A0, .signed (20000) 500000⟩]
  | .MC_DLRNA => [⟨31, 0, .rwl, 0x1388, .signed (500) 20000⟩]
  | .MC_DHOMEF => [⟨31, 0, .rwl, 0x1F40, .signed (2000) 15000⟩]
  | .MC_DSTALLV => [⟨31, 0, .rwl, 0x7D0, .signed (100) 20000⟩]
  | .MC_DSTALLMS => [⟨31, 0, .rwl, 0x64, .unsigned 20 1000⟩]
  | .MC_DSTALLPOS => [⟨31, 0, .rwl, 0x14, .signed (1) 1000⟩]
  | .MC_DOPENGAP => [⟨31, 0, .rwl, 0x1F4, .signed (0) 5000⟩]
  | .MC_DCOUPLEPOS => [⟨31, 0, .rwl, 0xBB8, .signed (0) 20000⟩]
  | .MC_DREVLIM => [⟨31, 0, .rwl, 0x2710, .signed (1000) 50000⟩]
  | .MC_DSESSGRACE => [⟨31, 0, .rwl, 0xBB8, .unsigned 0 60000⟩]
  | .MC_DCLOSETOL => [⟨31, 0, .rwl, 0xC8, .signed (10) 2000⟩]
  | .MC_DCLOSEWAIT => [⟨31, 0, .rwl, 0x7D0, .unsigned 100 10000⟩]
  | .MC_DEOVR => [⟨31, 0, .rwl, 0xC8, .unsigned 0 500⟩]
  | .MC_DEORUN => [⟨31, 0, .rwl, 0x8, .unsigned 1 64⟩]
  | .MC_DDINAGE => [⟨31, 0, .rwl, 0x14, .unsigned 5 100⟩]
  | .MC_DTRAVEL => [⟨31, 0, .rwk, 0x0, .none⟩]
  | .MC_DMLEARN => [⟨31, 0, .rwk, 0x0, .none⟩]
  | .MC_DFRICL => [⟨31, 0, .rwk, 0x0, .none⟩]
  | .MC_DLCRC => [⟨31, 0, .rwk, 0x0, .none⟩]
  | .MC_DFOBS => [⟨31, 0, .ro, 0x0, .none⟩]
  | .MC_DEKIN => [⟨31, 0, .ro, 0x0, .none⟩]
  | .MC_DVADM => [⟨31, 0, .ro, 0x0, .none⟩]
  | .MC_DFLIMNOW => [⟨31, 0, .ro, 0x0, .none⟩]
  | .MC_DMUSE => [⟨31, 0, .ro, 0x0, .none⟩]
  | .MC_DREVCOUNT => [⟨31, 0, .ro, 0x0, .none⟩]
  | .MC_DOBSPOS => [⟨31, 0, .ro, 0x0, .none⟩]
  | .MC_DACC => [⟨31, 0, .ro, 0x0, .none⟩]
  | .SCH_CFG => [⟨12, 8, .ro, 0x0, .none⟩, ⟨4, 4, .ro, 0x0, .none⟩, ⟨1, 0, .ro, 0x0, .none⟩]
  | .SCH_CTL => [⟨27, 24, .rwl, 0x0, .none⟩, ⟨19, 16, .rwl, 0x3, .unsigned 1 8⟩, ⟨1, 1, .wo, 0x0, .none⟩, ⟨0, 0, .rw, 0x0, .none⟩]
  | .SCH_STAT => [⟨31, 24, .ro, 0x0, .none⟩, ⟨20, 20, .w1c, 0x0, .none⟩, ⟨16, 16, .w1c, 0x0, .none⟩, ⟨15, 12, .ro, 0x0, .none⟩, ⟨11, 8, .ro, 0x0, .none⟩, ⟨2, 0, .ro, 0x0, .none⟩]
  | .SCH_OPEN => [⟨26, 16, .ro, 0x0, .none⟩, ⟨10, 0, .ro, 0x0, .none⟩]
  | .SCH_RECOMP => [⟨31, 0, .ro, 0x0, .none⟩]
  | .SCH_MISSCNT => [⟨31, 0, .ro, 0x0, .none⟩]
  | .SCH_WT => [⟨31, 0, .rwl, 0x3E8, .unsigned 0 10000⟩]
  | .SCH_WD => [⟨31, 0, .rwl, 0x1F4, .unsigned 0 10000⟩]
  | .SCH_HYST => [⟨31, 0, .rwl, 0x7D0, .unsigned 0 60000⟩]
  | .SCH_LEADMS => [⟨31, 0, .rwl, 0x3C, .unsigned 2 1000⟩]
  | .SCH_PENDMAX => [⟨31, 0, .rwl, 0x1D4C0, .unsigned 10000 600000⟩]
  | .SCH_SESSMAX => [⟨31, 0, .rwl, 0xDBBA0, .unsigned 1000 3600000⟩]
  | .SCH_GRANTPER => [⟨31, 0, .rwl, 0x64, .unsigned 20 200⟩]
  | .SCH_GRANTAGE => [⟨31, 0, .rwl, 0x12C, .unsigned 100 450⟩]
  | .SCH_RESENDWAIT => [⟨31, 0, .rwl, 0x7D0, .unsigned 0 10000⟩]
  | .SCH_FRAMEOFS => [⟨31, 0, .rwl, 0x0, .none⟩]
  | .SCH_CTXSEL => [⟨9, 0, .rw, 0x0, .none⟩]
  | .SCH_CTXTIME => [⟨31, 0, .ro, 0x0, .none⟩]
  | .SCH_CTXCOST => [⟨31, 0, .ro, 0x0, .none⟩]
  | .SCH_CTXTTS => [⟨31, 0, .ro, 0x0, .none⟩]
  | .SCH_CTXREM => [⟨31, 0, .ro, 0x0, .none⟩]
  | .SCH_CTXA => [⟨31, 28, .ro, 0x0, .none⟩, ⟨27, 24, .ro, 0x0, .none⟩, ⟨23, 16, .ro, 0x0, .none⟩, ⟨12, 8, .ro, 0x0, .none⟩, ⟨7, 0, .ro, 0x0, .none⟩]
  | .SCH_CTXB => [⟨31, 16, .ro, 0x0, .none⟩, ⟨15, 8, .ro, 0x0, .none⟩, ⟨7, 0, .ro, 0x0, .none⟩]
  | .SCH_CVMAX => [⟨31, 0, .rwl, 0x10C8E0, .signed (1000) 20000000⟩]
  | .SCH_CAMAX => [⟨31, 0, .rwl, 0x1388, .signed (10) 100000⟩]
  | .SCH_CDMAX => [⟨31, 0, .rwl, 0x1388, .signed (10) 100000⟩]
  | .SCH_CJMAX => [⟨31, 0, .rwl, 0x3E8, .signed (10) 1000000⟩]
  | .SCH_CDWELL => [⟨31, 0, .rwl, 0xFA0, .unsigned 0 60000⟩]
  | .SCH_CSLOSS => [⟨31, 0, .rwl, 0xBB8, .unsigned 0 60000⟩]
  | .SCH_CFULL => [⟨31, 0, .rwl, 0x320, .unsigned 500 1000⟩]
  | .SCH_CLOAD => [⟨31, 0, .rw, 0x0, .unsigned 0 2000⟩]
  | .SCH_CSTAT => [⟨31, 0, .ro, 0x0, .none⟩]
  | .SCH_CPOS => [⟨31, 0, .ro, 0x0, .none⟩]
  | .SCH_CVEL => [⟨31, 0, .ro, 0x0, .none⟩]
  | .SCH_FLVL => [⟨31, 0, .rwl, 0x7FFFFFFF, .none⟩]
  | .SCH_GSERVE => [⟨31, 0, .rwl, 0xFFFFFFFF, .none⟩]
  | .SCH_STN => [⟨8, 8, .rwl, 0x0, .none⟩, ⟨7, 0, .rwl, 0x0, .none⟩]
  | .SEQ_FCFG => [⟨28, 28, .rwl, 0x0, .none⟩, ⟨27, 16, .rwl, 0x0, .none⟩, ⟨12, 12, .rwl, 0x0, .none⟩, ⟨11, 0, .rwl, 0x0, .none⟩]
  | .SEQ_FCTL => [⟨28, 28, .wo, 0x0, .none⟩, ⟨27, 16, .wo, 0x0, .none⟩, ⟨2, 2, .wo, 0x0, .none⟩, ⟨1, 1, .wo, 0x0, .none⟩, ⟨0, 0, .wo, 0x0, .none⟩]
  | .SEQ_FSTAT => [⟨31, 20, .ro, 0x0, .none⟩, ⟨19, 16, .ro, 0x0, .none⟩, ⟨11, 8, .ro, 0x0, .none⟩, ⟨6, 4, .ro, 0x0, .none⟩, ⟨2, 0, .ro, 0x0, .none⟩]
  | .SEQ_FEND => [⟨7, 0, .ro, 0x0, .none⟩]
  | .SEQ_FFLAG => [⟨7, 0, .w1c, 0x0, .none⟩]
  | .SEQ_FSIG => [⟨7, 0, .wo, 0x0, .none⟩]
  | .SEQ_FSTEPMAX => [⟨31, 0, .rwl, 0x186A0, .unsigned 100 10000000⟩]
  | .SEQ_FSTEPS => [⟨31, 0, .ro, 0x0, .none⟩]
  | .SEQ_FG => [⟨31, 0, .ro, 0x0, .none⟩]
  | .SEQ_FTMR => [⟨31, 0, .ro, 0x0, .none⟩]
  | .SEQ_FTMRST => [⟨15, 0, .ro, 0x0, .none⟩]
  | .SEQ_OUTLVL0 => [⟨31, 0, .ro, 0x0, .none⟩]
  | .SEQ_OUTLVL1 => [⟨31, 0, .ro, 0x0, .none⟩]
  | .SEQ_INLVL0 => [⟨31, 0, .ro, 0x0, .none⟩]
  | .SEQ_INLVL1 => [⟨31, 0, .ro, 0x0, .none⟩]
  | .SEQ_FSTORE => [⟨31, 0, .ro, 0x0, .none⟩]
  | .SFI_LATCTL => [⟨1, 1, .rwl, 0x0, .none⟩, ⟨0, 0, .rwl, 0x0, .none⟩]
  | .SFI_LATSTAT => [⟨26, 16, .ro, 0x0, .none⟩, ⟨6, 4, .ro, 0x0, .none⟩, ⟨2, 0, .ro, 0x0, .none⟩]
  | .SFI_LATPASS => [⟨31, 0, .ro, 0x0, .none⟩]
  | .SFI_LATMCRC => [⟨31, 0, .ro, 0x0, .none⟩]
  | .SFI_LATERR => [⟨31, 16, .ro, 0x0, .none⟩, ⟨15, 0, .ro, 0x0, .none⟩]
  | .SFI_FLTIN => [⟨25, 25, .ro, 0x0, .none⟩, ⟨24, 24, .ro, 0x0, .none⟩, ⟨20, 16, .ro, 0x0, .none⟩, ⟨12, 0, .ro, 0x0, .none⟩]
  | .SFI_SIIN => [⟨23, 0, .ro, 0x0, .none⟩]
  | .SFI_CTIN => [⟨7, 0, .ro, 0x0, .none⟩]
  | .SFI_VIIN => [⟨31, 16, .ro, 0x0, .none⟩, ⟨15, 0, .ro, 0x0, .none⟩]
  | .SFI_COUT => [⟨31, 0, .ro, 0x0, .none⟩]
  | .SFI_TMR => [⟨31, 30, .ro, 0x0, .none⟩, ⟨27, 0, .ro, 0x0, .none⟩]
  | .SFI_CELL => [⟨31, 0, .ro, 0x0, .none⟩]
  | .SFI_LEPTEST => [⟨31, 16, .rwl, 0xC8, .unsigned 20 2000⟩, ⟨15, 0, .rwl, 0x190, .unsigned 100 2000⟩]
  | .SFI_ACKCFG => [⟨5, 5, .rwl, 0x0, .none⟩, ⟨4, 0, .rwl, 0x0, .none⟩]
  | .SFI_SICFG => [⟨31, 21, .rwl, 0x32, .unsigned 1 2000⟩, ⟨20, 16, .rwl, 0x3, .none⟩, ⟨14, 10, .rwl, 0x0, .none⟩, ⟨9, 5, .rwl, 0x0, .none⟩, ⟨1, 0, .rwl, 0x0, .none⟩]
  | .SFI_SISTAT => [⟨31, 16, .ro, 0x0, .none⟩, ⟨8, 8, .ro, 0x0, .none⟩, ⟨5, 5, .ro, 0x0, .none⟩, ⟨4, 4, .ro, 0x0, .none⟩, ⟨3, 3, .ro, 0x0, .none⟩, ⟨2, 2, .ro, 0x0, .none⟩, ⟨1, 1, .ro, 0x0, .none⟩, ⟨0, 0, .ro, 0x0, .none⟩]
  | .SFI_CTCFG => [⟨31, 28, .rwl, 0x3, .none⟩, ⟨27, 16, .rwl, 0x4B0, .none⟩, ⟨12, 12, .rwl, 0x0, .none⟩, ⟨11, 0, .rwl, 0x708, .none⟩]
  | .SFI_CTMV => [⟨31, 0, .ro, 0x0, .none⟩]
  | .SFI_NVOSEL => [⟨27, 16, .rwl, 0x4F0, .none⟩, ⟨11, 0, .rwl, 0x4F0, .none⟩]
  | .SFI_SOCFG => [⟨12, 12, .rwl, 0x0, .none⟩, ⟨11, 0, .rwl, 0x4F0, .none⟩]
  | .SFI_SOTEST => [⟨31, 16, .rwl, 0x1F4, .unsigned 100 10000⟩, ⟨15, 0, .rwl, 0x96, .unsigned 50 1000⟩]
  | .SFI_SOSTAT => [⟨15, 12, .ro, 0x0, .none⟩, ⟨8, 8, .ro, 0x0, .none⟩, ⟨7, 7, .ro, 0x0, .none⟩, ⟨6, 6, .ro, 0x0, .none⟩, ⟨5, 5, .ro, 0x0, .none⟩, ⟨4, 4, .ro, 0x0, .none⟩, ⟨3, 3, .ro, 0x0, .none⟩, ⟨2, 2, .ro, 0x0, .none⟩, ⟨1, 1, .ro, 0x0, .none⟩, ⟨0, 0, .ro, 0x0, .none⟩]
  | .SFI_SOCNT => [⟨31, 16, .ro, 0x0, .none⟩, ⟨15, 0, .ro, 0x0, .none⟩]
  | .SFI_FRMASK => [⟨5, 0, .rwl, 0x3F, .none⟩]
  | .SFI_FRSTAT => [⟨30, 30, .ro, 0x0, .none⟩, ⟨29, 16, .ro, 0x0, .none⟩, ⟨13, 8, .ro, 0x0, .none⟩, ⟨1, 1, .ro, 0x0, .none⟩, ⟨0, 0, .ro, 0x0, .none⟩]
  | .SFI_ACKSTAT => [⟨31, 16, .ro, 0x0, .none⟩, ⟨11, 8, .ro, 0x0, .none⟩, ⟨2, 2, .ro, 0x0, .none⟩, ⟨1, 1, .ro, 0x0, .none⟩, ⟨0, 0, .ro, 0x0, .none⟩]
  | .SFI_TESTCTL => [⟨5, 0, .rwl, 0x0, .none⟩]
  | .SFI_TESTSTAT => [⟨21, 16, .ro, 0x0, .none⟩, ⟨15, 8, .ro, 0x0, .none⟩, ⟨2, 0, .ro, 0x0, .none⟩]
  | .MGT_BLKSTAT => [⟨31, 16, .ro, 0x0, .none⟩, ⟨9, 8, .ro, 0x0, .none⟩, ⟨7, 4, .ro, 0x0, .none⟩, ⟨0, 0, .ro, 0x0, .none⟩]
  | .MGT_QCLR => [⟨23, 0, .rwl, 0x0, .none⟩]
  | .MPI_DEGTIME => [⟨31, 0, .rwl, 0x78, .unsigned 10 600⟩]
  | .MPI_DEGOPEN => [⟨31, 0, .rwl, 0x2710, .unsigned 1000 60000⟩]
  | .MPI_DEGSTAT => [⟨31, 16, .ro, 0x0, .none⟩, ⟨2, 2, .ro, 0x0, .none⟩, ⟨1, 0, .ro, 0x0, .none⟩]
  | .BUS_CANCTL => [⟨6, 6, .rwl, 0x0, .none⟩, ⟨5, 5, .rwl, 0x0, .none⟩, ⟨4, 4, .rwl, 0x1, .none⟩, ⟨1, 0, .rwl, 0x1, .none⟩]
  | .BUS_CANSTAT => [⟨31, 24, .ro, 0x0, .none⟩, ⟨23, 16, .ro, 0x0, .none⟩, ⟨15, 8, .ro, 0x0, .none⟩, ⟨6, 6, .ro, 0x0, .none⟩, ⟨5, 5, .w1c, 0x0, .none⟩, ⟨4, 4, .w1c, 0x0, .none⟩, ⟨3, 3, .ro, 0x0, .none⟩, ⟨1, 0, .ro, 0x3, .none⟩]
  | .BUS_CANNBT => [⟨31, 24, .rwl, 0x1, .none⟩, ⟨23, 16, .rwl, 0x44, .none⟩, ⟨14, 8, .rwl, 0x9, .none⟩, ⟨6, 0, .rwl, 0x9, .none⟩]
  | .BUS_CANDBT => [⟨28, 24, .rwl, 0x0, .none⟩, ⟨20, 16, .rwl, 0xE, .none⟩, ⟨11, 8, .rwl, 0x3, .none⟩, ⟨3, 0, .rwl, 0x3, .none⟩]
  | .BUS_CANTDC => [⟨22, 16, .rwl, 0x10, .none⟩, ⟨8, 8, .rwl, 0x1, .none⟩]
  | .BUS_CANCNT => [⟨31, 16, .ro, 0x0, .none⟩, ⟨15, 0, .ro, 0x0, .none⟩]
  | .BUS_CANNOMATCH => [⟨31, 0, .ro, 0x0, .none⟩]
  | .BUS_CANTXSTAT => [⟨21, 16, .ro, 0x0, .none⟩, ⟨15, 8, .ro, 0x0, .none⟩, ⟨7, 0, .ro, 0x0, .none⟩]
  | .BUS_CANTXCANCEL => [⟨31, 31, .wo, 0x0, .none⟩, ⟨10, 8, .wo, 0x0, .none⟩, ⟨7, 0, .wo, 0x0, .none⟩]
  | .BUS_CANTXW => [⟨31, 0, .rw, 0x0, .none⟩]
  | .BUS_CANTXGO => [⟨31, 31, .wo, 0x0, .none⟩]
  | .BUS_CANTXPCFG => [⟨5, 5, .rwl, 0x0, .none⟩, ⟨4, 4, .rwl, 0x0, .none⟩, ⟨3, 3, .rwl, 0x0, .none⟩, ⟨2, 2, .rwl, 0x0, .none⟩, ⟨1, 1, .rwl, 0x0, .none⟩]
  | .BUS_CANTXPID => [⟨29, 29, .rwl, 0x0, .none⟩, ⟨28, 0, .rwl, 0x0, .none⟩]
  | .BUS_RBCFG => [⟨31, 16, .rwl, 0x0, .none⟩, ⟨15, 12, .rwl, 0x1, .unsigned 1 14⟩, ⟨9, 8, .rwl, 0x0, .none⟩, ⟨1, 1, .rwl, 0x0, .none⟩, ⟨0, 0, .rwl, 0x0, .none⟩]
  | .BUS_RBID => [⟨31, 31, .rwl, 0x0, .none⟩, ⟨30, 30, .rwl, 0x0, .none⟩, ⟨29, 29, .rwl, 0x0, .none⟩, ⟨28, 0, .rwl, 0x0, .none⟩]
  | .BUS_RBMASK => [⟨31, 0, .rwl, 0x0, .none⟩]
  | .BUS_RBSTAT => [⟨31, 16, .ro, 0x0, .none⟩, ⟨8, 8, .wo, 0x0, .none⟩, ⟨2, 2, .ro, 0x0, .none⟩, ⟨1, 1, .ro, 0x0, .none⟩, ⟨0, 0, .ro, 0x0, .none⟩]
  | .BUS_RBW => [⟨31, 0, .ro, 0x0, .none⟩]
  | .BUS_TSCFG => [⟨29, 29, .rwl, 0x0, .none⟩, ⟨28, 0, .rwl, 0x0, .none⟩]
  | .BUS_TSCTL => [⟨25, 16, .rwl, 0xA, .unsigned 1 1000⟩, ⟨15, 8, .rwl, 0x0, .none⟩, ⟨5, 4, .rwl, 0x0, .none⟩, ⟨2, 0, .rwl, 0x3, .none⟩]
  | .BUS_TSSTAT => [⟨31, 16, .ro, 0x0, .none⟩, ⟨15, 8, .ro, 0x0, .none⟩, ⟨2, 0, .ro, 0x0, .none⟩]
  | .BUS_TSRATE => [⟨31, 0, .ro, 0x0, .none⟩]
  | .BUS_TSCORR => [⟨31, 0, .ro, 0x0, .none⟩]
  | .BUS_TSERR => [⟨31, 0, .ro, 0x0, .none⟩]
  | .BUS_TSNTLO => [⟨31, 0, .ro, 0x0, .none⟩]
  | .BUS_TSNTHI => [⟨31, 0, .ro, 0x0, .none⟩]
  | .BUS_TSLOCKNS => [⟨31, 0, .rwl, 0x3E8, .unsigned 100 100000⟩]
  | .BUS_TSSTEPNS => [⟨31, 0, .rwl, 0x186A0, .unsigned 1000 10000000⟩]
  | .BUS_TSHOLDMS => [⟨31, 0, .rwl, 0x2710, .unsigned 100 600000⟩]
  | .BUS_PXSTAT => [⟨16, 16, .ro, 0x0, .none⟩, ⟨15, 8, .ro, 0x0, .none⟩, ⟨6, 0, .ro, 0x0, .none⟩]
  | .BUS_PXCTL => [⟨0, 0, .wo, 0x0, .none⟩]
  | .BUS_PXUNKNOWN => [⟨31, 0, .ro, 0x0, .none⟩]
  | .BUS_PXCCFG => [⟨31, 31, .rwl, 0x0, .none⟩, ⟨30, 30, .rwl, 0x0, .none⟩, ⟨29, 28, .rwl, 0x0, .none⟩, ⟨27, 26, .rwl, 0x0, .none⟩, ⟨25, 25, .rwl, 0x1, .none⟩, ⟨21, 16, .rwl, 0x8, .unsigned 4 40⟩, ⟨15, 0, .rwl, 0x0, .unsigned 1 65534⟩]
  | .BUS_PXCCAN => [⟨31, 31, .rwl, 0x1, .none⟩, ⟨29, 29, .rwl, 0x0, .none⟩, ⟨28, 0, .rwl, 0x0, .none⟩]
  | .BUS_PXCNODE => [⟨31, 0, .rwl, 0x0, .none⟩]
  | .BUS_PXCPER => [⟨31, 0, .rwl, 0x3E8, .unsigned 250 1000000⟩]
  | .BUS_PXCAGE => [⟨31, 16, .rwl, 0x7D0, .unsigned 100 65535⟩, ⟨15, 0, .rwl, 0xC8, .unsigned 0 10000⟩]
  | .BUS_PXCMAP => [⟨29, 29, .rwl, 0x0, .none⟩, ⟨28, 24, .rwl, 0x0, .unsigned 0 16⟩, ⟨23, 20, .rwl, 0x0, .none⟩, ⟨10, 8, .rwl, 0x0, .none⟩, ⟨5, 0, .rwl, 0x4, .unsigned 1 63⟩]
  | .BUS_PXCTM => [⟨31, 16, .rwl, 0x0, .none⟩, ⟨15, 0, .rwl, 0x0, .none⟩]
  | .BUS_PXCSTAT => [⟨31, 16, .ro, 0x0, .none⟩, ⟨15, 8, .ro, 0x0, .none⟩, ⟨2, 0, .ro, 0x0, .none⟩]
  | .BUS_PXCERR => [⟨31, 16, .ro, 0x0, .none⟩, ⟨15, 0, .ro, 0x0, .none⟩]
  | .SFI_LSCFG => [⟨13, 8, .rwl, 0x0, .none⟩, ⟨0, 0, .rwl, 0x0, .none⟩]
  | .SFI_LSCTL => [⟨1, 1, .rwl, 0x0, .none⟩, ⟨0, 0, .rwl, 0x0, .none⟩]
  | .SFI_LSSTAT => [⟨31, 28, .ro, 0x0, .none⟩, ⟨26, 24, .ro, 0x0, .none⟩, ⟨17, 16, .ro, 0x0, .none⟩, ⟨9, 9, .ro, 0x0, .none⟩, ⟨8, 8, .ro, 0x0, .none⟩, ⟨4, 4, .ro, 0x0, .none⟩, ⟨3, 2, .ro, 0x0, .none⟩, ⟨1, 0, .ro, 0x3, .none⟩]
  | .SFI_LSHELD => [⟨31, 0, .ro, 0x0, .none⟩]
  | .SFI_LSHIGH => [⟨31, 0, .ro, 0x0, .none⟩]
  | .SFI_LSREM => [⟨31, 0, .ro, 0x0, .none⟩]
  | .SFI_LSCNT => [⟨31, 16, .ro, 0x0, .none⟩, ⟨15, 0, .ro, 0x0, .none⟩]
  | .BUS_LICFG => [⟨31, 24, .rwl, 0xA, .toLeaseThird⟩, ⟨23, 16, .rwl, 0x19, .unsigned 10 200⟩, ⟨15, 8, .rwl, 0x32, .unsigned 20 200⟩, ⟨0, 0, .rwl, 0x0, .none⟩]
  | .BUS_LICTL => [⟨0, 0, .rwl, 0x0, .none⟩]
  | .BUS_LISTAT => [⟨31, 16, .ro, 0x0, .none⟩, ⟨11, 8, .ro, 0x0, .none⟩, ⟨7, 4, .ro, 0xF, .none⟩, ⟨1, 0, .ro, 0x0, .none⟩]
  | .BUS_LINUM => [⟨31, 0, .rwk, 0x0, .none⟩]
  | .BUS_EPCFG => [⟨29, 29, .rwl, 0x0, .none⟩, ⟨28, 0, .rwl, 0x0, .none⟩]
  | .BUS_EPCTL => [⟨31, 24, .rwl, 0x14, .unsigned 10 200⟩, ⟨23, 12, .rwl, 0x64, .unsigned 20 2000⟩, ⟨11, 10, .rwl, 0x0, .none⟩, ⟨9, 9, .rwl, 0x1, .none⟩]
  | .BUS_EPMAXAGE => [⟨31, 0, .rwl, 0xA, .unsigned 1 600⟩]
  | .BUS_EPSEQ => [⟨31, 0, .ro, 0x0, .none⟩]
  | .MGT_EPNUM => [⟨31, 0, .ro, 0x0, .none⟩]
  | .MGT_RECSTAT => [⟨24, 16, .ro, 0x0, .none⟩, ⟨8, 8, .ro, 0x0, .none⟩, ⟨4, 4, .ro, 0x0, .none⟩, ⟨0, 0, .ro, 0x0, .none⟩]
  | .MGT_RECCTL => [⟨2, 2, .wo, 0x0, .none⟩, ⟨1, 1, .wo, 0x0, .none⟩, ⟨0, 0, .wo, 0x0, .none⟩]
  | .MGT_RECNEXT => [⟨31, 0, .ro, 0x0, .none⟩]
  | .MGT_RECOLDEST => [⟨31, 0, .ro, 0x0, .none⟩]
  | .MGT_RECBIRTH => [⟨13, 0, .ro, 0x0, .none⟩]
  | .MGT_RECSEL => [⟨31, 31, .rw, 0x0, .none⟩, ⟨30, 0, .rw, 0x0, .none⟩]
  | .MGT_RECRES => [⟨1, 0, .ro, 0x0, .none⟩]
  | .MGT_RECDATA => [⟨31, 0, .ro, 0x0, .none⟩]
  | .MGT_RECDROP => [⟨31, 16, .ro, 0x0, .none⟩, ⟨15, 0, .ro, 0x0, .none⟩]
  | .MGT_WEARSEL => [⟨31, 0, .rw, 0x0, .none⟩]
  | .MGT_WEARLO => [⟨31, 0, .ro, 0x0, .none⟩]
  | .MGT_WEARHI => [⟨31, 31, .ro, 0x0, .none⟩, ⟨7, 0, .ro, 0x0, .none⟩]
  | .MGT_WORNCNT => [⟨31, 0, .ro, 0x0, .none⟩]
  | .AON_RTCSEC => [⟨31, 0, .ro, 0x0, .none⟩]
  | .AON_RTCFRAC => [⟨15, 0, .ro, 0x0, .none⟩]
  | .AON_RTCSET => [⟨31, 0, .wo, 0x0, .none⟩]
  | .AON_RTCSTAT => [⟨0, 0, .ro, 0x1, .none⟩]
  | .AON_TAMPCFG => [⟨17, 16, .rwl, 0x1, .none⟩, ⟨9, 0, .rwl, 0x0, .none⟩]
  | .AON_TAMPSTAT => [⟨4, 0, .ro, 0x0, .none⟩]
  | .AON_LOGSTAT => [⟨31, 24, .ro, 0x0, .none⟩, ⟨23, 8, .ro, 0x0, .none⟩, ⟨6, 0, .ro, 0x0, .none⟩]
  | .MGT_KEEP => [⟨31, 0, .rwk, 0x0, .none⟩]
  | .QF_GSTAT => [⟨31, 24, .ro, 0x0, .none⟩, ⟨8, 0, .ro, 0x0, .none⟩]
  | .QF_GIRQEN => [⟨4, 0, .rw, 0x0, .none⟩]
  | .QF_GIRQSTAT => [⟨4, 4, .w1c, 0x0, .none⟩, ⟨3, 3, .w1c, 0x0, .none⟩, ⟨2, 2, .ro, 0x0, .none⟩, ⟨1, 1, .ro, 0x0, .none⟩, ⟨0, 0, .ro, 0x0, .none⟩]
  | .QF_GTAGCLR => [⟨8, 8, .wo, 0x0, .none⟩, ⟨7, 0, .wo, 0x0, .none⟩]
  | .QF_GTAGMAP => [⟨31, 0, .ro, 0x0, .none⟩]
  | .QF_GQPEND => [⟨31, 0, .ro, 0x0, .none⟩]
  | .MGT_MPCFG => [⟨3, 0, .rwl, 0x0, .none⟩]
  | .MGT_MPSTAT => [⟨31, 16, .ro, 0x0, .none⟩, ⟨15, 8, .ro, 0x0, .none⟩, ⟨0, 0, .ro, 0x0, .none⟩]
  | .PWR_TEMP => [⟨16, 16, .ro, 0x0, .none⟩, ⟨15, 8, .ro, 0x0, .none⟩, ⟨7, 0, .ro, 0x0, .none⟩]

def Reg.all0 : List Reg :=
  [.SYS_ID, .SYS_TEMPO, .SYS_TEMPOSTAT, .MGT_DRCSTAT, .MGT_DRCSEL, .MGT_DRCRES, .MGT_DRCVOC, .MGT_DRCDH,
   .MGT_DRCDL, .SFI_LEPCFG, .SFI_LEPVSET, .SFI_LEPILIM, .SFI_LEPSTAT, .PWR_GATE, .PWR_STATE, .PWR_WAKEEN,
   .PWR_SUP, .PWR_VMAINMV, .PWR_VFLDMV, .PWR_VBATMV, .PWR_PFAILV, .PWR_RESCFG, .PWR_RESVCUT, .PWR_RESRINT,
   .PWR_RESIPK, .PWR_RESQCAP, .PWR_RESVFULL, .PWR_RESITAPER, .PWR_RESETA, .PWR_RESMARGIN, .PWR_RESPAUX, .PWR_RESEDOOR,
   .PWR_RESQREM, .PWR_RESSTAT, .PWR_RESEAVL, .PWR_RESEREQ, .PWR_RESVMIN, .PWR_RESVEL, .SYS_STAT, .SYS_BOOT]

def Reg.all1 : List Reg :=
  [.SYS_RSTCAUSE, .SYS_STARTUS, .AON_RSTHOLD, .MGT_RSTREQ, .MGT_LDSTAT, .MGT_SLOTCMD, .MGT_SLOTADDR, .MGT_SLOTDATA,
   .MGT_PWDATA, .MGT_PWCMD, .MGT_PWSTAT, .MGT_KEYDATA, .MGT_KEYCMD, .MGT_KEYSTAT, .MGT_CLOGNEXT, .MGT_CLOGSEL,
   .MGT_OVLSTAT, .MGT_OVLKEY, .MGT_IMGCRC, .MGT_CLOGDATA, .QF_QCFG, .QF_QSTAT, .QF_QDATA, .QF_QLOST,
   .QF_FSTAT, .QF_PARERR, .QF_LTAG, .QF_LTAGSTAT, .QF_FCTL, .QF_QFDROP, .QF_QEP, .QF_QTMO,
   .MPI_LVLO, .MPI_LVHI, .MPI_LTRIM, .MPI_LLEVEL, .MPI_FCFG, .MPI_FSTAT, .MPI_FPOS, .MPI_FBOUND]

def Reg.all2 : List Reg :=
  [.MPI_FPLO, .MPI_FPHI, .MPI_FVEL, .MPI_FCYCLE, .MPI_FCMD, .MPI_FRUN, .MPI_FSW, .MPI_FSWMAP,
   .MPI_ENCSCALE, .MPI_ENCPPM, .MPI_ENCRATE, .MPI_SSISCALE, .MPI_SSIOFS, .MPI_SSIERR, .MPI_SSILAT, .MPI_VANEERR,
   .MPI_VANELAT, .MPI_VANEDISC, .MPI_VANECAP, .MPI_VERR, .MPI_BMAX, .MPI_XRUN, .MPI_MISSRUN, .MPI_DZHALF,
   .MPI_ADEC, .MPI_LEARNVEL, .MPI_NLAND, .MPI_DATUM, .MPI_HOMEERR, .MPI_NTSDN, .MPI_NTSUP, .MPI_LTABCRC,
   .MPI_PVICFG, .MPI_PVIARG, .MPI_PVISTAT, .MPI_KNT, .MPI_KNP, .MPI_KNV, .MPI_PLCFG, .MPI_PLSTAT]

def Reg.all3 : List Reg :=
  [.MPI_PLCTL, .MPI_PLCORR, .MPI_PLVMAX, .MPI_PLAMAX, .MPI_PLDMAX, .MPI_PLJMAX, .MPI_PLQDMAX, .MPI_PLQJMAX,
   .MPI_PLSOFTLO, .MPI_PLSOFTHI, .MPI_PLARRTOL, .MPI_PLARRWAIT, .MPI_PLDEGVEL, .MPI_PLREVDWELL, .MPI_PLPDSCALE, .MPI_PLMCAR,
   .MPI_PLMCW, .MPI_PLMROT, .MPI_PLFRIC, .MPI_PLLOAD, .MPI_PLREFPOS, .MPI_PLREFVEL, .MPI_PLREFACC, .MPI_PLSTOPPOS,
   .MPI_PLCURID, .MPI_PLMOVES, .MPI_PLSTEP, .MPI_PLUSCALE, .MPI_PLESCALE, .MPI_PLDEVWIN, .MPI_PLHOLDDLY, .MPI_PLTAB,
   .LECTL, .LEHOLD, .LESTAT, .LEMISSCNT, .LEOUT, .LESAMPLE, .LEFFSRC, .LEKA]

def Reg.all4 : List Reg :=
  [.LEKV, .LEVNOM, .LECMD, .LSCFG, .LSKP, .LSKI, .LSKD, .LSOUTMIN,
   .LSOUTMAX, .LSTRACK, .LSSETP, .LSRATE, .LSJERK, .LSSP, .LSMEAS, .LSU,
   .LSI, .MC_CFG, .MC_CTL, .MC_STAT, .MC_KPC, .MC_KIC, .MC_IMAX, .MC_OCLIM,
   .MC_MODMAX, .MC_DEADNS, .MC_IDREF, .MC_EPR, .MC_ALIGNI, .MC_ALIGNMS, .MC_FBSCALE, .MC_VFILT,
   .MC_VDCMIN, .MC_IRUN, .MC_FBSET, .MC_ANGOFS, .MC_ID, .MC_IQ, .MC_VD, .MC_VQ]

def Reg.all5 : List Reg :=
  [.MC_THETA, .MC_FBPOS, .MC_VEL, .MC_VDC, .MC_IQD, .MC_ADCCFG, .MC_ISCALE, .MC_IOFS,
   .MC_VSCALE, .MC_ICUR, .MC_TWOHM, .MC_DSTAT, .MC_DINMAP, .MC_DIN, .MC_DSTATION, .MC_DKF,
   .MC_DFRICV, .MC_DAFILT, .MC_DFLIM, .MC_DFLIMO, .MC_DELIM, .MC_DELIMN, .MC_DELIMO, .MC_DMMARGIN,
   .MC_DMASSMIN, .MC_DMASSMAX, .MC_DOBSF, .MC_DOBSRUN, .MC_DCLZONE, .MC_DOPENV, .MC_DCLOSEV, .MC_DNUDGEV,
   .MC_DHOMEV, .MC_DLRNV, .MC_DLRNA, .MC_DHOMEF, .MC_DSTALLV, .MC_DSTALLMS, .MC_DSTALLPOS, .MC_DOPENGAP]

def Reg.all6 : List Reg :=
  [.MC_DCOUPLEPOS, .MC_DREVLIM, .MC_DSESSGRACE, .MC_DCLOSETOL, .MC_DCLOSEWAIT, .MC_DEOVR, .MC_DEORUN, .MC_DDINAGE,
   .MC_DTRAVEL, .MC_DMLEARN, .MC_DFRICL, .MC_DLCRC, .MC_DFOBS, .MC_DEKIN, .MC_DVADM, .MC_DFLIMNOW,
   .MC_DMUSE, .MC_DREVCOUNT, .MC_DOBSPOS, .MC_DACC, .SCH_CFG, .SCH_CTL, .SCH_STAT, .SCH_OPEN,
   .SCH_RECOMP, .SCH_MISSCNT, .SCH_WT, .SCH_WD, .SCH_HYST, .SCH_LEADMS, .SCH_PENDMAX, .SCH_SESSMAX,
   .SCH_GRANTPER, .SCH_GRANTAGE, .SCH_RESENDWAIT, .SCH_FRAMEOFS, .SCH_CTXSEL, .SCH_CTXTIME, .SCH_CTXCOST, .SCH_CTXTTS]

def Reg.all7 : List Reg :=
  [.SCH_CTXREM, .SCH_CTXA, .SCH_CTXB, .SCH_CVMAX, .SCH_CAMAX, .SCH_CDMAX, .SCH_CJMAX, .SCH_CDWELL,
   .SCH_CSLOSS, .SCH_CFULL, .SCH_CLOAD, .SCH_CSTAT, .SCH_CPOS, .SCH_CVEL, .SCH_FLVL, .SCH_GSERVE,
   .SCH_STN, .SEQ_FCFG, .SEQ_FCTL, .SEQ_FSTAT, .SEQ_FEND, .SEQ_FFLAG, .SEQ_FSIG, .SEQ_FSTEPMAX,
   .SEQ_FSTEPS, .SEQ_FG, .SEQ_FTMR, .SEQ_FTMRST, .SEQ_OUTLVL0, .SEQ_OUTLVL1, .SEQ_INLVL0, .SEQ_INLVL1,
   .SEQ_FSTORE, .SFI_LATCTL, .SFI_LATSTAT, .SFI_LATPASS, .SFI_LATMCRC, .SFI_LATERR, .SFI_FLTIN, .SFI_SIIN]

def Reg.all8 : List Reg :=
  [.SFI_CTIN, .SFI_VIIN, .SFI_COUT, .SFI_TMR, .SFI_CELL, .SFI_LEPTEST, .SFI_ACKCFG, .SFI_SICFG,
   .SFI_SISTAT, .SFI_CTCFG, .SFI_CTMV, .SFI_NVOSEL, .SFI_SOCFG, .SFI_SOTEST, .SFI_SOSTAT, .SFI_SOCNT,
   .SFI_FRMASK, .SFI_FRSTAT, .SFI_ACKSTAT, .SFI_TESTCTL, .SFI_TESTSTAT, .MGT_BLKSTAT, .MGT_QCLR, .MPI_DEGTIME,
   .MPI_DEGOPEN, .MPI_DEGSTAT, .BUS_CANCTL, .BUS_CANSTAT, .BUS_CANNBT, .BUS_CANDBT, .BUS_CANTDC, .BUS_CANCNT,
   .BUS_CANNOMATCH, .BUS_CANTXSTAT, .BUS_CANTXCANCEL, .BUS_CANTXW, .BUS_CANTXGO, .BUS_CANTXPCFG, .BUS_CANTXPID, .BUS_RBCFG]

def Reg.all9 : List Reg :=
  [.BUS_RBID, .BUS_RBMASK, .BUS_RBSTAT, .BUS_RBW, .BUS_TSCFG, .BUS_TSCTL, .BUS_TSSTAT, .BUS_TSRATE,
   .BUS_TSCORR, .BUS_TSERR, .BUS_TSNTLO, .BUS_TSNTHI, .BUS_TSLOCKNS, .BUS_TSSTEPNS, .BUS_TSHOLDMS, .BUS_PXSTAT,
   .BUS_PXCTL, .BUS_PXUNKNOWN, .BUS_PXCCFG, .BUS_PXCCAN, .BUS_PXCNODE, .BUS_PXCPER, .BUS_PXCAGE, .BUS_PXCMAP,
   .BUS_PXCTM, .BUS_PXCSTAT, .BUS_PXCERR, .SFI_LSCFG, .SFI_LSCTL, .SFI_LSSTAT, .SFI_LSHELD, .SFI_LSHIGH,
   .SFI_LSREM, .SFI_LSCNT, .BUS_LICFG, .BUS_LICTL, .BUS_LISTAT, .BUS_LINUM, .BUS_EPCFG, .BUS_EPCTL]

def Reg.all10 : List Reg :=
  [.BUS_EPMAXAGE, .BUS_EPSEQ, .MGT_EPNUM, .MGT_RECSTAT, .MGT_RECCTL, .MGT_RECNEXT, .MGT_RECOLDEST, .MGT_RECBIRTH,
   .MGT_RECSEL, .MGT_RECRES, .MGT_RECDATA, .MGT_RECDROP, .MGT_WEARSEL, .MGT_WEARLO, .MGT_WEARHI, .MGT_WORNCNT,
   .AON_RTCSEC, .AON_RTCFRAC, .AON_RTCSET, .AON_RTCSTAT, .AON_TAMPCFG, .AON_TAMPSTAT, .AON_LOGSTAT, .MGT_KEEP,
   .QF_GSTAT, .QF_GIRQEN, .QF_GIRQSTAT, .QF_GTAGCLR, .QF_GTAGMAP, .QF_GQPEND, .MGT_MPCFG, .MGT_MPSTAT,
   .PWR_TEMP]

/-- Every register. -/
def Reg.all : List Reg :=
  Reg.all0 ++ Reg.all1 ++ Reg.all2 ++ Reg.all3 ++ Reg.all4 ++ Reg.all5 ++ Reg.all6 ++ Reg.all7 ++ Reg.all8 ++ Reg.all9 ++ Reg.all10

/-- Start of loop engine `e`'s registers (R30): LE0 to LE3 in their motor engines, LE4 to LE7 in MPI. -/
def loopBase (e : Nat) : Nat :=
  if e < 4 then 0x108000 + e * 0x10000 else 0x0C8000 + (e - 4) * 0x1000

/-- Byte offset of the element `idx` of an array with these dimensions. -/
def dimOffset : List (Nat × Nat) → List Nat → Nat
  | (_, stride) :: ds, i :: is => i * stride + dimOffset ds is
  | _, _ => 0

/-- Byte address of a register's instance; a loop register takes its engine number first. -/
def Reg.addr (r : Reg) (idx : List Nat) : Nat :=
  if r.isLoop then
    match idx with
    | e :: is => loopBase e + r.base + dimOffset r.dims is
    | [] => r.base
  else r.base + dimOffset r.dims idx

/-- The indexes at which an offset lies in an array with these dimensions. -/
def dimIndex : List (Nat × Nat) → Nat → Option (List Nat)
  | [], off => if off = 0 then some [] else none
  | (n, stride) :: ds, off =>
    let i := off / stride
    if i < n then (dimIndex ds (off % stride)).map (i :: ·) else none

/-- The indexes at which a register's instance has this address. -/
def Reg.indexAt (r : Reg) (a : Nat) : Option (List Nat) :=
  if r.isLoop then
    let e := if a < 0x0CC000 then 4 + (a - 0x0C8000) / 0x1000 else (a - 0x100000) / 0x10000
    let off := a - loopBase e
    if (a < 0x0CC000 && a < 0x0C8000) || (0x0CC000 ≤ a && (a < 0x100000 || 0x140000 ≤ a)) || a < loopBase e + r.base then none
    else (dimIndex r.dims (off - r.base)).map (e :: ·)
  else if a < r.base then none
  else dimIndex r.dims (a - r.base)

/-- The register and its indexes at a byte address; none where the address space holds no register (R12, R30). -/
def locate (a : Nat) : Option (Reg × List Nat) :=
  Reg.all.findSome? fun r => (r.indexAt a).map (r, ·)

/-- Put the low bits of `v` into bits `hi` to `lo` of `w`. -/
def setBits (w : Word) (hi lo v : Nat) : Word :=
  let m := (2 ^ (hi - lo + 1) - 1) * 2 ^ lo
  (w &&& ~~~BitVec.ofNat 32 m) ||| BitVec.ofNat 32 ((v % 2 ^ (hi - lo + 1)) * 2 ^ lo)

/-- Bits `hi` to `lo` of a word, as a number. -/
def getBits (w : Word) (hi lo : Nat) : Nat :=
  w.toNat / 2 ^ lo % 2 ^ (hi - lo + 1)

/-- The register's word with every field at its reset value. -/
def Reg.resetWord (r : Reg) : Word :=
  r.fields.foldl (fun w f => setBits w f.hi f.lo f.reset) 0

/-- The stored word of a register's instance: what was last written to it, or its reset value. -/
def State.reg (s : State) (r : Reg) (idx : List Nat := []) : Word :=
  s.regs.get r.resetWord (r.addr idx)

/-- Store a register's word. -/
def State.setReg (s : State) (r : Reg) (idx : List Nat) (w : Word) : State :=
  { s with regs := s.regs.set r.resetWord (r.addr idx) w }

/-! ### Fields of the stored registers, by their names in the spec -/

namespace State
variable (s : State)

def SYS_TEMPO_TARGET : Nat := getBits (s.reg .SYS_TEMPO []) 5 4
def MGT_DRCSEL_PAD : Nat := getBits (s.reg .MGT_DRCSEL []) 8 0
def SFI_LEPVSET (i : Nat) : Nat := (s.reg .SFI_LEPVSET [i]).toNat
def SFI_LEPILIM (i : Nat) : Nat := (s.reg .SFI_LEPILIM [i]).toNat
def PWR_WAKEEN_EN : Nat := getBits (s.reg .PWR_WAKEEN []) 7 0
def PWR_PFAILV : Nat := (s.reg .PWR_PFAILV []).toNat
def PWR_RESCFG_QUEUE : Nat := getBits (s.reg .PWR_RESCFG []) 24 16
def PWR_RESCFG_MCSEL : Nat := getBits (s.reg .PWR_RESCFG []) 11 10
def PWR_RESCFG_SRC : Nat := getBits (s.reg .PWR_RESCFG []) 9 8
def PWR_RESCFG_DEB : Nat := getBits (s.reg .PWR_RESCFG []) 7 0
def PWR_RESVCUT : Nat := (s.reg .PWR_RESVCUT []).toNat
def PWR_RESRINT : Nat := (s.reg .PWR_RESRINT []).toNat
def PWR_RESIPK : Nat := (s.reg .PWR_RESIPK []).toNat
def PWR_RESQCAP : Nat := (s.reg .PWR_RESQCAP []).toNat
def PWR_RESVFULL : Nat := (s.reg .PWR_RESVFULL []).toNat
def PWR_RESITAPER : Nat := (s.reg .PWR_RESITAPER []).toNat
def PWR_RESETA : Nat := (s.reg .PWR_RESETA []).toNat
def PWR_RESMARGIN : Nat := (s.reg .PWR_RESMARGIN []).toNat
def PWR_RESPAUX : Nat := (s.reg .PWR_RESPAUX []).toNat
def PWR_RESEDOOR : Nat := (s.reg .PWR_RESEDOOR []).toNat
def PWR_RESQREM : Nat := (s.reg .PWR_RESQREM []).toNat
def PWR_RESVEL : Nat := (s.reg .PWR_RESVEL []).toNat
def MGT_SLOTADDR_OFFSET : Nat := getBits (s.reg .MGT_SLOTADDR []) 19 2
def MGT_SLOTDATA : Nat := (s.reg .MGT_SLOTDATA []).toNat
def MGT_CLOGSEL : Nat := (s.reg .MGT_CLOGSEL []).toNat
def QF_QCFG_WLEN (i : Nat) : Nat := getBits (s.reg .QF_QCFG [i]) 20 16
def QF_QDATA (i : Nat) : Nat := (s.reg .QF_QDATA [i]).toNat
def MPI_LVLO (i : Nat) : Nat := (s.reg .MPI_LVLO [i]).toNat
def MPI_LVHI (i : Nat) : Nat := (s.reg .MPI_LVHI [i]).toNat
def MPI_LTRIM (i : Nat) : Nat := (s.reg .MPI_LTRIM [i]).toNat
def MPI_FCFG_SSIBITS : Nat := getBits (s.reg .MPI_FCFG []) 21 16
def MPI_FCFG_SSIERRB : Nat := getBits (s.reg .MPI_FCFG []) 15 15
def MPI_FCFG_SSIGRAY : Nat := getBits (s.reg .MPI_FCFG []) 14 14
def MPI_FCFG_SSIRATE : Nat := getBits (s.reg .MPI_FCFG []) 13 12
def MPI_FCFG_PAIRS : Nat := getBits (s.reg .MPI_FCFG []) 11 8
def MPI_FCFG_VANE : Nat := getBits (s.reg .MPI_FCFG []) 7 6
def MPI_FCFG_SSI : Nat := getBits (s.reg .MPI_FCFG []) 5 4
def MPI_FCFG_ENCPAD : Nat := getBits (s.reg .MPI_FCFG []) 3 2
def MPI_FCFG_ENC : Nat := getBits (s.reg .MPI_FCFG []) 1 0
def MPI_FCMD_CMD : Nat := getBits (s.reg .MPI_FCMD []) 2 0
def MPI_FSWMAP_STSUP : Nat := getBits (s.reg .MPI_FSWMAP []) 28 24
def MPI_FSWMAP_STSDN : Nat := getBits (s.reg .MPI_FSWMAP []) 20 16
def MPI_FSWMAP_NTSUP : Nat := getBits (s.reg .MPI_FSWMAP []) 12 8
def MPI_FSWMAP_NTSDN : Nat := getBits (s.reg .MPI_FSWMAP []) 4 0
def MPI_ENCSCALE : Nat := (s.reg .MPI_ENCSCALE []).toNat
def MPI_ENCPPM : Nat := (s.reg .MPI_ENCPPM []).toNat
def MPI_ENCRATE : Nat := (s.reg .MPI_ENCRATE []).toNat
def MPI_SSISCALE : Nat := (s.reg .MPI_SSISCALE []).toNat
def MPI_SSIOFS : Nat := (s.reg .MPI_SSIOFS []).toNat
def MPI_SSIERR : Nat := (s.reg .MPI_SSIERR []).toNat
def MPI_SSILAT : Nat := (s.reg .MPI_SSILAT []).toNat
def MPI_VANEERR : Nat := (s.reg .MPI_VANEERR []).toNat
def MPI_VANELAT : Nat := (s.reg .MPI_VANELAT []).toNat
def MPI_VANEDISC : Nat := (s.reg .MPI_VANEDISC []).toNat
def MPI_VANECAP : Nat := (s.reg .MPI_VANECAP []).toNat
def MPI_VERR : Nat := (s.reg .MPI_VERR []).toNat
def MPI_BMAX : Nat := (s.reg .MPI_BMAX []).toNat
def MPI_XRUN : Nat := (s.reg .MPI_XRUN []).toNat
def MPI_MISSRUN : Nat := (s.reg .MPI_MISSRUN []).toNat
def MPI_DZHALF : Nat := (s.reg .MPI_DZHALF []).toNat
def MPI_ADEC : Nat := (s.reg .MPI_ADEC []).toNat
def MPI_LEARNVEL : Nat := (s.reg .MPI_LEARNVEL []).toNat
def MPI_NLAND : Nat := (s.reg .MPI_NLAND []).toNat
def MPI_DATUM : Nat := (s.reg .MPI_DATUM []).toNat
def MPI_HOMEERR : Nat := (s.reg .MPI_HOMEERR []).toNat
def MPI_NTSDN : Nat := (s.reg .MPI_NTSDN []).toNat
def MPI_NTSUP : Nat := (s.reg .MPI_NTSUP []).toNat
def MPI_LTABCRC : Nat := (s.reg .MPI_LTABCRC []).toNat
def MPI_PVICFG_KIND (i : Nat) : Nat := getBits (s.reg .MPI_PVICFG [i]) 3 0
def MPI_PVIARG (i : Nat) : Nat := (s.reg .MPI_PVIARG [i]).toNat
def MPI_KNT (i : Nat) : Nat := (s.reg .MPI_KNT [i]).toNat
def MPI_KNP (i : Nat) : Nat := (s.reg .MPI_KNP [i]).toNat
def MPI_KNV (i : Nat) : Nat := (s.reg .MPI_KNV [i]).toNat
def MPI_PLCTL_PDENA (i : Nat) : Nat := getBits (s.reg .MPI_PLCTL [i]) 0 0
def MPI_PLVMAX (i : Nat) : Nat := (s.reg .MPI_PLVMAX [i]).toNat
def MPI_PLAMAX (i : Nat) : Nat := (s.reg .MPI_PLAMAX [i]).toNat
def MPI_PLDMAX (i : Nat) : Nat := (s.reg .MPI_PLDMAX [i]).toNat
def MPI_PLJMAX (i : Nat) : Nat := (s.reg .MPI_PLJMAX [i]).toNat
def MPI_PLQDMAX (i : Nat) : Nat := (s.reg .MPI_PLQDMAX [i]).toNat
def MPI_PLQJMAX (i : Nat) : Nat := (s.reg .MPI_PLQJMAX [i]).toNat
def MPI_PLSOFTLO (i : Nat) : Nat := (s.reg .MPI_PLSOFTLO [i]).toNat
def MPI_PLSOFTHI (i : Nat) : Nat := (s.reg .MPI_PLSOFTHI [i]).toNat
def MPI_PLARRTOL (i : Nat) : Nat := (s.reg .MPI_PLARRTOL [i]).toNat
def MPI_PLARRWAIT (i : Nat) : Nat := (s.reg .MPI_PLARRWAIT [i]).toNat
def MPI_PLDEGVEL (i : Nat) : Nat := (s.reg .MPI_PLDEGVEL [i]).toNat
def MPI_PLREVDWELL (i : Nat) : Nat := (s.reg .MPI_PLREVDWELL [i]).toNat
def MPI_PLPDSCALE (i : Nat) : Nat := (s.reg .MPI_PLPDSCALE [i]).toNat
def MPI_PLMCAR (i : Nat) : Nat := (s.reg .MPI_PLMCAR [i]).toNat
def MPI_PLMCW (i : Nat) : Nat := (s.reg .MPI_PLMCW [i]).toNat
def MPI_PLMROT (i : Nat) : Nat := (s.reg .MPI_PLMROT [i]).toNat
def MPI_PLFRIC (i : Nat) : Nat := (s.reg .MPI_PLFRIC [i]).toNat
def MPI_PLLOAD (i : Nat) : Nat := (s.reg .MPI_PLLOAD [i]).toNat
def MPI_PLSTEP_IHOLD (i : Nat) : Nat := getBits (s.reg .MPI_PLSTEP [i]) 25 16
def MPI_PLSTEP_DEVRUN (i : Nat) : Nat := getBits (s.reg .MPI_PLSTEP [i]) 11 8
def MPI_PLSTEP_ENCEN (i : Nat) : Nat := getBits (s.reg .MPI_PLSTEP [i]) 6 6
def MPI_PLSTEP_ENC (i : Nat) : Nat := getBits (s.reg .MPI_PLSTEP [i]) 5 4
def MPI_PLSTEP_MSTEP (i : Nat) : Nat := getBits (s.reg .MPI_PLSTEP [i]) 3 0
def MPI_PLUSCALE (i : Nat) : Nat := (s.reg .MPI_PLUSCALE [i]).toNat
def MPI_PLESCALE (i : Nat) : Nat := (s.reg .MPI_PLESCALE [i]).toNat
def MPI_PLDEVWIN (i : Nat) : Nat := (s.reg .MPI_PLDEVWIN [i]).toNat
def MPI_PLHOLDDLY (i : Nat) : Nat := (s.reg .MPI_PLHOLDDLY [i]).toNat
def MPI_PLTAB_COUNT (i j : Nat) : Nat := getBits (s.reg .MPI_PLTAB [i, j]) 24 16
def MPI_PLTAB_FIRST (i j : Nat) : Nat := getBits (s.reg .MPI_PLTAB [i, j]) 13 0
def LECTL_ITEMAGE (e : Nat) : Nat := getBits (s.reg .LECTL [e]) 31 24
def LECTL_RATEDIV (e : Nat) : Nat := getBits (s.reg .LECTL [e]) 21 16
def LECTL_MISSRUN (e : Nat) : Nat := getBits (s.reg .LECTL [e]) 15 12
def LECTL_CASCADE (e : Nat) : Nat := getBits (s.reg .LECTL [e]) 8 8
def LECTL_DSRC (e : Nat) : Nat := getBits (s.reg .LECTL [e]) 4 0
def LEHOLD_HOLD (e : Nat) : Nat := getBits (s.reg .LEHOLD [e]) 0 0
def LEFFSRC_ASRC (e : Nat) : Nat := getBits (s.reg .LEFFSRC [e]) 12 8
def LEFFSRC_VSRC (e : Nat) : Nat := getBits (s.reg .LEFFSRC [e]) 4 0
def LEKA (e : Nat) : Nat := (s.reg .LEKA [e]).toNat
def LEKV (e : Nat) : Nat := (s.reg .LEKV [e]).toNat
def LEVNOM (e : Nat) : Nat := (s.reg .LEVNOM [e]).toNat
def LSCFG_MSRC (e i : Nat) : Nat := getBits (s.reg .LSCFG [e, i]) 28 24
def LSCFG_SSRC (e i : Nat) : Nat := getBits (s.reg .LSCFG [e, i]) 20 16
def LSCFG_DIV (e i : Nat) : Nat := getBits (s.reg .LSCFG [e, i]) 12 8
def LSCFG_SDIR (e i : Nat) : Nat := getBits (s.reg .LSCFG [e, i]) 4 4
def LSCFG_MDIR (e i : Nat) : Nat := getBits (s.reg .LSCFG [e, i]) 3 3
def LSCFG_MNEG (e i : Nat) : Nat := getBits (s.reg .LSCFG [e, i]) 2 2
def LSCFG_FFEN (e i : Nat) : Nat := getBits (s.reg .LSCFG [e, i]) 1 1
def LSCFG_EN (e i : Nat) : Nat := getBits (s.reg .LSCFG [e, i]) 0 0
def LSKP (e i : Nat) : Nat := (s.reg .LSKP [e, i]).toNat
def LSKI (e i : Nat) : Nat := (s.reg .LSKI [e, i]).toNat
def LSKD (e i : Nat) : Nat := (s.reg .LSKD [e, i]).toNat
def LSOUTMIN (e i : Nat) : Nat := (s.reg .LSOUTMIN [e, i]).toNat
def LSOUTMAX (e i : Nat) : Nat := (s.reg .LSOUTMAX [e, i]).toNat
def LSTRACK (e i : Nat) : Nat := (s.reg .LSTRACK [e, i]).toNat
def LSSETP (e i : Nat) : Nat := (s.reg .LSSETP [e, i]).toNat
def LSRATE (e i : Nat) : Nat := (s.reg .LSRATE [e, i]).toNat
def LSJERK (e i : Nat) : Nat := (s.reg .LSJERK [e, i]).toNat
def MC_CFG_ANGENC (i : Nat) : Nat := getBits (s.reg .MC_CFG [i]) 9 8
def MC_CTL_ENABLE (i : Nat) : Nat := getBits (s.reg .MC_CTL [i]) 0 0
def MC_KPC (i : Nat) : Nat := (s.reg .MC_KPC [i]).toNat
def MC_KIC (i : Nat) : Nat := (s.reg .MC_KIC [i]).toNat
def MC_IMAX (i : Nat) : Nat := (s.reg .MC_IMAX [i]).toNat
def MC_OCLIM (i : Nat) : Nat := (s.reg .MC_OCLIM [i]).toNat
def MC_MODMAX (i : Nat) : Nat := (s.reg .MC_MODMAX [i]).toNat
def MC_DEADNS (i : Nat) : Nat := (s.reg .MC_DEADNS [i]).toNat
def MC_IDREF (i : Nat) : Nat := (s.reg .MC_IDREF [i]).toNat
def MC_EPR (i : Nat) : Nat := (s.reg .MC_EPR [i]).toNat
def MC_ALIGNI (i : Nat) : Nat := (s.reg .MC_ALIGNI [i]).toNat
def MC_ALIGNMS (i : Nat) : Nat := (s.reg .MC_ALIGNMS [i]).toNat
def MC_FBSCALE (i : Nat) : Nat := (s.reg .MC_FBSCALE [i]).toNat
def MC_VFILT (i : Nat) : Nat := (s.reg .MC_VFILT [i]).toNat
def MC_VDCMIN (i : Nat) : Nat := (s.reg .MC_VDCMIN [i]).toNat
def MC_IRUN (i : Nat) : Nat := (s.reg .MC_IRUN [i]).toNat
def MC_ADCCFG_GAIN (i : Nat) : Nat := getBits (s.reg .MC_ADCCFG [i]) 7 0
def MC_ISCALE (i j : Nat) : Nat := (s.reg .MC_ISCALE [i, j]).toNat
def MC_VSCALE (i : Nat) : Nat := (s.reg .MC_VSCALE [i]).toNat
def MC_DINMAP_PERMIT (i : Nat) : Nat := getBits (s.reg .MC_DINMAP [i]) 29 24
def MC_DINMAP_COUPLED (i : Nat) : Nat := getBits (s.reg .MC_DINMAP [i]) 23 18
def MC_DINMAP_CLOSELIM (i : Nat) : Nat := getBits (s.reg .MC_DINMAP [i]) 17 12
def MC_DINMAP_CURTAIN (i : Nat) : Nat := getBits (s.reg .MC_DINMAP [i]) 11 6
def MC_DINMAP_EDGE (i : Nat) : Nat := getBits (s.reg .MC_DINMAP [i]) 5 0
def MC_DSTATION_SESSREQ (i : Nat) : Nat := getBits (s.reg .MC_DSTATION [i]) 8 8
def MC_DSTATION_STATION (i : Nat) : Nat := getBits (s.reg .MC_DSTATION [i]) 7 0
def MC_DKF (i : Nat) : Nat := (s.reg .MC_DKF [i]).toNat
def MC_DFRICV (i : Nat) : Nat := (s.reg .MC_DFRICV [i]).toNat
def MC_DAFILT (i : Nat) : Nat := (s.reg .MC_DAFILT [i]).toNat
def MC_DFLIM (i : Nat) : Nat := (s.reg .MC_DFLIM [i]).toNat
def MC_DFLIMO (i : Nat) : Nat := (s.reg .MC_DFLIMO [i]).toNat
def MC_DELIM (i : Nat) : Nat := (s.reg .MC_DELIM [i]).toNat
def MC_DELIMN (i : Nat) : Nat := (s.reg .MC_DELIMN [i]).toNat
def MC_DELIMO (i : Nat) : Nat := (s.reg .MC_DELIMO [i]).toNat
def MC_DMMARGIN (i : Nat) : Nat := (s.reg .MC_DMMARGIN [i]).toNat
def MC_DMASSMIN (i : Nat) : Nat := (s.reg .MC_DMASSMIN [i]).toNat
def MC_DMASSMAX (i : Nat) : Nat := (s.reg .MC_DMASSMAX [i]).toNat
def MC_DOBSF (i : Nat) : Nat := (s.reg .MC_DOBSF [i]).toNat
def MC_DOBSRUN (i : Nat) : Nat := (s.reg .MC_DOBSRUN [i]).toNat
def MC_DCLZONE (i : Nat) : Nat := (s.reg .MC_DCLZONE [i]).toNat
def MC_DOPENV (i : Nat) : Nat := (s.reg .MC_DOPENV [i]).toNat
def MC_DCLOSEV (i : Nat) : Nat := (s.reg .MC_DCLOSEV [i]).toNat
def MC_DNUDGEV (i : Nat) : Nat := (s.reg .MC_DNUDGEV [i]).toNat
def MC_DHOMEV (i : Nat) : Nat := (s.reg .MC_DHOMEV [i]).toNat
def MC_DLRNV (i : Nat) : Nat := (s.reg .MC_DLRNV [i]).toNat
def MC_DLRNA (i : Nat) : Nat := (s.reg .MC_DLRNA [i]).toNat
def MC_DHOMEF (i : Nat) : Nat := (s.reg .MC_DHOMEF [i]).toNat
def MC_DSTALLV (i : Nat) : Nat := (s.reg .MC_DSTALLV [i]).toNat
def MC_DSTALLMS (i : Nat) : Nat := (s.reg .MC_DSTALLMS [i]).toNat
def MC_DSTALLPOS (i : Nat) : Nat := (s.reg .MC_DSTALLPOS [i]).toNat
def MC_DOPENGAP (i : Nat) : Nat := (s.reg .MC_DOPENGAP [i]).toNat
def MC_DCOUPLEPOS (i : Nat) : Nat := (s.reg .MC_DCOUPLEPOS [i]).toNat
def MC_DREVLIM (i : Nat) : Nat := (s.reg .MC_DREVLIM [i]).toNat
def MC_DSESSGRACE (i : Nat) : Nat := (s.reg .MC_DSESSGRACE [i]).toNat
def MC_DCLOSETOL (i : Nat) : Nat := (s.reg .MC_DCLOSETOL [i]).toNat
def MC_DCLOSEWAIT (i : Nat) : Nat := (s.reg .MC_DCLOSEWAIT [i]).toNat
def MC_DEOVR (i : Nat) : Nat := (s.reg .MC_DEOVR [i]).toNat
def MC_DEORUN (i : Nat) : Nat := (s.reg .MC_DEORUN [i]).toNat
def MC_DDINAGE (i : Nat) : Nat := (s.reg .MC_DDINAGE [i]).toNat
def MC_DTRAVEL (i : Nat) : Nat := (s.reg .MC_DTRAVEL [i]).toNat
def MC_DMLEARN (i : Nat) : Nat := (s.reg .MC_DMLEARN [i]).toNat
def MC_DFRICL (i : Nat) : Nat := (s.reg .MC_DFRICL [i]).toNat
def MC_DLCRC (i : Nat) : Nat := (s.reg .MC_DLCRC [i]).toNat
def SCH_CTL_OWNCAR : Nat := getBits (s.reg .SCH_CTL []) 27 24
def SCH_CTL_MISSRUN : Nat := getBits (s.reg .SCH_CTL []) 19 16
def SCH_CTL_SERVICE : Nat := getBits (s.reg .SCH_CTL []) 0 0
def SCH_WT : Nat := (s.reg .SCH_WT []).toNat
def SCH_WD : Nat := (s.reg .SCH_WD []).toNat
def SCH_HYST : Nat := (s.reg .SCH_HYST []).toNat
def SCH_LEADMS : Nat := (s.reg .SCH_LEADMS []).toNat
def SCH_PENDMAX : Nat := (s.reg .SCH_PENDMAX []).toNat
def SCH_SESSMAX : Nat := (s.reg .SCH_SESSMAX []).toNat
def SCH_GRANTPER : Nat := (s.reg .SCH_GRANTPER []).toNat
def SCH_GRANTAGE : Nat := (s.reg .SCH_GRANTAGE []).toNat
def SCH_RESENDWAIT : Nat := (s.reg .SCH_RESENDWAIT []).toNat
def SCH_FRAMEOFS : Nat := (s.reg .SCH_FRAMEOFS []).toNat
def SCH_CTXSEL_INDEX : Nat := getBits (s.reg .SCH_CTXSEL []) 9 0
def SCH_CVMAX (i : Nat) : Nat := (s.reg .SCH_CVMAX [i]).toNat
def SCH_CAMAX (i : Nat) : Nat := (s.reg .SCH_CAMAX [i]).toNat
def SCH_CDMAX (i : Nat) : Nat := (s.reg .SCH_CDMAX [i]).toNat
def SCH_CJMAX (i : Nat) : Nat := (s.reg .SCH_CJMAX [i]).toNat
def SCH_CDWELL (i : Nat) : Nat := (s.reg .SCH_CDWELL [i]).toNat
def SCH_CSLOSS (i : Nat) : Nat := (s.reg .SCH_CSLOSS [i]).toNat
def SCH_CFULL (i : Nat) : Nat := (s.reg .SCH_CFULL [i]).toNat
def SCH_CLOAD (i : Nat) : Nat := (s.reg .SCH_CLOAD [i]).toNat
def SCH_FLVL (i : Nat) : Nat := (s.reg .SCH_FLVL [i]).toNat
def SCH_GSERVE (i j : Nat) : Nat := (s.reg .SCH_GSERVE [i, j]).toNat
def SCH_STN_PRESENT (i : Nat) : Nat := getBits (s.reg .SCH_STN [i]) 8 8
def SCH_STN_FLOOR (i : Nat) : Nat := getBits (s.reg .SCH_STN [i]) 7 0
def SEQ_FCFG_ABORTEN (i : Nat) : Nat := getBits (s.reg .SEQ_FCFG [i]) 28 28
def SEQ_FCFG_ABORTPC (i : Nat) : Nat := getBits (s.reg .SEQ_FCFG [i]) 27 16
def SEQ_FCFG_AUTOSTART (i : Nat) : Nat := getBits (s.reg .SEQ_FCFG [i]) 12 12
def SEQ_FCFG_ENTRY (i : Nat) : Nat := getBits (s.reg .SEQ_FCFG [i]) 11 0
def SEQ_FSTEPMAX (i : Nat) : Nat := (s.reg .SEQ_FSTEPMAX [i]).toNat
def SFI_LATCTL_CLRCNT : Nat := getBits (s.reg .SFI_LATCTL []) 1 1
def SFI_LATCTL_RELOAD : Nat := getBits (s.reg .SFI_LATCTL []) 0 0
def SFI_LEPTEST_TPER : Nat := getBits (s.reg .SFI_LEPTEST []) 31 16
def SFI_LEPTEST_TPW : Nat := getBits (s.reg .SFI_LEPTEST []) 15 0
def SFI_ACKCFG_EN : Nat := getBits (s.reg .SFI_ACKCFG []) 5 5
def SFI_ACKCFG_SRC : Nat := getBits (s.reg .SFI_ACKCFG []) 4 0
def SFI_SICFG_DISC (i : Nat) : Nat := getBits (s.reg .SFI_SICFG [i]) 31 21
def SFI_SICFG_FILT (i : Nat) : Nat := getBits (s.reg .SFI_SICFG [i]) 20 16
def SFI_SICFG_SRCB (i : Nat) : Nat := getBits (s.reg .SFI_SICFG [i]) 14 10
def SFI_SICFG_SRCA (i : Nat) : Nat := getBits (s.reg .SFI_SICFG [i]) 9 5
def SFI_SICFG_MODE (i : Nat) : Nat := getBits (s.reg .SFI_SICFG [i]) 1 0
def SFI_CTCFG_FILT (i : Nat) : Nat := getBits (s.reg .SFI_CTCFG [i]) 31 28
def SFI_CTCFG_TLO (i : Nat) : Nat := getBits (s.reg .SFI_CTCFG [i]) 27 16
def SFI_CTCFG_AC (i : Nat) : Nat := getBits (s.reg .SFI_CTCFG [i]) 12 12
def SFI_CTCFG_THI (i : Nat) : Nat := getBits (s.reg .SFI_CTCFG [i]) 11 0
def SFI_NVOSEL_SRC1 (i : Nat) : Nat := getBits (s.reg .SFI_NVOSEL [i]) 27 16
def SFI_NVOSEL_SRC0 (i : Nat) : Nat := getBits (s.reg .SFI_NVOSEL [i]) 11 0
def SFI_SOCFG_EN (i : Nat) : Nat := getBits (s.reg .SFI_SOCFG [i]) 12 12
def SFI_SOCFG_SRC (i : Nat) : Nat := getBits (s.reg .SFI_SOCFG [i]) 11 0
def SFI_SOTEST_TPER (i : Nat) : Nat := getBits (s.reg .SFI_SOTEST [i]) 31 16
def SFI_SOTEST_TPW (i : Nat) : Nat := getBits (s.reg .SFI_SOTEST [i]) 15 0
def SFI_FRMASK_HOLDMASK (i : Nat) : Nat := getBits (s.reg .SFI_FRMASK [i]) 5 0
def SFI_TESTCTL_SWREQ : Nat := getBits (s.reg .SFI_TESTCTL []) 5 0
def MGT_QCLR_CLR : Nat := getBits (s.reg .MGT_QCLR []) 23 0
def MPI_DEGTIME : Nat := (s.reg .MPI_DEGTIME []).toNat
def MPI_DEGOPEN : Nat := (s.reg .MPI_DEGOPEN []).toNat
def BUS_CANCTL_TRIPLE (i : Nat) : Nat := getBits (s.reg .BUS_CANCTL [i]) 6 6
def BUS_CANCTL_ONESHOT (i : Nat) : Nat := getBits (s.reg .BUS_CANCTL [i]) 5 5
def BUS_CANCTL_FDEN (i : Nat) : Nat := getBits (s.reg .BUS_CANCTL [i]) 4 4
def BUS_CANCTL_MODE (i : Nat) : Nat := getBits (s.reg .BUS_CANCTL [i]) 1 0
def BUS_CANNBT_NBRP (i : Nat) : Nat := getBits (s.reg .BUS_CANNBT [i]) 31 24
def BUS_CANNBT_NTSEG1 (i : Nat) : Nat := getBits (s.reg .BUS_CANNBT [i]) 23 16
def BUS_CANNBT_NTSEG2 (i : Nat) : Nat := getBits (s.reg .BUS_CANNBT [i]) 14 8
def BUS_CANNBT_NSJW (i : Nat) : Nat := getBits (s.reg .BUS_CANNBT [i]) 6 0
def BUS_CANDBT_DBRP (i : Nat) : Nat := getBits (s.reg .BUS_CANDBT [i]) 28 24
def BUS_CANDBT_DTSEG1 (i : Nat) : Nat := getBits (s.reg .BUS_CANDBT [i]) 20 16
def BUS_CANDBT_DTSEG2 (i : Nat) : Nat := getBits (s.reg .BUS_CANDBT [i]) 11 8
def BUS_CANDBT_DSJW (i : Nat) : Nat := getBits (s.reg .BUS_CANDBT [i]) 3 0
def BUS_CANTDC_TDCO (i : Nat) : Nat := getBits (s.reg .BUS_CANTDC [i]) 22 16
def BUS_CANTDC_TDCEN (i : Nat) : Nat := getBits (s.reg .BUS_CANTDC [i]) 8 8
def BUS_CANTXW (i j : Nat) : Nat := (s.reg .BUS_CANTXW [i, j]).toNat
def BUS_CANTXPCFG_EVALL (i j : Nat) : Nat := getBits (s.reg .BUS_CANTXPCFG [i, j]) 5 5
def BUS_CANTXPCFG_ONESHOT (i j : Nat) : Nat := getBits (s.reg .BUS_CANTXPCFG [i, j]) 4 4
def BUS_CANTXPCFG_BRS (i j : Nat) : Nat := getBits (s.reg .BUS_CANTXPCFG [i, j]) 3 3
def BUS_CANTXPCFG_FDF (i j : Nat) : Nat := getBits (s.reg .BUS_CANTXPCFG [i, j]) 2 2
def BUS_CANTXPCFG_WRAP (i j : Nat) : Nat := getBits (s.reg .BUS_CANTXPCFG [i, j]) 1 1
def BUS_CANTXPID_IDE (i j : Nat) : Nat := getBits (s.reg .BUS_CANTXPID [i, j]) 29 29
def BUS_CANTXPID_ID (i j : Nat) : Nat := getBits (s.reg .BUS_CANTXPID [i, j]) 28 0
def BUS_RBCFG_STAMPOFS (i j : Nat) : Nat := getBits (s.reg .BUS_RBCFG [i, j]) 31 16
def BUS_RBCFG_WORDS (i j : Nat) : Nat := getBits (s.reg .BUS_RBCFG [i, j]) 15 12
def BUS_RBCFG_FORMAT (i j : Nat) : Nat := getBits (s.reg .BUS_RBCFG [i, j]) 9 8
def BUS_RBCFG_MODE (i j : Nat) : Nat := getBits (s.reg .BUS_RBCFG [i, j]) 1 1
def BUS_RBCFG_EN (i j : Nat) : Nat := getBits (s.reg .BUS_RBCFG [i, j]) 0 0
def BUS_RBID_RTR (i j : Nat) : Nat := getBits (s.reg .BUS_RBID [i, j]) 31 31
def BUS_RBID_FDF (i j : Nat) : Nat := getBits (s.reg .BUS_RBID [i, j]) 30 30
def BUS_RBID_IDE (i j : Nat) : Nat := getBits (s.reg .BUS_RBID [i, j]) 29 29
def BUS_RBID_ID (i j : Nat) : Nat := getBits (s.reg .BUS_RBID [i, j]) 28 0
def BUS_RBMASK (i j : Nat) : Nat := (s.reg .BUS_RBMASK [i, j]).toNat
def BUS_TSCFG_IDE : Nat := getBits (s.reg .BUS_TSCFG []) 29 29
def BUS_TSCFG_REFID : Nat := getBits (s.reg .BUS_TSCFG []) 28 0
def BUS_TSCTL_RPER : Nat := getBits (s.reg .BUS_TSCTL []) 25 16
def BUS_TSCTL_NODE : Nat := getBits (s.reg .BUS_TSCTL []) 15 8
def BUS_TSCTL_CTRL : Nat := getBits (s.reg .BUS_TSCTL []) 5 4
def BUS_TSCTL_RFILT : Nat := getBits (s.reg .BUS_TSCTL []) 2 0
def BUS_TSLOCKNS : Nat := (s.reg .BUS_TSLOCKNS []).toNat
def BUS_TSSTEPNS : Nat := (s.reg .BUS_TSSTEPNS []).toNat
def BUS_TSHOLDMS : Nat := (s.reg .BUS_TSHOLDMS []).toNat
def BUS_PXCCFG_EN (i : Nat) : Nat := getBits (s.reg .BUS_PXCCFG [i]) 31 31
def BUS_PXCCFG_DIR (i : Nat) : Nat := getBits (s.reg .BUS_PXCCFG [i]) 30 30
def BUS_PXCCFG_KIND (i : Nat) : Nat := getBits (s.reg .BUS_PXCCFG [i]) 29 28
def BUS_PXCCFG_CTRL (i : Nat) : Nat := getBits (s.reg .BUS_PXCCFG [i]) 27 26
def BUS_PXCCFG_TCHECK (i : Nat) : Nat := getBits (s.reg .BUS_PXCCFG [i]) 25 25
def BUS_PXCCFG_PLEN (i : Nat) : Nat := getBits (s.reg .BUS_PXCCFG [i]) 21 16
def BUS_PXCCFG_CONNID (i : Nat) : Nat := getBits (s.reg .BUS_PXCCFG [i]) 15 0
def BUS_PXCCAN_BRS (i : Nat) : Nat := getBits (s.reg .BUS_PXCCAN [i]) 31 31
def BUS_PXCCAN_IDE (i : Nat) : Nat := getBits (s.reg .BUS_PXCCAN [i]) 29 29
def BUS_PXCCAN_CANID (i : Nat) : Nat := getBits (s.reg .BUS_PXCCAN [i]) 28 0
def BUS_PXCNODE (i : Nat) : Nat := (s.reg .BUS_PXCNODE [i]).toNat
def BUS_PXCPER (i : Nat) : Nat := (s.reg .BUS_PXCPER [i]).toNat
def BUS_PXCAGE_AGEMAX (i : Nat) : Nat := getBits (s.reg .BUS_PXCAGE [i]) 31 16
def BUS_PXCAGE_AGENEG (i : Nat) : Nat := getBits (s.reg .BUS_PXCAGE [i]) 15 0
def BUS_PXCMAP_PAIR (i : Nat) : Nat := getBits (s.reg .BUS_PXCMAP [i]) 29 29
def BUS_PXCMAP_NVICNT (i : Nat) : Nat := getBits (s.reg .BUS_PXCMAP [i]) 28 24
def BUS_PXCMAP_NVIBASE (i : Nat) : Nat := getBits (s.reg .BUS_PXCMAP [i]) 23 20
def BUS_PXCMAP_DPORT (i : Nat) : Nat := getBits (s.reg .BUS_PXCMAP [i]) 10 8
def BUS_PXCMAP_SEQWIN (i : Nat) : Nat := getBits (s.reg .BUS_PXCMAP [i]) 5 0
def BUS_PXCTM_T24 (i : Nat) : Nat := getBits (s.reg .BUS_PXCTM [i]) 31 16
def BUS_PXCTM_TMASK (i : Nat) : Nat := getBits (s.reg .BUS_PXCTM [i]) 15 0
def SFI_LSCFG_CONN : Nat := getBits (s.reg .SFI_LSCFG []) 13 8
def SFI_LSCFG_UNIT : Nat := getBits (s.reg .SFI_LSCFG []) 0 0
def SFI_LSCTL_CANCEL : Nat := getBits (s.reg .SFI_LSCTL []) 1 1
def SFI_LSCTL_HANDOVER : Nat := getBits (s.reg .SFI_LSCTL []) 0 0
def BUS_LICFG_RENEWMS : Nat := getBits (s.reg .BUS_LICFG []) 31 24
def BUS_LICFG_REPLOSS : Nat := getBits (s.reg .BUS_LICFG []) 23 16
def BUS_LICFG_LEASEMS : Nat := getBits (s.reg .BUS_LICFG []) 15 8
def BUS_LICFG_PREFER : Nat := getBits (s.reg .BUS_LICFG []) 0 0
def BUS_LICTL_WITHDRAW : Nat := getBits (s.reg .BUS_LICTL []) 0 0
def BUS_LINUM : Nat := (s.reg .BUS_LINUM []).toNat
def BUS_EPCFG_IDE : Nat := getBits (s.reg .BUS_EPCFG []) 29 29
def BUS_EPCFG_EPID : Nat := getBits (s.reg .BUS_EPCFG []) 28 0
def BUS_EPCTL_EPMS : Nat := getBits (s.reg .BUS_EPCTL []) 31 24
def BUS_EPCTL_LINKMS : Nat := getBits (s.reg .BUS_EPCTL []) 23 12
def BUS_EPCTL_EPCTRL : Nat := getBits (s.reg .BUS_EPCTL []) 11 10
def BUS_EPCTL_BRS : Nat := getBits (s.reg .BUS_EPCTL []) 9 9
def BUS_EPMAXAGE : Nat := (s.reg .BUS_EPMAXAGE []).toNat
def MGT_RECSEL_LOG : Nat := getBits (s.reg .MGT_RECSEL []) 31 31
def MGT_RECSEL_VALUE : Nat := getBits (s.reg .MGT_RECSEL []) 30 0
def MGT_WEARSEL : Nat := (s.reg .MGT_WEARSEL []).toNat
def AON_TAMPCFG_SAMP : Nat := getBits (s.reg .AON_TAMPCFG []) 17 16
def AON_TAMPCFG_MODE : Nat := getBits (s.reg .AON_TAMPCFG []) 9 0
def MGT_KEEP (i : Nat) : Nat := (s.reg .MGT_KEEP [i]).toNat
def QF_GIRQEN_EN : Nat := getBits (s.reg .QF_GIRQEN []) 4 0
def MGT_MPCFG_BAUD : Nat := getBits (s.reg .MGT_MPCFG []) 3 0

end State

end Sys2Proof.Machine
end

