-- ==== Sys2Proof/Machine/Ops.lean ====
section
/-! DEFINITION. The operations every block shares: the image in force, the recorder taps (R613), the persistence lanes
(R25, R629) and the change log (R179). -/

namespace Sys2Proof.Machine

/-! ### The image in force -/

/-- The role of the image in force (R1). -/
def State.role (s : State) : Option Role := s.image.map (·.role)

/-- A TILES record of this kind and index is in the image in force (R150). -/
def State.tile (s : State) (kind : Nat) (index : Nat) : Option TileRec :=
  match s.image with
  | some im => im.tiles.find? fun t => t.kind.toNat == kind && t.index == index
  | none => none

/-- Endpoints of a route in the image in force that start at a producer port (R152). -/
def State.routedFrom (s : State) (port : Nat) : Bool :=
  match s.image with
  | some im => im.routes.any fun r => r.producer.toNat == port
  | none => false

/-- A route in the image in force ends at this consumer port (R152). -/
def State.routedTo (s : State) (port : Nat) : Bool :=
  match s.image with
  | some im => im.routes.any fun r => r.consumer.toNat == port
  | none => false

/-- Number of the island whose block holds byte address `a`; none for an unmapped address (R30). -/
def islandAt (a : Nat) : Option Nat :=
  if a < 0x020000 then some 1
  else if a < 0x030000 then some 0
  else if a < 0x040000 then none
  else if a < 0x080000 then some 3
  else if a < 0x0C0000 then some 4
  else if a < 0x100000 then some 5
  else if a < 0x140000 then some (6 + (a - 0x100000) / 0x10000)
  else if a < 0x180000 then some 10
  else if a < 0x1C0000 then some 11
  else if a < 0x200000 then some 12
  else if a < 0x300000 then some 2
  else none

/-- Block `b` of R486 is quarantined and held stopped (R488, R489). -/
def State.quarantined (s : State) (b : Nat) : Bool := (s.persist.blocks.get BlockStat.reset b).quar

/-- Both ports answer: MGT has started (R125). -/
def State.mgtUp (s : State) : Bool :=
  (s.power.state == .starting || s.power.state == .run) && 3 ≤ s.start.phase.toNat

/-- The pads of island `i` may be driven: it has started after a passing resistor check, no start is blocked, and VMAIN and VFLD
are in range (R51). -/
def State.outputsLive (s : State) (i : Island) : Bool :=
  s.supplies.vmainOk && s.supplies.vfldOk && !s.start.rsti.contains i && s.start.phase != 0xE

/-- The image uses a pad: a PINMUX record names it (R49, R147). -/
def State.padUsed (s : State) (pad : Nat) : Bool :=
  match s.image with
  | some im => im.pins.any fun p => p.pad == pad
  | none => false

/-- What a working PWR does: its sequencers stand still while its block is quarantined (R488). -/
def State.atPwr (s : State) (f : State → State) : State := if s.quarantined 3 then s else f s

/-- What reaches a register of MGT or AON through a port, which answers only while MGT has started (R125). -/
def State.atMgt (s : State) (f : State → State) : State := if s.mgtUp then f s else s

/-- A tempo switch runs: a move or door command that arrives waits in its queue (R40). -/
def State.switching (s : State) : Bool := s.tempo.stat == .switching

/-! ### Recorder taps -/

/-- Data bytes of a record from numbers with their widths in bytes. -/
def dataBytes (fs : List (Nat × Nat)) : List Byte := fs.flatMap fun f => leBytes f.1 f.2

/-- Place a record in an island's tap, or count it as dropped when the tap holds four (R613). -/
def RecTap.place (r : TapRec) (t : RecTap) : RecTap :=
  if t.recs.length < 4 then { t with recs := t.recs ++ [r] } else { t with dropped := satInc t.dropped }

/-- Place a record in the tap of island `i`, stamped with the device time it receives (R613). -/
def Recorder.put (r : Recorder) (dev : Nat) (i : Nat) (code : Nat) (data : List Byte) : Recorder :=
  let e : TapRec := { dtime := dev, code := BitVec.ofNat 16 code, data := data, wall := none }
  { r with taps := r.taps.modify RecTap.reset i (RecTap.place e) }

/-- An island writes a record; the code's high byte is the island's number (R17). -/
def State.note (s : State) (code : Nat) (data : List Byte := []) : State :=
  { s with recorder := s.recorder.put s.dev (code / 256) code data }

/-- Write a record when `b` holds. -/
def State.noteIf (s : State) (b : Bool) (code : Nat) (data : List Byte := []) : State :=
  if b then s.note code data else s

/-- Bytes 0 to 13 of an AON log entry (R626). -/
def AonEntry.body (e : AonEntry) : List Byte :=
  leBytes 4 e.wsec.toNat ++ leBytes 2 e.wfrac.toNat ++ leBytes 2 e.code.toNat ++ e.data.take 6

/-- The entry with the CRC-16 of its bytes 0 to 13 in bytes 14 and 15 (R626). -/
def AonEntry.seal (e : AonEntry) : AonEntry := { e with crc := crc16 e.body }

/-- The stored CRC matches the entry (R628). -/
def AonEntry.crcOk (e : AonEntry) : Bool := e.crc == crc16 e.body

/-- Add an entry to the AON log: entries 0 to 63 in order, then entry 63 is replaced and AONLOST counts (R626). -/
def Aon.logEntry (a : Aon) (code : Nat) (data : List Byte) : Aon :=
  let e : AonEntry := AonEntry.seal
    { wsec := a.rtcSec, wfrac := a.rtcFrac, code := BitVec.ofNat 16 code,
      data := data ++ List.replicate (6 - data.length) 0, crc := 0 }
  if a.log.length < 64 then { a with log := a.log ++ [e] }
  else { a with log := a.log.take 63 ++ [e], lost := satInc a.lost }

/-- AON writes a code: into its own log while MGT is not running, through its tap otherwise (R626). -/
def State.aonNote (s : State) (code : Nat) (data : List Byte := []) : State :=
  if s.aon.mgtUp then s.note code data else { s with aon := s.aon.logEntry code data }

/-- A fresh value of the MODEL's counter for a value the spec leaves open (log entry 2). -/
def State.tick (s : State) : State := { s with fresh := s.fresh + 1 }

/-! ### Persistent registers -/

/-- What the persistent array holds for an RWK register nothing has written: its reset value (R631). -/
def rwkDefault (a : Nat) : RwkCell :=
  { value := match locate a with
      | some (r, _) => r.resetWord
      | none => 0,
    wear := 0 }

/-- Store an RWK value: an equal value is acknowledged without a write; any other counts one write (R629). -/
def Persist.store (p : Persist) (a : Nat) (w : Word) : Persist :=
  let c := p.rwk.get (rwkDefault a) a
  if c.value = w then p
  else { p with rwk := p.rwk.set (rwkDefault a) a { value := w, wear := min (c.wear + 1) (2 ^ 40 - 1) } }

/-- An island writes one of its own RWK registers: the live word at once, the array through the persistence lane
(R25). -/
def State.writeRwk (s : State) (r : Reg) (idx : List Nat) (w : Word) : State :=
  { s with regs := s.regs.set r.resetWord (r.addr idx) w, lanes := s.lanes ++ [.rwk (r.addr idx) w] }

/-! ### Rates of the tempo mode in force (R34) -/

/-- By the tempo mode in force: QUICKSTEP, WALTZ, PAVANE. -/
def State.byTempo (s : State) (q w p : Nat) : Nat :=
  match s.tempo.mode.toNat with
  | 0 => q
  | 1 => w
  | _ => p

/-- Planner and fusion cycles per second. -/
def State.cycleHz (s : State) : Nat := s.byTempo 4000 2000 1000

/-- Planner and fusion cycle in µs. -/
def State.cycleUs (s : State) : Nat := s.byTempo 250 500 1000

/-- Speed-loop samples per second. -/
def State.speedHz (s : State) : Nat := s.byTempo 8000 4000 2000

/-- Current-loop samples per second. -/
def State.currentHz (s : State) : Nat := s.byTempo 32000 16000 8000

/-- Lattice pass in µs. -/
def State.passUs (s : State) : Nat := s.byTempo 125 250 500

/-- Scheduler recompute period in ms. -/
def State.recomputeMs (s : State) : Nat := s.byTempo 10 20 50

end Sys2Proof.Machine
end

