-- ==== Sys2Proof/Machine/Queues.lean ====
section
/-! DEFINITION. The queue fabric of chapter 06: cells, full queues, stages, flushing, the command gate's tags, and the
commands on queues. -/

namespace Sys2Proof.Machine

/-! ### One queue -/

/-- Word place of the oldest word the pool still holds for the queue. -/
def Queue.oldest (q : Queue) : Nat :=
  match q.items, q.opened with
  | it :: _, _ => it.start
  | [], some o => o.start
  | [], none => q.wcnt

/-- Cells of the reserve in use: from the cell of the oldest word to the one last taken (R200, R201). -/
def Queue.cells (q : Queue) : Nat := (q.wcnt + 7) / 8 - q.oldest / 8

/-- Word slots returned to the reserve since the queue was built (R192). -/
def Queue.released (q : Queue) : Nat := 8 * (q.oldest / 8)

/-- The next word must start a new cell and the reserve holds none (R200). -/
def Queue.full (q : Queue) : Bool := q.wcnt % 8 == 0 && q.route.capacity ≤ q.cells

/-- CREDIT of R192 in words, with RELEASED received in full. Words dropped after a flush or while the queue is BROKEN are sent and
take no slot, so the sum of R192 can fall below 0, where the spec gives no value; the model's choice: CREDIT stays at 0 (log entry
67). -/
def Queue.credit (q : Queue) : Nat := q.route.capacity * 8 + q.released - q.sent

/-- Words held in the pool, visible and open (R218). -/
def Queue.level (q : Queue) : Nat :=
  (q.items.map (·.words.length)).sum + (match q.opened with | some o => o.words.length | none => 0)

/-- Drop the oldest visible items, whole items one at a time, until a cell is free (R200). The dropped items come
back, oldest first. -/
def Queue.makeRoom (q : Queue) : List PoolItem → Queue × List PoolItem
  | [] => ({ q with items := [] }, [])
  | it :: rest =>
    if Queue.full { q with items := it :: rest } then
      let r := q.makeRoom rest
      (r.1, it :: r.2)
    else ({ q with items := it :: rest }, [])

/-- Store one word with its markers; a word that carries the end marker makes its item visible (R189). -/
def Queue.put (q : Queue) (first last : Bool) (w : Word) (endSeq now : Nat) : Queue :=
  let o : PoolItem :=
    match first, q.opened with
    | false, some o => { o with words := o.words ++ [w] }
    | _, _ => { start := q.wcnt, words := [w], endSeq := 0, at_ := 0, flaws := [] }
  let q := { q with wcnt := q.wcnt + 1 }
  if last then { q with items := q.items ++ [{ o with endSeq := endSeq, at_ := now }], opened := none }
  else { q with opened := some o }

/-- Discard the pool's visible items and the open item; the producer's words up to its next start marker will be
dropped (R210, R211). -/
def Queue.flush (q : Queue) : Queue :=
  match q.opened with
  | some o =>
    { q with items := [], opened := none, skipping := true, flushDrop := satAdd q.flushDrop o.words.length }
  | none => { q with items := [] }

/-! ### The fabric with what it reaches: the recorder taps and the gate's tag table -/

/-- The parts of the device a queue operation can change. -/
structure Qf where
  fabric   : Fabric
  recorder : Recorder
  ports    : Ports
  dev      : Nat
  fresh    : Nat
  deriving DecidableEq, Repr

def State.qf (s : State) : Qf :=
  { fabric := s.fabric, recorder := s.recorder, ports := s.ports, dev := s.dev, fresh := s.fresh }

/-- The device with a queue operation's result. -/
def State.withQf (s : State) (x : Qf) : State :=
  { s with fabric := x.fabric, recorder := x.recorder, ports := x.ports, fresh := x.fresh }

/-- An island writes a record in its own tap, the island's number being the code's high byte (R17, R613). -/
def Qf.note (x : Qf) (code : Nat) (data : List Byte := []) : Qf :=
  { x with recorder := x.recorder.put x.dev (code / 256) code data }

def Fabric.queue (f : Fabric) (n : Nat) : Option Queue := f.queues.get none n

def Fabric.setQueue (f : Fabric) (n : Nat) (q : Queue) : Fabric :=
  { f with queues := f.queues.set none n (some q) }

/-- Queue numbers built, lowest first. -/
def Fabric.built (f : Fabric) : List (Nat × Queue) :=
  f.queues.filterMap fun e => e.2.map (e.1, ·)

/-- Close a tag: an INFLIGHT tag returns to FREE (R648). -/
def Ports.closeTag (p : Ports) (tag : Nat) : Ports :=
  { p with tags := p.tags &&& ~~~(1#256 <<< tag) }

/-- The host tag of an item: bits [7:0] of its word 0 (R202). -/
def itemTag (ws : List Word) : Nat := (ws.headD 0).toNat % 256

/-- QF reports a dropped command item: the lost-tag FIFO takes it or OVERFLOW counts it, and its tag returns to FREE
(R202, R203, R648). -/
def Qf.loseTag (x : Qf) (n : Nat) (ws : List Word) : Qf :=
  let x := { x with ports := x.ports.closeTag (itemTag ws) }
  if x.fabric.ltags.length < 64 then
    { x with fabric := { x.fabric with ltags := x.fabric.ltags ++ [(n, BitVec.ofNat 8 (itemTag ws))] } }
  else
    let first := x.fabric.overflow == 0
    let x := { x with fabric := { x.fabric with overflow := satInc x.fabric.overflow } }
    if first then x.note 0x0305 (leBytes 2 n) else x

/-- Count the items one word dropped: LOST, their lost tags, and the QUEUE_LOSS record of R204. -/
def Qf.countDrops (x : Qf) (n : Nat) (q : Queue) (dropped : List PoolItem) : Qf :=
  match dropped with
  | [] => { x with fabric := x.fabric.setQueue n q }
  | _ :: _ =>
    let lost := satAdd q.lost dropped.length
    let due := q.lost == 0 || (match q.lossNotedAt with | some t => t + 1000000 ≤ x.dev | none => true)
    let q := { q with lost := lost, lossNotedAt := if due then some x.dev else q.lossNotedAt }
    let x := { x with fabric := x.fabric.setQueue n q }
    let x := if q.route.cmdq then dropped.foldl (fun x it => x.loseTag n it.words) x else x
    if due then x.note 0x0303 (leBytes 2 n ++ leBytes 4 lost.toNat) else x

/-- One producer word reaches one queue: dropped while BROKEN or interrupted by a flush, else stored, the oldest
items making room (R193, R200, R207, R211). -/
def Qf.putWord (x : Qf) (n : Nat) (first last : Bool) (w : Word) (endSeq : Nat) : Qf :=
  match x.fabric.queue n with
  | none => x
  | some q =>
    let q := { q with sent := q.sent + 1 }
    if q.broken || (q.skipping && !first) then
      { x with fabric := x.fabric.setQueue n { q with flushDrop := satInc q.flushDrop } }
    else
      let r := if q.full then { q with skipping := false }.makeRoom q.items else ({ q with skipping := false }, [])
      x.countDrops n (r.1.put first last w endSeq x.dev) r.2

/-- A producer port writes a word into every queue it feeds, in one QF cycle (R193, R197). A stopped QF takes none (R488). -/
def Qf.portWord (x : Qf) (port : Nat) (first last : Bool) (w : Word) : Qf :=
  if x.fabric.stopped then x
  else
    let fed := x.fabric.built.filter fun e => e.2.route.producer.toNat == port
    let seq := x.fabric.endSeq
    let x := fed.foldl (fun x e => x.putWord e.1 first last w seq) x
    if last then { x with fabric := { x.fabric with endSeq := seq + 1 } } else x

/-- A producer port writes the words of an item that follow its first. -/
def Qf.portWords (x : Qf) (port : Nat) (first : Bool) : List Word → Qf
  | [] => x
  | [w] => x.portWord port first true w
  | w :: ws => (x.portWord port first false w).portWords port false ws

/-- An engine posts a whole item at its producer port. -/
def Qf.post (x : Qf) (port : Nat) (ws : List Word) : Qf := x.portWords port true ws

/-- An engine posts a whole item at its producer port. -/
def State.post (s : State) (port : Nat) (ws : List Word) : State :=
  s.withQf (s.qf.portWords port true ws)

/-- The lowest CREDIT over the queues a producer port feeds (R192, R197); none when it feeds none. -/
def Fabric.portCredit (f : Fabric) (port : Nat) : Option Nat :=
  (f.built.filter fun e => e.2.route.producer.toNat == port).foldl
    (fun m e => some (match m with | some c => min c e.2.credit | none => e.2.credit)) none

/-! ### Consumer stages -/

/-- The key of a stage among the fabric's stages. -/
def stageKey : StagePort → Nat
  | .engine c => c.toNat
  | .host q => 0x10000 + q.val

/-- The queues a stage is pushed from. -/
def Fabric.sources (f : Fabric) (p : StagePort) : List (Nat × Queue) :=
  f.built.filter fun e =>
    match p with
    | .engine c => e.2.route.consumer == c && c != 0xFF00
    | .host q => e.1 == q.val && e.2.route.consumer == 0xFF00

/-- The queue whose visible item QF pushes next: the one completed earliest, lower number first (R197). -/
def oldestVisible (es : List (Nat × Queue)) : Option (Nat × Queue × PoolItem) :=
  es.foldl (fun m e =>
    match e.2.items, m with
    | [], _ => m
    | it :: _, none => if e.2.broken then none else some (e.1, e.2, it)
    | it :: _, some b => if e.2.broken then m else if it.endSeq < b.2.2.endSeq then some (e.1, e.2, it) else m) none

def Fabric.stage (f : Fabric) (k : Nat) : List StageItem := f.stages.get [] k

/-- A port's stage becomes `left`; a stage that was full was so until now (R194). -/
def Fabric.setStage (f : Fabric) (now k : Nat) (left : List StageItem) : Fabric :=
  { f with stages := f.stages.set [] k left
           fullAt := if 2 ≤ (f.stage k).length ∧ left.length < 2 then f.fullAt.set 0 k now else f.fullAt }

/-- The consumer port delivers its next staged word and frees the slot after an item's last (R194, R195). A host port
also shows the word's POISON and LAST tags and keeps it as its last word (R209, R216). -/
def Fabric.deliver (f : Fabric) (now k : Nat) : Fabric :=
  match f.stage k with
  | [] => f
  | it :: rest =>
    let w := it.words.getD it.read (0, false)
    let last := it.words.length ≤ it.read + 1
    let left := if last then rest else { it with read := it.read + 1 } :: rest
    let f := { f.setStage now k left with lastRead := f.lastRead.set .nothing k (.word w.1 w.2) }
    match f.queue it.queue with
    | some q =>
      if 0x10000 ≤ k then f.setQueue it.queue { q with poison := w.2, last := last, lastWord := w.1 } else f
    | none => f

/-- QF marks a queue BROKEN: its pool contents are discarded and METAERR counts (R207). -/
def Qf.breakQueue (x : Qf) (n : Nat) (q : Queue) : Qf :=
  let cell := (Config.freeWord x.fresh).toNat % 16384
  let q := { q with broken := true, items := [], opened := none }
  let f := { x.fabric.setQueue n q with metaErr := satInc x.fabric.metaErr }
  Qf.note { x with fabric := f, fresh := x.fresh + 1 } 0x0302 (leBytes 2 n ++ leBytes 2 cell)

/-- Count the parity errors of a pushed item, one record each (R205). The cell index is a free value. -/
def Qf.parityErrors (x : Qf) (n : Nat) : Nat → Qf
  | 0 => x
  | k + 1 =>
    let cell := (Config.freeWord x.fresh).toNat % 16384
    let f := { x.fabric with wordErr := satInc x.fabric.wordErr }
    Qf.parityErrors (Qf.note { x with fabric := f, fresh := x.fresh + 1 } 0x0301 (leBytes 2 n ++ leBytes 2 cell)) n k

/-- The parity bits of some words of the oldest visible item no longer fit their words (R191): `bad` marks them. -/
def Qf.disturb (x : Qf) (p : StagePort) (bad : List Bool) : Qf :=
  match oldestVisible (x.fabric.sources p) with
  | none => x
  | some (n, q, it) =>
    let hit := (bad.zipIdx.filter (·.1)).map (·.2)
    { x with fabric := x.fabric.setQueue n { q with items := { it with flaws := it.flaws ++ hit } :: q.items.tail } }

/-- QF pushes the oldest visible item into a free stage slot, checking each word's parity: a word whose parity bit does not fit
is POISON; `broken` is an error in the metadata of a cell (R191, R194, R205, R207). The item is staged as soon as it is visible
and a slot is free (R199). A STALL read waiting at the port then takes its word (R208). -/
def Qf.push (x : Qf) (p : StagePort) (broken : Bool) : Qf :=
  let k := stageKey p
  if x.fabric.stopped || 2 ≤ (x.fabric.stage k).length then x
  else
    match oldestVisible (x.fabric.sources p) with
    | none => x
    | some (n, q, it) =>
      if broken then x.breakQueue n q
      else
        let ws := it.words.zipIdx.map fun e => (e.1, it.flaws.contains e.2)
        let f := x.fabric.setQueue n { q with items := q.items.tail }
        let staged : StageItem := { queue := n, words := ws, read := 0, at_ := max it.at_ (f.fullAt.get 0 k) }
        let f := { f with stages := f.stages.set [] k (f.stage k ++ [staged]) }
        let f := if f.waiting.contains k then Fabric.deliver { f with waiting := f.waiting.filter (· != k) } x.dev k else f
        Qf.parityErrors { x with fabric := f } n (ws.filter (·.2)).length

/-- QF pushes what is visible at an engine's consumer port (R199). -/
def Qf.stagePort (x : Qf) (code : Nat) : Qf := x.push (.engine (BitVec.ofNat 16 code)) false

/-- An engine takes the next whole item at its consumer port, with the device time at which it was staged: QF has by then
pushed what is visible (R199). An item of which words have been read gives its remaining words. -/
def Qf.takeStaged (x : Qf) (code : Nat) : Option (Item × Nat) × Qf :=
  let x := x.stagePort code
  match x.fabric.stage code with
  | [] => (none, x)
  | it :: rest =>
    let ws := it.words.drop it.read
    (some ({ words := ws.map (·.1), poison := ws.any (·.2) }, it.at_),
      Qf.stagePort { x with fabric := x.fabric.setStage x.dev code rest } code)

/-- An engine takes the next whole item at its consumer port. -/
def Qf.takeItem (x : Qf) (code : Nat) : Option Item × Qf :=
  let r := x.takeStaged code
  (r.1.map (·.1), r.2)

/-- Up to `n` whole items at a consumer port, oldest first, each with the time at which it was staged. -/
def Qf.takeAllStaged (x : Qf) (code : Nat) : Nat → List (Item × Nat) × Qf
  | 0 => ([], x)
  | n + 1 =>
    match x.takeStaged code with
    | (none, x) => ([], x)
    | (some it, x) =>
      let r := x.takeAllStaged code n
      (it :: r.1, r.2)

/-- Up to `n` whole items at a consumer port, oldest first. -/
def Qf.takeItems (x : Qf) (code n : Nat) : List Item × Qf :=
  let r := x.takeAllStaged code n
  (r.1.map (·.1), r.2)

/-- Items at a consumer port: in its stage and in the pool of the queues it consumes. -/
def Fabric.waitingCount (f : Fabric) (code : Nat) : Nat :=
  (f.stage code).length + ((f.sources (.engine (BitVec.ofNat 16 code))).map (·.2.items.length)).sum

/-- A whole item or more waits at a consumer port: in its stage or in the pool of a queue it consumes. -/
def Fabric.ready (f : Fabric) (code : Nat) : Bool :=
  !(f.stage code).isEmpty || (oldestVisible (f.sources (.engine (BitVec.ofNat 16 code)))).isSome

/-- The Porlux engine takes the network-virtual-output items staged; it keeps the newest good one with the time of its staging
(R561). -/
def State.takeNvo (s : State) : State :=
  let r := s.qf.takeAllStaged 0x0CE9 8
  let s := s.withQf r.2
  match (r.1.filter fun e => !e.1.poison).getLast? with
  | some e => { s with porlux := { s.porlux with nvo := some (e.1.words, e.2) } }
  | none => s

/-! ### Flushing -/

/-- Flush one queue: its visible items, its staged items not yet read, and the open item, unless its end marker reaches QF in the
cycle of the flush (`ending`): that item arrives after the flush (R210, R211, R213). In a CMDQ queue the tags of the discarded
items return to FREE (R648). The counts of the record saturate in their two bytes (R9). A stopped QF flushes nothing (R488). -/
def Qf.flushQueue (x : Qf) (n : Nat) (ending : Bool) : Qf :=
  match x.fabric.queue n with
  | none => x
  | some q =>
    if x.fabric.stopped then x
    else
    let k := if q.route.consumer == 0xFF00 then 0x10000 + n else q.route.consumer.toNat
    let staged := (x.fabric.stage k).filter fun it => it.queue == n && it.read == 0
    let keep := (x.fabric.stage k).filter fun it => !(it.queue == n && it.read == 0)
    let openWords := match q.opened with | some o => if ending then [] else [o.words] | none => []
    let gone := q.items.map (·.words) ++ staged.map (fun it => it.words.map (·.1)) ++ openWords
    let f := x.fabric.setQueue n (if ending then { q with items := [] } else q.flush)
    let f := f.setStage x.dev k keep
    let ports := if q.route.cmdq then gone.foldl (fun p ws => p.closeTag (itemTag ws)) x.ports else x.ports
    Qf.note { x with fabric := f, ports := ports } 0x0304
      (leBytes 2 n ++ leBytes 2 (min 0xFFFF (q.items.length + staged.length)) ++
        leBytes 2 (min 0xFFFF (openWords.map (·.length)).sum))

/-- QF rebuilds a BROKEN queue from its full reserve, empty; the words of an item it has not seen begin are dropped, for an
item's first word carries the start marker (R189, R207). -/
def Queue.rebuild (q : Queue) : Queue :=
  { q with items := [], opened := none, wcnt := 0, sent := 0, skipping := true, broken := false }

/-- A queue as step 6 builds it from its ROUTES record (R187, R217). -/
def Queue.build (r : RouteRec) : Queue :=
  { route := r, items := [], opened := none, wcnt := 0, sent := 0, skipping := false, lost := 0, flushDrop := 0,
    lossNotedAt := none, broken := false, underrun := false, poison := false, last := false, lastWord := 0,
    wlen := 1, hostLeft := 0 }

/-- Every queue of the image, built empty (R187, R188). -/
def Fabric.build (routes : List RouteRec) : Fabric :=
  { Fabric.reset with queues := routes.foldl (fun t r => t.set none r.queue (some (Queue.build r))) [] }

/-! ### Host access to queues -/

/-- Status codes of an access (R641). -/
inductive Status where
  | ok | unmapped | notExposed | absent | locked | busy | overlayFull | tagBusy | misaligned | frame
  deriving DecidableEq, Repr

def statusCode : Status → Nat
  | .ok => 0 | .unmapped => 1 | .notExposed => 2 | .absent => 3 | .locked => 4 | .busy => 5 | .overlayFull => 6
  | .tagBusy => 7 | .misaligned => 8 | .frame => 9

/-- The host writes QF_QDATAn: the gate checks the tag at an item's first word on a CMDQ queue, and the word joins the
host's item, the WLEN-th completing it (R214, R215, R647). -/
def Qf.hostWrite (x : Qf) (n : Nat) (w : Word) : Status × Qf :=
  match x.fabric.queue n with
  | none => (.absent, x)
  | some q =>
    if q.route.producer != 0xFF00 then (.notExposed, x)
    else if x.fabric.stopped then (.ok, x)
    else
      let busy := x.ports.busyLeft.get 0 n
      if 0 < busy then (.tagBusy, { x with ports := { x.ports with busyLeft := x.ports.busyLeft.set 0 n (busy - 1) } })
      else
        let first := q.hostLeft == 0
        let left := if first then q.wlen else q.hostLeft
        let tag := w.toNat % 256
        if first && q.route.cmdq && x.ports.tags.getLsbD tag then
          (.tagBusy, { x with ports := { x.ports with busyLeft := x.ports.busyLeft.set 0 n (left - 1) } })
        else
          let ports := if first && q.route.cmdq then { x.ports with tags := x.ports.tags ||| (1#256 <<< tag) } else x.ports
          let last := left ≤ 1
          let seq := x.fabric.endSeq
          let f := x.fabric.setQueue n { q with hostLeft := left - 1 }
          let x := Qf.putWord { x with fabric := f, ports := ports } n first last w seq
          (.ok, if last then { x with fabric := { x.fabric with endSeq := seq + 1 } } else x)

/-- The host reads QF_QDATAn: the next staged word, or in FLAG mode the last word with UNDERRUN set; with STALL an
empty stage leaves the read waiting, and it answers the last word (R209, R214, R216). -/
def Qf.hostRead (x : Qf) (n : Nat) : Status × Word × Qf :=
  match x.fabric.queue n with
  | none => (.absent, 0, x)
  | some q =>
    if q.route.consumer != 0xFF00 then (.notExposed, 0, x)
    else
      let k := 0x10000 + n
      match x.fabric.stage k with
      | [] =>
        if q.route.flag then (.ok, q.lastWord, { x with fabric := x.fabric.setQueue n { q with underrun := true } })
        else (.ok, q.lastWord, { x with fabric := { x.fabric with waiting := x.fabric.waiting ++ [k] } })
      | it :: _ => (.ok, (it.words.getD it.read (0, false)).1, { x with fabric := x.fabric.deliver x.dev k })

/-! ### The commands -/

/-- QUEUE_PRODUCER_WORD (R193). -/
def execQueueProducerWord (p : BitVec 16) (first last : Bool) (w : Word) (s : State) :
    Host.Outcome State Fault Refusal :=
  .next (s.withQf (s.qf.portWord p.toNat first last w))

/-- A consumer's read at its stage: a word at once, or a STALL read that waits (R195, R208). -/
def Fabric.consumerRead (f : Fabric) (now k : Nat) : Fabric :=
  match f.stage k with
  | [] => if f.waiting.contains k then f else { f with waiting := f.waiting ++ [k] }
  | _ :: _ => f.deliver now k

/-- CONSUMER_READ (R195). -/
def execConsumerRead (p : StagePort) (s : State) : Host.Outcome State Fault Refusal :=
  .next { s with fabric := s.fabric.consumerRead s.dev (stageKey p) }

/-- A STALL read reaches TIMEOUT and ends with no data (R208). -/
def Fabric.stallTimeout (f : Fabric) (k : Nat) : Fabric :=
  if f.waiting.contains k then
    { f with waiting := f.waiting.filter (· != k), lastRead := f.lastRead.set .nothing k .timeout }
  else f

/-- LOST and FLUSHDROP of a queue to 0 (R218). -/
def Fabric.clearCounts (f : Fabric) (n : Nat) : Fabric :=
  match f.queue n with
  | some q => f.setQueue n { q with lost := 0, flushDrop := 0 }
  | none => f

/-- A write of QF_QSTATn: FLUSH first, then CLRCNT; a 1 in UNDERRUN clears it (R14, R218). `ending`: the producer's end marker
reaches QF in the same cycle (R213). -/
def Qf.writeQstat (x : Qf) (n : Nat) (w : Word) (ending : Bool) : Qf :=
  let x := if w.getLsbD 31 then x.flushQueue n ending else x
  let x := if w.getLsbD 30 then { x with fabric := x.fabric.clearCounts n } else x
  match x.fabric.queue n with
  | some q => if w.getLsbD 27 then { x with fabric := x.fabric.setQueue n { q with underrun := false } } else x
  | none => x

/-- A FLUSH write of QF_QSTATn, and the word with an end marker that the queue's producer brings in the same cycle, if any: it
takes effect after the flush and completes its item (R212, R213). -/
def Qf.flushWith (x : Qf) (n : Nat) (w : Word) (ending : Option Word) : Qf :=
  let x := x.writeQstat n (w ||| 0x80000000) ending.isSome
  match ending, x.fabric.queue n with
  | some e, some q => x.portWord q.route.producer.toNat q.opened.isNone true e
  | _, _ => x

/-- QUEUE_FLUSH: a FLUSH write of QF_QSTATn, with the end word of the same cycle, if any (R210, R213). -/
def execQueueFlush (n : Fin 512) (w : Word) (ending : Option Word) (s : State) : Host.Outcome State Fault Refusal :=
  .next (s.withQf (s.qf.flushWith n w ending))

/-- QUEUE_CLRCNT: a CLRCNT write of QF_QSTATn (R218). -/
def execQueueClrcnt (n : Fin 512) (w : Word) (s : State) : Host.Outcome State Fault Refusal :=
  .next (s.withQf (s.qf.writeQstat n (w ||| 0x40000000) false))

/-- HOST_QDATA_WRITE (R215). -/
def execHostQdataWrite (n : Fin 512) (w : Word) (s : State) : Host.Outcome State Fault Refusal :=
  .next (s.withQf (s.qf.hostWrite n w).2)

/-- HOST_QDATA_READ (R216). -/
def execHostQdataRead (n : Fin 512) (s : State) : Host.Outcome State Fault Refusal :=
  .next (s.withQf (s.qf.hostRead n).2.2)

/-- LTAG_READ: the oldest entry leaves the lost-tag FIFO (R220). -/
def execLtagRead (s : State) : Host.Outcome State Fault Refusal :=
  .next { s with fabric := { s.fabric with ltags := s.fabric.ltags.tail } }

/-- A write of QF_FCTL (R220). -/
def Fabric.writeFctl (f : Fabric) (w : Word) : Fabric :=
  let f := if w.getLsbD 1 then { f with ltags := [], overflow := 0 } else f
  if w.getLsbD 0 then { f with metaErr := 0, wordErr := 0 } else f

/-- CLRLTAG (R220). -/
def execClrltag (w : Word) (s : State) : Host.Outcome State Fault Refusal :=
  .next { s with fabric := s.fabric.writeFctl (w ||| 2) }

/-- CLRERR (R220). -/
def execClrerr (w : Word) (s : State) : Host.Outcome State Fault Refusal :=
  .next { s with fabric := s.fabric.writeFctl (w ||| 1) }

end Sys2Proof.Machine
end

