-- ==== Sys2Proof/Machine/Loops.lean ====
section
/-! DEFINITION. Loop engines and motor engines (chapter 09): the loop sample, arbitration, working copies and HOLD, the
bridge, the current sample of both modes, the front ends and calibration. -/

namespace Sys2Proof.Machine

/-! ### The part of the device a loop or motor engine changes -/

/-- What a step of a loop engine, a motor engine or a door function can change, beside the device before the step. -/
structure Mc where
  env    : State
  loops  : Tbl Loop
  motors : Tbl Motor
  doors  : Tbl Door
  regs   : Tbl Word
  lanes  : List LaneItem
  qf     : Qf

def State.mc (s : State) : Mc :=
  { env := s, loops := s.loops, motors := s.motors, doors := s.doors, regs := s.regs, lanes := s.lanes, qf := s.qf }

/-- The device with the result. -/
def State.withMc (s : State) (m : Mc) : State :=
  { s with loops := m.loops, motors := m.motors, doors := m.doors, regs := m.regs, lanes := m.lanes,
           fabric := m.qf.fabric, recorder := m.qf.recorder, ports := m.qf.ports, fresh := m.qf.fresh }

/-- Run a step where its condition holds. -/
def State.runMc (s : State) (ok : Bool) (f : Mc → Mc) : State := if ok then s.withMc (f s.mc) else s

def Mc.loop (m : Mc) (e : Nat) : Loop := m.loops.get Loop.reset e
def Mc.motor (m : Mc) (i : Nat) : Motor := m.motors.get Motor.reset i
def Mc.door (m : Mc) (i : Nat) : Door := m.doors.get Door.reset i
def Mc.updLoop (m : Mc) (e : Nat) (f : Loop → Loop) : Mc := { m with loops := m.loops.modify Loop.reset e f }
def Mc.updMotor (m : Mc) (i : Nat) (f : Motor → Motor) : Mc := { m with motors := m.motors.modify Motor.reset i f }
def Mc.updDoor (m : Mc) (i : Nat) (f : Door → Door) : Mc := { m with doors := m.doors.modify Door.reset i f }

/-- A record of motor engine `i`: byte 20 is the engine number (R333, R370). -/
def Mc.note (m : Mc) (i code : Nat) (data : List Byte := []) : Mc :=
  { m with qf := m.qf.note ((6 + i) * 0x100 + code) (BitVec.ofNat 8 i :: data) }

def Mc.post (m : Mc) (port : Nat) (ws : List Word) : Mc := { m with qf := m.qf.post port ws }

/-- The block of R486 that stands for an island whole; a figure engine has a block of its own. -/
def islandBlock : Island → Option Nat
  | .mpi => some 4
  | .mc0 => some 12
  | .mc1 => some 13
  | .mc2 => some 14
  | .mc3 => some 15
  | .sch => some 5
  | .bus => some 10
  | _ => none

/-- An island works: out of reset, not held for a tempo switch, its block not quarantined (R20, R41, R488). -/
def State.runs (s : State) (i : Island) : Bool :=
  !s.start.rsti.contains i && !(s.tempo.quiesce && s.tempo.qack.contains i) &&
    (match islandBlock i with
     | some b => !s.quarantined b
     | none => true)

/-- Mode of motor engine `i`: 1 field-oriented, 2 stepper, 0 not instantiated (R150, R331). -/
def State.motorMode (s : State) (i : Nat) : Nat :=
  match s.tile 3 i with
  | some t => t.arg.toNat
  | none => 0

/-- The door-kind planner that feeds motor engine `i` (R258, R334). -/
def State.doorPlanner (s : State) (i : Nat) : Option Nat :=
  match s.image with
  | some im => (List.range 8).find? fun p =>
      (match s.tile 2 p with | some t => t.arg == 2 | none => false) &&
        im.routes.any fun r => r.producer.toNat == 0x0518 + p && r.consumer.toNat == (6 + i) * 0x100
  | none => none

/-- Motor engine `i` carries the door function (R334). -/
def State.isDoor (s : State) (i : Nat) : Bool := s.motorMode i == 1 && (s.doorPlanner i).isSome

/-- Pick by the tempo mode in force: QUICKSTEP, WALTZ, PAVANE. -/
def State.pick {α : Type} (s : State) (q w p : α) : α :=
  match s.tempo.mode.toNat with
  | 0 => q
  | 1 => w
  | _ => p

/-! ### Coefficients (R311, R312) -/

/-- A loop register as the arithmetic uses it: its working copy (R312). -/
def Loop.copy (l : Loop) (r : Reg) (idx : List Nat) : Word := l.copies.get r.resetWord (r.addr idx)

/-- The registers of loop engine `e` as they stand. -/
def loopRegs (regs : Tbl Word) (e : Nat) : Tbl Word :=
  regs.filter fun x => decide (loopBase e ≤ x.1) && decide (x.1 < loopBase e + 0x1000)

/-- At a sample boundary the working copies follow the registers, unless HOLD is 1 (R312). -/
def Mc.takeCopies (m : Mc) (e : Nat) : Mc :=
  if m.env.LEHOLD_HOLD e = 1 then m
  else m.updLoop e fun l => { l with copies := loopRegs m.env.regs e, held := false }

/-- An integral coefficient scaled by the tempo (R311). -/
def State.scaleKi (s : State) (k : Int) : Int := s.pick (rnDiv k 2) k (sat32 (2 * k))

/-- A derivative coefficient scaled by the tempo (R311). -/
def State.scaleKd (s : State) (k : Int) : Int := s.pick (sat32 (2 * k)) k (rnDiv k 2)

/-- A nonzero value never scales to 0 (R311). -/
def atLeastOne (k x : Int) : Int := if k = 0 then 0 else max 1 x

/-- SLRATE scaled by the tempo (R311). -/
def State.scaleRate (s : State) (k : Int) : Int := s.pick (atLeastOne k (rnDiv k 2)) k (sat32 (2 * k))

/-- SLJERK scaled by the tempo (R311). -/
def State.scaleJerk (s : State) (k : Int) : Int := s.pick (atLeastOne k (rnDiv k 4)) k (sat32 (4 * k))

/-- A slot's working copies, scaled (R329, R330). -/
structure SlotCfg where
  en     : Bool
  sdir   : Bool
  mdir   : Bool
  mneg   : Bool
  ffen   : Bool
  msrc   : Nat
  ssrc   : Nat
  div    : Nat
  kp     : Int
  ki     : Int
  kd     : Int
  outmin : Int
  outmax : Int
  track  : Int
  setp   : Int
  rate   : Int
  jerk   : Int
  deriving DecidableEq, Repr

/-- The configuration of slot `j` of engine `e`. -/
def Loop.cfg (s : State) (l : Loop) (e j : Nat) : SlotCfg :=
  let c := l.copy .LSCFG [e, j]
  let r (x : Reg) : Int := sInt (l.copy x [e, j])
  { en := c.getLsbD 0, ffen := c.getLsbD 1, mneg := c.getLsbD 2, mdir := c.getLsbD 3, sdir := c.getLsbD 4,
    div := max 1 (getBits c 12 8), ssrc := getBits c 20 16, msrc := getBits c 28 24,
    kp := r .LSKP, ki := s.scaleKi (r .LSKI), kd := s.scaleKd (r .LSKD), outmin := r .LSOUTMIN, outmax := r .LSOUTMAX,
    track := r .LSTRACK, setp := r .LSSETP, rate := s.scaleRate (r .LSRATE), jerk := s.scaleJerk (r .LSJERK) }

/-! ### Inputs of a sample (R302, R304) -/

/-- The values the source codes give in one sample. -/
structure LoopIn where
  vel   : Int
  fbpos : Int
  iq    : Int
  fobs  : Int
  ekin  : Int
  vadm  : Int
  flim  : Int
  ohm   : Int
  vdc   : Int
  rvel  : Int
  rpos  : Int
  racc  : Int
  aux   : List Word
  deriving DecidableEq, Repr

/-- Value of source code `c`; code 0x00 gives `zero` (R304). -/
def LoopIn.src (x : LoopIn) (c : Nat) (zero : Int) : Int :=
  match c with
  | 0x00 => zero
  | 0x01 => x.vel
  | 0x02 => x.fbpos
  | 0x03 => x.iq
  | 0x04 => x.fobs
  | 0x05 => x.ekin
  | 0x06 => x.vadm
  | 0x07 => x.flim
  | 0x08 => x.ohm
  | 0x09 => x.vdc
  | 0x0A => x.rvel
  | 0x0B => x.rpos
  | 0x0C => x.racc
  | c => if 0x10 ≤ c ∧ c < 0x18 then sInt (x.aux.getD (c - 0x10) 0) else 0

/-! ### One slot (R303, R306) -/

/-- The set-point slew limiter: sp and d after one step toward `t` (R306). -/
def slewStep (sp d t rt jk : Int) : Int × Int :=
  if rt = 0 then (t, 0)
  else
    let tg := if sp ≠ 0 ∧ t ≠ 0 ∧ sgn t ≠ sgn sp then 0 else t
    let e := tg - sp
    let d' :=
      if jk = 0 then clampInt (-rt) rt e
      else
        let br := sgn d * downDiv (absInt d * (upDiv (absInt d) jk + 1)) 2
        let d1 := if 0 < e - br then d + jk else if e - br < 0 then d - jk else d - sgn d * min (absInt d) jk
        clampInt (-rt) rt d1
    let sp' := sat32 (sp + d')
    if (0 < e ∧ tg ≤ sp') ∨ (e < 0 ∧ sp' ≤ tg) ∨ (e = 0 ∧ d' = 0) then (tg, 0) else (sp', d')

/-- The steps of R303 for one slot: set-point source `t`, measurement `meas`, feed-forward `ff`. `anew` sets sp to its
source and d to 0 (R306); `zero` sets the integrator to 0 first (R328). -/
def Slot.run (x : Slot) (c : SlotCfg) (t meas dir ff : Int) (anew zero : Bool) : Slot :=
  let t := if c.sdir then sat32 (dir * t) else t
  let r := if anew then (t, 0) else slewStep x.sp x.d t c.rate c.jerk
  let m := if c.mneg then sat32 (-meas) else meas
  let m := if c.mdir then sat32 (dir * m) else m
  let e := r.1 - m
  let p := rnDiv (sat64 (c.kp * e)) s16
  let i := min (max (sat64 ((if zero then 0 else x.i) + c.ki * e)) (c.outmin * s16)) (c.outmax * s16)
  let d := rnDiv (sat64 (c.kd * (x.mprev - m))) s16
  let f := if c.ffen then ff else 0
  let v := p + rnDiv i s16 + d + f
  { sp := r.1, d := r.2, mprev := m, i := i, p := p, dterm := d, f := f, v := v, u := min (max v c.outmin) c.outmax, m := m,
    fresh := false }

/-! ### The sample (R303 to R309) -/

/-- Direction after step 2 of R303: true for -1. -/
def Loop.direction (l : Loop) (x : LoopIn) (dsrc : Nat) : Bool :=
  let a := x.src dsrc 1
  let b := if a = 0 ∧ dsrc = 0x0A then x.racc else a
  if b = 0 then l.dirDown else decide (b < 0)

/-- Step 4 over slots 0 to 5: the slots after it, and the output of the last enabled slot. A cascade slot not run in this sample
holds its output and state (R309), but RESETI sets its integrator to 0 (R328), and it takes sp and d afresh when it next runs
after RUN entry, reset or RESETI (R306). -/
def Loop.runSlots (l : Loop) (cfg : Nat → SlotCfg) (x : LoopIn) (n : Nat) (dir ff : Int) (cascade : Bool) :
    Tbl Slot × Option Int :=
  (List.range 6).foldl (fun r j =>
    let c := cfg j
    let sl := l.slots.get Slot.reset j
    let anew := sl.fresh || l.fresh || l.resetI
    if !c.en then (r.1.set Slot.reset j { sl with i := 0, fresh := anew }, r.2)
    else if cascade && n % c.div != 0 then
      (r.1.set Slot.reset j { sl with i := if l.resetI then 0 else sl.i, fresh := anew }, some sl.u)
    else
      let t := match cascade, r.2 with
        | true, some u => u
        | _, _ => x.src c.ssrc c.setp
      let sl := sl.run c t (x.src c.msrc 0) dir ff anew l.resetI
      (r.1.set Slot.reset j sl, some sl.u)) ([], none)

/-- The enabled slot with the lowest dir × u, the lower number on a tie (R307). -/
def lowestSlot (slots : Tbl Slot) (dir : Int) (en : List Nat) : Option Nat :=
  en.foldl (fun w j => match w with
    | none => some j
    | some k => if dir * (slots.get Slot.reset j).u < dir * (slots.get Slot.reset k).u then some j else w) none

/-- The integrator that makes the slot's unclamped output `u` (R308, R309). -/
def Slot.backCalc (x : Slot) (u : Int) : Int := sat64 ((u - x.p - x.dterm - x.f) * s16)

/-- Anti-windup of native mode after slot `w` has won (R308). -/
def trackSlots (slots : Tbl Slot) (cfg : Nat → SlotCfg) (dir : Int) (w : Nat) (en : List Nat) : Tbl Slot :=
  let won := slots.get Slot.reset w
  en.foldl (fun t j => t.modify Slot.reset j fun x =>
    let c := cfg j
    let i := if j = w then (if x.v ≠ x.u then x.backCalc x.u else x.i)
      else if dir * won.u + c.track < dir * x.u then x.backCalc (won.u + dir * c.track) else x.i
    { x with i := min (max i (c.outmin * s16)) (c.outmax * s16) }) slots

/-- Anti-windup of cascade mode: each slot that ran and was limited (R309). -/
def cascadeSlots (slots : Tbl Slot) (cfg : Nat → SlotCfg) (n : Nat) (en : List Nat) : Tbl Slot :=
  en.foldl (fun t j => t.modify Slot.reset j fun x =>
    if n % (cfg j).div = 0 ∧ x.v ≠ x.u then { x with i := x.backCalc x.u } else x) slots

/-- A completed sample `n` (R303). -/
def Loop.sample (s : State) (l : Loop) (e n : Nat) (x : LoopIn) : Loop :=
  let ctl := l.copy .LECTL [e]
  let ffs := l.copy .LEFFSRC [e]
  let cfg := l.cfg s e
  let cascade := ctl.getLsbD 8
  let down := l.direction x (getBits ctl 4 0)
  let dir : Int := if down then -1 else 1
  let ka := sInt (l.copy .LEKA [e])
  let kv := sInt (l.copy .LEKV [e])
  let vnom := sInt (l.copy .LEVNOM [e])
  let ff := sat64 (rnDiv (sat64 (ka * x.src (getBits ffs 12 8) 0)) s16 +
    rnDiv (sat64 (kv * (x.src (getBits ffs 4 0) 0 - vnom))) s16)
  let en := (List.range 6).filter fun j => (cfg j).en
  let r := l.runSlots cfg x n dir ff cascade
  let l := { l with dirDown := down, run := 0, n := BitVec.ofNat 32 n, fresh := false, resetI := false }
  let win := if cascade then en.getLast? else lowestSlot r.1 dir en
  match win with
  | none => { l with slots := r.1, out := 0, win := 7, limited := false }
  | some w =>
    let sw := r.1.get Slot.reset w
    { l with
      slots := if cascade then cascadeSlots r.1 cfg n en else trackSlots r.1 cfg dir w en,
      out := sw.u, win := BitVec.ofNat 3 w, limited := decide (sw.v ≠ sw.u) }

/-- LESTAT (R327). -/
def Loop.statWord (l : Loop) : Word :=
  BitVec.ofNat 32 (l.run.toNat * 2 ^ 24 + bit l.held * 2 ^ 17 + bit l.fault * 2 ^ 16 + bit l.miss * 2 ^ 8 +
    bit l.limited * 2 ^ 5 + bit l.dirDown * 2 ^ 4 + l.win.toNat)

/-- A miss: MISS, MISSCOUNT and RUN; at MISSRUN the engine sets LOOPFLT and records it (R313, R314). -/
def Mc.miss (m : Mc) (e : Nat) : Mc :=
  let m := m.updLoop e fun l => { l with miss := true, missCount := satInc l.missCount, run := satInc l.run }
  let l := m.loop e
  if l.run.toNat = max 1 (getBits (l.copy .LECTL [e]) 15 12) then
    let code := if e < 4 then (6 + e) * 0x100 + 1 else 0x0530
    let m := m.updLoop e fun l => { l with fault := true }
    { m with qf := m.qf.note code (leBytes 1 e ++ leBytes 1 l.run.toNat ++ leBytes 4 l.missCount.toNat) }
  else m

/-- The source codes sample `n` uses: those of steps 2 and 3, MSRC of the slots that run, and SSRC of those that take their
set-point from it, in cascade the first alone (R303, R309). -/
def Loop.codes (s : State) (l : Loop) (e n : Nat) : List Nat :=
  let ctl := l.copy .LECTL [e]
  let ffs := l.copy .LEFFSRC [e]
  let en := ((List.range 6).map (l.cfg s e)).filter (·.en)
  let runs (c : SlotCfg) : Bool := !ctl.getLsbD 8 || n % c.div == 0
  let first := if ctl.getLsbD 8 then en.take 1 else en
  getBits ctl 4 0 :: getBits ffs 12 8 :: getBits ffs 4 0 :: (en.filter runs).map (·.msrc) ++ (first.filter runs).map (·.ssrc)

/-- Sample `n` uses a word of the auxiliary or input item. -/
def Loop.usesAux (s : State) (l : Loop) (e n : Nat) : Bool :=
  (l.codes s e n).any fun c => decide (0x10 ≤ c) && decide (c < 0x18)

/-! ### Reference and auxiliary items of LEm (R302) -/

/-- Take the reference item whose word 0 is `k`, discarding those that precede it; none when it is not staged. An item with a
POISON word is discarded unread (R206). -/
def Qf.takeRef (x : Qf) (port : Nat) (k : Word) : Nat → Option Item × Qf
  | 0 => (none, x)
  | n + 1 =>
    let x := x.stagePort port
    match x.fabric.stage port with
    | [] => (none, x)
    | it :: _ =>
      if it.words.any (·.2) then (x.takeItem port).2.takeRef port k n
      else
      let d := sDiff ((it.words.headD (0, false)).1) k
      if d < 0 then (x.takeItem port).2.takeRef port k n
      else if d = 0 then x.takeItem port
      else (none, x)

/-- A reference item as it is held (R259). -/
def refItem (ws : List Word) : RefItem :=
  { k := ws.getD 0 0, pos := ws.getD 1 0, vel := ws.getD 2 0, acc := ws.getD 3 0, stop := ws.getD 4 0, flags := ws.getD 5 0 }

/-- The reference of sample time `sn` for LEm: the item read at a planner boundary, or the one held (R302). The answer
says whether the input is there; an unrouted port has none to wait for. -/
def Mc.readRef (m : Mc) (i sn : Nat) : Bool × Mc :=
  let port := (6 + i) * 0x100
  let cyc := m.env.cycleUs
  if !m.env.routedTo port then (true, m)
  else if sn % cyc ≠ 0 then ((m.loop i).refItem.isSome, m)
  else
    let r := m.qf.takeRef port (lowWord (sn / cyc)) 256
    let m := { m with qf := r.2 }
    match r.1 with
    | some it => if it.poison then (false, m) else (true, m.updLoop i fun l => { l with refItem := some (refItem it.words) })
    | none => (false, m)

/-- Velocity, position and acceleration of the held reference at sample time `sn` (R302). -/
def Mc.refAt (m : Mc) (i sn : Nat) : Int × Int × Int :=
  match (m.loop i).refItem with
  | none => (0, 0, 0)
  | some r =>
    let cyc := m.env.cycleUs
    let tau : Int := (sn % cyc : Nat) + cyc * sDiff (lowWord (sn / cyc)) r.k
    let v := sInt r.vel
    let a := sInt r.acc
    (sat32 (v + rnDiv (a * tau) (10 ^ 4)), sat32 (sInt r.pos + rnDiv (v * tau) (10 ^ 7)), a)

/-- Auxiliary items of LEm are read without waiting; the newest is held (R302). -/
def Mc.readAux (m : Mc) (i : Nat) : Mc :=
  let r := m.qf.takeItems ((6 + i) * 0x100 + 2) 64
  let m := { m with qf := r.2 }
  match r.1.getLast? with
  | some it => m.updLoop i fun l => { l with aux := some (it.words.map (·, it.poison)), auxAge := 0 }
  | none => m.updLoop i fun l => { l with auxAge := l.auxAge + 1 }

/-- The held auxiliary item is there, free of POISON and not too old, where the sample uses it (R313). -/
def Mc.auxOk (m : Mc) (i n : Nat) : Bool :=
  let l := m.loop i
  let age := getBits (l.copy .LECTL [i]) 31 24
  match l.aux with
  | some ws => !(l.usesAux m.env i n && ws.any (·.2)) && (age == 0 || decide (l.auxAge ≤ age))
  | none => !l.usesAux m.env i n

/-! ### Loop samples -/

/-- Mean of the four current samples of the speed sample, source 0x03. -/
def Motor.meanIq (x : Motor) : Int := rnDiv (x.iqs.take 4).sum 4

/-- The inputs of LEm (R304); the door sources are 0 on an engine without the door function. -/
def Mc.loopIn (m : Mc) (i sn : Nat) : LoopIn :=
  let x := m.motor i
  let d := m.door i
  let door := m.env.isDoor i
  let r := m.refAt i sn
  { vel := x.vel, fbpos := x.fbpos, iq := x.meanIq, fobs := if door then d.fobs else 0, ekin := if door then d.ekin else 0,
    vadm := if door then d.vadm else 0, flim := if door then d.flimNow else 0, ohm := x.twohm.toNat, vdc := x.vdc,
    rvel := r.1, rpos := r.2.1, racc := r.2.2,
    aux := match (m.loop i).aux with
      | some ws => ws.map (·.1)
      | none => [] }

/-- The LEm sample at sample time `sn` after its reference has been read (`refOk`): evaluated in RUN in field-oriented
mode only, with its sample item (R301, R303, R313, R316). -/
def Mc.motorSample (m : Mc) (i sn : Nat) (refOk late : Bool) : Mc :=
  let m := m.updMotor i fun x => { x with iqd := (m.loop i).out }
  let m := m.readAux i
  if (m.motor i).bridge != .run || m.env.motorMode i != 1 then m
  else
    let n := sn * m.env.speedHz / 1000000
    if !refOk || !m.auxOk i n || late then m.miss i
    else
    let l := (m.loop i).sample m.env i n (m.loopIn i sn)
    let m := m.updLoop i fun _ => l
    let x := m.motor i
    m.post ((6 + i) * 0x100 + 1)
      [l.n, satWord l.out, l.statWord &&& 0x1FF, satWord x.vel, satWord x.fbpos, satWord x.meanIq, satWord x.vdc,
       if m.env.isDoor i then satWord (m.door i).fobs else 0]

/-- The boundary at or before the present time with the speed-loop period. -/
def State.speedTime (s : State) : Nat := s.dev / (1000000 / s.speedHz) * (1000000 / s.speedHz)

/-- The fusion-cycle boundary of the present time is a sample boundary of LE4 to LE7: its number is a multiple of RATEDIV, 0
being taken as 1 (R299, R326). -/
def Mc.freeDue (m : Mc) (e : Nat) : Bool :=
  m.env.dev / m.env.cycleUs % max 1 (getBits ((m.loop e).copy .LECTL [e]) 21 16) == 0

/-- A sample of LE(4 + k): one input item, read with STALL (R299, R302). -/
def Mc.freeSample (m : Mc) (e : Nat) (late : Bool) : Mc :=
  let m := m.takeCopies e
  let r := m.qf.takeItem (0x0530 + 2 * (e - 4))
  let m := { m with qf := r.2 }
  match r.1 with
  | none => m.miss e
  | some it =>
    let n := (m.loop e).n.toNat + 1
    if (it.poison && (m.loop e).usesAux m.env e n) || late then m.miss e
    else
      let x : LoopIn :=
        { vel := 0, fbpos := 0, iq := 0, fobs := 0, ekin := 0, vadm := 0, flim := 0, ohm := 0, vdc := 0, rvel := 0, rpos := 0,
          racc := 0, aux := it.words }
      let l := (m.loop e).sample m.env e n x
      let m := m.updLoop e fun _ => l
      m.post (0x0531 + 2 * (e - 4)) [l.n, satWord l.out, l.statWord &&& 0x1FF, 0]

/-- LOOP_SAMPLE of engine `e`; `late` when the arithmetic has not ended by the deadline (R299, R303, R313). In stepper mode LEm
does not evaluate, and the reference stays for the current samples (R318). -/
def Mc.loopSample (m : Mc) (e : Nat) (late : Bool) : Mc :=
  if e < 4 then
    if m.env.motorMode e = 2 then m.takeCopies e
    else
    let sn := m.env.speedTime
    let r := (m.takeCopies e).readRef e sn
    r.2.motorSample e sn r.1 late
  else if m.freeDue e then m.freeSample e late
  else m

/-- Loop engine `e` is instantiated and its island runs. -/
def State.loopRuns (s : State) (e : Nat) : Bool :=
  if e < 4 then s.motorMode e != 0 && s.runs (motorIsland e) else (s.tile 4 e).isSome && s.runs .mpi

/-- LOOP_SAMPLE (R303). -/
def execLoopSample (e : Fin 8) (late : Bool) (s : State) : Host.Outcome State Fault Refusal :=
  .next (s.runMc (s.loopRuns e.val) fun m => m.loopSample e.val late)

/-! ### The bridge (R315, R316, R319) -/

/-- Entry to RUN: integrators, iq demand and the door's filter start afresh (R316, R303, R306, R338). -/
def Mc.enterRun (m : Mc) (i : Nat) : Mc :=
  let v := (m.motor i).vel
  let m := m.updMotor i fun x => { x with bridge := .run, jd := 0, jq := 0, iqd := 0 }
  let m := m.updLoop i fun l =>
    { l with out := 0, dirDown := false, fresh := true,
             slots := (List.range 6).foldl (fun t j => t.modify Slot.reset j fun x => { x with i := 0 }) l.slots }
  if m.env.isDoor i then m.updDoor i fun d => { d with acc := 0, velp := v } else m

/-- The gates go low in IDLE or FAULT; LEm's output reads 0 (R316). -/
def Mc.stopBridge (m : Mc) (i : Nat) (b : BridgeState) : Mc :=
  let m := m.updMotor i fun x => { x with bridge := b, gates := .low, iqd := 0 }
  m.updLoop i fun l => { l with out := 0 }

/-- The bridge reaches IDLE; a deferred calibration runs (R315, R324). -/
def Mc.toIdle (m : Mc) (i : Nat) : Mc :=
  (m.stopBridge i .idle).updMotor i fun x => { x with calst := if x.calst = 2 then 1 else x.calst }

/-- IDLE is left when ENABLE is 1 and no calibration runs (R315, R324). -/
def Mc.tryStart (m : Mc) (i : Nat) : Mc :=
  let x := m.motor i
  if x.bridge != .idle || getBits (m.regs.get Reg.MC_CTL.resetWord (Reg.MC_CTL.addr [i])) 0 0 == 0 || x.calst == 1 || x.calst == 2
  then m
  else if m.env.motorMode i = 2 || x.aligned then m.enterRun i
  else m.updMotor i fun x => { x with bridge := .align, jd := 0, jq := 0 }

/-- FAULT with a cause: 1 OC, 2 GDUV, 3 EXTF, 4 ADCF (R319, R333). -/
def Mc.bridgeFault (m : Mc) (i cause : Nat) (val : Int) : Mc :=
  let was := m.motor i
  let m := (m.stopBridge i .fault).updMotor i fun x =>
    { x with oc := x.oc || cause == 1, gduv := x.gduv || cause == 2, extf := x.extf || cause == 3, adcf := x.adcf || cause == 4 }
  if was.bridge == .fault && m.motor i == was then m
  else m.note i 0x02 (leBytes 1 cause ++ wordBytes (satWord val))

/-- VDC below VDCMIN in RUN or ALIGN: IDLE with DCLOW (R315, R325). -/
def Mc.dcLow (m : Mc) (i : Nat) : Mc :=
  let was := (m.motor i).dclow
  let m := (m.toIdle i).updMotor i fun x => { x with dclow := true }
  if was then m else m.note i 0x07 (wordBytes (satWord (m.motor i).vdc))

/-! ### The current sample (R317, R318, R320, R322) -/

/-- π/2 in units of 2^-64. -/
def halfPi : Int := 28976077832308491370

/-- Terms `k` and on of the sine series at `x`, from the term `t`; all in units of 2^-64. -/
def sinSeries (x : Int) : Nat → Nat → Int → Int
  | 0, _, _ => 0
  | n + 1, k, t => t + sinSeries x n (k + 2) (-(t * x * x) / (2 ^ 128 * ((k + 1) * (k + 2))))

/-- rn(32 767 × sin(π/2 × r ÷ 1024)) for r ≤ 1024. -/
def quarterSin (r : Nat) : Int :=
  let x := halfPi * r / 1024
  rnDiv (32767 * sinSeries x 14 1 x) (2 ^ 64)

/-- SINTAB (R317). -/
def sinTab (i : Nat) : Int :=
  let r := i % 1024
  match i / 1024 % 4 with
  | 0 => quarterSin r
  | 1 => quarterSin (1024 - r)
  | 2 => -quarterSin r
  | _ => -quarterSin (1024 - r)

/-- SIN of an angle in 2^-16 revolutions (R317). -/
def sin16 (x : Int) : Int := sinTab ((x % 65536).toNat / 16)

/-- The quadrature count of motor engine `i`'s pad set ANGENC. -/
def Mc.encCount (m : Mc) (i : Nat) : Word := (m.env.fusion.quads.get Quad.reset (m.env.MC_CFG_ANGENC i)).count

/-- FBSCALE of motor engine `i`. -/
def State.fbScale (s : State) (i : Nat) : Int := sInt (s.reg .MC_FBSCALE [i])

/-- ⌊count × FBSCALE ÷ 2^16⌋ (R320). -/
def Mc.countPos (m : Mc) (i : Nat) : Int := downDiv (sInt (m.encCount i) * m.env.fbScale i) s16

/-- The mechanical angle of step 2 of R317 before ANGOFS. -/
def Mc.encAngle (m : Mc) (i : Nat) : Int :=
  let epr : Int := max 1 (m.env.MC_EPR i)
  downDiv (sInt (m.encCount i) % epr * 65536) epr

/-- The conversions of one carrier centre: currents, VDC, TWOHM and the feedback position (R320, R321, R322). -/
def Mc.convert (m : Mc) (i : Nat) (shunts : List (BitVec 14)) (vdc : BitVec 14) (ohm : Option (BitVec 14)) : Mc :=
  let s := m.env
  let fb := m.countPos i
  m.updMotor i fun x =>
    let cur := (List.range 4).foldl (fun t j =>
      t.set 0 j (sat32 (rnDiv (((shunts.getD j 0).toInt - x.iofs.get 0 j) * sInt (s.reg .MC_ISCALE [i, j])) s16))) x.icur
    { x with icur := cur, vdc := sat32 (rnDiv (vdc.toNat * sInt (s.reg .MC_VSCALE [i])) s16),
             twohm := match ohm with
               | some r => r.setWidth 32
               | none => x.twohm,
             fbpos := sat32 (x.fborg + fb) }

/-- The currents checked against OCLIM: the three legs, or the two windings (R318, R319). -/
def Mc.checked (m : Mc) (i : Nat) : List Int :=
  let x := m.motor i
  let c (j : Nat) : Int := x.icur.get 0 j
  if m.env.motorMode i = 2 then [rnDiv (c 0 - c 1) 2, rnDiv (c 2 - c 3) 2] else [c 0, c 1, c 2]

/-- Step 4 of R317: θ, id and iq. -/
def Mc.measure (m : Mc) (i : Nat) : Mc :=
  let x := m.motor i
  let th : Int := if x.bridge == .align then 0 else (x.angofs.toNat + m.encAngle i) % 65536
  let si := sin16 th
  let co := sin16 (th + 16384)
  let c (j : Nat) : Int := x.icur.get 0 j
  let ia := c 0
  let ib := rnDiv ((c 1 - c 2) * 18919) (2 ^ 15)
  let id := sat32 (rnDiv (ia * co + ib * si) (2 ^ 15))
  let iq := sat32 (rnDiv (ib * co - ia * si) (2 ^ 15))
  m.updMotor i fun x =>
    { x with theta := BitVec.ofInt 16 th, idm := id, iqm := iq, iqs := (iq :: x.iqs).take 4 }

/-- Steps 5 to 10 of R317 in RUN or ALIGN. -/
def Mc.fieldDrive (m : Mc) (i : Nat) : Mc :=
  let s := m.env
  let x := m.motor i
  let align := x.bridge == .align
  let kpc := sInt (s.reg .MC_KPC [i])
  let kic := s.scaleKi (sInt (s.reg .MC_KIC [i]))
  let imax : Int := s.MC_IMAX i
  let eD := (if align then (s.MC_ALIGNI i : Int) else sInt (s.reg .MC_IDREF [i])) - x.idm
  let eQ := (if align then 0 else clampInt (-imax) imax x.iqd) - x.iqm
  let jd := sat64 (x.jd + kic * eD)
  let jq := sat64 (x.jq + kic * eQ)
  let pd := rnDiv (kpc * eD) s16
  let pq := rnDiv (kpc * eQ) s16
  let vd := pd + rnDiv jd s16
  let vq := pq + rnDiv jq s16
  let vmax := rnDiv (x.vdc * 18919 * s.MC_MODMAX i) (2 ^ 15 * 1000)
  let vd' := clampInt (-vmax) vmax vd
  let lq : Int := isqrt (vmax * vmax - vd' * vd').toNat
  let vq' := clampInt (-lq) lq vq
  let jd := if vd' ≠ vd then sat64 ((vd' - pd) * s16) else jd
  let jq := if vq' ≠ vq then sat64 ((vq' - pq) * s16) else jq
  let si := sin16 x.theta.toNat
  let co := sin16 (x.theta.toNat + 16384)
  let va := rnDiv (vd' * co - vq' * si) (2 ^ 15)
  let vβ := rnDiv (vd' * si + vq' * co) (2 ^ 15)
  let vb := rnDiv (-32768 * va + 56756 * vβ) (2 ^ 16)
  let vc := -va - vb
  let off := -(downDiv (max va (max vb vc) + min va (min vb vc)) 2)
  let duty (v : Int) : Int := clampInt 0 32767 (16384 + rnDiv ((v + off) * 2 ^ 15) x.vdc)
  m.updMotor i fun x =>
    { x with jd := jd, jq := jq, vd := vd', vq := vq', gates := .duty (duty va) (duty vb) (duty vc) 0 }

/-- Take the staged reference items up to the one for boundary `k`; an item with a POISON word is discarded unread (R206, R302,
R318). -/
def Qf.takeRefs (x : Qf) (port : Nat) (k : Word) : Nat → List Item × Qf
  | 0 => ([], x)
  | n + 1 =>
    let x := x.stagePort port
    match x.fabric.stage port with
    | [] => ([], x)
    | it :: _ =>
      if it.words.any (·.2) then (x.takeItem port).2.takeRefs port k n
      else if sDiff ((it.words.headD (0, false)).1) k ≤ 0 then
        let r := x.takeItem port
        let q := r.2.takeRefs port k n
        (r.1.toList ++ q.1, q.2)
      else ([], x)

/-- The reference items of a stepper engine: its newest two positions whose boundaries have come, ISCALE and the newest
item's boundary (R318). -/
def Mc.stepRefs (m : Mc) (i : Nat) : Mc :=
  let cyc := m.env.cycleUs
  let k := m.env.dev / cyc
  let r := m.qf.takeRefs ((6 + i) * 0x100) (lowWord k) 64
  let m := { m with qf := r.2 }
  r.1.foldl (fun m it =>
    if it.poison then m
    else
      let q := refItem it.words
      let tb : Int := cyc * (k + sDiff q.k (lowWord k))
      m.updMotor i fun x =>
        { x with up := x.un, un := sInt q.pos, iscale := getBits q.flags 25 16, refAt := tb.toNat }) m

/-- The current sample of stepper mode (R318). -/
def Mc.stepDrive (m : Mc) (i : Nat) : Mc :=
  let s := m.env
  let x := m.motor i
  let mstep := match (List.range 8).find? fun p => match s.image with
      | some im => im.routes.any fun r => r.producer.toNat == 0x0518 + p && r.consumer.toNat == (6 + i) * 0x100
      | none => false with
    | some p => min 8 (s.MPI_PLSTEP_MSTEP p)
    | none => 8
  let now : Int := (2 * s.dev * s.currentHz + 1000000) / 2000000
  let at_ : Int := x.refAt * s.currentHz / 1000000
  let q : Int := 2 ^ (8 - mstep)
  let n := (x.un - x.up) * (now - at_)
  let u := if 0 ≤ n then x.up + n / 8 / q * q else x.up - (-n) / 8 / q * q
  let th := u * 64
  let amp := rnDiv (s.MC_IRUN i * x.iscale) 1000
  let i1 := rnDiv (amp * sin16 (th + 16384)) (2 ^ 15)
  let i2 := rnDiv (amp * sin16 th) (2 ^ 15)
  let c (j : Nat) : Int := x.icur.get 0 j
  let kpc := sInt (s.reg .MC_KPC [i])
  let kic := s.scaleKi (sInt (s.reg .MC_KIC [i]))
  let e1 := i1 - rnDiv (c 0 - c 1) 2
  let e2 := i2 - rnDiv (c 2 - c 3) 2
  let j1 := sat64 (x.jd + kic * e1)
  let j2 := sat64 (x.jq + kic * e2)
  let vm := rnDiv (x.vdc * s.MC_MODMAX i) 1000
  let v1 := clampInt (-vm) vm (rnDiv (kpc * e1) s16 + rnDiv j1 s16)
  let v2 := clampInt (-vm) vm (rnDiv (kpc * e2) s16 + rnDiv j2 s16)
  let h (v : Int) : Int := rnDiv (v * 2 ^ 14) x.vdc
  m.updMotor i fun x =>
    { x with jd := j1, jq := j2, theta := BitVec.ofInt 16 th,
             gates := .duty (16384 + h v1) (16384 - h v1) (16384 + h v2) (16384 - h v2) }

/-- The iq demand of a current sample: the output of the last LEm sample, from the speed boundary after it (R320). -/
def Mc.takeDemand (m : Mc) (i : Nat) : Mc :=
  let l := m.loop i
  if l.n = lowWord (m.env.speedTime * m.env.speedHz / 1000000) then m else m.updMotor i fun x => { x with iqd := l.out }

/-- CURRENT_SAMPLE of motor engine `i`. -/
def Mc.currentSample (m : Mc) (i : Nat) (shunts : List (BitVec 14)) (vdc : BitVec 14) (ohm : Option (BitVec 14)) : Mc :=
  let m := ((m.takeDemand i).convert i shunts vdc ohm).tryStart i
  let stepper := m.env.motorMode i == 2
  let m := if stepper then m.stepRefs i else m.measure i
  let oc := (m.checked i).find? fun c => decide ((m.env.MC_OCLIM i : Int) < absInt c)
  let m := m.updMotor i fun x => { x with ocNow := oc.isSome }
  let b := (m.motor i).bridge
  match oc with
  | some c => m.bridgeFault i 1 c
  | none =>
    if b == .run || b == .align then
      if (m.motor i).vdc < m.env.MC_VDCMIN i then m.dcLow i
      else if stepper then m.stepDrive i
      else m.fieldDrive i
    else m

/-- Motor engine `i` is instantiated and its island runs. -/
def State.motorRuns (s : State) (i : Nat) : Bool := s.motorMode i != 0 && s.runs (motorIsland i)

/-- CURRENT_SAMPLE (R317, R318). -/
def execCurrentSample (m : Fin 4) (shunts : List (BitVec 14)) (vdc : BitVec 14) (ohm : Option (BitVec 14)) (s : State) :
    Host.Outcome State Fault Refusal :=
  .next (s.runMc (s.motorRuns m.val) fun x => x.currentSample m.val shunts vdc ohm)

/-- BRIDGE_GDUV: VGDm has read `mv` for 5 µs; at or above 10.5 V the cause is no longer present (R319). -/
def execBridgeGduv (m : Fin 4) (mv : Word) (s : State) : Host.Outcome State Fault Refusal :=
  .next (s.runMc (s.motorRuns m.val) fun x =>
    let low := decide (mv.toNat < 10500)
    let x := x.updMotor m.val fun a => { a with gduvNow := low }
    if low then x.bridgeFault m.val 2 mv.toNat else x)

/-- BRIDGE_EXTF: BRFLT_N has been low (or high) for 1 µs (R319), where the image uses the pad (R49). -/
def execBridgeExtf (m : Fin 4) (low : Bool) (s : State) : Host.Outcome State Fault Refusal :=
  .next (s.runMc (s.motorRuns m.val && s.padUsed (380 + 26 * m.val)) fun x =>
    let x := x.updMotor m.val fun a => { a with extfNow := low }
    if low then x.bridgeFault m.val 3 0 else x)

/-- ALIGN ends: ANGOFS makes the angle 0 at the present count, and the bridge enters RUN (R315, R317). -/
def Mc.alignDone (m : Mc) (i : Nat) : Mc :=
  if (m.motor i).bridge != .align then m
  else
    let a := BitVec.ofInt 16 (-(m.encAngle i))
    let m := m.updMotor i fun x => { x with angofs := a, aligned := true }
    (m.note i 0x03 (leBytes 2 a.toNat)).enterRun i

/-- ALIGN_DONE (R315). -/
def execAlignDone (m : Fin 4) (s : State) : Host.Outcome State Fault Refusal :=
  .next (s.runMc (s.motorRuns m.val) fun x => x.alignDone m.val)

/-! ### Commands of MCm_CTL (R315, R324, R331) -/

/-- A fault cause is still present (R315). -/
def Motor.causePresent (x : Motor) : Bool := x.ocNow || x.gduvNow || x.extfNow

/-- CAL requests a calibration: it runs in IDLE, waits otherwise (R324). -/
def Mc.calRequest (m : Mc) (i : Nat) : Mc :=
  let x := m.motor i
  if x.calst = 1 || x.calst = 2 then m
  else if x.bridge == .idle then m.updMotor i fun x => { x with calst := 1 }
  else (m.updMotor i fun x => { x with calst := 2 }).note i 0x06

/-- CLRFLT with ENABLE 0 and no cause present returns FAULT to IDLE (R315). -/
def Mc.clearFault (m : Mc) (i : Nat) (enable : Bool) : Mc :=
  let x := m.motor i
  if x.bridge == .fault && !enable && !x.causePresent then m.toIdle i else m

/-- ENABLE takes the bridge out of ALIGN or RUN, or out of IDLE (R315). -/
def Mc.enable (m : Mc) (i : Nat) (on : Bool) : Mc :=
  let b := (m.motor i).bridge
  if on then m.tryStart i
  else if b == .align || b == .run then m.toIdle i
  else m

/-- A write of MCm_CTL (R331); CAL acts before ENABLE (R325). -/
def State.writeMcCtl (s : State) (i : Nat) (w : Word) : State :=
  let s := s.setReg .MC_CTL [i] (w &&& 1)
  s.runMc (s.motorMode i != 0) fun m =>
    let on := w.getLsbD 0
    let m := if w.getLsbD 2 then m.clearFault i on else m
    let m := if w.getLsbD 1 then m.calRequest i else m
    m.enable i on

/-- ENABLE_WRITE: a write of MCm_CTL (R315). -/
def execEnableWrite (m : Fin 4) (w : Word) (s : State) : Host.Outcome State Fault Refusal := .next (s.writeMcCtl m.val w)

/-- CAL: a CAL write of MCm_CTL (R324). -/
def execCalStart (m : Fin 4) (w : Word) (s : State) : Host.Outcome State Fault Refusal := .next (s.writeMcCtl m.val (w ||| 2))

/-- MC_CLRFLT: a CLRFLT write of MCm_CTL (R315). -/
def execMcClrflt (m : Fin 4) (w : Word) (s : State) : Host.Outcome State Fault Refusal := .next (s.writeMcCtl m.val (w ||| 4))

/-- A calibration ends with the sums of its 256 conversions per channel (R324). The start's calibration that fails is run once more
(R131); ADCF and FAULT then come with the second failure only, the model's choice (log entry 20). -/
def Mc.calDone (m : Mc) (i : Nat) (sums : List Int) : Mc :=
  if (m.motor i).calst != 1 then m
  else
    let means := (List.range 4).map fun j => rnDiv (sums.getD j 0) 256
    let first := (m.motor i).startCal == 1
    let m := m.updMotor i fun x => { x with
      calst := 3, iofs := means.zipIdx.foldl (fun t e => t.set 0 e.2 e.1) x.iofs }
    match means.zipIdx.find? fun e => decide (400 < absInt e.1) with
    | some (mean, ch) =>
      let m := m.note i 0x05 (leBytes 1 ch ++ leBytes 2 (BitVec.ofInt 16 mean).toNat)
      if first then m.updMotor i fun x => { x with calst := 1, startCal := 2 }
      else (m.updMotor i fun x => { x with startCal := if x.startCal = 2 then 3 else x.startCal }).bridgeFault i 4 0
    | none =>
      let m := m.updMotor i fun x => { x with startCal := if first then 0 else x.startCal }
      (m.note i 0x04 (means.flatMap fun v => leBytes 2 (BitVec.ofInt 16 v).toNat)).tryStart i

/-- CAL_COMPLETE (R324). -/
def execCalComplete (m : Fin 4) (sums : List Int) (s : State) : Host.Outcome State Fault Refusal :=
  .next (s.runMc (s.motorRuns m.val) fun x => x.calDone m.val sums)

/-- A write of MCm_STAT: the cause bits and DCLOW are W1C (R331). -/
def State.writeMcStat (s : State) (i : Nat) (w : Word) : State :=
  s.runMc true fun m => m.updMotor i fun x =>
    { x with oc := x.oc && !w.getLsbD 8, gduv := x.gduv && !w.getLsbD 9, extf := x.extf && !w.getLsbD 10,
             dclow := x.dclow && !w.getLsbD 11, adcf := x.adcf && !w.getLsbD 12 }

/-! ### Commands of the loop engines (R312, R314, R328) -/

/-- A write of LECMD (R328). -/
def State.writeLecmd (s : State) (e : Nat) (w : Word) : State :=
  s.runMc true fun m => m.updLoop e fun l =>
    { l with resetI := l.resetI || w.getLsbD 1, missCount := if w.getLsbD 0 then 0 else l.missCount }

/-- RESETI (R328). -/
def execReseti (e : Fin 8) (w : Word) (s : State) : Host.Outcome State Fault Refusal := .next (s.writeLecmd e.val (w ||| 2))

/-- LOOP_CLRCNT (R328). -/
def execLoopClrcnt (e : Fin 8) (w : Word) (s : State) : Host.Outcome State Fault Refusal :=
  .next (s.writeLecmd e.val (w ||| 1))

/-- A write of LESTAT: MISS and LOOPFLT are W1C; LOOPFLT stays while RUN ≥ MISSRUN (R314, R327). -/
def State.writeLestat (s : State) (e : Nat) (w : Word) : State :=
  s.runMc true fun m => m.updLoop e fun l =>
    { l with miss := l.miss && !w.getLsbD 8,
             fault := l.fault && !(w.getLsbD 16 && decide (l.run.toNat < max 1 (getBits (l.copy .LECTL [e]) 15 12))) }

/-- HOLD takes effect: the working copies freeze at once, and follow at the next boundary after HOLD 0 (R312). -/
def State.writeLehold (s : State) (e : Nat) (w : Word) : State :=
  let s := s.setReg .LEHOLD [e] (w &&& 1)
  if w.getLsbD 0 then s.runMc true fun m => m.updLoop e fun l => { l with held := true } else s

/-- A write of MCm_FBSET (R320). -/
def State.writeFbset (s : State) (i : Nat) (w : Word) : State :=
  s.runMc true fun m => m.updMotor i fun x => { x with fborg := sInt w - m.countPos i }

/-- FBSET (R320). -/
def execFbset (m : Fin 4) (w : Word) (s : State) : Host.Outcome State Fault Refusal := .next (s.writeFbset m.val w)

/-- BATTERY_ITEM_TICK: where its port is routed, MCm posts VDC and ICUR3 (R323). -/
def execBatteryItemTick (m : Fin 4) (s : State) : Host.Outcome State Fault Refusal :=
  .next (s.runMc (s.motorRuns m.val) fun x =>
    let a := x.motor m.val
    x.post ((6 + m.val) * 0x100 + 0x0A) [satWord a.vdc, satWord (a.icur.get 0 3)])

/-! ### The speed boundary (R320) -/

/-- VEL and FBPOS at a speed boundary. -/
def Mc.speedUpdate (m : Mc) (i : Nat) : Mc :=
  let s := m.env
  let c := m.encCount i
  let fb := m.countPos i
  m.updMotor i fun x =>
    let vr := rnDiv (sDiff c x.speedCount * s.fbScale i * 10 * s.speedHz) (2 ^ 16)
    { x with vel := sat32 (x.vel + rnDiv (vr - x.vel) (2 ^ s.MC_VFILT i)), speedCount := c, fbpos := sat32 (x.fborg + fb) }

/-- A motor engine at island start: registers' working copies, encoder counts taken, everything else at reset (R312,
R325). -/
def Mc.startMotor (m : Mc) (i : Nat) : Mc :=
  let c := m.encCount i
  let m := { m with motors := m.motors.set Motor.reset i { Motor.reset with speedCount := c, fbpos := sat32 (m.countPos i) } }
  { m with loops := m.loops.set Loop.reset i { Loop.reset with copies := loopRegs m.env.regs i, held := m.env.LEHOLD_HOLD i == 1 } }

/-- A free loop engine at island start (R312). -/
def Mc.startFree (m : Mc) (e : Nat) : Mc :=
  { m with loops := m.loops.set Loop.reset e { Loop.reset with copies := loopRegs m.env.regs e, held := m.env.LEHOLD_HOLD e == 1 } }

end Sys2Proof.Machine
end

