-- ==== Sys2Proof/Machine/Door.lean ====
section
/-! DEFINITION. The door function of a motor engine (chapter 10): measurements and governors, door inputs, the door cycle
with its commands and events, obstruction and reversal, nudging, sessions, homing and the learn run. -/

namespace Sys2Proof.Machine

/-! ### Inputs of the door function -/

/-- Source code `c` of MCm_DINMAP names a level (R368). -/
def mappedCode (c : Nat) : Bool := decide (c < 0x18) || (decide (0x20 ≤ c) && decide (c < 0x30))

/-- CLOSELIM is mapped (R349, R361). -/
def Door.hasCloseLim (d : Door) : Bool := mappedCode (getBits d.map 17 12)

/-- COUPLED is mapped (R342). -/
def Door.hasCoupled (d : Door) : Bool := mappedCode (getBits d.map 23 18)

/-- SESSREQ of motor engine `i`. -/
def State.sessReq (s : State) (i : Nat) : Bool := s.MC_DSTATION_SESSREQ i == 1

/-- The door may open fully: PERMIT, and SESSION where it is required (R346, R353). -/
def Mc.mayOpen (m : Mc) (i : Nat) : Bool := (m.door i).permit && ((m.door i).session || !m.env.sessReq i)

/-- The bridge is in RUN. -/
def Mc.running (m : Mc) (i : Nat) : Bool := (m.motor i).bridge == .run

/-- TRAVEL, MLEARN and FRICL as they stand (R369). -/
def Mc.travel (m : Mc) (i : Nat) : Int := sInt (m.regs.get 0 (Reg.MC_DTRAVEL.addr [i]))
def Mc.mlearn (m : Mc) (i : Nat) : Int := (m.regs.get 0 (Reg.MC_DMLEARN.addr [i])).toNat
def Mc.fricl (m : Mc) (i : Nat) : Int := sInt (m.regs.get 0 (Reg.MC_DFRICL.addr [i]))

/-- The CRC of R364 over the three learned words. -/
def Mc.learnCrc (m : Mc) (i : Nat) : Word :=
  crc32 (wordBytes (m.regs.get 0 (Reg.MC_DTRAVEL.addr [i])) ++ wordBytes (m.regs.get 0 (Reg.MC_DMLEARN.addr [i])) ++
    wordBytes (m.regs.get 0 (Reg.MC_DFRICL.addr [i])))

/-- LEARNED follows DLCRC (R364). -/
def Mc.checkLearned (m : Mc) (i : Nat) : Mc :=
  let ok := m.learnCrc i == m.regs.get 0 (Reg.MC_DLCRC.addr [i])
  m.updDoor i fun d => { d with learned := ok }

/-! ### Measurements and governors (R338, R339) -/

/-- MUSE: the heaviest mass while homing or learning or without a learned mass (R338). -/
def Mc.massUsed (m : Mc) (i : Nat) (heavy : Bool) : Int :=
  let s := m.env
  if heavy || !(m.door i).learned then s.MC_DMASSMAX i
  else max (s.MC_DMASSMIN i : Int) (rnDiv (m.mlearn i * (1000 + s.MC_DMMARGIN i)) 1000)

/-- The kinetic-energy limit of a move (R338). -/
def State.energyLimit (s : State) (i : Nat) (nudging opening : Bool) : Int :=
  if nudging then s.MC_DELIMN i else if opening then s.MC_DELIMO i else s.MC_DELIM i

/-- VADM for an energy limit and a mass (R338). -/
def admissible (elim mass : Int) : Int := isqrt (downDiv (2 * 10 ^ 12 * elim) mass).toNat

/-- The door runs a home or learn run. -/
def Door.runs (d : Door) : Bool := d.stat == .homing || d.stat == .learning

/-- FLIMNOW (R338). -/
def Mc.forceLimit (m : Mc) (i : Nat) (vr : Int) : Int :=
  let s := m.env
  let d := m.door i
  if d.stat == .reversing && decide (vr ≤ 0) then 0
  else if d.runs then s.MC_DHOMEF i
  else if 0 < vr then s.MC_DFLIMO i
  else s.MC_DFLIM i

/-- The viscous friction rn(FRICV × VEL ÷ 10^6) (R338, R363). -/
def Mc.viscous (m : Mc) (i : Nat) : Int := rnDiv (m.env.MC_DFRICV i * (m.motor i).vel) (10 ^ 6)

/-- The motor force Fm (R338). -/
def Mc.motorForce (m : Mc) (i : Nat) : Int := rnDiv ((m.motor i).meanIq * sInt (m.env.reg .MC_DKF [i])) s16

/-- R338 for one speed sample with reference velocity `vr`. -/
def Mc.measureDoor (m : Mc) (i : Nat) (vr : Int) : Mc :=
  let s := m.env
  let d := m.door i
  let vel := (m.motor i).vel
  let araw := rnDiv ((vel - d.velp) * s.speedHz) 100
  let acc := sat32 (d.acc + rnDiv (araw - d.acc) (2 ^ s.MC_DAFILT i))
  let fr := m.fricl i * sgn vel + m.viscous i
  let fobs := sat32 (m.motorForce i - fr - rnDiv (m.mlearn i * acc) (10 ^ 5))
  let muse := m.massUsed i d.runs
  let ekin := sat32 (rnDiv (muse * (vel * vel)) (2 * 10 ^ 12))
  let vadm := admissible (s.energyLimit i (d.stat == .nudging) (decide (0 < vr))) muse
  let flim := m.forceLimit i vr
  m.updDoor i fun d =>
    { d with acc := acc, velp := vel, fobs := fobs, muse := muse, ekin := ekin, vadm := vadm, flimNow := flim }

/-! ### Events and moves -/

/-- ID of a move the door function starts on its own (R348). -/
def ownId : Word := 0xFFFFFFFD

/-- Post one door event (R348). -/
def Mc.doorEvent (m : Mc) (i : Nat) (job : DoorJob) (ev detail : Nat) : Mc :=
  let d := m.door i
  let w0 := BitVec.ofNat 32 (job.tag.toNat + ev * 2 ^ 8 + doorCode d.stat * 2 ^ 16 + detail * 2 ^ 20)
  let m := m.updDoor i fun d => { d with lastEv := BitVec.ofNat 8 ev, detail := BitVec.ofNat 8 detail }
  m.post ((6 + i) * 0x100 + 9) [w0, job.id, satWord (m.motor i).fbpos, lowWord m.env.dev]

/-- The command an event that answers none belongs to: the latest accepted one, or the door's own. -/
def Door.owner (d : Door) : DoorJob := d.jobs.getLast?.getD { tag := 0, id := ownId }

/-- The ending event goes to every accepted command still open (R347). -/
def Mc.endJobs (m : Mc) (i ev detail : Nat) : Mc :=
  let js := (m.door i).jobs
  let m := m.updDoor i fun d => { d with jobs := [], stopping := none, completed := false }
  match js with
  | [] => m.doorEvent i { tag := 0, id := ownId } ev detail
  | _ => js.foldl (fun m j => m.doorEvent i j ev detail) m

/-- The door enters a state and its commands end. -/
def Mc.endIn (m : Mc) (i : Nat) (st : DoorState) (ev detail : Nat) : Mc :=
  (m.updDoor i fun d => { d with stat := st }).endJobs i ev detail

/-- Post a command to the door's planner (R260, R335). -/
def Mc.plan (m : Mc) (i : Nat) (job : DoorJob) (kind : Nat) (quick blend : Bool) (arg : Int) (vmax amax dmax : Int) (id : Word) :
    Mc :=
  m.post ((6 + i) * 0x100 + 4)
    [BitVec.ofNat 32 (job.tag.toNat + kind * 2 ^ 8 + bit blend * 2 ^ 12 + bit quick * 2 ^ 14), satWord arg, satWord vmax,
     satWord amax, satWord dmax, 0, id, 0]

/-- ABORT of the running move (R346, R350). -/
def Mc.abortMoves (m : Mc) (i : Nat) (job : DoorJob) (quick : Bool) : Mc := m.plan i job 6 quick false 0 0 0 0 0xFFFFFFFF

/-- The VMAX override of a move at `speed` (R339). -/
def Mc.moveVmax (m : Mc) (i : Nat) (speed : Nat) (nudging opening heavy : Bool) : Int :=
  min speed (admissible (m.env.energyLimit i nudging opening) (m.massUsed i heavy))

/-- The move in the planner is replaced: its end will be none of the door's business. The sample counts of R340, R351 and R354
run on, since they follow the state and not the move. -/
def Door.replace (d : Door) (g : DoorGoal) : Door :=
  { d with goal := g, oldMoves := d.oldMoves + bit (d.goal != .none), completed := false, stopping := none }

/-- POSITION to TRAVEL. -/
def Mc.openMove (m : Mc) (i : Nat) (job : DoorJob) (blend : Bool) : Mc :=
  let v := m.moveVmax i (m.env.MC_DOPENV i) false true false
  (m.plan i job 1 false blend (m.travel i) v 0 0 job.id).updDoor i fun d => d.replace .travel

/-- POSITION to 0 for CLOSE or NUDGE. -/
def Mc.closeMove (m : Mc) (i : Nat) (job : DoorJob) (nudging : Bool) : Mc :=
  let v := m.moveVmax i (if nudging then m.env.MC_DNUDGEV i else m.env.MC_DCLOSEV i) nudging false false
  (m.plan i job 1 false false 0 v 0 0 job.id).updDoor i fun d => d.replace .close

/-- A quick stop (R350); the door enters STOPPED now, and its commands end once the planner reports the stop (R366). -/
def Mc.quickStop (m : Mc) (i ev detail : Nat) : Mc :=
  let m := m.abortMoves i (m.door i).owner true
  let waits := (m.door i).goal != .none
  let m := m.updDoor i fun d =>
    { d with stat := .stopped, stopping := some (BitVec.ofNat 8 ev, BitVec.ofNat 8 detail), completed := false }
  if waits then m else m.endJobs i ev detail

/-- A home run ends without success (R350, R360, R361). -/
def Mc.failHome (m : Mc) (i detail : Nat) : Mc :=
  (m.updDoor i fun d => { d.replace .none with homed := false }).endIn i .unhomed 0x09 detail

/-- The record of a home run that ends BLOCKED or TIMEOUT, the two failures of R360 and R361 (R370). -/
def Mc.noteHomeFailed (m : Mc) (i detail : Nat) : Mc := m.note i 0x25 [0x09, BitVec.ofNat 8 detail]

/-- The record of a learn run's end (R370). -/
def Mc.noteLearn (m : Mc) (i ev detail : Nat) (mass : Int) : Mc :=
  m.note i 0x26 ([BitVec.ofNat 8 ev, BitVec.ofNat 8 detail] ++ wordBytes (satWordU mass) ++
    leBytes 3 (toWord (m.door i).sums.tm).toNat)

/-- The conditions of CLOSED (R349). -/
def Mc.closedOk (m : Mc) (i : Nat) : Bool :=
  let d := m.door i
  decide ((m.motor i).fbpos ≤ m.env.MC_DCLOSETOL i) && (!d.hasCloseLim || d.closeLim || d.chatter)

/-- Where a learn run that ends otherwise leaves the door: in CLOSED if it is there, else in STOPPED (R364). -/
def Mc.learnRest (m : Mc) (i : Nat) : DoorState := if m.closedOk i then .closed else .stopped

/-- A learn run ends without success, in `st` (R364). -/
def Mc.failLearn (m : Mc) (i : Nat) (st : DoorState) (detail : Nat) (mass : Int) : Mc :=
  let m := m.updDoor i fun d => { d.replace .none with phase := 0 }
  (m.endIn i st 0x09 detail).noteLearn i 0x09 detail mass

/-- A quick stop of whatever moves: a home run fails in UNHOMED, a learn run fails in STOPPED, or after a lost bridge as R364
says, any other move ends STOPPED with the detail (R346, R350, R356, R357). -/
def Mc.halt (m : Mc) (i detail : Nat) : Mc :=
  match (m.door i).stat with
  | .homing => (m.abortMoves i (m.door i).owner true).failHome i detail
  | .learning => 
    (m.abortMoves i (m.door i).owner true).failLearn i (if detail = 0x1C then m.learnRest i else .stopped) detail 0
  | _ => m.quickStop i 0x03 detail

/-- A door in one of these states moves. -/
def DoorState.moves (st : DoorState) : Bool :=
  match st with
  | .opening | .closing | .reversing | .nudging | .homing | .learning => true
  | _ => false

/-! ### Door inputs (R341 to R343) -/

/-- PERMIT falls (R356). -/
def Mc.permitLost (m : Mc) (i : Nat) : Mc :=
  let st := (m.door i).stat
  let m := m.note i 0x24 [BitVec.ofNat 8 (doorCode st)]
  let m := if st == .opening || st == .learning then m.halt i 0x16 else m
  m.doorEvent i (m.door i).owner 0x0C 0x16

/-- A change of CLOSELIM's level: it waits 5 ms, and more than four within 100 ms are chatter (R343). -/
def Mc.closeLimChange (m : Mc) (i : Nat) (lvl : Bool) : Mc :=
  let d := m.door i
  if lvl == d.closePend.getD d.closeLim then m
  else
    let recent := m.env.dev :: d.changes.filter fun t => decide (m.env.dev < t + 100000)
    let many := decide (4 < recent.length)
    let m := m.updDoor i fun d =>
      { d with closePend := if lvl == d.closeLim then none else some lvl, changes := recent.take 8, burst := many,
               chatter := d.chatter || many, homeChatter := d.homeChatter || (many && d.stat == .homing) }
    if many && !d.burst then m.note i 0x27 [BitVec.ofNat 8 (doorCode d.stat)] else m

/-- Take the levels EDGE, CURTAIN, COUPLED and PERMIT. -/
def Mc.takeLevels (m : Mc) (i : Nat) (edge curtain coupled permit : Bool) : Mc :=
  let fell := (m.door i).permit && !permit
  let m := m.updDoor i fun d => { d with edge := edge, curtain := curtain, coupled := coupled, permit := permit }
  if fell then m.permitLost i else m

/-- A door input item (R341, R342, R366). -/
def Mc.doorInput (m : Mc) (i : Nat) (it : Item) : Mc :=
  let w := it.words.getD 0 0
  if it.poison || it.words.length != 2 || getBits w 4 0 + getBits w 20 16 != 31 || (getBits w 4 0 &&& getBits w 20 16) != 0
  then m
  else
    let map := (m.door i).map
    let m := m.updDoor i fun d => { d with stale := false }
    let m := m.closeLimChange i ((m.door i).hasCloseLim && w.getLsbD 2)
    m.takeLevels i (mappedCode (getBits map 5 0) && !w.getLsbD 0) (mappedCode (getBits map 11 6) && !w.getLsbD 1)
      (mappedCode (getBits map 23 18) && w.getLsbD 3) (mappedCode (getBits map 29 24) && w.getLsbD 4)

/-- No valid door input item for DINAGE ms: the safe values (R342). -/
def Mc.inputStale (m : Mc) (i : Nat) : Mc :=
  if (m.door i).stale then m
  else
    let m := m.updDoor i fun d => { d with stale := true, closeLim := false, closePend := none }
    (m.note i 0x2A [BitVec.ofNat 8 (doorCode (m.door i).stat)]).takeLevels i true true false false

/-- A session item staged at `at_` (R358). -/
def Mc.sessionItem (m : Mc) (i : Nat) (it : Item) (at_ : Nat) : Mc :=
  if it.poison || it.words.length != 2 then m
  else
    let w := it.words.getD 0 0
    m.updDoor i fun d =>
      { d with sessLive := w.getLsbD 0, sessStation := BitVec.ofNat 8 (getBits w 15 8), sessExpiry := it.words.getD 1 0,
               sessAt := some at_ }

/-- SESSION holds (R358). -/
def Mc.sessionNow (m : Mc) (i : Nat) : Bool :=
  let d := m.door i
  d.sessLive && d.sessStation.toNat == m.env.MC_DSTATION_STATION i && decide (0 < sDiff d.sessExpiry (lowWord m.env.dev)) &&
    (match d.sessAt with
      | some t => decide (m.env.dev ≤ t + 500000)
      | none => false)

/-- SESSION is evaluated; where it is required, its fall stops an opening door (R359). -/
def Mc.updateSession (m : Mc) (i : Nat) : Mc :=
  let now := m.sessionNow i
  let fell := (m.door i).session && !now && m.env.sessReq i
  let m := m.updDoor i fun d => { d with session := now }
  if fell && (m.door i).stat == .opening then m.halt i 0x17 else m

/-! ### Closing, homing and learning to their ends -/

/-- Samples in STALLMS ms. -/
def State.stallSamples (s : State) (i : Nat) : Nat := s.MC_DSTALLMS i * s.speedHz / 1000

/-- A stall over the last STALLMS ms (R360). -/
def Mc.stalled (m : Mc) (i : Nat) : Bool :=
  let w := (m.door i).stall
  let ps : List Int := w.map (·.2)
  let hi := ps.foldl max (ps.headD 0)
  let lo := ps.foldl min (ps.headD 0)
  decide (m.env.stallSamples i ≤ w.length) && w.all (fun x => decide (absInt x.1 ≤ m.env.MC_DSTALLV i)) &&
    decide (hi - lo ≤ m.env.MC_DSTALLPOS i)

/-- The window of R360 takes the present sample. -/
def Mc.stallSample (m : Mc) (i : Nat) : Mc :=
  let x := m.motor i
  m.updDoor i fun d => { d with stall := ((x.vel, x.fbpos) :: d.stall).take (m.env.stallSamples i) }

/-- A home run's stall: the VELOCITY move ends with a STOP, and CLOSELIM decides (R360, R361). -/
def Mc.homeStall (m : Mc) (i : Nat) : Mc :=
  let d := m.door i
  let m := m.plan i d.owner 5 false false 0 0 0 0 d.owner.id
  if !d.hasCloseLim || d.closeLim || d.homeChatter then
    let m := m.updMotor i fun x => { x with fborg := -(m.countPos i) }
    let m := m.updDoor i fun d => { d.replace .none with homed := true }
    (m.endIn i .closed 0x05 0).note i 0x25 [0x05, 0]
  else (m.failHome i 0x20).noteHomeFailed i 0x20

/-- POSITION of a learn run's phase 2, 3 or 4 (R362). -/
def Mc.learnMove (m : Mc) (i : Nat) (phase : Nat) : Mc :=
  let s := m.env
  let d := m.door i
  let opening := phase == 3
  let v := m.moveVmax i (if phase = 4 then s.MC_DCLOSEV i else s.MC_DLRNV i) false opening true
  let a : Int := if phase = 4 then 0 else s.MC_DLRNA i
  let m := m.plan i d.owner 1 false false (if opening then d.sums.tm else 0) v a a d.owner.id
  m.updDoor i fun d => { d.replace .learn with phase := BitVec.ofNat 4 phase }

/-- The open stall of a learn run (R362). -/
def Mc.learnStall (m : Mc) (i : Nat) : Mc :=
  let d := m.door i
  let tm := (m.motor i).fbpos - m.env.MC_DOPENGAP i
  let m := m.plan i d.owner 5 false false 0 0 0 0 d.owner.id
  (m.updDoor i fun d => { d with sums := { d.sums with tm := tm } }).learnMove i 2

/-- The sums of R363 for the present sample. -/
def Mc.learnSums (m : Mc) (i : Nat) (vr ar : Int) : Mc :=
  let s := m.env
  let vel := (m.motor i).vel
  if absInt vel < s.MC_DSTALLV i then m
  else
    let f := m.motorForce i - m.viscous i
    m.updDoor i fun d =>
      let x := d.sums
      let x := if rnDiv (9 * s.MC_DLRNA i) 10 ≤ absInt ar then
          { x with na := x.na + 1, sf := sat64 (x.sf + sgn ar * f), sv := sat64 (x.sv + sgn ar * sgn vel),
                   sa := sat64 (x.sa + sgn ar * d.acc) }
        else x
      let x := if ar = 0 ∧ vr ≠ 0 then { x with nc := x.nc + 1, sc := sat64 (x.sc + sgn vel * f) } else x
      { d with sums := x }

/-- MCm writes one of its RWK registers (R25). -/
def Mc.writeRwk (m : Mc) (r : Reg) (idx : List Nat) (w : Word) : Mc :=
  { m with regs := m.regs.set r.resetWord (r.addr idx) w, lanes := m.lanes ++ [.rwk (r.addr idx) w] }

/-- FRICL' and M' of R363; M' is a free value where a division by no samples or by SA 0 leaves it without one. -/
def Mc.learned (m : Mc) (x : LearnSums) : Int × Int :=
  let f := max 0 (rnDiv x.sc x.nc)
  (f, if x.nc = 0 ∨ x.sa = 0 then ((Config.freeWord m.qf.fresh).toNat : Int) else rnDiv ((x.sf - f * x.sv) * 10 ^ 5) x.sa)

/-- COMMIT of a learn run that stands CLOSED (R363, R364). -/
def Mc.learnCommit (m : Mc) (i : Nat) : Mc :=
  let s := m.env
  let x := (m.door i).sums
  let (f, mass) := m.learned x
  let m := { m with qf := { m.qf with fresh := m.qf.fresh + 1 } }
  if x.na < 16 ∨ x.nc < 16 then m.failLearn i .closed 0x24 mass
  else if x.tm < 10000 then m.failLearn i .closed 0x22 mass
  else if x.sa ≤ 0 ∨ mass < s.MC_DMASSMIN i ∨ (s.MC_DMASSMAX i : Int) < mass then m.failLearn i .closed 0x23 mass
  else
    let m := m.writeRwk .MC_DTRAVEL [i] (satWord x.tm)
    let m := m.writeRwk .MC_DMLEARN [i] (satWordU mass)
    let m := m.writeRwk .MC_DFRICL [i] (satWord f)
    let m := (m.writeRwk .MC_DLCRC [i] (m.learnCrc i)).checkLearned i
    let m := m.updDoor i fun d => { d with phase := 0 }
    (m.endIn i .closed 0x06 0).noteLearn i 0x06 0 mass

/-- A completed move to 0 meets the conditions of CLOSED (R349, R362). -/
def Mc.closeEnds (m : Mc) (i : Nat) : Mc :=
  let d := m.door i
  if !d.completed || !m.closedOk i then m
  else if d.stat == .learning then (m.updDoor i fun d => { d with completed := false, phase := 5 }).learnCommit i
  else m.endIn i .closed 0x02 0

/-! ### Planner events (R349, R350, R353) -/

/-- The planner ends the door's present move. -/
def Mc.moveEnded (m : Mc) (i status : Nat) : Mc :=
  let d := m.door i
  let m := m.updDoor i fun d => { d with goal := .none }
  match d.stopping with
  | some (ev, detail) =>
    if status = 0x02 ∧ d.goal = .travel then m.endIn i .open_ 0x01 0
    else if status = 0x02 ∧ d.goal = .close ∧ m.closedOk i then m.endIn i .closed 0x02 0
    else m.endIn i .stopped ev.toNat detail.toNat
  | none =>
    match d.goal with
    | .none => m
    | .travel => if status = 0x02 then m.endIn i .open_ 0x01 0 else m.endIn i .stopped 0x03 0x1D
    | .short => if status = 0x02 then m.endIn i .stopped 0x03 0x19 else m.endIn i .stopped 0x03 0x1D
    | .close =>
      if status = 0x02 then (m.updDoor i fun d => { d with completed := true }).closeEnds i
      else m.endIn i .stopped 0x03 0x1D
    | .home => m.failHome i 0x1D
    | .learn =>
      if status ≠ 0x02 then m.failLearn i (m.learnRest i) 0x1D 0
      else if d.phase = 2 then m.learnMove i 3
      else if d.phase = 3 then m.learnMove i 4
      else (m.updDoor i fun d => { d with completed := true }).closeEnds i

/-- The planner refuses a move of the door (R350). -/
def Mc.moveRefused (m : Mc) (i : Nat) : Mc :=
  let d := m.door i
  let m := m.updDoor i fun d => { d with goal := .none }
  if d.stat == .learning then m.failLearn i .stopped 0x1D 0 else m.endIn i .stopped 0x03 0x1D

/-- A planner event (R264). Answers to ABORT and STOP items, and the ends of moves the door has replaced, change
nothing here. -/
def Mc.plannerEvent (m : Mc) (i : Nat) (it : Item) : Mc :=
  let w := it.words.getD 0 0
  let status := getBits w 15 8
  let kind := getBits w 19 16
  if it.poison || it.words.length != 4 || kind == 5 || kind == 6 || status == 0x01 then m
  else if 0x10 ≤ status then m.moveRefused i
  else if 0 < (m.door i).oldMoves then m.updDoor i fun d => { d with oldMoves := d.oldMoves - 1 }
  else m.moveEnded i status

/-! ### Obstruction and reversal (R351 to R353) -/

/-- The cause of an obstruction in this sample, none without one (R351). -/
def Mc.obstruction (m : Mc) (i : Nat) : Option Nat :=
  let d := m.door i
  if d.stat != .closing && d.stat != .nudging then none
  else if m.env.MC_DOBSRUN i ≤ d.obsRun then some 0x10
  else if d.edge then some 0x11
  else if d.curtain && d.stat == .closing then some 0x12
  else none

/-- The reversal target (R353). -/
def Mc.reverseTarget (m : Mc) (i : Nat) (pos : Int) : Int :=
  if m.mayOpen i then m.travel i else min (m.travel i) (pos + m.env.MC_DREVLIM i)

/-- The sample of detection (R352). -/
def Mc.reverse (m : Mc) (i cause : Nat) : Mc :=
  let pos := (m.motor i).fbpos
  let tgt := m.reverseTarget i pos
  let own := (m.door i).owner
  let m := m.updDoor i fun d =>
    { d with stat := .reversing, flimNow := 0, obsPos := pos, revCount := satInc d.revCount }
  let m := m.abortMoves i own true
  let v := m.moveVmax i (m.env.MC_DOPENV i) false true false
  let m := m.plan i own 1 true false tgt v 0 0 ownId
  let m := m.updDoor i fun d => d.replace (if tgt = m.travel i then .travel else .short)
  let m := m.doorEvent i own 0x04 cause
  m.note i 0x20 (leBytes 1 cause ++ wordBytes (satWord pos) ++ wordBytes (satWord (m.door i).fobs))

/-- The run counters of R340, R351 and R354 with the present sample. -/
def Mc.countRuns (m : Mc) (i : Nat) (vr : Int) : Mc :=
  let s := m.env
  let pos := (m.motor i).fbpos
  m.updDoor i fun d =>
    let closing := d.stat == .closing || d.stat == .nudging
    let opening := d.stat == .opening || d.stat == .reversing
    let elim := s.energyLimit i (d.stat == .nudging) (decide (0 < vr))
    let push := closing && decide (vr < 0) && decide ((s.MC_DCLZONE i : Int) < pos) && decide ((s.MC_DOBSF i : Int) ≤ -d.fobs)
    let blocked := (d.stat == .opening || (d.stat == .reversing && decide (0 < vr))) && decide ((s.MC_DOBSF i : Int) ≤ d.fobs)
    let exceeds := (closing || opening) && decide (rnDiv (elim * (1000 + s.MC_DEOVR i)) 1000 < d.ekin)
    { d with obsRun := if push then d.obsRun + 1 else 0, openRun := if blocked then d.openRun + 1 else 0,
             ekRun := if exceeds then d.ekRun + 1 else 0 }

/-- Detection of an obstruction, ahead of the sample's commands (R366). -/
def Mc.detect (m : Mc) (i : Nat) : Mc :=
  match m.obstruction i with
  | some c => m.reverse i c
  | none => m

/-! ### Door commands (R345 to R347) -/

/-- The detail that refuses a command whose requirements are these; 0 when all are met (R346). -/
def Mc.refusal (m : Mc) (i : Nat) (h l b p ss c edge : Bool) : Nat :=
  let d := m.door i
  if h && !d.homed then 0x02
  else if l && !d.learned then 0x03
  else if b && !m.running i then 0x07
  else if p && !d.permit then 0x04
  else if ss && m.env.sessReq i && !d.session then 0x05
  else if (c && (d.edge || d.curtain)) || (edge && d.edge) then 0x08
  else 0

/-- A command refused with its detail. -/
def Mc.refuse (m : Mc) (i : Nat) (job : DoorJob) (detail : Nat) : Mc := m.doorEvent i job 0x07 detail

/-- A command is accepted in its next state. With `anew` it replaces the move of those before it, which are answered
SUPERSEDED (R347). -/
def Mc.accept (m : Mc) (i : Nat) (job : DoorJob) (st : DoorState) (anew : Bool) : Mc :=
  let old := if anew then (m.door i).jobs else []
  let m := m.updDoor i fun d => { d with stat := st, jobs := if anew then [job] else d.jobs ++ [job] }
  old.foldl (fun m j => m.doorEvent i j 0x0B 0) (m.doorEvent i job 0x0A 0)

/-- OPEN (R346). -/
def Mc.cmdOpen (m : Mc) (i : Nat) (job : DoorJob) : Mc :=
  let fresh (abort : Bool) : Mc :=
    match m.refusal i true true true true true false false with
    | 0 =>
      let m := m.accept i job .opening true
      let m := if abort then m.abortMoves i job false else m
      m.openMove i job false
    | r => m.refuse i job r
  match (m.door i).stat with
  | .closed => fresh false
  | .stopped => fresh false
  | .closing => fresh true
  | .nudging => fresh true
  | .reversing =>
    match m.refusal i false false false true true false false with
    | 0 =>
      if (m.door i).goal = .short then (m.accept i job .opening true).openMove i job true
      else m.accept i job .opening false
    | r => m.refuse i job r
  | .opening => m.accept i job .opening false
  | .open_ => m.doorEvent i job 0x01 0
  | _ => m.refuse i job 0x01

/-- CLOSE (R346). -/
def Mc.cmdClose (m : Mc) (i : Nat) (job : DoorJob) : Mc :=
  let fresh (abort : Bool) : Mc :=
    match m.refusal i true true true false false true false with
    | 0 =>
      let m := m.accept i job .closing true
      let m := if abort then m.abortMoves i job false else m
      m.closeMove i job false
    | r => m.refuse i job r
  match (m.door i).stat with
  | .open_ => fresh false
  | .stopped => fresh false
  | .opening => fresh true
  | .reversing => fresh true
  | .closing => m.accept i job .closing false
  | .nudging => m.accept i job .nudging false
  | .closed => m.doorEvent i job 0x02 0
  | _ => m.refuse i job 0x01

/-- The moves of a NUDGE: an ABORT of any running move, then POSITION to 0 (R346, R359). -/
def Mc.nudgeMoves (m : Mc) (i : Nat) (job : DoorJob) : Mc :=
  let m := if (m.door i).goal = .none then m else m.abortMoves i job false
  m.closeMove i job true

/-- NUDGE (R346, R355). -/
def Mc.cmdNudge (m : Mc) (i : Nat) (job : DoorJob) : Mc :=
  match (m.door i).stat with
  | .nudging => m.accept i job .nudging false
  | .closed => m.doorEvent i job 0x02 0
  | .unhomed => m.refuse i job 0x01
  | .homing => m.refuse i job 0x01
  | .learning => m.refuse i job 0x01
  | _ =>
    match m.refusal i true true true false false false true with
    | 0 => (m.accept i job .nudging true).nudgeMoves i job
    | r => m.refuse i job r

/-- STOP (R346, R366). -/
def Mc.cmdStop (m : Mc) (i : Nat) (job : DoorJob) : Mc :=
  match (m.door i).stat with
  | .homing =>
    let m := m.halt i 0x25
    (m.doorEvent i job 0x0A 0).doorEvent i job 0x03 0x1A
  | .learning =>
    let m := m.halt i 0x25
    (m.doorEvent i job 0x0A 0).doorEvent i job 0x03 0x1A
  | st => if st.moves then (m.accept i job .stopped true).quickStop i 0x03 0x1A else m.doorEvent i job 0x08 0

/-- HOME (R346, R360). -/
def Mc.cmdHome (m : Mc) (i : Nat) (job : DoorJob) : Mc :=
  let st := (m.door i).stat
  if !(st == .unhomed || st == .closed || st == .open_ || st == .stopped) then m.refuse i job 0x01
  else
    match m.refusal i false false true false false false false with
    | 0 =>
      let m := m.accept i job .homing true
      let v := m.env.MC_DHOMEV i
      let m := m.plan i job 3 false false (-(v : Int)) (m.moveVmax i v false false true) 0 0 job.id
      m.updDoor i fun d => { d.replace .home with stall := [], homeChatter := false }
    | r => m.refuse i job r

/-- LEARN (R346, R362). -/
def Mc.cmdLearn (m : Mc) (i : Nat) (job : DoorJob) : Mc :=
  if (m.door i).stat != .closed then m.refuse i job 0x01
  else
    match m.refusal i true false true true true false false with
    | 0 =>
      let m := m.accept i job .learning true
      let v := m.env.MC_DLRNV i
      let m := m.plan i job 3 false false v (m.moveVmax i v false true true) 0 0 job.id
      m.updDoor i fun d => { d.replace .learn with stall := [], phase := 1, sums := LearnSums.reset }
    | r => m.refuse i job r

/-- A door command item (R345, R346). -/
def Mc.doorCommand (m : Mc) (i : Nat) (it : Item) : Mc :=
  let w := it.words.getD 0 0
  let job : DoorJob := { tag := BitVec.ofNat 8 (getBits w 7 0), id := it.words.getD 1 0 }
  if it.poison then m.refuse i { tag := 0, id := 0 } 0x06
  else if it.words.length != 2 || getBits w 31 12 != 0 then m.refuse i job 0x06
  else match getBits w 11 8 with
    | 1 => m.cmdOpen i job
    | 2 => m.cmdClose i job
    | 3 => m.cmdNudge i job
    | 4 => m.cmdStop i job
    | 5 => m.cmdHome i job
    | 6 => m.cmdLearn i job
    | _ => m.refuse i job 0x06

/-! ### The speed sample (R337) -/

/-- Take the items waiting at one of the door's consumer ports. -/
def Mc.drain (m : Mc) (port : Nat) (f : Mc → Item → Mc) : Mc :=
  let r := m.qf.takeItems port 64
  r.1.foldl f { m with qf := r.2 }

/-- Take the items waiting at one of the door's consumer ports, each with the time at which it was staged. -/
def Mc.drainStaged (m : Mc) (port : Nat) (f : Mc → Item → Nat → Mc) : Mc :=
  let r := m.qf.takeAllStaged port 64
  r.1.foldl (fun m e => f m e.1 e.2) { m with qf := r.2 }

/-- A stall ends a home run or the first phase of a learn run (R360, R362). -/
def Mc.stallEnds (m : Mc) (i : Nat) : Mc :=
  let d := m.door i
  if d.stat == .homing then (if m.stalled i then m.homeStall i else m)
  else if d.stat == .learning && d.phase == 1 then (if m.stalled i then m.learnStall i else m)
  else m

/-- Step 4 of R337 after detection and commands: what stops or ends the present state. -/
def Mc.decide_ (m : Mc) (i : Nat) (vr ar : Int) : Mc :=
  let s := m.env
  let d := m.door i
  let elim := s.energyLimit i (d.stat == .nudging) (decide (0 < vr))
  let pos := (m.motor i).fbpos
  if d.stat.moves && !m.running i then m.halt i 0x1C
  else if d.stat.moves && decide (s.MC_DEORUN i ≤ d.ekRun) then
    (m.note i 0x21 (wordBytes (satWord d.ekin) ++ wordBytes (satWord elim))).halt i 0x14
  else if (d.stat == .opening || d.stat == .reversing) && decide (s.MC_DOBSRUN i ≤ d.openRun) then
    (m.note i 0x22 (wordBytes (satWord pos) ++ wordBytes (satWord d.fobs))).halt i 0x13
  else if (d.stat == .opening || d.stat == .reversing || d.stat == .learning) && s.MC_DCOUPLEPOS i != 0 && d.hasCoupled &&
      !d.coupled && decide ((s.MC_DCOUPLEPOS i : Int) ≤ pos) then
    (m.note i 0x23 (wordBytes (satWord pos))).halt i 0x15
  else
    let m := if d.stat == .learning && (d.phase == 2 || d.phase == 3) then m.learnSums i vr ar else m
    ((m.stallSample i).stallEnds i).closeEnds i

/-- The door functions of one speed sample with reference velocity `vr` and acceleration `ar` (R337). -/
def Mc.doorSample (m : Mc) (i : Nat) (vr ar : Int) : Mc :=
  let p := (6 + i) * 0x100
  let m := m.measureDoor i vr
  let m := m.drain (p + 6) fun m it => m.doorInput i it
  let m := (m.drainStaged (p + 7) fun m it at_ => m.sessionItem i it at_).updateSession i
  let m := m.drain (p + 8) fun m it => m.plannerEvent i it
  let m := (m.countRuns i vr).detect i
  let m := if m.env.switching then m else m.drain (p + 5) fun m it => m.doorCommand i it
  m.decide_ i vr ar

/-- SPEED_SAMPLE of motor engine `i`. -/
def Mc.speedSample (m : Mc) (i : Nat) (late : Bool) : Mc :=
  let sn := m.env.speedTime
  let m := (m.speedUpdate i).takeCopies i
  if m.env.motorMode i = 2 then m
  else
    let r := m.readRef i sn
    let x := r.2.refAt i sn
    let m := if m.env.isDoor i then r.2.doorSample i x.1 x.2.2 else r.2
    m.motorSample i sn r.1 late

/-- SPEED_SAMPLE (R337). -/
def execSpeedSample (m : Fin 4) (late : Bool) (s : State) : Host.Outcome State Fault Refusal :=
  .next (s.runMc (s.motorRuns m.val) fun x => x.speedSample m.val late)

/-- The door function of motor engine `i` at island start (R364, R366, R368). -/
def Mc.startDoor (m : Mc) (i : Nat) : Mc :=
  let map := m.env.reg .MC_DINMAP [i]
  Mc.checkLearned { m with doors := m.doors.set Door.reset i { Door.reset with map := map } } i

/-! ### The commands -/

/-- Run a door step on an engine that carries the door function. -/
def State.runDoor (s : State) (i : Nat) (f : Mc → Mc) : State := s.runMc (s.isDoor i && s.runs (motorIsland i)) f

/-- Run a door command; one that arrives while a tempo switch runs waits in its queue (R40). -/
def State.runDoorCommand (s : State) (i : Nat) (f : Mc → Mc) : State := if s.switching then s else s.runDoor i f

/-- An item with its CMD. -/
def itemWithCmd (it : Item) (k : Nat) : Item :=
  match it.words with
  | w :: ws => { it with words := setBits w 11 8 k :: ws }
  | [] => it

/-- DOOR_OPEN (R346). -/
def execDoorOpen (m : Fin 4) (it : Item) (s : State) : Host.Outcome State Fault Refusal :=
  .next (s.runDoorCommand m.val fun x => x.doorCommand m.val (itemWithCmd it 1))

/-- DOOR_CLOSE (R346). -/
def execDoorClose (m : Fin 4) (it : Item) (s : State) : Host.Outcome State Fault Refusal :=
  .next (s.runDoorCommand m.val fun x => x.doorCommand m.val (itemWithCmd it 2))

/-- NUDGE (R355). -/
def execDoorNudge (m : Fin 4) (it : Item) (s : State) : Host.Outcome State Fault Refusal :=
  .next (s.runDoorCommand m.val fun x => x.doorCommand m.val (itemWithCmd it 3))

/-- DOOR_STOP (R346). -/
def execDoorStop (m : Fin 4) (it : Item) (s : State) : Host.Outcome State Fault Refusal :=
  .next (s.runDoorCommand m.val fun x => x.doorCommand m.val (itemWithCmd it 4))

/-- DOOR_HOME (R360). -/
def execDoorHome (m : Fin 4) (it : Item) (s : State) : Host.Outcome State Fault Refusal :=
  .next (s.runDoorCommand m.val fun x => x.doorCommand m.val (itemWithCmd it 5))

/-- DOOR_LEARN (R362). -/
def execDoorLearn (m : Fin 4) (it : Item) (s : State) : Host.Outcome State Fault Refusal :=
  .next (s.runDoorCommand m.val fun x => x.doorCommand m.val (itemWithCmd it 6))

/-- DOOR_INPUT_ITEM (R342). -/
def execDoorInputItem (m : Fin 4) (it : Item) (s : State) : Host.Outcome State Fault Refusal :=
  .next (s.runDoor m.val fun x => x.doorInput m.val it)

/-- DOOR_INPUT_STALE (R342). -/
def execDoorInputStale (m : Fin 4) (s : State) : Host.Outcome State Fault Refusal :=
  .next (s.runDoor m.val fun x => x.inputStale m.val)

/-- DOOR_PLANNER_EVENT (R349). -/
def execDoorPlannerEvent (m : Fin 4) (it : Item) (s : State) : Host.Outcome State Fault Refusal :=
  .next (s.runDoor m.val fun x => x.plannerEvent m.val it)

/-- SESSION_ITEM (R358). -/
def execSessionItem (m : Fin 4) (it : Item) (s : State) : Host.Outcome State Fault Refusal :=
  .next (s.runDoor m.val fun x => (x.sessionItem m.val it s.dev).updateSession m.val)

/-- The pending CLOSELIM level counts (R343). -/
def Door.countCloseLim (d : Door) : Door := { d with closeLim := d.closePend.getD d.closeLim, closePend := none }

/-- CLOSELIM_EDGE (R343). -/
def execCloselimEdge (m : Fin 4) (s : State) : Host.Outcome State Fault Refusal :=
  .next (s.runDoor m.val fun x => (x.updDoor m.val Door.countCloseLim).closeEnds m.val)

/-- CLOSEWAIT has passed since COMPLETED without the close conditions (R349). -/
def Mc.closeWait (m : Mc) (i : Nat) : Mc :=
  let d := m.door i
  if !d.completed || m.closedOk i then m
  else
    let m := m.note i 0x29 (wordBytes (satWord (m.motor i).fbpos) ++ leBytes 1 (bit d.closeLim))
    if d.stat == .learning then m.failLearn i .stopped 0x18 0 else m.endIn i .stopped 0x03 0x18

/-- CLOSEWAIT_EXPIRE (R349). -/
def execClosewaitExpire (m : Fin 4) (s : State) : Host.Outcome State Fault Refusal :=
  .next (s.runDoor m.val fun x => x.closeWait m.val)

/-- HOME_TIMEOUT: 60 s without a stall (R360). -/
def execHomeTimeout (m : Fin 4) (s : State) : Host.Outcome State Fault Refusal :=
  .next (s.runDoor m.val fun x => 
    if (x.door m.val).stat == .homing then (x.halt m.val 0x21).noteHomeFailed m.val 0x21 else x)

/-- SESSION has been 0 for SESSGRACE ms in OPEN or STOPPED: the door nudges closed on its own (R359). -/
def Mc.sessGrace (m : Mc) (i : Nat) : Mc :=
  let d := m.door i
  if !m.env.sessReq i || d.session || !(d.stat == .open_ || d.stat == .stopped) then m
  else
    let own : DoorJob := { tag := 0, id := ownId }
    let m := m.doorEvent i own 0x0C 0x17
    let m := m.note i 0x28 (leBytes 1 (m.env.MC_DSTATION_STATION i))
    let old := d.jobs
    let m := m.updDoor i fun d => { d with stat := .nudging, jobs := [own] }
    (old.foldl (fun m j => m.doorEvent i j 0x0B 0) m).nudgeMoves i own

/-- SESSGRACE_EXPIRE (R359). -/
def execSessgraceExpire (m : Fin 4) (s : State) : Host.Outcome State Fault Refusal :=
  .next (s.runDoor m.val fun x => x.sessGrace m.val)

/-- A write of MCm_DSTAT: CHATTER is W1C (R367). -/
def State.writeDstat (s : State) (i : Nat) (w : Word) : State :=
  s.runMc true fun m => m.updDoor i fun d => { d with chatter := d.chatter && !w.getLsbD 13 }

end Sys2Proof.Machine
end

