-- ==== Sys2Proof/Machine/Can.lean ====
section
/-! DEFINITION. The CAN FD controllers of chapter 15: receive buffers, the transmit queue, cancellation, error
confinement. -/

namespace Sys2Proof.Machine

/-! ### The part of the device BUS changes -/

/-- What a step of BUS can change, beside the device before the step. -/
structure Bc where
  env    : State
  cans   : Tbl Can
  time   : TimeSvc
  porlux : Porlux
  issuer : Issuer
  copy   : Copy
  qf     : Qf

def State.bc (s : State) : Bc :=
  { env := s, cans := s.cans, time := s.time, porlux := s.porlux, issuer := s.issuer, copy := s.copy, qf := s.qf }

/-- The device with the result. -/
def State.withBc (s : State) (m : Bc) : State :=
  { s with cans := m.cans, time := m.time, porlux := m.porlux, issuer := m.issuer, copy := m.copy,
           fabric := m.qf.fabric, recorder := m.qf.recorder, ports := m.qf.ports, fresh := m.qf.fresh }

/-- Run a step of BUS where its condition holds. -/
def State.runBc (s : State) (ok : Bool) (f : Bc → Bc) : State := if ok then s.withBc (f s.bc) else s

def Bc.note (m : Bc) (code : Nat) (data : List Byte := []) : Bc := { m with qf := m.qf.note code data }
def Bc.post (m : Bc) (port : Nat) (ws : List Word) : Bc := { m with qf := m.qf.post port ws }
def Bc.can (m : Bc) (n : Nat) : Can := m.cans.get Can.reset n
def Bc.setCan (m : Bc) (n : Nat) (c : Can) : Bc := { m with cans := m.cans.set Can.reset n c }
def Bc.updCan (m : Bc) (n : Nat) (f : Can → Can) : Bc := m.setCan n (f (m.can n))

/-- Controller `n` is instantiated and BUS works (R514). -/
def State.canUp (s : State) (n : Nat) : Bool := s.runs .bus && (s.tile 7 n).isSome

/-- The image uses the controller's TXD pad `k` 0 or RXD pad `k` 1 (R46, R49). -/
def State.canPad (s : State) (n k : Nat) : Bool := s.padUsed (47 + 3 * n + k)

/-- Local time LT in ns at a start-of-frame (R520). -/
def State.localTime (s : State) (x : SofTime) : Nat := (s.dev - x.ago) * 1000 + x.clk.val * 25 / 2

/-! ### Modes (R514, R549) -/

/-- MODE in force: INIT while the timing is in error (R516). -/
def Can.mode (c : Can) : Nat := if c.cfgErr then 0 else getBits c.ctl 1 0
def Can.fden (c : Can) : Bool := c.ctl.getLsbD 4
def Can.listen (c : Can) : Bool := c.mode == 2
def Can.loopback (c : Can) : Bool := c.mode == 3

/-- Entries can be attempted: NORMAL on the bus and not in bus-off, or LOOPBACK (R514, R532). -/
def Can.sends (c : Can) : Bool := c.loopback || (c.mode == 1 && c.onBus && c.estate != 2)

/-- Frames of other nodes are received: NORMAL or LISTEN on the bus, not in bus-off (R514, R538). -/
def Can.receives (c : Can) : Bool := (c.mode == 1 || c.mode == 2) && c.onBus && c.estate != 2

/-- The controller hears the bus: its RXD pad is one the image uses, or it hears itself in LOOPBACK (R49, R514). -/
def State.canHears (s : State) (n : Nat) : Bool :=
  s.canUp n && ((s.cans.get Can.reset n).loopback || s.canPad n 1)

/-- Attempts run: entries can be attempted, and the pads reach the bus (R49, R514). -/
def State.canTalks (s : State) (n : Nat) : Bool :=
  s.canHears n && ((s.cans.get Can.reset n).loopback || s.canPad n 0) && (s.cans.get Can.reset n).sends

/-! ### Frames -/

/-- The smallest CAN FD data length that holds `n` bytes (R530). -/
def canLen (n : Nat) : Nat :=
  if n ≤ 8 then n else if n ≤ 12 then 12 else if n ≤ 16 then 16 else if n ≤ 20 then 20 else if n ≤ 24 then 24
  else if n ≤ 32 then 32 else if n ≤ 48 then 48 else 64

/-- Word 0 of R522: ID, IDE, FDF, BRS. -/
def frameHead (f : CanFrame) : Word :=
  f.id.setWidth 32 ||| (if f.ide then 0x20000000 else 0) ||| (if f.fdf then 0x40000000 else 0) |||
    (if f.brs then 0x80000000 else 0)

/-- A frame as an entry puts it on the bus; a remote frame carries no data. -/
def TxEntry.frame (e : TxEntry) : CanFrame :=
  { id := e.head.setWidth 29, ide := e.head.getLsbD 29, fdf := e.head.getLsbD 30, brs := e.head.getLsbD 31,
    rtr := e.rtr, data := if e.rtr then [] else e.data }

/-! ### The transmit queue (R526 to R534) -/

def TxEntry.new (src : TxSrc) (tag : BitVec 8) (wrap : Bool) (head : Word) (rtr oneshot : Bool) (data : List Byte) :
    TxEntry :=
  { src := src, tag := tag, wrap := wrap, head := head, rtr := rtr, oneshot := oneshot, data := data, attempts := 0,
    cancel := false, tooLate := false }

def Can.full (c : Can) : Bool := 32 ≤ c.queue.length

/-- Add an entry of an engine inside BUS; LISTEN refuses it, and so does FDEN 0 an FD frame (R513, R530); a full queue drops
it. -/
def Bc.enter (m : Bc) (n : Nat) (e : TxEntry) : Bc :=
  let c := m.can n
  if c.listen || (e.head.getLsbD 30 && !c.fden) || c.full then m else m.setCan n { c with queue := c.queue ++ [e] }

/-- Word 0 of the copy frames the unit sends, as identifier `EPID + 2u + ack` (R594, R595). -/
def Bc.copyHead (m : Bc) (unit ack : Nat) : Word :=
  let ide := m.copy.epcfg.getLsbD 29
  let id := (getBits m.copy.epcfg 28 0 + 2 * unit + ack) % (if ide then 2 ^ 29 else 2 ^ 11)
  BitVec.ofNat 32 id ||| (if ide then 0x20000000 else 0) ||| 0x40000000 |||
    (if m.env.BUS_EPCTL_BRS = 1 then 0x80000000 else 0)

/-- EPCTRL as it stood at the start; 0x3 acts as 0x0 (R607). -/
def Copy.ctrl (c : Copy) : Nat := let n := getBits c.epctl 11 10; if n = 3 then 0 else n

/-- The number of the own unit (R605). -/
def State.unitNo (s : State) : Nat := bit s.gate.unit

/-- Frames of the running epoch enter the queue as entries come free (R526, R594). -/
def Bc.feedCopy (m : Bc) : Nat → Bc
  | 0 => m
  | k + 1 =>
    match m.copy.run with
    | none => m
    | some r =>
      match r.todo with
      | [] => m
      | d :: rest =>
        if (m.can m.copy.ctrl).full || (m.can m.copy.ctrl).listen then m
        else
          let e := TxEntry.new .copy 0 false (m.copyHead m.env.unitNo 0) false false d
          let m := m.enter m.copy.ctrl e
          Bc.feedCopy { m with copy := { m.copy with run := some { r with todo := rest } } } k

/-- Acknowledgements of the copy link enter the queue, oldest first, while it has room (R526, R595). -/
def Bc.feedAckList (m : Bc) : List (List Byte) → Bc
  | [] => { m with copy := { m.copy with ackTodo := [] } }
  | d :: rest =>
    if (m.can m.copy.ctrl).full || (m.can m.copy.ctrl).listen then { m with copy := { m.copy with ackTodo := d :: rest } }
    else Bc.feedAckList (m.enter m.copy.ctrl (TxEntry.new .copy 0 false (m.copyHead m.env.unitNo 1) false false d)) rest

def Bc.feedAcks (m : Bc) : Bc := m.feedAckList m.copy.ackTodo

/-- What the copy link has waiting enters the queue as entries come free (R526, R594, R595). -/
def Bc.feedLink (m : Bc) : Bc := m.feedAcks.feedCopy 32

/-- SRC of an event (R533). -/
def srcCode : TxSrc → Nat
  | .port q => q.val
  | .host => 4
  | _ => 5

/-- Post a transmit event (R533); LAST and LASTTAG keep the host window's (R551). -/
def Bc.event (m : Bc) (n src : Nat) (tag : BitVec 8) (status : Nat) (head stamp w3 : Word) : Bc :=
  let m := if src = 4 then m.updCan n fun c => { c with last := BitVec.ofNat 8 status, lastTag := tag } else m
  m.post (0x0CCC + n) [BitVec.ofNat 32 (tag.toNat + 256 * status + 65536 * src), head, stamp, w3]

/-- The event of an entry: every ending of a RAW port's or the host window's, a WRAP port's failures alone unless
EVALL is set; engines inside BUS get none (R533). -/
def Bc.report (m : Bc) (n : Nat) (e : TxEntry) (status : Nat) (stamp w3 : Word) : Bc :=
  match e.src with
  | .port q =>
    if e.wrap && status == 1 && m.env.BUS_CANTXPCFG_EVALL n q.val == 0 then m
    else m.event n q.val e.tag status e.head stamp w3
  | .host => m.event n 4 e.tag status e.head stamp w3
  | _ => m

/-- The head entry leaves the queue. -/
def Bc.dropHead (m : Bc) (n : Nat) : Bc :=
  (m.updCan n fun c => { c with queue := c.queue.tail }).feedLink

/-- Change the head entry. -/
def Bc.updHead (m : Bc) (n : Nat) (f : TxEntry → TxEntry) : Bc :=
  m.updCan n fun c => { c with queue := match c.queue with | [] => [] | e :: r => f e :: r }

/-- A request of R529 is refused with BAD in these cases (R530): `cap` is its data capacity in bytes. -/
def badRequest (fden poison : Bool) (cap : Nat) (ws : List Word) : Bool :=
  let w0 := ws.headD 0
  let w1 := ws.getD 1 0
  let len := getBits w1 6 0
  let fdf := w0.getLsbD 30
  poison || decide (ws.length < 2) || decide (cap < len) || (!fdf && decide (8 < len)) || decide (64 < len) ||
    (w0.getLsbD 31 && !fdf) || (w1.getLsbD 7 && fdf) || (fdf && !fden) || getBits w1 15 9 != 0 ||
    getBits w1 31 24 != 0 || (!w0.getLsbD 29 && getBits w0 28 11 != 0)

/-- The entry of a request that is not refused (R529, R530). -/
def requestEntry (src : TxSrc) (ws : List Word) : TxEntry :=
  let w1 := ws.getD 1 0
  let len := getBits w1 6 0
  let d := (wordsBytes (ws.drop 2)).take len
  TxEntry.new src (BitVec.ofNat 8 (getBits w1 23 16)) false (ws.headD 0) (w1.getLsbD 7) (w1.getLsbD 8)
    (d ++ List.replicate (canLen len - len) 0)

/-- A RAW request of a port or the host window: LISTEN_ONLY, BAD, FULL or an entry (R514, R530, R533). -/
def Bc.request (m : Bc) (n : Nat) (src : TxSrc) (cap : Nat) (ws : List Word) (poison : Bool) : Bc :=
  let c := m.can n
  let refuse (status : Nat) : Bc :=
    m.event n (srcCode src) (BitVec.ofNat 8 (getBits (ws.getD 1 0) 23 16)) status (ws.headD 0) 0 0
  if c.listen then refuse 8
  else if badRequest c.fden poison cap ws then refuse 6
  else if c.full then refuse 9
  else m.enter n (requestEntry src ws)

/-- Word 0 of the frames of WRAP port `q` (R531, R552). -/
def State.wrapHead (s : State) (n q : Nat) : Word :=
  let ide := s.BUS_CANTXPID_IDE n q == 1
  let id := s.BUS_CANTXPID_ID n q % (if ide then 2 ^ 29 else 2 ^ 11)
  BitVec.ofNat 32 (id + bit ide * 2 ^ 29 + s.BUS_CANTXPCFG_FDF n q * 2 ^ 30 + s.BUS_CANTXPCFG_BRS n q * 2 ^ 31)

/-- An item of a WRAP port (R531). -/
def Bc.wrapItem (m : Bc) (n : Nat) (q : Fin 4) (it : Item) : Bc :=
  let s := m.env
  let c := m.can n
  let head := s.wrapHead n q.val
  let fdf := head.getLsbD 30
  let d := wordsBytes it.words
  let bad := it.poison || (!fdf && decide (2 < it.words.length)) || (head.getLsbD 31 && !fdf) || (fdf && !c.fden) ||
    decide (64 < d.length)
  if c.listen then m.event n q.val 0 8 head 0 0
  else if bad then m.event n q.val 0 6 head 0 0
  else
    m.enter n (TxEntry.new (.port q) 0 true head false (s.BUS_CANTXPCFG_ONESHOT n q.val == 1)
      (d ++ List.replicate (canLen d.length - d.length) 0))

/-- A transmit port takes its next staged item while an entry is free (R526, R529, R531). -/
def Bc.portItem (m : Bc) (n : Nat) (q : Fin 4) : Bc :=
  if (m.can n).full then m
  else
    match m.qf.takeItem (0x0CC0 + 4 * n + q.val) with
    | (none, x) => { m with qf := x }
    | (some it, x) =>
      let m := { m with qf := x }
      if m.env.BUS_CANTXPCFG_WRAP n q.val = 1 then m.wrapItem n q it
      else m.request n (.port q) (4 * (it.words.length - 2)) it.words it.poison

/-- CAN_TX_PORT_ITEM (R529). -/
def execCanTxPortItem (n : Fin 3) (q : Fin 4) (s : State) : Host.Outcome State Fault Refusal :=
  .next (s.runBc (s.canUp n.val) fun m => m.portItem n.val q)

/-- A write of BUS_CANTXGOn (R551). -/
def State.writeCanTxgo (s : State) (n : Nat) (w : Word) : State :=
  s.runBc (s.canUp n && w.getLsbD 31) fun m =>
    m.request n .host 64 ((List.range 18).map fun k => s.reg .BUS_CANTXW [n, k]) false

/-- TXGO (R529). -/
def execTxgo (n : Fin 3) (w : Word) (s : State) : Host.Outcome State Fault Refusal :=
  .next (s.writeCanTxgo n.val (w ||| 0x80000000))

/-! ### Receiving (R519 to R525) -/

/-- BUS_RBMASK and BUS_RBID of buffer `b` let the frame in (R521, R553). -/
def State.bufferTakes (s : State) (n b : Nat) (f : CanFrame) : Bool :=
  let v := (frameHead f &&& 0x7FFFFFFF) ||| (if f.rtr then 0x80000000 else 0)
  s.BUS_RBCFG_EN n b == 1 && ((v ^^^ s.reg .BUS_RBID [n, b]) &&& s.reg .BUS_RBMASK [n, b]) == 0

/-- Words 0 to 2 of R522 and every data word. -/
def frameWords (f : CanFrame) (esi trunc : Bool) (b us : Nat) : List Word :=
  let w1 := BitVec.ofNat 32 (f.data.length + 128 * bit f.rtr + 256 * bit esi + 512 * bit trunc + 65536 * b)
  [frameHead f, w1, lowWord us] ++ bytesWords ((f.data.length + 3) / 4) f.data

/-- A HOST buffer takes a frame into its window, or keeps it as pending while locked (R523). The flag tells that LOST
incremented. -/
def RxBuf.arrive (x : RxBuf) (win : List Word) : RxBuf × Bool :=
  if x.lock then
    ({ x with pending := some win, lost := if x.pending.isSome then satInc x.lost else x.lost }, x.pending.isSome)
  else ({ x with window := win, new := true, lost := if x.new then satInc x.lost else x.lost }, x.new)

/-- LOCK and NEW clear; a pending frame enters the window and sets NEW (R523). -/
def RxBuf.unlock (x : RxBuf) : RxBuf :=
  match x.pending with
  | some w => { x with lock := false, window := w, new := true, pending := none }
  | none => { x with lock := false, new := false }

/-- Deliver a frame to a HOST buffer, with CAN_RX_LOST (R523, R555). -/
def Bc.hostBuffer (m : Bc) (n b : Nat) (win : List Word) : Bc :=
  let x := (m.can n).bufs.get RxBuf.reset b
  let r := x.arrive win
  let due := r.2 && (x.lost == 0 || (match x.lostAt with | some t => decide (t + 1000000 ≤ m.env.dev) | none => true))
  let y := if due then { r.1 with lostAt := some m.env.dev } else r.1
  let m := m.updCan n fun c => { c with bufs := c.bufs.set RxBuf.reset b y }
  if due then m.note 0x0C06 (leBytes 1 n ++ leBytes 1 b ++ leBytes 2 y.lost.toNat) else m

/-- The item a QUEUE buffer posts (R525). -/
def Bc.queueItem (m : Bc) (n b : Nat) (f : CanFrame) (esi : Bool) (us : Nat) : List Word :=
  let s := m.env
  match s.BUS_RBCFG_FORMAT n b with
  | 0 => (frameWords f esi (decide (52 < f.data.length)) b us).take 16
  | 1 => bytesWords (max 1 ((f.data.length + 3) / 4)) f.data
  | _ =>
    let ofs := (BitVec.ofNat 16 (s.BUS_RBCFG_STAMPOFS n b)).toInt
    bytesWords (s.BUS_RBCFG_WORDS n b) f.data ++ [toWord ((us : Int) - ofs), 1]

/-- A buffer takes a frame (R522 to R525). -/
def Bc.intoBuffer (m : Bc) (n b : Nat) (f : CanFrame) (esi : Bool) (us : Nat) : Bc :=
  let s := m.env
  if s.BUS_RBCFG_FORMAT n b = 3 then
    if (s.tile 8 0).isSome then
      { m with porlux := { m.porlux with inbox := m.porlux.inbox ++ [{ frame := f, at_ := us }] } }
    else m
  else if s.BUS_RBCFG_MODE n b = 1 then m.post (0x0C00 + 0x40 * n + b) (m.queueItem n b f esi us)
  else m.hostBuffer n b (frameWords f esi false b us)

/-- The time service takes a frame as a reference: a slave, its controller, REFID and NODE (R521, R543). -/
def Bc.isReference (m : Bc) (n : Nat) (f : CanFrame) : Bool :=
  let s := m.env
  let ctrl := if s.BUS_TSCTL_CTRL = 3 then 0 else s.BUS_TSCTL_CTRL
  (match s.tile 9 0 with | some t => t.arg == 2 | none => false) && ctrl == n && f.ide == m.time.cfg.getLsbD 29 &&
    f.id.toNat == getBits m.time.cfg 28 0 && (f.data.getD 2 0).toNat == s.BUS_TSCTL_NODE

/-- The frame is the peer's copy frame (`ack` 0) or acknowledgement (`ack` 1) on EPCTRL (R594, R595). -/
def Bc.isCopy (m : Bc) (n ack : Nat) (f : CanFrame) : Bool :=
  let h := m.copyHead (1 - m.env.unitNo) ack
  (m.env.tile 0x0B 0).isSome && n == m.copy.ctrl && f.fdf && f.ide == h.getLsbD 29 && f.id == h.setWidth 29

/-- Offer a frame received without error: the time service first, the copy link, then the buffers (R521). -/
def Bc.offer (m : Bc) (n : Nat) (f : CanFrame) (esi : Bool) (lt : Nat) : Bc :=
  if m.isReference n f then { m with time := { m.time with inbox := m.time.inbox ++ [(f.data, lt)] } }
  else if m.isCopy n 0 f then { m with copy := { m.copy with frames := m.copy.frames ++ [f.data] } }
  else if m.isCopy n 1 f then { m with copy := { m.copy with acks := m.copy.acks ++ [f.data] } }
  else
    match (List.range 64).find? fun b => m.env.bufferTakes n b f with
    | some b => m.intoBuffer n b f esi (lt / 1000)
    | none => m.updCan n fun c => { c with noMatch := satInc c.noMatch }

/-! ### Error confinement (R537, R538) -/

/-- Error-active or error-passive by the counters (R537). -/
def Can.confine (c : Can) : Can := { c with estate := if 128 ≤ c.tec || 128 ≤ c.recCnt then 1 else 0 }

/-- A frame received without error takes 1 from REC; above 127 ISO 11898-1 sets it to some value from 119 to 127. -/
def Bc.goodReceive (m : Bc) (n : Nat) : Bc :=
  let c := m.can n
  if c.listen || c.loopback then m
  else if c.recCnt ≤ 127 then m.setCan n (Can.confine { c with recCnt := c.recCnt - 1 })
  else
    let v := 119 + (Config.freeWord m.qf.fresh).toNat % 9
    { m.setCan n (Can.confine { c with recCnt := v }) with qf := { m.qf with fresh := m.qf.fresh + 1 } }

/-- CAN_FRAME_RECEIVED (R520, R521). With FDEN 0 an FD frame is a form error and does not complete (R513). -/
def execCanFrameReceived (n : Fin 3) (f : CanFrame) (esi : Bool) (sof : SofTime) (s : State) :
    Host.Outcome State Fault Refusal :=
  .next (s.runBc (s.canHears n.val && (s.cans.get Can.reset n.val).receives &&
      (!f.fdf || (s.cans.get Can.reset n.val).fden))
    fun m => (m.goodReceive n.val).offer n.val f esi (s.localTime sof))

/-- TEC and REC after an error (R537). -/
def Can.count (c : Can) (e : CanErr) : Can :=
  match e with
  | .transmit => { c with tec := c.tec + 8 }
  | .exempt => c
  | .receive => { c with recCnt := c.recCnt + 1 }
  | .receiveFlag => { c with recCnt := c.recCnt + 8 }
  | .dominant true => { c with tec := c.tec + 8 }
  | .dominant false => { c with recCnt := c.recCnt + 8 }

/-- The controller enters bus-off; a frame with a cancel pending has failed with an error (R537, R548). -/
def Bc.busOff (m : Bc) (n : Nat) : Bc :=
  let m := m.updCan n fun c => { c with estate := 2, boSeen := true, recov := 0, won := false }
  let m := m.note 0x0C01 (leBytes 1 n ++ leBytes 1 (min 255 (m.can n).recCnt))
  match (m.can n).queue with
  | e :: _ =>
    if e.tooLate || e.cancel then
      let m := if e.tooLate then m else m.report n e 4 0 (BitVec.ofNat 32 e.attempts)
      (m.dropHead n).report n e 5 0 (BitVec.ofNat 32 (e.attempts + 1))
    else m
  | [] => m

/-- A bus error updates TEC and REC (R537). -/
def Bc.canError (m : Bc) (n : Nat) (e : CanErr) : Bc :=
  let was := (m.can n).estate
  let c := (m.can n).count e
  if 255 < c.tec then (m.setCan n c).busOff n
  else
    let c := c.confine
    let m := m.setCan n c
    if was == 0 && c.estate == 1 then
      m.note 0x0C03 (leBytes 1 n ++ leBytes 1 c.tec ++ leBytes 1 (min 255 c.recCnt))
    else m

/-- CAN_ERROR (R537). -/
def execCanError (n : Fin 3) (e : CanErr) (s : State) : Host.Outcome State Fault Refusal :=
  .next (s.runBc (s.canHears n.val && (s.cans.get Can.reset n.val).mode == 1 && (s.cans.get Can.reset n.val).receives)
    fun m => m.canError n.val e)

/-- The 128th occurrence in bus-off (R538). -/
def Bc.busOffEnd (m : Bc) (n : Nat) : Bc :=
  let m := m.updCan n fun c =>
    { c with estate := 0, tec := 0, recCnt := 0, onBus := false, recov := 0, busoffs := satInc c.busoffs }
  m.note 0x0C02 (leBytes 1 n ++ leBytes 2 (m.can n).busoffs.toNat)

/-- Up to now in bus-off RECOV has counted some more occurrences of 11 recessive bits, up to the 127 that leave it there: how
many, the commands do not say, and a free value does (R538). -/
def State.countRecov (s : State) (n : Nat) : State :=
  let c := s.cans.get Can.reset n
  if c.estate != 2 then s
  else
    let more := (Config.freeWord s.fresh).toNat % (128 - min 127 c.recov)
    State.tick { s with cans := s.cans.set Can.reset n { c with recov := c.recov + more } }

/-- CAN_BUSOFF_END (R538). -/
def execCanBusoffEnd (n : Fin 3) (s : State) : Host.Outcome State Fault Refusal :=
  .next (s.runBc (s.canHears n.val && (s.cans.get Can.reset n.val).estate == 2) fun m => m.busOffEnd n.val)

/-- CAN_BUS_JOIN (R515). -/
def execCanBusJoin (n : Fin 3) (s : State) : Host.Outcome State Fault Refusal :=
  let c := s.cans.get Can.reset n.val
  .next (s.runBc (s.canHears n.val && (c.mode == 1 || c.mode == 2) && !c.onBus && c.estate != 2)
    fun m => m.updCan n.val fun c => Can.confine { c with onBus := true })

/-! ### The end of an attempt (R527, R532, R535) -/

/-- A bit error after arbitration was won (R535, R555). -/
def Bc.idCollision (m : Bc) (n : Nat) (e : TxEntry) : Bc :=
  let c := m.can n
  let due : Bool := match c.collAt with | some t => decide (t + 1000000 ≤ m.env.dev) | none => true
  let m := m.setCan n { c with idColl := true, collisions := satInc c.collisions,
                               collAt := if due then some m.env.dev else c.collAt }
  if due then m.note 0x0C04 (leBytes 1 n ++ wordBytes e.head) else m

/-- An entry was sent: the counters, its event, the time service's note of a reference message, the copy link's of a commit
frame (R533, R542, R592). -/
def Bc.sent (m : Bc) (n : Nat) (e : TxEntry) (lt : Nat) : Bc :=
  let m := m.updCan n fun c => if c.loopback then c else Can.confine { c with tec := c.tec - 1 }
  let m := (m.dropHead n).report n e 1 (lowWord (lt / 1000)) (BitVec.ofNat 32 (e.attempts + 1))
  let m := match e.src with
    | .time => { m with time := { m.time with sent := some (BitVec.ofNat 16 (leAt e.data 0 2), lt) } }
    | .copy =>
      if leAt e.data 4 2 == 0xFFFF then
        { m with copy := { m.copy with run := m.copy.run.map fun (r : EpochRun) => { r with commitAt := some m.env.dev } } }
      else m
    | _ => m
  if (m.can n).loopback then m.offer n e.frame false lt else m

/-- The entry ends for its one-shot, with the cause in bit 31 of word 3 (R532, R533). -/
def Bc.oneShotEnd (m : Bc) (n : Nat) (e : TxEntry) (err : Bool) : Bc :=
  (m.dropHead n).report n e 2 0 (BitVec.ofNat 32 (e.attempts + 1) ||| (if err then 0x80000000 else 0))

/-- The head entry's attempt ends (R532, R534, R535). -/
def Bc.attemptEnd (m : Bc) (n : Nat) (out : TxOutcome) : Bc :=
  let m := m.updCan n fun c => { c with won := false }
  match (m.can n).queue with
  | [] => m
  | e :: _ =>
    let w3 := BitVec.ofNat 32 (e.attempts + 1)
    let once := e.oneshot || m.env.BUS_CANCTL_ONESHOT n == 1
    let retry := m.updHead n fun e => { e with attempts := e.attempts + 1 }
    match out with
    | .sent sof => m.sent n e (m.env.localTime sof)
    | .lost =>
      if e.cancel then (m.dropHead n).report n e 3 0 w3
      else if once then m.oneShotEnd n e false
      else retry
    | .error coll =>
      let m := if coll then m.idCollision n e else m
      let retry := m.updHead n fun e => { e with attempts := e.attempts + 1 }
      if e.tooLate then (m.dropHead n).report n e 5 0 w3
      else if e.cancel then ((m.report n e 4 0 w3).dropHead n).report n e 5 0 w3
      else if once then m.oneShotEnd n e true
      else retry

/-- CAN_TX_ATTEMPT_END (R532). -/
def execCanTxAttemptEnd (n : Fin 3) (out : TxOutcome) (s : State) : Host.Outcome State Fault Refusal :=
  .next (s.runBc (s.canTalks n.val) fun m => m.attemptEnd n.val out)

/-- The head entry wins arbitration; one with a pending cancel answers TOO_LATE (R534). -/
def Bc.arbitrationWon (m : Bc) (n : Nat) : Bc :=
  match (m.can n).queue with
  | e :: _ =>
    let m := m.updCan n fun c => { c with won := true }
    if e.cancel then
      (m.updHead n fun e => { e with cancel := false, tooLate := true }).report n e 4 0 (BitVec.ofNat 32 e.attempts)
    else m
  | [] => m

/-- CAN_ARBITRATION_WON (R534). -/
def execCanArbitrationWon (n : Fin 3) (s : State) : Host.Outcome State Fault Refusal :=
  .next (s.runBc (s.canTalks n.val) fun m => m.arbitrationWon n.val)

/-! ### Cancellation (R534) -/

/-- The entry a cancel names: its source and tag, not yet named by another. -/
def TxEntry.named (e : TxEntry) (src : Nat) (tag : BitVec 8) : Bool :=
  srcCode e.src == src && decide (src < 5) && e.tag == tag && !e.cancel && !e.tooLate

/-- A cancel of the oldest entry with this source and tag; `phase` is where the head's attempt stands. -/
def Bc.cancelEntry (m : Bc) (n src : Nat) (tag : BitVec 8) (phase : TxPhase) : Bc :=
  let q := (m.can n).queue
  match q.findIdx? fun e => e.named src tag, q.find? fun e => e.named src tag with
  | some i, some e =>
    let w3 := BitVec.ofNat 32 e.attempts
    match i, phase with
    | 0, .arbitrating => m.updHead n fun e => { e with cancel := true }
    | 0, .won => (m.updHead n fun e => { e with tooLate := true }).report n e 4 0 w3
    | _, _ => ((m.updCan n fun c => { c with queue := c.queue.eraseIdx i }).feedLink).report n e 3 0 w3
  | _, _ => m.event n src tag 7 0 0 0

/-- A write of BUS_CANTXCANCELn (R551). -/
def State.writeCanTxcancel (s : State) (n : Nat) (phase : TxPhase) (w : Word) : State :=
  s.runBc (s.canUp n && w.getLsbD 31) fun m =>
    m.cancelEntry n (getBits w 10 8) (BitVec.ofNat 8 (getBits w 7 0)) phase

/-- TXCANCEL (R534). -/
def execTxcancel (n : Fin 3) (phase : TxPhase) (w : Word) (s : State) : Host.Outcome State Fault Refusal :=
  .next (s.writeCanTxcancel n.val phase (w ||| 0x80000000))

/-! ### Reads of a HOST buffer (R523) -/

/-- Buffer `b` holds frames in its window (R525). -/
def State.hostMode (s : State) (n b : Nat) : Bool := s.BUS_RBCFG_FORMAT n b != 3 && s.BUS_RBCFG_MODE n b == 0

def Bc.updBuf (m : Bc) (n b : Nat) (f : RxBuf → RxBuf) : Bc :=
  m.updCan n fun c => { c with bufs := c.bufs.modify RxBuf.reset b f }

/-- A read of window word `k` takes its effect: LOCK at word 0, the release at the last word (R523). -/
def State.readBufferWord (s : State) (n b k : Nat) : State :=
  s.runBc (s.canUp n && s.hostMode n b) fun m =>
    let x := (m.can n).bufs.get RxBuf.reset b
    let last := 2 + (getBits (x.window.getD 1 0) 6 0 + 3) / 4
    if k = 0 then m.updBuf n b fun x => { x with lock := true }
    else if k = last then m.updBuf n b RxBuf.unlock
    else m

/-- RB_WORD0_READ (R523). -/
def execRbWord0Read (n : Fin 3) (b : Fin 64) (s : State) : Host.Outcome State Fault Refusal :=
  .next (s.readBufferWord n.val b.val 0)

/-- RB_LAST_WORD_READ (R523). -/
def execRbLastWordRead (n : Fin 3) (b : Fin 64) (s : State) : Host.Outcome State Fault Refusal :=
  .next (s.runBc (s.canUp n.val && s.hostMode n.val b.val) fun m => m.updBuf n.val b.val RxBuf.unlock)

/-- A write of BUS_RBSTATn_b: UNLOCK without a lock has no effect (R548, R553). -/
def State.writeRbstat (s : State) (n b : Nat) (w : Word) : State :=
  s.runBc (s.canUp n && s.hostMode n b && w.getLsbD 8) fun m =>
    m.updBuf n b fun x => if x.lock then x.unlock else x

/-- RB_UNLOCK (R523). -/
def execRbUnlock (n : Fin 3) (b : Fin 64) (w : Word) (s : State) : Host.Outcome State Fault Refusal :=
  .next (s.writeRbstat n.val b.val (w ||| 0x100))

/-- A write of BUS_CANSTATn: a 1 clears IDCOLL or BOSEEN (R549). -/
def State.writeCanstat (s : State) (n : Nat) (w : Word) : State :=
  s.runBc (s.canUp n) fun m => m.updCan n fun c =>
    { c with idColl := c.idColl && !w.getLsbD 5, boSeen := c.boSeen && !w.getLsbD 4 }

/-! ### Island start (R514, R516, R518) -/

/-- The timing meets R516. -/
def State.canTiming (s : State) (n : Nat) : Bool :=
  let nbit := 3 + s.BUS_CANNBT_NTSEG1 n + s.BUS_CANNBT_NTSEG2 n
  let nper := (s.BUS_CANNBT_NBRP n + 1) * nbit
  let dbit := 3 + s.BUS_CANDBT_DTSEG1 n + s.BUS_CANDBT_DTSEG2 n
  let dper := (s.BUS_CANDBT_DBRP n + 1) * dbit
  s.BUS_CANNBT_NTSEG1 n != 0 && decide (8 ≤ nbit) && decide (80 ≤ nper) &&
    decide (s.BUS_CANNBT_NSJW n ≤ s.BUS_CANNBT_NTSEG2 n) &&
    (s.BUS_CANCTL_FDEN n == 0 ||
      (decide (5 ≤ dbit) && decide (10 ≤ dper) && decide (dper ≤ nper) &&
        decide (s.BUS_CANDBT_DSJW n ≤ s.BUS_CANDBT_DTSEG2 n))) &&
    (decide (80 ≤ dper) || s.BUS_CANTDC_TDCEN n == 1)

/-- Controller `n` at an island start: MODE taken, timing checked (R514, R516, R518). -/
def Bc.startCan (m : Bc) (n : Nat) : Bc :=
  let s := m.env
  if (s.tile 7 n).isNone then m.setCan n Can.reset
  else
    let bad := s.BUS_CANCTL_MODE n != 0 && !s.canTiming n
    let nper := (s.BUS_CANNBT_NBRP n + 1) * (3 + s.BUS_CANNBT_NTSEG1 n + s.BUS_CANNBT_NTSEG2 n)
    let m := m.setCan n { Can.reset with
      ctl := s.reg .BUS_CANCTL [n], cfgErr := bad, triple := s.BUS_CANCTL_TRIPLE n == 1 && decide (320 ≤ nper) }
    if bad then m.note 0x0C05 (leBytes 1 n ++ wordBytes (s.reg .BUS_CANNBT [n]) ++ wordBytes (s.reg .BUS_CANDBT [n])) else m

end Sys2Proof.Machine
end

