-- ==== Sys2Proof/Machine/NetTime.lean ====
section
/-! DEFINITION. The time service of chapter 15: network time, reference messages, the states of R545. -/

namespace Sys2Proof.Machine

/-- Network time at local time `l`, in ns (R544); with no anchor, as on a master, it is `l` itself. -/
def TimeSvc.nt (t : TimeSvc) (l : Int) : Int := t.na + (l - t.la) + rnDiv ((l - t.la) * (t.rate + t.corr)) 1000000000

/-- Local time at network time `n`, in ns (R544). -/
def TimeSvc.local_ (t : TimeSvc) (n : Int) : Int :=
  t.la + rnDiv ((n - t.na) * 1000000000) (1000000000 + t.rate + t.corr)

/-- The state lets Porlux stamp and check times (R564, R565). -/
def TimeSvc.synced (t : TimeSvc) : Bool := t.stat == .locked || t.stat == .holdover || t.stat == .master

/-! ### Porlux connections follow the time service (R564, R566) -/

def Bc.conn (m : Bc) (c : Nat) : Conn := m.porlux.conns.get Conn.reset c
def Bc.setConn (m : Bc) (c : Nat) (x : Conn) : Bc :=
  { m with porlux := { m.porlux with conns := m.porlux.conns.set Conn.reset c x } }
def Bc.updConn (m : Bc) (c : Nat) (f : Conn → Conn) : Bc := m.setConn c (f (m.conn c))

/-- A connection's state changes, with PX_STATE (R566, R574). -/
def Bc.connState (m : Bc) (c : Nat) (x : ConnState) : Bc :=
  let old := (m.conn c).state
  if old == x then m
  else (m.updConn c fun k => { k with state := x }).note 0x0C22 (leBytes 1 c ++ leBytes 1 (connCode old) ++ leBytes 1 (connCode x))

/-- Number of connections, from TILES (R150, R559). -/
def State.connCount (s : State) : Nat :=
  match s.tile 8 0 with
  | some t => t.arg.toNat
  | none => 0

/-- The connection transmits; TCHECK (R573, as they stood at the start). -/
def Conn.transmits (x : Conn) : Bool := x.state != .closed && x.cfg.getLsbD 30
def Conn.tcheck (x : Conn) : Bool := x.cfg.getLsbD 25

/-- A transmitting connection is HALTED while the engine is held, or TCHECK finds no network time (R564, R570). -/
def Bc.halts (m : Bc) (x : Conn) : Bool := m.porlux.intFlt || (x.tcheck && !m.time.synced)

/-- Every transmitting connection shows SENDING or HALTED as it stands. -/
def Bc.refreshTx (m : Bc) : Bc :=
  (List.range m.env.connCount).foldl (fun m c =>
    let x := m.conn c
    if x.transmits then m.connState c (if m.halts x then .halted else .sending) else m) m

/-- Enter a state, with TIME_STATE when it changes (R545, R555). -/
def Bc.timeState (m : Bc) (x : TimeState) : Bc :=
  let old := m.time.stat
  if old == x then m
  else
    let m := { m with time := { m.time with stat := x, good := 0 } }
    (m.note 0x0C10 (leBytes 1 (timeCode old) ++ leBytes 1 (timeCode x) ++ wordBytes (satWord m.time.err))).refreshTx

/-- ARG of the time service's TILES record: 1 master, 2 slave, 0 not instantiated (R150, R541). -/
def State.timeRole (s : State) : Nat :=
  match s.tile 9 0 with
  | some t => t.arg.toNat
  | none => 0

/-- The controller of the time service (R541, R554). -/
def State.timeCtrl (s : State) : Nat := if s.BUS_TSCTL_CTRL = 3 then 0 else s.BUS_TSCTL_CTRL

/-! ### The master (R541, R542) -/

/-- Data of the reference message with SEQ `q` (R541). -/
def TimeSvc.reference (t : TimeSvc) (node : Nat) (q : BitVec 16) : List Byte :=
  match t.sent with
  | some (p, lt) =>
    if p + 1 = q then leBytes 2 q.toNat ++ leBytes 1 node ++ [1] ++ leBytes 8 lt
    else leBytes 2 q.toNat ++ leBytes 1 node ++ List.replicate 9 0
  | none => leBytes 2 q.toNat ++ leBytes 1 node ++ List.replicate 9 0

/-- The master enters a reference message (R542). -/
def Bc.sendReference (m : Bc) : Bc :=
  let s := m.env
  let q := m.time.seq + 1
  let n := s.timeCtrl
  let ide := m.time.cfg.getLsbD 29
  let id := getBits m.time.cfg 28 0 % (if ide then 2 ^ 29 else 2 ^ 11)
  let head := BitVec.ofNat 32 (id + bit ide * 2 ^ 29 + 2 ^ 30 + s.BUS_CANTXPCFG_BRS n 0 * 2 ^ 31)
  let e := TxEntry.new .time 0 false head false false (m.time.reference s.BUS_TSCTL_NODE q)
  { m with time := { m.time with seq := q } }.enter n e

/-- TIME_REF_SEND (R542). -/
def execTimeRefSend (s : State) : Host.Outcome State Fault Refusal :=
  .next (s.runBc (s.canUp s.timeCtrl && s.time.stat == .master) Bc.sendReference)

/-! ### The slave (R543 to R545) -/

/-- The four steps of R544 at a pair. -/
def TimeSvc.pairStep (t : TimeSvc) (ls mt : Int) (rper filt : Nat) (stepns : Int) (free : Int) :
    TimeSvc × Bool :=
  let p := t.nt ls
  let err := mt - p
  let step := t.stat == .unsync || decide (stepns < absInt err)
  let corr := if step then 0 else clampInt (-500000) 500000 (rnDiv (err * 1000000000) ((rper : Int) * 1000000))
  let rate := match t.pair with
    | some (lp, mp) =>
      let r := if ls = lp then free else rnDiv (((mt - mp) - (ls - lp)) * 1000000000) (ls - lp)
      clampInt (-500000) 500000 (t.rate + rnDiv (r - t.rate) (2 ^ filt))
    | none => t.rate
  ({ t with la := ls, na := if step then mt else p, corr := corr, rate := rate, err := err, pair := some (ls, mt),
            steps := if step then satInc t.steps else t.steps }, step)

/-- The state after a pair (R545). -/
def Bc.pairState (m : Bc) : Bc :=
  let t := m.time
  let ok := decide (absInt t.err ≤ ((m.env.reg .BUS_TSLOCKNS).toNat : Int))
  match t.stat with
  | .unsync => m.timeState .acquiring
  | .acquiring =>
    if !ok then { m with time := { t with good := 0 } }
    else if 2 ≤ t.good then m.timeState .locked
    else { m with time := { t with good := t.good + 1 } }
  | .locked => if ok then m else m.timeState .acquiring
  | .holdover => m.timeState (if ok then .locked else .acquiring)
  | .off => m
  | .master => m

/-- A pair (Ls, Mt) evaluated, with TIME_STEP (R544, R545, R555). -/
def Bc.pair (m : Bc) (ls mt : Int) (q : BitVec 16) : Bc :=
  let p := m.time.nt ls
  let r := m.time.pairStep ls mt m.env.BUS_TSCTL_RPER m.env.BUS_TSCTL_RFILT ((m.env.reg .BUS_TSSTEPNS).toNat : Int)
    (Config.freeWord m.qf.fresh).toInt
  let m := { m with time := r.1, qf := { m.qf with fresh := m.qf.fresh + 1 } }
  let m := if r.2 then m.note 0x0C11 (wordBytes (toWord p) ++ wordBytes (toWord mt) ++ leBytes 2 q.toNat) else m
  m.pairState

/-- The oldest reference message taken is evaluated (R543). -/
def Bc.takeReference (m : Bc) : Bc :=
  match m.time.inbox with
  | [] => m
  | (d, lt) :: rest =>
    let q := BitVec.ofNat 16 (leAt d 0 2)
    let prev := m.time.prev
    let m := { m with time := { m.time with inbox := rest, seq := q, prev := some (q, lt) } }
    match prev with
    | some (p, l) =>
      if (d.getD 3 0).getLsbD 0 && p + 1 == q then m.pair (l : Int) ((leAt d 4 8 : Nat) : Int) q else m
    | none => m

/-- TIME_REF_RECEIVED (R544): a slave in one of its states. -/
def execTimeRefReceived (s : State) : Host.Outcome State Fault Refusal :=
  .next (s.runBc (s.runs .bus && s.timeRole == 2 && s.time.stat != .off) Bc.takeReference)

/-- HOLDOVER: CORR 0, network time going on from its present value at the last RATE (R545). -/
def Bc.holdover (m : Bc) : Bc :=
  let l : Int := m.env.dev * 1000
  let t := m.time
  { m with time := { t with la := l, na := t.nt l, corr := 0 } }.timeState .holdover

/-- TIME_HOLDOVER_TIMEOUT (R545). -/
def execTimeHoldoverTimeout (s : State) : Host.Outcome State Fault Refusal :=
  .next (s.runBc (s.runs .bus && (s.time.stat == .locked || s.time.stat == .acquiring)) Bc.holdover)

/-- TIME_UNSYNC_TIMEOUT (R545). -/
def execTimeUnsyncTimeout (s : State) : Host.Outcome State Fault Refusal :=
  .next (s.runBc (s.runs .bus && s.time.stat == .holdover) fun m => m.timeState .unsync)

/-! ### Reading and starting -/

/-- Network time `phase` BUS clock periods after the last µs tick (R520, R554). -/
def State.netNow (s : State) (phase : Nat) : BitVec 64 := BitVec.ofInt 64 (s.time.nt (s.dev * 1000 + phase * 25 / 2))

/-- A read of BUS_TSNTLO: its value, and BUS_TSNTHI latched from the same instant (R554). -/
def State.readTsntlo (s : State) (phase : Nat) : Word × State :=
  let n := s.netNow phase
  (n.setWidth 32, { s with time := { s.time with nthi := (n >>> 32).setWidth 32 } })

/-- TSNTLO_READ (R554). -/
def execTsntloRead (phase : Fin 80) (s : State) : Host.Outcome State Fault Refusal :=
  .next (if s.runs .bus && s.timeRole != 0 then (s.readTsntlo phase.val).2 else s)

/-- The time service at an island start (R545, R548). -/
def Bc.startTime (m : Bc) : Bc :=
  let m := { m with time := { TimeSvc.reset with cfg := m.env.reg .BUS_TSCFG } }
  match m.env.timeRole with
  | 1 => m.timeState .master
  | 2 => m.timeState .unsync
  | _ => m

end Sys2Proof.Machine
end

