-- ==== Sys2Proof/Machine/Porlux.lean ====
section
/-! DEFINITION. The Porlux engine of chapter 16: frames and their safety CRC, transmitting, the checks, delivery. -/

namespace Sys2Proof.Machine

/-! ### Connections -/

/-- KIND of a connection: 0 SAFETY, 1 DATA, 2 LEASE (R559). -/
def Conn.kind (x : Conn) : Nat := getBits x.cfg 29 28

/-- PLEN in bytes: a multiple of 4 from 4 to 40; SAFETY takes 8 (R573). -/
def Conn.plen (x : Conn) : Nat := if x.kind = 0 then 8 else getBits x.cfg 21 16 / 4 * 4

/-- LEN of the connection's frames (R556). -/
def Conn.len (x : Conn) : Nat := canLen (12 + x.plen)
def Conn.connId (x : Conn) : Nat := getBits x.cfg 15 0
def Conn.ctrl (x : Conn) : Nat := let n := getBits x.cfg 27 26; if n = 3 then 0 else n
def Conn.dport (x : Conn) : Nat := getBits x.map 10 8
def Conn.nviBase (x : Conn) : Nat := getBits x.map 23 20
def Conn.nviCnt (x : Conn) : Nat := getBits x.map 28 24

/-- The connection receives. -/
def Conn.receives (x : Conn) : Bool := x.state != .closed && !x.cfg.getLsbD 30

/-- Item words of one DATA fragment (R562). -/
def Conn.fragWords (x : Conn) : Nat := x.plen / 4 - 1

/-- Porlux works: BUS works and the engine is instantiated. -/
def State.pxUp (s : State) : Bool := s.runs .bus && (s.tile 8 0).isSome

/-! ### Times on the wire (R563, R569) -/

/-- Network time in µs at device time `t` (R563). -/
def TimeSvc.net (x : TimeSvc) (t : Nat) : Nat := (x.nt ((t : Int) * 1000) / 1000).toNat

/-- Device time in µs at network time `n` µs (R569). -/
def TimeSvc.devAt (x : TimeSvc) (n : Nat) : Nat := (x.local_ ((n : Int) * 1000) / 1000).toNat

/-- Convert the time an item word carries by `f`, the full time being the one nearest `near` (R563). -/
def convTime (t24 : Bool) (near : Nat) (f : Nat → Nat) (w : Word) : Word :=
  if t24 then setBits w 31 8 (f (extendNear 24 near (getBits w 31 8)))
  else BitVec.ofNat 32 (f (extendNear 32 near w.toNat))

/-- Convert the words of an item that TMASK marks. -/
def Conn.convWords (x : Conn) (near : Nat) (f : Nat → Nat) (ws : List Word) : List Word :=
  ws.zipIdx.map fun e =>
    if e.2 < 16 ∧ x.tm.getLsbD e.2 then convTime (x.tm.getLsbD (16 + e.2)) near f e.1 else e.1

/-! ### Frames (R556, R557) -/

/-- SEED of this unit's frames (R557). -/
def State.ownSeed (s : State) : Word :=
  match s.image with
  | some im => im.nodeId ^^^ im.setId
  | none => 0

/-- The data field of a frame. -/
def pxFrame (connId : Nat) (seq : BitVec 16) (stamp len : Nat) (seed : Word) (payload : List Byte) : List Byte :=
  let body := leBytes 2 connId ++ leBytes 2 seq.toNat ++ leBytes 4 stamp ++ payload
  let body := body ++ List.replicate (len - 4 - body.length) 0
  body ++ wordBytes (scrc seed body)

/-- Word 0 of the entry of a connection's frame. -/
def Conn.head (x : Conn) : Word :=
  let ide := x.can.getLsbD 29
  let id := getBits x.can 28 0 % (if ide then 2 ^ 29 else 2 ^ 11)
  BitVec.ofNat 32 (id + bit ide * 2 ^ 29 + 2 ^ 30 + bit (x.can.getLsbD 31) * 2 ^ 31)

/-- Connection `c` builds a frame with this payload and enters it; none is built while it is HALTED (R556, R561,
R564). -/
def Bc.pxSend (m : Bc) (c : Nat) (payload : List Word) : Bc :=
  let x := m.conn c
  if m.halts x then m
  else
    let seq := if x.built then x.lastSeq + 1 else 0
    let d := pxFrame x.connId seq (m.time.net m.env.dev) x.len m.env.ownSeed
      ((wordsBytes payload ++ List.replicate x.plen 0).take x.plen)
    let m := m.setConn c { x with lastSeq := seq, built := true }
    m.enter x.ctrl (TxEntry.new (.porlux c) 0 false x.head false false d)

/-! ### Transmitting (R561, R562, R578, R587) -/

/-- The newest network-virtual-output item staged within the last 2 ms, else zeros (R561). -/
def Bc.nvoWords (m : Bc) : List Word :=
  match m.porlux.nvo with
  | some (ws, t) => if m.env.dev ≤ t + 2000 then [ws.headD 0xFFFF0000, ws.getD 1 0] else [0xFFFF0000, 0]
  | none => [0xFFFF0000, 0]

/-- The payload of a SAFETY frame; with a lease gate word 1 carries the lease word (R561, R578). -/
def Bc.safetyPayload (m : Bc) : List Word :=
  let s := m.env
  if (s.tile 0x0B 0).isNone then m.nvoWords
  else if s.gate.stat == .active then [m.nvoWords.headD 0xFFFF0000, s.gate.held]
  else [0xFFFF0000, s.gate.high]

/-- The byte that names a unit in a lease frame; 0xFF none (R581). -/
def unitByte : Option Bool → Nat
  | some u => bit u
  | none => 0xFF

/-- The payload of a LEASE frame: a renewal, or with no holder the last one with WITHDRAW (R581, R587). -/
def Bc.leasePayload (m : Bc) : List Word :=
  let no := m.env.reg .BUS_LINUM
  let h := unitByte (if m.issuer.holder.isSome then m.issuer.holder else m.issuer.lastHolder)
  let wd := m.issuer.holder.isNone
  let rem := if wd then 0 else m.env.BUS_LICFG_LEASEMS * 1000
  [no, ~~~no, BitVec.ofNat 32 (h + 256 * (255 - h) + 65536 * bit wd), BitVec.ofNat 32 rem]

/-- The issuer notes the build time and REMAIN of a frame that names its holder (R588). -/
def Bc.noteNamed (m : Bc) : Bc :=
  if m.issuer.holder.isSome then
    { m with issuer := { m.issuer with named := some (m.env.dev, m.env.BUS_LICFG_LEASEMS * 1000) } }
  else m

/-- A transmitting SAFETY or LEASE connection builds its frame (R561). -/
def Bc.buildFrame (m : Bc) (c : Nat) : Bc :=
  let x := m.conn c
  if !x.transmits then m
  else if x.kind = 0 then m.pxSend c m.safetyPayload
  else if x.kind = 2 then (m.pxSend c m.leasePayload).noteNamed
  else m

/-- PX_FRAME_BUILD (R561). -/
def execPxFrameBuild (c : Fin 64) (s : State) : Host.Outcome State Fault Refusal :=
  let s := if s.pxUp then s.takeNvo else s
  .next (s.runBc s.pxUp fun m => m.buildFrame c.val)

/-- The fragments of an item from word `ofs` on, with consecutive SEQ (R562). -/
def Bc.sendFragments (m : Bc) (c : Nat) (ws : List Word) : Nat → Nat → Bc
  | 0, _ => m
  | n + 1, ofs =>
    let w := (m.conn c).fragWords
    let m := m.pxSend c (BitVec.ofNat 32 (ws.length + 256 * ofs) :: (ws.drop ofs).take w)
    if ofs + w < ws.length then m.sendFragments c ws n (ofs + w) else m

/-- The next item of a DATA connection's send port is sent; one with a POISON word is discarded and counted (R562). -/
def Bc.dataSend (m : Bc) (c : Nat) : Bc :=
  let x := m.conn c
  if !(x.transmits && x.kind == 1) || m.halts x then m
  else
    match m.qf.takeItem (0x0CD8 + x.dport) with
    | (none, q) => { m with qf := q }
    | (some it, q) =>
      let m := { m with qf := q }
      if it.poison || x.fragWords == 0 then m.updConn c fun x => { x with discards := satInc x.discards }
      else
        let ws := x.convWords m.env.dev m.time.net (it.words.take 16)
        m.sendFragments c ws 16 0

/-- PX_DATA_SEND (R562). -/
def execPxDataSend (c : Fin 64) (s : State) : Host.Outcome State Fault Refusal :=
  .next (s.runBc s.pxUp fun m => m.dataSend c.val)

/-- A DATA connection without a frame for PERIOD sends a heartbeat with K = 0 (R562). -/
def Bc.heartbeat (m : Bc) (c : Nat) : Bc :=
  let x := m.conn c
  if x.transmits && x.kind == 1 then m.pxSend c [0] else m

/-- PX_HEARTBEAT (R562). -/
def execPxHeartbeat (c : Fin 64) (s : State) : Host.Outcome State Fault Refusal :=
  .next (s.runBc s.pxUp fun m => m.heartbeat c.val)

/-! ### Network virtual inputs (R569, R579) -/

/-- The inputs a connection maps, as bits of the sixteen, while it is in RUN. -/
def Conn.inputs (x : Conn) : BitVec 16 :=
  if x.receives && x.kind == 0 && x.state == .run then
    (List.range x.nviCnt).foldl (fun (a : BitVec 16) k =>
      if x.values.getLsbD k then a ||| (1#16 <<< (x.nviBase + k)) else a) 0
  else 0

/-- Two connections form a redundant pair (R579). -/
def pairOf (a b : Conn) : Bool :=
  a.receives && b.receives && a.kind == 0 && b.kind == 0 && a.map.getLsbD 29 && b.map.getLsbD 29 &&
    a.nviBase == b.nviBase && a.nviCnt == b.nviCnt

/-- What a redundant pair delivers: the newer lease word's values, or both values' AND (R579). -/
def pairInputs (a b : Conn) : BitVec 16 :=
  match a.state == .run, b.state == .run with
  | true, true =>
    if a.word1 = b.word1 then a.inputs &&& b.inputs
    else if 0 < sDiff a.word1 b.word1 then a.inputs else b.inputs
  | true, false => a.inputs
  | false, true => b.inputs
  | false, false => 0

/-- The sixteen network virtual inputs; 0 while an internal check holds the engine (R569, R570). -/
def Bc.netInputs (m : Bc) : BitVec 16 :=
  if m.porlux.intFlt then 0
  else
    (List.range 32).foldl (fun (v : BitVec 16) j =>
      let a := m.conn (2 * j)
      let b := m.conn (2 * j + 1)
      v ||| (if pairOf a b then pairInputs a b else a.inputs ||| b.inputs)) 0

/-- Post the network-virtual-input item (R466, R569). -/
def Bc.postNvi (m : Bc) : Bc :=
  let v := m.netInputs
  let n := m.porlux.nviCnt + 1
  ({ m with porlux := { m.porlux with nviCnt := n, nviLast := v } }).post 0x0CE8
    [v.setWidth 32 ||| ((~~~v).setWidth 32 <<< 16), n]

/-- Post it where an input has changed. -/
def Bc.nviUpdate (m : Bc) : Bc := if m.netInputs = m.porlux.nviLast then m else m.postNvi

/-- NVI_POST_TICK (R569). -/
def execNviPostTick (s : State) : Host.Outcome State Fault Refusal :=
  .next (s.runBc s.pxUp Bc.postNvi)

/-! ### The checks (R565, R566) -/

/-- The watchdog of connection `c` expires in RUN (R567). -/
def Bc.watchdog (m : Bc) (c : Nat) : Bc :=
  let x := m.conn c
  if !(x.receives && x.state == .run) then m
  else
    let m := m.setConn c { x with expiries := satInc x.expiries }
    let m := m.note 0x0C20 (leBytes 1 c ++ leBytes 2 x.lastSeq.toNat ++ wordBytes x.period)
    (m.connState c .stale).nviUpdate

/-- PX_WATCHDOG_EXPIRE (R567). -/
def execPxWatchdogExpire (c : Fin 64) (s : State) : Host.Outcome State Fault Refusal :=
  .next (s.runBc s.pxUp fun m => m.watchdog c.val)

/-- Count a discarded frame of connection `c`, with PX_DISCARD at the first and then once a second (R565, R574). -/
def Bc.discard (m : Bc) (c : Nat) (code : Nat) (seq : Nat) : Bc :=
  let x := m.conn c
  let due := x.fresh || (match x.discAt with | some t => decide (t + 1000000 ≤ m.env.dev) | none => true)
  let m := m.setConn c { x with discards := satInc x.discards, lastErr := BitVec.ofNat 8 code, fresh := false,
                                discAt := if due then some m.env.dev else x.discAt }
  if due then m.note 0x0C21 (leBytes 1 c ++ leBytes 1 code ++ leBytes 2 seq) else m

/-- The receiving connection that a frame's CONNID, identifier and IDE name (R565). -/
def Bc.owner (m : Bc) (f : CanFrame) : Option Nat :=
  (List.range m.env.connCount).find? fun c =>
    let x := m.conn c
    x.receives && x.connId == leAt f.data 0 2 && x.can.getLsbD 29 == f.ide &&
      (x.head.setWidth 29 : BitVec 29) == f.id

/-- Signed age of a frame: reception in network time less its STAMP (R565). -/
def Bc.age (m : Bc) (r : PxRecord) : Int :=
  sDiff (BitVec.ofNat 32 (m.time.net r.at_)) (BitVec.ofNat 32 (leAt r.frame.data 4 4))

/-- Payload word `k` of a frame. -/
def pxWord (d : List Byte) (k : Nat) : Word := BitVec.ofNat 32 (leAt d (8 + 4 * k) 4)

/-- Check 9: the complements of a SAFETY or LEASE payload (R565, R581). -/
def complementOk (kind : Nat) (d : List Byte) : Bool :=
  match kind with
  | 0 => ((pxWord d 0).setWidth 16 : BitVec 16) == ~~~((pxWord d 0 >>> 16).setWidth 16)
  | 2 => pxWord d 1 == ~~~pxWord d 0 &&
      ((pxWord d 2).setWidth 8 : BitVec 8) == ~~~((pxWord d 2 >>> 8).setWidth 8)
  | _ => true

/-- Check 10: a fragment stands at OFS 0 or at the next expected offset, with the K of the item being assembled where one is
(R565). A heartbeat, of K 0, falls inside no item (R562). -/
def fragmentOk (x : Conn) (d : List Byte) : Bool :=
  let k := getBits (pxWord d 0) 4 0
  let ofs := getBits (pxWord d 0) 12 8
  if x.kind ≠ 1 then true
  else match x.asm with
    | some a => (ofs == 0 || a.next == ofs) && a.k == k
    | none => ofs == 0

/-- The first of checks 4 to 10 that a frame of its connection fails, 0 when it passes them (R565). -/
def Bc.checks (m : Bc) (c : Nat) (r : PxRecord) : Nat :=
  let x := m.conn c
  let s := m.env
  let d := r.frame.data
  let seq := BitVec.ofNat 16 (leAt d 2 2)
  let dist := (seq - x.lastSeq).toNat
  let age := m.age r
  if leAt d (d.length - 4) 4 ≠ (scrc x.node (d.take (d.length - 4))).toNat then 3
  else if dist = 0 then 4
  else if x.state == .run && decide (s.BUS_PXCMAP_SEQWIN c < dist) then 5
  else if x.tcheck && !m.time.synced then 7
  else if x.tcheck && (decide (age < -(s.BUS_PXCAGE_AGENEG c : Int)) || decide ((s.BUS_PXCAGE_AGEMAX c : Int) < age)) then 6
  else if !complementOk x.kind d then 8
  else if !fragmentOk x d then 9
  else 0

/-- The lease item of an accepted LEASE frame (R582). -/
def Bc.leaseItem (m : Bc) (r : PxRecord) : List Word :=
  let d := r.frame.data
  let w2 := pxWord d 2
  let exp : Int := (r.at_ : Int) + ((pxWord d 3).toNat : Int) - max (m.age r) 0
  [pxWord d 0, BitVec.ofNat 32 (getBits w2 7 0 + 256 * getBits w2 16 16), toWord exp, 0]

/-- A DATA fragment joins its item; a complete one goes to the delivery port in RUN (R565, R569). -/
def Bc.takeFragment (m : Bc) (c : Nat) (d : List Byte) : Bc :=
  let x := m.conn c
  let k := getBits (pxWord d 0) 4 0
  let ofs := getBits (pxWord d 0) 12 8
  if k = 0 then m
  else
    let w := x.fragWords
    let got := (List.range (min w (k - ofs))).map fun j => pxWord d (1 + j)
    let old := match x.asm with | some a => if ofs = 0 then [] else a.words | none => []
    let ws := old ++ got
    if k ≤ ofs + w then
      let m := m.setConn c { x with asm := none }
      if x.state == .run then
        m.post (0x0CE0 + x.dport) (x.convWords (m.time.net m.env.dev) m.time.devAt ws)
      else m
    else m.setConn c { x with asm := some { k := k, next := ofs + w, words := ws } }

/-- An accepted frame's values are delivered (R569, R582). -/
def Bc.deliver (m : Bc) (c : Nat) (r : PxRecord) : Bc :=
  let x := m.conn c
  let d := r.frame.data
  match x.kind with
  | 0 => (m.setConn c { x with values := (pxWord d 0).setWidth 16, word1 := pxWord d 1 }).nviUpdate
  | 1 => m.takeFragment c d
  | _ =>
    if x.state == .run && (m.env.tile 0x0B 0).isSome && m.env.gate.conn.toNat == c then
      ({ m with copy := { m.copy with latestHolder := (pxWord d 2).setWidth 8 } }).post 0x0CEA (m.leaseItem r)
    else m

/-- The state after an accepted frame with distance `dist` (R566). -/
def nextConnState (x : Conn) (dist : Nat) : ConnState :=
  match x.state with
  | .syncing => if x.accAt.isSome && dist == 1 then .run else .syncing
  | .stale => .syncing
  | st => st

/-- A frame passes every check; the watchdog restarts with PERIOD as it stands (R566, R567, R569, R571). -/
def Bc.accept (m : Bc) (c : Nat) (r : PxRecord) : Bc :=
  let x := m.conn c
  let seq := BitVec.ofNat 16 (leAt r.frame.data 2 2)
  let st := nextConnState x (seq - x.lastSeq).toNat
  let m := m.setConn c { x with lastSeq := seq, accAt := some r.at_, period := m.env.reg .BUS_PXCPER [c], fresh := true }
  (m.connState c st).deliver c r

/-- A frame of connection `c` whose length is right goes through checks 4 to 10; one later than PERIOD after the last comes
to a connection whose watchdog has expired (R571). -/
def Bc.checked (m : Bc) (c : Nat) (r : PxRecord) : Bc :=
  let x := m.conn c
  let late := match x.accAt with
    | some t => decide (t + x.period.toNat < r.at_)
    | none => false
  let m := if late then m.watchdog c else m
  match m.checks c r with
  | 0 => m.accept c r
  | code =>
    let m := m.discard c code (leAt r.frame.data 2 2)
    let m := if code = 5 then (m.connState c .syncing).nviUpdate else m
    if code = 9 then m.updConn c fun x => { x with asm := none } else m

/-- The oldest frame record is checked (R565); while the engine is held it is dropped. -/
def Bc.takeRecord (m : Bc) (parity : Bool) : Bc :=
  match m.porlux.inbox with
  | [] => m
  | r :: rest =>
    let m := { m with porlux := { m.porlux with inbox := rest } }
    if m.porlux.intFlt then m
    else
      let f := r.frame
      let seq := leAt f.data 2 2
      let lens := (List.range m.env.connCount).filter fun c =>
        (m.conn c).receives && (m.conn c).len == f.data.length
      match m.owner f with
      | some c =>
        if parity then m.discard c 0x0A seq
        else if !f.fdf || (m.conn c).len != f.data.length then m.discard c 1 seq
        else m.checked c r
      | none =>
        if parity || !f.fdf || lens.isEmpty then m
        else { m with porlux := { m.porlux with unknown := satInc m.porlux.unknown } }

/-- PX_FRAME_RECEIVE (R565). -/
def execPxFrameReceive (parity : Bool) (s : State) : Host.Outcome State Fault Refusal :=
  .next (s.runBc s.pxUp fun m => m.takeRecord parity)

/-! ### Internal checks, counters, start (R570 to R572) -/

/-- An internal check fails on a frame or the table entry of connection `c` (R570, R574). -/
def Bc.internal (m : Bc) (c : Nat) (kind : PxFault) : Bc :=
  let m := { m with porlux := { m.porlux with intFlt := true } }
  let m := m.note 0x0C23 (leBytes 1 c ++ leBytes 1 (match kind with | .recheck => 1 | .parity => 2))
  m.refreshTx.nviUpdate

/-- PX_INTERNAL (R570). -/
def execPxInternal (c : Fin 64) (kind : PxFault) (s : State) : Host.Outcome State Fault Refusal :=
  .next (s.runBc s.pxUp fun m => m.internal c.val kind)

/-- The engine resumes after a transient classification (R570). -/
def Bc.resume (m : Bc) : Bc :=
  ({ m with porlux := { m.porlux with intFlt := false } }).refreshTx.nviUpdate

/-- A write of BUS_PXCTL (R572). -/
def State.writePxctl (s : State) (w : Word) : State :=
  s.runBc (s.pxUp && w.getLsbD 0) fun m =>
    let p := m.porlux
    let conns := (List.range 64).foldl (fun t c => t.modify Conn.reset c fun x => { x with discards := 0, expiries := 0 }) p.conns
    { m with porlux := { p with unknown := 0, conns := conns } }

/-- PX_CLRCNT (R572). -/
def execPxClrcnt (w : Word) (s : State) : Host.Outcome State Fault Refusal := .next (s.writePxctl (w ||| 1))

/-- Connection `c` at an island start: its registers taken, then SYNCING, SENDING or HALTED (R566, R571). -/
def Bc.startConn (m : Bc) (c : Nat) : Bc :=
  let s := m.env
  let cfg := s.reg .BUS_PXCCFG [c]
  if s.BUS_PXCCFG_EN c = 0 ∨ s.BUS_PXCCFG_KIND c = 3 then m
  else
    let m := m.setConn c { Conn.reset with cfg := cfg, can := s.reg .BUS_PXCCAN [c], node := s.reg .BUS_PXCNODE [c],
                                           map := s.reg .BUS_PXCMAP [c], tm := s.reg .BUS_PXCTM [c] }
    if cfg.getLsbD 30 then m.connState c (if m.halts (m.conn c) then .halted else .sending) else m.connState c .syncing

/-- Every connection at an island start (R571). -/
def Bc.startPorlux (m : Bc) : Bc :=
  (List.range m.env.connCount).foldl Bc.startConn { m with porlux := Porlux.reset }

end Sys2Proof.Machine
end

