-- ==== Sys2Proof/Machine/FigCode.lean ====
section
/-! DEFINITION. The step words of a figure: the 32 operations of R419 with their operands, decoding (R418) and
encoding. -/

namespace Sys2Proof.Machine

/-- KIND of WAIT (R422). -/
inductive WaitKind where
  | qready | qroom | evAny | in1 | in0 | timer
  deriving DecidableEq, Repr

/-- A figure step with its operands (R419). -/
inductive FigStep where
  | nop
  | ldi (rd : BitVec 4) (imm : BitVec 23)
  | ldw (rd : BitVec 4) (lit : Word)
  | mov (rd ra : BitVec 4)
  | add (rd ra rb : BitVec 4)
  | sub (rd ra rb : BitVec 4)
  | addi (rd ra : BitVec 4) (imm : BitVec 15)
  | and (rd ra rb : BitVec 4)
  | or (rd ra rb : BitVec 4)
  | xor (rd ra rb : BitVec 4)
  | shl (rd ra : BitVec 4) (amount : BitVec 5)
  | shr (rd ra : BitVec 4) (logical : Bool) (amount : BitVec 5)
  | br (cond : BitVec 3) (ra rb : BitVec 4) (target : BitVec 12)
  | bri (cond : BitVec 3) (ra : BitVec 4) (imm : BitVec 8) (target : BitVec 12)
  | jmp (target : BitVec 12)
  | call (target : BitVec 12)
  | ret
  | end_ (status : BitVec 8)
  | rdreg (rd : BitVec 4) (addr : Word)
  | wrreg (ra : BitVec 4) (addr : Word)
  | post (port ra n1 : BitVec 4)
  | recv (port rd n1 : BitVec 4)
  | flush (port : BitVec 4) (producer : Bool)
  | move (port ra kind : BitVec 4) (blend revok quick ovr : Bool) (table : BitVec 5)
  | wait (kind : WaitKind) (arg : BitVec 8) (timer : BitVec 4) (else_ : BitVec 12)
  | tset (timer : BitVec 3) (unit : BitVec 2) (src : Bool) (ra : BitVec 4) (imm : BitVec 17)
  | trd (rd : BitVec 4) (timer : BitVec 3)
  | raise (ra : BitVec 4) (code : BitVec 8)
  | sig (engine : BitVec 2) (mask : BitVec 8)
  | outl (line : BitVec 6) (val : Bool)
  | inl (rd : BitVec 4) (line : BitVec 6)
  | devt (rd : BitVec 4)
  deriving DecidableEq, Repr

/-- KIND of WAIT from its field; 0x6 and 0x7 are refused (R422). -/
def waitKindOf (k : BitVec 3) : Option WaitKind :=
  match k.toNat with
  | 0 => some .qready
  | 1 => some .qroom
  | 2 => some .evAny
  | 3 => some .in1
  | 4 => some .in0
  | 5 => some .timer
  | _ => none

/-- The field of KIND of WAIT (R422). -/
def waitKindBits : WaitKind → BitVec 3
  | .qready => 0 | .qroom => 1 | .evAny => 2 | .in1 => 3 | .in0 => 4 | .timer => 5

/-- Bits `hi` down to `lo` of a step word. -/
def fld (w : Word) (hi lo : Nat) : BitVec (hi - lo + 1) := w.extractLsb hi lo

/-- The step a step word encodes, with the word that follows it; none for a word outside the encodings of R418
to R424, R429 and R432. -/
def figDecode (w lit : Word) : Option FigStep :=
  let rd := fld w 26 23
  let ra := fld w 22 19
  let rb := fld w 18 15
  let z (ok : Bool) (st : FigStep) : Option FigStep := if ok then some st else none
  match (fld w 31 27).toNat with
  | 0x00 => z (fld w 26 0 == 0) .nop
  | 0x01 => some (.ldi rd (fld w 22 0))
  | 0x02 => z (fld w 22 0 == 0) (.ldw rd lit)
  | 0x03 => z (fld w 18 0 == 0) (.mov rd ra)
  | 0x04 => z (fld w 14 0 == 0) (.add rd ra rb)
  | 0x05 => z (fld w 14 0 == 0) (.sub rd ra rb)
  | 0x06 => z (rb == 0) (.addi rd ra (fld w 14 0))
  | 0x07 => z (fld w 14 0 == 0) (.and rd ra rb)
  | 0x08 => z (fld w 14 0 == 0) (.or rd ra rb)
  | 0x09 => z (fld w 14 0 == 0) (.xor rd ra rb)
  | 0x0A => z (fld w 18 5 == 0) (.shl rd ra (fld w 4 0))
  | 0x0B => z (fld w 18 6 == 0) (.shr rd ra (w.getLsbD 5) (fld w 4 0))
  | 0x0C => z (fld w 15 12 == 0) (.br (fld w 26 24) (fld w 23 20) (fld w 19 16) (fld w 11 0))
  | 0x0D => some (.bri (fld w 26 24) (fld w 23 20) (fld w 19 12) (fld w 11 0))
  | 0x0E => z (fld w 26 12 == 0) (.jmp (fld w 11 0))
  | 0x0F => z (fld w 26 12 == 0) (.call (fld w 11 0))
  | 0x10 => z (fld w 26 0 == 0) .ret
  | 0x11 => z (fld w 26 8 == 0) (.end_ (fld w 7 0))
  | 0x12 => z (fld w 22 0 == 0) (.rdreg rd lit)
  | 0x13 => z (fld w 22 0 == 0) (.wrreg rd lit)
  | 0x14 => z (fld w 14 0 == 0) (.post rd ra rb)
  | 0x15 => z (fld w 14 0 == 0) (.recv rd ra rb)
  | 0x16 => z (fld w 21 0 == 0) (.flush rd (w.getLsbD 22))
  | 0x17 =>
    z (fld w 5 0 == 0) (.move rd ra rb (w.getLsbD 14) (w.getLsbD 13) (w.getLsbD 12) (w.getLsbD 11) (fld w 10 6))
  | 0x18 =>
    match waitKindOf (fld w 26 24) with
    | some k => z ((fld w 15 12).toNat < 8 || fld w 11 0 == 0) (.wait k (fld w 23 16) (fld w 15 12) (fld w 11 0))
    | none => none
  | 0x19 => z (fld w 23 22 != 3) (.tset (fld w 26 24) (fld w 23 22) (w.getLsbD 21) (fld w 20 17) (fld w 16 0))
  | 0x1A => z (fld w 19 0 == 0) (.trd rd (fld w 22 20))
  | 0x1B => z (fld w 14 0 == 0 && w.getLsbD 22) (.raise rd (fld w 22 15))
  | 0x1C => z (fld w 16 0 == 0) (.sig (fld w 26 25) (fld w 24 17))
  | 0x1D => z (fld w 19 0 == 0) (.outl (fld w 26 21) (w.getLsbD 20))
  | 0x1E => z (fld w 16 0 == 0) (.inl rd (fld w 22 17))
  | 0x1F => z (fld w 22 0 == 0) (.devt rd)
  | _ => none

/-- A field at bit `lo` of a step word. -/
def at_ {n : Nat} (b : BitVec n) (lo : Nat) : Word := b.setWidth 32 <<< lo

/-- OP, RD, RA and RB in their places (R418). -/
def opWord (op : BitVec 5) (rd ra rb : BitVec 4) : Word := at_ op 27 ||| at_ rd 23 ||| at_ ra 19 ||| at_ rb 15

/-- One bit as a field. -/
def bit1 (b : Bool) : BitVec 1 := if b then 1 else 0

/-- The first word of a step (R418, R419). -/
def FigStep.word : FigStep → Word
  | .nop => opWord 0x00 0 0 0
  | .ldi rd imm => opWord 0x01 rd 0 0 ||| at_ imm 0
  | .ldw rd _ => opWord 0x02 rd 0 0
  | .mov rd ra => opWord 0x03 rd ra 0
  | .add rd ra rb => opWord 0x04 rd ra rb
  | .sub rd ra rb => opWord 0x05 rd ra rb
  | .addi rd ra imm => opWord 0x06 rd ra 0 ||| at_ imm 0
  | .and rd ra rb => opWord 0x07 rd ra rb
  | .or rd ra rb => opWord 0x08 rd ra rb
  | .xor rd ra rb => opWord 0x09 rd ra rb
  | .shl rd ra n => opWord 0x0A rd ra 0 ||| at_ n 0
  | .shr rd ra l n => opWord 0x0B rd ra 0 ||| at_ (bit1 l) 5 ||| at_ n 0
  | .br c ra rb t => at_ (0x0C#5) 27 ||| at_ c 24 ||| at_ ra 20 ||| at_ rb 16 ||| at_ t 0
  | .bri c ra imm t => at_ (0x0D#5) 27 ||| at_ c 24 ||| at_ ra 20 ||| at_ imm 12 ||| at_ t 0
  | .jmp t => at_ (0x0E#5) 27 ||| at_ t 0
  | .call t => at_ (0x0F#5) 27 ||| at_ t 0
  | .ret => opWord 0x10 0 0 0
  | .end_ st => at_ (0x11#5) 27 ||| at_ st 0
  | .rdreg rd _ => opWord 0x12 rd 0 0
  | .wrreg ra _ => opWord 0x13 ra 0 0
  | .post p ra n1 => opWord 0x14 p ra n1
  | .recv p rd n1 => opWord 0x15 p rd n1
  | .flush p side => opWord 0x16 p 0 0 ||| at_ (bit1 side) 22
  | .move p ra k b r q o t =>
    opWord 0x17 p ra k ||| at_ (bit1 b) 14 ||| at_ (bit1 r) 13 ||| at_ (bit1 q) 12 ||| at_ (bit1 o) 11 ||| at_ t 6
  | .wait k arg tm e => at_ (0x18#5) 27 ||| at_ (waitKindBits k) 24 ||| at_ arg 16 ||| at_ tm 12 ||| at_ e 0
  | .tset t u src ra imm =>
    at_ (0x19#5) 27 ||| at_ t 24 ||| at_ u 22 ||| at_ (bit1 src) 21 ||| at_ ra 17 ||| at_ imm 0
  | .trd rd t => at_ (0x1A#5) 27 ||| at_ rd 23 ||| at_ t 20
  | .raise ra c => at_ (0x1B#5) 27 ||| at_ ra 23 ||| at_ c 15
  | .sig e m => at_ (0x1C#5) 27 ||| at_ e 25 ||| at_ m 17
  | .outl l v => at_ (0x1D#5) 27 ||| at_ l 21 ||| at_ (bit1 v) 20
  | .inl rd l => at_ (0x1E#5) 27 ||| at_ rd 23 ||| at_ l 17
  | .devt rd => opWord 0x1F rd 0 0

/-- The second word of a two-word step (R418). -/
def FigStep.lit : FigStep → Option Word
  | .ldw _ v => some v
  | .rdreg _ a => some a
  | .wrreg _ a => some a
  | _ => none

/-- Operands inside the encodings: the limits R421, R423, R424 and R432 set on a step's own fields. -/
def FigStep.ok : FigStep → Bool
  | .wait _ _ tm e => tm.toNat < 8 || e == 0
  | .tset _ u _ _ _ => u != 3
  | .raise _ c => c.getLsbD 7
  | _ => true

/-- Words a step occupies (R419). -/
def FigStep.size (st : FigStep) : Nat := if st.lit.isSome then 2 else 1

end Sys2Proof.Machine
end

