-- ==== Sys2Proof/Machine/Figure.lean ====
section
/-! DEFINITION. The figure engines (chapter 12): figures' steps, waits and timers, register accesses, starting,
aborting and faults. -/

namespace Sys2Proof.Machine

/-! ### The part of the device SEQ changes -/

/-- What a step of SEQ can change, beside the device before the step. -/
structure Fc where
  env  : State
  seqr : Seqr
  qf   : Qf

def State.fc (s : State) : Fc := { env := s, seqr := s.seqr, qf := s.qf }

/-- The device with the result. -/
def State.withFc (s : State) (x : Fc) : State :=
  { s with seqr := x.seqr, fabric := x.qf.fabric, recorder := x.qf.recorder, ports := x.qf.ports, fresh := x.qf.fresh }

def Fc.note (x : Fc) (code : Nat) (data : List Byte := []) : Fc := { x with qf := x.qf.note code data }
def Fc.post (x : Fc) (port : Nat) (ws : List Word) : Fc := { x with qf := x.qf.post port ws }
def Fc.fig (x : Fc) (f : Nat) : Figure := x.seqr.figs.get Figure.reset f
def Fc.setFig (x : Fc) (f : Nat) (g : Figure) : Fc :=
  { x with seqr := { x.seqr with figs := x.seqr.figs.set Figure.reset f g } }

/-- Figure engine `f` is instantiated (R150, R413). -/
def State.figTile (s : State) (f : Nat) : Bool := (s.tile 6 f).isSome

/-- Figure engine `f` works: instantiated, SEQ running, its block not quarantined (R20, R41, R488). -/
def State.figRuns (s : State) (f : Nat) : Bool := s.figTile f && s.runs .seq && !s.quarantined (6 + f)

/-- Consumer and producer endpoints of a figure port (R426). -/
def figIn (f q : Nat) : Nat := 0x0B00 + f * 0x20 + q
def figOut (f q : Nat) : Nat := 0x0B10 + f * 0x20 + q

/-- Endpoints of a register request and its reply, at the engine and at island `i` (R426). -/
def regReqOut (f i : Nat) : Nat := 0x0B80 + f * 0x10 + i
def regRepIn (f i : Nat) : Nat := 0x0BC0 + f * 0x10 + i
def regReqIn (f i : Nat) : Nat := i * 0x100 + 0xF8 + f
def regRepOut (f i : Nat) : Nat := i * 0x100 + 0xFC + f

/-! ### Registers, timers and flags of one engine -/

def Figure.g (x : Figure) (r : BitVec 4) : Word := x.regs.get 0 r.toNat
def Figure.setG (x : Figure) (r : BitVec 4) (w : Word) : Figure := { x with regs := x.regs.set 0 r.toNat w }
def Figure.word (x : Figure) (a : BitVec 12) : Word := x.store.get 0 a.toNat

/-- The step at PC (R418, R419). -/
def Figure.step (x : Figure) : Option FigStep := figDecode (x.word x.pc) (x.word (x.pc + 1))

/-- Words G[RA] to G[RA + n - 1]. -/
def Figure.run (x : Figure) (ra : BitVec 4) (n : Nat) : List Word := (List.range n).map fun k => x.regs.get 0 (ra.toNat + k)

/-- Words put into G[RD] onward. -/
def Figure.putRun (x : Figure) (rd : Nat) (ws : List Word) : Figure :=
  { x with regs := ws.zipIdx.foldl (fun t e => t.set 0 (rd + e.2) e.1) x.regs }

def Figure.timer (x : Figure) (t : Nat) : FigTimer := x.timers.get .stopped t

/-- A timer reads EXPIRED at device time `dev` (R424). -/
def FigTimer.done (t : FigTimer) (dev : Nat) : Bool :=
  match t with
  | .expired => true
  | .running u => decide (u ≤ dev)
  | .stopped => false

/-- Remaining µs of a timer, 0 when stopped or expired (R419, R442). -/
def FigTimer.rem (t : FigTimer) (dev : Nat) : Nat :=
  match t with
  | .running u => u - dev
  | _ => 0

/-- A timer as TSET loads it (R424). -/
def FigTimer.load (value unit dev : Nat) : FigTimer :=
  let us := min (value * (match unit with | 0 => 1 | 1 => 1000 | _ => 1000000)) 0xFFFFFFFF
  if us = 0 then .expired else .running (dev + us)

/-- An engine that executes steps: RUNNING or ABORTING and not suspended (R414). -/
def Figure.executes (x : Figure) : Bool := (x.stat == .running || x.stat == .aborting) && x.waiting == .none

/-- Suspended in its step; an abort handler stays ABORTING while it waits (R414). -/
def Figure.suspend (x : Figure) (w : FigWait) : Figure :=
  { x with waiting := w, stat := if x.stat == .running then .waiting else x.stat }

def Figure.resume (x : Figure) : Figure :=
  { x with waiting := .none, stat := if x.stat == .waiting then .running else x.stat }

/-- COND of R420. -/
def condHolds (c : BitVec 3) (a b : Word) : Bool :=
  match c.toNat with
  | 0 => a == b
  | 1 => a != b
  | 2 => decide (sInt a < sInt b)
  | 3 => decide (sInt b ≤ sInt a)
  | 4 => decide (a.toNat < b.toNat)
  | 5 => decide (b.toNat ≤ a.toNat)
  | 6 => a &&& b != 0
  | _ => a &&& b == 0

/-! ### Faults, ends and step completion -/

/-- The island a suspended register access waits for. -/
def Figure.regIsland (x : Figure) : Option Nat :=
  match x.waiting, x.step with
  | .reg, some (.rdreg _ a) => islandAt a.toNat
  | .reg, some (.wrreg _ a) => islandAt a.toNat
  | _, _ => none

/-- The pending step is cancelled; a register reply still to come is discarded when it comes (R437, R439). -/
def Figure.cancel (x : Figure) : Figure := { x with waiting := .none }

/-- Return the output lines an engine drives to high impedance (R435). -/
def Seqr.release (q : Seqr) (f : Nat) : Seqr :=
  { q with
    outDriven := (List.range 64).foldl
      (fun d n => if q.outOwner.get none n == some f then d &&& ~~~(1#64 <<< n) else d) q.outDriven
    outOwner := q.outOwner.filter fun e => e.2 != some f }

/-- Engine `f` enters FAULT (R435, R444). -/
def Fc.fault (x : Fc) (f : Nat) (g : Figure) (cause : BitVec 4) : Fc :=
  let g := { g.cancel with stat := .fault, timers := [], result := 4, cause := cause }
  let x := x.setFig f g
  { x with seqr := x.seqr.release f }.note 0x0B04
    (leBytes 1 f ++ leBytes 1 cause.toNat ++ leBytes 2 g.pc.toNat ++ leBytes 4 g.steps.toNat)

/-- The record of an ending (R438, R444). -/
def Fc.noteEnd (x : Fc) (f : Nat) (g : Figure) : Fc :=
  x.note 0x0B02 (leBytes 1 f ++ leBytes 1 g.result.toNat ++ leBytes 1 g.endst.toNat ++ leBytes 2 g.pc.toNat)

/-- STEPMAX steps without a completed WAIT (R425). -/
def Fc.runaway (x : Fc) (f : Nat) (g : Figure) : Bool := decide (x.env.SEQ_FSTEPMAX f ≤ g.since)

/-- The step of engine `f` ends and execution continues at `pc`, or RUNAWAY stops it (R417, R425). -/
def Fc.goto (x : Fc) (f : Nat) (g : Figure) (pc : BitVec 12) : Fc :=
  if x.runaway f g then x.fault f g 2 else x.setFig f { g with pc := pc }

/-- The step of engine `f` ends and execution continues behind its words. -/
def Fc.next (x : Fc) (f : Nat) (g : Figure) (size : BitVec 12 := 1) : Fc := x.goto f g (g.pc + size)

/-- Engine `f` executes the step at PC where `run` knows it: a word that fails its parity check faults with STORE,
any other step counts in STEPS (R417, R425, R435). -/
def State.figStep (s : State) (f : Nat) (bad : Bool) (run : FigStep → Option (Fc → Figure → Fc)) : State :=
  let x := s.fc
  let g := x.fig f
  if s.figRuns f && g.executes then
    match g.step with
    | some st =>
      match run st with
      | some act =>
        if bad then s.withFc (x.fault f g 5)
        else s.withFc (act x { g with steps := satInc g.steps, since := g.since + 1 })
      | none => s
    | none => s
  else s

/-! ### Input lines -/

/-- The levels of the input lines whose pads PINMUX maps; the other lines read 0 (R434). -/
def State.inputLines (s : State) (pads : BitVec 64) : BitVec 64 :=
  match s.image with
  | some im =>
    im.pins.foldl (fun (m : BitVec 64) (p : PinRec) =>
      if p.func == 0x10 then m ||| (pads &&& (1#64 <<< (p.arg.toNat % 64))) else m) 0
  | none => 0

/-- SEQ sees the pads' levels. -/
def State.seePads (s : State) (pads : BitVec 64) : State :=
  { s with seqr := { s.seqr with inLvl := s.inputLines pads } }

/-! ### WAIT (R422, R423) -/

/-- SEQ's view of its consumer ports follows the pool: what is visible at the port a WAIT names has been pushed to a free slot of
its stage (R195, R199). -/
def Fc.waitView (x : Fc) (f : Nat) (kind : WaitKind) (arg : BitVec 8) : Fc :=
  match kind with
  | .qready => { x with qf := x.qf.stagePort (figIn f (arg.toNat % 16)) }
  | _ => x

/-- The condition of a WAIT holds; a consumer port shows EMPTY 0 while an item is staged (R195). -/
def Fc.waitHolds (x : Fc) (f : Nat) (g : Figure) (kind : WaitKind) (arg : BitVec 8) : Bool :=
  match kind with
  | .qready => !(x.qf.fabric.stage (figIn f (arg.toNat % 16))).isEmpty
  | .qroom =>
    match x.qf.fabric.portCredit (figOut f (arg.toNat % 16)) with
    | some c => decide (arg.toNat / 16 + 1 ≤ c)
    | none => false
  | .evAny => g.flags &&& arg != 0
  | .in1 => x.seqr.inLvl.getLsbD (arg.toNat % 64)
  | .in0 => !x.seqr.inLvl.getLsbD (arg.toNat % 64)
  | .timer => (g.timer (arg.toNat % 8)).done x.env.dev

/-- A WAIT completes: the matched flags are cleared and the step count of R425 restarts (R422, R425). -/
def Fc.waitDone (x : Fc) (f : Nat) (g : Figure) (kind : WaitKind) (arg : BitVec 8) : Fc :=
  let g := { g.resume with since := 0, flags := if kind = WaitKind.evAny then g.flags &&& ~~~arg else g.flags }
  x.setFig f { g with pc := g.pc + 1 }

/-- A WAIT completes when its condition holds, else leaves through ELSE when its timer has expired, else waits. -/
def Fc.waitStep (x : Fc) (f : Nat) (g : Figure) (kind : WaitKind) (arg : BitVec 8) (tm : BitVec 4)
    (else_ : BitVec 12) : Fc :=
  let x := x.waitView f kind arg
  if x.waitHolds f g kind arg then x.waitDone f g kind arg
  else if decide (tm.toNat < 8) && (g.timer tm.toNat).done x.env.dev then x.goto f g.resume else_
  else x.setFig f (g.suspend .wait)

/-- A suspended WAIT is looked at again. -/
def Fc.waitAgain (x : Fc) (f : Nat) : Fc :=
  let g := x.fig f
  match g.waiting, g.step with
  | .wait, some (.wait kind arg tm else_) => x.waitStep f g kind arg tm else_
  | _, _ => x

/-! ### RECV (R427) -/

/-- An item, or its absence, is written to the registers of a RECV. -/
def Figure.recvItem (g : Figure) (rd n1 : BitVec 4) (it : Option Item) : Figure :=
  match it with
  | none => g.setG 15 0
  | some it =>
    if it.poison then g.setG 15 0xFFFFFFFF
    else (g.putRun rd.toNat (it.words.take (n1.toNat + 1))).setG 15 (BitVec.ofNat 32 it.words.length)

/-- RECV takes the next item of its port, or waits for one. -/
def Fc.recvStep (x : Fc) (f : Nat) (g : Figure) (port rd n1 : BitVec 4) : Fc :=
  match x.qf.takeItem (figIn f port.toNat) with
  | (some it, qf) => Fc.next { x with qf := qf } f (g.resume.recvItem rd n1 (some it))
  | (none, _) => x.setFig f (g.suspend .recv)

/-- The figure engine whose consumer port has this endpoint code, with the port (R426). -/
def figPortOf (code : Nat) : Option (Nat × Nat) :=
  if 0x0B00 ≤ code ∧ code < 0x0B80 ∧ code % 0x20 < 16 then some ((code - 0x0B00) / 0x20, code % 16) else none

/-- A RECV suspended at the port is looked at again; `timeout` ends it with no item (R208, R427). -/
def Fc.recvAgain (x : Fc) (code : Nat) (timeout : Bool) : Fc :=
  match figPortOf code with
  | none => x
  | some (f, q) =>
    let g := x.fig f
    match g.waiting, g.step with
    | .recv, some (.recv port rd n1) =>
      if port.toNat ≠ q then x
      else if timeout then x.next f (g.resume.recvItem rd n1 none)
      else x.recvStep f g port rd n1
    | _, _ => x

/-- A RECV suspended at any port is looked at again. -/
def Fc.recvLook (x : Fc) (f : Nat) : Fc :=
  let g := x.fig f
  match g.waiting, g.step with
  | .recv, some (.recv port rd n1) => x.recvStep f g port rd n1
  | _, _ => x

/-- After QUIESCE each engine acts on what came while it held: an item staged, a condition met, a timer expired (R439). -/
def State.resumeFigures (s : State) : State :=
  s.withFc ((List.range 4).foldl (fun x f => if s.figRuns f then (x.waitAgain f).recvLook f else x) s.fc)

/-- STAGE_PUSH (R194): QF pushes an item; a RECV that waits at the port takes it. -/
def execStagePush (p : StagePort) (bad : List Bool) (broken : Bool) (s : State) : Host.Outcome State Fault Refusal :=
  let s := s.withQf ((s.qf.disturb p bad).push p broken)
  match p with
  | .engine code => .next (if s.runs .seq then s.withFc (s.fc.recvAgain code.toNat false) else s)
  | .host _ => .next s

/-- STALL_READ_TIMEOUT (R208): the waiting read ends with no data, a figure's RECV with G15 0 (R427). -/
def execStallReadTimeout (p : StagePort) (s : State) : Host.Outcome State Fault Refusal :=
  let s := { s with fabric := s.fabric.stallTimeout (stageKey p) }
  match p with
  | .engine code => .next (if s.runs .seq then s.withFc (s.fc.recvAgain code.toNat true) else s)
  | .host _ => .next s

/-! ### SEQ's registers (R440 to R443) -/

/-- A register of SEQ that shows its state; none for one that stands in the register table. -/
def State.seqView (s : State) (r : Reg) (idx : List Nat) : Option Word :=
  let f := idx.headD 0
  let g := s.seqr.figs.get Figure.reset f
  match r with
  | .SEQ_FCTL | .SEQ_FSIG => some 0
  | .SEQ_FSTAT => some (BitVec.ofNat 32 (g.pc.toNat * 2 ^ 20 + g.stack.length * 2 ^ 16 + g.cause.toNat * 2 ^ 8 +
      g.result.toNat * 2 ^ 4 + figCode g.stat))
  | .SEQ_FEND => some (g.endst.setWidth 32)
  | .SEQ_FFLAG => some (g.flags.setWidth 32)
  | .SEQ_FSTEPS => some g.steps
  | .SEQ_FG => some (g.regs.get 0 (idx.getD 1 0))
  | .SEQ_FTMR => some (BitVec.ofNat 32 ((g.timer (idx.getD 1 0)).rem s.dev))
  | .SEQ_FTMRST => some (BitVec.ofNat 32 ((List.range 8).map fun t =>
      (match g.timer t with
        | .stopped => 0
        | .running u => if u ≤ s.dev then 2 else 1
        | .expired => 2) * 2 ^ (2 * t)).sum)
  | .SEQ_OUTLVL0 => some (s.seqr.outLvl.setWidth 32)
  | .SEQ_OUTLVL1 => some ((s.seqr.outLvl >>> 32).setWidth 32)
  | .SEQ_INLVL0 => some (s.seqr.inLvl.setWidth 32)
  | .SEQ_INLVL1 => some ((s.seqr.inLvl >>> 32).setWidth 32)
  | .SEQ_FSTORE => some (g.store.get 0 (idx.getD 1 0))
  | _ => none

/-- The register of SEQ at a byte address, where an instantiated engine or the line registers hold it (R31). -/
def State.seqReg (s : State) (a : Nat) : Option (Reg × List Nat) :=
  match locate a with
  | some (r, idx) =>
    if islandAt a == some 11 && (match idx with | f :: _ => s.figTile f | [] => true) then some (r, idx) else none
  | none => none

/-- What SEQ answers to a figure's read of one of its own registers; none where it answers ABSENT. -/
def State.seqRead (s : State) (a : Nat) : Option Word :=
  match s.seqReg a with
  | some (r, idx) => some ((s.seqView r idx).getD (s.reg r idx))
  | none => none

/-! ### START, ABORT, CLRFLT, flags -/

/-- START of engine `f` at `entry`; a quarantined engine stays stopped (R415, R436, R444, R488). -/
def Fc.start (x : Fc) (f : Nat) (entry : BitVec 12) : Fc :=
  let g := x.fig f
  if g.stat == .idle && !x.env.quarantined (6 + f) then
    (x.setFig f { g with stat := .running, pc := entry, stack := [], timers := [], flags := 0, steps := 0,
                         since := 0, cause := 0, waiting := .none }).note 0x0B01
      (leBytes 1 f ++ leBytes 2 entry.toNat)
  else x.setFig f { g with result := 5 }

/-- ABORT of engine `f` (R437, R438, R444). -/
def Fc.abort (x : Fc) (f : Nat) : Fc :=
  let g := x.fig f
  if g.stat == .running || g.stat == .waiting then
    let rec_ (b : Nat) := leBytes 1 f ++ leBytes 1 b ++ leBytes 2 g.pc.toNat
    if x.env.SEQ_FCFG_ABORTEN f = 1 then
      (x.setFig f { g.cancel with stat := .aborting, stack := [], timers := [],
                                  pc := BitVec.ofNat 12 (x.env.SEQ_FCFG_ABORTPC f) }).note 0x0B03 (rec_ 1)
    else
      let g := { g.cancel with stat := .idle, result := 2 }
      ((x.setFig f g).note 0x0B03 (rec_ 0)).noteEnd f g
  else x.setFig f { g with result := 3 }

/-- CLRFLT of engine `f` (R436). -/
def Fc.clrflt (x : Fc) (f : Nat) : Fc :=
  let g := x.fig f
  if g.stat == .fault then x.setFig f { g with stat := .idle } else x

/-- A write of SEQ_FCTLf: ABORT, then CLRFLT, then START (R440). -/
def Fc.writeFctl (x : Fc) (f : Nat) (w : Word) : Fc :=
  let x := if w.getLsbD 1 then x.abort f else x
  let x := if w.getLsbD 2 then x.clrflt f else x
  if w.getLsbD 0 then
    x.start f (if w.getLsbD 28 then w.extractLsb' 16 12 else BitVec.ofNat 12 (x.env.SEQ_FCFG_ENTRY f))
  else x

/-- Set event flags (R431, R433). -/
def Fc.setFlags (x : Fc) (f : Nat) (mask : BitVec 8) : Fc :=
  if x.env.figTile f then x.setFig f { x.fig f with flags := (x.fig f).flags ||| mask } else x

/-- A write of one of SEQ's registers that is not RWL; none where SEQ refuses it (R430). -/
def Fc.writeReg (x : Fc) (r : Reg) (idx : List Nat) (w : Word) : Option Fc :=
  let f := idx.headD 0
  match r with
  | .SEQ_FCTL => some (x.writeFctl f w)
  | .SEQ_FFLAG => some (x.setFig f { x.fig f with flags := (x.fig f).flags &&& ~~~(w.setWidth 8) })
  | .SEQ_FSIG => some (x.setFlags f (w.setWidth 8))
  | _ => none

def State.writeSeqFctl (s : State) (f : Nat) (w : Word) : State :=
  if s.figTile f then s.withFc (s.fc.writeFctl f w) else s

def State.writeSeqFflag (s : State) (f : Nat) (w : Word) : State :=
  if s.figTile f then s.withFc (s.fc.setFig f { s.fc.fig f with flags := (s.fc.fig f).flags &&& ~~~(w.setWidth 8) }) else s

def State.writeSeqFsig (s : State) (f : Nat) (w : Word) : State := s.withFc (s.fc.setFlags f (w.setWidth 8))

/-! ### Register accesses (R429) -/

/-- Requests and replies of engine `f` and island `i` under way: those of accesses that were cancelled, whose replies are late
(R439). -/
def Fc.unanswered (x : Fc) (f i : Nat) : Nat :=
  x.qf.fabric.waitingCount (regReqIn f i) + x.qf.fabric.waitingCount (regRepIn f i)

/-- The engine posts a register request and waits, or SEQ serves its own register at once. -/
def Fc.request (x : Fc) (f : Nat) (g : Figure) (op addr value : Word) (rd : Option (BitVec 4)) : Fc :=
  if islandAt addr.toNat == some 11 then
    match rd with
    | some rd =>
      match State.seqRead { x.env with seqr := x.seqr } addr.toNat with
      | some v => x.next f (g.setG rd v) 2
      | none => x.fault f g 4
    | none =>
      match x.env.seqReg addr.toNat with
      | some (r, idx) =>
        match (x.next f g 2).writeReg r idx value with
        | some x => x
        | none => x.fault f g 4
      | none => x.fault f g 4
  else
    match islandAt addr.toNat with
    | some i => (x.setFig f { g.suspend .reg with stale := g.stale.set 0 i (x.unanswered f i) }).post (regReqOut f i) [op, addr, value]
    | none => x.setFig f (g.suspend .reg)

/-- The reply of island `i` reaches the engine: a late one is discarded, OK completes the step, any other faults with
REGERR (R429, R439). -/
def Fc.reply (x : Fc) (f i : Nat) : Fc :=
  match x.qf.takeItem (regRepIn f i) with
  | (none, _) => x
  | (some it, qf) =>
    let x := { x with qf := qf }
    let g := x.fig f
    if 0 < g.stale.get 0 i then x.setFig f { g with stale := g.stale.modify 0 i (· - 1) }
    else if g.regIsland != some i then x
    else if it.poison || it.words.headD 0 != 0 then
      Fc.fault x f { g with waiting := .none } 4
    else
      match g.step with
      | some (.rdreg rd _) => x.next f (g.resume.setG rd (it.words.getD 1 0)) 2
      | _ => x.next f g.resume 2

/-! ### Other actions of steps -/

/-- FLUSH: every queue at the port, on the side named (R210, R419). -/
def Fc.flushPort (x : Fc) (f port : Nat) (producer : Bool) : Fc :=
  let hit := x.qf.fabric.built.filter fun e =>
    if producer then e.2.route.producer.toNat == figOut f port else e.2.route.consumer.toNat == figIn f port
  { x with qf := hit.foldl (fun q e => q.flushQueue e.1 false) x.qf }

/-- The move command MOVE posts (R428). -/
def Figure.moveItem (g : Figure) (ra kind : BitVec 4) (blend revok quick ovr : Bool) (table : BitVec 5) : List Word :=
  let r (k : Nat) : Word := g.regs.get 0 (ra.toNat + k)
  let o (k : Nat) : Word := if ovr then r k else 0
  [BitVec.ofNat 32 (kind.toNat * 2 ^ 8 + bit blend * 2 ^ 12 + bit revok * 2 ^ 13 + bit quick * 2 ^ 14 +
      table.toNat * 2 ^ 16), r 0, o 2, o 3, o 4, o 5, r 1, 0]

/-- OUTL (R434). -/
def Seqr.drive (q : Seqr) (f : Nat) (line : BitVec 6) (val : Bool) : Seqr :=
  let m := 1#64 <<< line.toNat
  { q with outLvl := if val then q.outLvl ||| m else q.outLvl &&& ~~~m, outDriven := q.outDriven ||| m,
           outOwner := q.outOwner.set none line.toNat (some f) }

/-- The figure ends with STATUS (R437, R438); a step that reaches STEPMAX faults instead (R425, R439). -/
def Fc.endFigure (x : Fc) (f : Nat) (g : Figure) (status : BitVec 8) : Fc :=
  if x.runaway f g then x.fault f g 2
  else
    let g := { g with stat := .idle, endst := status, result := if g.stat == .aborting then 2 else 1 }
    (x.setFig f g).noteEnd f g

/-- The result of a step that only writes G[RD]. -/
def Fc.put (x : Fc) (f : Nat) (g : Figure) (rd : BitVec 4) (w : Word) (size : BitVec 12 := 1) : Fc :=
  x.next f (g.setG rd w) size

/-! ### The commands -/

/-- START (R415). -/
def execFigureStart (f : Fin 4) (w : Word) (s : State) : Host.Outcome State Fault Refusal :=
  .next (s.writeSeqFctl f.val (w ||| 1))

/-- FIGURE_ABORT (R437). -/
def execFigureAbort (f : Fin 4) (w : Word) (s : State) : Host.Outcome State Fault Refusal :=
  .next (s.writeSeqFctl f.val (w ||| 2))

/-- FIG_CLRFLT (R436). -/
def execFigClrflt (f : Fin 4) (w : Word) (s : State) : Host.Outcome State Fault Refusal :=
  .next (s.writeSeqFctl f.val (w ||| 4))

/-- FSIG_WRITE (R431). -/
def execFsigWrite (f : Fin 4) (w : Word) (s : State) : Host.Outcome State Fault Refusal :=
  .next (s.writeSeqFsig f.val w)

/-- Step NOP (R419). -/
def execStepNop (f : Fin 4) (bad : Bool) (s : State) : Host.Outcome State Fault Refusal :=
  .next (s.figStep f.val bad fun
    | .nop => some fun x g => x.next f.val g
    | _ => none)

/-- Step LDI (R419). -/
def execStepLdi (f : Fin 4) (bad : Bool) (s : State) : Host.Outcome State Fault Refusal :=
  .next (s.figStep f.val bad fun
    | .ldi rd imm => some fun x g => x.put f.val g rd (imm.signExtend 32)
    | _ => none)

/-- Step LDW (R419). -/
def execStepLdw (f : Fin 4) (bad : Bool) (s : State) : Host.Outcome State Fault Refusal :=
  .next (s.figStep f.val bad fun
    | .ldw rd lit => some fun x g => x.put f.val g rd lit 2
    | _ => none)

/-- Step MOV (R419). -/
def execStepMov (f : Fin 4) (bad : Bool) (s : State) : Host.Outcome State Fault Refusal :=
  .next (s.figStep f.val bad fun
    | .mov rd ra => some fun x g => x.put f.val g rd (g.g ra)
    | _ => none)

/-- Step ADD (R416). -/
def execStepAdd (f : Fin 4) (bad : Bool) (s : State) : Host.Outcome State Fault Refusal :=
  .next (s.figStep f.val bad fun
    | .add rd ra rb => some fun x g => x.put f.val g rd (satWord (sInt (g.g ra) + sInt (g.g rb)))
    | _ => none)

/-- Step SUB (R416). -/
def execStepSub (f : Fin 4) (bad : Bool) (s : State) : Host.Outcome State Fault Refusal :=
  .next (s.figStep f.val bad fun
    | .sub rd ra rb => some fun x g => x.put f.val g rd (satWord (sInt (g.g ra) - sInt (g.g rb)))
    | _ => none)

/-- Step ADDI (R416). -/
def execStepAddi (f : Fin 4) (bad : Bool) (s : State) : Host.Outcome State Fault Refusal :=
  .next (s.figStep f.val bad fun
    | .addi rd ra imm => some fun x g => x.put f.val g rd (satWord (sInt (g.g ra) + imm.toInt))
    | _ => none)

/-- Step AND (R419). -/
def execStepAnd (f : Fin 4) (bad : Bool) (s : State) : Host.Outcome State Fault Refusal :=
  .next (s.figStep f.val bad fun
    | .and rd ra rb => some fun x g => x.put f.val g rd (g.g ra &&& g.g rb)
    | _ => none)

/-- Step OR (R419). -/
def execStepOr (f : Fin 4) (bad : Bool) (s : State) : Host.Outcome State Fault Refusal :=
  .next (s.figStep f.val bad fun
    | .or rd ra rb => some fun x g => x.put f.val g rd (g.g ra ||| g.g rb)
    | _ => none)

/-- Step XOR (R419). -/
def execStepXor (f : Fin 4) (bad : Bool) (s : State) : Host.Outcome State Fault Refusal :=
  .next (s.figStep f.val bad fun
    | .xor rd ra rb => some fun x g => x.put f.val g rd (g.g ra ^^^ g.g rb)
    | _ => none)

/-- Step SHL (R416). -/
def execStepShl (f : Fin 4) (bad : Bool) (s : State) : Host.Outcome State Fault Refusal :=
  .next (s.figStep f.val bad fun
    | .shl rd ra n => some fun x g => x.put f.val g rd (g.g ra <<< n.toNat)
    | _ => none)

/-- Step SHR (R416). -/
def execStepShr (f : Fin 4) (bad : Bool) (s : State) : Host.Outcome State Fault Refusal :=
  .next (s.figStep f.val bad fun
    | .shr rd ra logical n => some fun x g =>
        x.put f.val g rd (if logical then g.g ra >>> n.toNat else (g.g ra).sshiftRight n.toNat)
    | _ => none)

/-- Step BR (R420). -/
def execStepBr (f : Fin 4) (bad : Bool) (s : State) : Host.Outcome State Fault Refusal :=
  .next (s.figStep f.val bad fun
    | .br c ra rb t => some fun x g => if condHolds c (g.g ra) (g.g rb) then x.goto f.val g t else x.next f.val g
    | _ => none)

/-- Step BRI (R420). -/
def execStepBri (f : Fin 4) (bad : Bool) (s : State) : Host.Outcome State Fault Refusal :=
  .next (s.figStep f.val bad fun
    | .bri c ra imm t => some fun x g =>
        if condHolds c (g.g ra) (imm.signExtend 32) then x.goto f.val g t else x.next f.val g
    | _ => none)

/-- Step JMP (R419). -/
def execStepJmp (f : Fin 4) (bad : Bool) (s : State) : Host.Outcome State Fault Refusal :=
  .next (s.figStep f.val bad fun
    | .jmp t => some fun x g => x.goto f.val g t
    | _ => none)

/-- Step CALL: the return address is pushed; a full stack faults (R419, R435). -/
def execStepCall (f : Fin 4) (bad : Bool) (s : State) : Host.Outcome State Fault Refusal :=
  .next (s.figStep f.val bad fun
    | .call t => some fun x g =>
        if 8 ≤ g.stack.length then x.fault f.val g 1
        else x.goto f.val { g with stack := (g.pc + 1) :: g.stack } t
    | _ => none)

/-- Step RET: the return address is popped; an empty stack faults (R419, R435). -/
def execStepRet (f : Fin 4) (bad : Bool) (s : State) : Host.Outcome State Fault Refusal :=
  .next (s.figStep f.val bad fun
    | .ret => some fun x g =>
        match g.stack with
        | [] => x.fault f.val g 1
        | a :: rest => x.goto f.val { g with stack := rest } a
    | _ => none)

/-- Step END (R437). -/
def execStepEnd (f : Fin 4) (bad : Bool) (s : State) : Host.Outcome State Fault Refusal :=
  .next (s.figStep f.val bad fun
    | .end_ status => some fun x g => x.endFigure f.val g status
    | _ => none)

/-- Step RDREG (R429). -/
def execStepRdreg (f : Fin 4) (bad : Bool) (pads : BitVec 64) (s : State) : Host.Outcome State Fault Refusal :=
  .next ((s.seePads pads).figStep f.val bad fun
    | .rdreg rd a => some fun x g => x.request f.val g 1 a 0 (some rd)
    | _ => none)

/-- Step WRREG (R429). -/
def execStepWrreg (f : Fin 4) (bad : Bool) (s : State) : Host.Outcome State Fault Refusal :=
  .next (s.figStep f.val bad fun
    | .wrreg ra a => some fun x g => x.request f.val g 2 a (g.g ra) none
    | _ => none)

/-- REG_REPLY (R429). -/
def execRegReply (f : Fin 4) (i : Island) (s : State) : Host.Outcome State Fault Refusal :=
  .next (if s.figRuns f.val then s.withFc (s.fc.reply f.val (islandNum i)) else s)

/-- REG_TIMEOUT (R429). -/
def execRegTimeout (f : Fin 4) (s : State) : Host.Outcome State Fault Refusal :=
  .next (if s.figRuns f.val && (s.fc.fig f.val).waiting == .reg then
    s.withFc (s.fc.fault f.val (s.fc.fig f.val) 3) else s)

/-- Step POST (R419). -/
def execStepPost (f : Fin 4) (bad : Bool) (s : State) : Host.Outcome State Fault Refusal :=
  .next (s.figStep f.val bad fun
    | .post p ra n1 => some fun x g =>
        (x.post (figOut f.val p.toNat) (g.run ra (n1.toNat + 1))).next f.val g
    | _ => none)

/-- Step RECV (R427). -/
def execStepRecv (f : Fin 4) (bad : Bool) (s : State) : Host.Outcome State Fault Refusal :=
  .next (s.figStep f.val bad fun
    | .recv p rd n1 => some fun x g => x.recvStep f.val g p rd n1
    | _ => none)

/-- Step FLUSH (R210, R419). -/
def execStepFlush (f : Fin 4) (bad : Bool) (s : State) : Host.Outcome State Fault Refusal :=
  .next (s.figStep f.val bad fun
    | .flush p producer => some fun x g => (x.flushPort f.val p.toNat producer).next f.val g
    | _ => none)

/-- Step MOVE (R428). -/
def execStepMove (f : Fin 4) (bad : Bool) (s : State) : Host.Outcome State Fault Refusal :=
  .next (s.figStep f.val bad fun
    | .move p ra k b r q o t => some fun x g =>
        (x.post (figOut f.val p.toNat) (g.moveItem ra k b r q o t)).next f.val g
    | _ => none)

/-- Step WAIT (R422, R423). -/
def execStepWait (f : Fin 4) (bad : Bool) (pads : BitVec 64) (s : State) : Host.Outcome State Fault Refusal :=
  .next ((s.seePads pads).figStep f.val bad fun
    | .wait k arg tm e => some fun x g => x.waitStep f.val g k arg tm e
    | _ => none)

/-- WAIT_COMPLETE (R422). -/
def execWaitComplete (f : Fin 4) (pads : BitVec 64) (s : State) : Host.Outcome State Fault Refusal :=
  let s := s.seePads pads
  .next (if s.figRuns f.val then s.withFc (s.fc.waitAgain f.val) else s)

/-- Step TSET (R424). -/
def execStepTset (f : Fin 4) (bad : Bool) (s : State) : Host.Outcome State Fault Refusal :=
  .next (s.figStep f.val bad fun
    | .tset t u src ra imm => some fun x g =>
        let v := if src then (g.g ra).toNat else imm.toNat
        x.next f.val { g with timers := g.timers.set .stopped t.toNat (FigTimer.load v u.toNat x.env.dev) }
    | _ => none)

/-- A timer reaches 0 and becomes EXPIRED; a WAIT may end by it (R423, R424). -/
def State.figExpire (s : State) (f t : Nat) : State :=
  let g := s.fc.fig f
  let x := match g.timer t with
    | .running _ => s.fc.setFig f { g with timers := g.timers.set .stopped t .expired }
    | _ => s.fc
  s.withFc (if s.figRuns f then x.waitAgain f else x)

/-- FIGURE_TIMER_EXPIRE (R424). -/
def execFigureTimerExpire (f : Fin 4) (t : Fin 8) (pads : BitVec 64) (s : State) : Host.Outcome State Fault Refusal :=
  .next ((s.seePads pads).figExpire f.val t.val)

/-- Step TRD (R419). -/
def execStepTrd (f : Fin 4) (bad : Bool) (s : State) : Host.Outcome State Fault Refusal :=
  .next (s.figStep f.val bad fun
    | .trd rd t => some fun x g => x.put f.val g rd (BitVec.ofNat 32 ((g.timer t.toNat).rem x.env.dev))
    | _ => none)

/-- Step RAISE (R432). -/
def execStepRaise (f : Fin 4) (bad : Bool) (s : State) : Host.Outcome State Fault Refusal :=
  .next (s.figStep f.val bad fun
    | .raise ra code => some fun x g =>
        (x.note (0x0B00 + code.toNat) (leBytes 1 f.val ++ wordBytes (g.g ra) ++ leBytes 2 g.pc.toNat)).next f.val g
    | _ => none)

/-- Step SIG (R431, R433). -/
def execStepSig (f : Fin 4) (bad : Bool) (s : State) : Host.Outcome State Fault Refusal :=
  .next (s.figStep f.val bad fun
    | .sig e mask => some fun x g =>
        let x := x.next f.val g
        x.setFlags e.toNat mask
    | _ => none)

/-- Step OUTL (R434). -/
def execStepOutl (f : Fin 4) (bad : Bool) (s : State) : Host.Outcome State Fault Refusal :=
  .next (s.figStep f.val bad fun
    | .outl line val => some fun x g => Fc.next { x with seqr := x.seqr.drive f.val line val } f.val g
    | _ => none)

/-- Step INL (R434). -/
def execStepInl (f : Fin 4) (bad : Bool) (pads : BitVec 64) (s : State) : Host.Outcome State Fault Refusal :=
  .next ((s.seePads pads).figStep f.val bad fun
    | .inl rd line => some fun x g =>
        x.put f.val g rd (if x.seqr.inLvl.getLsbD line.toNat then 1 else 0)
    | _ => none)

/-- Step DEVT (R419). -/
def execStepDevt (f : Fin 4) (bad : Bool) (s : State) : Host.Outcome State Fault Refusal :=
  .next (s.figStep f.val bad fun
    | .devt rd => some fun x g => x.put f.val g rd (lowWord x.env.dev)
    | _ => none)

/-! ### Island start -/

/-- SEQ at step 6: its engines IDLE with their figures loaded (R154, R413). -/
def Seqr.start (s : State) : Seqr :=
  match s.image with
  | none => Seqr.reset
  | some im =>
    { Seqr.reset with
      figs := ((List.range 4).filter s.figTile).foldl
        (fun t f =>
          let ws := (im.figures.find? fun e => e.1 == f).elim [] (·.2)
          t.set Figure.reset f { Figure.reset with store := ws.zipIdx.foldl (fun m e => m.set 0 e.2 e.1) [] }) [] }

/-- AUTOSTART engines start at step 9 of R123 (R414). -/
def Fc.autostart (x : Fc) : Fc :=
  ((List.range 4).filter fun f => x.env.figTile f && x.env.SEQ_FCFG_AUTOSTART f == 1).foldl
    (fun x f => x.start f (BitVec.ofNat 12 (x.env.SEQ_FCFG_ENTRY f))) x

/-- An engine in FAULT asserts SEQ's FAULT line (R435). -/
def Seqr.faulted (q : Seqr) : Bool := q.figs.any fun e => e.2.stat == .fault

end Sys2Proof.Machine
end

