-- ==== Sys2Proof/Machine/Fusion.lean ====
section
/-! DEFINITION. Position fusion (chapter 07): the sources, the cycle of R229, the exclusion rules, the position virtual
inputs, the landing table, and the learn and home runs. -/

namespace Sys2Proof.Machine

/-! ### The MPI island's part of the device -/

/-- What a step of the fusion engine or a planner can change, beside the device as it was before the step. -/
structure Mpi where
  env      : State
  fusion   : Fusion
  planners : Tbl Planner
  regs     : Tbl Word
  lanes    : List LaneItem
  qf       : Qf

def State.mpi (s : State) : Mpi :=
  { env := s, fusion := s.fusion, planners := s.planners, regs := s.regs, lanes := s.lanes, qf := s.qf }

/-- The device with an MPI step's result. -/
def State.withMpi (s : State) (m : Mpi) : State :=
  { s with fusion := m.fusion, planners := m.planners, regs := m.regs, lanes := m.lanes, fabric := m.qf.fabric,
           recorder := m.qf.recorder, ports := m.qf.ports, fresh := m.qf.fresh }

/-- MPI writes a record. -/
def Mpi.note (m : Mpi) (code : Nat) (data : List Byte := []) : Mpi := { m with qf := m.qf.note code data }

/-- MPI posts an item. -/
def Mpi.post (m : Mpi) (port : Nat) (ws : List Word) : Mpi := { m with qf := m.qf.post port ws }

/-- MPI writes one of its RWK registers (R25). -/
def Mpi.writeRwk (m : Mpi) (r : Reg) (idx : List Nat) (w : Word) : Mpi :=
  { m with regs := m.regs.set r.resetWord (r.addr idx) w, lanes := m.lanes ++ [.rwk (r.addr idx) w] }

/-- MPI holds for a tempo switch: it has answered QUIESCE (R40, R41); or its block is quarantined (R488). -/
def State.quiet (s : State) (i : Island) : Bool := (s.tempo.quiesce && s.tempo.qack.contains i) || s.quarantined 4

/-! ### Configuration -/

/-- Kind of the fusion engine instantiated: 1 full, 2 capture only, 0 none (R150, R222). -/
def State.fusionKind (s : State) : Nat :=
  match s.tile 1 0 with
  | some t => t.arg.toNat
  | none => 0

/-- ENC, SSI, VANE and PAIRS of MPI_FCFG in force (R249). -/
def Fusion.encSel (f : Fusion) : Nat := getBits f.cfg 1 0
def Fusion.encPad (f : Fusion) : Nat := getBits f.cfg 3 2
def Fusion.ssiSel (f : Fusion) : Nat := getBits f.cfg 5 4
def Fusion.vaneSel (f : Fusion) : Nat := getBits f.cfg 7 6
def Fusion.pairMask (f : Fusion) : Nat := getBits f.cfg 11 8
def Fusion.encUsed (f : Fusion) : Bool := f.encSel == 1 || f.encSel == 2
def Fusion.ssiUsed (f : Fusion) : Bool := f.ssiSel != 0
def Fusion.vaneUsed (f : Fusion) : Bool := f.vaneSel == 1 || f.vaneSel == 2
def Fusion.pairUsed (f : Fusion) (v : Nat) : Bool := testBit f.pairMask v

/-- The car-axis planner's number (R151, R256). -/
def State.carPlanner (s : State) : Option Nat :=
  match s.image with
  | some im => (im.tiles.find? fun t => t.kind == 2 && t.arg == 1).map (·.index)
  | none => none

/-- ENCSCALE; 0 is taken as 1 (R253). -/
def State.encScale (s : State) : Int :=
  let w := s.reg .MPI_ENCSCALE
  if w = 0 then 1 else sInt w

/-- A reader code as fusion uses it: SSIBITS bits, Gray decoded where SSIGRAY is set (R224). -/
def Fusion.decode (f : Fusion) (raw : Word) : Int :=
  let n := getBits f.cfg 21 16
  let v := raw.toNat % 2 ^ n
  if testBit f.cfg.toNat 14 then
    (((List.range n).foldl (fun (r : Nat) k => r ^^^ (v >>> k)) 0 : Nat) : Int)
  else v

/-- The parameters that fusion uses between cycles. -/
def fusionParms : List Reg := [.MPI_VANEDISC, .MPI_FSWMAP, .MPI_LEARNVEL, .MPI_HOMEERR, .MPI_MISSRUN, .MPI_NLAND,
  .MPI_BMAX, .MPI_XRUN]

/-- A cycle boundary: what RWL writes have put into the parameters is taken up (R248). -/
def Mpi.takeParms (m : Mpi) : Mpi :=
  { m with fusion := { m.fusion with
      parms := fusionParms.foldl (fun t r => t.set r.resetWord (r.addr []) (m.env.reg r)) m.fusion.parms } }

/-- The parameters as the last cycle boundary found them (R248). -/
def Mpi.inForce (m : Mpi) : State := { m.env with regs := m.fusion.parms }

/-! ### The landing table (R239 to R241) -/

def State.vaneLo (s : State) (j : Nat) : Int := sInt (s.reg .MPI_LVLO [j])
def State.vaneHi (s : State) (j : Nat) : Int := sInt (s.reg .MPI_LVHI [j])

/-- Landing `j` is present (R239). -/
def State.landing (s : State) (j : Nat) : Bool := j < s.MPI_NLAND && s.vaneLo j < s.vaneHi j

/-- LEVELj (R239). -/
def State.levelOf (s : State) (j : Nat) : Int :=
  sat32 (downDiv (s.vaneLo j + s.vaneHi j) 2 + sInt (s.reg .MPI_LTRIM [j]))

/-- The landings present, lowest first. -/
def State.landings (s : State) : List Nat := (List.range s.MPI_NLAND).filter s.landing

/-- The CRC of R241 over the table as it stands. -/
def State.tableCrc (s : State) : Word :=
  crc32 ((List.range s.MPI_NLAND).flatMap (fun j => wordBytes (s.reg .MPI_LVLO [j]) ++ wordBytes (s.reg .MPI_LVHI [j])) ++
    wordBytes (s.reg .MPI_NTSDN) ++ wordBytes (s.reg .MPI_NTSUP))

/-- The fusion engine recomputes the table's CRC (R241). -/
def Mpi.checkTable (m : Mpi) : Mpi :=
  let s := { m.env with regs := m.regs }
  let c := s.tableCrc
  let ok := c == s.reg .MPI_LTABCRC
  let m := { m with fusion := { m.fusion with tabOk := ok } }
  if ok then m else m.note 0x0513 (wordBytes c ++ wordBytes (s.reg .MPI_LTABCRC))

/-! ### Sources -/

/-- A source becomes LOST (R232, R255). -/
def Mpi.noteLost (m : Mpi) (source cause : Nat) : Mpi := m.note 0x0502 [BitVec.ofNat 8 source, BitVec.ofNat 8 cause]

/-- The encoder becomes LOST by an illegal transition (R223). -/
def Mpi.encIllegal (m : Mpi) : Mpi :=
  if m.fusion.enc.lost then m
  else
    let m := { m with fusion := { m.fusion with enc := { m.fusion.enc with lost := true, status := 4 } } }
    m.noteLost 0 3

/-- Counts of a quadrature pad pair: A leading B counts up (log entry 6). -/
def quadStep (a b a' b' : Bool) : Int :=
  if a = a' then (if b = b' then 0 else if a != b' then -1 else 1)
  else if b = b' then (if a' != b then 1 else -1)
  else 0

/-- ENCODER_TRANSITION (R223). -/
def Mpi.encTransition (m : Mpi) (pad : Nat) (a b : Bool) : Mpi :=
  let q := m.fusion.quads.get Quad.reset pad
  let both := q.a != a && q.b != b
  let c := if both then q.count else toWord (sInt q.count + quadStep q.a q.b a b)
  let f := { m.fusion with quads := m.fusion.quads.set Quad.reset pad { a := a, b := b, count := c } }
  let m := { m with fusion := f }
  if both && m.env.fusionKind == 1 && f.encSel == 1 && f.encPad == pad then m.encIllegal else m

/-- A capture time in device time from its low 32 bits. -/
def captureTime (now : Nat) (w : Word) : Nat := extendNear 32 now w.toNat

/-- ENCODER_ITEM: count, capture time, present bit (R226). -/
def Mpi.encItemIn (m : Mpi) (it : Item) : Mpi :=
  let t := captureTime m.env.dev (it.words.getD 1 0)
  if it.poison || it.words.length != 3 || !(it.words.getD 2 0).getLsbD 0 then m
  else { m with fusion := { m.fusion with encItem := some (it.words.getD 0 0, t) } }

/-- A pair's channels miss the window: three misses in a row make the pair LOST, and the last pair the vane source
(R225). -/
def Mpi.vaneMiss (m : Mpi) (v d : Nat) : Mpi :=
  let p := m.fusion.pairs.get VanePair.reset v
  if p.lost then m
  else
    let lost := 3 ≤ p.misses + 1
    let p := { p with pend := none, misses := p.misses + 1, lost := lost }
    let f := { m.fusion with pairs := m.fusion.pairs.set VanePair.reset v p, discs := m.fusion.discs ||| (1#4 <<< v) }
    let m := Mpi.note { m with fusion := f } 0x0505 (leBytes 1 v ++ leBytes 4 d)
    let all := [0, 1, 2, 3].all fun k => !f.pairUsed k || (f.pairs.get VanePair.reset k).lost
    if all && !f.vane.lost then
      Mpi.noteLost { m with fusion := { m.fusion with vane := { m.fusion.vane with lost := true, status := 4 } } } 2 4
    else m

/-- A pair's edge is accepted (R225). -/
def Mpi.vaneAccept (m : Mpi) (v : Nat) (on : Bool) (te d : Nat) : Mpi :=
  let p := m.fusion.pairs.get VanePair.reset v
  if p.lost then m
  else
    let f := { m.fusion with
      pairs := m.fusion.pairs.set VanePair.reset v { p with pend := none, misses := 0 },
      edges := m.fusion.edges ++ [{ pair := v, on := on, te := te, d := d }] }
    { m with fusion := f }

/-- A vane channel changes level (R225). A channel that returns to its old level before the other follows drops its transition, with no
VANE_DISCREPANCY; R225 does not say what becomes of it: the model's choice (log entry 32). -/
def Mpi.vaneChannel (m : Mpi) (v : Nat) (chB level : Bool) : Mpi :=
  let p := m.fusion.pairs.get VanePair.reset v
  if (if chB then p.levelB else p.levelA) = level then m
  else
    let now := m.env.dev
    let p := if chB then { p with levelB := level } else { p with levelA := level }
    let put (p : VanePair) : Mpi := { m with fusion := { m.fusion with pairs := m.fusion.pairs.set VanePair.reset v p } }
    match p.pend with
    | none => if p.levelA = p.levelB then put p else put { p with pend := some (!chB, now) }
    | some (a, t) =>
      if a = !chB then put { p with pend := none }
      else if now - t ≤ m.inForce.MPI_VANEDISC then (put p).vaneAccept v level ((t + now) / 2) (now - t)
      else (put p).vaneMiss v (now - t)

/-- A vane channel that fusion does not use: its level is only held. -/
def Mpi.vaneLevel (m : Mpi) (v : Nat) (chB level : Bool) : Mpi :=
  let p := m.fusion.pairs.get VanePair.reset v
  let p := if chB then { p with levelB := level } else { p with levelA := level }
  { m with fusion := { m.fusion with pairs := m.fusion.pairs.set VanePair.reset v p } }

/-- The vane inputs wired to this unit's pads are in use (R222, R249). -/
def Mpi.vaneLocal (m : Mpi) (v : Nat) : Bool :=
  m.env.fusionKind != 0 && m.fusion.vaneSel == 1 && m.fusion.pairUsed v

/-- The remote vane part of a capture item (R226). -/
def Mpi.captureVane (m : Mpi) (ws : List Word) (v : Nat) : Mpi :=
  let w4 := (ws.getD 4 0).toNat
  let e := ws.getD (5 + v) 0
  let p := m.fusion.pairs.get VanePair.reset v
  let p := { p with levelA := testBit w4 v, levelB := testBit w4 (4 + v) }
  let m := { m with fusion := { m.fusion with pairs := m.fusion.pairs.set VanePair.reset v p } }
  let m := if testBit w4 (8 + v) then
      m.vaneAccept v (testBit w4 v) (extendNear 24 m.env.dev (getBits e 31 8)) (getBits e 7 0)
    else m
  if testBit w4 (12 + v) then m.vaneMiss v (getBits e 7 0) else m

/-- CAPTURE_ITEM: a remote reader sample and remote vane edges (R226). -/
def Mpi.captureIn (m : Mpi) (it : Item) : Mpi :=
  if it.poison || it.words.length != 9 then m
  else
    let ws := it.words
    let m := if m.fusion.ssiSel == 3 && (ws.getD 3 0).getLsbD 0 then
        { m with fusion := { m.fusion with
          sample := some { tc := captureTime m.env.dev (ws.getD 1 0), code := ws.getD 2 0 } } }
      else m
    if m.fusion.vaneSel == 2 then
      ([0, 1, 2, 3].filter m.fusion.pairUsed).foldl (fun m v => m.captureVane ws v) m
    else m

/-! ### Terminal switches (R242) -/

/-- The safety input that carries switch `n` (NTSDN, NTSUP, STSDN, STSUP); none when not mapped (R252). -/
def State.switchInput (s : State) (n : Nat) : Option Nat :=
  let v := getBits (s.reg .MPI_FSWMAP) (8 * n + 4) (8 * n)
  if v < 24 then some v else none

/-- One switch takes a change of its input. -/
def Mpi.switchChange (m : Mpi) (n : Nat) (level : Bool) (t : Nat) : Mpi :=
  let w := m.fusion.switches.get TermSwitch.reset n
  let recent := t :: w.changes.filter fun x => t < x + 100000
  let burst := 4 < recent.length
  let w := { w with changes := recent, burst := burst, chatter := w.chatter || burst,
                    pending := if w.level = level then none else some (level, t) }
  let was := (m.fusion.switches.get TermSwitch.reset n).burst
  let m := { m with fusion := { m.fusion with switches := m.fusion.switches.set TermSwitch.reset n w } }
  if burst && !was then m.note 0x0512 (leBytes 1 n) else m

/-- SWITCH_CHANGE_ITEM: input number, level, time of the change. -/
def Mpi.switchItem (m : Mpi) (it : Item) : Mpi :=
  if it.poison || it.words.length != 2 then m
  else
    let w0 := it.words.getD 0 0
    let t := captureTime m.env.dev (it.words.getD 1 0)
    ([0, 1, 2, 3].filter fun n => m.inForce.switchInput n == some (getBits w0 4 0)).foldl
      (fun m n => m.switchChange n (w0.getLsbD 8) t) m

/-! ### State changes and runs -/

/-- The state changes, with its record (R255). -/
def Mpi.setFusion (m : Mpi) (x : FusionState) : Mpi :=
  if m.fusion.stat = x then m
  else
    let old := m.fusion.stat
    Mpi.note { m with fusion := { m.fusion with stat := x } } 0x0507
      [BitVec.ofNat 8 (fusionCode old), BitVec.ofNat 8 (fusionCode x)]

/-- The source that is LOST, 0 encoder, 1 reader, 2 vanes (R255, R512). -/
def Fusion.lostSource (f : Fusion) : Nat :=
  if f.encUsed && f.enc.lost then 0 else if f.ssiUsed && f.ssi.lost then 1 else 2

/-- Degraded mode starts or ends with the fusion state; an expiry stays (R498, R506, R512). With no car-axis planner R281 makes
no move, and DEGOPEN runs from entry (R498). -/
def Mpi.degradedMode (m : Mpi) (bound : Int) : Mpi :=
  let f := m.fusion
  if f.degExp then m
  else if f.stat = .degraded then
    if f.degStat = 0 then
      let still := m.env.carPlanner.isNone
      Mpi.note
        { m with fusion := { f with
            degAt := some m.env.dev, degOpenAt := if still then some m.env.dev else none, degStat := if still then 2 else 1 } }
        0x0540
        (leBytes 4 (satWord bound).toNat ++ leBytes 1 f.lostSource)
    else m
  else { m with fusion := { f with degAt := none, degOpenAt := none, degStat := 0 } }

/-- The internal move of R281 has ended, or was not made: the DEGOPEN timer starts (R498). -/
def Mpi.degradedArrived (m : Mpi) : Mpi :=
  if m.fusion.degStat = 1 then
    { m with fusion := { m.fusion with degOpenAt := some m.env.dev, degStat := 2 } }
  else m

/-- How many sources are LOST (R233, R234). -/
def Fusion.lostCount (f : Fusion) : Nat :=
  bit (f.encUsed && f.enc.lost) + bit (f.ssiUsed && f.ssi.lost) + bit (f.vaneUsed && f.vane.lost)

/-- The encoder or the reader is usable (R234). -/
def Fusion.continuous (f : Fusion) : Bool := (f.encUsed && !f.enc.lost) || (f.ssiUsed && !f.ssi.lost)

/-- The cause of R234 that applies, 0 for none. -/
def Mpi.invalidCause (m : Mpi) (bound : Int) : Nat :=
  if (m.inForce.MPI_BMAX : Int) < bound then 1
  else if m.inForce.MPI_XRUN ≤ m.fusion.disagreeRun then 2
  else if 2 ≤ m.fusion.lostCount then 3
  else if !m.fusion.continuous then 4
  else 0

/-- The state that the sources give: INVALID with its record, DEGRADED or TRACKING (R233, R234). -/
def Mpi.settleState (m : Mpi) (bound : Int) : Mpi :=
  let c := m.invalidCause bound
  if c ≠ 0 then
    let m := if m.fusion.stat = .invalid then m else m.note 0x0504 (leBytes 1 c ++ leBytes 4 (satWord bound).toNat)
    m.setFusion .invalid
  else if m.fusion.lostCount = 0 then m.setFusion .tracking
  else m.setFusion .degraded

/-- The state that the sources give, with degraded mode (R233, R234, R498). -/
def Mpi.settle (m : Mpi) (bound : Int) : Mpi := (m.settleState bound).degradedMode bound

/-- CMD of a run: 1 LEARN, 2 HOME. -/
def runCmd (k : RunKind) : Nat := runKindCode k

/-- A run ends with RESULT (R246, R255). A learn run that leaves UNKNOWN unsettled drops its interval. -/
def Mpi.endRun (m : Mpi) (result : Nat) : Mpi :=
  let r := m.fusion.runState
  let drop := m.fusion.stat == .unknown
  let f := { m.fusion with
    runState := { r with run := .none, phase := 0, result := BitVec.ofNat 4 result, edge := none, p := none },
    interval := if drop then none else m.fusion.interval }
  Mpi.note { m with fusion := f } 0x0511 [BitVec.ofNat 8 (runCmd r.run), BitVec.ofNat 8 result, r.found]

def Mpi.planner (m : Mpi) (p : Nat) : Planner := m.planners.get Planner.reset p

def Mpi.setPlanner (m : Mpi) (p : Nat) (x : Planner) : Mpi :=
  { m with planners := m.planners.set Planner.reset p x }

/-- A planner is idle with an empty move queue (R38, R88). -/
def Planner.idle (p : Planner) : Bool := p.running.isNone && p.held.isEmpty && p.motion == .rest

/-- Move ID of the moves the fusion engine posts (log entry 7). -/
def fusionMoveId : Word := 0xFFFFFFFD

/-- The fusion engine posts a move to the car-axis planner: a velocity at LEARNVEL in the run's direction, or the stop
at its switch (R243, R244). -/
def fusionMove (v : Int) : Move :=
  { tag := 0, kind := 3, blend := false, revok := false, quick := false, table := 0, arg := v, vmax := 0, amax := 0,
    dmax := 0, jmax := 0, id := fusionMoveId, fusion := true }

/-- The stop that ends a run's move: kind STOP. -/
def fusionStop : Move := { fusionMove 0 with kind := 5 }

/-- Put a move of the fusion engine in the car-axis planner's queue. -/
def Mpi.postFusion (m : Mpi) (mv : Move) : Mpi :=
  match m.env.carPlanner with
  | some p => m.setPlanner p { m.planner p with held := (m.planner p).held ++ [mv] }
  | none => m

/-- LEARN (1) or HOME (2): refused, or the run starts (R243). -/
def Mpi.startRun (m : Mpi) (kind : RunKind) : Mpi :=
  let s := m.env
  let q := m.inForce
  let f := m.fusion
  let carIdle := match s.carPlanner with
    | some p => (m.planner p).idle
    | none => false
  let mapped := (q.switchInput 0).isSome && (kind != .learn || (q.switchInput 1).isSome)
  let fit := kind != .learn || f.stat == .unknown || f.stat == .tracking
  let learnt := kind != .home || (f.tabOk && s.reg .MPI_NTSDN != 0x7FFFFFFF)
  if !(fit && carIdle && f.runState.run == .none && mapped) then
    { m with fusion := { f with runState := { f.runState with result := 3 } } }
  else if !learnt then { m with fusion := { f with runState := { f.runState with result := 7 } } }
  else
    let r : FusionRun := { FusionRun.reset with
      run := kind, phase := 1, result := 1, found := if kind = .learn then 0 else f.runState.found }
    let m := Mpi.note { m with fusion := { f with runState := r } } 0x0510 [BitVec.ofNat 8 (runCmd kind)]
    m.postFusion (fusionMove (-(q.MPI_LEARNVEL : Int)))

/-- ABORT of a run (R246). -/
def Mpi.abortRun (m : Mpi) : Mpi :=
  if m.fusion.runState.run = .none then
    { m with fusion := { m.fusion with runState := { m.fusion.runState with result := 8 } } }
  else (m.postFusion fusionStop).endRun 4

/-- The run's move was aborted: the run ends ABORTED (R246). -/
def Mpi.runMoveAborted (m : Mpi) : Mpi := if m.fusion.runState.run != .none then m.endRun 4 else m

/-- A move of the run has ended although no switch edge ended it: the run ends ABORTED (R246). -/
def Mpi.runMoveLost (m : Mpi) : Mpi := if m.fusion.runState.edge.isNone then m.runMoveAborted else m

/-- Which switch ends the run's present phase: NTSDN below, NTSUP above. -/
def FusionRun.switch (r : FusionRun) : Nat := if r.phase == 2 then 1 else 0

/-- SWITCH_EDGE_COUNT: the new level has held; the first counted edge of a phase stops the car (R242, R244, R245). -/
def Mpi.countEdge (m : Mpi) (n : Nat) : Mpi :=
  let w := m.fusion.switches.get TermSwitch.reset n
  match w.pending with
  | none => m
  | some (level, t) =>
    let m := { m with fusion := { m.fusion with
      switches := m.fusion.switches.set TermSwitch.reset n { w with level := level, pending := none } } }
    let r := m.fusion.runState
    if r.run != .none && r.edge.isNone && r.switch == n then
      Mpi.postFusion { m with fusion := { m.fusion with runState := { r with edge := some t } } } fusionStop
    else m

/-! ### The cycle (R229) -/

/-- An interval with the source it comes from: 0 prior, 1 reader, 2 vane. -/
structure Ival where
  src : Nat
  lo  : Int
  hi  : Int
  deriving DecidableEq, Repr

def Ival.overlaps (a b : Ival) : Bool := a.lo ≤ b.hi && b.lo ≤ a.hi

/-- What step 5 gives: the edges, the source excluded, and DISAGREE (R231). -/
structure Combined where
  lo : Int
  hi : Int
  out : Option Nat
  disagree : Bool
  deriving DecidableEq, Repr

/-- The common part of intervals that all overlap. -/
def meet (xs : List Ival) (out : Option Nat) : Option Combined :=
  match xs with
  | [] => none
  | x :: xs => some { lo := xs.foldl (fun a i => max a i.lo) x.lo, hi := xs.foldl (fun a i => min a i.hi) x.hi,
                      out := out, disagree := false }

/-- The hull of intervals in disagreement. -/
def hull (xs : List Ival) : Option Combined :=
  match xs with
  | [] => none
  | x :: xs => some { lo := xs.foldl (fun a i => min a i.lo) x.lo, hi := xs.foldl (fun a i => max a i.hi) x.hi,
                      out := none, disagree := true }

/-- Three intervals of which exactly the pair `a`, `b` is disjoint: the one whose centre lies farther from the third's
is excluded, the earlier source on equal distance (R231). -/
def excludeFarther (a b c : Ival) : Option Combined :=
  let da := absInt (a.lo + a.hi - (c.lo + c.hi))
  let db := absInt (b.lo + b.hi - (c.lo + c.hi))
  if db ≤ da then meet [b, c] (some a.src) else meet [a, c] (some b.src)

/-- Step 5 of R229 by the table of R231; the intervals stand in the order P, S, W. -/
def combine (xs : List Ival) : Option Combined :=
  match xs with
  | [a, b] => if a.overlaps b then meet [a, b] none else hull [a, b]
  | [a, b, c] =>
    match a.overlaps b, a.overlaps c, b.overlaps c with
    | true, true, true => meet [a, b, c] none
    | false, false, true => meet [b, c] (some a.src)
    | false, true, false => meet [a, c] (some b.src)
    | true, false, false => meet [a, b] (some c.src)
    | false, true, true => excludeFarther a b c
    | true, false, true => excludeFarther a c b
    | true, true, false => excludeFarther b c a
    | false, false, false => hull [a, b, c]
  | xs => meet xs none

/-- Step 1's result: the encoder's step and its widening, when the encoder is present, and the count and extrapolation
to keep for the next cycle. -/
structure EncStep where
  sampled : Bool
  step    : Option (Int × Int)
  count   : Option Word
  ext     : Option Int
  deriving DecidableEq, Repr

/-- Growth g of step 1 for a step `dq` and a sample age. -/
def Mpi.growth (m : Mpi) (dq : Int) (age : Int) : Int :=
  let s := m.env
  upDiv (absInt dq * s.MPI_ENCPPM) (10 ^ 6) + upDiv (s.cycleUs * s.MPI_ENCRATE * s16) (10 ^ 7) +
    upDiv (s.MPI_VERR * age * s16) (10 ^ 7)

/-- Capture time usable in the cycle of `tk` (R226). -/
def Mpi.fresh (m : Mpi) (tk t : Nat) : Bool := t ≤ tk && tk ≤ t + 2 * m.env.cycleUs

/-- The encoder's part of step 1. -/
def Mpi.encStep (m : Mpi) (tk : Nat) : EncStep :=
  let f := m.fusion
  let s := m.env
  if !f.encUsed || f.enc.lost then { sampled := false, step := none, count := none, ext := none }
  else if f.encSel == 1 then
    let c := (f.quads.get Quad.reset f.encPad).count
    let step := f.prevCount.map fun p => let dq := sDiff c p * s.encScale; (dq, m.growth dq 0)
    { sampled := true, step := step, count := some c, ext := none }
  else
    match f.encItem with
    | some (c, t) =>
      if m.fresh tk t then
        let age : Int := (tk - t : Nat)
        let ext := rnDiv (f.v * age * s16) (10 ^ 7)
        let step := match f.prevCount, f.prevEh with
          | some p, some e => let dq := sDiff c p * s.encScale + ext - e; some (dq, m.growth dq age)
          | _, _ => none
        { sampled := true, step := step, count := some c, ext := some ext }
      else { sampled := false, step := none, count := none, ext := none }
    | none => { sampled := false, step := none, count := none, ext := none }

/-- The reader's sample of the cycle, when present. -/
def Mpi.reader (m : Mpi) (tk : Nat) : Option ReaderSample :=
  if !m.fusion.ssiUsed || m.fusion.ssi.lost then none
  else match m.fusion.sample with
    | some x => if m.fresh tk x.tc then some x else none
    | none => none

/-- pS of step 1: a code's position, raw. -/
def Mpi.codePos (m : Mpi) (raw : Word) : Int :=
  sInt (m.env.reg .MPI_SSIOFS) * s16 + m.fusion.decode raw * sInt (m.env.reg .MPI_SSISCALE)

/-- The reader's centre extrapolated to time `t` (step 3). -/
def Mpi.readerCentre (m : Mpi) (x : ReaderSample) (v : Int) (t : Nat) : Int :=
  m.codePos x.code + rnDiv (v * ((t : Int) - x.tc) * s16) (10 ^ 7)

/-- V of step 1. -/
def Mpi.velocity (m : Mpi) (e : EncStep) (r : Option ReaderSample) : Int :=
  match e.step with
  | some (dq, _) => rnDiv (dq * 10 ^ 7) (s16 * m.env.cycleUs)
  | none =>
    match r, m.fusion.prevPs with
    | some x, some (p, t) => if x.tc = t then m.fusion.v else rnDiv ((m.codePos x.code - p) * 10 ^ 7) (s16 * (x.tc - t))
    | _, _ => m.fusion.v

/-- The prior P of step 2. -/
def Mpi.prior (m : Mpi) (e : EncStep) (v : Int) : Option Ival :=
  m.fusion.interval.map fun i =>
    match e.step with
    | some (dq, g) => { src := 0, lo := i.1 + dq - g, hi := i.2 + dq + g }
    | none =>
      let w := upDiv ((absInt v + m.env.MPI_VERR) * m.env.cycleUs * s16) (10 ^ 7)
      { src := 0, lo := i.1 - w, hi := i.2 + w }

/-- The reader interval S of step 3. -/
def Mpi.readerIval (m : Mpi) (r : Option ReaderSample) (v : Int) (tk : Nat) : Option Ival :=
  r.map fun x =>
    let c := m.readerCentre x v tk
    let h := m.env.MPI_SSIERR * s16 +
      upDiv ((absInt v * m.env.MPI_SSILAT + m.env.MPI_VERR * ((tk - x.tc : Nat) : Int)) * s16) (10 ^ 7)
    { src := 1, lo := c - h, hi := c + h }

/-- The accepted edge with the latest time (R230). -/
def lastEdge (es : List VaneEdge) : Option VaneEdge :=
  es.foldl (fun m e => match m with | some b => if b.te ≤ e.te then some e else some b | none => some e) none

/-- The edge position an accepted edge stands for at a landing (R230). -/
def State.edgePos (s : State) (j : Nat) (low : Bool) : Int := if low then s.vaneLo j else s.vaneHi j

/-- The landing whose chosen edge lies nearest twice-centre `c2`, ties to the lower (R230). -/
def State.nearestEdge (s : State) (low : Bool) (c2 : Int) : Option (Nat × Int) :=
  s.landings.foldl (fun m j =>
    let d := absInt (2 * s.edgePos j low * s16 - c2)
    match m with
    | some b => if d < b.2 then some (j, d) else some b
    | none => some (j, d)) none

/-- The vane interval W of step 4, or the unmatched edge with the centre it was matched against. -/
def Mpi.vaneIval (m : Mpi) (base : Option Ival) (v : Int) (tk : Nat) : Option Ival × Option (Nat × Int) :=
  let f := m.fusion
  let s := m.env
  if !f.vaneUsed || f.vane.lost || !f.tabOk || (f.runState.run == .learn && f.runState.phase == 2) then (none, none)
  else
    match lastEdge f.edges, base with
    | some e, some b =>
      let up := if v = 0 then f.lastUp else decide (0 < v)
      let low := e.on == up
      match s.nearestEdge low (b.lo + b.hi) with
      | some (j, d) =>
        if 2 * s.MPI_VANECAP * s16 < d then (none, some (e.pair, downDiv (b.lo + b.hi) (2 * s16)))
        else
          let age : Int := (tk : Int) - e.te
          let c := s.edgePos j low * s16 + rnDiv (v * age * s16) (10 ^ 7)
          let h := s.MPI_VANEERR * s16 +
            upDiv ((absInt v * (2 * s.MPI_VANELAT + e.d) + 2 * (s.MPI_VERR * age)) * s16) (2 * 10 ^ 7)
          (some { src := 2, lo := c - h, hi := c + h }, none)
      | none => (none, some (e.pair, downDiv (b.lo + b.hi) (2 * s16)))
    | _, _ => (none, none)

/-- A source's exclusion and absence counts after a cycle, and whether it has become LOST (R232). -/
def SourceStat.count (x : SourceStat) (used present out : Bool) (xrun missrun : Nat) (perEdge : Bool) : SourceStat × Nat :=
  if !used then ({ x with status := 0 }, 0)
  else if x.lost then ({ x with status := 4 }, 0)
  else
    let ex := if out then x.excluded + 1 else if perEdge && !present then x.excluded else 0
    let ab := if present || perEdge then 0 else x.absent + 1
    let cause := if xrun ≤ ex then 1 else if missrun ≤ ab then 2 else 0
    let st : BitVec 3 := if cause ≠ 0 then 4 else if out then 3 else if present || perEdge then 1 else 2
    ({ status := st, lost := cause ≠ 0, excluded := ex, absent := ab }, cause)

/-- Records of the exclusions and losses of a cycle. -/
def Mpi.noteSource (m : Mpi) (src : Nat) (first : Bool) (cause : Nat) (plo phi : Int) : Mpi :=
  let m := if first then
      m.note 0x0501 (leBytes 1 src ++ leBytes 4 (satWord plo).toNat ++ leBytes 4 (satWord phi).toNat)
    else m
  if cause = 0 then m else m.noteLost src cause

/-! ### Position virtual inputs (R235, R236) -/

/-- The interval lies wholly within `h` of LEVELj, for a present landing of a valid table. -/
def Mpi.inZone (m : Mpi) (j : Nat) (h plo phi : Int) : Bool :=
  m.fusion.tabOk && m.env.landing j && m.env.levelOf j - h ≤ plo && phi ≤ m.env.levelOf j + h

/-- DOORZONE or NEARLEVEL: landing ARG[7:0], or any landing with ARG[8]. -/
def Mpi.zoneInput (m : Mpi) (arg : Word) (h plo phi : Int) : Bool :=
  if arg.getLsbD 8 then m.env.landings.any fun j => m.inZone j h plo phi else m.inZone (getBits arg 7 0) h plo phi

/-- One position virtual input (R235). -/
def Mpi.pvi (m : Mpi) (n : Nat) (plo phi v : Int) : Bool :=
  let s := m.env
  let arg := s.reg .MPI_PVIARG [n]
  let verr : Int := s.MPI_VERR
  let valid := m.fusion.stat == .tracking || m.fusion.stat == .degraded
  let term (u d : Int) : Bool := u ≤ 0 || (0 < d && u * u ≤ 2000 * s.MPI_ADEC * d)
  match getBits (s.reg .MPI_PVICFG [n]) 3 0 with
  | 1 => valid
  | 2 => m.fusion.stat == .tracking && !m.fusion.disagree
  | 3 => valid && m.zoneInput arg s.MPI_DZHALF plo phi
  | 4 => valid && m.zoneInput arg (getBits arg 31 16) plo phi
  | 5 => valid && sInt arg < plo
  | 6 => valid && phi < sInt arg
  | 7 => valid && absInt v + verr ≤ sInt arg
  | 8 => valid && term (v + verr) (sInt arg - phi)
  | 9 => valid && term (verr - v) (plo - sInt arg)
  | _ => false

/-- The sixteen inputs as a word (R237). -/
def Mpi.pviWord (m : Mpi) (plo phi v : Int) : BitVec 16 :=
  (List.range 16).foldl (fun w n => if m.pvi n plo phi v then w ||| (1#16 <<< n) else w) 0

/-! ### The cycle whole -/

/-- MPI_FSTAT (R250). -/
def Fusion.statWord (f : Fusion) : Word :=
  BitVec.ofNat 32 (f.vane.status.toNat * 2 ^ 24 + f.ssi.status.toNat * 2 ^ 20 + f.enc.status.toNat * 2 ^ 16 +
    bit f.disagree * 2 ^ 9 + bit (f.stat == .tracking || f.stat == .degraded) * 2 ^ 8 +
    runKindCode f.runState.run * 2 ^ 4 + bit f.tabOk * 2 ^ 3 + fusionCode f.stat)

/-- The item of a capture-only unit (R226). -/
def Mpi.captureItem (m : Mpi) (k : Nat) : List Word :=
  let f := m.fusion
  let s := f.sample.getD { tc := 0, code := 0 }
  let pairBits (g : Nat → Bool) : Nat := ((List.range 4).map fun v => bit (g v) * 2 ^ v).sum
  let edge (v : Nat) : Option VaneEdge := lastEdge (f.edges.filter (·.pair == v))
  let w4 := pairBits (fun v => (f.pairs.get VanePair.reset v).levelA) +
    16 * pairBits (fun v => (f.pairs.get VanePair.reset v).levelB) + 256 * pairBits (fun v => (edge v).isSome) +
    4096 * f.discs.toNat
  [lowWord k, lowWord s.tc, s.code, BitVec.ofNat 32 (bit f.sample.isSome), BitVec.ofNat 32 w4] ++
    (List.range 4).map fun v => match edge v with
      | some e => BitVec.ofNat 32 (e.te % 2 ^ 24 * 256 + min e.d 255)
      | none => 0

/-- A capture-only cycle: the item goes out and the cycle's captures are cleared. -/
def Mpi.captureCycle (m : Mpi) (k : Nat) : Mpi :=
  let m := m.post 0x0505 (m.captureItem k)
  { m with fusion := { m.fusion with sample := none, edges := [], discs := 0 } }

/-- In a list with the newest landing first, the newest of pair `v` takes its upper edge; none when that one has it already. -/
def closeNewest (v : Nat) (x : Int) : List Found → Option (List Found)
  | [] => none
  | l :: rest =>
    if l.pair = v then (if l.hi.isNone then some ({ l with hi := some x } :: rest) else none)
    else (closeNewest v x rest).map (l :: ·)

/-- The landing onto which pair `v` last went takes its upper edge; without one that stands open it is a landing that lacks its
lower edge (R244). -/
def closeFound (v : Nat) (x : Int) (fs : List Found) : List Found :=
  match closeNewest v x fs.reverse with
  | some l => l.reverse
  | none => fs ++ [{ pair := v, lo := none, hi := some x }]

/-- In the UP phase of a learn run accepted edges become found landings: a pair that goes onto the vane opens one, and the
edge with which it goes off closes that one (R244). -/
def foundEdge (fs : List Found) (v : Nat) (on : Bool) (x : Int) : List Found :=
  if on then fs ++ [{ pair := v, lo := some x, hi := none }] else closeFound v x fs

/-- POS carried back to an edge's time (step 4 the other way round). -/
def posAtEdge (pos v : Int) (tk te : Nat) : Int := rnDiv (pos * s16 - rnDiv (v * ((tk : Int) - te) * s16) (10 ^ 7)) s16

/-- What the cycle adds to a run: found landings, p and the NTSUP position, and the cycles waited for the reader
(R244, R245, R248). -/
def Mpi.runCycle (m : Mpi) (tk : Nat) (pos v : Int) (r : Option ReaderSample) : Mpi :=
  let x := m.fusion.runState
  if x.run = .none then m
  else
    let x := if x.run == .learn && x.phase == 2 then
        let l := m.fusion.edges.foldl (fun l e => foundEdge l e.pair e.on (posAtEdge pos v tk e.te)) x.list
        { x with list := l, found := BitVec.ofNat 8 (min 255 l.length) }
      else x
    let x := match x.edge with
      | none => x
      | some te =>
        if x.phase == 2 then { x with ntsup := some (x.ntsup.getD (posAtEdge pos v tk te)) }
        else if x.p.isSome then x
        else match m.fusion.ssiUsed && (!m.env.fusion.ssi.lost || x.waited ≠ 0), r with
          | false, _ => { x with p := some (sInt (m.env.reg .MPI_DATUM)) }
          | true, some sm => { x with p := some (rnDiv (m.readerCentre sm v te) s16), read := true }
          | true, none => { x with waited := x.waited + 1 }
    { m with fusion := { m.fusion with runState := x } }

/-- The accepted edges of cycle `tk`: those up to the boundary, a remote one only while fresh (R226). -/
def Mpi.cycleEdges (m : Mpi) (tk : Nat) : List VaneEdge :=
  m.fusion.edges.filter fun e => e.te ≤ tk && (m.fusion.vaneSel != 2 || m.fresh tk e.te)

/-- The local edges that fall after the boundary, for the next cycle. -/
def Mpi.laterEdges (m : Mpi) (tk : Nat) : List VaneEdge :=
  m.fusion.edges.filter fun e => tk < e.te && m.fusion.vaneSel != 2

/-- The cycle of a full fusion engine (R229). A sample captured after the boundary is absent in this cycle and waits for the
next; any other serves this cycle alone (R226, log entry 31). -/
def Mpi.fullCycle (m : Mpi) (k tk : Nat) : Mpi :=
  let s := m.env
  let later := m.laterEdges tk
  let m := { m with fusion := { m.fusion with edges := m.cycleEdges tk } }
  let f := m.fusion
  let e := m.encStep tk
  let r := m.reader tk
  let v := m.velocity e r
  let p := m.prior e v
  let rd := m.readerIval r v tk
  let base := match p with | some i => some i | none => rd
  let w := m.vaneIval base v tk
  let c := if f.interval.isNone && !f.tabOk then none
    else if f.interval.isNone && rd.isNone then none
    else combine (p.toList ++ rd.toList ++ w.1.toList)
  let out := match c with | some x => x.out | none => none
  let dis := match c with | some x => x.disagree | none => false
  let lo := match c with | some x => x.lo | none => 0
  let hi := match c with | some x => x.hi | none => 0
  let plo := sat32 (downDiv lo s16)
  let phi := sat32 (upDiv hi s16)
  let pos := downDiv (plo + phi) 2
  let bound := sat32 (phi - pos)
  let enc := f.enc.count f.encUsed e.sampled (out == some 0 && e.step.isSome) s.MPI_XRUN s.MPI_MISSRUN false
  let ssi := f.ssi.count f.ssiUsed r.isSome (out == some 1) s.MPI_XRUN s.MPI_MISSRUN false
  let vane := f.vane.count f.vaneUsed w.1.isSome (out == some 2) s.MPI_XRUN s.MPI_MISSRUN true
  let f1 := { f with
    v := v, lastUp := if v = 0 then f.lastUp else decide (0 < v),
    interval := c.map fun x => (x.lo, x.hi), enc := enc.1, ssi := ssi.1, vane := vane.1, disagree := dis,
    disagreeRun := if dis then (if w.1.isSome then 1 else f.disagreeRun + 1) else 0, prevCount := e.count, prevEh := e.ext,
    prevPs := r.map fun x => (m.codePos x.code, x.tc) }
  let m1 := { m with fusion := f1 }
  let m1 := match w.2 with
    | some (pair, ctr) =>
      if (match f.unmatchedAt with | some t => decide (t + 1000000 ≤ s.dev) | none => true) then
        Mpi.note { m1 with fusion := { f1 with unmatchedAt := some s.dev } } 0x0506
          (leBytes 1 pair ++ leBytes 4 (satWord ctr).toNat)
      else m1
    | none => m1
  let m1 := m1.noteSource 0 (enc.1.excluded == 1 && out == some 0 && !f.enc.lost) enc.2 plo phi
  let m1 := m1.noteSource 1 (ssi.1.excluded == 1 && out == some 1) ssi.2 plo phi
  let m1 := m1.noteSource 2 (vane.1.excluded == 1 && out == some 2) vane.2 plo phi
  let m1 := if dis && f.disagreeRun == 0 then
      m1.note 0x0503 [BitVec.ofNat 8 (bit e.step.isSome + 2 * bit rd.isSome + 4 * bit w.1.isSome)]
    else m1
  let m1 := match f.stat, c with
    | .unknown, some _ => if rd.isSome && f.tabOk then m1.settle bound else m1
    | .tracking, some _ => m1.settle bound
    | .degraded, some _ => m1.settle bound
    | _, _ => m1
  let m1 := m1.runCycle tk pos v r
  let unknown := m1.fusion.stat == .unknown
  let held := m1.fusion.interval.isSome
  let res : FusionResult :=
    { pos := if held then satWord pos else f.res.pos, bound := if unknown then 0x7FFFFFFF else satWord bound,
      plo := if held then satWord plo else 0x80000000, phi := if held then satWord phi else 0x7FFFFFFF,
      vel := satWord v, cycle := lowWord k }
  let pvi := m1.pviWord plo phi v
  let m1 := { m1 with fusion := { m1.fusion with
    res := res, pvi := pvi, sample := f.sample.filter fun x => decide (tk < x.tc),
    encItem := f.encItem.filter fun x => decide (tk < x.2), edges := later, discs := 0 } }
  let m1 := m1.post 0x0500 [pvi.setWidth 32 ||| ((~~~pvi).setWidth 32 <<< 16), lowWord k]
  m1.post 0x0503 [lowWord k, res.plo, res.phi, res.vel, m1.fusion.statWord]

/-- Take the items waiting at one of fusion's consumer ports. -/
def Mpi.drain (m : Mpi) (port : Nat) (f : Mpi → Item → Mpi) : Mpi :=
  let r := m.qf.takeItems port 64
  r.1.foldl f { m with qf := r.2 }

/-- FUSION_CYCLE (R228, R229). -/
def Mpi.fusionCycle (m : Mpi) : Mpi :=
  let s := m.env
  let k := s.dev / s.cycleUs
  if s.quiet .mpi || m.fusion.stat == .off then m
  else
    let m := m.takeParms.drain 0x0504 Mpi.switchItem
    if s.fusionKind = 2 then m.captureCycle k
    else
      let m := m.drain 0x0502 Mpi.encItemIn
      let m := m.drain 0x0501 Mpi.captureIn
      m.fullCycle k (k * s.cycleUs)

/-! ### Ends of run phases (R244, R245) -/

/-- The interval becomes `p` ± HOMEERR. -/
def Mpi.setInterval (m : Mpi) (p : Int) : Mpi :=
  let h := m.inForce.MPI_HOMEERR * s16
  { m with fusion := { m.fusion with interval := some (p * s16 - h, p * s16 + h) } }

/-- The reader's and the learned position of the NTSDN switch disagree by more than 2000 LSB (R244, R245). -/
def Mpi.homeMismatch (m : Mpi) (p : Int) : Bool :=
  let learned := m.env.reg .MPI_NTSDN
  m.fusion.runState.read && learned != 0x7FFFFFFF && 2000 < absInt (p - sInt learned)

/-- The table entries of a completed learn run, ascending, then NTSDN, NTSUP and the CRC (R244). -/
def Mpi.commitTable (m : Mpi) (p ntsup : Int) (l : List Found) : Mpi :=
  let m := l.zipIdx.foldl (fun m e =>
    (m.writeRwk .MPI_LVLO [e.2] (satWord (e.1.lo.getD 0))).writeRwk .MPI_LVHI [e.2] (satWord (e.1.hi.getD 0))) m
  let m := (m.writeRwk .MPI_NTSDN [] (satWord p)).writeRwk .MPI_NTSUP [] (satWord ntsup)
  m.writeRwk .MPI_LTABCRC [] (State.tableCrc { m.env with regs := m.regs })

/-- The run completes: the state follows the sources (R233, R245). A home run starts the DISAGREE count afresh with its new
interval; a learn run does not leave INVALID (R233). -/
def Mpi.finishRun (m : Mpi) : Mpi :=
  let home := m.fusion.runState.run == .home
  let bound : Int := match m.fusion.interval with
    | some i => upDiv (upDiv i.2 s16 - downDiv i.1 s16) 2
    | none => 0
  let m := if home then { m with fusion := { m.fusion with disagreeRun := 0 } } else m
  (if home || m.fusion.stat != .invalid then m.settle bound else m).endRun 2

/-- RUN_PHASE_END: the phase's edge has come and the car is at rest (R244, R245). -/
def Mpi.phaseEnd (m : Mpi) : Mpi :=
  let x := m.fusion.runState
  let atRest := match m.env.carPlanner with
    | some p => (m.planner p).idle
    | none => false
  if x.run == .none || x.edge.isNone || !atRest then m
  else if x.phase == 2 then
    let whole := x.list.length == m.inForce.MPI_NLAND && x.list.all fun l => l.lo.isSome && l.hi.isSome
    match x.p, x.ntsup with
    | some p, some u =>
      if whole then
        let m := m.commitTable p u x.list
        Mpi.finishRun { m with fusion := { m.fusion with tabOk := true } }
      else m.endRun 6
    | _, _ => m
  else
    match x.p with
    | none => if m.inForce.MPI_MISSRUN ≤ x.waited then m.endRun 5 else m
    | some p =>
      if m.homeMismatch p then m.endRun 5
      else if x.run == .home then (m.setInterval (sInt (m.env.reg .MPI_NTSDN))).finishRun
      else
        let m := m.setInterval p
        Mpi.postFusion
          { m with fusion := { m.fusion with runState := { x with phase := 2, edge := none, list := [], found := 0 } } }
          (fusionMove m.inForce.MPI_LEARNVEL)

/-! ### Commands -/

/-- A step of the MPI island, the engine being instantiated and not held. -/
def State.runMpi (s : State) (ok : Bool) (f : Mpi → Mpi) : State := if ok then s.withMpi (f s.mpi) else s

/-- A full fusion engine runs. -/
def State.fullFusion (s : State) : Bool := s.fusionKind == 1 && s.fusion.stat != .off

/-- Fusion in reset: what stays is the levels at the pads (R223, R225, R248). -/
def Fusion.cleared (f : Fusion) : Fusion :=
  { Fusion.reset with quads := f.quads,
                      pairs := (List.range 4).foldl (fun (t : Tbl VanePair) v =>
                        let p := f.pairs.get VanePair.reset v
                        t.set VanePair.reset v { VanePair.reset with levelA := p.levelA, levelB := p.levelB }) [] }

/-- The engine starts at step 6: cfg in force, table checked, UNKNOWN (R233, R241, R249). -/
def Mpi.startFusion (m : Mpi) : Mpi :=
  let s := m.env
  if s.fusionKind = 0 then m
  else
    let cfg := s.reg .MPI_FCFG
    let f := { m.fusion.cleared with cfg := cfg }
    let f := { f with prevCount := if f.encSel == 1 then some (f.quads.get Quad.reset f.encPad).count else none }
    let m := (Mpi.setFusion { m with fusion := f } .unknown).takeParms
    if s.fusionKind = 1 then m.checkTable else m

/-- FUSION_CYCLE (R229). -/
def execFusionCycle (s : State) : Host.Outcome State Fault Refusal := .next (s.withMpi s.mpi.fusionCycle)

/-- SSI_READ: the code read, the error bit, and the data line at the monoflop check (R224). -/
def Mpi.ssiRead (m : Mpi) (code : Word) (err high : Bool) : Mpi :=
  let sel := m.fusion.ssiSel
  if sel != 1 && sel != 2 then m
  else if (testBit m.fusion.cfg.toNat 15 && err) || !high then { m with fusion := { m.fusion with sample := none } }
  else { m with fusion := { m.fusion with sample := some { tc := m.env.dev, code := code } } }

/-- The image uses the four pads of the SSI reader that fusion selects (R46, R49). -/
def State.ssiWired (s : State) : Bool :=
  (List.range 4).all fun i => s.padUsed (56 + 4 * (s.fusion.ssiSel - 1) + i)

def execSsiRead (code : Word) (err high : Bool) (s : State) : Host.Outcome State Fault Refusal :=
  .next (s.runMpi (s.fusion.stat != .off && !s.quiet .mpi && s.ssiWired) fun m => m.ssiRead code err high)

/-- ENCODER_TRANSITION (R223), on pads the image uses (R49). -/
def execEncoderTransition (pad : Fin 4) (a b : Bool) (s : State) : Host.Outcome State Fault Refusal :=
  .next (s.runMpi (s.padUsed (64 + 3 * pad.val) && s.padUsed (65 + 3 * pad.val)) fun m => m.encTransition pad.val a b)

/-- ENCODER_ITEM (R222, R226). -/
def execEncoderItem (it : Item) (s : State) : Host.Outcome State Fault Refusal :=
  .next (s.runMpi s.fullFusion fun m => m.encItemIn it)

/-- CAPTURE_ITEM (R226). -/
def execCaptureItem (it : Item) (s : State) : Host.Outcome State Fault Refusal :=
  .next (s.runMpi s.fullFusion fun m => m.captureIn it)

/-- VANE_CHANNEL_EDGE (R225), on a pad the image uses (R49). -/
def execVaneChannelEdge (pair : Fin 4) (chB level : Bool) (s : State) : Host.Outcome State Fault Refusal :=
  .next (s.runMpi (s.padUsed (311 + 2 * pair.val + bit chB)) fun m =>
    if s.fusion.stat != .off && m.vaneLocal pair.val then m.vaneChannel pair.val chB level
    else m.vaneLevel pair.val chB level)

/-- VANE_WINDOW_EXPIRE (R225). -/
def execVaneWindowExpire (pair : Fin 4) (s : State) : Host.Outcome State Fault Refusal :=
  match (s.fusion.pairs.get VanePair.reset pair.val).pend with
  | some (_, t) => .next (s.withMpi (s.mpi.vaneMiss pair.val (s.dev - t)))
  | none => .next s

/-- SWITCH_CHANGE_ITEM (R242). -/
def execSwitchChangeItem (it : Item) (s : State) : Host.Outcome State Fault Refusal :=
  .next (s.runMpi (s.fusion.stat != .off) fun m => m.switchItem it)

/-- SWITCH_EDGE_COUNT (R242). -/
def execSwitchEdgeCount (sw : Fin 4) (s : State) : Host.Outcome State Fault Refusal :=
  .next (s.withMpi (s.mpi.countEdge sw.val))

/-- A write of MPI_FCMD: the value reads back, and 1 to 3 issue a command (R252). -/
def State.writeFcmd (s : State) (w : Word) : State :=
  let s := s.setReg .MPI_FCMD [] (BitVec.ofNat 32 (getBits w 2 0))
  s.runMpi s.fullFusion fun m =>
    match getBits w 2 0 with
    | 1 => m.startRun .learn
    | 2 => m.startRun .home
    | 3 => m.abortRun
    | _ => m

/-- RUN_PHASE_END (R244, R245). -/
def execRunPhaseEnd (s : State) : Host.Outcome State Fault Refusal := .next (s.withMpi s.mpi.phaseEnd)

/-- A write of MPI_NLAND with its clamp, and the table checked again (R241, R253). -/
def State.writeNland (s : State) (w : Word) : State :=
  let s := s.setReg .MPI_NLAND [] (BitVec.ofNat 32 (min 256 (max 1 w.toNat)))
  s.runMpi s.fullFusion Mpi.checkTable

/-- FPOS_READ: the other five result registers freeze on this cycle (R251). -/
def execFposRead (s : State) : Host.Outcome State Fault Refusal :=
  .next { s with fusion := { s.fusion with frozen := some s.fusion.res } }

end Sys2Proof.Machine
end

