-- ==== Sys2Proof/Machine/Planner.lean ====
section
/-! DEFINITION. Motion planners (chapter 08): move commands, plans, blending, velocity moves, segment tables, arrival,
degraded handling, estimates and stepper axes. -/

namespace Sys2Proof.Machine

/-! ### Configuration of a planner -/

/-- Kind of planner `p`: 1 car axis, 2 door, 3 auxiliary, 0 not instantiated (R150, R256). -/
def State.planKind (s : State) (p : Nat) : Nat :=
  match s.tile 2 p with
  | some t => t.arg.toNat
  | none => 0

/-- The motor engine whose reference port planner `p` feeds (R258, R299). -/
def State.fedMotor (s : State) (p : Nat) : Option Nat :=
  match s.image with
  | some im => [0, 1, 2, 3].find? fun m =>
      im.routes.any fun r => r.producer.toNat == 0x0518 + p && r.consumer.toNat == (6 + m) * 0x100
  | none => none

/-- STEPPER of MPI_PLCFGp: an auxiliary planner that feeds a motor engine in stepper mode (R293). -/
def State.stepper (s : State) (p : Nat) : Bool :=
  s.planKind p == 3 && (match s.fedMotor p with
    | some m => (match s.tile 3 m with | some t => t.arg == 2 | none => false)
    | none => false)

/-- The scaled count of a stepper axis's encoder, before EORG (R289). -/
def Mpi.encScaled (m : Mpi) (p : Nat) : Int :=
  let c := (m.fusion.quads.get Quad.reset (m.env.MPI_PLSTEP_ENC p)).count
  downDiv (sInt c * sInt (m.env.reg .MPI_PLESCALE [p])) (2 ^ 16)

/-- The encoder position of a stepper axis (R289). -/
def Mpi.encPos (m : Mpi) (p : Nat) : Int := sat32 ((m.planner p).eorg + m.encScaled p)

/-- The feedback position a door or auxiliary planner starts a move from (R279). -/
def Mpi.feedback (m : Mpi) (p : Nat) : Int :=
  let last := (m.planner p).kin.lsb
  match m.env.fedMotor p with
  | none => last
  | some mc =>
    if m.env.stepper p then (if (m.planner p).sync then m.encPos p else last)
    else (m.env.motors.get Motor.reset mc).fbpos

/-- A limit in force: the override, unless it is 0 or above the register (R260). -/
def limitIn (reg : Nat) (ov : Word) : Int := if ov = 0 ∨ reg < ov.toNat then reg else ov.toNat

/-- The limits in force for a move (R260, R267, R281). -/
def Mpi.limits (m : Mpi) (p : Nat) (mv : Move) : Limits :=
  let s := m.env
  let vm := limitIn (s.MPI_PLVMAX p) mv.vmax
  { vm := if (m.planner p).degLimit then min vm (s.MPI_PLDEGVEL p) else vm,
    a := limitIn (s.MPI_PLAMAX p) mv.amax,
    d := if mv.quick then s.MPI_PLQDMAX p else limitIn (s.MPI_PLDMAX p) mv.dmax,
    j := if mv.quick then s.MPI_PLQJMAX p else limitIn (s.MPI_PLJMAX p) mv.jmax }

/-- STATE of MPI_PLSTATp (R294). -/
def Planner.phase (x : Planner) : PlannerState :=
  match x.motion with
  | .dwell _ => .dwell
  | .arriving _ => .arriving
  | .velocity _ _ _ _ => .running
  | .table _ _ _ => .running
  | .plan _ _ _ _ (.arrive _) => .running
  | .plan _ _ _ _ (.replan _) => .running
  | .plan _ _ _ _ _ => .stopping
  | .rest => if x.pwrLock || x.stalled || x.degLock then .locked else .idle

/-- Change planner `p`, its STATE following. -/
def Mpi.upd (m : Mpi) (p : Nat) (f : Planner → Planner) : Mpi :=
  let x := f (m.planner p)
  m.setPlanner p { x with stat := x.phase }

/-! ### Segment tables (R275 to R278) -/

/-- A knot: time, position, velocity (R275). -/
structure Knot where
  t : Nat
  p : Int
  v : Int
  deriving DecidableEq, Repr

def State.knot (s : State) (i : Nat) : Knot :=
  { t := (s.reg .MPI_KNT [i]).toNat, p := sInt (s.reg .MPI_KNP [i]), v := sInt (s.reg .MPI_KNV [i]) }

/-- COUNT and FIRST of a table directory entry (R297). -/
def State.tableDir (s : State) (p t : Nat) : Nat × Nat :=
  let w := s.reg .MPI_PLTAB [p, t]
  (getBits w 24 16, getBits w 13 0)

/-- The knots of a table. -/
def State.knots (s : State) (p t : Nat) : List Knot :=
  let d := s.tableDir p t
  (List.range d.1).map fun i => s.knot (d.2 + i)

/-- Knot times strictly increase. -/
def rising : List Knot → Bool
  | a :: b :: ks => a.t < b.t && rising (b :: ks)
  | _ => true

/-- A table is valid (R276). -/
def State.tableValid (s : State) (p t : Nat) : Bool :=
  let d := s.tableDir p t
  2 ≤ d.1 && d.1 ≤ 256 && d.1 + d.2 ≤ 12288 &&
    (let ks := s.knots p t
     (match ks with | k :: _ => k.t == 0 | [] => false) && rising ks &&
       ks.all fun k => absInt k.v ≤ s.MPI_PLVMAX p)

/-- The output of R277 between two knots, `tau` µs from the table's start: raw position, velocity, acceleration. -/
def hermite (k0 k1 : Knot) (tau : Nat) : Kin :=
  let h : Int := (k1.t : Int) - k0.t
  let d := (k1.p - k0.p) * s16
  let m0 := rnDiv (k0.v * h * s16) (10 ^ 7)
  let m1 := rnDiv (k1.v * h * s16) (10 ^ 7)
  let c2 := 3 * d - 2 * m0 - m1
  let c3 := m0 + m1 - 2 * d
  let s := downDiv (((tau : Int) - k0.t) * 2 ^ 24) h
  let x := rnDiv (c3 * s) (2 ^ 24) + c2
  let y := rnDiv (x * s) (2 ^ 24) + m0
  let q := rnDiv ((rnDiv (3 * c3 * s) (2 ^ 24) + 2 * c2) * s) (2 ^ 24) + m0
  { pos := k0.p * s16 + rnDiv (y * s) (2 ^ 24), vel := rnDiv (q * 10 ^ 7) (s16 * h),
    acc := rnDiv ((2 * c2 + rnDiv (6 * c3 * s) (2 ^ 24)) * 10 ^ 11) (s16 * (h * h)) }

/-- The knots on either side of a time before the last knot's. -/
def knotPair (tau : Nat) : List Knot → Option (Knot × Knot)
  | a :: b :: ks => if tau < b.t then some (a, b) else knotPair tau (b :: ks)
  | _ => none

/-! ### Events -/

/-- Post a move event (R264); a refusal is also recorded, at most once per second (R298). -/
def Mpi.event (m : Mpi) (p : Nat) (tag : BitVec 8) (kind : BitVec 4) (status : Nat) (id : Word) : Mpi :=
  let s := m.env
  let pos := satWord (m.planner p).kin.lsb
  let w0 := BitVec.ofNat 32 (tag.toNat + status * 2 ^ 8 + kind.toNat * 2 ^ 16)
  let m := m.post (0x0520 + p) [w0, id, pos, lowWord s.dev]
  let due := match (m.planner p).refusedAt with
    | some t => decide (t + 1000000 ≤ s.dev)
    | none => true
  let refused := 0x10 ≤ status
  let m := m.upd p fun x =>
    { x with last := BitVec.ofNat 8 status, refusedAt := if refused && due then some s.dev else x.refusedAt }
  if refused && due then
    m.note 0x0525 (leBytes 1 p ++ leBytes 1 status ++ leBytes 1 tag.toNat ++ leBytes 4 id.toNat)
  else m

/-- Post an event of a move. -/
def Mpi.moveEvent (m : Mpi) (p : Nat) (mv : Move) (status : Nat) : Mpi := m.event p mv.tag mv.kind status mv.id

/-- The running move ends with a status; a move of the fusion engine that is aborted, or that no switch ended, ends its run
(R246). -/
def Mpi.endMove (m : Mpi) (p : Nat) (status : Nat) : Mpi :=
  match (m.planner p).running with
  | none => m
  | some mv =>
    let m := (m.moveEvent p mv status).upd p fun x => { x with running := none, moves := satInc x.moves }
    if mv.fusion then (if status = 0x05 then m.runMoveAborted else m.runMoveLost) else if mv.id = 0xFFFFFFFE then m.degradedArrived else m

/-- Every held move is answered DISCARDED (R264). -/
def Mpi.discardHeld (m : Mpi) (p : Nat) : Mpi :=
  let hs := (m.planner p).held
  let m := hs.foldl (fun m mv => m.moveEvent p mv 0x09) (m.upd p fun x => { x with held := [] })
  if hs.any (·.fusion) then m.runMoveLost else m

/-! ### Stops -/

/-- Stop from the present state exactly per R269, the running move to end with `status`, whatever plan runs. -/
def Mpi.stopAfresh (m : Mpi) (p : Nat) (status : Nat) (quick : Bool) : Mpi :=
  let x := m.planner p
  let st : BitVec 8 := BitVec.ofNat 8 status
  let d : Int := if quick then m.env.MPI_PLQDMAX p else m.env.MPI_PLDMAX p
  let j : Int := if quick then m.env.MPI_PLQJMAX p else m.env.MPI_PLJMAX p
  let halt := (m.upd p fun x => { x with motion := .rest }).endMove p status
  match x.motion with
  | .rest => halt
  | .dwell _ => halt
  | .arriving _ => halt
  | _ =>
    if x.kin.vel = 0 ∧ x.kin.acc = 0 then halt
    else m.upd p fun x => { x with motion := .plan x.kin 0 0 (stopPieces x.kin d j) (.stopped st) }

/-- Stop from the present state, the running move to end with `status`; a stop that runs, be it that of R267 or of R270, is kept
(R292), but a move that an
ABORT names while it stops ends ABORTED (R261, R291). -/
def Mpi.stopWith (m : Mpi) (p : Nat) (status : Nat) (quick : Bool) : Mpi :=
  let st : BitVec 8 := BitVec.ofNat 8 status
  match (m.planner p).motion with
  | .plan k t pre ps (.stopped st0) =>
    m.upd p fun x => { x with motion := .plan k t pre ps (.stopped (if status = 0x05 then st else st0)) }
  | .plan _ _ _ _ (.arrive _) => m.stopAfresh p status quick
  | .plan k t pre ps _ => m.upd p fun x => { x with motion := .plan k t pre ps (.stopped st) }
  | _ => m.stopAfresh p status quick

/-! ### Checks and starts -/

/-- Checks 2 to 5 of R263 for a move: the refusal, 0 for none. -/
def Mpi.checkMove (m : Mpi) (p : Nat) (mv : Move) : Nat :=
  let s := m.env
  let x := m.planner p
  let positional := mv.kind == 1 || mv.kind == 2
  if x.pwrLock || x.stalled then 0x10
  else if !mv.fusion && s.planKind p == 1 && (m.fusion.stat != .tracking || x.degLock) then 0x11
  else if positional && (mv.arg < sInt (s.reg .MPI_PLSOFTLO [p]) || sInt (s.reg .MPI_PLSOFTHI [p]) < mv.arg) then 0x12
  else if mv.kind == 4 && !s.tableValid p mv.table then 0x13
  else 0

/-- The motion of a positional move from the present state (R267); a target behind the axis takes the stop of R269 (R270). -/
def Mpi.planMotion (m : Mpi) (p : Nat) (mv : Move) (k : Kin) : Motion :=
  let pl := planTo k mv.arg (m.limits p mv)
  let stop := if mv.quick then stopPieces k (m.env.MPI_PLQDMAX p) (m.env.MPI_PLQJMAX p)
    else stopPieces k (m.env.MPI_PLDMAX p) (m.env.MPI_PLJMAX p)
  let pieces := match pl.kind with
    | .behind => stop
    | _ => pl.pieces
  let fin : PlanEnd := match pl.kind with
    | .direct _ => .arrive mv.arg
    | .stopFirst => .replan mv.arg
    | .behind =>
      if m.env.planKind p = 1 then (if mv.revok then .dwell mv.arg else .behind mv.arg) else .replan mv.arg
  .plan k 0 pl.pre pieces fin

/-- A move starts from the present state: STARTED, and its motion. -/
def Mpi.begin_ (m : Mpi) (p : Nat) (mv : Move) : Mpi :=
  let m := (m.upd p fun x => { x with running := some mv, arrived := false }).moveEvent p mv 0x01
  let k := (m.planner p).kin
  let motion : Motion := match mv.kind.toNat with
    | 3 =>
      let l := m.limits p mv
      .velocity (clampInt (-l.vm) l.vm mv.arg) l.a l.d l.j
    | 4 => .table (k.lsb - (m.env.knot (m.env.tableDir p mv.table).2).p) 0 mv.table
    | _ => m.planMotion p mv k
  m.upd p fun x => { x with motion := motion }

/-- At the start of a move from rest the reference position is set to POS or to the axis's feedback (R279). -/
def Mpi.resync (m : Mpi) (p : Nat) : Mpi :=
  let pos := if m.env.planKind p = 1 then sInt m.fusion.res.pos else m.feedback p
  let ok := m.env.planKind p != 1 || m.fusion.interval.isSome
  if ok then m.upd p fun x => { x with kin := { pos := pos * s16, vel := 0, acc := 0 } } else m

/-- At rest, the move at the head of the queue is checked again and started (R263, R276, R288). -/
def Mpi.startNext (m : Mpi) (p : Nat) : Nat → Mpi
  | 0 => m
  | n + 1 =>
    let x := m.planner p
    match x.held, x.running, x.motion with
    | mv :: rest, none, .rest =>
      let c := m.checkMove p mv
      let c := if c = 0 && mv.kind == 4 && (m.env.knot (m.env.tableDir p mv.table).2).v != x.kin.vel then 0x13 else c
      if c ≠ 0 then
        let m := (m.upd p fun x => { x with held := rest }).moveEvent p mv c
        let m := if mv.fusion then m.runMoveLost else m
        m.startNext p n
      else if x.standing then m.upd p fun x => { x with standing := false }
      else (Mpi.resync (m.upd p fun x => { x with held := rest }) p).begin_ p mv
    | _, _, _ => m

/-! ### Commands (R260 to R264) -/

/-- A move command item as a move, its target not yet made absolute. -/
def parseMove (ws : List Word) : Move :=
  let w0 := ws.getD 0 0
  { tag := BitVec.ofNat 8 (getBits w0 7 0), kind := BitVec.ofNat 4 (getBits w0 11 8), blend := w0.getLsbD 12,
    revok := w0.getLsbD 13, quick := w0.getLsbD 14, table := getBits w0 20 16, arg := sInt (ws.getD 1 0),
    vmax := ws.getD 2 0, amax := ws.getD 3 0, dmax := ws.getD 4 0, jmax := ws.getD 5 0, id := ws.getD 6 0,
    fusion := false }

/-- Check 1 of R263: POISON, an unknown KIND, or a reserved field not 0. -/
def badMove (it : Item) : Bool :=
  let w0 := it.words.getD 0 0
  it.poison || it.words.length != 8 || getBits w0 11 8 == 0 || 6 < getBits w0 11 8 || w0.getLsbD 15 ||
    getBits w0 31 21 != 0 || it.words.getD 7 0 != 0

/-- The target of the last accepted positional move still held, or the reference position (R261). -/
def Planner.lastTarget (x : Planner) : Int :=
  let ms := x.running.toList ++ x.held
  match ms.reverse.find? fun mv => mv.kind == 1 || mv.kind == 2 with
  | some mv => mv.arg
  | none => x.kin.lsb

/-- ABORT: the running move stops, a held move is removed, or there is nothing to abort (R261, R264). -/
def Mpi.abortMove (m : Mpi) (p : Nat) (c : Move) : Mpi :=
  let x := m.planner p
  let names := match x.running with
    | some mv => c.id == 0xFFFFFFFF || mv.id == c.id
    | none => false
  if names then ((m.stopWith p 0x05 c.quick).discardHeld p).moveEvent p c 0x05
  else match x.held.find? fun mv => mv.id == c.id && c.id != 0xFFFFFFFF with
    | some mv =>
      let m := (m.upd p fun x => { x with held := x.held.erase mv }).moveEvent p mv 0x09
      let m := if mv.fusion then m.runMoveLost else m
      m.moveEvent p c 0x05
    | none => m.moveEvent p c 0x06

/-- One fetched command item (R263). -/
def Mpi.command (m : Mpi) (p : Nat) (it : Item) : Mpi :=
  if it.poison then m.event p 0 0 0x14 0
  else
    let c := parseMove it.words
    if badMove it then m.moveEvent p c 0x14
    else if c.kind == 5 then ((m.stopWith p 0x04 c.quick).discardHeld p).moveEvent p c 0x09
    else if c.kind == 6 then m.abortMove p c
    else
      let c := if c.kind == 2 then { c with arg := sat32 (c.arg + (m.planner p).lastTarget) } else c
      let r := m.checkMove p c
      if r ≠ 0 then m.moveEvent p c r else m.upd p fun x => { x with held := x.held ++ [c] }

/-- Moves held, the running move included (R262, R294). -/
def Planner.depth (x : Planner) : Nat := x.held.length + bit x.running.isSome

/-- Fetch up to `n` command items; none while 16 moves are held (R262, R263). -/
def Mpi.fetch (m : Mpi) (p : Nat) : Nat → Mpi
  | 0 => m
  | n + 1 =>
    if 16 ≤ (m.planner p).depth then m
    else match m.qf.takeItem (0x0510 + p) with
      | (none, q) => { m with qf := q }
      | (some it, q) => (Mpi.command { m with qf := q } p it).fetch p n

/-- A stop that the fusion engine has posted acts before the queue: it stops the running move and discards the moves held
before it (R244, R261). -/
def Mpi.fusionStops (m : Mpi) (p : Nat) : Mpi :=
  let stop (mv : Move) : Bool := mv.fusion && mv.kind == 5
  let hs := (m.planner p).held
  if hs.any stop then
    let before := hs.takeWhile fun mv => !stop mv
    let after := (hs.dropWhile fun mv => !stop mv).filter fun mv => !stop mv
    (((m.upd p fun x => { x with held := before }).stopWith p 0x04 false).discardHeld p).upd p fun x =>
      { x with held := after }
  else m

/-! ### Locks and fusion states -/

/-- The lock bits [11:9] of MPI_PLSTATp, right-aligned. -/
def Planner.locks (x : Planner) : Nat := bit x.pwrLock + 2 * bit x.degLock + 4 * bit x.stalled

/-- Change lock bits, with the PLAN_LOCK record when they change (R298). -/
def Mpi.setLocks (m : Mpi) (p : Nat) (f : Planner → Planner) : Mpi :=
  let old := (m.planner p).locks
  let m := m.upd p f
  let new := (m.planner p).locks
  if old = new then m else m.note 0x0522 (leBytes 1 p ++ leBytes 1 new)

/-- The rescue lock that PWR drives on RLOCK (R20, R108). -/
def State.rescueLock (s : State) : Bool :=
  s.rescue.stat == .done || s.rescue.stat == .hold || s.rescue.stat == .abandoned

/-- The car-axis planner takes RLOCK: a lock stops the running move and discards the held ones (R108, R292). -/
def Mpi.takeRlock (m : Mpi) (p : Nat) : Mpi :=
  let lock := m.env.rescueLock
  if m.env.planKind p != 1 || lock == (m.planner p).pwrLock then m
  else
    let m := m.setLocks p fun x => { x with pwrLock := lock }
    if lock then (m.stopWith p 0x04 false).discardHeld p else m

/-- The landing of R281 with whether it lies behind: nearest beyond STOPPOS when moving, else nearest behind; nearest to
POS at rest. -/
def Mpi.retarget (m : Mpi) (p : Nat) : Option (Nat × Bool) :=
  let s := m.env
  let x := m.planner p
  let ls := s.landings
  let nearest (at_ : Int) (js : List Nat) : Option Nat :=
    (js.foldl (fun b j =>
      let d := absInt (s.levelOf j - at_)
      match b with
      | some (k, e) => if d < e then some (j, d) else some (k, e)
      | none => some (j, d)) none).map (·.1)
  if x.kin.vel = 0 then (nearest (sInt m.fusion.res.pos) ls).map (·, false)
  else
    let st := stopPos x.kin (s.MPI_PLDMAX p) (s.MPI_PLJMAX p)
    let ahead := ls.filter fun j => 0 < (s.levelOf j - st) * sgn x.kin.vel
    match nearest st ahead with
    | some j => some (j, false)
    | none => (nearest st ls).map (·, true)

/-- The internal move of R281. -/
def degradedMove (level : Int) (revok : Bool) : Move :=
  { tag := 0, kind := 1, blend := false, revok := revok, quick := false, table := 0, arg := level, vmax := 0, amax := 0,
    dmax := 0, jmax := 0, id := 0xFFFFFFFE, fusion := false }

/-- Fusion has become DEGRADED (R281). -/
def Mpi.degrade (m : Mpi) (p : Nat) : Mpi :=
  let s := m.env
  let m := m.setLocks p fun x => { x with degLock := true, degLimit := true }
  let m := m.discardHeld p
  if !m.fusion.tabOk then (m.stopWith p 0x04 false).degradedArrived
  else match m.retarget p with
    | none => (m.stopWith p 0x04 false).degradedArrived
    | some (j, behind) =>
      let lv := s.levelOf j
      let tol := s.MPI_PLARRTOL p
      let rest := (m.planner p).kin.vel = 0
      let level := lv - tol ≤ sInt m.fusion.res.plo && sInt m.fusion.res.phi ≤ lv + tol
      let m := m.endMove p 0x04
      let m := m.upd p fun x => { x with motion := .rest }
      if rest && level then m.degradedArrived
      else
        let m := if rest then m.resync p else m
        let m := { m with fusion := { m.fusion with
          degOpenAt := none, degStat := if m.fusion.degStat = 2 then 1 else m.fusion.degStat } }
        (m.begin_ p (degradedMove lv behind)).note 0x0523
          (leBytes 1 p ++ leBytes 4 (satWord lv).toNat ++ leBytes 1 j)

/-- The car-axis planner acts on a change of the fusion state (R281, R282). -/
def Mpi.takeFusion (m : Mpi) (p : Nat) : Mpi :=
  let st := m.fusion.stat
  let seen := (m.planner p).seenFusion
  if m.env.planKind p != 1 || st == seen then m
  else
    let m := m.upd p fun x => { x with seenFusion := st }
    match st with
    | .degraded => m.degrade p
    | .invalid => (m.stopWith p 0x04 false).discardHeld p
    | .unknown => (m.stopWith p 0x04 false).discardHeld p
    | _ => m

/-! ### Advancing (R265 to R280) -/

/-- The state of a plan that has run out. -/
def Mpi.planDone (m : Mpi) (p : Nat) (k : Kin) (fin : PlanEnd) : Mpi :=
  let s := m.env
  match fin with
  | .arrive tg =>
    let m := m.upd p fun x =>
      { x with kin := { pos := tg * s16, vel := 0, acc := 0 }, corr := satWord (rnDiv (k.pos - tg * s16) s16) }
    if s.planKind p = 1 then m.upd p fun x => { x with motion := .arriving tg }
    else (m.upd p fun x => { x with motion := .rest }).endMove p 0x02
  | .replan tg =>
    let m := m.upd p fun x => { x with kin := k }
    match (m.planner p).running with
    | some mv => m.upd p fun x => { x with motion := m.planMotion p { mv with arg := tg } k }
    | none => m.upd p fun x => { x with motion := .rest }
  | .dwell tg => m.upd p fun x => { x with kin := k, motion := .dwell tg }
  | .behind tg =>
    let m := (m.upd p fun x => { x with kin := k, motion := .rest }).endMove p 0x07
    m.note 0x0520 (leBytes 1 p ++ leBytes 4 (satWord tg).toNat ++ leBytes 4 (satWord k.lsb).toNat)
  | .stopped st => (m.upd p fun x => { x with kin := k, motion := .rest }).endMove p st.toNat
  | .superseded => (m.upd p fun x => { x with kin := k, motion := .rest }).endMove p 0x03

/-- Run a plan for one cycle. -/
def Mpi.runPlan (m : Mpi) (p : Nat) (start : Kin) (tau : Nat) (pre : Int) (ps : List Piece) (fin : PlanEnd) : Mpi :=
  let t := m.env.cycleUs
  let r := runPieces start ps (tau + t)
  match r.2.2 with
  | [] => m.planDone p r.1 fin
  | q :: qs => m.upd p fun x =>
      { x with kin := r.1.at_ q.jerk r.2.1, motion := .plan r.1 r.2.1 (pre - t) (q :: qs) fin }

/-- The held move at the head blends into the running plan (R271). -/
def Mpi.blends (m : Mpi) (p : Nat) : Bool :=
  let x := m.planner p
  match x.running, x.held, x.motion with
  | some r, mv :: _, .plan _ _ pre _ (.arrive tg) =>
    (r.kind == 1 || r.kind == 2) && (mv.kind == 1 || mv.kind == 2) && mv.blend && 0 ≤ pre && pre < m.env.cycleUs &&
      0 < (mv.arg - tg) * sgn x.kin.vel && m.checkMove p mv == 0
  | _, _, _ => false

/-- The head of the queue takes over from the running move, which ends BLENDED. -/
def Mpi.takeOver (m : Mpi) (p : Nat) : Mpi :=
  match (m.planner p).held with
  | mv :: rest => ((m.endMove p 0x03).upd p fun x => { x with held := rest }).begin_ p mv
  | [] => m

/-- One cycle of the slew limiter (R272). -/
def slew (k : Kin) (vt : Int) (l : Limits) (t : Nat) : Kin :=
  let dj := upDiv (l.j * t) (10 ^ 5)
  let tgt := if k.vel ≠ 0 ∧ vt ≠ 0 ∧ sgn vt ≠ sgn k.vel then 0 else vt
  let lim := if absInt k.vel < absInt tgt ∧ sgn tgt * sgn k.vel ≠ -1 then l.a else l.d
  let e := tgt - k.vel
  let br := rnDiv (5 * k.acc * absInt k.acc) l.j
  let a := if 0 < e - br then k.acc + dj else if e - br < 0 then k.acc - dj
    else k.acc - sgn k.acc * min (absInt k.acc) dj
  let a := clampInt (-lim) lim a
  let v := k.vel + rnDiv ((k.acc + a) * t) 20000
  let hit := (0 < e ∧ tgt ≤ v) ∨ (e < 0 ∧ v ≤ tgt) ∨ (e = 0 ∧ a = 0)
  let v' := if hit then tgt else v
  { pos := k.pos + rnDiv ((k.vel + v') * t * s16) (2 * 10 ^ 7), vel := v', acc := if hit then 0 else a }

/-- One cycle of a velocity move under the limits it was planned with (R292), with the soft limits of a car axis (R272 to
R274). -/
def Mpi.runVelocity (m : Mpi) (p : Nat) (vt : Int) (l : Limits) : Mpi :=
  let s := m.env
  match (m.planner p).running with
  | none => m
  | some _ =>
    let k := slew (m.planner p).kin vt l s.cycleUs
    let sp := stopPos k (s.MPI_PLDMAX p) (s.MPI_PLJMAX p)
    let out := s.planKind p == 1 &&
      ((0 < k.vel && sInt (s.reg .MPI_PLSOFTHI [p]) < sp) || (k.vel < 0 && sp < sInt (s.reg .MPI_PLSOFTLO [p])))
    if out then
      let m := m.stopWith p 0x04 false
      match (m.planner p).motion with
      | .plan k t pre ps fin => m.runPlan p k t pre ps fin
      | _ => m
    else m.upd p fun x => { x with kin := k }

/-- One cycle of a table move (R277, R278); its present state is its output position, B + rn(P ÷ S16). -/
def Mpi.runTable (m : Mpi) (p : Nat) (base : Int) (tau n : Nat) : Mpi :=
  let s := m.env
  let t := tau + s.cycleUs
  let ks := s.knots p n
  match knotPair t ks, ks.getLast? with
  | some (a, b), _ =>
    let k := hermite a b t
    m.upd p fun x => { x with kin := { k with pos := (base + k.lsb) * s16 }, motion := .table base t n }
  | none, some l =>
    let m := m.upd p fun x => { x with kin := { pos := (base + l.p) * s16, vel := l.v, acc := 0 } }
    if l.v = 0 then (m.upd p fun x => { x with motion := .rest }).endMove p 0x02
    else match (m.planner p).held with
      | mv :: _ =>
        if mv.kind == 4 && mv.blend && m.checkMove p mv == 0 && (s.knot (s.tableDir p mv.table).2).v == l.v then
          m.takeOver p
        else m.stopWith p 0x04 false
      | [] => m.stopWith p 0x04 false
  | none, none => m

/-- A velocity move meets the head of the queue: another velocity takes over, any other kind comes after a stop (R274). -/
def Mpi.meetHead (m : Mpi) (p : Nat) : Mpi :=
  match (m.planner p).held with
  | [] => m
  | mv :: rest =>
    let c := m.checkMove p mv
    if c ≠ 0 then (m.upd p fun x => { x with held := rest }).moveEvent p mv c
    else if mv.kind == 3 then m.takeOver p
    else
      let x := m.planner p
      if x.kin.vel = 0 ∧ x.kin.acc = 0 then
        ((m.upd p fun x => { x with motion := .rest }).endMove p 0x03).startNext p 16
      else m.upd p fun x =>
        { x with motion := .plan x.kin 0 0 (stopPieces x.kin (m.env.MPI_PLDMAX p) (m.env.MPI_PLJMAX p)) .superseded }

/-- Advance the reference by one cycle. -/
def Mpi.advance (m : Mpi) (p : Nat) : Mpi :=
  let m := match (m.planner p).motion with
    | .velocity _ _ _ _ => m.meetHead p
    | _ => if m.blends p then m.takeOver p else m
  match (m.planner p).motion with
  | .plan k t pre ps fin => m.runPlan p k t pre ps fin
  | .velocity vt a d j => m.runVelocity p vt { vm := absInt vt, a := a, d := d, j := j }
  | .table b t n => m.runTable p b t n
  | _ => m

/-- Arrival of a car-axis move, decided on the interval (R280). -/
def Mpi.arrive (m : Mpi) (p : Nat) : Mpi :=
  match (m.planner p).motion with
  | .arriving tg =>
    let tol := m.env.MPI_PLARRTOL p
    if m.fusion.interval.isSome && tg - tol ≤ sInt m.fusion.res.plo && sInt m.fusion.res.phi ≤ tg + tol then
      (m.upd p fun x => { x with motion := .rest, arrived := true }).endMove p 0x02
    else m
  | _ => m

/-! ### Stepper axes and pulses (R283, R287 to R290) -/

/-- A deviation above DEVWIN for DEVRUN consecutive compared cycles stops the axis per R269 with QDMAX and QJMAX, whatever plan
runs, and locks it (R289). -/
def Mpi.lostStep (m : Mpi) (p : Nat) : Mpi :=
  let s := m.env
  let x := m.planner p
  if !s.stepper p then m
  else if !(s.MPI_PLSTEP_ENCEN p == 1 && x.sync) then m.upd p fun x => { x with devRun := 0 }
  else
    let dev := absInt (x.kin.lsb - m.encPos p)
    let run := if (s.MPI_PLDEVWIN p : Int) < dev then x.devRun + 1 else 0
    let m := m.upd p fun x => { x with devRun := run }
    if x.stalled || run < max 1 (s.MPI_PLSTEP_DEVRUN p) then m
    else
      let m := (m.stopAfresh p 0x0A true).discardHeld p
      let m := m.setLocks p fun x => { x with stalled := true }
      m.note 0x0524 (leBytes 1 p ++ leBytes 4 (satWord x.kin.lsb).toNat ++ leBytes 4 (satWord (m.encPos p)).toNat)

/-- PINMUX gives PD_STEP, PD_DIR and PD_ENA to the pulse train to the hoist drive (R148, R283). -/
def State.pulseTrain (s : State) : Bool :=
  match s.image with
  | some im => [76, 77, 78].all fun (n : Nat) => im.pins.any fun r => r.pad == n && r.func == 0x15
  | none => false

/-- The pulses of one cycle: F of the new reference, the pulses emitted with their direction, and those carried over (R283). -/
def Mpi.pulses (m : Mpi) (p : Nat) : Mpi :=
  let s := m.env
  if !(s.planKind p == 1 && s.pulseTrain) then m
  else m.upd p fun x =>
    let f := downDiv (x.kin.lsb * s.MPI_PLPDSCALE p) (2 ^ 16)
    let n := f - x.pdLast + x.pdCarry
    let cap : Int := 2 * s.cycleUs
    let out := clampInt (-cap) cap n
    { x with pdLast := f, pdOut := out, pdUp := if out = 0 then x.pdUp else decide (0 < out), pdCarry := n - out }

/-- The start times in µs of the pulses a planner emits in the cycle of `T` µs that begins at `t` (R283). -/
def Planner.pulseTimes (x : Planner) (t T : Nat) : List Nat :=
  (List.range x.pdOut.natAbs).map fun i => t + (2 * i + 1) * T / (2 * x.pdOut.natAbs)

/-- Word 1 of the reference (R259, R287). -/
def Mpi.refPos (m : Mpi) (p : Nat) : Int :=
  let s := m.env
  let pos := (m.planner p).kin.lsb
  if s.stepper p then
    let u := rnDiv (pos * sInt (s.reg .MPI_PLUSCALE [p])) (2 ^ 16)
    let q : Int := 2 ^ (8 - min 8 (s.MPI_PLSTEP_MSTEP p))
    rnDiv u q * q
  else pos

/-- The reference item for boundary k + 1 (R259). -/
def Mpi.reference (m : Mpi) (p k : Nat) : List Word :=
  let s := m.env
  let x := m.planner p
  let iscale := if s.stepper p && x.standing then s.MPI_PLSTEP_IHOLD p else 1000
  let flags := plannerCode x.stat + 16 * bit (x.kin.vel != 0) + 32 * bit x.arrived + 64 * bit x.degLimit + iscale * 2 ^ 16
  [lowWord (k + 1), satWord (m.refPos p), satWord x.kin.vel, satWord x.kin.acc,
   satWord (stopPos x.kin (s.MPI_PLDMAX p) (s.MPI_PLJMAX p)), BitVec.ofNat 32 flags]

/-! ### Estimates (R285, R286) -/

/-- The target of an estimate with BYLANDING: the nearest landing above PHI or below PLO. -/
def Mpi.nextLanding (m : Mpi) (up : Bool) : Option Nat :=
  let s := m.env
  if !m.fusion.tabOk || m.fusion.interval.isNone then none
  else
    let js := s.landings.filter fun j =>
      if up then sInt m.fusion.res.phi < s.levelOf j else s.levelOf j < sInt m.fusion.res.plo
    js.foldl (fun b j => match b with
      | some k => if (if up then s.levelOf j < s.levelOf k else s.levelOf k < s.levelOf j) then some j else some k
      | none => some j) none

/-- The masses of R286 for planner `p`, unsigned, and the friction force, signed (R7). -/
def State.masses (s : State) (p : Nat) : Masses :=
  { mcar := s.MPI_PLMCAR p, load := s.MPI_PLLOAD p, mcw := s.MPI_PLMCW p, mrot := s.MPI_PLMROT p,
    fric := sInt (s.reg .MPI_PLFRIC [p]) }

/-- The reply to an estimate request (R285). -/
def Mpi.estimate (m : Mpi) (p : Nat) (ws : List Word) : List Word :=
  let s := m.env
  let w0 := ws.getD 0 0
  let id := getBits w0 7 0
  let by_ := w0.getLsbD 8
  let w1 := ws.getD 1 0
  let x := m.planner p
  let land := if by_ then m.nextLanding (w1 == 1) else none
  let mv : Move := { degradedMove 0 true with vmax := ws.getD 2 0 }
  if m.fusion.stat != .tracking || x.degLock then [BitVec.ofNat 32 (id + 2 * 2 ^ 8 + 0xFF * 2 ^ 16), 0, 0, 0, 0]
  else if by_ && land.isNone then [BitVec.ofNat 32 (id + 3 * 2 ^ 8 + 0xFF * 2 ^ 16), 0, 0, 0, 0]
  else
    let tg := match land with | some j => s.levelOf j | none => sInt w1
    let no := match land with | some j => j | none => 0xFF
    let tr := travel x.kin tg (m.limits p mv) (s.MPI_PLREVDWELL p * 1000)
    let dh := tg - x.kin.lsb
    [BitVec.ofNat 32 (id + bit tr.behind * 2 ^ 8 + no * 2 ^ 16), satWord (rnDiv tr.time 1000),
     toWord (moveEnergy (s.masses p) dh tr.vc), satWord tr.vc, satWord tg]

/-- An estimate request reaches the car-axis planner. -/
def Mpi.estimateIn (m : Mpi) (it : Item) : Mpi :=
  match m.env.carPlanner with
  | some p => if it.poison || it.words.length != 4 then m else m.post 0x0529 (m.estimate p it.words)
  | none => m

/-! ### The planner's cycle (R257) -/

def Mpi.plannerCycle (m : Mpi) (p : Nat) : Mpi :=
  let s := m.env
  let k := s.dev / s.cycleUs
  let car := s.planKind p == 1
  if s.planKind p = 0 || s.quiet .mpi then m
  else
    let m := ((m.takeRlock p).takeFusion p).fusionStops p
    let m := if s.switching then m else m.fetch p 4
    let m := if car then m.drain 0x0528 Mpi.estimateIn else m
    let m := m.lostStep p
    let m := if s.switching then m else m.startNext p 16
    let m := ((m.advance p).arrive p).pulses p
    let ws := m.reference p k
    (m.upd p fun x => { x with refWords := ws }).post (0x0518 + p) ws

/-- PLANNER_CYCLE (R257). -/
def execPlannerCycle (p : Fin 8) (s : State) : Host.Outcome State Fault Refusal :=
  .next (s.withMpi (s.mpi.plannerCycle p.val))

/-- An item with its KIND. -/
def itemWithKind (it : Item) (k : Nat) : Item :=
  match it.words with
  | w :: ws => { it with words := setBits w 11 8 k :: ws }
  | [] => it

/-- A command item of a kind reaches planner `p`. -/
def State.moveItem (s : State) (p : Nat) (k : Nat) (it : Item) : State :=
  s.runMpi (s.planKind p != 0 && !s.quiet .mpi && !s.switching && decide ((s.mpi.planner p).depth < 16)) fun m =>
    m.command p (itemWithKind it k)

/-- POSITION (R261). -/
def execMovePosition (p : Fin 8) (it : Item) (s : State) : Host.Outcome State Fault Refusal :=
  .next (s.moveItem p.val 1 it)

/-- RELATIVE (R261). -/
def execMoveRelative (p : Fin 8) (it : Item) (s : State) : Host.Outcome State Fault Refusal :=
  .next (s.moveItem p.val 2 it)

/-- VELOCITY (R261). -/
def execMoveVelocity (p : Fin 8) (it : Item) (s : State) : Host.Outcome State Fault Refusal :=
  .next (s.moveItem p.val 3 it)

/-- TABLE (R261). -/
def execMoveTable (p : Fin 8) (it : Item) (s : State) : Host.Outcome State Fault Refusal :=
  .next (s.moveItem p.val 4 it)

/-- STOP (R261). -/
def execMoveStop (p : Fin 8) (it : Item) (s : State) : Host.Outcome State Fault Refusal :=
  .next (s.moveItem p.val 5 it)

/-- ABORT (R261). -/
def execMoveAbort (p : Fin 8) (it : Item) (s : State) : Host.Outcome State Fault Refusal :=
  .next (s.moveItem p.val 6 it)

/-- ESTIMATE_REQUEST (R285). -/
def execEstimateRequest (it : Item) (s : State) : Host.Outcome State Fault Refusal :=
  .next (s.withMpi (s.mpi.estimateIn it))

/-- REVDWELL_EXPIRE: the planner plans from rest to the target (R270). -/
def Mpi.revdwell (m : Mpi) (p : Nat) : Mpi :=
  let x := m.planner p
  match x.motion, x.running with
  | .dwell tg, some mv => m.upd p fun x => { x with motion := m.planMotion p { mv with arg := tg } x.kin }
  | _, _ => m

def execRevdwellExpire (p : Fin 8) (s : State) : Host.Outcome State Fault Refusal :=
  .next (s.withMpi (s.mpi.revdwell p.val))

/-- ARRWAIT_EXPIRE: the move ends OFFLEVEL (R280). -/
def Mpi.arrwait (m : Mpi) (p : Nat) : Mpi :=
  match (m.planner p).motion with
  | .arriving tg =>
    let m := (m.upd p fun x => { x with motion := .rest }).endMove p 0x08
    m.note 0x0521 (leBytes 1 p ++ leBytes 4 (satWord tg).toNat ++ leBytes 4 m.fusion.res.bound.toNat)
  | _ => m

def execArrwaitExpire (p : Fin 8) (s : State) : Host.Outcome State Fault Refusal :=
  .next (s.withMpi (s.mpi.arrwait p.val))

/-- HOLDDLY_EXPIRE: a stepper axis at rest with no move running takes IHOLD (R288). -/
def execHolddlyExpire (p : Fin 8) (s : State) : Host.Outcome State Fault Refusal :=
  .next (s.runMpi (s.stepper p.val) fun m =>
    m.upd p.val fun x => if x.running.isNone && x.motion == .rest then { x with standing := true } else x)

/-- A write of MPI_PLCTLp: PDENA, CLRCNT and ESYNC (R290, R293). -/
def State.writePlctl (s : State) (p : Nat) (w : Word) : State :=
  let s := s.setReg .MPI_PLCTL [p] (BitVec.ofNat 32 (getBits w 0 0))
  s.runMpi (s.planKind p != 0) fun m =>
    let m := if w.getLsbD 1 then m.upd p fun x => { x with moves := 0 } else m
    if w.getLsbD 2 then m.upd p fun x => { x with eorg := x.kin.lsb - m.encScaled p, sync := true } else m

/-- ESYNC (R290). -/
def execEsync (p : Fin 8) (w : Word) (s : State) : Host.Outcome State Fault Refusal :=
  .next (s.writePlctl p.val (w ||| 4))

/-- PLANNER_CLRCNT (R293). -/
def execPlannerClrcnt (p : Fin 8) (w : Word) (s : State) : Host.Outcome State Fault Refusal :=
  .next (s.writePlctl p.val (w ||| 2))

/-- A write of MPI_PLSTATp: 1 in STALLED clears it only with the axis at rest (R294). -/
def State.writePlstat (s : State) (p : Nat) (w : Word) : State :=
  s.runMpi (s.planKind p != 0 && w.getLsbD 11) fun m =>
    if (m.planner p).motion == .rest then m.setLocks p fun x => { x with stalled := false } else m

/-- STALLED_CLEAR (R294). -/
def execStalledClear (p : Fin 8) (w : Word) (s : State) : Host.Outcome State Fault Refusal :=
  .next (s.writePlstat p.val (w ||| 0x800))

end Sys2Proof.Machine
end

