-- ==== Sys2Proof/Machine/Rest.lean ====
section
/-! DEFINITION. The rest conditions of R38, which tempo switches, disruptive tests, reloads and allemandes wait for. -/

namespace Sys2Proof.Machine

/-- The interval of fusion's last cycle lies wholly inside the door zone of some landing (R38). -/
def State.inDoorZone (s : State) : Bool :=
  s.landings.any fun j => s.mpi.inZone j s.MPI_DZHALF (sInt s.fusion.res.plo) (sInt s.fusion.res.phi)

/-- Every output that carries the brake is demanded OFF (R38, log entry 3). -/
def State.brakeActive (s : State) : Bool :=
  (List.range 6).all fun k =>
    !Config.brakeOutputs.getLsbD k || !(s.lattice.outs.get SafetyOut.reset k).demand

/-- The car-axis conditions of R38: planner idle with nothing queued, brake demanded, bound inside a door zone. They
count as met in a role without a car axis. -/
def State.carRest (s : State) : Bool :=
  match s.carPlanner with
  | none => true
  | some p =>
    (s.planners.get Planner.reset p).idle && !s.fabric.ready (0x0510 + p) && s.brakeActive && s.inDoorZone

/-- A motor engine's bridge is idle: in IDLE or FAULT (R315). -/
def State.bridgeIdle (s : State) (i : Nat) : Bool :=
  let b := (s.motors.get Motor.reset i).bridge
  b == .idle || b == .fault

/-- Every instantiated motor engine has its bridge idle (R20, R88). -/
def State.bridgesIdle (s : State) : Bool := (List.range 4).all fun i => s.motorMode i == 0 || s.bridgeIdle i

/-- Every instantiated planner is idle with an empty move queue, as the REST line from MPI says (R20, R88). -/
def State.plannersRest (s : State) : Bool :=
  (List.range 8).all fun p =>
    s.planKind p == 0 || ((s.planners.get Planner.reset p).idle && !s.fabric.ready (0x0510 + p))

/-- Every instantiated motor engine has its bridge idle, with no door command and no move queued (R38, R40). -/
def State.bridgesRest (s : State) : Bool :=
  s.bridgesIdle && s.plannersRest &&
    (List.range 4).all fun i => s.motorMode i == 0 || !s.fabric.ready ((6 + i) * 0x100 + 5)

/-- The REASON of the rest condition that fails, 0 when all hold (R38, R509). When the conditions of the car and of a bridge both fail
0x10 shows: the rules give no order, it is the model's choice (log entry 13). -/
def State.restReason (s : State) : Nat :=
  if !s.carRest then 0x10 else if !s.bridgesRest then 0x11 else 0

end Sys2Proof.Machine
end

