-- ==== Sys2Proof/Machine/Sched.lean ====
section
/-! DEFINITION. The stop scheduler (chapter 11): call contexts, sweep order and time to serve, assignment, driving a
car, vault access sessions, grants, and RESYNC after a takeover. -/

namespace Sys2Proof.Machine

/-! ### The part of the device SCH changes -/

/-- What a step of the scheduler can change, beside the device before the step. -/
structure Sc where
  env   : State
  sched : Sched
  qf    : Qf

def State.sc (s : State) : Sc := { env := s, sched := s.sched, qf := s.qf }

/-- The device with the result. -/
def State.withSc (s : State) (m : Sc) : State :=
  { s with sched := m.sched, fabric := m.qf.fabric, recorder := m.qf.recorder, ports := m.qf.ports, fresh := m.qf.fresh }

/-- Run a step where its condition holds. -/
def State.runSc (s : State) (ok : Bool) (f : Sc → Sc) : State := if ok then s.withSc (f s.sc) else s

def Sc.note (m : Sc) (code : Nat) (data : List Byte := []) : Sc := { m with qf := m.qf.note code data }
def Sc.post (m : Sc) (port : Nat) (ws : List Word) : Sc := { m with qf := m.qf.post port ws }
def Sc.drive (m : Sc) : Drive := m.sched.drive
def Sc.updDrive (m : Sc) (f : Drive → Drive) : Sc := { m with sched := { m.sched with drive := f m.sched.drive } }
def Sc.ctx (m : Sc) (i : Nat) : Option Ctx := m.sched.ctxs.get none i
def Sc.setCtx (m : Sc) (i : Nat) (c : Option Ctx) : Sc :=
  { m with sched := { m.sched with ctxs := m.sched.ctxs.set none i c } }

/-- The open contexts with their indexes. -/
def Sched.open_ (x : Sched) : List (Nat × Ctx) := x.ctxs.filterMap fun e => e.2.map (e.1, ·)

/-- Mode of the scheduler: 1 OWN_CAR, 2 GROUP, 3 SESSION_CHECK, 0 not instantiated (R371). -/
def State.schMode (s : State) : Nat :=
  match s.tile 5 0 with
  | some t => t.arg.toNat % 256
  | none => 0

/-- Cars of the group; 1 in OWN_CAR (R371, R407). -/
def State.schCars (s : State) : Nat :=
  match s.tile 5 0 with
  | some t => if t.arg.toNat % 256 = 2 then t.arg.toNat / 256 % 256 else if t.arg.toNat % 256 = 1 then 1 else 0
  | none => 0

/-- The scheduler drives car OWNCAR (R371). -/
def State.schDrives (s : State) : Bool := s.schMode == 1 || (s.schMode == 2 && s.role == some .machineGroup)

/-- An OWN_CAR scheduler that belongs to a group (R371). -/
def State.schMember (s : State) : Bool := s.schMode == 1 && s.routedTo 0x0A0B

/-- The cars whose stops the scheduler knows. -/
def State.carList (s : State) : List Nat := if s.schMode = 2 then List.range s.schCars else [s.SCH_CTL_OWNCAR]

/-! ### Floors and stations (R377, R411) -/

def State.floorLevel (s : State) (f : Nat) : Int := sInt (s.reg .SCH_FLVL [f])

/-- Floor `f` is served by car `c` (R377). -/
def State.served (s : State) (c f : Nat) : Bool :=
  f < 256 && s.reg .SCH_FLVL [f] != 0x7FFFFFFF && (s.schMode != 2 || testBit (s.SCH_GSERVE c (f / 32)) (f % 32))

/-- Station `x` exists at floor `f`. -/
def State.stationAt (s : State) (x f : Nat) : Bool := s.SCH_STN_PRESENT x == 1 && s.SCH_STN_FLOOR x == f

/-- The station whose entry names floor `f`, the lowest number first. -/
def State.stationOf (s : State) (f : Nat) : Option Nat := (List.range 256).find? fun x => s.stationAt x f

/-! ### Cars (R380, R381) -/

/-- A car as the scheduler sees it in one recompute. -/
structure CarState where
  car    : Nat
  inServ : Bool
  moving : Bool
  blend  : Bool
  atFloor : Bool
  dirUp  : Option Bool
  tgt    : Option Nat
  cur    : Option Nat
  pos    : Int
  v      : Int
  doorRem : Nat
  load   : Nat
  /-- Floors of its car calls as its status reports them. -/
  calls  : List Nat
  deriving DecidableEq, Repr

/-- Position of the driven car in the group frame: POS + FRAMEOFS (R377, R381). -/
def Sc.ownPos (m : Sc) : Int :=
  match m.drive.fusion with
  | some ws => sat32 (downDiv (sInt (ws.getD 1 0) + sInt (ws.getD 2 0)) 2 + sInt (m.env.reg .SCH_FRAMEOFS))
  | none => 0

def Sc.ownVel (m : Sc) : Int :=
  match m.drive.fusion with
  | some ws => sInt (ws.getD 3 0)
  | none => 0

/-- Fusion reports TRACKING in its newest item (R381). -/
def Sc.tracking (m : Sc) : Bool :=
  match m.drive.fusion with
  | some ws => getBits (ws.getD 4 0) 2 0 == 2
  | none => false

/-- The served floor the driven car stands at, within ARRTOL of its level. -/
def Sc.floorHere (m : Sc) : Option Nat :=
  let s := m.env
  let tol : Int := match s.carPlanner with
    | some p => s.MPI_PLARRTOL p
    | none => 0
  (List.range 256).find? fun f => s.served s.SCH_CTL_OWNCAR f && decide (absInt (s.floorLevel f - m.ownPos) ≤ tol)

/-- The driven car (R381). -/
def Sc.ownCar (m : Sc) : CarState :=
  let s := m.env
  let d := m.drive
  let c := s.SCH_CTL_OWNCAR
  { car := c, inServ := m.sched.service && m.tracking && d.stat != .out, moving := d.stat == .moving, blend := d.blend.isSome,
    atFloor := d.stat == .atFloor,
    dirUp := match d.stat with
      | .moving => d.dirUp
      | .atFloor => d.depart
      | _ => none,
    tgt := if d.stat == .moving then d.tgt else none,
    cur := if d.stat == .atFloor then d.at_ else if d.stat == .moving && m.ownVel != 0 then none else m.floorHere,
    pos := m.ownPos, v := m.ownVel, doorRem := if d.stat == .atFloor then d.doorRem.toNat else 0, load := s.SCH_CLOAD c,
    calls := [] }

/-- A floor code of a status word, 0xFF for none. -/
def floorCode (n : Nat) : Option Nat := if n = 0xFF then none else some n

/-- A car from its newest status item; out of service when it has not advanced for 3 recompute intervals: its age is 1 at the
recompute that finds it advanced (R380, R381). -/
def CarView.state (x : CarView) (c : Nat) : CarState :=
  let w0 := x.words.getD 0 0
  { car := c, inServ := w0.getLsbD 4 && x.seen && x.age ≤ 3, moving := w0.getLsbD 5, blend := w0.getLsbD 6,
    atFloor := w0.getLsbD 7,
    dirUp := match getBits w0 9 8 with
      | 1 => some true
      | 2 => some false
      | _ => none,
    tgt := floorCode (getBits w0 23 16), cur := floorCode (getBits w0 31 24), pos := sInt (x.words.getD 1 0),
    v := sInt (x.words.getD 2 0), doorRem := (x.words.getD 3 0).toNat, load := getBits (x.words.getD 4 0) 15 0,
    calls := (List.range 256).filter fun f => (x.words.getD (8 + f / 32) 0).getLsbD (f % 32) }

/-- Car `c` as the scheduler sees it. -/
def Sc.car (m : Sc) (c : Nat) : CarState :=
  if m.env.schDrives && c == m.env.SCH_CTL_OWNCAR then m.ownCar else (m.sched.cars.get CarView.reset c).state c

/-- The 16 status words of the driven car (R380). -/
def Sc.statusWords (m : Sc) : List Word :=
  let c := m.ownCar
  let code (f : Option Nat) : Nat := f.getD 0xFF
  let dir : Nat := match c.dirUp with
    | some true => 1
    | some false => 2
    | none => 0
  let calls := m.sched.open_.filter fun e => e.2.kind == .car && e.2.stat != .serving
  let map (w : Nat) : Word := calls.foldl
    (fun a e => if e.2.floor / 32 = w then a ||| (1#32 <<< (e.2.floor % 32)) else a) 0
  [BitVec.ofNat 32 (c.car + bit c.inServ * 2 ^ 4 + bit c.moving * 2 ^ 5 + bit c.blend * 2 ^ 6 + bit c.atFloor * 2 ^ 7 +
      dir * 2 ^ 8 + code c.tgt * 2 ^ 16 + code c.cur * 2 ^ 24),
    satWord c.pos, satWord c.v, BitVec.ofNat 32 c.doorRem, BitVec.ofNat 32 c.load, m.sched.count,
    match m.drive.refusedWithdraw with
      | some i => i.setWidth 32 ||| 0x8000
      | none => 0,
    0] ++ (List.range 8).map map

/-! ### Sweep order and time to serve (R388, R389) -/

/-- A stop of a car: what stops there, its floor and level, and its place in registration order. -/
structure StopPt where
  kind  : CtxKind
  floor : Nat
  level : Int
  order : Nat
  deriving DecidableEq, Repr

/-- A sweep: direction and reach level. -/
structure Sweep where
  d : Int
  r : Int
  deriving DecidableEq, Repr

def Sc.stopOf (m : Sc) (x : Ctx) : StopPt :=
  { kind := x.kind, floor := x.floor, level := m.env.floorLevel x.floor, order := x.order }

/-- The oldest of some stops. -/
def oldestStop (sts : List StopPt) : Option StopPt :=
  sts.foldl (fun o x => match o with
    | none => some x
    | some y => if x.order < y.order then some x else o) none

/-- The sweep of a car whose stops are these; a car at rest without stops takes the one evaluated (R388). -/
def Sc.sweep (m : Sc) (c : CarState) (sts : List StopPt) (h : StopPt) : Sweep :=
  match c.moving, c.tgt with
  | true, some t => { d := if c.dirUp == some false then -1 else 1, r := m.env.floorLevel t }
  | _, _ =>
    let o := (oldestStop sts).getD h
    { d := if o.level < c.pos then -1 else 1, r := c.pos }

/-- Phase of a stop (R388). -/
def Sweep.phase (w : Sweep) (x : StopPt) : Nat :=
  let along : Bool := match x.kind with
    | .hallUp => w.d == 1
    | .hallDn => w.d == -1
    | _ => true
  let opposed : Bool := match x.kind with
    | .hallUp => w.d == -1
    | .hallDn => w.d == 1
    | _ => true
  if along && decide (0 ≤ w.d * (x.level - w.r)) then 1 else if opposed then 2 else 3

/-- The phase of a stop that the car has not passed. -/
def Sweep.ahead (w : Sweep) (x : StopPt) : Nat := w.phase { x with level := w.r }

/-- The place of a stop in sweep order: phase, then level in the phase's direction. -/
def Sweep.key (w : Sweep) (x : StopPt) : Nat × Int :=
  let p := w.phase x
  (p, if p = 2 then -(w.d * x.level) else w.d * x.level)

/-- One stop of the sweep: phase, floor, level, sort key. -/
structure SweepStop where
  phase : Nat
  floor : Nat
  level : Int
  key   : Int
  deriving DecidableEq, Repr

/-- Insert a stop; stops at one floor within one phase count as one (R388). -/
def insertStop (x : SweepStop) : List SweepStop → List SweepStop
  | [] => [x]
  | y :: ys =>
    if x.phase = y.phase ∧ x.floor = y.floor then y :: ys
    else if x.phase < y.phase ∨ (x.phase = y.phase ∧ (x.key < y.key ∨ (x.key = y.key ∧ x.floor < y.floor))) then x :: y :: ys
    else y :: insertStop x ys

/-- The stops of a car in sweep order. -/
def Sweep.order (w : Sweep) (sts : List StopPt) : List SweepStop :=
  sts.foldl (fun l x => insertStop { phase := (w.key x).1, floor := x.floor, level := x.level, key := (w.key x).2 } l) []

/-- The limits of car `c`'s block (R379, R389). -/
def State.carLimits (s : State) (c : Nat) : Limits :=
  { vm := s.SCH_CVMAX c, a := s.SCH_CAMAX c, d := s.SCH_CDMAX c, j := s.SCH_CJMAX c }

/-- Tmove in ms of a POSITION move (R286, R389). -/
def legTime (pos v target : Int) (l : Limits) : Nat :=
  (rnDiv (travel { pos := s16 * pos, vel := v, acc := 0 } target l 0).time 1000).toNat

/-- Legs and dwells up to the stop at `floor` in `phase`, from `pos` at speed `v`. -/
def legsTo (l : Limits) (dwell phase floor : Nat) : Int → Int → List SweepStop → Nat
  | _, _, [] => 0
  | pos, v, x :: xs =>
    let t := legTime pos v x.level l
    if x.phase = phase ∧ x.floor = floor then t else t + dwell + legsTo l dwell phase floor x.level 0 xs

/-- TTS of stop `h` on a car whose stops, `h` included, are in sweep order (R389). -/
def Sc.tts (m : Sc) (c : CarState) (ord : List SweepStop) (phase floor : Nat) : Nat :=
  let l := m.env.carLimits c.car
  let dwell := m.env.SCH_CDWELL c.car
  let legs :=
    match c.moving, c.tgt, ord with
    | true, some t, x :: _ =>
      let lt := m.env.floorLevel t
      if x.phase = 1 then legsTo l dwell phase floor c.pos c.v ord
      else legTime c.pos c.v lt l + legsTo l dwell phase floor lt 0 ord
    | _, _, _ => legsTo l dwell phase floor c.pos c.v ord
  min (c.doorRem + legs) 0xFFFFFFFF

/-- A context's place on a car: phase, TTS, stops that follow, and whether the car already stops there. -/
structure Place where
  phase : Nat
  tts   : Nat
  after : Nat
  there : Bool
  deriving DecidableEq, Repr

/-- The place of `h` on a car with the other stops `sts`; a stop the car holds already counts among those whose oldest gives
a car at rest its direction (R388). -/
def Sc.place (m : Sc) (c : CarState) (sts : List StopPt) (h : StopPt) (holds : Bool) : Place :=
  let w := m.sweep c (if holds then sts ++ [h] else sts) h
  let p := w.phase h
  let ord := w.order (sts ++ [h])
  let rest := (ord.dropWhile fun x => !(x.phase == p && x.floor == h.floor)).tail
  { phase := p, tts := m.tts c ord p h.floor, after := rest.length,
    there := sts.any fun x => w.phase x == p && x.floor == h.floor }

/-- The cost of R390. -/
def Sc.cost (m : Sc) (c : Nat) (pl : Place) (held : Bool) : Word :=
  let s := m.env
  let n : Int := if pl.there then 0 else pl.after
  satWordU (rnDiv (pl.tts * s.SCH_WT) 1000 + n * rnDiv ((s.SCH_CDWELL c + s.SCH_CSLOSS c) * s.SCH_WD) 1000 +
    (if held then s.SCH_HYST else 0))

/-! ### Stops of a car -/

/-- A context that is still a stop of its car. -/
def Ctx.waits (x : Ctx) : Bool := x.stat == .assigned || x.stat == .committed

/-- The contexts that are stops of car `c`, with the car calls its status reports. -/
def Sc.stops (m : Sc) (c : Nat) : List StopPt :=
  let mine := (m.sched.open_.filter fun e => e.2.car == some c && e.2.waits).map fun e => m.stopOf e.2
  let told := (m.car c).calls.map fun f =>
    { kind := .car, floor := f, level := m.env.floorLevel f, order := m.sched.nextOrder : StopPt }
  mine ++ told

/-! ### Events (R387) -/

/-- Post a call event. -/
def Sc.event (m : Sc) (tag : BitVec 8) (ev detail floor idx : Nat) (car : Option Nat) (w2 : Nat) : Sc :=
  m.post 0x0A04 [BitVec.ofNat 32 (tag.toNat + ev * 2 ^ 8 + detail * 2 ^ 16 + floor * 2 ^ 24),
    BitVec.ofNat 32 (idx + car.getD 0x1F * 2 ^ 16), BitVec.ofNat 32 w2, lowWord m.env.dev]

/-- Post an event of a context. -/
def Sc.ctxEvent (m : Sc) (i : Nat) (x : Ctx) (ev detail w2 : Nat) : Sc := m.event x.tag ev detail x.floor i x.car w2

/-- An item is refused (R383). -/
def Sc.refuse (m : Sc) (tag : BitVec 8) (detail floor : Nat) : Sc := m.event tag 0x03 detail floor 0 none 0

/-- An assignment item to a car another unit drives (R392): OP 1 ASSIGN, 2 WITHDRAW, 3 LIVE, 4 END. -/
def Sc.tell (m : Sc) (c op i : Nat) (x : Ctx) (tts : Word) : Sc :=
  if m.env.schMode != 2 || (m.env.schDrives && c == m.env.SCH_CTL_OWNCAR) then m
  else m.post (0x0A20 + c)
    [BitVec.ofNat 32 (op + x.floor * 2 ^ 8 + ctxKindCode x.kind * 2 ^ 16 + x.station * 2 ^ 20), BitVec.ofNat 32 i, tts, 0]

/-! ### Sessions and stop items (R397, R400, R401) -/

/-- A LIVE session that has not ended stands at this car and floor. -/
def Sc.liveAt (m : Sc) (f : Nat) : Option (Nat × Ctx) :=
  m.sched.open_.find? fun e =>
    e.2.kind == .session && e.2.stat == .live && !e.2.ended && e.2.floor == f && e.2.car == some m.env.SCH_CTL_OWNCAR

/-- Remaining ms of a LIVE session. -/
def Ctx.remaining (x : Ctx) (now : Nat) : Nat := if x.stat == .live && !x.ended then msOf (x.expiry - now) else 0

/-- Post a stop item for floor `f` with the number of contexts served (R397). -/
def Sc.stopItem (m : Sc) (f count : Nat) : Sc :=
  let st := m.env.stationOf f
  let live := m.liveAt f
  let dir : Nat := match m.drive.depart with
    | some true => 1
    | some false => 2
    | none => 0
  let ok := st.isNone || live.isSome
  m.post 0x0A09 [BitVec.ofNat 32 (f + dir * 2 ^ 8 + bit ok * 2 ^ 10 + bit st.isSome * 2 ^ 11 + count * 2 ^ 16),
    BitVec.ofNat 32 (st.getD 0),
    BitVec.ofNat 32 (match live with
      | some e => e.2.remaining m.env.dev
      | none => 0),
    lowWord m.env.dev]

/-- Post a grant of a session this scheduler holds (R401). -/
def Sc.grant (m : Sc) (i : Nat) (x : Ctx) (live : Bool) : Sc :=
  let n := m.sched.grantCount + 1
  let m := { m with sched := { m.sched with grantCount := n } }
  m.post 0x0A30 [BitVec.ofNat 32 (bit live + x.station * 2 ^ 8 + n.toNat * 2 ^ 16),
    BitVec.ofNat 32 (if live then x.remaining m.env.dev else 0), BitVec.ofNat 32 i, 0]

/-- A LIVE session of this scheduler whose expiry has passed (R400). -/
def Ctx.overdue (x : Ctx) (now : Nat) : Bool :=
  x.kind == .session && x.stat == .live && !x.ended && x.group.isNone && decide (x.expiry ≤ now)

/-- A session becomes LIVE at its station (R400). -/
def Sc.goLive (m : Sc) (i : Nat) (x : Ctx) : Sc :=
  let x := { x with stat := .live, expiry := m.env.dev + x.life * 1000 }
  let m := m.setCtx i (some x)
  let m := m.ctxEvent i x 0x0A 0 x.life
  let m := m.note 0x0A11 (leBytes 1 x.station ++ leBytes 1 (x.car.getD 0x1F))
  let m := m.grant i x true
  match x.car with
  | some c => m.tell c 3 i x 0
  | none => m

/-- A session ends (R400): the context frees at once, or once its car departs where it is LIVE at the station (R386). -/
def Sc.endSession (m : Sc) (i : Nat) (x : Ctx) (detail : Nat) : Sc :=
  let m := m.ctxEvent i x 0x0B detail 0
  let m := m.note 0x0A12 (leBytes 1 x.station ++ leBytes 1 detail)
  let own := m.env.schDrives && x.car == some m.env.SCH_CTL_OWNCAR
  if x.stat == .live then
    let m := m.grant i x false
    let m := match x.car with
      | some c => m.tell c 4 i x 0
      | none => m
    let m := m.setCtx i (some { x with ended := true })
    if own then m.stopItem x.floor 0 else m
  else
    let m := match x.car with
      | some c => m.tell c 2 i x 0
      | none => m
    m.setCtx i none

/-! ### Serving at a floor (R396, R406) -/

/-- A context is served by its car standing at `f` with departure direction `dep`. -/
def Ctx.servedAt (x : Ctx) (c f : Nat) (dep : Option Bool) : Bool :=
  x.car == some c && x.waits && x.floor == f &&
    match x.kind, dep with
    | .hallUp, some false => false
    | .hallDn, some true => false
    | _, _ => true

/-- Contexts `es` of a car move to SERVING, sessions this scheduler holds to LIVE; ARRIVED for each (R396). -/
def Sc.serve (m : Sc) (es : List (Nat × Ctx)) : Sc :=
  es.foldl (fun m e =>
    let x := { e.2 with stat := .serving }
    let m := (m.setCtx e.1 (some x)).ctxEvent e.1 x 0x07 0 0
    if x.kind == .session && x.group.isNone then m.goLive e.1 x else m) m

/-- Departure direction from floor `f` in direction `d` (R396). -/
def Sc.departure (m : Sc) (f : Nat) (up : Bool) : Option Bool :=
  let l := m.env.floorLevel f
  let others := (m.stops m.env.SCH_CTL_OWNCAR).filter fun x => x.floor != f
  let beyond := others.any fun x => if up then l < x.level else x.level < l
  if beyond then some up else if others.isEmpty then none else some !up

/-- The driven car stands at floor `f` (R396); the stop of RESYNC serves no context (R403). -/
def Sc.arrive (m : Sc) (f : Nat) : Sc :=
  let dep := m.departure f (m.drive.dirUp != some false)
  let m := m.updDrive fun d =>
    { d with stat := .atFloor, at_ := some f, depart := dep, tgt := none, blend := none }
  if m.sched.resyncStop == some f then m.stopItem f 0
  else
    let es := m.sched.open_.filter fun e => e.2.servedAt m.env.SCH_CTL_OWNCAR f dep
    (m.serve es).stopItem f es.length

/-- Calls that appear for the floor the driven car stands at are served at once (R406). -/
def Sc.serveHere (m : Sc) : Sc :=
  match m.drive.stat, m.drive.at_ with
  | .atFloor, some f =>
    if m.sched.resyncStop == some f then m
    else
      let es := m.sched.open_.filter fun e => e.2.servedAt m.env.SCH_CTL_OWNCAR f m.drive.depart
      if es.isEmpty then m else (m.serve es).stopItem f es.length
  | _, _ => m

/-- A car departs: its serving contexts free with SERVED, its ended sessions free (R386, R395, R400). -/
def Sc.departed (m : Sc) (c : Nat) : Sc :=
  m.sched.open_.foldl (fun m e =>
    if e.2.car != some c then m
    else if e.2.stat == .serving then (m.ctxEvent e.1 e.2 0x08 0 0).setCtx e.1 none
    else if e.2.stat == .live && e.2.ended then m.setCtx e.1 none
    else m) m

/-- DEPART of the door handshake (R395, R398). -/
def Sc.depart (m : Sc) : Sc :=
  match m.drive.stat, m.drive.at_ with
  | .atFloor, some f =>
    if (m.liveAt f).isSome then { m with sched := { m.sched with ignored := satInc m.sched.ignored } }
    else
      let m := m.departed m.env.SCH_CTL_OWNCAR
      let left := m.sched.resyncStop == some f
      let m := m.updDrive fun d => { d with stat := .idle, at_ := none, depart := none }
      if left then { m with sched := { m.sched with resyncLeft := true, resyncStop := none } } else m
  | _, _ => { m with sched := { m.sched with ignored := satInc m.sched.ignored } }

/-- A door handshake item (R398). -/
def Sc.handshake (m : Sc) (it : Item) : Sc :=
  if it.poison || it.words.length != 2 then m
  else match getBits (it.words.getD 0 0) 3 0 with
    | 1 => m.depart
    | 2 => m.updDrive fun d => { d with doorRem := it.words.getD 1 0 }
    | _ => m

/-! ### Committing (R386, R394) -/

/-- Time in µs until the car must begin to brake for TGT; none at rest (R394). -/
def Sc.tdec (m : Sc) (c : CarState) : Option Int :=
  match c.tgt with
  | some t =>
    if c.v = 0 then none
    else
      let l := m.env.carLimits c.car
      let v := absInt c.v
      some (downDiv ((absInt (m.env.floorLevel t - c.pos) - changeDist v 0 l.d l.j) * 10 ^ 7) v)
  | none => none

/-- The car will stop at its TGT: the conditions of COMMITTED (R386). -/
def Sc.commits (m : Sc) (c : CarState) (x : Ctx) : Bool :=
  c.tgt == some x.floor && !c.blend && c.moving &&
    match m.tdec c with
    | some t => decide (t ≤ m.env.SCH_LEADMS * 1000)
    | none => true

/-- ASSIGNED contexts whose car will stop for them become COMMITTED. -/
def Sc.commitAll (m : Sc) : Sc :=
  m.sched.open_.foldl (fun m e =>
    match e.2.stat, e.2.car with
    | .assigned, some c => if m.commits (m.car c) e.2 then m.setCtx e.1 (some { e.2 with stat := .committed }) else m
    | _, _ => m) m

/-! ### Call items (R382 to R385, R399, R400) -/

/-- A zero in every field a call item of this kind does not use (R382). -/
def callReserved (k : Nat) (ws : List Word) : Bool :=
  let w (i : Nat) : Word := ws.getD i 0
  let session := k == 4 || k == 6 || k == 7
  getBits (w 0) 15 12 == 0 && getBits (w 0) 31 28 == 0 && getBits (w 1) 31 16 == 0 &&
    (if k = 5 then getBits (w 2) 31 4 == 0 else k == 4 || k == 6 || w 2 == 0) &&
    (if session then getBits (w 3) 31 8 == 0 else w 3 == 0 && w 4 == 0 && w 5 == 0)

/-- A new context in the lowest free place; none when all 1024 are open (R383, R384). -/
def Sc.create (m : Sc) (x : Ctx) : Option (Nat × Sc) :=
  match (List.range 1024).find? fun i => (m.ctx i).isNone with
  | some i =>
    let m := { m with sched := { m.sched with nextOrder := m.sched.nextOrder + 1 } }
    some (i, m.setCtx i (some { x with order := m.sched.nextOrder }))
  | none => none

/-- CTX_FULL, at most once per second (R383, R412). -/
def Sc.full (m : Sc) (tag : BitVec 8) (kind floor : Nat) : Sc :=
  let due := match m.sched.fullAt with
    | some t => decide (t + 1000000 ≤ m.env.dev)
    | none => true
  let m := if due then
      Sc.note { m with sched := { m.sched with fullAt := some m.env.dev } } 0x0A02 (leBytes 1 kind ++ leBytes 1 floor)
    else m
  m.refuse tag 0x02 floor

/-- A context as an accepted item makes it. -/
def newCtx (now : Nat) (kind : CtxKind) (floor : Nat) (car : Option Nat) (ws : List Word) : Ctx :=
  { stat := .registered, kind := kind, floor := floor, car := car, tag := BitVec.ofNat 8 (getBits (ws.getD 0 0) 7 0),
    source := BitVec.ofNat 16 (getBits (ws.getD 1 0) 15 0),
    station := if kind == .session then getBits (ws.getD 3 0) 7 0 else 0,
    token := if kind == .session then (ws.getD 5 0).setWidth 64 <<< 32 ||| (ws.getD 4 0).setWidth 64 else 0, time := now,
    order := 0, life := if kind == .session then (ws.getD 2 0).toNat else 0, expiry := 0, cost := 0, tts := 0, moves := 0,
    phase := 0, oldCar := none, group := none, ended := false, restored := false }

/-- A HALL_UP, HALL_DN or CAR item that passed checks 1 to 3: merged or a new context (R384). -/
def Sc.callItem (m : Sc) (kind : CtxKind) (floor : Nat) (car : Option Nat) (ws : List Word) : Sc :=
  let tag := BitVec.ofNat 8 (getBits (ws.getD 0 0) 7 0)
  match m.sched.open_.find? fun e => e.2.kind == kind && e.2.floor == floor && (kind != .car || e.2.car == car) with
  | some e => m.event tag 0x02 0 floor e.1 e.2.car 0
  | none =>
    match m.create (newCtx m.env.dev kind floor car ws) with
    | some (i, m) => m.event tag 0x01 0 floor i car 0
    | none => m.full tag (ctxKindCode kind) floor

/-- The open session of a station that has not ended. -/
def Sc.sessionOf (m : Sc) (station : Nat) : Option (Nat × Ctx) :=
  m.sched.open_.find? fun e => e.2.kind == .session && e.2.station == station && !e.2.ended

/-- SESSION_OPEN after checks 1 to 3 (R399). -/
def Sc.sessionOpen (m : Sc) (floor : Nat) (ws : List Word) : Sc :=
  let s := m.env
  let tag := BitVec.ofNat 8 (getBits (ws.getD 0 0) 7 0)
  let st := getBits (ws.getD 3 0) 7 0
  let life := (ws.getD 2 0).toNat
  if !s.stationAt st floor then m.refuse tag 0x03 floor
  else if (m.sessionOf st).isSome then m.refuse tag 0x05 floor
  else if life < 1000 || s.SCH_SESSMAX < life then m.refuse tag 0x08 floor
  else if !(s.carList.any fun c => s.served c floor && (m.car c).inServ) then m.refuse tag 0x07 floor
  else match m.create (newCtx s.dev .session floor none ws) with
    | some (i, m) => (m.event tag 0x01 0 floor i none 0).note 0x0A10 (leBytes 1 st ++ leBytes 2 i ++ leBytes 4 life)
    | none => m.full tag 4 floor

/-- SESSION_EXTEND or SESSION_CLOSE after checks 1 to 3 (R399, R400); an expiry that has passed is decided first (R406). -/
def Sc.sessionChange (m : Sc) (extend : Bool) (floor : Nat) (ws : List Word) : Sc :=
  let tag := BitVec.ofNat 8 (getBits (ws.getD 0 0) 7 0)
  let st := getBits (ws.getD 3 0) 7 0
  let token := (ws.getD 5 0).setWidth 64 <<< 32 ||| (ws.getD 4 0).setWidth 64
  match m.sessionOf st with
  | none => m.refuse tag 0x0B floor
  | some (i, x) =>
    if x.overdue m.env.dev then (m.endSession i x 0x11).refuse tag 0x0B floor
    else if x.token != token then
      (m.note 0x0A13 (leBytes 1 st ++ leBytes 2 (getBits (ws.getD 1 0) 15 0))).refuse tag 0x06 floor
    else if extend then
      let life := min (ws.getD 2 0).toNat m.env.SCH_SESSMAX
      let x := { x with life := if x.stat == .live then x.life else life,
                        expiry := if x.stat == .live then m.env.dev + life * 1000 else x.expiry }
      (m.setCtx i (some x)).event tag 0x0D 0 floor i x.car life
    else m.endSession i x 0x10

/-- CANCEL (R385). -/
def Sc.cancel (m : Sc) (floor : Nat) (ws : List Word) : Sc :=
  let tag := BitVec.ofNat 8 (getBits (ws.getD 0 0) 7 0)
  let k := getBits (ws.getD 2 0) 3 0
  let car := if m.env.schMode = 1 then m.env.SCH_CTL_OWNCAR else getBits (ws.getD 0 0) 27 24
  match m.sched.open_.find? fun e =>
      k < 4 && ctxKindCode e.2.kind == k && e.2.floor == floor && (k != 3 || e.2.car == some car) with
  | none => m.refuse tag 0x0A floor
  | some (i, x) =>
    if x.stat == .serving || x.stat == .live then m.refuse tag 0x09 floor
    else
      let m := match x.car with
        | some c => m.tell c 2 i x 0
        | none => m
      (m.setCtx i none).event tag 0x09 0 floor i x.car 0

/-- A fetched call item (R383). -/
def Sc.call (m : Sc) (it : Item) : Sc :=
  let s := m.env
  let ws := it.words
  let w0 := ws.getD 0 0
  let tag : BitVec 8 := if it.poison then 0 else BitVec.ofNat 8 (getBits w0 7 0)
  let k := getBits w0 11 8
  let floor := getBits w0 23 16
  let session := k == 4 || k == 6 || k == 7
  let car := if s.schMode = 1 then s.SCH_CTL_OWNCAR else getBits w0 27 24
  if it.poison then m.refuse 0 0x01 0
  else if ws.length != 6 || k == 0 || 7 < k || !callReserved k ws || (session && ws.getD 4 0 == 0 && ws.getD 5 0 == 0) then
    m.refuse tag 0x01 floor
  else if ((k == 1 || k == 2) && s.schMember) ||
      (k == 3 && s.schMode == 2 && !(s.schDrives && car == s.SCH_CTL_OWNCAR)) then m.refuse tag 0x04 floor
  else if !(if k = 3 then s.served car floor else s.carList.any fun c => s.served c floor) then m.refuse tag 0x03 floor
  else match k with
    | 1 => m.callItem .hallUp floor none ws
    | 2 => m.callItem .hallDn floor none ws
    | 3 => m.callItem .car floor (some car) ws
    | 4 => m.sessionOpen floor ws
    | 5 => m.cancel floor ws
    | 6 => m.sessionChange true floor ws
    | _ => m.sessionChange false floor ws

/-! ### Assignment items at a member car (R392, R402) -/

/-- The context this car holds for the group's context `g`. -/
def Sc.ofGroup (m : Sc) (g : Word) : Option (Nat × Ctx) := m.sched.open_.find? fun e => e.2.group == some g

/-- An assignment item (R392). An ASSIGN that gives this car the index anew takes it out of word 6 of the status, so that a later
refusal of it shows again (log 43). -/
def Sc.assignItem (m : Sc) (it : Item) : Sc :=
  let w0 := it.words.getD 0 0
  let g := it.words.getD 1 0
  let own := m.env.SCH_CTL_OWNCAR
  if it.poison || it.words.length != 4 then m
  else match getBits w0 2 0, m.ofGroup g with
    | 1, some (i, x) => m.setCtx i (some { x with tts := it.words.getD 2 0 })
    | 1, none =>
      let kind : CtxKind := match getBits w0 19 16 with
        | 1 => .hallUp
        | 2 => .hallDn
        | 3 => .car
        | _ => .session
      let x := { newCtx m.env.dev kind (getBits w0 15 8) (some own) [0, 0, 0, BitVec.ofNat 32 (getBits w0 27 20)] with
        stat := .assigned, group := some g, tts := it.words.getD 2 0 }
      match m.create x with
      | some (_, m) => m.updDrive fun d =>
          { d with refusedWithdraw := if d.refusedWithdraw == some (g.setWidth 10) then none else d.refusedWithdraw }
      | none => m
    | 2, some (i, x) =>
      if x.stat == .assigned && !m.commits m.ownCar x then m.setCtx i none
      else if x.stat == .registered then m.setCtx i none
      else m.updDrive fun d => { d with refusedWithdraw := some (g.setWidth 10) }
    | 3, some (i, x) =>
      let m := m.setCtx i (some { x with stat := .live, ended := false })
      match m.drive.stat, m.drive.at_ with
      | .atFloor, some f => if f = x.floor then m.stopItem f 0 else m
      | _, _ => m
    | 4, some (i, x) =>
      let m := m.setCtx i (some { x with ended := true })
      if x.stat == .live || (m.drive.stat == .atFloor && m.drive.at_ == some x.floor) then m.stopItem x.floor 0 else m
    | _, _ => m

/-! ### Car status items at a GROUP scheduler (R380, R392) -/

/-- A newest status item of car `c`; a newly refused WITHDRAW gives the context back to that car, which holds it COMMITTED or
SERVING (R392). A scheduler in STANDBY posts nothing (R405). -/
def Sc.statusItem (m : Sc) (c : Nat) (it : Item) : Sc :=
  if it.poison || it.words.length != 16 then m
  else
    let old := m.sched.cars.get CarView.reset c
    let moved := !old.seen || old.words.getD 5 0 != it.words.getD 5 0
    let v : CarView := { old with words := it.words, age := if moved then 0 else old.age, seen := true }
    let m := { m with sched := { m.sched with cars := m.sched.cars.set CarView.reset c v } }
    let w6 := it.words.getD 6 0
    if w6.getLsbD 15 && w6 != old.words.getD 6 0 && m.sched.stat != .standby then
      let i := getBits w6 9 0
      match m.ctx i with
      | some x =>
        if x.car == some c || !(x.waits || x.stat == .registered) then m
        else
          let m := match x.car with
            | some b => m.tell b 2 i x 0
            | none => m
          m.setCtx i (some { x with car := some c, stat := .committed, oldCar := none, restored := true })
      | none => m
    else m

/-! ### Planner events of the driven car (R395) -/

/-- The car goes OUT (R395). -/
def Sc.goOut (m : Sc) (status : Nat) : Sc :=
  let m := m.updDrive fun d =>
    { d with stat := .out, tgt := none, blend := none, at_ := none, depart := none, dirUp := none }
  Sc.note { m with sched := { m.sched with service := false } } 0x0A03 (leBytes 1 m.env.SCH_CTL_OWNCAR ++ leBytes 1 status)

/-- A planner event (R264, R395): an event of a move this scheduler has posted is its move's in whatever DRIVE it comes. -/
def Sc.plannerEvent (m : Sc) (it : Item) : Sc :=
  let d := m.drive
  let status := getBits (it.words.getD 0 0) 15 8
  let id := it.words.getD 1 0
  let running := d.stat == .moving && d.moveId == some id
  let mine := d.moveId == some id || d.blendId == some id
  if it.poison || it.words.length != 4 then m
  else if id = 0xFFFFFFFE then m.goOut status
  else if mine && [0x10, 0x11, 0x08, 0x04, 0x05, 0x09, 0x07].contains status then m.goOut status
  else if running && status == 0x03 then
    m.updDrive fun d => match d.blend with
      | some f => { d with tgt := some f, moveId := d.blendId, blendId := none, blend := none }
      | none => d
  else if running && status == 0x02 then
    match d.tgt with
    | some f =>
      if m.sched.resyncStop == some f || (m.stops m.env.SCH_CTL_OWNCAR).any (·.floor == f) then m.arrive f
      else
        let m := m.updDrive fun d => { d with stat := .idle, tgt := none, blend := none, dirUp := none }
        m.note 0x0A04 (leBytes 1 m.env.SCH_CTL_OWNCAR ++ leBytes 1 f)
    | none => m
  else m

/-! ### Driving (R395) -/

/-- Post a POSITION move to floor `f` (R395). -/
def Sc.postMove (m : Sc) (f : Nat) (blend : Bool) : Word × Sc :=
  let id : Word := m.drive.counter.setWidth 32
  let m := m.updDrive fun d => { d with counter := d.counter + 1 }
  let target := m.env.floorLevel f - sInt (m.env.reg .SCH_FRAMEOFS)
  (id, m.post 0x0A05 [BitVec.ofNat 32 (2 ^ 8 + bit blend * 2 ^ 12), satWord target, 0, 0, 0, 0, id, 0])

/-- The served floor nearest beyond level `l` in the direction, up to `limit` levels away where given. -/
def Sc.nextFloor (m : Sc) (l : Int) (up : Bool) : Option Nat :=
  let s := m.env
  let fs := (List.range 256).filter fun f =>
    s.served s.SCH_CTL_OWNCAR f && (if up then decide (l < s.floorLevel f) else decide (s.floorLevel f < l))
  fs.foldl (fun b f => match b with
    | none => some f
    | some g => if (if up then s.floorLevel f < s.floorLevel g else s.floorLevel g < s.floorLevel f) then some f else b) none

/-- The driven car starts toward its first stop, one served floor at a time (R395). What it still served where it stood, when it
went OUT there, frees with its departure (R386, R400). -/
def Sc.startMove (m : Sc) (first : SweepStop) : Sc :=
  let c := m.ownCar
  let here := m.floorHere
  let up := decide (c.pos < first.level)
  let from_ := match here with
    | some f => m.env.floorLevel f
    | none => c.pos
  let f := if here == some first.floor then first.floor else (m.nextFloor from_ up).getD first.floor
  let r := (m.departed m.env.SCH_CTL_OWNCAR).postMove f false
  r.2.updDrive fun d =>
    { d with stat := .moving, tgt := some f, blend := none, moveId := some r.1,
             dirUp := if here == some first.floor then none else some up }

/-- SCH posts no moves between FINAL_EPOCH and the end of an allemande (R603); a unit granted the lease again goes on. -/
def State.schHeld (s : State) : Bool :=
  s.gate.hstate == .finalEpoch || (s.gate.hstate == .released && s.gate.stat != .active)

/-- Step 4 of R374 for the driven car (R395); the one move of RESYNC is not extended (R403). -/
def Sc.driveStep (m : Sc) : Sc :=
  let d := m.drive
  let own := m.env.SCH_CTL_OWNCAR
  let c := m.ownCar
  let sts := m.stops own
  if !m.env.schDrives then m
  else match d.stat with
  | .out =>
    if m.sched.service && m.tracking && c.v == 0 then m.updDrive fun d => { d with stat := .idle } else m
  | .idle =>
    match sts with
    | [] => m
    | h :: _ =>
      if m.env.schHeld then m
      else match (m.sweep c sts h).order sts with
        | x :: _ => m.startMove x
        | [] => m
  | .moving =>
    match d.tgt, sts with
    | some t, h :: _ =>
      let w := m.sweep c sts h
      let l := m.env.floorLevel t
      let beyond := sts.any fun x => w.phase x == 1 && decide (0 < w.d * (x.level - l))
      let near := match m.tdec c with
        | some x => decide (x ≤ m.env.SCH_LEADMS * 1000)
        | none => false
      if d.blend.isNone && !sts.any (·.floor == t) && beyond && near && !m.env.schHeld &&
          m.sched.resyncStop.isNone then
        match m.nextFloor l (w.d == 1) with
        | some f =>
          let r := m.postMove f true
          r.2.updDrive fun d => { d with blend := some f, blendId := some r.1 }
        | none => m
      else m
    | _, _ => m
  | .atFloor => m

/-! ### Assignment (R390, R391, R393) -/

/-- A stop whose car was left out of service: ASSIGNED contexts return to REGISTERED, sessions end (R386, R400). -/
def Sc.dropCar (m : Sc) (c : Nat) : Sc :=
  m.sched.open_.foldl (fun m e =>
    let x := e.2
    if x.car != some c then m
    else if x.kind == .session && x.group.isNone && !x.ended then m.endSession e.1 x 0x13
    else if x.stat == .assigned then
      m.setCtx e.1 (some { x with stat := .registered, car := if x.kind == .car then x.car else none, oldCar := some c })
    else m) m

/-- Cars out of service lose their contexts; a car whose status has stopped is recorded once (R381, R412). -/
def Sc.checkCars (m : Sc) : Sc :=
  m.env.carList.foldl (fun m c =>
    if (m.car c).inServ then m
    else
      let v := m.sched.cars.get CarView.reset c
      let lost := !(m.env.schDrives && c == m.env.SCH_CTL_OWNCAR) && v.seen && 3 < v.age && !v.outNoted
      let m := if lost then
          Sc.note { m with sched := { m.sched with cars := m.sched.cars.set CarView.reset c { v with outNoted := true } } }
            0x0A03 (leBytes 1 c ++ [0xFF])
        else m
      m.dropCar c) m

/-- Car calls of a car in service are its own (R391). -/
def Sc.takeCarCalls (m : Sc) : Sc :=
  m.sched.open_.foldl (fun m e =>
    match e.2.kind, e.2.stat, e.2.car with
    | .car, .registered, some c => if (m.car c).inServ then m.setCtx e.1 (some { e.2 with stat := .assigned }) else m
    | _, _, _ => m) m

/-- Insert a context in registration order. -/
def insertCtx (x : Nat × Ctx) : List (Nat × Ctx) → List (Nat × Ctx)
  | [] => [x]
  | y :: ys => if x.2.order < y.2.order then x :: y :: ys else y :: insertCtx x ys

/-- The stops every car has before the pass of R391: car calls and COMMITTED contexts. -/
def Sc.fixedStops (m : Sc) (c : Nat) : List StopPt :=
  let mine := (m.sched.open_.filter fun e => e.2.car == some c &&
    (e.2.stat == .committed || (e.2.stat == .assigned && e.2.kind == .car))).map fun e => m.stopOf e.2
  mine ++ (m.car c).calls.map fun f =>
    { kind := .car, floor := f, level := m.env.floorLevel f, order := m.sched.nextOrder : StopPt }

/-- Car `c` is eligible for `x` at this place (R390). -/
def Sc.eligible (m : Sc) (c : CarState) (x : Ctx) (pl : Place) : Bool :=
  c.inServ && m.env.served c.car x.floor && (x.kind == .session || decide (c.load < m.env.SCH_CFULL c.car) || pl.there)

/-- The eligible car of lowest cost, the lowest number on a tie (R391). -/
def Sc.bestCar (m : Sc) (x : Ctx) (stops : Nat → List StopPt) : Option (Nat × Place × Word) :=
  let h := m.stopOf x
  m.env.carList.foldl (fun b c =>
    let cs := m.car c
    let pl := m.place cs (stops c) h (x.car == some c)
    if !m.eligible cs x pl then b
    else
      let k := m.cost c pl (x.car.isSome && x.car != some c)
      match b with
      | some (_, _, k0) => if k.toNat < k0.toNat then some (c, pl, k) else b
      | none => some (c, pl, k)) none

/-- Give one context to its best car (R391). -/
def Sc.assignOne (m : Sc) (added : List (Nat × StopPt)) (e : Nat × Ctx) : Sc × List (Nat × StopPt) :=
  let x := e.2
  let stops (c : Nat) : List StopPt := m.fixedStops c ++ (added.filter fun a => a.1 == c).map (·.2)
  match m.bestCar x stops with
  | none =>
    if x.stat == .registered then ({ m with sched := { m.sched with unserved := m.sched.unserved + 1 } }, added)
    else (m, match x.car with
      | some c => added ++ [(c, m.stopOf x)]
      | none => added)
  | some (c, pl, k) =>
    let added := added ++ [(c, m.stopOf x)]
    let old := if x.car.isSome then x.car else x.oldCar
    let y := { x with stat := .assigned, car := some c, cost := k, tts := BitVec.ofNat 32 pl.tts, oldCar := none }
    if x.car == some c then (m.setCtx e.1 (some y), added)
    else
      match old with
      | none => (((m.setCtx e.1 (some y)).ctxEvent e.1 y 0x04 0 pl.tts).tell c 1 e.1 y y.tts, added)
      | some b =>
        let y := { y with moves := satInc x.moves, phase := pl.phase }
        let m := (m.setCtx e.1 (some y)).ctxEvent e.1 y 0x05 0 pl.tts
        let m := if b = c then m else m.tell b 2 e.1 y 0
        (m.tell c 1 e.1 y y.tts, added)

/-- The indexes of the ASSIGNED contexts whose car has left service: they wait for the next recompute (R406). -/
def Sc.dropped (m : Sc) : List Nat :=
  (m.sched.open_.filter fun e => e.2.stat == .assigned && (match e.2.car with
    | some c => !(m.car c).inServ
    | none => false)).map (·.1)

/-- The pass of R391 over hall calls and sessions, oldest first, but for those that lost their car in this recompute. -/
def Sc.assignAll (m : Sc) (wait : List Nat) : Sc :=
  let es := (m.sched.open_.filter fun e => e.2.kind != .car && (e.2.stat == .registered || e.2.stat == .assigned) &&
    !wait.contains e.1).foldl (fun l e => insertCtx e l) []
  (es.foldl (fun r e => r.1.assignOne r.2 e) ({ m with sched := { m.sched with unserved := 0 } }, [])).1

/-- Phases, TTS and REORDERED of the contexts each car holds (R393): a call that comes for a floor a moving car has passed
counts as raised from the phase it would have ahead of the car; one that a refused WITHDRAW gave back shows no event (R392). -/
def Sc.reorder (m : Sc) : Sc :=
  m.sched.open_.foldl (fun m e =>
    match e.2.car with
    | some c =>
      if !e.2.waits then m
      else
        let cs := m.car c
        let others := ((m.sched.open_.filter fun a => a.1 != e.1 && a.2.car == some c && a.2.waits).map fun a => m.stopOf a.2) ++
          cs.calls.map fun f => { kind := .car, floor := f, level := m.env.floorLevel f, order := m.sched.nextOrder : StopPt }
        let h := m.stopOf e.2
        let pl := m.place cs others h true
        let old := if e.2.phase != 0 then e.2.phase
          else if cs.moving then (m.sweep cs (others ++ [h]) h).ahead h
          else pl.phase
        let pass := e.2.stat == .assigned && e.2.kind != .car
        let y := { e.2 with phase := pl.phase, tts := if pass then e.2.tts else BitVec.ofNat 32 pl.tts,
                            cost := if pass then e.2.cost else m.cost c pl false, restored := false }
        let m := m.setCtx e.1 (some y)
        if old < pl.phase && !e.2.restored then m.ctxEvent e.1 y 0x06 0 pl.tts else m
    | none => m) m

/-! ### The recompute (R374) -/

/-- Take up to `n` items of a port, each handled in arrival order; what is left of the budget comes back. -/
def Sc.fetch (m : Sc) (n port : Nat) (f : Sc → Item → Sc) : Nat × Sc :=
  let r := m.qf.takeItems port n
  (n - r.1.length, r.1.foldl f { m with qf := r.2 })

/-- A fusion position item (R381). -/
def Sc.fusionItem (m : Sc) (it : Item) : Sc :=
  if it.poison || it.words.length != 5 then m else m.updDrive fun d => { d with fusion := some it.words }

/-- A discarded call or assignment item of a STANDBY scheduler (R405). -/
def Sc.discard (m : Sc) (_ : Item) : Sc := { m with sched := { m.sched with ignored := satInc m.sched.ignored } }

/-- A session grant at a SESSION_CHECK scheduler as it is kept (R402). -/
def grantOf (at_ : Nat) (it : Item) : Nat × Grant :=
  (getBits (it.words.getD 0 0) 15 8, { live := (it.words.getD 0 0).getLsbD 0, remain := it.words.getD 1 0, at_ := at_ })

/-- The session item of a station for door engine `i` (R402). -/
def Sc.sessionItem (m : Sc) (i station : Nat) : Sc :=
  let age := m.env.SCH_GRANTAGE * 1000
  match m.sched.grants.get none station with
  | some g =>
    m.post (0x0A32 + i) [BitVec.ofNat 32 (bit (g.live && decide (m.env.dev ≤ g.at_ + age)) + station * 2 ^ 8),
      lowWord (g.at_ + g.remain.toNat * 1000)]
  | none => m.post (0x0A32 + i) [BitVec.ofNat 32 (station * 2 ^ 8), 0]

/-- The door motor engines that require a session, with their stations. -/
def State.sessionDoors (s : State) : List (Nat × Nat) :=
  ((List.range 4).filter fun i => s.isDoor i && s.MC_DSTATION_SESSREQ i == 1).map fun i => (i, s.MC_DSTATION_STATION i)

/-- A session grant staged at `at_` reaches a SESSION_CHECK scheduler (R402). -/
def Sc.grantItem (m : Sc) (it : Item) (at_ : Nat) : Sc :=
  if it.poison || it.words.length != 4 then m
  else
    let g := grantOf at_ it
    let m := { m with sched := { m.sched with grants := m.sched.grants.set none g.1 (some g.2) } }
    (m.env.sessionDoors.filter fun d => d.2 == g.1).foldl (fun m d => m.sessionItem d.1 d.2) m

/-- Take items of a port that the scheduler's mode has (R372). -/
def Sc.fetchIf (m : Sc) (ok : Bool) (n port : Nat) (f : Sc → Item → Sc) : Nat × Sc := if ok then m.fetch n port f else (n, m)

/-- Take session grants with their staging times (R402). -/
def Sc.fetchGrants (m : Sc) (n : Nat) : Nat × Sc :=
  let r := m.qf.takeAllStaged 0x0A31 n
  (n - r.1.length, r.1.foldl (fun m e => m.grantItem e.1 e.2) { m with qf := r.2 })

/-- A GROUP scheduler takes the status of car `c` from port 0x0A10 + c: not of the car it drives itself (R380). -/
def State.statusPort (s : State) (c : Nat) : Bool :=
  s.schMode == 2 && decide (c < s.schCars) && !(s.schDrives && c == s.SCH_CTL_OWNCAR)

/-- Step 1 of R374: at most 256 items, in port order, from the ports of the scheduler's mode (R372). -/
def Sc.fetchAll (m : Sc) : Sc :=
  let s := m.env
  let standby := m.sched.stat == .standby
  let calls := s.schMode == 1 || s.schMode == 2
  let r := m.fetchIf s.schDrives 256 0x0A06 fun m it => if standby then m else m.plannerEvent it
  let r := r.2.fetchIf s.schDrives r.1 0x0A07 Sc.fusionItem
  let r := r.2.fetchIf s.schDrives r.1 0x0A08 fun m it => if standby then m else m.handshake it
  let r := (List.range s.schCars).foldl
    (fun r c => r.2.fetchIf (s.statusPort c) r.1 (0x0A10 + c) fun m it => m.statusItem c it) r
  let r := r.2.fetchIf s.schMember r.1 0x0A0B fun m it => if standby then m.discard it else m.assignItem it
  let r := if s.schMode = 3 then r.2.fetchGrants r.1 else r
  let call (m : Sc) (it : Item) : Sc := if standby then m.discard it else m.call it
  ((List.range 4).foldl (fun r i => r.2.fetchIf calls r.1 (0x0A00 + i) call) r).2

/-- Cars another unit drives: their age, and the contexts they serve or leave (R380, R386). -/
def Sc.remoteCars (m : Sc) : Sc :=
  (m.env.carList.filter fun c => !(m.env.schDrives && c == m.env.SCH_CTL_OWNCAR)).foldl (fun m c =>
    let v := m.sched.cars.get CarView.reset c
    let v := { v with age := v.age + 1, outNoted := v.outNoted && 3 < v.age + 1 }
    let m := { m with sched := { m.sched with cars := m.sched.cars.set CarView.reset c v } }
    let cs := m.car c
    let left := m.sched.open_.any fun e =>
      e.2.car == some c && (e.2.stat == .serving || e.2.stat == .live) && !(cs.atFloor && cs.cur == some e.2.floor)
    let m := if left then m.departed c else m
    match cs.atFloor, cs.cur with
    | true, some f => m.serve (m.sched.open_.filter fun e => e.2.servedAt c f cs.dirUp)
    | _, _ => m) m

/-- SCH_STAT (R407). -/
def Sched.statWord (x : Sched) : Word :=
  BitVec.ofNat 32 (schedCode x.stat + driveCode x.drive.stat * 2 ^ 8 + x.ignored.toNat * 2 ^ 12 + bit x.miss * 2 ^ 16 +
    bit x.fault * 2 ^ 20 + x.run.toNat * 2 ^ 24)

/-- SCH_CTL with SERVICE beside the stored fields (R407). -/
def Sc.ctlWord (m : Sc) : Word := setBits (m.env.reg .SCH_CTL) 1 0 (bit m.sched.service)

/-- The SCHCAR words: SCH_STAT, SCH_CTL, the driven car's status item, the recompute count and the next move ID (R593). -/
def Sc.carWords (m : Sc) (status : List Word) : List Word :=
  m.sched.statWord :: m.ctlWord :: status ++ [m.sched.count, m.drive.counter.setWidth 32]

/-- The status item of the driven car, or 16 zeros (R380, R593). -/
def Sc.ownStatus (m : Sc) : List Word := if m.env.schDrives then m.statusWords else List.replicate 16 0

/-- The end of a completed recompute: its count, RUN, the driven car's last status (R410), and what the next epoch
contributes (R374, R376, R405). -/
def Sc.finish (m : Sc) : Sc :=
  let ws := m.ownStatus
  let x := m.sched
  let cars := if m.env.schDrives then
      x.cars.set CarView.reset m.env.SCH_CTL_OWNCAR { words := ws, age := 0, seen := true, outNoted := false }
    else x.cars
  let m := { m with sched := { x with count := x.count + 1, run := 0, cars := cars, snapCtxs := x.ctxs } }
  { m with sched := { m.sched with snapCar := some (m.carWords ws) } }

/-- Sessions whose expiry has passed end before the items are handled (R400, R406). -/
def Sc.expireDue (m : Sc) : Sc :=
  m.sched.open_.foldl (fun m e => if e.2.overdue m.env.dev then m.endSession e.1 e.2 0x11 else m) m

/-- RECOMPUTE (R374). -/
def Sc.recompute (m : Sc) : Sc :=
  if m.env.schMode = 3 || m.sched.stat == .standby then m.fetchAll.finish
  else
    let m := m.expireDue.fetchAll.remoteCars
    let wait := m.dropped
    let m := m.checkCars.takeCarCalls.assignAll wait
    let m := m.serveHere.driveStep
    let m := m.commitAll.reorder
    let m := if m.env.schMember then m.post 0x0A0A m.statusWords else m
    m.finish

/-- SCH is instantiated, out of reset, and not held for a tempo switch. -/
def State.schRuns (s : State) : Bool := s.schMode != 0 && s.sched.stat != .off && s.runs .sch

/-- SCH is ACTIVE and works on calls. -/
def State.schWorks (s : State) : Bool := s.schRuns && s.schMode != 3 && s.sched.stat != .standby

/-- RECOMPUTE (R374). -/
def execRecompute (s : State) : Host.Outcome State Fault Refusal := .next (s.runSc s.schRuns Sc.recompute)

/-- An abandoned recompute (R376). -/
def Sc.overrun (m : Sc) : Sc :=
  let x := m.sched
  let m := { m with sched := { x with miss := true, missCount := satInc x.missCount, run := satInc x.run } }
  if m.sched.run.toNat = max 1 m.env.SCH_CTL_MISSRUN then
    Sc.note { m with sched := { m.sched with fault := true } } 0x0A01
      (leBytes 1 m.sched.run.toNat ++ leBytes 4 m.sched.missCount.toNat)
  else m

/-- RECOMPUTE_OVERRUN (R376). -/
def execRecomputeOverrun (s : State) : Host.Outcome State Fault Refusal := .next (s.runSc s.schRuns Sc.overrun)

/-! ### Commands: call items -/

/-- A call item of a kind; a STANDBY scheduler discards it (R405). -/
def State.callOf (s : State) (it : Item) (k : Nat) : State :=
  s.runSc (s.schRuns && s.schMode != 3) fun m =>
    let it := match it.words with
      | w :: ws => { it with words := setBits w 11 8 k :: ws }
      | [] => it
    if m.sched.stat == .standby then m.discard it else m.call it

/-- HALL_UP (R384). -/
def execHallUp (it : Item) (s : State) : Host.Outcome State Fault Refusal := .next (s.callOf it 1)

/-- HALL_DN (R384). -/
def execHallDn (it : Item) (s : State) : Host.Outcome State Fault Refusal := .next (s.callOf it 2)

/-- CAR (R384). -/
def execCarCall (it : Item) (s : State) : Host.Outcome State Fault Refusal := .next (s.callOf it 3)

/-- SESSION_OPEN (R399). -/
def execSessionOpen (it : Item) (s : State) : Host.Outcome State Fault Refusal := .next (s.callOf it 4)

/-- CALL_CANCEL (R385). -/
def execCallCancel (it : Item) (s : State) : Host.Outcome State Fault Refusal := .next (s.callOf it 5)

/-- SESSION_EXTEND (R400). -/
def execSessionExtend (it : Item) (s : State) : Host.Outcome State Fault Refusal := .next (s.callOf it 6)

/-- SESSION_CLOSE (R400). -/
def execSessionClose (it : Item) (s : State) : Host.Outcome State Fault Refusal := .next (s.callOf it 7)

/-! ### Commands: assignments, status, handshakes -/

/-- An assignment item with an OP at a member car; a STANDBY scheduler discards it (R392, R405). -/
def State.assignOf (s : State) (it : Item) (op : Nat) : State :=
  s.runSc (s.schRuns && s.schMember) fun m =>
    let it := match it.words with
      | w :: ws => { it with words := setBits w 2 0 op :: ws }
      | [] => it
    if m.sched.stat == .standby then m.discard it else m.assignItem it

/-- ASSIGN (R392). -/
def execAssignContext (it : Item) (s : State) : Host.Outcome State Fault Refusal := .next (s.assignOf it 1)

/-- WITHDRAW (R392). -/
def execWithdrawContext (it : Item) (s : State) : Host.Outcome State Fault Refusal := .next (s.assignOf it 2)

/-- ASSIGN_LIVE (R402). -/
def execAssignLive (it : Item) (s : State) : Host.Outcome State Fault Refusal := .next (s.assignOf it 3)

/-- ASSIGN_END (R402). -/
def execAssignEnd (it : Item) (s : State) : Host.Outcome State Fault Refusal := .next (s.assignOf it 4)

/-- CAR_STATUS_ITEM (R380). -/
def execCarStatusItem (c : Fin 16) (it : Item) (s : State) : Host.Outcome State Fault Refusal :=
  .next (s.runSc (s.schRuns && s.statusPort c.val) fun m => m.statusItem c.val it)

/-- A door handshake item with its CMD. -/
def State.handshakeOf (s : State) (it : Item) (cmd : Nat) : State :=
  s.runSc (s.schWorks && s.schDrives) fun m =>
    m.handshake (match it.words with
      | w :: ws => { it with words := setBits w 3 0 cmd :: ws }
      | [] => it)

/-- DEPART (R398). -/
def execDepart (it : Item) (s : State) : Host.Outcome State Fault Refusal := .next (s.handshakeOf it 1)

/-- DOORREM (R398). -/
def execDoorrem (it : Item) (s : State) : Host.Outcome State Fault Refusal := .next (s.handshakeOf it 2)

/-! ### Commands: sessions -/

/-- A grant for every LIVE session this scheduler holds (R401). -/
def Sc.grantAll (m : Sc) : Sc :=
  m.sched.open_.foldl (fun m e =>
    if e.2.kind == .session && e.2.stat == .live && !e.2.ended && e.2.group.isNone then m.grant e.1 e.2 true else m) m

/-- GRANT_PERIOD (R401). -/
def execGrantPeriod (s : State) : Host.Outcome State Fault Refusal := .next (s.runSc s.schWorks Sc.grantAll)

/-- A session's expiry passes (R400). -/
def Sc.expire (m : Sc) (i : Nat) : Sc :=
  match m.ctx i with
  | some x => if x.kind == .session && x.stat == .live && !x.ended && x.group.isNone then m.endSession i x 0x11 else m
  | none => m

/-- SESSION_EXPIRY (R400). -/
def execSessionExpiry (x : Fin 1024) (s : State) : Host.Outcome State Fault Refusal :=
  .next (s.runSc s.schWorks fun m => m.expire x.val)

/-- A session is still not LIVE PENDMAX ms after opening (R400). -/
def Sc.pendmax (m : Sc) (i : Nat) : Sc :=
  match m.ctx i with
  | some x => if x.kind == .session && x.stat != .live && x.group.isNone then m.endSession i x 0x12 else m
  | none => m

/-- PENDMAX_EXPIRE (R400). -/
def execPendmaxExpire (x : Fin 1024) (s : State) : Host.Outcome State Fault Refusal :=
  .next (s.runSc s.schWorks fun m => m.pendmax x.val)

/-- SESSION_GRANT (R402). -/
def execSessionGrant (it : Item) (s : State) : Host.Outcome State Fault Refusal :=
  .next (s.runSc (s.schRuns && s.schMode == 3) fun m => m.grantItem it m.env.dev)

/-- SESSION_ITEM_TICK: the session item of every door engine that requires one (R402). -/
def execSessionItemTick (s : State) : Host.Outcome State Fault Refusal :=
  .next (s.runSc (s.schRuns && s.schMode == 3) fun m => m.env.sessionDoors.foldl (fun m d => m.sessionItem d.1 d.2) m)

/-! ### Takeover (R403, R404) -/

/-- A context as its four words of an epoch describe it (R409, R593). -/
def loadCtx (now : Nat) (a b t : Word) : Option Ctx :=
  let stat : Option CtxState := match getBits a 31 28 with
    | 1 => some .registered
    | 2 => some .assigned
    | 3 => some .committed
    | 4 => some .serving
    | 5 => some .live
    | _ => none
  let kind : Option CtxKind := match getBits a 27 24 with
    | 1 => some .hallUp
    | 2 => some .hallDn
    | 3 => some .car
    | 4 => some .session
    | _ => none
  match stat, kind with
  | some st, some k =>
    some { newCtx (extendNear 32 now t.toNat) k (getBits a 23 16) (if getBits a 12 8 = 0x1F then none else some (getBits a 12 8))
             [BitVec.ofNat 32 (getBits a 7 0), BitVec.ofNat 32 (getBits b 31 16), 0, BitVec.ofNat 32 (getBits b 15 8)] with
           stat := if st == .serving then .assigned else st, moves := BitVec.ofNat 8 (getBits b 7 0) }
  | _, _ => none

/-- The contexts of a CONTEXTS section, six words each: index and context. -/
def loadCtxs (now : Nat) : Nat → List Word → List (Nat × Ctx)
  | 0, _ => []
  | n + 1, ws =>
    match loadCtx now (ws.getD 0 0) (ws.getD 1 0) (ws.getD 2 0) with
    | some x => (getBits (ws.getD 3 0) 9 0, x) :: loadCtxs now n (ws.drop 6)
    | none => loadCtxs now n (ws.drop 6)

/-- Insert by registration time. -/
def insertByTime (x : Nat × Ctx) : List (Nat × Ctx) → List (Nat × Ctx)
  | [] => [x]
  | y :: ys => if x.2.time < y.2.time then x :: y :: ys else y :: insertByTime x ys

/-- Post a resend request (R404). -/
def Sc.resend (m : Sc) : Sc :=
  let n := m.sched.resends + 1
  let m := { m with sched := { m.sched with resends := n } }
  m.post 0x0A38 [n.setWidth 32, lowWord m.env.dev]

/-- The floor RESYNC sends the driven car to: the first it can still stop at in its direction, the nearest at rest
(R403). -/
def Sc.resyncFloor (m : Sc) : Option Nat :=
  let s := m.env
  let own := s.SCH_CTL_OWNCAR
  let v := m.ownVel
  let pos := m.ownPos
  let l := s.carLimits own
  if v = 0 then
    ((List.range 256).filter (s.served own)).foldl (fun b f => match b with
      | none => some f
      | some g => if absInt (s.floorLevel f - pos) < absInt (s.floorLevel g - pos) then some f else b) none
  else m.nextFloor (pos + sgn v * (changeDist (absInt v) 0 l.d l.j - 1)) (decide (0 < v))

/-- The unit becomes ACTIVE by takeover with the SCHCAR and CONTEXTS words of the loaded epoch, none when it was
rejected (R403, R600). -/
def Sc.takeover (m : Sc) (content : Option (List Word × List Word)) : Sc :=
  let now := m.env.dev
  let cs := match content with
    | some (_, ws) => (loadCtxs now (ws.length / 6) ws).foldl (fun l x => insertByTime x l) []
    | none => []
  let x := m.sched
  let ctxs := cs.zipIdx.foldl (fun t e => t.set none e.1.1 (some { e.1.2 with order := e.2 })) ([] : Tbl (Option Ctx))
  let x := { x with stat := .resync, ctxs := ctxs, nextOrder := cs.length, resyncStop := none,
                    resyncLeft := !m.env.schDrives }
  let x := match content with
    | some (car, _) =>
      { x with service := (car.getD 1 0).getLsbD 0, drive := { x.drive with counter := (car.getD 19 0).setWidth 31 } }
    | none => x
  let m := { m with sched := x }
  let m := m.sched.open_.foldl (fun m e =>
    if e.2.kind != .session then m
    else (if e.2.stat == .live then m else m.grant e.1 e.2 false).endSession e.1 e.2 0x14) m
  let m := m.resend
  let m := m.note 0x0A20 (leBytes 2 cs.length ++ leBytes 2 m.sched.resends.toNat)
  if !m.env.schDrives then m
  else match m.resyncFloor with
    | some f =>
      let r := (m.departed m.env.SCH_CTL_OWNCAR).postMove f false
      let m := r.2.updDrive fun d =>
        { d with stat := .moving, tgt := some f, blend := none, moveId := some r.1,
                 dirUp := some (decide (m.ownPos ≤ m.env.floorLevel f)) }
      { m with sched := { m.sched with resyncStop := some f } }
    | none => { m with sched := { m.sched with resyncLeft := true } }

/-- RESYNC ends once its stop has been departed and RESENDWAIT has passed (R403). -/
def Sc.endResync (m : Sc) : Sc :=
  if m.sched.stat == .resync && m.sched.resyncLeft then
    Sc.note { m with sched := { m.sched with stat := .running, resyncStop := none } } 0x0A21
      (leBytes 2 m.sched.open_.length)
  else m

/-- RESYNC_END (R403). -/
def execResyncEnd (s : State) : Host.Outcome State Fault Refusal := .next (s.runSc s.schRuns Sc.endResync)

/-! ### Registers and island start -/

/-- SCH_CTXA and SCH_CTXB of a context (R409). -/
def Ctx.wordA (x : Ctx) : Word :=
  BitVec.ofNat 32 (x.tag.toNat + x.car.getD 0x1F * 2 ^ 8 + x.floor * 2 ^ 16 + ctxKindCode x.kind * 2 ^ 24 +
    ctxStateCode x.stat * 2 ^ 28)
def Ctx.wordB (x : Ctx) : Word := BitVec.ofNat 32 (x.moves.toNat + x.station * 2 ^ 8 + x.source.toNat * 2 ^ 16)

/-- SCH_CTL (R407): SERVICE beside the stored fields. -/
def State.schCtlWord (s : State) : Word := s.sc.ctlWord

/-- The SCHCAR and CONTEXTS sections of an epoch, as of the last completed recompute (R405, R593). -/
def State.schEpoch (s : State) : List Word × List Word :=
  let x := { s.sched with ctxs := s.sched.snapCtxs }
  (s.sched.snapCar.getD (s.sc.carWords s.sc.ownStatus),
    x.open_.flatMap fun e => [e.2.wordA, e.2.wordB, lowWord e.2.time, BitVec.ofNat 32 e.1, 0, 0])

/-- The unit loses its lease: SCH posts nothing from now on (R585). -/
def Sc.standDown (m : Sc) : Sc :=
  if m.sched.stat == .off then m else { m with sched := { m.sched with stat := .standby } }

/-- The unit becomes ACTIVE without a takeover: SCH works again (R404, R585). -/
def Sc.standUp (m : Sc) : Sc :=
  if m.sched.stat == .standby then ({ m with sched := { m.sched with stat := .running } } : Sc).resend else m

/-- A write of SCH_CTL (R407): CLRCNT and SERVICE. -/
def State.writeSchCtl (s : State) (w : Word) : State :=
  s.runSc true fun m =>
    let x := { m.sched with service := w.getLsbD 0 }
    { m with sched := if w.getLsbD 1 then { x with missCount := 0, ignored := 0 } else x }

/-- A write of SCH_STAT (R407): MISS and SCHFLT are W1C; SCHFLT stays while RUN ≥ MISSRUN. -/
def State.writeSchStat (s : State) (w : Word) : State :=
  s.runSc true fun m =>
    let x := m.sched
    { m with sched := { x with
      miss := x.miss && !w.getLsbD 16,
      fault := x.fault && !(w.getLsbD 20 && decide (x.run.toNat < max 1 m.env.SCH_CTL_MISSRUN)) } }

/-- SCH at island start: no contexts, and one resend request unless the unit is in STANDBY (R404, R405, R406). -/
def Sc.start (m : Sc) (standby : Bool) : Sc :=
  let m := { m with sched := { Sched.reset with stat := if standby then .standby else .running } }
  if m.env.schMode = 3 || standby then m else m.resend

end Sys2Proof.Machine
end

