-- ==== Sys2Proof/Machine/SafetyIo.lean ====
section
/-! DEFINITION. What SFI holds around the lattice: fault sources with their FAULT lines, HOLD and lockout, the output
stage, safety inputs, chain taps and virtual inputs (chapters 13 and 14). -/

namespace Sys2Proof.Machine

/-! ### The part of the device SFI changes -/

/-- What a step of SFI can change, beside the device before the step. -/
structure Sf where
  env     : State
  lattice : Lattice
  react   : FaultReact
  gate    : Gate
  field   : Field
  lanes   : List LaneItem
  qf      : Qf

def State.sf (s : State) : Sf :=
  { env := s, lattice := s.lattice, react := s.react, gate := s.gate, field := s.field, lanes := s.lanes, qf := s.qf }

/-- The device with the result. -/
def State.withSf (s : State) (m : Sf) : State :=
  { s with lattice := m.lattice, react := m.react, gate := m.gate, field := m.field, lanes := m.lanes,
           fabric := m.qf.fabric, recorder := m.qf.recorder, ports := m.qf.ports, fresh := m.qf.fresh }

/-- Run a step of SFI where its condition holds. -/
def State.runSf (s : State) (ok : Bool) (f : Sf → Sf) : State := if ok then s.withSf (f s.sf) else s

def Sf.note (m : Sf) (code : Nat) (data : List Byte := []) : Sf := { m with qf := m.qf.note code data }
def Sf.post (m : Sf) (port : Nat) (ws : List Word) : Sf := { m with qf := m.qf.post port ws }
def Sf.updL (m : Sf) (f : Lattice → Lattice) : Sf := { m with lattice := f m.lattice }
def Sf.updR (m : Sf) (f : FaultReact → FaultReact) : Sf := { m with react := f m.react }
def Sf.out (m : Sf) (k : Nat) : SafetyOut := m.lattice.outs.get SafetyOut.reset k
def Sf.updOut (m : Sf) (k : Nat) (f : SafetyOut → SafetyOut) : Sf :=
  m.updL fun l => { l with outs := l.outs.modify SafetyOut.reset k f }
def Sf.input (m : Sf) (n : Nat) : SafetyIn := m.lattice.inputs.get SafetyIn.reset n
def Sf.updInput (m : Sf) (n : Nat) (f : SafetyIn → SafetyIn) : Sf :=
  m.updL fun l => { l with inputs := l.inputs.modify SafetyIn.reset n f }
def Sf.passBytes (m : Sf) : List Byte := leBytes 4 m.lattice.pass.toNat

/-- SFI's island has started (R123, R458). -/
def State.sfiUp (s : State) : Bool := !s.start.rsti.contains .sfi

/-! ### Fault sources (R486, R492) -/

/-- The fault source through which block `b` raises HOLD (R486). -/
def blockSource (b : Nat) : FaultSrc :=
  match b with
  | 0 => .source 3
  | 1 => .source 4
  | 2 => .source 4
  | 3 => .source 1
  | 4 => .source 5
  | 5 => .source 10
  | 6 => .source 11
  | 7 => .source 11
  | 8 => .source 11
  | 9 => .source 11
  | 10 => .source 12
  | 11 => .source 2
  | 12 => .source 6
  | 13 => .source 7
  | 14 => .source 8
  | 15 => .source 9
  | 16 => .output 0
  | 17 => .output 1
  | 18 => .output 2
  | 19 => .output 3
  | 20 => .output 4
  | 21 => .output 5
  | 22 => .source 13
  | _ => .source 0

/-- The island of block `b`, which writes its BLOCK_TEST (R486, R512). -/
def blockIsland (b : Nat) : Nat :=
  match blockSource b with
  | .source i => if i.val = 13 then 4 else i.val
  | _ => 4

/-- Block `b` runs its targeted self-test. -/
def FaultReact.underTest (r : FaultReact) (b : Nat) : Bool := r.testing.any fun e => e.1 == b

/-- Every fault source, sources 0 to 13 and then the outputs. -/
def allSources : List FaultSrc :=
  [.source 0, .source 1, .source 2, .source 3, .source 4, .source 5, .source 6, .source 7, .source 8, .source 9,
   .source 10, .source 11, .source 12, .source 13, .output 0, .output 1, .output 2, .output 3, .output 4, .output 5]

/-- The FAULT line of island `i` as the islands themselves drive it: a cause latch, a quarantined block, or the error of a
block that has no latch of its own (R207, R314, R319, R376, R435, R488, R498, R570). -/
def State.islandFault (s : State) (i : Nat) : Bool :=
  let q (b : Nat) := s.quarantined b
  let t (b : Nat) := s.react.underTest b
  let loop (e : Nat) := (s.loops.get Loop.reset e).fault
  match i with
  | 0 => q 23 || t 23
  | 1 => q 3 || t 3
  | 2 => q 11 || t 11
  | 3 => q 0 || s.fabric.built.any fun e => e.2.broken
  | 5 => q 4 || t 4 || s.fusion.degExp || loop 4 || loop 5 || loop 6 || loop 7
  | 10 => q 5 || s.sched.fault
  | 11 => q 6 || q 7 || q 8 || q 9 || s.seqr.faulted
  | 12 => q 10 || t 10 || s.porlux.intFlt
  | 6 => q 12 || loop 0 || (s.motors.get Motor.reset 0).bridge == .fault
  | 7 => q 13 || loop 1 || (s.motors.get Motor.reset 1).bridge == .fault
  | 8 => q 14 || loop 2 || (s.motors.get Motor.reset 2).bridge == .fault
  | 9 => q 15 || loop 3 || (s.motors.get Motor.reset 3).bridge == .fault
  | _ => false

/-- The FAULT line of island `i` as SFI sees it, with the tests that stand in this step. -/
def Sf.islandFault (m : Sf) (i : Nat) : Bool := State.islandFault { m.env with react := m.react } i

/-- The independent limiter of some LE port acts (R445, R486). -/
def Field.limiting (f : Field) : Bool := f.ports.any fun e => e.2.acting

/-- A fault source asserts (R486, R497). -/
def Sf.asserts (m : Sf) (x : FaultSrc) : Bool :=
  match x with
  | .source i =>
    if i.val = 4 then m.lattice.stat == .fault || m.lattice.faultLat || m.lattice.faultOsc || m.lattice.oscDev
    else if i.val = 13 then m.field.limiting
    else m.islandFault i.val
  | .output k => (m.out k.val).sof
  | .inherited => false

/-- A fault source still asserts, or a block behind it is quarantined or under test (R497). -/
def Sf.busy (m : Sf) (x : FaultSrc) : Bool :=
  m.asserts x ||
    (List.range 24).any fun b => blockSource b == x && (m.env.quarantined b || m.react.underTest b)

/-- The outputs a source holds when it rises (R492, R507). -/
def Sf.mask (m : Sf) (x : FaultSrc) : BitVec 6 :=
  match x with
  | .source i => if i.val = 4 then 0x3F else BitVec.ofNat 6 (m.env.SFI_FRMASK_HOLDMASK i.val)
  | .output k => 1#6 <<< k.val
  | .inherited => 0

/-! ### HOLD and lockout (R492, R493) -/

/-- HOLD of outputs 0 to 5 (R508). -/
def FaultReact.holdMask (r : FaultReact) : BitVec 6 := r.holds.foldl (fun a e => a ||| e.2) 0

/-- A source raises HOLD on some outputs; the source keeps what it already holds. -/
def FaultReact.addHold (r : FaultReact) (x : FaultSrc) (mask : BitVec 6) : FaultReact :=
  if mask = 0 then r
  else if r.holds.any (·.1 == x) then
    { r with holds := r.holds.map fun e => if e.1 == x then (e.1, e.2 ||| mask) else e }
  else { r with holds := r.holds ++ [(x, mask)] }

/-- SFI stores the held outputs and their sources when they change (R25, R493). -/
def Sf.storeHolds (m : Sf) (old : List (FaultSrc × BitVec 6)) : Sf :=
  if m.react.holds = old then m
  else { m with lanes := m.lanes ++ [.held m.react.holdMask m.react.holds] }

/-- The code of a source in LOCKOUT_SET (R512). -/
def sourceCode : FaultSrc → Nat
  | .source i => i.val
  | .output k => 0x10 + k.val
  | .inherited => 0x0E

/-- LOCKOUT takes a value; each change sets LOCKOUT of QF_GIRQSTAT (R508, R656). -/
def Sf.setLockout (m : Sf) (b : Bool) : Sf :=
  if m.react.lockout == b then m
  else { m.updR fun r => { r with lockout := b } with qf := { m.qf with ports := { m.qf.ports with irqLockout := true } } }

/-- A source has risen: HOLD on its outputs, LOCKOUT and the record, at a pass boundary (R492, R512). -/
def Sf.holdFrom (m : Sf) (x : FaultSrc) (mask : BitVec 6) : Sf :=
  let old := m.react.holds
  let m := ((m.updR fun r => r.addHold x mask).setLockout true).storeHolds old
  m.note 0x0410 (leBytes 1 (sourceCode x) ++ leBytes 1 m.react.holdMask.toNat ++ m.passBytes)

/-- The first pass after a start restores the stored set (R493). -/
def Sf.restore (m : Sf) : Sf :=
  if m.react.restored then m
  else
    let h := m.env.persist.heldBy
    if h.isEmpty then m.updR fun r => { r with restored := true }
    else (m.updR fun r => { r with restored := true, holds := h, persist := true }).setLockout true

/-- The sources that have risen since the last boundary raise HOLD (R492), and a set loaded at a takeover is inherited
(R601). -/
def Sf.raise (m : Sf) : Sf :=
  let now := allSources.filter m.asserts
  let up := allSources.filter fun x => m.react.waiting.contains x || (now.contains x && !m.react.rising.contains x)
  let m := up.foldl (fun m x => m.holdFrom x (m.mask x)) m
  let m := m.updR fun r => { r with waiting := [], rising := now }
  match m.react.inherit with
  | some mask => (m.holdFrom .inherited mask).updR fun r => { r with inherit := none }
  | none => m

/-- Clear the bits of `free` in every hold. -/
def FaultReact.release (r : FaultReact) (free : BitVec 6) : FaultReact :=
  { r with holds := (r.holds.map fun e => (e.1, e.2 &&& ~~~free)).filter fun e => e.2 != 0 }

/-- The outputs whose HOLD no busy source keeps (R497). -/
def Sf.freeOutputs (m : Sf) : BitVec 6 :=
  (List.range 6).foldl
    (fun a k => if m.react.holds.any fun e => e.2.getLsbD k && m.busy e.1 then a else a ||| (1#6 <<< k)) 0

/-- Step 1 of R497: SOFk is cleared where the output's test has passed since its latest error. -/
def Sf.clearFaults (m : Sf) : Sf :=
  (List.range 6).foldl (fun m k =>
    if (m.out k).sof && m.react.passed.contains (16 + k) && !m.react.underTest (16 + k) then
      { m.updOut k (fun o => { o with sof := false, fcause := 0 }) with
        field := { m.field with overcurrent := m.field.overcurrent &&& ~~~(1#6 <<< k) } }
    else m) m

/-- The STATE in which demands apply: DEFERRED while a reload waits, else RUNNING (R457). -/
def Lattice.service (l : Lattice) : LatState := if l.reloadReq then .deferred else .running

/-- Step 2 of R497: the lattice returns from FAULT when the tests of the blocks that put it there have passed. -/
def Sf.clearLattice (m : Sf) : Sf :=
  let l := m.lattice
  if l.stat == .fault && (!l.faultLat || m.react.passed.contains 1) && (!l.faultOsc || m.react.passed.contains 2) then
    m.updL fun l =>
      { l with stat := if m.env.start.ready then l.service else .started, cause := 0, faultLat := false,
               faultOsc := false }
  else m

/-- The pass of an accepted press (R497, R512). -/
def Sf.acceptAck (m : Sf) : Sf :=
  match m.react.ackOwed with
  | none => m
  | some ms =>
    let before := m.react.holdMask
    let old := m.react.holds
    let m := m.clearFaults.clearLattice
    let free := m.freeOutputs
    let m := (m.updR fun r => r.release free).storeHolds old
    let left := m.react.holdMask
    let m := m.updR fun r =>
      { r with ackOwed := none, result := if left = 0 then 1 else 2, persist := if left = 0 then false else r.persist }
    let m := if left = 0 then m.setLockout false else m
    m.note 0x0411 (leBytes 1 before.toNat ++ leBytes 1 left.toNat ++ leBytes 2 ms)

/-! ### The output stage (R470 to R473) -/

/-- The lease gate is active in this image (R28, R151). -/
def State.leaseImage (s : State) : Bool := (s.tile 0x0B 0).isSome

/-- The lease gate passes: fixed open without redundancy, else while STATE is ACTIVE (R28, R584). -/
def Sf.gatePasses (m : Sf) : Bool := !m.env.leaseImage || m.gate.stat == .active

/-- EN of SFI_SOCFGk as it stood at island start (R477, R483). -/
def Lattice.outEn (l : Lattice) (k : Nat) : Bool := (l.socfg.get 0x4F0 k).getLsbD 12

/-- The field die is on: VFLD in range and no temperature shutdown (R79, R678). -/
def State.fieldUp (s : State) : Bool := s.supplies.vfldOk && !s.field.shutdown

def Sf.fieldUp (m : Sf) : Bool := m.env.supplies.vfldOk && !m.field.shutdown

/-- The image uses the four pads of output `k`: a pad without a PINMUX record stays at high impedance (R46, R49, R147). -/
def State.outPads (s : State) (k : Nat) : Bool := (List.range 4).all fun j => s.padUsed (327 + 4 * k + j)

/-- The condition of R470 that output `k` fails first, as the OFF cause of R484; 0 when all hold. A quarantined LATTICE or
OSC block keeps every output open (R489), a quarantined output block its own output (R488), and an output whose pads the image does
not use is open like one with EN 0 (R49; log entry 70). -/
def Sf.offCause (m : Sf) (k : Nat) : Nat :=
  let l := m.lattice
  if !(l.outEn k && m.env.outPads k) then 1
  else if !(l.stat == .running || l.stat == .deferred) then (if l.stat == .reloading then 7 else 6)
  else if m.env.quarantined 1 || m.env.quarantined 2 then 6
  else if !(m.out k).demand then 1
  else if !m.gatePasses then 2
  else if !m.fieldUp then 3
  else if (m.out k).sof || m.env.quarantined (16 + k) then 4
  else if m.react.holdMask.getLsbD k then 5
  else 0

/-- LS reads back closed, so HS is commanded closed and follows (R471). -/
def SafetyOut.closeHs (o : SafetyOut) : SafetyOut :=
  if o.on && o.lsCmd then { o with lsRb := true, hsCmd := true, hsRb := true } else o

/-- The outputs whose LS was commanded closed a whole pass ago without a fault have both switches closed (R471; log entry 47). -/
def Sf.closeHs (m : Sf) : Sf := (List.range 6).foldl (fun m k => m.updOut k fun o => if o.lsDue then o.closeHs else o) m

/-- A pass ends: an LS switch commanded closed up to now reads back by the next one, which is more than 100 µs away (R471). -/
def Sf.lsWait (m : Sf) : Sf := (List.range 6).foldl (fun m k => m.updOut k fun o => { o with lsDue := o.lsCmd }) m

/-- Command output `k` as R470 gives, with its record (R471, R473): an output commanded ON closes LS first; one commanded OFF
opens both switches at once. -/
def Sf.settleOut (m : Sf) (k : Nat) : Sf :=
  let c := m.offCause k
  let on := c == 0
  if on == (m.out k).on then m
  else
    let m := m.updOut k fun o =>
      { o with on := on, hsCmd := false, lsCmd := on, hsRb := false, lsRb := false, lsDue := false }
    m.note 0x0408 (leBytes 1 k ++ leBytes 1 (bit on) ++ leBytes 1 c ++ m.passBytes)

/-- Command every output as R470 gives. -/
def Sf.settle (m : Sf) : Sf := (List.range 6).foldl Sf.settleOut m

/-- A cause is latched on output `k`: SOFk, FCAUSE of the first cause, the record, both switches open (R472). -/
def Sf.latchCause (m : Sf) (k : Nat) (cause : BitVec 4) : Sf :=
  let m := m.updOut k fun o => if o.sof then o else { o with sof := true, fcause := cause }
  let m := m.updR fun r => { r with passed := r.passed.filter (· != 16 + k) }
  (m.note 0x0409 (leBytes 1 k ++ leBytes 1 cause.toNat ++ m.passBytes)).settleOut k

/-- Every switch of every output reads open (R590). -/
def Sf.allOpen (m : Sf) : Bool := (List.range 6).all fun k => !(m.out k).hsRb && !(m.out k).lsRb

/-- The lattice enters FAULT with a cause; every output opens (R19, R455). A reload under way ends first, in FAULT (R457). -/
def Sf.latticeFault (m : Sf) (cause : BitVec 3) : Sf :=
  let b := if cause = 4 then 2 else 1
  let m := m.updL fun l =>
    { l with stat := if l.stat == .reloading then .reloading else .fault
             reloadFrom := if l.stat == .reloading then .fault else l.reloadFrom
             cause := cause, faultLat := l.faultLat || cause != 4, faultOsc := l.faultOsc || cause == 4 }
  (m.updR fun r => { r with passed := r.passed.filter (· != b) }).settle

/-! ### Safety inputs (R459 to R464) -/

/-- MODE of input `n` as it stood at island start (R477). -/
def Lattice.siMode (l : Lattice) (n : Nat) : Nat := getBits (l.sicfg.get 0x06430000 n) 1 0
def Lattice.siSrcA (l : Lattice) (n : Nat) : Nat := getBits (l.sicfg.get 0x06430000 n) 9 5
def Lattice.siSrcB (l : Lattice) (n : Nat) : Nat := getBits (l.sicfg.get 0x06430000 n) 14 10

/-- The levels show the ON pattern (R460). -/
def SafetyIn.onPattern (x : SafetyIn) (mode : Nat) : Bool :=
  match mode with
  | 1 => x.a && x.b
  | 2 => x.a && !x.b
  | 3 => x.a
  | _ => false

/-- The levels show the OFF pattern (R460). -/
def SafetyIn.offPattern (x : SafetyIn) (mode : Nat) : Bool :=
  match mode with
  | 1 => !x.a && !x.b
  | 2 => !x.a && x.b
  | 3 => !x.a
  | _ => false

/-- A dual input shows neither pattern (R461). -/
def SafetyIn.mixed (x : SafetyIn) (mode : Nat) : Bool :=
  (mode == 1 || mode == 2) && !x.onPattern mode && !x.offPattern mode

/-- SIn (R460 to R462). -/
def SafetyIn.value (x : SafetyIn) (mode : Nat) : Bool :=
  x.onPattern mode && !x.disc && !x.shortA && !x.shortB && !x.offOwed

def Sf.si (m : Sf) (n : Nat) : Bool := (m.input n).value (m.lattice.siMode n)

/-- SIFn (R445, R460). -/
def Sf.sif (m : Sf) (n : Nat) : Bool :=
  m.lattice.siMode n != 0 && ((m.input n).disc || (m.input n).shortA || (m.input n).shortB)

/-- Forward the changes of the terminal-switch inputs to the fusion engine (R468, chapter 07). -/
def Sf.forwardSwitches (m : Sf) : Sf :=
  let used := ([0, 1, 2, 3].filterMap m.env.switchInput).eraseDups
  used.foldl (fun m n =>
    let v := m.si n
    if v == m.lattice.termLast.getLsbD n then m
    else
      let bitn := 1#24 <<< n
      let m := m.updL fun l => { l with termLast := if v then l.termLast ||| bitn else l.termLast &&& ~~~bitn }
      m.post 0x0404 [BitVec.ofNat 32 (n + bit v * 2 ^ 8), lowWord m.env.dev]) m

/-- A contact of input `n` takes a new filtered level (R459, R461, R462). -/
def Sf.contact (m : Sf) (n : Nat) (b closed : Bool) : Sf :=
  let mode := m.lattice.siMode n
  let x := m.input n
  if (if b then x.b else x.a) == closed then m
  else
    let y := if b then { x with b := closed } else { x with a := closed }
    let y := { y with
      pending := if y.mixed mode then (if x.mixed mode then x.pending else some m.env.dev) else none,
      firstB := if y.mixed mode && !x.mixed mode then b else x.firstB,
      disc := x.disc && !y.offPattern mode,
      offOwed := x.offOwed && !y.offPattern mode }
    (m.updInput n fun _ => y).forwardSwitches

/-- ACK_IN in use and the port that feeds it, as they stood at island start (R464, R480). -/
def Lattice.ackEn (l : Lattice) : Bool := l.ackcfg.getLsbD 5
def Lattice.ackSrc (l : Lattice) : Nat := getBits l.ackcfg 4 0

/-- ACK_IN takes a closed level, or its first settled level after island start (R495). -/
def Sf.ackLevelIn (m : Sf) (closed : Bool) : Sf :=
  if !m.lattice.ackEn then m
  else if !m.react.ackSeen then
    let m := m.updL fun l => { l with ackLevel := closed }
    if closed then (m.updR fun r => { r with ackSeen := true, stuck := true }).note 0x0412 [2]
    else m.updR fun r => { r with ackSeen := true, armed := true }
  else if closed then m.updL fun l => { l with ackLevel := true }
  else m

/-- The pulse of a port ends: a contact closed before it and in its last sample is shorted, one open in its last sample
is cleared (R462). -/
def Sf.pulseContact (m : Sf) (p n : Nat) (b before last : Bool) : Sf :=
  let mode := m.lattice.siMode n
  let x := m.input n
  let short := if b then x.shortB else x.shortA
  let fed := if b then (mode == 1 || mode == 2) && m.lattice.siSrcB n == p else mode != 0 && m.lattice.siSrcA n == p
  if !fed then m
  else if before && last then
    if short then m
    else
      (m.updInput n fun x =>
        { x with shortA := x.shortA || !b, shortB := x.shortB || b, faults := satInc x.faults }).note 0x0406
        (leBytes 1 n ++ leBytes 1 (bit b) ++ leBytes 1 p)
  else if short && !last then
    m.updInput n fun x =>
      { x with shortA := x.shortA && b, shortB := x.shortB && !b, offOwed := !x.offPattern mode }
  else m

/-- ACK_IN at the end of its port's pulse (R464). -/
def Sf.pulseAck (m : Sf) (p : Nat) (before last : Bool) : Sf :=
  if !(m.lattice.ackEn && m.lattice.ackSrc == p) then m
  else if before && last then
    if m.lattice.ackShort then m
    else (m.updL fun l => { l with ackShort := true }).note 0x0406 (leBytes 1 0xFF ++ leBytes 1 0 ++ leBytes 1 p)
  else if !last then m.updL fun l => { l with ackShort := false }
  else m

/-- A port's test pulse ends (R462). -/
def Sf.pulse (m : Sf) (p : Nat) (before last : BitVec 49) : Sf :=
  let m := (List.range 24).foldl
    (fun m n => (m.pulseContact p n false (before.getLsbD (2 * n)) (last.getLsbD (2 * n))).pulseContact p n true
      (before.getLsbD (2 * n + 1)) (last.getLsbD (2 * n + 1))) m
  (m.pulseAck p (before.getLsbD 48) (last.getLsbD 48)).forwardSwitches

/-! ### Chain taps (R465) -/

def State.tapThi (s : State) (c : Nat) : Int := s.SFI_CTCFG_THI c
def State.tapTlo (s : State) (c : Nat) : Int := s.SFI_CTCFG_TLO c

/-- CTc: a tap whose THI is not above TLO reads 0 (R465). -/
def Sf.ct (m : Sf) (c : Nat) : Bool :=
  (m.lattice.taps.get Tap.reset c).level && decide (m.env.tapTlo c < m.env.tapThi c)

/-- A tap's filtered level follows its measured value, between the thresholds of R465; the record is written at most 16
times in any second (R484). -/
def Sf.tapChange (m : Sf) (c : Nat) (level : Bool) (mv : Word) : Sf :=
  let s := m.env
  let x := m.lattice.taps.get Tap.reset c
  let fits := if level then 10 * s.tapTlo c < sInt mv else sInt mv < 10 * s.tapThi c
  let x := { x with mv := mv }
  let set (x : Tap) (m : Sf) : Sf := m.updL fun l => { l with taps := l.taps.set Tap.reset c x }
  if x.level == level || !fits then set x m
  else
    let recent := x.noted.filter fun t => decide (s.dev < t + 1000000)
    let x := { x with level := level }
    if 16 ≤ recent.length then set { x with noted := recent } m
    else
      (set { x with noted := s.dev :: recent } m).note 0x0407
        (leBytes 1 c ++ leBytes 1 (bit level) ++ wordBytes mv ++ m.passBytes)

/-! ### Virtual inputs (R238, R466) -/

/-- A virtual-input item is good: no POISON, and its halves complement each other. -/
def VItem.good (v : VItem) : Bool := !v.poison && (v.word.setWidth 16 : BitVec 16) == ~~~((v.word >>> 16).setWidth 16)

/-- An item is in force at device time `dev` within its window. -/
def VItem.inForce (v : VItem) (dev window : Nat) : Bool := v.good && decide (dev ≤ v.at_ + window)

/-- Windows of position and network inputs (R238, R466). -/
def State.viWindow (s : State) (nvi : Bool) : Nat := if nvi then 2000 else 2 * s.cycleUs

/-- The inputs of a source are taken as 0 from now on: VI_STALE once for each such period (R466). -/
def Sf.viStale (m : Sf) (nvi : Bool) : Sf :=
  if (if nvi then m.lattice.nviStale else m.lattice.pviStale) then m
  else (m.updL fun l => if nvi then { l with nviStale := true } else { l with pviStale := true }).note 0x040B [if nvi then 1 else 0]

/-- A virtual-input item has been staged at a device time. -/
def Sf.viItem (m : Sf) (nvi : Bool) (it : Item) (at_ : Nat) : Sf :=
  let v : VItem := { word := it.words.headD 0, poison := it.poison, at_ := at_ }
  let m := m.updL fun l => if nvi then { l with nviItem := some v } else { l with pviItem := some v }
  if v.good then m.updL fun l => if nvi then { l with nviStale := false } else { l with pviStale := false }
  else m.viStale nvi

/-- The virtual inputs in force (R466). -/
def Sf.vi (m : Sf) (nvi : Bool) : BitVec 16 :=
  let l := m.lattice
  if (if nvi then l.nviStale else l.pviStale) then 0
  else match (if nvi then l.nviItem else l.pviItem) with
    | some v => if v.inForce m.env.dev (m.env.viWindow nvi) then v.word.setWidth 16 else 0
    | none => 0

/-- At a pass, a source whose window has run out is stale (R466). -/
def Sf.viCheck (m : Sf) (nvi : Bool) : Sf :=
  match (if nvi then m.lattice.nviItem else m.lattice.pviItem) with
  | some v => if v.inForce m.env.dev (m.env.viWindow nvi) then m else m.viStale nvi
  | none => if decide (m.lattice.startAt + m.env.viWindow nvi < m.env.dev) then m.viStale nvi else m

/-- Take the items waiting at a virtual-input port. -/
def Sf.viDrain (m : Sf) (nvi : Bool) : Sf :=
  let r := m.qf.takeAllStaged (if nvi then 0x0401 else 0x0400) 64
  r.1.foldl (fun m e => m.viItem nvi e.1 e.2) { m with qf := r.2 }

end Sys2Proof.Machine
end

