-- ==== Sys2Proof/Machine/Gate.lean ====
section
/-! DEFINITION. The lease gate of SFI (chapter 17): lease items, expiry, and what the rest of the unit does as its STATE
changes; the epoch buffers of the persistent array. -/

namespace Sys2Proof.Machine

/-! ### Epoch buffers (R594, R596) -/

def EpochBuf.epoch (b : EpochBuf) : Word := BitVec.ofNat 32 (leAt b.marker 4 4)
def EpochBuf.final (b : EpochBuf) : Bool := leAt b.marker 26 1 % 2 == 1

/-- The marker's own CRC and MARK match (R594). -/
def markerOk (m : List Byte) : Bool :=
  m.length == 32 && leAt m 0 4 == 0x434F5045 && leAt m 28 4 == (crc32 (m.take 28)).toNat

/-- A marker is valid: MARK and both CRCs match (R596). -/
def EpochBuf.valid (b : EpochBuf) : Bool :=
  markerOk b.marker && leAt b.marker 8 4 == b.content.length && leAt b.marker 12 4 == (crc32 b.content).toNat

/-- Epoch buffer `i` with a valid marker. -/
def Persist.epochAt (p : Persist) (i : Nat) : Option EpochBuf := (p.epochs.get none i).filter EpochBuf.valid

/-- The buffer with the newest valid marker, by its number (R596). -/
def Persist.newestEpoch (p : Persist) : Option (Nat × EpochBuf) :=
  match p.epochAt 0, p.epochAt 1 with
  | some a, some b => if 0 < sDiff b.epoch a.epoch then some (1, b) else some (0, a)
  | some a, none => some (0, a)
  | none, some b => some (1, b)
  | none, none => none

/-- The newest committed epoch, 0 for none (R590, R596). -/
def Persist.committedEpoch (p : Persist) : Word :=
  match p.newestEpoch with
  | some (_, b) => b.epoch
  | none => 0

/-- The buffer that MGT writes next: the one that does not hold the newest valid marker (R596). -/
def Persist.spareBuffer (p : Persist) : Nat :=
  match p.newestEpoch with
  | some (0, _) => 1
  | _ => 0

/-! ### The gate (R583 to R585) -/

/-- ALLEMANDE is written as an allemande ends (R608). -/
def Sf.handEnd (m : Sf) (st : HandState) (reason : BitVec 4) : Sf :=
  let m := { m with gate := { m.gate with hstate := st, hreason := reason } }
  m.note 0x0424 (leBytes 1 (handCode st) ++ leBytes 1 reason.toNat ++ wordBytes m.gate.finalEpoch)

/-- An allemande that has not reached RELEASED ends ABORTED (R603, R604). -/
def Sf.handAbort (m : Sf) (reason : BitVec 4) : Sf :=
  if m.gate.hstate == .deferred || m.gate.hstate == .finalEpoch then m.handEnd .aborted reason else m

/-- A lost lease leaves STATE as `stat`: every output opens, LEASE_LOST, an allemande before its release ends (R583, R584,
R604, R608). -/
def Sf.loseLease (m : Sf) (loss : BitVec 2) (stat : LeaseState) : Sf :=
  let g := { m.gate with loss := loss, stat := stat, takeover := false }
  ((Sf.settle { m with gate := g }).note 0x0421 (leBytes 1 loss.toNat ++ wordBytes g.held ++ wordBytes g.high)).handAbort 7

/-- The held lease has run out (R583). -/
def Gate.expired (g : Gate) (dev : Nat) : Bool := g.stat == .active && decide (sDiff g.exp (lowWord dev) ≤ 0)

/-- A pass that finds the lease run out loses it. -/
def Sf.leaseCheck (m : Sf) : Sf := if m.gate.expired m.env.dev then m.loseLease 1 .seeking else m

/-- STATE becomes ACTIVE: TAKEOVERS and LEASE_GAINED, with what led to it (R585, R600, R608). -/
def Sf.gainLease (m : Sf) : Sf :=
  let g := m.gate
  let after := g.lastHolder == some (!g.unit)
  let final := match m.env.persist.newestEpoch with | some (_, b) => b.final | none => false
  let cause := if !after then 1 else if final then 3 else 2
  let m := { m with gate := { g with stat := .active, takeovers := satInc g.takeovers, takeover := after } }
  (m.note 0x0420 (leBytes 1 (bit g.unit) ++ wordBytes g.held ++ leBytes 1 cause)).settle

/-- The unit a HOLDER byte names. -/
def holderUnit (h : Nat) : Option Bool := if h = 0 then some false else if h = 1 then some true else none

/-- A lease item whose number is not below HIGH (R583). -/
def Sf.takeLease (m : Sf) (no : Word) (holder : Nat) (withdraw : Bool) (exp : Word) : Sf :=
  let g := { m.gate with high := no, seen := true }
  let who := holderUnit holder
  let last := if who.isSome then who else g.lastHolder
  let peer := who == some (!g.unit)
  let m := { m with gate := g }
  let m := if peer && !withdraw && g.hstate == .released then m.handEnd .done 0 else m
  let m :=
    if who == some g.unit && !withdraw then
      let m := { m with gate := { m.gate with held := no, exp := exp } }
      if g.stat == .active then m else m.gainLease
    else
      let next := if peer && !withdraw then LeaseState.standby else .seeking
      if g.stat == .active then m.loseLease (if peer then 2 else 3) next
      else { m with gate := { m.gate with stat := next } }
  { m with gate := { m.gate with lastHolder := last } }

/-- A lease item reaches the gate (R583); an image without a lease gate ignores it (R28), and so does the gate one with a
POISON word. -/
def Sf.leaseItem (m : Sf) (it : Item) : Sf :=
  let no := it.words.headD 0
  let w1 := it.words.getD 1 0
  if !m.env.leaseImage || it.poison then m
  else if m.gate.seen && decide (sDiff no m.gate.high < 0) then
    { m with gate := { m.gate with oldNum := satInc m.gate.oldNum } }
  else m.takeLease no (getBits w1 7 0) (w1.getLsbD 8) (it.words.getD 2 0)

/-- The lease items staged at 0x0403. -/
def Sf.leaseDrain (m : Sf) : Sf :=
  let r := m.qf.takeItems 0x0403 8
  r.1.foldl Sf.leaseItem { m with qf := r.2 }

/-! ### What follows the gate's STATE (R404, R585, R592) -/

/-- The epoch in progress ends unsent when the lease is lost; frames of it that still wait leave the queue (R592). -/
def State.dropEpoch (s : State) : State :=
  match s.copy.run with
  | none => s
  | some r =>
    let keep (c : Can) : Can :=
      { c with queue := c.queue.zipIdx.filterMap fun e => if e.1.src == .copy && e.2 != 0 then none else some e.1 }
    let s := { s with copy := { s.copy with run := none }, cans := s.cans.modify Can.reset s.copy.ctrl keep }
    if r.acked then s else s.note 0x0C32 (wordBytes r.epoch ++ [3])

/-- The rescue sequence as the unit gains or loses its lease: only the ACTIVE unit carries it out; a new one restarts at
ESTIMATING once at rest when mains is lost, and is in CONFIRMING while a loss is still filtered (R100, R107). -/
def Rescue.follow (r : Rescue) (active : Bool) : Rescue :=
  if active then
    { r with restart := r.stat == .idle && !r.mainsOn
             stat := if r.stat == .idle && r.mainsOn && !r.senseOn then .confirming else r.stat }
  else { r with stat := if r.stat == .disabled then .disabled else .idle, restart := false }

/-- SCH, BUS and PWR follow a change of the gate's STATE from `was` (R100, R404, R585, R592). -/
def State.followLease (s : State) (was : LeaseState) : State :=
  if was == .active && s.gate.stat != .active then
    let s := (s.withSc s.sc.standDown).dropEpoch
    { s with rescue := s.rescue.follow false }
  else if was != .active && s.gate.stat == .active then
    let s := if s.gate.takeover then s else s.withSc s.sc.standUp
    { s with rescue := s.rescue.follow true }
  else s

/-- Step 8 of the start ends as the lease is decided (R132). -/
def State.leaseDecided (s : State) : State :=
  if s.start.phase = 8 ∧ (s.gate.stat = .active ∨ s.gate.stat = .standby) then
    { s with start := { s.start with phase := 9 } }
  else s

/-- What follows the gate's STATE in the rest of the unit. -/
def State.followGate (s : State) (was : LeaseState) : State := (s.followLease was).leaseDecided

/-- Run a step of SFI and what follows the gate. -/
def State.runGate (s : State) (ok : Bool) (f : Sf → Sf) : State := (s.runSf ok f).followGate s.gate.stat

/-- LEASE_ITEM (R583). -/
def execLeaseItem (it : Item) (s : State) : Host.Outcome State Fault Refusal :=
  .next (s.runGate s.sfiUp fun m => m.leaseItem it)

/-- LEASE_EXPIRY (R583): the held lease is lost, unless an item staged in the same µs keeps it (R604). -/
def execLeaseExpiry (s : State) : Host.Outcome State Fault Refusal :=
  .next (s.runGate s.sfiUp fun m => m.leaseDrain.leaseCheck)

/-! ### The unit's report (R590, R591) -/

/-- ELIGIBLE (R591). -/
def State.eligible (s : State) : Bool :=
  s.gate.stat != .active && s.lattice.stat == .running && !s.react.lockout &&
    ((List.range 24).all fun b => !s.quarantined b) && (s.carPlanner.isNone || s.fusion.stat == .tracking)

/-- The unit reports a release (R590, R603). -/
def Gate.releasing (g : Gate) : Bool := g.hstate == .released && g.stat != .active

/-- The four words of the report (R590). -/
def State.reportWords (s : State) : List Word :=
  let g := s.gate
  let c := s.copy
  let w0 := bit g.unit + leaseCode g.stat * 2 + bit s.eligible * 8 + bit g.releasing * 16 + bit s.react.lockout * 32 +
    bit s.sf.allOpen * 64 + bit c.linkOk * 256 + bit c.linkQ * 512 + copyCode c.copy * 1024
  let e := if g.releasing then g.finalEpoch else if g.stat == .active then c.ackedSeq else c.committed
  [BitVec.ofNat 32 w0, g.held, e, 0]

/-- UNIT_REPORT_POST (R590): in an image with a lease gate. -/
def execUnitReportPost (s : State) : Host.Outcome State Fault Refusal :=
  .next (if s.leaseImage && s.runs .bus then
      let ws := s.reportWords
      ({ s with copy := { s.copy with report := ws } }).post 0x0CF7 ws
    else s)

end Sys2Proof.Machine
end

