-- ==== Sys2Proof/Machine/Lattice.lean ====
section
/-! DEFINITION. The interlock lattice (chapter 13): cells on the true and the complemented encoding, passes, the
background scan, reloads, forwarding, and the commands of chapter 13. -/

namespace Sys2Proof.Machine

/-! ### Cells in memory (R447, R454) -/

def Cell.not (c : Cell) : Cell := { w0 := ~~~c.w0, w1 := ~~~c.w1, w2 := ~~~c.w2, w3 := ~~~c.w3 }

/-- The cell an unlisted place of a memory holds: the complemented memory holds complements. -/
def blankCell (neg : Bool) : Cell := if neg then Cell.reset.not else Cell.reset

/-- Cell `n` of a channel as its memory holds it. -/
def Channel.cell (c : Channel) (neg : Bool) (n : Nat) : Cell := c.cells.get (blankCell neg) n

/-- Cell `n` of a channel in its plain form. -/
def Channel.plain (c : Channel) (neg : Bool) (n : Nat) : Cell := if neg then (c.cell neg n).not else c.cell neg n

def Cell.srcA (c : Cell) : Nat := getBits c.w0 11 0
def Cell.srcB (c : Cell) : Nat := getBits c.w0 23 12
def Cell.srcC (c : Cell) : Nat := getBits c.w1 11 0
def Cell.srcD (c : Cell) : Nat := getBits c.w1 23 12
def Cell.lut (c : Cell) : Nat := getBits c.w0 31 24 + 2 ^ 8 * getBits c.w1 31 24
def Cell.mode (c : Cell) : Nat := getBits c.w2 3 0
def Cell.timer (c : Cell) : Nat := getBits c.w2 9 4
def Cell.init (c : Cell) : Bool := c.w2.getLsbD 10
def Cell.rst (c : Cell) : Nat := getBits c.w2 23 12
def Cell.preset (c : Cell) : Nat := getBits c.w3 27 0

/-- A signal of the snapshot as the channel's memory holds it (R454). -/
def Channel.signal (c : Channel) (neg : Bool) (snap : Nat → Bool) (a : Nat) : Bool :=
  if a < 0x400 then c.out.get neg a else xor (snap a) neg

/-- The cell's function value as the channel computes it: LUT on the true inputs, LUT′ on the complemented ones
(R448, R454). -/
def Channel.func (c : Channel) (neg : Bool) (snap : Nat → Bool) (x : Cell) : Bool :=
  let v (a : Nat) : Nat := bit (c.signal neg snap a)
  let i := v x.srcA + 2 * v x.srcB + 4 * v x.srcC + 8 * v x.srcD
  if neg then !testBit x.lut (15 - i) else testBit x.lut i

/-- A timer of a channel in its plain form: running, E. -/
def Channel.timerAt (c : Channel) (neg : Bool) (t : Nat) : Bool × BitVec 28 :=
  let e := c.timers.get (false, if neg then BitVec.allOnes 28 else 0) t
  (e.1, if neg then ~~~e.2 else e.2)

def Channel.setTimer (c : Channel) (neg : Bool) (t : Nat) (e : Bool × BitVec 28) : Channel :=
  { c with timers := c.timers.set (false, if neg then BitVec.allOnes 28 else 0) t (e.1, if neg then ~~~e.2 else e.2) }

/-- E of a running timer one pass later (R450). -/
def timerGrow (e : BitVec 28) (per preset : Nat) : BitVec 28 := BitVec.ofNat 28 (min (e.toNat + per) preset)

/-- The output stage of R449: the new output and the timer, from f, the previous f and output, the reset signal and the
timer. `first` marks a pass of R452, in which no EDGE cell reads 1. -/
def cellStage (x : Cell) (first f fp q r : Bool) (tm : Bool × BitVec 28) (per : Nat) : Bool × (Bool × BitVec 28) :=
  let grown := timerGrow tm.2 per x.preset
  match x.mode with
  | 0 => (f, tm)
  | 1 => ((q || f) && !r, tm)
  | 2 => (f || (q && !r), tm)
  | 3 =>
    let t : Bool × BitVec 28 := if !f then (false, 0) else if !fp then (true, 0) else (true, grown)
    (f && decide (x.preset ≤ t.2.toNat), t)
  | 4 =>
    let t : Bool × BitVec 28 := if f then (false, 0) else if fp then (true, 0) else if tm.1 then (true, grown) else tm
    (f || decide (t.2.toNat < x.preset), t)
  | 5 =>
    let t : Bool × BitVec 28 :=
      if tm.1 && decide (tm.2.toNat < x.preset) then (true, grown)
      else if f && !fp && !q then (true, 0)
      else tm
    (t.1 && decide (t.2.toNat < x.preset), t)
  | 6 => (f && !fp && !first, tm)
  | _ => (false, tm)

/-- Evaluate cell `n` on a channel (R448, R449, R451). -/
def Channel.evalCell (neg first : Bool) (snap : Nat → Bool) (per : Nat) (c : Channel) (n : Nat) : Channel :=
  let x := c.plain neg n
  let fs := c.func neg snap x
  let f := xor fs neg
  let q := xor (c.out.get neg n) neg
  let fp := xor (c.fp.get neg n) neg
  let r := xor (c.signal neg snap x.rst) neg
  let timed := x.mode == 3 || x.mode == 4 || x.mode == 5
  let res := cellStage x first f fp q r (c.timerAt neg x.timer) per
  let c := { c with out := c.out.set neg n (xor res.1 neg), fp := c.fp.set neg n fs }
  if timed then c.setTimer neg x.timer res.2 else c

/-- Evaluate every cell in ascending order (R451). -/
def Channel.eval (c : Channel) (neg first : Bool) (snap : Nat → Bool) (per count : Nat) : Channel :=
  (List.range count).foldl (Channel.evalCell neg first snap per) c

/-- The state before the first pass of R452: outputs 0 but latches INIT, timers stopped with E = 0. -/
def Channel.restart (c : Channel) (neg : Bool) (count : Nat) : Channel :=
  { c with
    out := (List.range count).foldl (fun t n =>
      let x := c.plain neg n
      t.set neg n (xor ((x.mode == 1 || x.mode == 2) && x.init) neg)) []
    fp := [], timers := [] }

/-! ### Memories -/

/-- The cells of an image's LATTICE section as a memory. -/
def cellTable (neg : Bool) (cells : List (List Word)) : Tbl Cell :=
  cells.zipIdx.foldl (fun t e =>
    let c : Cell := { w0 := e.1.getD 0 0, w1 := e.1.getD 1 0, w2 := e.1.getD 2 0, w3 := e.1.getD 3 0 }
    t.set (blankCell neg) e.2 (if neg then c.not else c)) []

/-- The bytes of the master copy (R456). -/
def Lattice.masterBytes (l : Lattice) : List Byte :=
  (List.range l.count).flatMap fun n =>
    let c := l.master.get Cell.reset n
    wordsBytes [c.w0, c.w1, c.w2, c.w3]

/-- Both working memories from the master, in the initial state (R452, R457). -/
def Lattice.rewrite (l : Lattice) : Lattice :=
  let neg := l.master.map fun e => (e.1, e.2.not)
  let t : Channel := { Channel.reset with cells := l.master }
  let c : Channel := { Channel.reset with cells := neg }
  { l with tru := t.restart false l.count, cmp := c.restart true l.count, initPass := true, scanNoted := [] }

/-- Passes in this STATE apply their demands (R457, R458, R470). -/
def Lattice.applies (l : Lattice) : Bool := l.stat == .running || l.stat == .deferred

/-- What a pass finds as it begins: the first pass with a start at READY is RUNNING; the first that applies demands starts from
the initial state of R452 and is a FIRST pass, as is the first after a reload (R445, R452, R457, R458). -/
def Lattice.beginPass (l : Lattice) (ready : Bool) : Lattice :=
  let l := if l.stat == .started && ready then { l with stat := l.service } else l
  if !l.applies then l
  else
    let l := { l with first := l.first || l.firstDue }
    if l.unapplied then
      { l with tru := l.tru.restart false l.count, cmp := l.cmp.restart true l.count, initPass := true }
    else l

/-- One disturbance of a memory. -/
def Lattice.upset (l : Lattice) (u : Upset) : Lattice :=
  let flip (c : Cell) (w b : Nat) : Cell :=
    let m := 1#32 <<< b
    match w with
    | 0 => { c with w0 := c.w0 ^^^ m }
    | 1 => { c with w1 := c.w1 ^^^ m }
    | 2 => { c with w2 := c.w2 ^^^ m }
    | _ => { c with w3 := c.w3 ^^^ m }
  let chan (neg : Bool) (f : Channel → Channel) : Lattice :=
    if neg then { l with cmp := f l.cmp } else { l with tru := f l.tru }
  match u with
  | .cell .tru n w b => chan false fun c => { c with cells := c.cells.modify (blankCell false) n (flip · w b) }
  | .cell .cmp n w b => chan true fun c => { c with cells := c.cells.modify (blankCell true) n (flip · w b) }
  | .cell .master n w b => { l with master := l.master.modify Cell.reset n (flip · w b) }
  | .out neg n => chan neg fun c => { c with out := c.out.modify neg n (!·) }
  | .timer neg t b => chan neg fun c =>
      let e := c.timerAt neg t
      c.setTimer neg t (e.1, e.2 ^^^ (1#28 <<< b.val))
  | .signal _ _ => l

/-- The snapshot of a channel with the signals that are disturbed in its memory. -/
def disturbed (ups : List Upset) (neg : Bool) (snap : Nat → Bool) (a : Nat) : Bool :=
  xor (snap a) (ups.any fun u =>
    match u with
    | .signal c x => c == neg && x.toNat == a
    | _ => false)

/-! ### The snapshot (R445, R446) -/

/-- The signals of R445 other than cells, in one pass; ACKP is 1 in the pass of an accepted press. -/
def Sf.snapshot (m : Sf) (ackp : Bool) : Nat → Bool :=
  let l := m.lattice
  let s := m.env
  let lockout := m.react.lockout
  let first := l.first
  let pvi := m.vi false
  let nvi := m.vi true
  fun a =>
    if a < 0x418 then m.si (a - 0x400)
    else if 0x420 ≤ a ∧ a < 0x438 then l.siMode (a - 0x420) != 0 && (m.input (a - 0x420)).a
    else if 0x440 ≤ a ∧ a < 0x458 then l.siMode (a - 0x440) != 0 && (m.input (a - 0x440)).b
    else if 0x460 ≤ a ∧ a < 0x478 then m.sif (a - 0x460)
    else if 0x480 ≤ a ∧ a < 0x488 then m.ct (a - 0x480)
    else if 0x490 ≤ a ∧ a < 0x4A0 then pvi.getLsbD (a - 0x490)
    else if 0x4A0 ≤ a ∧ a < 0x4B0 then nvi.getLsbD (a - 0x4A0)
    else if 0x4B0 ≤ a ∧ a < 0x4BD then a != 0x4B4 && m.islandFault (a - 0x4B0)
    else if a = 0x4C0 then s.fieldUp
    else if a = 0x4C1 then l.oscDev
    else if a = 0x4C2 then m.field.limiting
    else if a = 0x4C3 then m.field.overcurrent != 0
    else if a = 0x4C4 then m.gatePasses
    else if 0x4D0 ≤ a ∧ a < 0x4D6 then
      let o := m.out (a - 0x4D0)
      o.on && o.hsRb && o.lsRb
    else if 0x4D8 ≤ a ∧ a < 0x4DE then (m.out (a - 0x4D8)).sof
    else if a = 0x4E0 then ackp
    else if a = 0x4E1 then lockout
    else if a = 0x4E2 then first
    else a == 0x4F1

/-- A signal address R445 gives for an image of `count` cells. -/
def signalKnown (count a : Nat) : Bool :=
  a < count || (0x400 ≤ a && a < 0x418) || (0x420 ≤ a && a < 0x438) || (0x440 ≤ a && a < 0x458) ||
    (0x460 ≤ a && a < 0x478) || (0x480 ≤ a && a < 0x488) || (0x490 ≤ a && a < 0x4BD) || (0x4C0 ≤ a && a ≤ 0x4C4) ||
    (0x4D0 ≤ a && a < 0x4D6) || (0x4D8 ≤ a && a < 0x4DE) || (0x4E0 ≤ a && a ≤ 0x4E2) || a == 0x4F0 || a == 0x4F1

/-- A signal that a register names; one outside R445 is taken as ZERO. -/
def Lattice.named (l : Lattice) (a : Nat) : Nat := if signalKnown l.count a then a else 0x4F0

/-- Demand signal of output `k` as it stood at island start. -/
def Lattice.demandSrc (l : Lattice) (k : Nat) : Nat := l.named (getBits (l.socfg.get 0x4F0 k) 11 0)

/-! ### Comparison and scan (R455, R456) -/

/-- The lowest cell whose outputs are no complements, 0xFFFF when only a timer or a demand differs; none when the
evaluations agree. -/
def Lattice.differs (l : Lattice) (st sc : Nat → Bool) : Option Nat :=
  match (List.range l.count).find? fun n => l.tru.out.get false n == l.cmp.out.get true n with
  | some n => some n
  | none =>
    let timers := (List.range 64).any fun t => (l.tru.timerAt false t).2 != (l.cmp.timerAt true t).2
    let demands := (List.range 6).any fun k =>
      l.tru.signal false st (l.demandSrc k) == l.cmp.signal true sc (l.demandSrc k)
    if timers || demands then some 0xFFFF else none

/-- The memories of one 32-cell chunk that differ from the master: cell and memory, lowest first. -/
def Lattice.badCells (l : Lattice) (chunk : Nat) : List (Nat × Bool) :=
  (List.range 32).flatMap fun k =>
    let n := 32 * chunk + k
    let c := l.master.get Cell.reset n
    (if l.tru.plain false n != c then [(n, false)] else []) ++ (if l.cmp.plain true n != c then [(n, true)] else [])

/-- The scan of one pass: a chunk against the master, and the master's CRC after a full round. A chunk is recorded
once until it scans clean or the memories are rewritten. -/
def Sf.scanPass (m : Sf) : Sf :=
  let l := m.lattice
  let chunk := l.scan
  let bad := l.badCells chunk
  let m := m.updL fun l => { l with scan := (chunk + 1) % 32 }
  let m := match bad with
    | [] => m.updL fun l => { l with scanNoted := l.scanNoted.filter (· != chunk) }
    | (n, cmp) :: _ =>
      if l.scanNoted.contains chunk then m
      else
        ((m.updL fun l => { l with scanNoted := chunk :: l.scanNoted, cellErrs := satInc l.cellErrs }).latticeFault 2).note
          0x0402 (leBytes 2 n ++ leBytes 1 (bit cmp) ++ leBytes 1 bad.length)
  if chunk ≠ 31 then m
  else
    let crc := crc32 l.masterBytes
    if crc = l.mcrc then m.updL fun l => { l with scanNoted := l.scanNoted.filter (· != 32) }
    else if m.lattice.scanNoted.contains 32 then m
    else
      ((m.updL fun l => { l with scanNoted := 32 :: l.scanNoted }).latticeFault 3).note 0x0403
        (wordBytes crc ++ wordBytes l.mcrc)

/-! ### Posts of a pass (R341, R467) -/

/-- Signal of network virtual output `j` (R467, R482). -/
def Sf.nvoSrc (m : Sf) (j : Nat) : Nat :=
  let w := m.env.reg .SFI_NVOSEL [j / 2]
  m.lattice.named (if j % 2 = 0 then getBits w 11 0 else getBits w 27 16)

/-- The network virtual outputs of the evaluation just compared. -/
def Sf.postNvo (m : Sf) (snap : Nat → Bool) : Sf :=
  let v := (List.range 16).foldl (fun (a : Word) j =>
    if m.lattice.tru.signal false snap (m.nvoSrc j) then a ||| (1#32 <<< j) else a ||| (1#32 <<< (16 + j))) 0
  m.post 0x0402 [v, m.lattice.pass]

/-- The level of a door input source: none when not mapped (R368). -/
def doorSource (snap : Nat → Bool) (code : Nat) : Option Bool :=
  if code < 24 then some (snap (0x400 + code))
  else if 0x20 ≤ code ∧ code < 0x30 then some (snap (0x4A0 + code - 0x20))
  else none

/-- The door input item of motor engine `i`, posted when a mapped level changes and at least every 4 ms (R341). -/
def Sf.postDoor (snap : Nat → Bool) (m : Sf) (i : Nat) : Sf :=
  let w := m.lattice.dinmap.get 0x3FFFFFFF i
  let srcs := (List.range 5).map fun k => doorSource snap (getBits w (6 * k + 5) (6 * k))
  if !m.env.isDoor i || srcs.all (·.isNone) then m
  else
    let v : BitVec 5 := srcs.zipIdx.foldl (fun a e => if e.1 == some true then a ||| (1#5 <<< e.2) else a) 0
    let due : Bool := match m.lattice.doorLast.get none i with
      | some (u, t) => u != v || decide (t + 4000 < m.env.dev + m.env.passUs)
      | none => true
    if !due then m
    else
      let m := m.updL fun l => { l with doorLast := l.doorLast.set none i (some (v, m.env.dev)) }
      m.post (0x0410 + i) [v.setWidth 32 ||| ((~~~v).setWidth 32 <<< 16), lowWord m.env.dev]

/-! ### The pass (R453) -/

/-- The demands of a pass whose evaluations agree are applied (R453, R470). -/
def Sf.applyPass (m : Sf) (snap : Nat → Bool) : Sf :=
  let l := m.lattice
  let d (k : Nat) := l.tru.signal false snap (l.demandSrc k)
  let m := (List.range 6).foldl (fun m k => m.updOut k fun o => { o with demand := d k }) m
  let any := (List.range 6).any d
  (m.updL fun l =>
    { l with applied := l.tru.out, firstDue := false, unapplied := false, offSince := if any then none else some (l.offSince.getD m.env.dev) }).settle

/-- Evaluate, compare and apply one pass (R452 to R458, R467). -/
def Sf.evaluate (m : Sf) (ups : List Upset) (ackp : Bool) : Sf :=
  let m := m.updL fun l => ups.foldl Lattice.upset (l.beginPass m.env.start.ready)
  let snap := m.snapshot ackp
  let l := m.lattice
  let st := disturbed ups false snap
  let sc := disturbed ups true snap
  let per := m.env.passUs
  let m := m.updL fun l =>
    { l with tru := l.tru.eval false l.initPass st per l.count, cmp := l.cmp.eval true l.initPass sc per l.count,
             initPass := false, first := false, lastLockout := m.react.lockout, lastAckp := ackp }
  let m := match m.lattice.differs st sc with
    | some n =>
      ((m.updL fun l => { l with mismatches := satInc l.mismatches }).latticeFault 1).note 0x0401
        (m.passBytes ++ leBytes 2 n)
    | none =>
      let m := if l.applies then m.applyPass st else m
      if l.stat == .started then m else m.postNvo st
  (((List.range 4).foldl (Sf.postDoor snap) m).forwardSwitches).scanPass

/-- SFI_FRSTAT (R508). -/
def FaultReact.frstat (r : FaultReact) : Word :=
  let src := r.holds.foldl (fun (a : Nat) e => match e.1 with
    | .source i => if testBit a i.val then a else a + 2 ^ i.val
    | _ => a) 0
  BitVec.ofNat 32 (bit r.lockout + bit r.persist * 2 + r.holdMask.toNat * 2 ^ 8 + src * 2 ^ 16 +
    bit (r.holds.any fun e => e.1 == .inherited) * 2 ^ 30)

/-- SFI_LATSTAT (R478). -/
def Lattice.statWord (l : Lattice) : Word :=
  BitVec.ofNat 32 (latCode l.stat + l.cause.toNat * 2 ^ 4 + l.count * 2 ^ 16)

/-- A pass is complete: what SFI contributes to an epoch from it (R592). -/
def Sf.endPass (m : Sf) : Sf := m.lsWait.updL fun l => { l with snap := some (m.react.frstat, l.statWord) }

/-- One pass: its boundary carries out the fault reaction of chapter 14, and a lattice that is not reloading and not
quarantined evaluates (R453, R457, R489, R492, R497). -/
def Sf.pass (m : Sf) (ups : List Upset) : Sf :=
  let m := m.updL fun l => { l with pass := l.pass + 1 }
  let m := (((m.leaseDrain.leaseCheck.viDrain false).viDrain true).viCheck false).viCheck true
  let m := m.closeHs.restore.raise
  let ackp := m.react.ackOwed.isSome
  let m := m.acceptAck.settle
  if m.lattice.stat == .reloading || m.env.quarantined 1 then m.lsWait else (m.evaluate ups ackp).endPass

/-- SFI begins passes: its lattice test of step 7 has passed (R458). -/
def State.latticeRuns (s : State) : Bool := s.sfiUp && s.lattice.stat != .off

/-! ### Reloads (R457, R501) -/

/-- The REASON that keeps a lattice reload waiting, 0 for none (R501). -/
def Sf.reloadReason (m : Sf) : Nat :=
  if m.env.restReason ≠ 0 then m.env.restReason
  else if (List.range 6).any fun k => (m.out k).on then 0x12
  else 0

/-- The reload begins: every output open, STATE RELOADING. -/
def Sf.startReload (m : Sf) : Sf :=
  (m.updL fun l =>
    { l with reloadReq := false, stat := .reloading,
             reloadFrom := if l.stat == .deferred then .running else l.stat }).settle

/-- RELOAD: a reload starts, or waits; it is merged into a targeted test of the LATTICE block (R457, R501, R506). -/
def Sf.requestReload (m : Sf) : Sf :=
  let l := m.lattice
  if l.stat == .off || l.stat == .reloading || l.reloadReq || m.react.underTest 1 || m.env.quarantined 1 then m
  else
    let why := m.reloadReason
    if why = 0 then m.startReload
    else
      let m := m.updL fun l => { l with reloadReq := true, stat := if l.stat == .running then .deferred else l.stat }
      (m.note 0x0404 [1]).note 0x0414 [2, BitVec.ofNat 8 why]

/-- The reload ends: memories from the master, LAT_RELOAD, and the next pass a FIRST pass (R457). -/
def Sf.endReload (m : Sf) : Sf :=
  if m.lattice.stat == .reloading then
    ((m.updL fun l => { l.rewrite with stat := l.reloadFrom, first := true, firstDue := true }).note 0x0404 [0]).settle
  else m

/-- CLRCNT of SFI_LATCTL (R478). -/
def Sf.clearCounts (m : Sf) : Sf :=
  let m := m.updL fun l => { l with mismatches := 0, cellErrs := 0 }
  (List.range 6).foldl (fun m k => m.updOut k fun o => { o with passed := 0, discarded := 0 }) m

/-- A write of SFI_LATCTL: CLRCNT, then RELOAD (R478). -/
def Sf.writeLatctl (m : Sf) (w : Word) : Sf :=
  let m := if w.getLsbD 1 then m.clearCounts else m
  if w.getLsbD 0 then m.requestReload else m

def State.writeSfiLatctl (s : State) (w : Word) : State := s.runSf true fun m => m.writeLatctl w

/-! ### Island start -/

/-- SFI at step 6: memories from the image, and the registers that later starts alone change (R456, R477). -/
def Sf.start (m : Sf) : Sf :=
  let s := m.env
  match s.image with
  | none => { m with lattice := Lattice.reset, react := FaultReact.reset, field := { Field.reset with shutdown := m.field.shutdown } }
  | some im =>
    let l : Lattice :=
      { Lattice.reset with
        count := im.lattice.length, master := cellTable false im.lattice,
        sicfg := (List.range 24).foldl (fun t n => t.set 0x06430000 n (s.reg .SFI_SICFG [n])) [],
        socfg := (List.range 6).foldl (fun t k => t.set 0x4F0 k (s.reg .SFI_SOCFG [k])) [],
        ackcfg := s.reg .SFI_ACKCFG,
        dinmap := (List.range 4).foldl (fun t i => t.set 0x3FFFFFFF i (s.reg .MC_DINMAP [i])) [],
        startAt := s.dev, offSince := some s.dev }
    let m := { m with lattice := { l with mcrc := crc32 l.masterBytes }.rewrite, react := FaultReact.reset,
                      field := { Field.reset with shutdown := m.field.shutdown },
                      gate := { Gate.reset with unit := s.SFI_LSCFG_UNIT == 1,
                                                conn := BitVec.ofNat 6 s.SFI_LSCFG_CONN } }
    m.updR fun r => { r with rising := allSources.filter m.asserts }

/-- The lattice test of step 7 has passed: passes begin (R458); a quarantined LATTICE or OSC block stays stopped. -/
def Sf.startPasses (m : Sf) : Sf :=
  if m.lattice.stat == .off then m.updL fun l => { l with stat := .started } else m

/-! ### The commands -/

/-- The deviation of a 10 ms window of SFI cycles from 480 000, in ppm. -/
def oscPpm (cycles : Nat) : Int := rnDiv (((cycles : Int) - 480000) * 1000000) 480000

/-- A window of R19 ends. -/
def Sf.oscWindow (m : Sf) (cycles : Nat) : Sf :=
  if absInt ((cycles : Int) - 480000) ≤ 19200 then m.updL fun l => { l with oscDev := false }
  else
    ((m.updL fun l => { l with oscDev := true }).latticeFault 4).note 0x040A (wordBytes (satWord (oscPpm cycles)))

/-- SFI_OSC_WINDOW (R19). -/
def execSfiOscWindow (cycles : Nat) (s : State) : Host.Outcome State Fault Refusal :=
  .next (s.runSf s.latticeRuns fun m => m.oscWindow cycles)

/-- PRESET of the cell that timer `t` serves. -/
def Lattice.timerPreset (l : Lattice) (t : Nat) : Option Nat :=
  ((List.range l.count).find? fun n =>
    let c := l.tru.plain false n
    (c.mode == 3 || c.mode == 4 || c.mode == 5) && c.timer == t).map fun n => (l.tru.plain false n).preset

/-- E of a running timer reaches PRESET in the pass that begins (R450). -/
def Lattice.timerExpire (l : Lattice) (per t : Nat) : Lattice :=
  match l.timerPreset t with
  | none => l
  | some p =>
    let set (c : Channel) (neg : Bool) : Channel :=
      let e := c.timerAt neg t
      if e.1 && decide (p ≤ e.2.toNat + per) then c.setTimer neg t (true, BitVec.ofNat 28 p) else c
    { l with tru := set l.tru false, cmp := set l.cmp true }

/-- LATTICE_TIMER_EXPIRE (R450). -/
def execLatticeTimerExpire (t : Fin 64) (s : State) : Host.Outcome State Fault Refusal :=
  .next (if s.latticeRuns then { s with lattice := s.lattice.timerExpire s.passUs t.val } else s)

/-- The pad of a sense terminal: 2n is contact A of input n, 2n + 1 contact B, 48 is ACK_IN (R46). -/
def sensePad (t : Nat) : Nat := if t = 48 then 26 else 263 + t

/-- SI_LEVEL_CHANGE (R459) at a terminal whose pad the image uses (R49). -/
def execSiLevelChange (t : Fin 49) (closed : Bool) (s : State) : Host.Outcome State Fault Refusal :=
  .next (s.runSf (s.sfiUp && s.padUsed (sensePad t.val)) fun m =>
    if t.val = 48 then m.ackLevelIn closed else m.contact (t.val / 2) (t.val % 2 == 1) closed)

/-- The discrepancy timer of an input reaches DISC, for each mixed state that lasts so long (R461). -/
def Sf.discrepancy (m : Sf) (n : Nat) : Sf :=
  let x := m.input n
  if x.pending.isSome && x.mixed (m.lattice.siMode n) then
    ((m.updInput n fun x => { x with disc := true, pending := none, faults := satInc x.faults }).note 0x0405
      (leBytes 1 n ++ leBytes 1 (bit x.firstB))).forwardSwitches
  else m

/-- SI_DISCREPANCY (R461). -/
def execSiDiscrepancy (n : Fin 24) (s : State) : Host.Outcome State Fault Refusal :=
  .next (s.runSf s.sfiUp fun m => m.discrepancy n.val)

/-- The sense terminals whose input buffers are enabled; the others read open (R49). -/
def State.usedTerminals (s : State) : BitVec 49 :=
  (List.range 49).foldl (fun m t => if s.padUsed (sensePad t) then m ||| (1#49 <<< t) else m) 0

/-- LEP_TEST_PULSE (R462): a port in CONTACT_SOURCE mode with its supply. -/
def execLepTestPulse (p : Fin 32) (before last : BitVec 49) (s : State) : Host.Outcome State Fault Refusal :=
  .next (s.runSf (s.sfiUp && s.fieldUp && !s.quarantined 22 && getBits (s.reg .SFI_LEPCFG [p.val]) 2 0 == 1)
    fun m => m.pulse p.val (before &&& s.usedTerminals) (last &&& s.usedTerminals))

/-- CHAIN_TAP_CHANGE (R465) at a tap whose pad the image uses (R49). -/
def execChainTapChange (c : Fin 8) (level : Bool) (mv : Word) (s : State) : Host.Outcome State Fault Refusal :=
  .next (s.runSf (s.sfiUp && s.padUsed (319 + c.val)) fun m => m.tapChange c.val level mv)

/-- PVI_ITEM (R238). -/
def execPviItem (it : Item) (s : State) : Host.Outcome State Fault Refusal :=
  .next (s.runSf s.sfiUp fun m => m.viItem false it s.dev)

/-- NVI_ITEM (R466). -/
def execNviItem (it : Item) (s : State) : Host.Outcome State Fault Refusal :=
  .next (s.runSf s.sfiUp fun m => m.viItem true it s.dev)

/-- VI_STALE (R466). -/
def execViStale (nvi : Bool) (s : State) : Host.Outcome State Fault Refusal :=
  .next (s.runSf s.sfiUp fun m => m.viStale nvi)

/-- The causes of a read-back that does not follow its commands (R471). -/
def readbackCauses (hsCmd lsCmd hs ls late : Bool) : List (BitVec 4) :=
  (if hs == hsCmd then [] else if late then [6] else if hsCmd then [3] else [1]) ++
    (if ls == lsCmd then [] else if late then [6] else if lsCmd then [4] else [2])

/-- A read-back disagrees with its command (R471, R472); an LS switch that reads closed has let HS be commanded closed. -/
def Sf.readback (m : Sf) (k : Nat) (hs ls late : Bool) : Sf :=
  let m := if ls then m.updOut k SafetyOut.closeHs else m
  let o := m.out k
  let m := (readbackCauses o.hsCmd o.lsCmd hs ls late).foldl (fun m c => m.latchCause k c) m
  m.updOut k fun x => { x with hsRb := if hs && !o.hsCmd then true else x.hsRb, lsRb := if ls && !o.lsCmd then true else x.lsRb }

/-- SO_READBACK_FAULT (R471). -/
def execSoReadbackFault (k : Fin 6) (hs ls late : Bool) (s : State) : Host.Outcome State Fault Refusal :=
  .next (s.runSf s.sfiUp fun m => m.readback k.val hs ls late)

/-- A dark pulse of output `k`: discarded when cut, else checked (R474, R475). -/
def Sf.darkPulse (m : Sf) (k : Nat) (opened reclosed cut : Bool) : Sf :=
  let ls := (m.out k).nextLs
  if !(m.out k).on then m
  else
    let m := m.updOut k SafetyOut.closeHs
    let m := m.updOut k fun o => { o with nextLs := !o.nextLs }
    if cut then m.updOut k fun o => { o with discarded := satInc o.discarded }
    else if !opened then m.latchCause k (if ls then 2 else 1)
    else if !reclosed then m.latchCause k (if ls then 4 else 3)
    else m.updOut k fun o => { o with passed := satInc o.passed }

/-- DARK_TEST_PULSE (R474). -/
def execDarkTestPulse (k : Fin 6) (opened reclosed cut : Bool) (s : State) : Host.Outcome State Fault Refusal :=
  .next (s.runSf s.sfiUp fun m => m.darkPulse k.val opened reclosed cut)

/-- LATTICE_RELOAD_START (R457, R501). -/
def execLatticeReloadStart (s : State) : Host.Outcome State Fault Refusal :=
  .next (s.runSf (s.lattice.reloadReq && s.lattice.stat != .reloading && s.sf.reloadReason == 0) fun m => m.startReload)

/-- LAT_RELOAD (R457). -/
def execLatReload (s : State) : Host.Outcome State Fault Refusal := .next (s.runSf s.sfiUp Sf.endReload)

end Sys2Proof.Machine
end

