-- ==== Sys2Proof/Machine/FaultReact.lean ====
section
/-! DEFINITION. The commands of fault reaction (chapter 14): sources, targeted self-tests and quarantine, ACK_IN, degraded
lockout, switch tests. -/

namespace Sys2Proof.Machine

/-! ### Sources and targeted tests (R486 to R492) -/

/-- Source number 0 to 13, or 14 + k for output k. -/
def sourceOf (n : Nat) : FaultSrc := allSources.getD n (.source 0)

/-- A source has risen; the next pass boundary raises HOLD (R492). -/
def FaultReact.rise (r : FaultReact) (x : FaultSrc) : FaultReact :=
  if r.waiting.contains x then r else { r with waiting := r.waiting ++ [x] }

/-- FAULT_SOURCE_RISE (R492). -/
def execFaultSourceRise (src : Fin 20) (s : State) : Host.Outcome State Fault Refusal :=
  .next (if s.sfiUp then { s with react := s.react.rise (sourceOf src.val) } else s)

/-- A block error begins its targeted self-test; a LATTICE test reloads the lattice (R486 to R488). -/
def Sf.blockError (m : Sf) (b : Nat) (cause : BitVec 16) : Sf :=
  if m.env.quarantined b || m.react.underTest b then m
  else
    let m := m.updR fun r =>
      { r with testing := r.testing ++ [(b, m.env.dev, cause)], passed := r.passed.filter (· != b) }
    if b = 1 && m.lattice.stat == .fault then m.startReload else m

/-- BLOCK_ERROR (R487). -/
def execBlockError (b : Fin 24) (cause : BitVec 16) (s : State) : Host.Outcome State Fault Refusal :=
  .next (s.runSf s.sfiUp fun m => m.blockError b.val cause)

/-- Transients of the last 24 h of device time (R488). -/
def recentTimes (dev : Nat) (ts : List Nat) : List Nat := ts.filter fun t => decide (dev < t + 86400000000)

/-- The standing of a block after a test: a pass is a transient, lasting when two more lie in the 24 h before it; a failure
is lasting (R488, R510). -/
def BlockStat.classify (x : BlockStat) (dev : Nat) (pass : Bool) : BlockStat :=
  let old := recentTimes dev x.times
  if !pass then { x with last := 2, quar := true }
  else if 2 ≤ old.length then
    { times := (dev :: old).take 3, trans := satInc x.trans, last := 3, quar := true }
  else { times := dev :: old, trans := satInc x.trans, last := 1, quar := x.quar }

/-- RECENT (R510). -/
def BlockStat.recent (x : BlockStat) (dev : Nat) : Nat := min 3 (recentTimes dev x.times).length

/-- The record of a classification, in the tap of the block's island (R488, R512). -/
def State.noteBlock (s : State) (b : Nat) (us : BitVec 16) (cause : BitVec 16) (x : BlockStat) : State :=
  s.note (blockIsland b * 0x100 + 0x7F)
    (leBytes 1 b ++ leBytes 1 x.last.toNat ++ leBytes 1 (x.recent s.dev) ++ leBytes 2 us.toNat ++ leBytes 2 cause.toNat)

/-- MGT keeps a block's standing (R489). -/
def State.setBlock (s : State) (b : Nat) (x : BlockStat) : State :=
  { s with persist := { s.persist with blocks := s.persist.blocks.set BlockStat.reset b x } }

/-- QF rebuilds its BROKEN queues after its test has passed (R207). -/
def Qf.rebuildBroken (x : Qf) : Qf :=
  (x.fabric.built.filter fun e => e.2.broken).foldl
    (fun x e => Qf.note { x with fabric := x.fabric.setQueue e.1 e.2.rebuild } 0x0306 (leBytes 2 e.1)) x

/-- A block is held stopped with its outputs at their resistor states (R488). QF moves no item, a figure engine releases its
lines, a motor engine its gates; the others look at their quarantine as they work. -/
def State.stopBlock (s : State) (b : Nat) : State :=
  if b = 0 then { s with fabric := { s.fabric with stopped := true } }
  else if 6 ≤ b ∧ b < 10 then { s with seqr := s.seqr.release (b - 6) }
  else if 12 ≤ b ∧ b < 16 then
    { s with motors := s.motors.modify Motor.reset (b - 12) fun x => { x with gates := .low } }
  else s

/-- What a passed test does beside its classification as transient (R207, R570). -/
def State.testPassed (s : State) (b : Nat) : State :=
  match b with
  | 0 => s.withQf s.qf.rebuildBroken
  | 10 => s.withBc s.bc.resume
  | _ => s

/-- The test of block `b` ends (R488, R489). -/
def State.blockTest (s : State) (b : Nat) (pass : Bool) (us : BitVec 16) : State :=
  match s.react.testing.find? fun e => e.1 == b with
  | none => s
  | some (_, _, cause) =>
    let s := if b = 1 then s.runSf true Sf.endReload else s
    let x := (s.persist.blocks.get BlockStat.reset b).classify s.dev pass
    let s := { s with react := { s.react with testing := s.react.testing.filter fun e => e.1 != b } }
    let s := (s.setBlock b x).noteBlock b us cause x
    if x.quar then s.stopBlock b
    else
      let s := s.testPassed b
      { s with react := { s.react with passed := b :: s.react.passed.filter (· != b) } }

/-- BLOCK_TEST (R488). -/
def execBlockTest (b : Fin 24) (pass : Bool) (us : BitVec 16) (s : State) : Host.Outcome State Fault Refusal :=
  .next (s.blockTest b.val pass us)

/-! ### ACK_IN (R494, R495) -/

/-- A press is refused with RESULT (R494, R495). -/
def Sf.refuseAck (m : Sf) (result : BitVec 4) (ms : BitVec 16) : Sf :=
  (m.updR fun r => { r with result := result }).note 0x0413 (leBytes 1 result.toNat ++ leBytes 2 ms.toNat)

/-- ACK_IN returns to open after `ms` ms (R494, R495). R494 accepts a press of 3000 ms and R495 calls 3000 ms stuck: such a press is
accepted unless the block found it stuck first, the model's choice (log entry 71). -/
def Sf.ackRelease (m : Sf) (ms : BitVec 16) : Sf :=
  if !(m.lattice.ackEn && m.lattice.ackLevel && m.react.ackSeen) then m
  else
    let m := m.updL fun l => { l with ackLevel := false }
    if m.react.stuck || decide (3000 < ms.toNat) then
      (m.updR fun r => { r with stuck := false, armed := true }).refuseAck 4 ms
    else if ms.toNat < 100 then m.refuseAck 3 ms
    else if m.lattice.ackShort then m.refuseAck 5 ms
    else m.updR fun r => { r with ackOwed := some ms.toNat, accepted := satInc r.accepted }

/-- ACK_PRESS_RELEASE (R494). -/
def execAckPressRelease (ms : BitVec 16) (s : State) : Host.Outcome State Fault Refusal :=
  .next (s.runSf s.sfiUp fun m => m.ackRelease ms)

/-- The closed level has lasted 3000 ms (R495). -/
def Sf.ackStuck (m : Sf) : Sf :=
  if m.lattice.ackEn && m.lattice.ackLevel && !m.react.stuck then
    (m.updR fun r => { r with stuck := true, armed := false }).note 0x0412 [1]
  else m

/-- ACK_STUCK (R495). -/
def execAckStuck (s : State) : Host.Outcome State Fault Refusal := .next (s.runSf s.sfiUp Sf.ackStuck)

/-! ### Degraded lockout (R498) -/

/-- MPI enters degraded lockout (R498, R512). -/
def Mpi.degradedExpire (m : Mpi) (why : Nat) : Mpi :=
  Mpi.note { m with fusion := { m.fusion with degStat := 3, degExp := true } } 0x0541
    (leBytes 1 why ++ wordBytes m.fusion.res.pos)

/-- DEGTIME_EXPIRE (R498). -/
def execDegtimeExpire (s : State) : Host.Outcome State Fault Refusal :=
  .next (if s.fusion.degStat == 1 || s.fusion.degStat == 2 then s.withMpi (s.mpi.degradedExpire 1) else s)

/-- DEGOPEN_EXPIRE (R498). -/
def execDegopenExpire (s : State) : Host.Outcome State Fault Refusal :=
  .next (if s.fusion.degStat == 2 then s.withMpi (s.mpi.degradedExpire 2) else s)

/-! ### Clearing quarantine (R490, R510) -/

/-- A write of MGT_QCLR adds its clearances to those pending (R510). -/
def State.writeMgtQclr (s : State) (w : Word) : State :=
  { s with persist := { s.persist with qclr := s.persist.qclr ||| w.setWidth 24 } }

/-- The clearances pending take effect at a start (R490). -/
def Persist.clearQuarantine (p : Persist) : Persist :=
  { p with
    qclr := 0
    blocks := (List.range 24).foldl (fun t b =>
      if p.qclr.getLsbD b then
        t.modify BlockStat.reset b fun x => { x with times := [], quar := false }
      else t) p.blocks }

/-! ### Switch tests on request (R501, R502) -/

/-- The REASON that keeps a switch test of some outputs waiting, 0 for none (R501). -/
def Sf.switchReason (m : Sf) (outs : BitVec 6) : Nat :=
  if m.env.restReason ≠ 0 then m.env.restReason
  else if (List.range 6).any fun k => outs.getLsbD k && (m.out k).on then 0x12
  else 0

/-- The pending switch test begins. -/
def Sf.startSwitchTest (m : Sf) : Sf :=
  m.updR fun r => { r with testStat := 2, testRun := r.testPend, testPend := 0 }

/-- A requested test of the pending outputs starts, or waits with TEST_DEFERRED (R501). -/
def Sf.offerSwitchTest (m : Sf) : Sf :=
  let why := m.switchReason m.react.testPend
  if why = 0 then m.startSwitchTest
  else (m.updR fun r => { r with testStat := 1 }).note 0x0414 [1, BitVec.ofNat 8 why]

/-- The outputs of a switch test's request that are not under their targeted test, into which the request of the others is merged
(R506). -/
def Sf.testable (m : Sf) (outs : BitVec 6) : BitVec 6 :=
  (List.range 6).foldl (fun a k => if outs.getLsbD k && !m.react.underTest (16 + k) then a ||| (1#6 <<< k) else a) 0

/-- A write of SWREQ: the test starts, or waits; a request while one waits or runs adds its outputs (R501, R502, R506). -/
def Sf.writeTestctl (m : Sf) (w : Word) : Sf :=
  let add := m.testable (w.setWidth 6)
  if add = 0 then m
  else
    let m := m.updR fun r => { r with testPend := r.testPend ||| add }
    if m.react.testStat = 2 then m else m.offerSwitchTest

def State.writeSfiTestctl (s : State) (w : Word) : State := s.runSf s.sfiUp fun m => m.writeTestctl w

/-- SWITCH_TEST_START (R501). -/
def execSwitchTestStart (s : State) : Host.Outcome State Fault Refusal :=
  .next (s.runSf (s.sfiUp && s.react.testStat == 1 && s.sf.switchReason s.react.testPend == 0) Sf.startSwitchTest)

/-- The switch test ends with the causes found; an output under its targeted test keeps that test's result (R502,
R506). Outputs requested meanwhile are tested next, or wait (R501). -/
def Sf.endSwitchTest (m : Sf) (fails : List (Nat × BitVec 4)) : Sf :=
  let run := m.react.testRun
  let bad := fails.filter fun e => run.getLsbD e.1 && !m.react.underTest (16 + e.1)
  let m := bad.foldl (fun m e => m.latchCause e.1 e.2) m
  let mask : BitVec 6 := bad.foldl (fun a e => a ||| (1#6 <<< e.1)) 0
  let m := (m.updR fun r => { r with testStat := 3, testRun := 0 }).note 0x0415 (leBytes 1 run.toNat ++ leBytes 1 mask.toNat)
  if m.react.testPend = 0 then m else m.offerSwitchTest

/-- SWTEST_END (R502). -/
def execSwtestEnd (fails : List (Fin 6 × BitVec 4)) (s : State) : Host.Outcome State Fault Refusal :=
  .next (s.runSf (s.react.testStat == 2) fun m => m.endSwitchTest (fails.map fun e => (e.1.val, e.2)))

end Sys2Proof.Machine
end

