-- ==== Sys2Proof/Machine/History.lean ====
section
/-! DEFINITION. The event history MGT keeps (chapter 18): committing records into the two logs, the freeze and its
stage, and the store of RWK words with their wear. -/

namespace Sys2Proof.Machine

/-! ### Severity (R612) -/

/-- Codes of severity SAFETY. -/
def safetyCodes : List Nat :=
  [0x0401, 0x0402, 0x0403, 0x0409, 0x0410, 0x0421, 0x0541, 0x0504, 0x0412, 0x0C23]

/-- Codes of severity FAULT. -/
def faultCodes : List Nat :=
  [0x0602, 0x0702, 0x0802, 0x0902, 0x0601, 0x0701, 0x0801, 0x0901, 0x0530, 0x0A01, 0x0B04, 0x0302, 0x0220, 0x0212,
   0x0231, 0x0232, 0x0002, 0x0011, 0x040A, 0x0260]

/-- Codes of severity WARNING. -/
def warningCodes : List Nat :=
  [0x0210, 0x0211, 0x0230, 0x0501, 0x0502, 0x0503, 0x0540, 0x0405, 0x0406, 0x0C20, 0x0C01, 0x0C33, 0x0103, 0x0101,
   0x0001, 0x0106, 0x0003, 0x0122, 0x0124, 0x0303, 0x0246, 0x0243, 0x0A13, 0x0010, 0x0263, 0x0264, 0x0021] ++
  [0x0621, 0x0721, 0x0821, 0x0921, 0x0629, 0x0729, 0x0829, 0x0929]

/-- Severity of a code; data byte 21 decides for TAMPER and BLOCK_TEST (R612). -/
def severity (code : Nat) (data : List Byte) : Nat :=
  let b := (data.getD 1 0).toNat
  if code = 0x0020 then (if b = 1 then 3 else 1)
  else if code % 256 = 0x7F then (if b = 2 || b = 3 then 2 else if b = 1 || b = 4 then 1 else 0)
  else if safetyCodes.contains code then 3
  else if faultCodes.contains code then 2
  else if warningCodes.contains code then 1
  else 0

/-! ### Committing -/

/-- What a commit touches: the persistent array, the recorder and the persistence lanes, with the present device time and wall
time, and whether MGT has set device time since it started and so commits records (R615). -/
structure Hist where
  persist  : Persist
  recorder : Recorder
  lanes    : List LaneItem
  dev      : Nat
  wsec     : Word
  wfrac    : BitVec 16
  up       : Bool
  deriving DecidableEq, Repr

def State.hist (s : State) : Hist :=
  { persist := s.persist, recorder := s.recorder, lanes := s.lanes, dev := s.dev, wsec := s.aon.rtcSec,
    wfrac := s.aon.rtcFrac, up := s.aon.mgtUp }

/-- The device with a commit's result. -/
def State.withHist (s : State) (h : Hist) : State :=
  { s with persist := h.persist, recorder := h.recorder, lanes := h.lanes }

/-- The first 30 bytes of a record's line (R609). -/
def recordBody (seq : Word) (dt : Nat) (wsec : Word) (wfrac : BitVec 16) (r : TapRec) : List Byte :=
  leBytes 4 seq.toNat ++ leBytes 6 dt ++ leBytes 4 wsec.toNat ++ leBytes 2 wfrac.toNat ++ leBytes 2 r.code.toNat ++
    leBytes 1 (r.code.toNat / 256) ++ leBytes 1 (severity r.code.toNat r.data) ++
    (r.data ++ List.replicate 10 0).take 10

/-- The 32 bytes of a record's line, MARK last (R609, R610). -/
def recordLine (body : List Byte) : RecBytes := body ++ leBytes 2 (crc16 body).toNat

/-- A line's MARK matches its content (R610). -/
def lineValid (l : RecBytes) : Bool := l.length == 32 && leAt l 30 2 == (crc16 (l.take 30)).toNat

/-- MGT commits one record: the next SEQ, a DTIME never below the last, the wall time, both logs (R611, R614, R616). -/
def Hist.commit (h : Hist) (r : TapRec) : Hist :=
  let p := h.persist
  let dt := max r.dtime h.recorder.lastDt
  let w := r.wall.getD (h.wsec, h.wfrac)
  let line := recordLine (recordBody p.nextSeq dt w.1 w.2 r)
  let comm := p.commissioned || r.code == 0x0265
  let born := comm && p.bcount < 8192
  let p := { p with
    circ := p.circ.set [] p.circLine line, circLine := (p.circLine + 1) % 49152,
    circHeld := min (p.circHeld + 1) 49152, nextSeq := p.nextSeq + 1, commissioned := comm,
    birth := if born then p.birth.set [] p.bcount line else p.birth,
    bcount := if born then p.bcount + 1 else p.bcount }
  { h with persist := p, recorder := { h.recorder with lastDt := dt } }

/-- MGT holds a record in the stage of a freeze; a full stage loses its oldest (R621, R622). -/
def Hist.hold (h : Hist) (r : TapRec) : Hist :=
  let c := h.recorder
  let i := r.code.toNat / 256
  if c.stage.length < 256 then { h with recorder := { c with stage := c.stage ++ [(i, r)] } }
  else
    { h with recorder := { c with stage := c.stage.tail ++ [(i, r)], stageDrop := satInc c.stageDrop,
                                  freezeDrop := satInc c.freezeDrop } }

/-- MGT takes a record: committed, or held while frozen (R614, R621). A REC_LOST adds what it reports to TAPDROP. -/
def Hist.submit (h : Hist) (r : TapRec) : Hist :=
  let h := if r.code == 0x0260 then
      { h with recorder := { h.recorder with tapDrop := satAdd h.recorder.tapDrop (leAt r.data 1 4) } }
    else h
  if h.recorder.frozen then h.hold r else h.commit r

/-- The tap head that MGT takes next: the smallest DTIME, the lower island first (R614, R632). -/
def nextHead (taps : Tbl RecTap) : Option (Nat × TapRec) :=
  taps.foldl (fun m e =>
    match e.2.recs, m with
    | [], _ => m
    | r :: _, none => some (e.1, r)
    | r :: _, some b => if r.dtime < b.2.dtime then some (e.1, r) else m) none

/-- A tap after its head is taken: when records were dropped, REC_LOST takes the room (R613). -/
def RecTap.takeHead (i dev : Nat) (t : RecTap) : RecTap :=
  let t := { t with recs := t.recs.tail }
  if t.dropped == 0 then t
  else
    let lost : TapRec :=
      { dtime := dev, code := 0x0260, data := leBytes 1 i ++ leBytes 4 t.dropped.toNat, wall := none }
    { recs := t.recs ++ [lost], dropped := 0 }

/-- MGT takes the head of tap `i` (R614). -/
def Hist.takeFrom (h : Hist) (i : Nat) (r : TapRec) : Hist :=
  let taps := h.recorder.taps.modify RecTap.reset i (RecTap.takeHead i h.dev)
  Hist.submit { h with recorder := { h.recorder with taps := taps } } r

/-- MGT takes the next tap head (R614). -/
def Hist.takeNext (h : Hist) : Hist :=
  match nextHead h.recorder.taps with
  | none => h
  | some (i, r) => h.takeFrom i r

/-- Commit every record the taps hold, as within the hold-up of a reset (R624). -/
def Hist.drain (h : Hist) : Nat → Hist
  | 0 => h
  | n + 1 => Hist.drain h.takeNext n

/-- Commit the tap heads that R614 and R632 take before a record that MGT writes now: an earlier DTIME, or the same from a lower
island. -/
def Hist.drainDue (h : Hist) : Nat → Hist
  | 0 => h
  | n + 1 =>
    match nextHead h.recorder.taps with
    | none => h
    | some (i, r) => if r.dtime < h.dev || (r.dtime == h.dev && i < 2) then Hist.drainDue (h.takeFrom i r) n else h

/-- A record of MGT takes its place behind the heads that come before it (R614). Before MGT has set device time it waits in
MGT's own tap (R613, R615). -/
def Hist.place (h : Hist) (r : TapRec) : Hist :=
  if h.up then (h.drainDue 256).submit r
  else { h with recorder := { h.recorder with taps := h.recorder.taps.modify RecTap.reset 2 (RecTap.place r) } }

/-- A record of MGT, stamped now. -/
def Hist.stamp (h : Hist) (code : Nat) (data : List Byte) : TapRec :=
  { dtime := h.dev, code := BitVec.ofNat 16 code, data := data, wall := none }

/-! ### RWK words and the persistence lanes -/

/-- The wear counter has passed 10^10 (R630). -/
def RwkCell.worn (c : RwkCell) : Bool := 10000000000 < c.wear

/-- The cell of an RWK register. -/
def Persist.cell (p : Persist) (a : Nat) : RwkCell := p.rwk.get (rwkDefault a) a

/-- A value on a lane reaches the array (R25, R629). -/
def Persist.storeLane (p : Persist) (x : LaneItem) : Persist :=
  match x with
  | .rwk a w => p.store a w
  | .held outs src => { p with held := outs, heldBy := src }

/-- The register whose wear counter passes its rating as a value is stored (R630). -/
def Persist.wears (p : Persist) (x : LaneItem) : Option Nat :=
  match x with
  | .rwk a w => if ((p.store a w).cell a).worn && !(p.cell a).worn then some a else none
  | .held .. => none

/-- WORD_WORN (R630). -/
def Hist.wordWorn (h : Hist) (a : Nat) : Hist := h.place (h.stamp 0x0264 (leBytes 4 a))

/-- MGT serves the persistence lanes, ahead of every record: the values are stored, and WORD_WORN follows for each register
whose counter passed its rating (R25, R629, R630). -/
def Hist.serveLanes (h : Hist) : Hist :=
  let r := h.lanes.foldl (fun (r : Persist × List Nat) x => (r.1.storeLane x, r.2 ++ (r.1.wears x).toList)) (h.persist, [])
  r.2.foldl Hist.wordWorn { h with persist := r.1, lanes := [] }

/-- MGT commits a record of its own (or holds it while frozen), with the persistence lanes served ahead of it (R25). -/
def Hist.own (h : Hist) (code : Nat) (data : List Byte) : Hist :=
  let h := h.serveLanes
  h.place (h.stamp code data)

/-- MGT commits a record of its own. -/
def State.commitNote (s : State) (code : Nat) (data : List Byte := []) : State := s.withHist (s.hist.own code data)

/-- The end of a freeze: the stage is committed in order, then REC_UNFREEZE takes its place (R623, R632). -/
def Hist.endFreeze (h : Hist) : Hist :=
  if h.recorder.frozen then
    let h := h.serveLanes
    let st := h.recorder.stage
    let drop := h.recorder.freezeDrop
    let ms := satWordU (msOf (h.dev - h.recorder.frozenAt))
    let h := { h with recorder := { h.recorder with frozen := false, stage := [], freezeDrop := 0 } }
    let h := st.foldl (fun h e => h.commit e.2) h
    h.own 0x0262 (leBytes 2 st.length ++ leBytes 2 drop.toNat ++ wordBytes ms)
  else h

/-- MGT serves the oldest value on the lanes; a WORD_WORN it leads to waits for the others (R25, R630). -/
def Hist.storeOldest (h : Hist) : Hist :=
  match h.lanes with
  | [] => h
  | x :: rest =>
    let g := { h with persist := h.persist.storeLane x, lanes := rest }
    match h.persist.wears x with
    | some a => g.own 0x0264 (leBytes 4 a)
    | none => g

/-- MGT stores an RWK value that a port wrote and commits WORD_WORN when the counter passes its rating (R629, R630). -/
def Hist.storeRwk (h : Hist) (a : Nat) (w : Word) : Hist :=
  let g := { h with persist := h.persist.store a w }
  match h.persist.wears (.rwk a w) with
  | some a => g.own 0x0264 (leBytes 4 a)
  | none => g

/-- The values on the persistence lanes reach the array (R25, R118). -/
def State.flushLanes (s : State) : State := s.withHist s.hist.serveLanes

/-! ### Power loss in a write, and what MGT finds at its start (R619, R620) -/

/-- A line that loses its supply after `n` of its writes: the old mark's complement, where the line held a record, then bytes 0
to 29 in order; the new mark is the last (R619). -/
def tornLine (old new : RecBytes) (n : Nat) : RecBytes :=
  if n = 0 then old
  else
    let spoilt := if old.length = 32 then old.take 30 ++ (old.drop 30).map (~~~ ·) else old
    new.take (min (n - 1) 30) ++ spoilt.drop (min (n - 1) 30)

/-- The supply goes while MGT commits a record, after `n` of the 64 writes of its two lines: the circulating line is torn, or
whole and the birth line torn, or both are whole (R616, R619, R632). -/
def Hist.tear (h : Hist) (r : TapRec) (n : Nat) : Hist :=
  let full := h.commit r
  let p := h.persist
  let j := p.circLine
  if n < 32 then
    { h with persist := { p with circ := p.circ.set [] j (tornLine (p.circ.get [] j) (full.persist.circ.get [] j) n) } }
  else if n < 64 && full.persist.bcount != p.bcount then
    { full with persist := { full.persist with
        birth := p.birth.set [] p.bcount (tornLine [] (full.persist.birth.get [] p.bcount) (n - 32)), bcount := p.bcount } }
  else full

/-- What a loss of VMAIN without PFAIL's hold-up does to the history: the values on the lanes are in the array, the record that
MGT was committing stands or its line is torn, as free values say, and every other record that waits is lost (R25, R99, R619,
R632). -/
def State.loseRecords (s : State) : State :=
  let h := s.hist.serveLanes
  let next := match h.recorder.stage, nextHead h.recorder.taps with
    | [], some (_, r) => if h.up && !h.recorder.frozen then some r else none
    | _, _ => none
  let h := match next with
    | some r => h.tear r ((Config.freeWord s.fresh).toNat % 65)
    | none => h
  { s.withHist h with fresh := s.fresh + 1 }

/-- The valid lines of a log, by line and SEQ (R610). -/
def validLines (t : Tbl RecBytes) : List (Nat × Word) :=
  t.filterMap fun e => if lineValid e.2 then some (e.1, BitVec.ofNat 32 (leAt e.2 0 4)) else none

/-- The newest of some lines, SEQ taken modulo 2^32 (R620). -/
def newestLine (ls : List (Nat × Word)) : Option (Nat × Word) :=
  ls.foldl (fun m e =>
    match m with
    | none => some e
    | some b => if 0 < sDiff e.2 b.2 then some e else m) none

/-- How many birth-log lines hold anything, valid or not (R620). -/
def usedLines (t : Tbl RecBytes) : Nat := min 8192 (t.foldl (fun n e => max n (e.1 + 1)) 0)

/-- MGT looks at both logs as it starts: the next record takes the line after the newest valid one and its SEQ plus 1, an empty
log starts at SEQ 0, and an invalid birth-log line counts as used (R620). -/
def Persist.scanLogs (p : Persist) : Persist :=
  let ls := validLines p.circ
  let p := { p with bcount := max p.bcount (usedLines p.birth) }
  match newestLine ls with
  | none => { p with nextSeq := 0, circLine := 0, circHeld := 0 }
  | some (j, q) => { p with nextSeq := q + 1, circLine := (j + 1) % 49152, circHeld := min 49152 ls.length }

/-! ### The AON log's copy -/

/-- MGT copies the AON log into the recorder entry by entry (R628). -/
def Hist.copyAon (h : Hist) (es : List (AonEntry × Nat)) : Hist :=
  es.foldl (fun h e =>
    if e.1.crcOk then
      h.submit { dtime := h.dev, code := e.1.code, data := e.1.data.take 6 ++ leBytes 1 e.2 ++ [0x01],
                 wall := some (e.1.wsec, e.1.wfrac) }
    else h) h

/-- The copy of R628: the entries, AON_LOG_FULL for AONLOST, and the log cleared. -/
def State.copyAonLog (s : State) : State :=
  let h := { s.hist with up := true }.copyAon s.aon.log.zipIdx
  let h := if s.aon.lost == 0 then h else h.own 0x0021 (leBytes 4 s.aon.lost.toNat)
  let bad := (s.aon.log.filter fun e => !e.crcOk).length
  { s.withHist h with aon := { s.aon with log := [], lost := 0, bad := satAdd (0 : BitVec 8) bad, mgtUp := true } }

/-! ### The commands that need nothing but the history -/

/-- RECORD_TAP_WRITE: an island places a record in its tap (R613), under a code whose high byte is its own number (R17). -/
def execRecordTapWrite (i : Island) (code : BitVec 16) (data : List Byte) (s : State) :
    Host.Outcome State Fault Refusal :=
  .next { s with recorder := s.recorder.put s.dev (islandNum i) (islandNum i * 256 + code.toNat % 256) data }

/-- MGT takes the next record, with the persistence lanes served ahead of it (R25, R614). -/
def State.commitRecord (s : State) : State :=
  let s := s.flushLanes
  s.withHist s.hist.takeNext

/-- RECORD_COMMIT (R614): MGT commits no record before it has set device time (R615). -/
def execRecordCommit (s : State) : Host.Outcome State Fault Refusal :=
  .next (if s.aon.mgtUp then s.commitRecord else s)

/-- PERSIST_LANE_WRITE: the oldest value on the lanes is stored (R25). -/
def execPersistLaneWrite (s : State) : Host.Outcome State Fault Refusal := .next (s.withHist s.hist.storeOldest)

/-- MGT stores DTMARK, the present device time, once it has set it (R615). -/
def State.storeDtmark (s : State) : State :=
  if s.aon.mgtUp then { s with persist := { s.persist with dtMark := s.dev } } else s

/-- DTMARK_STORE (R615). -/
def execDtmarkStore (s : State) : Host.Outcome State Fault Refusal := .next s.storeDtmark

/-- A read of AON_RTCSEC latches AON_RTCFRAC (R635). -/
def State.latchRtc (s : State) : State := { s with aon := { s.aon with fracLatch := s.aon.rtcFrac } }

/-- RTCSEC_READ (R635). -/
def execRtcsecRead (s : State) : Host.Outcome State Fault Refusal :=
  .next (s.atMgt State.latchRtc)

/-- The wear counter MGT_WEARSEL selects: none for an address that is no RWK register's (R634). -/
def State.wearCell (s : State) : Option RwkCell :=
  let a := (s.reg .MGT_WEARSEL).toNat
  match locate a with
  | some (r, _) => if r.fields.any (·.acc == .rwk) then some (s.persist.cell a) else none
  | none => none

/-- The word MGT_WEARHI shows for a cell (R634). -/
def wearHiWord (c : Option RwkCell) : Word :=
  match c with
  | some c => BitVec.ofNat 32 (bit c.worn * 2 ^ 31 + c.wear / 2 ^ 32 % 256)
  | none => 0

/-- A read of MGT_WEARLO latches MGT_WEARHI (R634). -/
def State.latchWear (s : State) : State :=
  { s with recorder := { s.recorder with wearHi := wearHiWord s.wearCell } }

/-- WEARLO_READ (R634). -/
def execWearloRead (s : State) : Host.Outcome State Fault Refusal :=
  .next (s.atMgt State.latchWear)

/-! ### The tamper watch (R627) -/

/-- The input reads normal in its mode: NC low, NO high, LOOP high in the pulse and low just before it. -/
def tamperNormal (mode : Nat) (before pulse : Bool) : Bool :=
  match mode with
  | 1 => !pulse
  | 2 => pulse
  | _ => pulse && !before

/-- One tamper input's sample: its state after it, and the TAMPER entry's data when it makes one. -/
def Tamper.sample (t : Tamper) (now : Nat) (i : Nat) (normal : Bool) : Tamper × Option (List Byte) :=
  if normal != t.alarm then ({ t with pend := false }, none)
  else if !t.pend then ({ t with pend := true }, none)
  else
    let t := { t with alarm := !normal, pend := false }
    let recent := t.entries.filter fun e => now < e + 3600
    if recent.length < 8 then
      ({ t with entries := now :: recent, excess := 0 },
        some (leBytes 1 i ++ leBytes 1 (if normal then 0 else 1) ++ leBytes 2 t.excess.toNat))
    else ({ t with entries := recent, excess := satInc t.excess }, none)

/-- AON samples input `i`: AON_TAMPCFG enables it, and the image that enabled the vault-watch uses its pad (R49, R627). -/
def State.tamperOn (s : State) (i : Nat) : Bool := s.AON_TAMPCFG_MODE / 4 ^ i % 4 != 0 && s.aon.tampPads.getLsbD i

/-- One input of a tamper sample. -/
def State.tamperInput (s : State) (before pulse : BitVec 5) (i : Nat) : State :=
  let mode := s.AON_TAMPCFG_MODE / 4 ^ i % 4
  if !s.tamperOn i then s
  else
    let r := (s.aon.tampers.get Tamper.reset i).sample s.aon.rtcSec.toNat i
      (tamperNormal mode (before.getLsbD i) (pulse.getLsbD i))
    let s := { s with aon := { s.aon with tampers := s.aon.tampers.set Tamper.reset i r.1 } }
    match r.2 with
    | some d => s.aonNote 0x0020 d
    | none => s

/-- The watch of the tamper inputs runs: vault-watch instantiated, AON at work (R488), and an input to sample. -/
def State.tamperRuns (s : State) : Bool :=
  s.aon.vaultWatch && !s.quarantined 23 && (List.range 5).any s.tamperOn

/-- A sample: TAMPOUT's pulse of 61 µs begins, and every input is looked at, with the levels just before and in the pulse
(R627). -/
def State.tamperSample (s : State) (before pulse : BitVec 5) : State :=
  (List.range 5).foldl (fun s i => s.tamperInput before pulse i) { s with aon := { s.aon with pulseUs := 61 } }

/-- TAMPER_SAMPLE (R627). -/
def execTamperSample (before pulse : BitVec 5) (s : State) : Host.Outcome State Fault Refusal :=
  .next (if s.tamperRuns then s.tamperSample before pulse else s)

end Sys2Proof.Machine
end

