-- ==== Sys2Proof/Machine/Lease.lean ====
section
/-! DEFINITION. The lease issuer, epoch copies, the copy link, takeover and the allemande of chapter 17, and the
lattice pass with what follows it. -/

namespace Sys2Proof.Machine

/-! ### The lease issuer (R586 to R589) -/

/-- The issuer works: BUS works and a lease issuer is instantiated. -/
def State.issuerUp (s : State) : Bool := s.runs .bus && (s.tile 0x0C 0).isSome

/-- What a step of the issuer can change, with the lease number it issues. -/
structure Li where
  bc    : Bc
  linum : Word

def State.li (s : State) : Li := { bc := s.bc, linum := s.reg .BUS_LINUM }

/-- The device with the result; a new lease number goes to the persistent array (R25). -/
def State.withLi (s : State) (m : Li) : State :=
  let s' := s.withBc m.bc
  if m.linum = s.reg .BUS_LINUM then s' else s'.writeRwk .BUS_LINUM [] m.linum

def State.runLi (s : State) (ok : Bool) (f : Li → Li) : State := if ok then s.withLi (f s.li) else s

def Li.env (m : Li) : State := m.bc.env
def Li.issuer (m : Li) : Issuer := m.bc.issuer
def Li.upd (m : Li) (f : Issuer → Issuer) : Li := { m with bc := { m.bc with issuer := f m.bc.issuer } }
def Li.note (m : Li) (code : Nat) (data : List Byte) : Li := { m with bc := m.bc.note code data }

def Issuer.report (x : Issuer) (u : Bool) : Option Report := if u then x.repB else x.repA
def Issuer.setReport (x : Issuer) (u : Bool) (r : Option Report) : Issuer :=
  if u then { x with repB := r } else { x with repA := r }

/-- The unit's newest report while it is reachable (R586). -/
def Li.reachable (m : Li) (u : Bool) : Option Report :=
  (m.issuer.report u).filter fun r => decide (m.env.dev ≤ r.at_ + m.env.BUS_LICFG_REPLOSS * 1000)

/-- A reachable unit whose report shows ELIGIBLE (R586). -/
def Li.candidate (m : Li) (u : Bool) : Option Report := (m.reachable u).filter fun r => r.word0.getLsbD 3

def Report.active (r : Report) : Bool := getBits r.word0 2 1 == 1
def Report.release (r : Report) : Bool := r.word0.getLsbD 4

/-- The holder is declared lost (R586, R588). -/
def Li.lose (m : Li) (reason : Nat) : Li :=
  match m.issuer.holder with
  | none => m
  | some u =>
    let r := m.issuer.report u
    let rel := reason == 3
    let m := m.upd fun x =>
      { x with holder := none, lastHolder := some u, lostBy := BitVec.ofNat 8 reason, lostAt := m.env.dev, stat := .waiting,
               released := if rel then r.map (·.epoch) else none,
               waived := rel && (match r with | some r => r.word0.getLsbD 6 | none => false) }
    m.note 0x0C31 (leBytes 1 (bit u) ++ leBytes 1 reason)

/-- GUARD for a lease of `r` µs (R588). -/
def guard (r : Nat) : Nat := 1000 + r / 500

/-- A grant (R588, R608). -/
def Li.grant (m : Li) (u : Bool) (no : Word) (cause : Nat) : Li :=
  let m := { m with linum := no }
  let m := m.upd fun x =>
    { x with holder := some u, stat := .holding, grants := satInc x.grants, named := none, grantAt := m.env.dev,
             confirmed := false, released := none, waived := false }
  m.note 0x0C30 (leBytes 1 (bit u) ++ wordBytes no ++ leBytes 1 cause)

/-- A report of the holder declares it lost: released, or no longer ACTIVE. Until a report has shown it ACTIVE under its
lease, only from LEASEMS after the grant on (R586). -/
def Li.judge (m : Li) (u : Bool) (r : Report) : Li :=
  if m.issuer.holder != some u then m
  else if r.active && r.held == m.linum then m.upd fun x => { x with confirmed := true }
  else
    let ripe := m.issuer.confirmed || decide (m.issuer.grantAt + m.env.BUS_LICFG_LEASEMS * 1000 ≤ m.env.dev)
    if ripe && r.release then m.lose 3
    else if ripe && !r.active then m.lose 2
    else m

/-- In STARTING a unit that reports STATE ACTIVE while the other does not is granted at once, its report having shown it ACTIVE
(R586, R589). -/
def Li.adopt (m : Li) (u : Bool) (r : Report) : Li :=
  let other := match m.reachable (!u) with | some o => o.active | none => false
  if m.issuer.stat == .starting && r.active && !other then
    (m.grant u ((if 0 < sDiff r.held m.linum then r.held else m.linum) + 1) 1).upd fun x => { x with confirmed := true }
  else m

/-- A unit report staged at a device time reaches the issuer (R586, R589). One with a POISON word is no report. -/
def Li.takeReport (m : Li) (u : Bool) (it : Item) (at_ : Nat) : Li :=
  if it.poison then m
  else
    let r : Report := { word0 := it.words.headD 0, held := it.words.getD 1 0, epoch := it.words.getD 2 0, at_ := at_ }
    ((m.upd fun x => x.setReport u (some r)).judge u r).adopt u r

/-- The reports staged for unit `u` at 0x0CF0 + u. -/
def Li.drainReports (m : Li) (u : Bool) : Li :=
  let q := m.bc.qf.takeAllStaged (0x0CF0 + bit u) 8
  q.1.foldl (fun m e => m.takeReport u e.1 e.2) { m with bc := { m.bc with qf := q.2 } }

/-- The unit's report has aged past REPLOSS (R586). -/
def Li.reportLoss (m : Li) (u : Bool) : Li :=
  let m := m.upd fun x => x.setReport u none
  if m.issuer.holder == some u then m.lose 1 else m

/-- Reports that have aged past REPLOSS by now. -/
def Li.age (m : Li) (u : Bool) : Li :=
  if (m.issuer.report u).isSome && (m.reachable u).isNone then m.reportLoss u else m

/-- What has arrived and what has aged by now. -/
def Li.refresh (m : Li) : Li := (((m.drainReports false).drainReports true).age false).age true

/-- UNIT_REPORT (R586). -/
def execUnitReport (u : Bool) (it : Item) (s : State) : Host.Outcome State Fault Refusal :=
  .next (s.runLi s.issuerUp fun m => m.takeReport u it s.dev)

/-- The newest report of a unit ages past REPLOSS; one that is staged meanwhile keeps the unit reachable (R586). -/
def Li.lossDue (m : Li) (u : Bool) : Li :=
  let waits := !(m.bc.qf.takeAllStaged (0x0CF0 + bit u) 8).1.isEmpty
  let m := m.drainReports u
  if waits && (m.reachable u).isSome then m else m.reportLoss u

/-- REPORT_LOSS (R586). -/
def execReportLoss (u : Bool) (s : State) : Host.Outcome State Fault Refusal :=
  .next (s.runLi s.issuerUp fun m => m.lossDue u)

/-- A write of BUS_LICTL (R586, R606). -/
def State.writeLictl (s : State) (w : Word) : State := s.runLi (s.issuerUp && w.getLsbD 0) fun m => m.lose 4

/-- A build: every transmitting LEASE connection gets its frame, with the present LEASENO (R585, R587). -/
def Li.build (m : Li) : Li :=
  let m := m.refresh
  let m := { m with bc := { m.bc with env := m.bc.env.setReg .BUS_LINUM [] m.linum } }
  { m with bc := (List.range m.env.connCount).foldl (fun b c => if (b.conn c).kind = 2 then b.buildFrame c else b) m.bc }

/-- LEASE_BUILD (R587). -/
def execLeaseBuild (s : State) : Host.Outcome State Fault Refusal := .next (s.runLi s.issuerUp Li.build)

/-- The wait before a grant is over: the one of the issuer's start in every case, and that for the last frame that named a lost
holder unless its release waived it (R588, R589). -/
def Li.waited (m : Li) : Bool :=
  let x := m.issuer
  let start := m.env.BUS_LICFG_LEASEMS * 1000
  decide (x.startAt + start + guard start ≤ m.env.dev) &&
    (x.stat == .starting || x.waived || (match x.named with
      | some (tb, r) => decide (tb + r + guard r ≤ m.env.dev)
      | none => true))

/-- The candidate a grant takes (R588): after a release the peer, once its copy is fresh and has reached the final
epoch, or the releasing unit again after LEASEMS. -/
def Li.choose (m : Li) : Option Bool :=
  let x := m.issuer
  let a := (m.candidate false).isSome
  let b := (m.candidate true).isSome
  match x.lastHolder with
  | none =>
    let pref := m.env.BUS_LICFG_PREFER == 1
    if a && b then some pref else if a then some false else if b then some true else none
  | some u =>
    let peerOk : Bool := match m.candidate (!u), x.released with
      | some r, some e => getBits r.word0 11 10 == 1 && decide (0 ≤ sDiff r.epoch e)
      | some _, none => true
      | none, _ => false
    let ownOk := (m.candidate u).isSome &&
      (x.released.isNone || decide (x.lostAt + m.env.BUS_LICFG_LEASEMS * 1000 ≤ m.env.dev))
    if peerOk then some (!u) else if ownOk then some u else none

/-- A grant once the wait is over and a candidate exists (R588). -/
def Li.tryGrant (m : Li) : Li :=
  let m := m.refresh
  if m.issuer.stat == .off || m.issuer.holder.isSome || !m.waited then m
  else match m.choose with
    | none => m
    | some u =>
      let cause : Nat := if m.issuer.stat == .starting then 1 else match m.issuer.lostBy.toNat with
        | 3 => 3
        | 4 => 4
        | _ => 2
      m.grant u (m.linum + 1) cause

/-- REF_GRANT (R588). -/
def execRefGrant (s : State) : Host.Outcome State Fault Refusal := .next (s.runLi s.issuerUp Li.tryGrant)

/-- The issuer at an island start (R589). -/
def Bc.startIssuer (m : Bc) : Bc :=
  { m with issuer := if (m.env.tile 0x0C 0).isSome then { Issuer.reset with stat := .starting, startAt := m.env.dev }
                     else Issuer.reset }

/-- The copy link at an island start (R597, R607). -/
def Bc.startCopy (m : Bc) : Bc :=
  { m with copy := { Copy.reset with epcfg := m.env.reg .BUS_EPCFG, epctl := m.env.reg .BUS_EPCTL, linkFellAt := m.env.dev,
                                     committed := m.env.persist.committedEpoch } }

/-! ### The allemande (R603) -/

/-- A LIVE session stands on the unit's scheduler. -/
def State.liveSession (s : State) : Bool := s.sched.open_.any fun e => e.2.stat == .live

/-- The REASON of the first condition of step 1 that fails, 0 when all hold (R603, R605). -/
def State.handReason (s : State) : Nat :=
  if s.gate.stat != .active then 7
  else if s.restReason ≠ 0 then 1
  else if s.liveSession then 2
  else if !s.copy.linkOk then 3
  else if !s.copy.peerEligible then 4
  else 0

/-- End an allemande ABORTED. -/
def State.handAbort (s : State) (reason : Nat) : State := s.runSf true fun m => m.handAbort (BitVec.ofNat 4 reason)

/-- The allemande follows its conditions: DEFERRED until they hold, ABORTED when one fails before RELEASED (R603). -/
def State.handStep (s : State) : State :=
  let why := s.handReason
  match s.gate.hstate with
  | .deferred =>
    { s with gate := { s.gate with hstate := if why = 0 then .finalEpoch else .deferred, hreason := BitVec.ofNat 4 why } }
  | .finalEpoch => if why = 0 then s else s.handAbort why
  | _ => s

/-- LATTICE_PASS (R453), with what follows the gate's STATE and the allemande's conditions. -/
def execLatticePass (ups : List Upset) (s : State) : Host.Outcome State Fault Refusal :=
  .next (if s.latticeRuns then ((s.runGate true fun m => m.pass ups).takeNvo).handStep else s)

/-- A write of SFI_LSCTL: CANCEL, then HANDOVER on the ACTIVE unit; one while an allemande runs is ignored (R603, R604). -/
def State.writeLsctl (s : State) (w : Word) : State :=
  if !(s.sfiUp && s.leaseImage) then s
  else
    let s := if w.getLsbD 1 then s.handAbort 6 else s
    let g := s.gate
    if w.getLsbD 0 && g.stat == .active && g.hstate != .deferred && g.hstate != .finalEpoch then
      State.handStep { s with gate := { g with hstate := .deferred, hreason := 0 } }
    else s

/-! ### Epochs on the ACTIVE unit (R592 to R594) -/

/-- A section of an epoch: its header word and its words (R593). -/
def section_ (id : Nat) (ws : List Word) : List Word := BitVec.ofNat 32 (id + ws.length * 256) :: ws

/-- SFI's section: its words as of its last completed pass, as they stand before the first (R592, R593). -/
def State.sfiEpoch (s : State) : Word × Word := s.lattice.snap.getD (s.react.frstat, s.lattice.statWord)

/-- The content of an epoch, as bytes (R593). -/
def State.epochContent (s : State) : List Byte :=
  let sch := s.schEpoch
  let sfi := s.sfiEpoch
  wordsBytes (section_ 1 sch.1 ++ section_ 2 sch.2 ++ section_ 3 [sfi.1, sfi.2])

/-- The commit marker (R594). -/
def epochMarker (epoch : Word) (content : List Byte) (lease : Word) (dev : Nat) (final : Bool) : List Byte :=
  let b := leBytes 4 0x434F5045 ++ wordBytes epoch ++ leBytes 4 content.length ++ wordBytes (crc32 content) ++
    wordBytes lease ++ leBytes 6 dev ++ leBytes 1 (bit final) ++ [0]
  b ++ wordBytes (crc32 b)

/-- The data of an epoch's frames: the content frames in order, the commit frame last (R594). -/
def epochFrames (epoch : Word) (content marker : List Byte) : List (List Byte) :=
  let f := (content.length + 55) / 56
  let head (frag : Nat) : List Byte := wordBytes epoch ++ leBytes 2 frag ++ leBytes 2 f
  let pad (b : List Byte) : List Byte := b ++ List.replicate (56 - b.length) 0
  ((List.range f).map fun k => head k ++ pad ((content.drop (56 * k)).take 56)) ++ [head 0xFFFF ++ pad marker]

/-- LINKMS have passed since the commit frame of the epoch in progress (R592). -/
def State.epochOverdue (s : State) (r : EpochRun) : Bool :=
  match r.commitAt with
  | some t => !r.acked && decide (t + s.BUS_EPCTL_LINKMS * 1000 ≤ s.dev)
  | none => false

/-- Epoch e + 1 begins with the contributions of SCH and SFI, and its frames enter the transmit queue (R592 to R594). -/
def State.beginEpoch (s : State) : State :=
  let e := s.copy.seq + 1
  let final := s.gate.hstate == .finalEpoch
  let content := s.epochContent
  let frames := epochFrames e content (epochMarker e content s.gate.held s.dev final)
  let run : EpochRun := { epoch := e, final := final, todo := frames, commitAt := none, acked := false }
  let s := { s with copy := { s.copy with seq := e, run := some run },
                    gate := if final then { s.gate with finalEpoch := e } else s.gate }
  s.withBc (s.bc.feedCopy 32)

/-- A boundary of EPMS: the epoch in progress is given up when overdue, and the next begins once it is acknowledged or
given up (R592, R603). -/
def State.epochStep (s : State) : State :=
  let s := s.handStep
  match s.copy.run with
  | none => s.beginEpoch
  | some r =>
    if s.epochOverdue r then
      let s := s.note 0x0C32 (wordBytes r.epoch ++ [1])
      let s := if r.final then s.handAbort 5 else s
      State.beginEpoch { s with copy := { s.copy with run := none } }
    else if r.acked then s.beginEpoch
    else s

/-- EPOCH_BEGIN (R592): on the ACTIVE unit. -/
def execEpochBegin (s : State) : Host.Outcome State Fault Refusal :=
  .next (if s.runs .bus && s.leaseImage && s.gate.stat == .active then s.epochStep else s)

/-! ### The copy link (R595, R597, R598) -/

/-- LINKOK returns as a frame of the peer is staged (R598, R602). -/
def State.linkBack (s : State) : State :=
  if s.copy.linkOk then s
  else
    State.note { s with copy := { s.copy with linkOk := true, linkQ := false } } 0x0C34
      (wordBytes (satWordU (msOf (s.dev - s.copy.linkFellAt))))

/-- A copy frame or acknowledgement of the peer is staged. -/
def State.linkSeen (s : State) : State := State.linkBack { s with copy := { s.copy with linkAt := some s.dev } }

/-- LINKOK falls: COPY is no longer FRESH, and no epoch begun so far makes it so (R597, R598, R602, R604). -/
def State.linkFault (s : State) : State :=
  if !s.copy.linkOk then s
  else
    let c := s.copy
    let assembly := c.assembly.map fun a => { a with linked := false }
    let ready := c.ready.map fun r => (r.1, false)
    let s := { s with copy := { c with
      assembly := assembly, ready := ready,
      linkOk := false, linkFellAt := s.dev, copy := if c.copy == CopyState.fresh then CopyState.stale else c.copy,
      linkQ := c.linkQ || s.gate.stat == LeaseState.standby } }
    (s.note 0x0C33 (leBytes 1 (leaseCode s.gate.stat) ++ leBytes 1 c.latestHolder.toNat)).handStep

/-- LINK_FAULT (R598). -/
def execLinkFault (s : State) : Host.Outcome State Fault Refusal :=
  .next (if s.runs .bus && s.leaseImage then s.linkFault else s)

/-- LINK_BACK (R598): a frame of the peer has been staged within LINKMS. -/
def execLinkBack (s : State) : Host.Outcome State Fault Refusal :=
  .next (if s.runs .bus && s.leaseImage &&
      (match s.copy.linkAt with | some t => decide (s.dev ≤ t + s.BUS_EPCTL_LINKMS * 1000) | none => false)
    then s.linkBack.handStep else s)

/-- An acknowledgement of the epoch in progress (R592, R603). -/
def State.epochAcked (s : State) (r : EpochRun) (ok : Bool) : State :=
  if ok then
    let s := { s with copy := { s.copy with run := some { r with acked := true }, ackedSeq := r.epoch } }
    if r.final && s.gate.hstate == .finalEpoch then
      let s := { s with gate := { s.gate with hstate := .released, hreason := 0 } }
      s.runGate true fun m => m.loseLease 3 .seeking
    else s
  else
    let s := State.note { s with copy := { s.copy with run := none } } 0x0C32 (wordBytes r.epoch ++ [2])
    if r.final then s.handAbort 5 else s

/-- The oldest acknowledgement staged (R595). -/
def State.takeAck (s : State) : State :=
  match s.copy.acks with
  | [] => s
  | d :: rest =>
    let s := State.linkSeen { s with copy := { s.copy with acks := rest, peerEligible := leAt d 5 1 % 2 == 1 } }
    let s := s.handStep
    match s.copy.run with
    | some r => if r.epoch == BitVec.ofNat 32 (leAt d 0 4) && !r.acked then s.epochAcked r (leAt d 4 1 == 0) else s
    | none => s

/-- EPOCH_ACK (R592): on the ACTIVE unit. -/
def execEpochAck (s : State) : Host.Outcome State Fault Refusal :=
  .next (if s.runs .bus && s.leaseImage then
      if s.gate.stat == .active then s.takeAck else { s with copy := { s.copy with acks := s.copy.acks.tail } }
    else s)

/-- A content frame joins the assembly; one of another epoch restarts it (R595). -/
def Copy.addFrame (c : Copy) (d : List Byte) (linked : Bool) : Copy :=
  let e := BitVec.ofNat 32 (leAt d 0 4)
  let f := (leAt d 4 2, (d.drop 8).take 56)
  match c.assembly with
  | some a =>
    if a.epoch = e then
      { c with assembly := some { a with frames := a.frames.filter (fun (x : Nat × List Byte) => x.1 != f.1) ++ [f] } }
    else { c with assembly := some { epoch := e, total := leAt d 6 2, frames := [f], linked := linked } }
  | none => { c with assembly := some { epoch := e, total := leAt d 6 2, frames := [f], linked := linked } }

/-- A content frame begins the assembly of an epoch (R595). -/
def Copy.begins (c : Copy) (d : List Byte) : Bool :=
  match c.assembly with
  | some a => a.epoch != BitVec.ofNat 32 (leAt d 0 4)
  | none => true

/-- MGT invalidates the marker of the buffer that takes an epoch, before its content: the epoch stays invalid there unless it is
committed (R596). -/
def Persist.invalidate (p : Persist) : Persist := { p with epochs := p.epochs.set none p.spareBuffer none }

/-- The content an assembly holds, none while a frame is missing. -/
def CopyAssembly.content (a : CopyAssembly) (len : Nat) : Option (List Byte) :=
  let at_ (k : Nat) : Option (List Byte) := (a.frames.find? fun x => x.1 == k).map (·.2)
  if (List.range a.total).all fun k => (at_ k).isSome then
    some (((List.range a.total).flatMap fun k => (at_ k).getD []).take len)
  else none

/-- Result of an epoch at its commit frame: 0 complete, 1 CRC mismatch, 2 frames missing (R595). -/
def Copy.result (c : Copy) (epoch : Word) (marker : List Byte) : Nat × List Byte :=
  match c.assembly.filter fun a => a.epoch == epoch with
  | none => (2, [])
  | some a =>
    match a.content (leAt marker 8 4) with
    | none => (2, [])
    | some b =>
      if markerOk marker && b.length == leAt marker 8 4 && (crc32 b).toNat == leAt marker 12 4 then (0, b) else (1, b)

/-- The acknowledgement enters the queue of EPCTRL as soon as that has room (R533, R595). -/
def State.sendAck (s : State) (epoch : Word) (result : Nat) : State :=
  let d := wordBytes epoch ++ leBytes 1 result ++ leBytes 1 (bit s.eligible) ++ [0, 0]
  s.runBc true fun m => Bc.feedAcks { m with copy := { m.copy with ackTodo := m.copy.ackTodo ++ [d] } }

/-- The commit frame: a marker of another lease is not accepted (R595). -/
def State.commitFrame (s : State) (d : List Byte) : State :=
  let e := BitVec.ofNat 32 (leAt d 0 4)
  let marker := (d.drop 8).take 32
  if BitVec.ofNat 32 (leAt marker 16 4) ≠ s.gate.high then s
  else
    let r := s.copy.result e marker
    let linked := match s.copy.assembly with | some a => a.linked | none => false
    let c := { s.copy with assembly := none }
    let c := if r.1 = 0 then { c with ready := some ({ content := r.2, marker := marker }, linked) } else c
    State.sendAck { s with copy := c } e r.1

/-- The oldest copy frame staged (R595). -/
def State.takeCopyFrame (s : State) : State :=
  match s.copy.frames with
  | [] => s
  | d :: rest =>
    let linked := s.copy.linkOk
    let s := State.linkSeen { s with copy := { s.copy with frames := rest } }
    if s.gate.stat != .standby then s
    else if leAt d 4 2 = 0xFFFF then s.commitFrame d
    else
      let s := if s.copy.begins d then { s with persist := s.persist.invalidate } else s
      { s with copy := s.copy.addFrame d linked }

/-- COPY_FRAME (R595): on the STANDBY unit. -/
def execCopyFrame (s : State) : Host.Outcome State Fault Refusal :=
  .next (if s.runs .bus && s.leaseImage then
      if s.gate.stat == .active then { s with copy := { s.copy with frames := s.copy.frames.tail } } else s.takeCopyFrame
    else s)

/-- MGT writes a complete epoch into the buffer that does not hold the newest valid marker, and COPY follows (R596,
R597). -/
def State.commitEpoch (s : State) : State :=
  match s.copy.ready with
  | none => s
  | some (b, linked) =>
    let c := s.copy
    let fresh := c.linkOk && (c.copy != .stale || linked)
    { s with persist := { s.persist with epochs := s.persist.epochs.set none s.persist.spareBuffer (some b) },
             copy := { c with ready := none, seq := b.epoch, committed := b.epoch, copy := if fresh then .fresh else .stale } }

/-- EPOCH_COMMIT (R596). -/
def execEpochCommit (s : State) : Host.Outcome State Fault Refusal := .next s.commitEpoch

/-! ### Takeover (R600, R601) -/

/-- The words of section `id` of an epoch's content. -/
def findSection (id : Nat) : Nat → List Word → Option (List Word)
  | 0, _ => none
  | n + 1, ws =>
    match ws with
    | [] => none
    | h :: rest =>
      let k := getBits h 23 8
      if getBits h 7 0 = id then some (rest.take k) else findSection id n (rest.drop k)

/-- The outputs whose HOLD an epoch's SFI section hands over (R601). -/
def inheritedMask (ws : List Word) : Option (BitVec 6) :=
  let f := ws.headD 0
  if f.getLsbD 0 then some ((f >>> 8).setWidth 6) else none

/-- MGT takes the newest valid epoch at a takeover, or rejects it; SCH and SFI load it (R403, R600, R601). -/
def State.takeover (s : State) : State :=
  let s := { s with gate := { s.gate with takeover := false } }
  let load (s : State) (c : Option (List Word × List Word)) : State :=
    if s.sched.stat == .off then s else s.withSc (s.sc.takeover c)
  match s.persist.newestEpoch with
  | none => load (s.commitNote 0x0251 [1, 0, 0, 0, 0]) none
  | some (_, b) =>
    let age := s.dev - leAt b.marker 20 6
    if (s.reg .BUS_EPMAXAGE).toNat * 1000000 < age then load (s.commitNote 0x0251 (2 :: wordBytes b.epoch)) none
    else
      let ws := bytesWords (b.content.length / 4) b.content
      let sec (i : Nat) := (findSection i 4 ws).getD []
      let s := s.commitNote 0x0250 (wordBytes b.epoch ++ leBytes 4 (msOf age) ++ leBytes 1 (copyCode s.copy.copy))
      let s := { s with react := { s.react with inherit := inheritedMask (sec 3) },
                        copy := { s.copy with seq := b.epoch, ackedSeq := b.epoch } }
      load s (some (sec 1, sec 2))

/-- SCH_TAKEOVER (R403, R600): the unit has become ACTIVE after its peer. -/
def execSchTakeover (s : State) : Host.Outcome State Fault Refusal :=
  .next (if s.gate.takeover then s.takeover else s)

end Sys2Proof.Machine
end

