-- ==== Sys2Proof/Machine/Tempo.lean ====
section
/-! DEFINITION. The tempo switch of chapter 01 (R36 to R43) and the power-fail warning of chapter 03 that it holds back
(R41, R98, R99). -/

namespace Sys2Proof.Machine

/-! ### PFAIL (R98, R99) -/

/-- QREM goes to the persistent array (R103). -/
def State.storeQrem (s : State) : State :=
  s.writeRwk .PWR_RESQREM [] (s.reg .PWR_RESQREM)

/-- PFAIL asserts: VMAIN_PFAIL, the freeze ends and its stage is committed, QREM and DTMARK are stored (R98, R615). -/
def State.pfailAssert (s : State) : State :=
  let s := s.note 0x0101
  (s.withHist s.hist.endFreeze).storeQrem.storeDtmark

/-- One PFAIL change is handled (R98, R99), unless PWR is quarantined (R488). -/
def State.pfailChange (s : State) (on : Bool) : State :=
  s.atPwr fun s => if on then s.pfailAssert else s.note 0x0102

/-- A PFAIL change reaches PWR: handled at once, or after the clocks have settled when a tempo switch runs (R41). -/
def State.pfailLine (s : State) (on : Bool) : State :=
  if s.supplies.pfail = on ∨ !s.supplies.vmainOk then s
  else
    let s := { s with supplies := { s.supplies with pfail := on } }
    if s.tempo.stat = .switching then
      { s with supplies := { s.supplies with pfailHeld := s.supplies.pfailHeld ++ [on] } }
    else s.pfailChange on

/-- The PFAIL changes that a tempo switch held back are handled in order (R41). -/
def State.releasePfail (s : State) : State :=
  s.supplies.pfailHeld.foldl State.pfailChange { s with supplies := { s.supplies with pfailHeld := [] } }

/-- VMAIN_PFAIL (R98). -/
def execVmainPfail (s : State) : Host.Outcome State Fault Refusal := .next (s.pfailLine true)

/-- PFAIL_CLEAR (R99, R115). -/
def execPfailClear (s : State) : Host.Outcome State Fault Refusal := .next (s.pfailLine false)

/-! ### The switch (R38 to R43) -/

/-- Island `i` has a section powered (R84, R86). -/
def State.islandOn (s : State) (i : Island) : Bool := s.power.gate.getLsbD (islandNum i)

/-- The islands that answer QUIESCE with QACK: those of MPI, MC0 to MC3, SEQ and SCH that are powered (R20, R84). -/
def State.quiesceIslands (s : State) : List Island :=
  [Island.mpi, .mc0, .mc1, .mc2, .mc3, .sch, .seq].filter s.islandOn

/-- The image permits a tempo mode (R39, R142). -/
def State.permits (s : State) (mode : Nat) : Bool :=
  match s.image with
  | some im => im.permit.getLsbD mode
  | none => false

/-- A GO ends in REFUSED: TEMPO_REFUSED with TARGET and REASON (R39, R43). -/
def State.tempoRefuse (s : State) (target reason : Nat) : State :=
  { s with tempo := { s.tempo with stat := .refused, reason := BitVec.ofNat 8 reason } }.note 0x0111
    (leBytes 1 target ++ leBytes 1 reason)

/-- A GO with TARGET (R39): ignored while SWITCHING, done at once with no switch, and so without a record (R43), refused, or
waiting for the rest conditions. -/
def State.tempoGo (s : State) (target : Nat) : State :=
  let mode := s.tempo.mode.toNat
  if s.tempo.stat = .switching ∨ s.quarantined 3 then s
  else if target = mode then
    { s with tempo := { s.tempo with stat := .done, reason := 0 } }
  else if target = 3 then s.tempoRefuse target 1
  else if !s.permits target then s.tempoRefuse target 2
  else
    { s with tempo := { s.tempo with stat := .deferred, reason := BitVec.ofNat 8 s.restReason,
                                     pendingTarget := BitVec.ofNat 2 target } }

/-- A write of SYS_TEMPO: TARGET is stored, and GO requests a switch to it (R36). -/
def State.writeSysTempo (s : State) (w : Word) : State :=
  let s := s.setReg .SYS_TEMPO [] (setBits (s.reg .SYS_TEMPO) 5 4 (getBits w 5 4))
  if w.getLsbD 8 then s.tempoGo (getBits w 5 4) else s

/-- TEMPO_GO: a write of SYS_TEMPO with GO (R39). -/
def execTempoGo (w : Word) (s : State) : Host.Outcome State Fault Refusal := .next (s.writeSysTempo (w ||| 0x100))

/-- The conditions of R38 are looked at: SWITCHING with QUIESCE, or DEFERRED with the REASON that stands (R37, R38). -/
def State.tempoCheck (s : State) : State :=
  if s.tempo.stat = .deferred ∧ !s.quarantined 3 then
    let why := s.restReason
    if why = 0 then
      { s with tempo := { s.tempo with stat := .switching, reason := 0, quiesce := true, qack := [] } }
    else { s with tempo := { s.tempo with reason := BitVec.ofNat 8 why } }
  else s

/-- TEMPO_SWITCH_START (R38). -/
def execTempoSwitchStart (s : State) : Host.Outcome State Fault Refusal := .next s.tempoCheck

/-- TEMPO_QUIESCE_ACK: island `i` has finished its sample and raises QACK (R41). -/
def execTempoQuiesceAck (i : Island) (s : State) : Host.Outcome State Fault Refusal :=
  .next (if s.tempo.quiesce && s.quiesceIslands.contains i && !s.tempo.qack.contains i then
    { s with tempo := { s.tempo with qack := s.tempo.qack ++ [i] } } else s)

/-- Every QACK has been seen (R41). -/
def State.allQuiet (s : State) : Bool := s.quiesceIslands.all fun i => s.tempo.qack.contains i

/-- Each door engine drops its observer's acceleration at a tempo switch (R366). -/
def Door.settleTempo (d : Door) : Door := { d with acc := 0 }

/-- The engines that match items by cycle number discard what was staged or sent to them before the switch (R228). -/
def State.dropNumbered (s : State) : State :=
  s.withQf ([0, 1, 2, 3].foldl (fun q i => (q.takeItems ((6 + i) * 0x100) (q.fabric.waitingCount ((6 + i) * 0x100))).2) s.qf)

/-- The switch completes: MODE, QUIESCE released, SWITCHES, old cycle numbers dropped (R228), TEMPO_CHANGE, then a PFAIL
that arrived meanwhile (R41, R43) and what the figures held back (R439). -/
def State.tempoDone (s : State) : State :=
  let old := s.tempo.mode
  let new := s.tempo.pendingTarget
  let s := { s with
    tempo := { s.tempo with mode := new, stat := .done, reason := 0, quiesce := false, qack := [],
                            switches := satInc s.tempo.switches }
    doors := (List.range 4).foldl (fun t i => t.modify Door.reset i Door.settleTempo) s.doors }
  (s.dropNumbered.note 0x0110 (leBytes 1 old.toNat ++ leBytes 1 new.toNat)).releasePfail.resumeFigures

/-- TEMPO_PLL_LOCKED (R41). -/
def execTempoPllLocked (s : State) : Host.Outcome State Fault Refusal :=
  .next (if s.tempo.stat == .switching && s.allQuiet then s.tempoDone else s)

end Sys2Proof.Machine
end

