-- ==== Sys2Proof/Machine/Field.lean ====
section
/-! DEFINITION. The field die (chapters 02 and 20): the start-up resistor check, the LE ports' limiters, overcurrent trips,
VFLD and the temperature shutdown. -/

namespace Sys2Proof.Machine

/-! ### The resistor check (R56 to R66, R683) -/

/-- A reading lies within 10 mV of an end of the probe's compliance window (R58). -/
def reachedEnd (v : Int) : Bool := decide (absInt v ≤ 10) || decide (absInt (v - 1500) ≤ 10)

/-- A pad's class, and whether step 4 decided it (R58). -/
def classifyPad (r : PadReading) : PadClass × Bool :=
  let dh := absInt (r.vh - r.voc)
  let dl := absInt (r.vl - r.voc)
  if dh < 90 then (.outOfBand, true)
  else if dh ≤ 980 && !reachedEnd r.vh then (if 500 ≤ r.voc then .pullup else .pulldown, true)
  else if 800 ≤ dl || reachedEnd r.vl then (.none, false)
  else (.outOfBand, false)

/-- The class a PINMUX record declares (R147). -/
def PinRec.declared (p : PinRec) : PadClass :=
  match p.decl.toNat with
  | 0 => .pulldown
  | 1 => .pullup
  | 2 => .none
  | _ => .notChecked

/-- The upper of the two joined pads of an SOn_HS terminal (R46, R683). -/
def upperHs (pad : Nat) : Bool := decide (327 ≤ pad) && decide (pad ≤ 350) && (pad - 327) % 4 == 1

def lowerHs (pad : Nat) : Bool := decide (327 ≤ pad) && decide (pad ≤ 350) && (pad - 327) % 4 == 0

/-- The pads measured: those the image declares with a class, a joined pair under its lower pad (R57, R149, R683). -/
def Image.checkedPads (im : Image) : List PinRec :=
  im.pins.filter fun p => p.declared != .notChecked && !upperHs p.pad

/-- A pad's reading (R57). -/
def readingOf (rs : List PadReading) (pad : Nat) : PadReading :=
  (rs.find? fun r => r.pad == pad).getD { pad := pad, voc := 0, vh := 0, vl := 0 }

/-- A pad's result (R58, R65, R66). -/
def padResult (rs : List PadReading) (p : PinRec) : PadResult :=
  let r := readingOf rs p.pad
  { checked := true, declared := p.declared, measured := (classifyPad r).1, voc := r.voc,
    dh := absInt (r.vh - r.voc), dl := absInt (r.vl - r.voc) }

/-- The results, a joined pair's under both of its pads (R683). -/
def padResults (rs : List PadReading) (pins : List PinRec) : Tbl PadResult :=
  pins.foldl (fun t p =>
    let x := padResult rs p
    let t := t.set PadResult.reset p.pad x
    if lowerHs p.pad then t.set PadResult.reset (p.pad + 1) x else t) []

/-- The data of a DEFRES_MISMATCH (R61). -/
def mismatchData (rs : List PadReading) (p : PinRec) : List Byte :=
  let r := readingOf rs p.pad
  let c := classifyPad r
  let d := if c.2 then absInt (r.vh - r.voc) else absInt (r.vl - r.voc)
  leBytes 2 p.pad ++ leBytes 1 (padClassCode p.declared) ++ leBytes 1 (padClassCode c.1) ++ wordBytes (satWord d) ++
    leBytes 1 (if c.2 then 4 else 5)

/-- The start blocks with BLOCK `b` (R136): PHASE 0xE, and the count of consecutive timeouts ends (R134). -/
def State.block (s : State) (b : BitVec 4) : State :=
  { s with start := { s.start with phase := 0xE, block := b }, aon := { s.aon with timeouts := 0 } }

/-- READY at a level, when the image uses the pad (R126). -/
def State.driveReady (s : State) (d : PadDrive) : State :=
  if s.padUsed 25 then { s with start := { s.start with readyPad := d } } else s

/-- The check ends with its readings (R58 to R61, R683). -/
def State.checkPads (s : State) (im : Image) (rs : List PadReading) : State :=
  let pins := im.checkedPads
  let bad := pins.filter fun p => (classifyPad (readingOf rs p.pad)).1 != p.declared
  let x := { s.defres with
    stat := if bad.isEmpty then .pass else .fail, results := padResults rs pins,
    firstPad := match bad with
      | p :: _ => BitVec.ofNat 9 p.pad
      | [] => 0
    fails := satAdd 0 bad.length }
  let s := { s with defres := x }
  if bad.isEmpty then { s with start := { s.start with phase := 6 } }.driveReady .low
  else
    let s := (bad.take 16).foldl (fun s p => s.commitNote 0x0230 (mismatchData rs p)) s
    (s.commitNote 0x0231 (leBytes 2 bad.length)).block 2

/-- DEFRES_CHECK_START: step 5 starts its check once VFLD is in range and no shutdown holds, and waits otherwise (R56,
R678). -/
def execDefresCheckStart (s : State) : Host.Outcome State Fault Refusal :=
  .next (if s.start.phase == 5 && (s.defres.stat == .notRun || s.defres.stat == .waitingVfld) then
    { s with defres := { s.defres with stat := if s.fieldUp then .running else .waitingVfld } } else s)

/-- DEFRES_WAIT_VFLD: the wait has lasted 1 s (R56). -/
def execDefresWaitVfld (s : State) : Host.Outcome State Fault Refusal :=
  .next (if s.defres.stat == .waitingVfld && !s.defres.waitNoted then
    { s with defres := { s.defres with waitNoted := true } }.commitNote 0x0233 else s)

/-- DEFRES_CHECK_COMPLETE (R58 to R60). A check that runs while VFLD leaves its range, or a shutdown begins, still ends with its
readings: R56 and R135 speak of other times, so this is the model's choice (log entry 18). -/
def execDefresCheckComplete (selfOk : Bool) (readings : List PadReading) (s : State) :
    Host.Outcome State Fault Refusal :=
  .next (if s.defres.stat == .running then
    match s.image with
    | none => s
    | some im =>
      if selfOk then s.checkPads im readings
      else ({ s with defres := { s.defres with stat := .probeError } }.commitNote 0x0232).block 2
    else s)

/-! ### LE ports and safety outputs (R67, R73, R74) -/

def Field.port (f : Field) (p : Nat) : LePort := f.ports.get LePort.reset p

def Field.setPort (f : Field) (p : Nat) (x : LePort) : Field := { f with ports := f.ports.set LePort.reset p x }

/-- LEP_LIMITER_ACT (R67, R73). -/
def execLepLimiterAct (p : Fin 32) (s : State) : Host.Outcome State Fault Refusal :=
  .next (if s.sfiUp then { s with field := s.field.setPort p.val { fault := true, acting := true } } else s)

/-- LEP_LIMITER_RELEASE (R67). -/
def execLepLimiterRelease (p : Fin 32) (s : State) : Host.Outcome State Fault Refusal :=
  .next { s with field := s.field.setPort p.val { s.field.port p.val with acting := false } }

/-- A write of SFI_LEPSTATp: a 1 clears FAULT unless the limiter still acts (R73). -/
def State.writeLepstat (s : State) (p : Nat) (w : Word) : State :=
  let x := s.field.port p
  if w.getLsbD 4 && !x.acting then { s with field := s.field.setPort p { x with fault := false } } else s

/-- An output exceeds its trip current: SO_OVC, and the cause is latched (R74, R472). -/
def Sf.overcurrent (m : Sf) (k : Nat) : Sf :=
  Sf.latchCause { m with field := { m.field with overcurrent := m.field.overcurrent ||| (1#6 <<< k) } } k 5

/-- SO_OVERCURRENT_TRIP (R74). -/
def execSoOvercurrentTrip (k : Fin 6) (s : State) : Host.Outcome State Fault Refusal :=
  .next (s.runSf s.sfiUp fun m => m.overcurrent k.val)

/-! ### VFLD and the temperature shutdown (R79, R678 to R681) -/

/-- The outputs follow the field die's supply (R79, R470). -/
def State.settleOutputs (s : State) : State := s.runSf s.sfiUp Sf.settle

/-- FIELD_OVERTEMP (R678, R680). -/
def execFieldOvertemp (s : State) : Host.Outcome State Fault Refusal :=
  .next (if s.field.shutdown then s
    else State.settleOutputs
      ({ s with field := { s.field with shutdown := true } }.note 0x0109 (leBytes 1 s.supplies.fieldT.toNat)))

/-- FIELD_TEMP_OK (R678, R680). -/
def execFieldTempOk (s : State) : Host.Outcome State Fault Refusal :=
  .next (if s.field.shutdown then State.settleOutputs
      ({ s with field := { s.field with shutdown := false } }.note 0x010A (leBytes 1 s.supplies.fieldT.toNat))
    else s)

end Sys2Proof.Machine
end

