-- ==== Sys2Proof/Machine/Rescue.lean ====
section
/-! DEFINITION. The rescue energy of chapter 03 (R100 to R115): the battery account, the mains sense and the rescue
sequence. -/

namespace Sys2Proof.Machine

/-- The unit may carry out the rescue: no lease gate, or the lease held (R100). -/
def State.holdsLease (s : State) : Bool := !s.leaseImage || s.gate.stat == .active

/-- The rescue function exists: a MACHINE or MACHINE+GROUP image with a car axis, SRC not OFF (R100, R107). -/
def State.rescueExists (s : State) : Bool :=
  (s.role == some .machine || s.role == some .machineGroup) && s.carPlanner.isSome &&
    (s.PWR_RESCFG_SRC == 1 || s.PWR_RESCFG_SRC == 2)

/-- The sequence leaves or enters DISABLED with SRC (R107). -/
def State.rescueMode (s : State) : State :=
  if s.rescueExists && !s.start.rsti.contains .mpi then
    if s.rescue.stat = .disabled then { s with rescue := { s.rescue with stat := .idle } } else s
  else { s with rescue := { s.rescue with stat := .disabled, restart := false } }

/-- The sequence is between IDLE and an end (R107). -/
def RescueState.running (x : RescueState) : Bool :=
  x == .confirming || x == .stopping || x == .estimating || x == .moving || x == .doors

/-- The sequence has ended with the move queue locked (R107, R108). -/
def RescueState.ended (x : RescueState) : Bool := x == .done || x == .hold || x == .abandoned

/-- The REST line: the car-axis planner is idle with an empty move queue (R20, R105). -/
def State.carIdle (s : State) : Bool :=
  match s.carPlanner with
  | some p => (s.planners.get Planner.reset p).idle && !s.fabric.ready (0x0510 + p)
  | none => true

/-! ### The battery account (R102 to R104) -/

/-- The mean of the samples held, rounded (R102). -/
def meanOf (xs : List Word) : Int := rnDiv (xs.map sInt).sum xs.length

def Rescue.vavg (r : Rescue) : Int := meanOf r.vbs
def Rescue.iavg (r : Rescue) : Int := meanOf r.ibs

/-- A sample joins the last 100 (R102). -/
def Rescue.sample (r : Rescue) (vb ib : Word) : Rescue :=
  { r with vbs := (vb :: r.vbs).take 100, ibs := (ib :: r.ibs).take 100, stale := false }

/-- A battery item; one that is not two good words is not used. -/
def State.batteryItem (s : State) (it : Item) : State :=
  match it.words, it.poison with
  | [vb, ib], false => { s with rescue := s.rescue.sample vb ib }
  | _, _ => s

/-- An item of queue `n` comes from the source that SRC selects: motor engine MCSEL's battery port, or queue QUEUE (R102, R105). -/
def State.batterySource (s : State) (n : Nat) : Bool :=
  match s.PWR_RESCFG_SRC with
  | 1 =>
    match s.fabric.queue n with
    | some q => q.route.producer.toNat == (6 + s.PWR_RESCFG_MCSEL) * 0x100 + 0x0A
    | none => false
  | 2 => n == s.PWR_RESCFG_QUEUE
  | _ => false

/-- Up to `k` items staged at PWR's port 0x0100 are taken; those of the selected source are samples (R102). -/
def State.drainBattery (s : State) (k : Nat) : State :=
  match k with
  | 0 => s
  | k + 1 =>
    let x := s.qf.stagePort 0x0100
    match x.fabric.stage 0x0100 with
    | [] => s.withQf x
    | e :: _ =>
      let r := x.takeItem 0x0100
      let t := s.withQf r.2
      State.drainBattery (match r.1 with
        | some it => if s.batterySource e.queue then t.batteryItem it else t
        | none => t) k

/-- The account in µC takes a value, clamped to 0 to QCAP, and QREM shows it in mC rounded toward zero (R103). -/
def State.setCharge (s : State) (c : Int) : State :=
  let c := clampInt 0 (1000 * (s.PWR_RESQCAP : Int)) c
  { s with rescue := { s.rescue with charge := c } }.setReg .PWR_RESQREM [] (toWord (c / 1000))

/-- One millisecond of the latest battery current (R103). -/
def State.integrate (s : State) : State :=
  s.setCharge (s.rescue.charge - sInt (s.rescue.ibs.headD 0))

/-! ### The decision (R109) -/

/-- Ereq for a move of `e` mJ in `t` ms with a margin (R109). -/
def State.energyNeed (s : State) (e t : Int) (margin : Nat) : Int :=
  let need := rnDiv (max e 0 * 1000) s.PWR_RESETA + sInt (s.reg .PWR_RESEDOOR) + rnDiv (s.PWR_RESPAUX * t) 1000
  rnDiv (need * (1000 + margin)) 1000

/-- Eavail (R109). -/
def State.energyAvail (s : State) : Int := rnDiv ((s.PWR_RESQREM : Int) * s.PWR_RESVCUT) 1000

/-- Vmin (R109). -/
def State.vminAt (s : State) : Int :=
  s.rescue.vavg + rnDiv (s.rescue.iavg * s.PWR_RESRINT) 1000 - rnDiv ((s.PWR_RESIPK : Int) * s.PWR_RESRINT) 1000

/-- The direction of R109: true up; the smaller Emove, down on a tie. -/
def chooseDir (up down : Option Estimate) : Option (Bool × Estimate) :=
  match up, down with
  | some u, some d => if sInt u.emove < sInt d.emove then some (true, u) else some (false, d)
  | some u, none => some (true, u)
  | none, some d => some (false, d)
  | none, none => none

/-- The data of a decision record (R115). -/
def Rescue.data (r : Rescue) : List Byte :=
  wordBytes r.eavail ++ wordBytes r.ereq ++ leBytes 1 (bit r.dirUp) ++ leBytes 1 r.reason.toNat

/-- The sequence enters DONE, HOLD or ABANDONED; with mains back, and not once more reading lost, it returns to IDLE (R107,
R111). -/
def Rescue.finish (r : Rescue) (stat : RescueState) (reason : Nat) : Rescue :=
  { r with stat := if r.mainsOn && r.senseOn then .idle else stat, reason := BitVec.ofNat 4 reason, restart := false }

/-- A decision to hold: counted and recorded (R109, R114, R115). -/
def State.decideHold (s : State) (reason : Nat) : State :=
  let r := { s.rescue with count := satInc s.rescue.count, reason := BitVec.ofNat 4 reason }
  { s.note 0x0122 r.data with rescue := r.finish .hold reason }

/-- A command of PWR to the car-axis planner (R105, R260). -/
def State.postMove (s : State) (kind : Nat) (target vmax : Word) : State :=
  s.post 0x0102 [BitVec.ofNat 32 (kind * 256), target, vmax, 0, 0, 0, 0xFFFFFFFC, 0]

/-- PWR asks the door figure to open at a landing (R105). -/
def State.requestDoor (s : State) (landing : Nat) : State :=
  s.post 0x0106 [BitVec.ofNat 32 (1 + landing * 256), s.rescue.count.setWidth 32]

/-- A decision to go: RESCUE_GO, then the move, or the doors in place (R109, R105). With no direction the spec gives no
landing number for the door request: a free value (log entry 2). -/
def State.decideGo (s : State) (inPlace : Bool) (e : Estimate) : State :=
  let r := { s.rescue with count := satInc s.rescue.count, reason := 0, chosen := some e,
                           stat := if inPlace then .doors else .moving }
  let s := { s.note 0x0121 r.data with rescue := r }
  if inPlace then s.tick.requestDoor ((Config.freeWord s.fresh).toNat % 256)
  else s.postMove 1 e.target (s.reg .PWR_RESVEL)

/-- The evaluation of R109, once both estimates are in. -/
def State.rescueDecide (s : State) (up down : Option Estimate) : State :=
  if s.rescue.stale then s.decideHold 5
  else
    match chooseDir up down with
    | none => s.decideHold 4
    | some (dir, e) =>
      let inPlace := s.inDoorZone
      let ereq := s.energyNeed (if inPlace then 0 else sInt e.emove) (if inPlace then 0 else e.tmove.toNat) s.PWR_RESMARGIN
      let eavail := s.energyAvail
      let vmin := s.vminAt
      let s := { s with rescue := { s.rescue with
        dirUp := if inPlace then s.rescue.dirUp else dir, eavail := satWord eavail, ereq := satWord ereq,
        vmin := satWord vmin } }
      let eBad := decide (eavail < ereq)
      let vBad := decide (vmin < s.PWR_RESVCUT)
      if eBad || vBad then s.decideHold (bit eBad + 2 * bit vBad) else s.decideGo inPlace e

/-! ### The sequence (R105, R107, R110, R111) -/

/-- ESTIMATING: two requests by landing at RESVEL, 0x01 upward and 0x02 downward (R105). -/
def State.enterEstimating (s : State) : State :=
  let s := { s with rescue := { s.rescue with stat := .estimating, restart := false, up := none, down := none,
                                              chosen := none } }
  (s.post 0x0104 [0x101, 1, s.reg .PWR_RESVEL, 0]).post 0x0104 [0x102, 2, s.reg .PWR_RESVEL, 0]

/-- A mains loss is confirmed in CONFIRMING: ESTIMATING with the car at rest, STOPPING with a stop posted otherwise (R105,
R107). -/
def State.beginRescue (s : State) : State :=
  if s.carIdle then s.enterEstimating
  else { s with rescue := { s.rescue with stat := .stopping } }.postMove 5 0 0

/-- The sequence ends ABANDONED, with a STOP posted (R105). -/
def State.enterAbandoned (s : State) : State :=
  let s := s.postMove 5 0 0
  { s with rescue := s.rescue.finish .abandoned 0 }

/-- A check of R110 fails: the rescue move is stopped, with RESCUE_ABANDON (R110, R115). -/
def State.abandon (s : State) : State := s.enterAbandoned.note 0x0124

/-- A lockout ends a running sequence in HOLD with REASON 0x6 (R107). -/
def State.rescueLockout (s : State) : State :=
  if s.react.lockout && s.rescue.stat.running then { s with rescue := s.rescue.finish .hold 6 } else s

/-- The mains-sense input shows a level (R101, R107, R111). An end that a lockout brought on while the loss was still being
filtered is left as CONFIRMING is: once the input reads present again. -/
def State.senseMains (s : State) (present : Bool) : State :=
  let r := s.rescue
  if r.senseOn = present then s
  else
    let r := { r with senseOn := present, filterRunning := present != r.mainsOn }
    let stat :=
      if r.stat = .idle ∧ !present ∧ r.mainsOn ∧ s.holdsLease then RescueState.confirming
      else if present ∧ r.mainsOn ∧ (r.stat = .confirming ∨ r.stat.ended) then .idle
      else r.stat
    { s with rescue := { r with stat := stat } }

/-- A mains-sense item: bit 0 of word 0 (R105). An item that is not three good words is not used, nor is an item of another length
than R105 gives its port at the three ports below: the model's choice (log entry 16). -/
def State.mainsItem (s : State) (it : Item) : State :=
  match it.words, it.poison with
  | [w, _, _], false => s.senseMains (w.getLsbD 0)
  | _, _ => s

/-- The sense has held for DEB × 10 ms (R101, R107, R111, R115). Mains restored in STOPPING or ESTIMATING lets the sequence go on to
its decision, which R111 does not say: the model's choice (log entry 16). -/
def State.mainsFiltered (s : State) : State :=
  let r := s.rescue
  if !r.filterRunning then s
  else
    let s := { s with rescue := { r with filterRunning := false, mainsOn := r.senseOn } }
    if r.senseOn then
      let stat := if r.stat.ended then RescueState.idle else r.stat
      { s.note 0x0125 with rescue := { s.rescue with stat := stat, restart := false } }
    else
      let s := s.note 0x0120
      if r.stat = .confirming then s.beginRescue else s

/-- The car is at rest in STOPPING, or as the new ACTIVE unit restarts (R100, R107). -/
def State.rescueAtRest (s : State) : State :=
  if (s.rescue.stat == .stopping || (s.rescue.restart && s.rescue.stat == .idle)) && s.carIdle then s.enterEstimating
  else s

/-- An estimate reply's words (R285). -/
def estimateOf (ws : List Word) : Nat × Estimate :=
  let w0 := ws.headD 0
  (getBits w0 7 0,
    { status := BitVec.ofNat 4 (getBits w0 15 8), landing := BitVec.ofNat 8 (getBits w0 23 16), tmove := ws.getD 1 0,
      emove := ws.getD 2 0, target := ws.getD 4 0 })

/-- A reply that names a landing (R105). -/
def Estimate.exists_ (e : Estimate) : Option Estimate := if e.status = 3 then none else some e

/-- A reply in ESTIMATING: the decision once both are in; NO_STATE holds with REASON 0x7 (R105, R109). -/
def State.estimateReply (s : State) (id : Nat) (e : Estimate) : State :=
  let r := s.rescue
  if e.status = 2 then { s with rescue := r.finish .hold 7 }
  else
    let r := if id = 1 then { r with up := some e } else if id = 2 then { r with down := some e } else r
    let s := { s with rescue := r }
    match r.up, r.down with
    | some u, some d => s.rescueDecide u.exists_ d.exists_
    | _, _ => s

/-- A reply to a check of R110: the rest of the move against the account without a margin. The checks go on when mains is back
before the move has ended; whether they may still stop it then is the model's choice (log entry 16). -/
def State.checkReply (s : State) (e : Estimate) : State :=
  let ereq := s.energyNeed (sInt e.emove) e.tmove.toNat 0
  let eavail := s.energyAvail
  let s := { s with rescue := { s.rescue with eavail := satWord eavail, ereq := satWord ereq } }
  if e.status = 2 ∨ e.status = 3 ∨ eavail < ereq then s.abandon else s

/-- An estimate reply (R105). A reply with a POISON word, or that is not five words, is not used. -/
def State.replyItem (s : State) (it : Item) : State :=
  let r := estimateOf it.words
  if it.poison || it.words.length != 5 then s
  else if s.rescue.stat = .estimating then s.estimateReply r.1 r.2
  else if s.rescue.stat = .moving then s.checkReply r.2
  else s

/-- An event of the rescue move (R105, R264): COMPLETED enters DOORS, any other end ABANDONED; STARTED is no end. -/
def State.rescueEvent (s : State) (it : Item) : State :=
  let status := getBits (it.words.headD 0) 15 8
  if it.poison || it.words.length != 4 || s.rescue.stat != .moving || it.words.getD 1 0 != 0xFFFFFFFC || status == 1 then s
  else if getBits (it.words.headD 0) 19 16 != 1 then s
  else if status = 2 then
    { s with rescue := { s.rescue with stat := .doors } }.requestDoor
      (match s.rescue.chosen with
       | some e => e.landing.toNat
       | none => 0)
  else s.enterAbandoned

/-- A door answer whose word 1 matches (R105). -/
def State.doorAnswer (s : State) (it : Item) : State :=
  let w0 := it.words.headD 0
  if it.poison || it.words.length != 2 || s.rescue.stat != .doors || it.words.getD 1 0 != s.rescue.count.setWidth 32 then s
  else if w0.getLsbD 0 then { s.note 0x0123 with rescue := s.rescue.finish .done 0 }
  else if w0.getLsbD 1 then { s with rescue := s.rescue.finish .hold 8 }
  else s

/-- The items staged at one of PWR's ports. -/
def State.drainPort (s : State) (port : Nat) (f : State → Item → State) : State :=
  let r := s.qf.takeItems port 8
  r.1.foldl f (s.withQf r.2)

/-! ### The commands -/

/-- BATTERY_SAMPLE (R102). -/
def execBatterySample (it : Item) (s : State) : Host.Outcome State Fault Refusal :=
  .next (s.atPwr fun s => s.batteryItem it)

/-- Each 1 ms PWR takes what its ports hold and integrates the current (R102, R103, R107). -/
def State.accountTick (s : State) : State :=
  let s := ((s.drainBattery 8).drainPort 0x0101 State.mainsItem).rescueLockout
  let s := ((s.drainPort 0x0103 State.rescueEvent).drainPort 0x0105 State.replyItem).drainPort 0x0107 State.doorAnswer
  if s.rescueExists then s.integrate else s

/-- BATTERY_ACCOUNT_TICK. -/
def execBatteryAccountTick (s : State) : Host.Outcome State Fault Refusal := .next (s.atPwr State.accountTick)

/-- MEASUREMENT_STALE (R102). -/
def execMeasurementStale (s : State) : Host.Outcome State Fault Refusal :=
  .next (s.atPwr fun s => { s with rescue := { s.rescue with stale := true } })

/-- QREM_STORE (R103). -/
def execQremStore (s : State) : Host.Outcome State Fault Refusal :=
  .next (s.atPwr fun s => if s.rescueExists then s.storeQrem else s)

/-- FULL_CHARGE_DETECT: the conditions of R104, which have held for 60 s, hold now. -/
def execFullChargeDetect (s : State) : Host.Outcome State Fault Refusal :=
  .next (s.atPwr fun s => if s.rescueExists && decide ((s.PWR_RESVFULL : Int) ≤ s.rescue.vavg) &&
      decide (absInt s.rescue.iavg ≤ s.PWR_RESITAPER) then s.setCharge (1000 * (s.PWR_RESQCAP : Int)) else s)

/-- The level of the image's mains-sense input that means mains present, none without one: the ARG of a pad of FUNC 0x14; high, above
30 % of VSET, on an LE port in FIXTURE_IN mode; 1 in a queue's item (R71, R101, R105, R148). -/
def State.mainsLevel (s : State) : Option Bool :=
  match s.image with
  | some im =>
    match im.pins.find? fun p => p.func == 0x14 with
    | some p => some (p.arg == 1)
    | none =>
      if (im.pins.any fun p => decide (231 ≤ p.pad) && decide (p.pad ≤ 262) && p.func == 4) || s.routedTo 0x0101 then some true
      else none
  | none => none

/-- MAINS_SENSE_CHANGE: the input shows `level` (R101, R107, R111, R148). -/
def execMainsSenseChange (level : Bool) (s : State) : Host.Outcome State Fault Refusal :=
  .next (s.atPwr fun s =>
    match s.mainsLevel with
    | some l => s.senseMains (level == l)
    | none => s)

/-- MAINS_FILTER_EXPIRE (R101). -/
def execMainsFilterExpire (s : State) : Host.Outcome State Fault Refusal :=
  .next (s.atPwr fun s => s.rescueLockout.mainsFiltered)

/-- RESCUE_CAR_AT_REST (R107). -/
def execRescueCarAtRest (s : State) : Host.Outcome State Fault Refusal :=
  .next (s.atPwr fun s => s.rescueLockout.rescueAtRest)

/-- RESCUE_ESTIMATE_REPLY (R109, R110). -/
def execRescueEstimateReply (it : Item) (s : State) : Host.Outcome State Fault Refusal :=
  .next (s.atPwr fun s => s.rescueLockout.replyItem it)

/-- RESCUE_PLANNER_EVENT (R105). -/
def execRescuePlannerEvent (it : Item) (s : State) : Host.Outcome State Fault Refusal :=
  .next (s.atPwr fun s => s.rescueLockout.rescueEvent it)

/-- RESCUE_ENERGY_CHECK: every 100 ms in MOVING an estimate of the rest of the move is asked for (R105, R110). -/
def State.energyCheck (s : State) : State :=
  match s.rescue.stat, s.rescue.chosen with
  | .moving, some e => s.post 0x0104 [if s.rescue.dirUp then 1 else 2, e.target, s.reg .PWR_RESVEL, 0]
  | _, _ => s

def execRescueEnergyCheck (s : State) : Host.Outcome State Fault Refusal :=
  .next (s.atPwr fun s => s.rescueLockout.energyCheck)

/-- RESCUE_VCUT_TIMEOUT: Vavg has stayed below VCUT for 100 ms in MOVING (R110). -/
def execRescueVcutTimeout (s : State) : Host.Outcome State Fault Refusal :=
  .next (s.atPwr fun s => if s.rescueLockout.rescue.stat = .moving then s.rescueLockout.abandon else s.rescueLockout)

/-- RESCUE_DOOR_ANSWER (R105). -/
def execRescueDoorAnswer (it : Item) (s : State) : Host.Outcome State Fault Refusal :=
  .next (s.atPwr fun s => s.rescueLockout.doorAnswer it)

end Sys2Proof.Machine
end

