-- ==== Sys2Proof/Machine/RegStore.lean ====
section
/-! DEFINITION. Storing what a write carries: the fields of one access type, brought into their ranges (R14), and the
sub-blocks the image instantiates (R31). -/

namespace Sys2Proof.Machine

/-! ### Fields -/

/-- The register has a field of this access type. -/
def Reg.has (r : Reg) (acc : Access) : Bool := r.fields.any (·.acc == acc)

/-- The register has RWL fields to write. The field of SFI_FRMASK4 is read-only and stays at its reset value (R507). -/
def Reg.takesRwl (r : Reg) (idx : List Nat) : Bool := r.has .rwl && !(r == .SFI_FRMASK && idx == [4])

/-- `n` bits read as a signed number. -/
def signedBits (n v : Nat) : Int := if v < 2 ^ (n - 1) then v else (v : Int) - 2 ^ n

/-- Bring `v` between two ends, the nearer end outside them. -/
def clampNat (lo hi v : Nat) : Nat := if v < lo then lo else if hi < v then hi else v

/-- A field's value after its range: `word` is the register's word with the fields already stored, `idx` its indexes. -/
def State.clampField (s : State) (idx : List Nat) (word : Word) (f : FieldSpec) (v : Nat) : Nat :=
  match f.clamp with
  | .none => v
  | .unsigned lo hi => clampNat lo hi v
  | .signed lo hi => ((clampInt lo hi (signedBits (f.hi - f.lo + 1) v)) % 2 ^ (f.hi - f.lo + 1)).toNat
  | .toImax => (clampInt 0 (s.reg .MC_IMAX (idx.take 1)).toInt (signedBits 32 v)).toNat
  | .toLeaseThird => clampNat 2 (getBits word 15 8 / 3) v

/-- Store one field of `w` into `word`. -/
def State.storeField (s : State) (idx : List Nat) (w word : Word) (f : FieldSpec) : Word :=
  setBits word f.hi f.lo (s.clampField idx word f (getBits w f.hi f.lo))

/-- A range of one register that depends on another field of it: the pulse of SFI_LEPTEST stays shorter than a thirty-second
of its period less 100 µs (R480); PLEN of a connection takes the nearest multiple of 4, the lower of two, and 8 for SAFETY
(R573; log entry 57). -/
def relateFields (r : Reg) (w : Word) : Word :=
  match r with
  | .SFI_LEPTEST =>
    let most := getBits w 31 16 * 1000 / 32 - 100
    if most < getBits w 15 0 then setBits w 15 0 most else w
  | .BUS_PXCCFG => setBits w 21 16 (if getBits w 29 28 = 0 then 8 else (getBits w 21 16 + 1) / 4 * 4)
  | _ => w

/-- The word a register holds after a write of `w` to its fields of these access types: low fields first, so that a field
whose range another gives finds it stored. -/
def State.storedWord (s : State) (accs : List Access) (r : Reg) (idx : List Nat) (w : Word) : Word :=
  relateFields r ((r.fields.filter fun f => accs.contains f.acc).reverse.foldl (s.storeField idx w) (s.reg r idx))

/-- Write `w` to a register's fields of these access types (R14). -/
def State.storeFields (s : State) (accs : List Access) (r : Reg) (idx : List Nat) (w : Word) : State :=
  s.setReg r idx (s.storedWord accs r idx w)

/-! ### The management port's rate -/

/-- The management port takes the BAUD in force, with the response to a write that changed it sent (R653). -/
def State.adoptBaud (s : State) : State := { s with ports := { s.ports with baud := BitVec.ofNat 4 s.MGT_MPCFG_BAUD } }

/-! ### Sub-blocks (R30, R31) -/

/-- A TILES record with one of these kinds and indexes stands in an image. -/
def Image.hasTile (im : Image) (kind : Nat) (indexes : List Nat) : Bool :=
  im.tiles.any fun t => t.kind.toNat == kind && indexes.contains t.index

/-- The sub-block at an address is always there, or belongs to engines of one kind, one of which must exist. -/
def subBlock (a : Nat) : Option (Nat × List Nat) :=
  if 0x0C0000 ≤ a ∧ a < 0x0C4000 then some (1, [0])
  else if 0x0C4000 ≤ a ∧ a < 0x0C8000 then some (2, [(a - 0x0C4000) / 0x800])
  else if 0x0C8000 ≤ a ∧ a < 0x0CC000 then some (4, [4 + (a - 0x0C8000) / 0x1000])
  else if 0x0CC000 ≤ a ∧ a < 0x100000 then some (2, List.range 8)
  else if 0x100000 ≤ a ∧ a < 0x140000 then some (3, [(a - 0x100000) / 0x10000])
  else if 0x140000 ≤ a ∧ a < 0x180000 then some (5, [0])
  else if 0x180000 ≤ a ∧ a < 0x184000 then some (6, [(a - 0x180000) / 0x1000])
  else if 0x184000 ≤ a ∧ a < 0x190000 then some (6, List.range 4)
  else if 0x190000 ≤ a ∧ a < 0x1A0000 then some (6, [(a - 0x190000) / 0x4000])
  else if 0x1C0000 ≤ a ∧ a < 0x1CC000 then some (7, [(a - 0x1C0000) / 0x4000])
  else if 0x1CC000 ≤ a ∧ a < 0x1CCA00 then some (8, [0])
  else if 0x1CCA00 ≤ a ∧ a < 0x1CCA40 then some (0x0C, [0])
  else if 0x1CCA40 ≤ a ∧ a < 0x1CCB00 then some (0x0B, [0])
  else if 0x1D0000 ≤ a ∧ a < 0x200000 then some (9, [0])
  else none

/-- The image instantiates the sub-block at address `a` (R31). -/
def Image.present (im : Image) (a : Nat) : Bool :=
  match subBlock a with
  | none => true
  | some (kind, indexes) => im.hasTile kind indexes

/-- The sub-block at address `a` is instantiated by the image in force; without an image, only what every image has. -/
def State.subPresent (s : State) (a : Nat) : Bool :=
  match s.image with
  | some im => im.present a
  | none => (subBlock a).isNone

end Sys2Proof.Machine
end

