-- ==== Sys2Proof/Machine/Session.lean ====
section
/-! DEFINITION. The management session (R173 to R177, R685): the change log (R179, R180), the password commands and the
device key. -/

namespace Sys2Proof.Machine

/-! ### The change log -/

/-- Bytes 0 to 27 of a change-log record (R179). -/
def clogBody (seq : Word) (dt : Nat) (wsec : Word) (kind detail addr old new : Nat) : List Byte :=
  leBytes 4 seq.toNat ++ leBytes 6 dt ++ leBytes 4 wsec.toNat ++ leBytes 1 kind ++ leBytes 1 detail ++ leBytes 4 addr ++
    leBytes 4 old ++ leBytes 4 new

/-- MGT appends a change-log record, its chain word last; the record replaces the oldest when all 2048 are in use
(R179, R180). -/
def Persist.clogAppend (p : Persist) (dt : Nat) (wsec : Word) (kind detail addr old new : Nat) : Persist :=
  let body := clogBody p.clogNext dt wsec kind detail addr old new
  let chain := crc32 (wordBytes p.clogChain ++ body)
  { p with clog := p.clog.set [] (p.clogNext.toNat % 2048) (body ++ wordBytes chain),
           clogNext := p.clogNext + 1, clogChain := chain }

/-- MGT writes a change-log record. -/
def State.logChange (s : State) (kind detail : Nat) (addr old new : Nat := 0) : State :=
  { s with persist := s.persist.clogAppend s.dev s.aon.rtcSec kind detail addr old new }

/-! ### The session -/

/-- The write window closes: change-log kind 0x04 with its slot and the words written (R163, R164). -/
def State.closeWindow (s : State) : State :=
  match s.loader.window with
  | none => s
  | some b =>
    { s.logChange 0x04 (bit b) 0 s.loader.written.toNat 0 with
      loader := { s.loader with window := none, written := 0 } }

/-- An unlocked session ends: an open window closes, and the change log takes the lock with its cause (R163, R176). -/
def State.endSession (s : State) (cause : Nat) : State :=
  if s.session.unlocked then
    { s.closeWindow.logChange 0x07 cause with session := { s.session with unlocked := false } }
  else s

/-- An unlocked session locks with its record (R176, R186). -/
def State.shutSession (s : State) (cause : Nat) : State :=
  if s.session.unlocked then (s.endSession cause).commitNote 0x0244 (leBytes 1 cause) else s

/-- An unlocked session locks and a freeze ends with it (R176, R186, R623). -/
def State.lockSession (s : State) (cause : Nat) : State :=
  if s.session.unlocked then
    let s := s.shutSession cause
    s.withHist s.hist.endFreeze
  else s

/-- The wait after `f` failed UNLOCKs, in µs (R175). -/
def unlockWait (f : Nat) : Nat := if f = 0 then 0 else 1000000 * min 256 (2 ^ min 8 (f - 1))

/-- A session unlocks (R186). -/
def State.openSession (s : State) : State :=
  { s.commitNote 0x0242 with session := { s.session with unlocked := true, result := 1 } }

/-! ### Password commands -/

/-- PWDATA_WRITE: the next four password bytes; a seventeenth write is ignored (R184). -/
def State.writePwdata (s : State) (w : Word) : State :=
  if s.session.buffer.length < 16 then { s with session := { s.session with buffer := s.session.buffer ++ [w] } } else s

/-- The first refusal of R685 that applies to an UNLOCK (`set` false) or SET, as a RESULT code; 0 for none. -/
def State.passwordRefusal (s : State) (set : Bool) (len : Nat) : Nat :=
  if (if set then s.persist.pwSet && !s.session.unlocked else !s.persist.pwSet) then 5
  else if !set && s.session.wait != 0 then 3
  else if len < 16 || 64 < len || 4 * s.session.buffer.length < len then 4
  else 0

/-- UNLOCK or SET: checked, and when no refusal applies its derivation starts. The buffer is cleared (R174, R685). -/
def State.passwordCommand (s : State) (set : Bool) (len : Nat) : State :=
  let pw := (wordsBytes s.session.buffer).take len
  let x := s.session
  match x.derivation with
  | some _ => { s with session := { x with buffer := [] } }
  | none =>
    let r := s.passwordRefusal set len
    if r = 0 then { s with session := { x with buffer := [], derivation := some (set, pw) } }
    else { s with session := { x with buffer := [], result := BitVec.ofNat 4 r } }

/-- A write of MGT_PWCMD (R184). -/
def State.writePwcmd (s : State) (w : Word) : State :=
  let len := getBits w 14 8
  match getBits w 2 0 with
  | 1 => s.passwordCommand false len
  | 2 => { s.lockSession 0 with session := { (s.lockSession 0).session with buffer := [] } }
  | 3 => s.passwordCommand true len
  | 4 => { s with session := { s.session with buffer := [] } }
  | _ => s

/-- The stored password of R173 from a salt. -/
def derivePassword (pw salt : List Byte) : List Byte := pbkdf2 pw salt 4096

/-- A SET derivation ends: the new salt and value are stored, PWSET becomes 1; the first SET commissions the device and
leaves the session unlocked (R173, R174, R616). -/
def State.setDone (s : State) (pw : List Byte) : State :=
  let salt := leBytes 16 (Config.freeSalt s.fresh).toNat
  let first := !s.persist.pwSet
  let s := { s with
    fresh := s.fresh + 1,
    persist := { s.persist with salt := salt, hash := derivePassword pw salt, pwSet := true } }
  let s := s.logChange 0x09 0
  let s := if first then
      { s with persist := { s.persist with commissioned := true } }.commitNote 0x0265
        (leBytes 4 (match s.image with | some im => im.crc.toNat | none => 0))
    else s
  if s.session.unlocked || !first then { s with session := { s.session with result := 1 } } else s.openSession

/-- An UNLOCK derivation ends: a match unlocks, a mismatch counts in FAILS and starts the wait (R175). -/
def State.unlockDone (s : State) (pw : List Byte) : State :=
  if derivePassword pw s.persist.salt = s.persist.hash then
    let s := { s with persist := { s.persist with fails := 0 } }
    let s := s.logChange 0x06 0
    if s.session.unlocked then { s with session := { s.session with result := 1 } } else s.openSession
  else
    let f := satInc s.persist.fails
    let s := { s with persist := { s.persist with fails := f } }
    let s := (s.logChange 0x08 f.toNat).commitNote 0x0243 (leBytes 1 f.toNat)
    { s with session := { s.session with result := 2, wait := unlockWait f.toNat } }

/-- The derivation in progress ends. -/
def State.derivationDone (s : State) : State :=
  match s.session.derivation with
  | none => s
  | some (set, pw) =>
    let s := { s with session := { s.session with derivation := none } }
    if set then s.setDone pw else s.unlockDone pw

/-- PWDATA_WRITE (R184). -/
def execPwdataWrite (w : Word) (s : State) : Host.Outcome State Fault Refusal := .next (s.atMgt fun s => s.writePwdata w)

/-- UNLOCK: a write of MGT_PWCMD with CMD 0x1 and LEN (R685). -/
def execPasswordUnlock (len : BitVec 7) (s : State) : Host.Outcome State Fault Refusal :=
  .next (s.atMgt fun s => s.passwordCommand false len.toNat)

/-- SET: a write of MGT_PWCMD with CMD 0x3 and LEN (R174, R685). -/
def execPasswordSet (len : BitVec 7) (s : State) : Host.Outcome State Fault Refusal :=
  .next (s.atMgt fun s => s.passwordCommand true len.toNat)

/-- PASSWORD_DERIVATION_DONE (R174, R175). -/
def execPasswordDerivationDone (s : State) : Host.Outcome State Fault Refusal := .next s.derivationDone

/-- UNLOCK_WAIT_EXPIRE: the post-failure wait has run out (R175). -/
def execUnlockWaitExpire (s : State) : Host.Outcome State Fault Refusal :=
  .next { s with session := { s.session with wait := 0 } }

/-- LOCK: a write of MGT_PWCMD with CMD 0x2 (R176). -/
def execPasswordLock (s : State) : Host.Outcome State Fault Refusal := .next (s.atMgt fun s => s.writePwcmd 2)

/-- CLEAR_BUFFER: a write of MGT_PWCMD with CMD 0x4 (R184). -/
def execClearBuffer (s : State) : Host.Outcome State Fault Refusal := .next (s.atMgt fun s => s.writePwcmd 4)

/-- SESSION_IDLE_TIMEOUT: 600 s without a management-port access (R176). -/
def execSessionIdleTimeout (s : State) : Host.Outcome State Fault Refusal := .next (s.lockSession 1)

/-! ### The device key -/

/-- A write of MGT_KEYDATA: the last eight words are kept (R177). -/
def State.writeKeydata (s : State) (w : Word) : State :=
  let ws := s.session.keyWords ++ [w]
  { s with session := { s.session with keyWords := ws.drop (ws.length - 8), keyCount := s.session.keyCount + 1 } }

/-- A write of MGT_KEYCMD: PROVISION when permitted (R177). The answer says whether it was refused as locked. -/
def State.writeKeycmd (s : State) (w : Word) : Bool × State :=
  if !w.getLsbD 0 then (false, s)
  else if !s.session.unlocked then (true, { s with session := { s.session with keyWords := [], keyCount := 0 } })
  else
    let ok := !s.persist.prov && 8 ≤ s.session.keyCount
    let req := w.getLsbD 8
    let t := if ok then
        { s with persist := { s.persist with key := wordsBytes s.session.keyWords, reqTag := req, prov := true } }.logChange
          0x0A (bit req)
      else s
    (false, { t with session := { t.session with keyWords := [], keyCount := 0 } })

/-- KEYDATA_WRITE (R177). -/
def execKeydataWrite (w : Word) (s : State) : Host.Outcome State Fault Refusal := .next (s.atMgt fun s => s.writeKeydata w)

/-- PROVISION: a write of MGT_KEYCMD with PROVISION 1 (R177). -/
def execKeyProvision (w : Word) (s : State) : Host.Outcome State Fault Refusal := .next (s.atMgt fun s => (s.writeKeycmd (w ||| 1)).2)

end Sys2Proof.Machine
end

