-- ==== Sys2Proof/Machine/Slots.lean ====
section
/-! DEFINITION. The image slots and the format of a Glaun image (R142 to R160): bytes of a slot, the header, the
directory, the sections, the CRC word and the tag. The contents are checked in `Machine/Structure.lean`. -/

namespace Sys2Proof.Machine

/-! ### Slots -/

/-- The canonical form of a slot's memory: offsets strictly rising inside its 1 MiB, no byte listed that an unlisted one reads
as (0xFF). -/
def Memory.wf (slot : List Host.Cell) : Bool := Tbl.wf 0xFF slot && slot.all fun c => c.1 < 0x100000

/-- `n` bytes of a slot from offset `pos`, its cells at or above `pos` in rising order; an unlisted byte reads 0xFF. -/
def expandBytes : List Host.Cell → Nat → Nat → List Byte
  | _, _, 0 => []
  | [], _, n + 1 => 0xFF :: expandBytes [] 0 n
  | (a, b) :: cs, pos, n + 1 =>
    if a = pos then b :: expandBytes cs (pos + 1) n else 0xFF :: expandBytes ((a, b) :: cs) (pos + 1) n

/-- Bytes `pos` to `pos + n - 1` of a slot. -/
def slotBytes (slot : List Host.Cell) (pos n : Nat) : List Byte := expandBytes (slot.filter fun c => pos ≤ c.1) pos n

/-- The word at word offset `o` of a slot. -/
def slotWord (slot : List Host.Cell) (o : Nat) : Word := BitVec.ofNat 32 (ofLe (slotBytes slot (4 * o) 4))

/-- Store a word at word offset `o` of a slot. -/
def setSlotWord (slot : List Host.Cell) (o : Nat) (w : Word) : List Host.Cell :=
  (wordBytes w).zipIdx.foldl (fun t e => Tbl.set t 0xFF (4 * o + e.2) e.1) slot

/-- The slot A or B. -/
def Persist.slot (p : Persist) (b : Bool) : List Host.Cell := if b then p.slotB else p.slotA

def Persist.setSlot (p : Persist) (b : Bool) (cs : List Host.Cell) : Persist :=
  if b then { p with slotB := cs } else { p with slotA := cs }

/-! ### Header and directory -/

/-- A directory entry (R143). -/
structure DirEntry where
  type   : Nat
  count  : Nat
  offset : Nat
  length : Nat
  deriving DecidableEq, Repr

/-- Bytes in pieces of `n`. -/
def pieces (n : Nat) : Nat → List Byte → List (List Byte)
  | 0, _ => []
  | k + 1, bs => bs.take n :: pieces n k (bs.drop n)

def parseRole (c : Nat) : Option Role :=
  match c with
  | 1 => some .cartop
  | 2 => some .machine
  | 3 => some .group
  | 4 => some .machineGroup
  | 5 => some .vaultstn
  | 6 => some .referee
  | _ => none

/-- The record size of a fixed-size section type; 0 for PARAMS (R146). -/
def recordSize (type : Nat) : Option Nat :=
  match type with
  | 0x01 | 0x02 | 0x06 => some 8
  | 0x03 | 0x04 => some 16
  | 0x05 => some 0
  | 0x10 | 0x11 | 0x12 | 0x13 => some 4
  | _ => none

/-- The header's own fields satisfy R142 and R145; PART, REVLO and REVHI are check 5's (R684). -/
def headerOk (h : List Byte) : Bool :=
  let len := leAt h 8 4
  let flags := leAt h 0x0C 4
  let tempo := leAt h 0x15 1
  let permit := leAt h 0x16 1
  let nsect := leAt h 0x17 1
  leAt h 0 4 == 0x4E414C47 && leAt h 4 2 == 1 && len % 4 == 0 && flags < 4 &&
    len + 4 + (if testBit flags 0 then 32 else 0) ≤ 0x100000 &&
    (parseRole (leAt h 0x14 1)).isSome && tempo ≤ 2 && permit < 8 && testBit permit tempo &&
    4 ≤ nsect && nsect ≤ 16 && (h.drop 0x2C).all (· == 0)

/-- One directory entry, with its format checks (R143, R146, R684). -/
def parseDirEntry (e : List Byte) : Option DirEntry :=
  let d : DirEntry := { type := leAt e 0 1, count := leAt e 2 2, offset := leAt e 4 4, length := leAt e 8 4 }
  match recordSize d.type with
  | none => none
  | some size =>
    if leAt e 1 1 == 1 && d.offset % 4 == 0 && d.length % 4 == 0 && (size == 0 || d.length == d.count * size) then some d
    else none

/-- The directory: types strictly ascending, sections contiguous from `pos`, the last ending at `len` (R143, R144). -/
def parseDir : List (List Byte) → Nat → Nat → Nat → Option (List DirEntry)
  | [], _, pos, len => if pos = len then some [] else none
  | e :: es, lastType, pos, len =>
    match parseDirEntry e with
    | none => none
    | some d =>
      if lastType < d.type && d.offset == pos then (parseDir es d.type (pos + d.length) len).map (d :: ·) else none

/-- The directory of an image whose header is valid. -/
def imageDir (img : List Byte) : Option (List DirEntry) :=
  let n := leAt img 0x17 1
  parseDir (pieces 12 n (img.drop 0x40)) 0 (0x40 + 12 * n) (leAt img 8 4)

/-! ### Sections -/

/-- A section's bytes, none when the image has no such section. -/
def sectionOf (img : List Byte) (dir : List DirEntry) (type : Nat) : Option (DirEntry × List Byte) :=
  (dir.find? (·.type == type)).map fun d => (d, (img.drop d.offset).take d.length)

/-- A PINMUX record (R147). -/
def parsePin (r : List Byte) : PinRec :=
  { pad := leAt r 0 2, func := BitVec.ofNat 8 (leAt r 2 1), decl := BitVec.ofNat 8 (leAt r 3 1),
    arg := BitVec.ofNat 32 (leAt r 4 4) }

/-- A TILES record (R150). -/
def parseTile (r : List Byte) : Option TileRec :=
  if leAt r 2 2 = 0 then
    some { kind := BitVec.ofNat 8 (leAt r 0 1), index := leAt r 1 1, arg := BitVec.ofNat 32 (leAt r 4 4) }
  else none

/-- A ROUTES record (R152). -/
def parseRoute (r : List Byte) : Option RouteRec :=
  if leAt r 8 4 < 4 then
    some { queue := leAt r 0 2, capacity := leAt r 2 2, producer := BitVec.ofNat 16 (leAt r 4 2),
           consumer := BitVec.ofNat 16 (leAt r 6 2), flag := testBit (leAt r 8 4) 0, cmdq := testBit (leAt r 8 4) 1,
           timeout := leAt r 12 4 }
  else none

/-- An EXPOSE record (R157). -/
def parseExpose (r : List Byte) : Option ExposeRec :=
  let addr := leAt r 0 4
  let acc := leAt r 6 1
  if addr < 0x1000000 && addr % 4 == 0 && 0 < acc && acc < 4 && leAt r 7 1 == 0 then
    some { addr := addr, count := leAt r 4 2, read := testBit acc 0, write := testBit acc 1 }
  else none

/-- Every element mapped, none when one fails. -/
def allSome {α β : Type} (f : α → Option β) : List α → Option (List β)
  | [] => some []
  | a :: as => match f a, allSome f as with
    | some b, some bs => some (b :: bs)
    | _, _ => none

/-- `n` PARAMS runs as addresses and values, in section order (R155); none when the section's words do not make them. -/
def parseRuns : Nat → List Word → Option (List (Nat × Word))
  | 0, [] => some []
  | 0, _ :: _ => none
  | _ + 1, [] => none
  | n + 1, h :: ws =>
    let k := getBits h 31 24 + 1
    if ws.length < k then none
    else
      let run := (ws.take k).zipIdx.map fun e => (getBits h 23 0 + 4 * e.2, e.1)
      (parseRuns n (ws.drop k)).map (run ++ ·)

/-- The words of a section. -/
def sectionWords (x : DirEntry × List Byte) : List Word := bytesWords (x.1.length / 4) x.2

/-- The sections of an image whose header, directory, CRC and tag are valid; none where a required section is missing
or a record breaks its layout, which is a STRUCTURE failure (R146). -/
def parseImage (img : List Byte) (dir : List DirEntry) : Option Image := do
  let role ← parseRole (leAt img 0x14 1)
  let pins ← sectionOf img dir 0x01
  let tiles ← sectionOf img dir 0x02
  let routes ← sectionOf img dir 0x03
  let cells ← sectionOf img dir 0x04
  let tiles ← allSome parseTile (pieces 8 tiles.1.count tiles.2)
  let routes ← allSome parseRoute (pieces 16 routes.1.count routes.2)
  let params ← match sectionOf img dir 0x05 with
    | some x => parseRuns x.1.count (sectionWords x)
    | none => some []
  let expose ← match sectionOf img dir 0x06 with
    | some x => allSome parseExpose (pieces 8 x.1.count x.2)
    | none => some []
  let figures := [0, 1, 2, 3].filterMap fun f => (sectionOf img dir (0x10 + f)).map fun x => (f, sectionWords x)
  some { role := role, tempo := BitVec.ofNat 2 (leAt img 0x15 1), permit := BitVec.ofNat 3 (leAt img 0x16 1),
         redundant := testBit (leAt img 0x0C 4) 1, nodeId := BitVec.ofNat 32 (leAt img 0x18 4),
         setId := BitVec.ofNat 32 (leAt img 0x1C 4), crc := crc32 (img.take (leAt img 8 4)),
         pins := (pieces 8 pins.1.count pins.2).map parsePin, tiles := tiles, routes := routes,
         lattice := (pieces 16 cells.1.count cells.2).map (bytesWords 4), params := params, expose := expose,
         figures := figures }

/-! ### Checks 1 to 5 of R127 -/

/-- Check 4: the tag (R159, R160). `rest` holds the CRC word and the tag. -/
def tagOk (p : Persist) (tagged : Bool) (signed tag : List Byte) : Bool :=
  if tagged then p.prov && hmacSha256 p.key signed == tag else !p.prov || !p.reqTag

/-- PART and REVMAJ of SYS_ID on revision B0 (R5). -/
def sysPart : Nat := 0x9400
def sysRevMaj : Nat := 0xB

/-- Checks 1 to 5 of R127 on a slot: the failure code, or the image's bytes up to its CRC word and its directory. -/
def checkFormat (p : Persist) (slot : List Host.Cell) : Nat ⊕ (List Byte × List DirEntry) :=
  let h := slotBytes slot 0 64
  if slotWord slot 0 = 0xFFFFFFFF then .inl 1
  else if !headerOk h then .inl 2
  else
    let len := leAt h 8 4
    let tagged := testBit (leAt h 0x0C 4) 0
    let all := slotBytes slot 0 (len + 36)
    let img := all.take len
    match imageDir img with
    | none => .inl 2
    | some dir =>
      if crc32 img ≠ BitVec.ofNat 32 (leAt all len 4) then .inl 3
      else if !tagOk p tagged (all.take (len + 4)) (all.drop (len + 4)) then .inl 4
      else if leAt h 0x10 2 ≠ sysPart || sysRevMaj < leAt h 0x12 1 || leAt h 0x13 1 < sysRevMaj then .inl 5
      else .inr (img, dir)

end Sys2Proof.Machine
end

