-- ==== Sys2Proof/Machine/Structure.lean ====
section
/-! DEFINITION. Check 6 of R127, STRUCTURE: the role limits of R32, the pin rules of chapter 02, and what the chapters name
as the loader's own refusals (log entry 8). -/

namespace Sys2Proof.Machine

/-! ### Pins (R46 to R49, R53, R147 to R149, R683) -/

/-- Pads whose FUNC the image chooses (R148). -/
inductive PadGroup where
  | fixed | mpsel | pulse | gpio | lep
  deriving DecidableEq, Repr

def padGroup (pad : Nat) : PadGroup :=
  if pad = 42 then .mpsel
  else if 76 ≤ pad ∧ pad ≤ 78 then .pulse
  else if 83 ≤ pad ∧ pad ≤ 130 then .gpio
  else if 231 ≤ pad ∧ pad ≤ 262 then .lep
  else .fixed

/-- FUNC and ARG are among those of the pad's group (R148). -/
def PinRec.funcOk (p : PinRec) : Bool :=
  let f := p.func.toNat
  let a := p.arg.toNat
  let logic := (0x10 ≤ f && f ≤ 0x12 && a ≤ 63) || (0x13 ≤ f && f ≤ 0x14 && a ≤ 1)
  match padGroup p.pad with
  | .fixed => f == 1 && a == 0
  | .mpsel => 0x20 ≤ f && f ≤ 0x22 && a == 0
  | .pulse => logic || (f == 0x15 && a == 0)
  | .gpio => logic
  | .lep => 1 ≤ f && f ≤ 4 && a == 0

/-- A GHx or GLx pad of a motor engine (R47). -/
def gatePad (pad : Nat) : Bool :=
  355 ≤ pad && pad ≤ 458 && (pad - 355) % 26 < 16 && (pad - 355) % 26 % 4 < 2

/-- The DECL codes allowed for a pad (R53, R57, R149): fixed by Craop, any class for a checked output or field port, and
NOT_CHECKED for everything else. -/
def PinRec.decls (p : PinRec) : List Nat :=
  let pad := p.pad
  let f := p.func.toNat
  if pad = 41 ∨ pad = 47 ∨ pad = 50 ∨ pad = 53 then [1]
  else if (327 ≤ pad ∧ pad ≤ 350 ∧ (pad - 327) % 4 < 2) ∨ gatePad pad then [0]
  else if [25, 49, 52, 55, 56, 57, 60, 61].contains pad then [0, 1, 2]
  else match padGroup pad with
    | .lep => if f == 2 then [4] else [0, 1, 2]
    | .gpio | .pulse => if f == 0x11 || f == 0x12 || f == 0x15 then [0, 1, 2] else [4]
    | _ => [4]

/-- Numbers strictly rising from above `last`. -/
def risingFrom : List Nat → Nat → Bool
  | [], _ => true
  | x :: xs, last => last < x && risingFrom xs x

/-- PINMUX: pads rising within 1 to 458, FUNC and DECL allowed, both pads of an HS terminal together, no safety output in
a REFEREE image. -/
def Image.pinsOk (im : Image) : Bool :=
  risingFrom (im.pins.map (·.pad)) 0 &&
    im.pins.all fun p =>
      p.pad ≤ 458 && p.funcOk && p.decls.contains p.decl.toNat &&
      (im.role != .referee || !(327 ≤ p.pad && p.pad ≤ 350)) &&
      (!(327 ≤ p.pad && p.pad ≤ 350 && (p.pad - 327) % 4 < 2) ||
        im.pins.any fun q => q.pad == (if (p.pad - 327) % 4 == 0 then p.pad + 1 else p.pad - 1))

/-! ### Tiles (R32, R150, R151) -/

/-- KIND, INDEX and ARG of a TILES record are among those of R150. -/
def TileRec.ok (t : TileRec) : Bool :=
  let a := t.arg.toNat
  match t.kind.toNat with
  | 0x01 => t.index == 0 && (a == 1 || a == 2)
  | 0x02 => t.index < 8 && 1 ≤ a && a ≤ 3
  | 0x03 => t.index < 4 && (a == 1 || a == 2)
  | 0x04 => 4 ≤ t.index && t.index < 8 && a == 0
  | 0x05 => t.index == 0 && (a == 1 || a == 3 || (a % 256 == 2 && 1 ≤ a / 256 && a / 256 ≤ 16))
  | 0x06 => t.index < 4 && a == 0
  | 0x07 => t.index < 3 && a == 0
  | 0x08 => t.index == 0 && 1 ≤ a && a ≤ 64
  | 0x09 => t.index == 0 && (a == 1 || a == 2)
  | 0x0A | 0x0B | 0x0C => t.index == 0 && a == 0
  | _ => false

/-- The limits of a role (R32): fusion ARG, planner ARGs, planners, auxiliary planners, motor engines, free loop engines,
scheduler mode, figure engines, then whether a lease gate, a lease issuer and vault-watch are allowed. A 0 stands for none. -/
structure RoleLimits where
  fusion   : Nat
  planArgs : List Nat
  planners : Nat
  aux      : Nat
  motors   : Nat
  loops    : Nat
  sched    : Nat
  figures  : Nat
  gate     : Bool
  issuer   : Bool
  vault    : Bool
  deriving DecidableEq, Repr

def roleLimits : Role → RoleLimits
  | .cartop => ⟨2, [2, 3], 8, 8, 4, 4, 0, 4, false, false, true⟩
  | .machine => ⟨1, [1, 3], 8, 7, 4, 4, 1, 4, true, false, true⟩
  | .group => ⟨0, [], 0, 0, 0, 0, 2, 4, true, false, false⟩
  | .machineGroup => ⟨1, [1, 3], 8, 7, 4, 4, 2, 4, true, false, true⟩
  | .vaultstn => ⟨0, [2, 3], 4, 4, 2, 2, 3, 4, false, false, true⟩
  | .referee => ⟨0, [], 0, 0, 0, 0, 0, 2, false, true, false⟩

/-- How many TILES records have a kind. -/
def Image.tileCount (im : Image) (kind : Nat) : Nat := (im.tiles.filter fun t => t.kind.toNat == kind).length

def Image.planCount (im : Image) (arg : Nat) : Nat :=
  (im.tiles.filter fun t => t.kind.toNat == 2 && t.arg.toNat == arg).length

/-- No two records of a list share a key. -/
def allDistinct {α : Type} [DecidableEq α] : List α → Bool
  | [] => true
  | x :: xs => !xs.contains x && allDistinct xs

/-- TILES: every record allowed, no KIND and INDEX twice, within the role's limits, a lease gate exactly when REDUNDANT. -/
def Image.tilesOk (im : Image) : Bool :=
  let l := roleLimits im.role
  (im.tiles.all fun t => t.ok &&
    (match t.kind.toNat with
      | 1 => t.arg.toNat == l.fusion
      | 2 => l.planArgs.contains t.arg.toNat
      | 5 => l.sched != 0 && t.arg.toNat % 256 == l.sched
      | _ => true)) &&
  allDistinct (im.tiles.map fun t => (t.kind, t.index)) &&
  im.planCount 1 ≤ 1 && im.planCount 3 ≤ l.aux && im.tileCount 2 ≤ l.planners &&
  im.tileCount 3 ≤ l.motors && im.tileCount 4 ≤ l.loops && im.tileCount 6 ≤ l.figures &&
  (l.gate || im.tileCount 0x0B == 0) && (l.issuer || im.tileCount 0x0C == 0) && (l.vault || im.tileCount 0x0A == 0) &&
  (im.tileCount 0x0B == 1) == im.redundant

/-! ### Endpoints (R105, R190, R226, R237, R258, R300, R335, R372, R426, R469, R540, R560, R575, R590) -/

/-- What must be instantiated for a port to exist. -/
inductive PortOwner where
  | always
  | tile (kind index : Nat)
  | carPlanner
  deriving DecidableEq, Repr

/-- A port: its longest item in words, whether it consumes, and its owner. -/
structure PortSpec where
  words    : Nat
  consumer : Bool
  owner    : PortOwner
  deriving DecidableEq, Repr

/-- A consumer port, a producer port. -/
def consPort (words : Nat) (o : PortOwner) : Option PortSpec := some ⟨words, true, o⟩
def prodPort (words : Nat) (o : PortOwner) : Option PortSpec := some ⟨words, false, o⟩

/-- Ports of PWR (R105). -/
def pwrPort (p : Nat) : Option PortSpec :=
  match p with
  | 0 => consPort 2 .always
  | 1 => consPort 3 .always
  | 2 => prodPort 8 .always
  | 3 => consPort 4 .always
  | 4 => prodPort 4 .always
  | 5 => consPort 5 .always
  | 6 => prodPort 2 .always
  | 7 => consPort 2 .always
  | _ => none

/-- Ports of SFI (R469, R575). -/
def sfiPort (p : Nat) : Option PortSpec :=
  if p < 2 then consPort 2 .always
  else if p = 2 ∨ p = 4 ∨ (0x10 ≤ p ∧ p ≤ 0x13) then prodPort 2 .always
  else if p = 3 then consPort 4 .always
  else none

/-- Ports of MPI: fusion (R226, R237, R241, R285), planners (R258) and free loop engines (R300). -/
def mpiPort (p : Nat) : Option PortSpec :=
  if p = 0 then prodPort 2 (.tile 1 0)
  else if p = 1 then consPort 9 (.tile 1 0)
  else if p = 2 then consPort 3 (.tile 1 0)
  else if p = 3 then prodPort 5 (.tile 1 0)
  else if p = 4 then consPort 2 (.tile 1 0)
  else if p = 5 then prodPort 9 (.tile 1 0)
  else if 0x10 ≤ p ∧ p < 0x18 then consPort 8 (.tile 2 (p - 0x10))
  else if 0x18 ≤ p ∧ p < 0x20 then prodPort 6 (.tile 2 (p - 0x18))
  else if 0x20 ≤ p ∧ p < 0x28 then prodPort 4 (.tile 2 (p - 0x20))
  else if p = 0x28 then consPort 4 .carPlanner
  else if p = 0x29 then prodPort 5 .carPlanner
  else if 0x30 ≤ p ∧ p < 0x38 then
    (if p % 2 = 0 then consPort 8 (.tile 4 (4 + (p - 0x30) / 2)) else prodPort 4 (.tile 4 (4 + (p - 0x30) / 2)))
  else none

/-- Ports of motor engine `m` (R300, R323, R335). -/
def mcPort (m p : Nat) : Option PortSpec :=
  let o := PortOwner.tile 3 m
  match p with
  | 0x00 => consPort 6 o
  | 0x01 => prodPort 8 o
  | 0x02 => consPort 8 o
  | 0x03 => prodPort 4 o
  | 0x04 => prodPort 8 o
  | 0x05 | 0x06 | 0x07 => consPort 2 o
  | 0x08 => consPort 4 o
  | 0x09 => prodPort 4 o
  | 0x0A => prodPort 2 o
  | _ => none

/-- Ports of the scheduler (R372). -/
def schPort (p : Nat) : Option PortSpec :=
  let o := PortOwner.tile 5 0
  if p < 4 then consPort 6 o
  else if p = 0x04 then prodPort 4 o
  else if p = 0x05 then prodPort 8 o
  else if p = 0x06 then consPort 4 o
  else if p = 0x07 then consPort 5 o
  else if p = 0x08 then consPort 2 o
  else if p = 0x09 then prodPort 4 o
  else if p = 0x0A then prodPort 16 o
  else if p = 0x0B then consPort 4 o
  else if 0x10 ≤ p ∧ p < 0x20 then consPort 16 o
  else if 0x20 ≤ p ∧ p < 0x30 then prodPort 4 o
  else if p = 0x30 then prodPort 4 o
  else if p = 0x31 then consPort 4 o
  else if (0x32 ≤ p ∧ p ≤ 0x35) ∨ p = 0x38 then prodPort 2 o
  else none

/-- Islands that serve register requests of figure engines (R426, R430). -/
def figTarget (i : Nat) : Bool := [1, 3, 4, 5, 6, 7, 8, 9, 10, 12].contains i

/-- Ports of SEQ (R426). -/
def seqPort (p : Nat) : Option PortSpec :=
  if p < 0x80 then (if p % 32 < 16 then consPort 16 (.tile 6 (p / 32)) else prodPort 16 (.tile 6 (p / 32)))
  else if p < 0xC0 then (if figTarget (p % 16) then prodPort 3 (.tile 6 ((p - 0x80) / 16)) else none)
  else (if figTarget (p % 16) then consPort 2 (.tile 6 ((p - 0xC0) / 16)) else none)

/-- Ports of BUS: controllers (R540), Porlux (R560), issuer (R575) and unit report (R590). -/
def busPort (p : Nat) : Option PortSpec :=
  if p < 0xC0 then prodPort 16 (.tile 7 (p / 64))
  else if p < 0xCC then consPort 16 (.tile 7 ((p - 0xC0) / 4))
  else if p < 0xCF then prodPort 4 (.tile 7 (p - 0xCC))
  else if 0xD8 ≤ p ∧ p < 0xE0 then consPort 16 (.tile 8 0)
  else if 0xE0 ≤ p ∧ p < 0xE8 then prodPort 16 (.tile 8 0)
  else if p = 0xE8 then prodPort 2 (.tile 8 0)
  else if p = 0xE9 then consPort 2 (.tile 8 0)
  else if p = 0xEA then prodPort 4 (.tile 8 0)
  else if p = 0xF0 ∨ p = 0xF1 then consPort 4 (.tile 0x0C 0)
  else if p = 0xF7 then prodPort 4 (.tile 0x0B 0)
  else none

/-- The port an endpoint code names (R152). The host's is apart. DESIGN CHOICE: R190 asks only for a port of the table, so a
port whose Modes column (R372) leaves the tile's mode out, or whose fusion engine is of the other kind, is an endpoint all
the same (log 8). -/
def portSpec (code : Nat) : Option PortSpec :=
  let i := code / 256
  let p := code % 256
  if figTarget i ∧ 0xF8 ≤ p then
    (if p < 0xFC then consPort 3 (.tile 6 (p - 0xF8)) else prodPort 2 (.tile 6 (p - 0xFC)))
  else
    match i with
    | 1 => pwrPort p
    | 4 => sfiPort p
    | 5 => mpiPort p
    | 6 | 7 | 8 | 9 => mcPort (i - 6) p
    | 10 => schPort p
    | 11 => seqPort p
    | 12 => busPort p
    | _ => none

/-- Code of the host port behind the command gate (R152). -/
def hostCode : Nat := 0xFF00

/-- The longest item of an endpoint in a direction, none when the image has no such port (R190). -/
def Image.portWords (im : Image) (code : Nat) (consumer : Bool) : Option Nat :=
  if code = hostCode then some 16
  else
    match portSpec code with
    | none => none
    | some s =>
      let there := match s.owner with
        | .always => true
        | .tile kind index => im.hasTile kind [index]
        | .carPlanner => im.planCount 1 != 0
      if there && s.consumer == consumer then some s.words else none

/-! ### Routes (R152, R153, R190, R196) -/

/-- One ROUTES record. -/
def Image.routeOk (im : Image) (r : RouteRec) : Bool :=
  let p := r.producer.toNat
  let c := r.consumer.toNat
  r.queue ≤ 511 && 1 ≤ r.capacity && r.capacity ≤ 16384 &&
    (if r.flag then r.timeout == 0 else 1 ≤ r.timeout && r.timeout ≤ 1000000) &&
    !(p == hostCode && c == hostCode) && r.flag == (c == hostCode) &&
    (im.portWords c true).isSome &&
    (match im.portWords p false with
      | some l => 2 + (l + 7) / 8 ≤ r.capacity
      | none => false)

/-- Queue numbers rise; the first may be 0. -/
def risingQueues : List Nat → Bool
  | [] => true
  | q :: qs => risingFrom qs q

def Image.routesOk (im : Image) : Bool :=
  risingQueues (im.routes.map (·.queue)) && im.routes.all im.routeOk &&
    (im.routes.map (·.capacity)).sum ≤ 16384 &&
    im.routes.all fun r =>
      (r.producer.toNat == hostCode || (im.routes.filter fun q => q.producer == r.producer).length ≤ 8) &&
      (r.consumer.toNat == hostCode || (im.routes.filter fun q => q.consumer == r.consumer).length ≤ 8)

/-! ### The lattice (R445, R447, R449, R450) -/

/-- A signal address of R445, with cells below `count`. -/
def signalOk (count a : Nat) : Bool :=
  if a < 0x400 then a < count
  else
    [(0x400, 24), (0x420, 24), (0x440, 24), (0x460, 24), (0x480, 8), (0x490, 16), (0x4A0, 16), (0x4B0, 13), (0x4C0, 5),
      (0x4D0, 6), (0x4D8, 6), (0x4E0, 3), (0x4F0, 2)].any fun r => r.1 ≤ a && a < r.1 + r.2

/-- One cell's four words. -/
def cellOk (count : Nat) (ws : List Word) : Bool :=
  let w (k : Nat) : Word := ws.getD k 0
  let mode := getBits (w 2) 3 0
  let timer := getBits (w 2) 9 4
  let init := (w 2).getLsbD 10
  let rst := getBits (w 2) 23 12
  let preset := getBits (w 3) 27 0
  [getBits (w 0) 11 0, getBits (w 0) 23 12, getBits (w 1) 11 0, getBits (w 1) 23 12].all (signalOk count) &&
    mode ≤ 6 && !(w 2).getLsbD 11 && getBits (w 2) 31 24 == 0 && getBits (w 3) 31 28 == 0 &&
    (if 3 ≤ mode && mode ≤ 5 then 1 ≤ preset else timer == 0 && preset == 0) &&
    (if mode == 1 || mode == 2 then signalOk count rst else rst == 0 && !init)

/-- The timer a cell takes. -/
def cellTimer (ws : List Word) : Option Nat :=
  let w := ws.getD 2 0
  if 3 ≤ getBits w 3 0 ∧ getBits w 3 0 ≤ 5 then some (getBits w 9 4) else none

def Image.latticeOk (im : Image) : Bool :=
  let n := im.lattice.length
  1 ≤ n && n ≤ 1024 && im.lattice.all (cellOk n) && allDistinct (im.lattice.filterMap cellTimer)

/-! ### Parameters and exposure (R27, R155 to R157) -/

/-- The register at an address has an RWL field. -/
def isRwl (a : Nat) : Bool :=
  match locate a with
  | some (r, idx) => r.takesRwl idx
  | none => false

/-- A register only a learn run writes: a learned door register, or any register of the fusion sub-block (R240, R365). -/
def learnWritten (a : Nat) : Bool :=
  (0x0C0000 ≤ a && a < 0x0C4000) ||
    (0x100000 ≤ a && a < 0x140000 && 0x2A0 ≤ a % 0x10000 && a % 0x10000 < 0x2B0)

/-- A write to this address may not be exposed: lattice cells, safety outputs, lease gate registers, RWL registers (R27), what
only learn runs write (R240, R365; log entry 8). A register that mixes RWL fields with RW or WO ones counts as an RWL register, which
R27 does not say: the model's choice (log entry 8). -/
def unexposable (a : Nat) : Bool :=
  (0x088000 ≤ a && a ≤ 0x08BFFF) || (0x080300 ≤ a && a ≤ 0x08035F) || (0x0800A0 ≤ a && a ≤ 0x0800BB) || learnWritten a ||
    isRwl a

def ExposeRec.ok (e : ExposeRec) : Bool :=
  1 ≤ e.count && e.count ≤ 4096 &&
    (!e.write || (List.range e.count).all fun k => !unexposable (e.addr + 4 * k))

/-- The fourth word of a knot, which the image-loaded knot store holds and which ignores writes (R156, R275). -/
def knotGap (a : Nat) : Bool := decide (0xD0000 ≤ a) && decide (a < 0xD0000 + 12288 * 16) && a % 16 == 12

def Image.paramsOk (im : Image) : Bool :=
  im.params.all fun p => p.1 % 4 == 0 && (isRwl p.1 || knotGap p.1) && im.present p.1

/-! ### Figures (R421) -/

/-- The steps of a figure's words with the word each stands at. -/
def figWalk : List Word → Nat → Option (List (Nat × FigStep))
  | [], _ => some []
  | w :: ws, at_ =>
    match figDecode w (ws.headD 0) with
    | none => none
    | some st =>
      if st.size = 2 then
        match ws with
        | [] => some [(at_, st)]
        | _ :: rest => (figWalk rest (at_ + 2)).map ((at_, st) :: ·)
      else (figWalk ws (at_ + 1)).map ((at_, st) :: ·)

/-- Where a step may transfer control (R421). -/
def FigStep.targets : FigStep → List Nat
  | .br _ _ _ t | .bri _ _ _ t | .jmp t | .call t => [t.toNat]
  | .wait _ _ timer e => if timer.toNat < 8 then [e.toNat] else []
  | _ => []

/-- The ports a step names, as endpoint codes with their directions. -/
def FigStep.ports (f : Nat) : FigStep → List (Nat × Bool)
  | .post p _ _ | .move p _ _ _ _ _ _ _ => [(0x0B10 + f * 32 + p.toNat, false)]
  | .recv p _ _ => [(0x0B00 + f * 32 + p.toNat, true)]
  | .flush p side => [(0x0B00 + f * 32 + bit side * 16 + p.toNat, !side)]
  | .wait .qready arg _ _ => [(0x0B00 + f * 32 + arg.toNat % 16, true)]
  | .wait .qroom arg _ _ => [(0x0B10 + f * 32 + arg.toNat % 16, false)]
  | _ => []

/-- A route of the image uses the port. -/
def Image.routed (im : Image) (p : Nat × Bool) : Bool :=
  im.routes.any fun r => (if p.2 then r.consumer else r.producer).toNat == p.1

/-- A figure may read a register: those of the blocks of R430. -/
def figReadable (a : Nat) : Bool :=
  match locate a with
  | some _ => (0x010000 ≤ a && a < 0x020000) || (0x040000 ≤ a && a < 0x200000)
  | none => false

/-- A figure may write a register: not in SFI, and only RW, WO or W1C fields beside read-only ones (R430). -/
def figWritable (a : Nat) : Bool :=
  match locate a with
  | some (r, _) =>
    figReadable a && !(0x080000 ≤ a && a < 0x0C0000) && (r.has .rw || r.has .wo || r.has .w1c)
  | none => false

/-- A step's own fields (R421): register ranges, registers it reaches, the engine it signals. -/
def Image.stepOk (im : Image) (st : FigStep) : Bool :=
  match st with
  | .recv _ rd n => rd.toNat + n.toNat + 1 ≤ 15
  | .post _ ra n => ra.toNat + n.toNat ≤ 15
  | .move _ ra _ _ _ _ ovr _ => ra.toNat + (if ovr then 5 else 1) ≤ 15
  | .rdreg _ a => figReadable a.toNat
  | .wrreg _ a => figWritable a.toNat
  | .sig e _ => im.hasTile 6 [e.toNat]
  | _ => true

/-- The output lines a figure drives. -/
def outLines (steps : List (Nat × FigStep)) : List Nat :=
  steps.filterMap fun e => match e.2 with
    | .outl line _ => some line.toNat
    | _ => none

/-- One FIGURE section, its steps read. -/
def Image.figureOk (im : Image) (f count : Nat) (steps : List (Nat × FigStep)) : Bool :=
  let literal (t : Nat) : Bool := steps.any fun e => e.2.size == 2 && e.1 + 1 == t
  1 ≤ count && count ≤ 4096 &&
    steps.all fun e =>
      im.stepOk e.2 && ((e.2.ports f).all im.routed) && e.2.targets.all fun t => t < count && !literal t

/-- The FIGURE sections: one for each figure engine and no other, each legal, no output line driven by two (R146, R421).
DESIGN CHOICE: the rules say nothing of a FIGURE section for an engine that TILES does not instantiate; the image is refused
(log 8). -/
def Image.figuresOk (im : Image) : Bool :=
  let walked := im.figures.map fun e => (e.1, e.2.length, figWalk e.2 0)
  let lines (f : Nat) : List Nat :=
    walked.flatMap fun x => if x.1 = f then [] else outLines (x.2.2.getD [])
  ((List.range 4).all fun f => (im.figures.any fun e => e.1 == f) == im.hasTile 6 [f]) &&
    walked.all fun x =>
      match x.2.2 with
      | none => false
      | some steps => im.figureOk x.1 x.2.1 steps && (outLines steps).all fun l => !(lines x.1).contains l

/-! ### Rules on parameter values (R70, R536, R558) -/

/-- The registers as the PARAMS runs leave them, from reset. -/
def Image.paramState (im : Image) : State :=
  im.params.foldl (fun s p =>
    match locate p.1 with
    | some (r, idx) => s.storeFields [.rwl] r idx p.2
    | none => s) { State.reset with image := some im }

/-- A dual-contact input is fed from two different LE ports (R70). -/
def State.sourcesOk (s : State) : Bool :=
  (List.range 24).all fun n =>
    let c := s.reg .SFI_SICFG [n]
    !(getBits c 1 0 == 1 || getBits c 1 0 == 2) || getBits c 9 5 != getBits c 14 10

/-- A controller number; 3 acts as 0. -/
def ctrlNum (c : Nat) : Nat := if c = 3 then 0 else c

/-- The enabled connections (R559, R573). -/
def State.liveConns (s : State) (im : Image) : List Nat :=
  let n := match im.tiles.find? fun t => t.kind.toNat == 8 with
    | some t => t.arg.toNat
    | none => 0
  (List.range n).filter fun c =>
    let w := s.reg .BUS_PXCCFG [c]
    w.getLsbD 31 && getBits w 29 28 != 3

/-- An identifier as one controller sends it: controller, ID, IDE. -/
abbrev TxId := Nat × Nat × Bool

/-- The identifiers of an image's transmit sources: Porlux senders, WRAP ports, the time master, the copy link. -/
def State.txIds (s : State) (im : Image) : List TxId :=
  let px := (s.liveConns im).filterMap fun c =>
    let w := s.reg .BUS_PXCCFG [c]
    let d := s.reg .BUS_PXCCAN [c]
    if w.getLsbD 30 then some (ctrlNum (getBits w 27 26), getBits d 28 0, d.getLsbD 29) else none
  let wrap := (List.range 12).filterMap fun k =>
    let d := s.reg .BUS_CANTXPID [k / 4, k % 4]
    if im.hasTile 7 [k / 4] && (s.reg .BUS_CANTXPCFG [k / 4, k % 4]).getLsbD 1 then
      some (k / 4, getBits d 28 0, d.getLsbD 29) else none
  let master := if im.tiles.any fun t => t.kind.toNat == 9 && t.arg.toNat == 1 then
      [(ctrlNum (getBits (s.reg .BUS_TSCTL) 5 4), getBits (s.reg .BUS_TSCFG) 28 0, (s.reg .BUS_TSCFG).getLsbD 29)] else []
  let ep := s.reg .BUS_EPCFG
  let own := getBits ep 28 0 + 2 * getBits (s.reg .SFI_LSCFG) 0 0
  let copy := if im.hasTile 0x0B [0] then
      [own, own + 1].map fun i => (ctrlNum (getBits (s.reg .BUS_EPCTL) 11 10), i, ep.getLsbD 29) else []
  px ++ wrap ++ master ++ copy

/-- CONNIDs and transmit identifiers do not repeat (R536, R558). -/
def State.idsOk (s : State) (im : Image) : Bool :=
  allDistinct ((s.liveConns im).map fun c => getBits (s.reg .BUS_PXCCFG [c]) 15 0) && allDistinct (s.txIds im)

/-! ### The six checks -/

/-- Check 6 of R127. -/
def Image.structureOk (im : Image) : Bool :=
  im.pinsOk && im.tilesOk && im.routesOk && im.latticeOk && im.paramsOk && im.expose.all ExposeRec.ok && im.figuresOk &&
    im.paramState.sourcesOk && im.paramState.idsOk im

/-- Checks 1 to 6 of R127 on a slot: the failure code, or the image. -/
def checkSlot (p : Persist) (slot : List Host.Cell) : Nat ⊕ Image :=
  match checkFormat p slot with
  | .inl code => .inl code
  | .inr (img, dir) =>
    match parseImage img dir with
    | none => .inl 6
    | some im => if im.structureOk then .inr im else .inl 6

/-- The result of R127 as VRES shows it: 0 for a pass. -/
def slotVerdict (p : Persist) (slot : List Host.Cell) : Nat :=
  match checkSlot p slot with
  | .inl code => code
  | .inr _ => 0

end Sys2Proof.Machine
end

