-- ==== Sys2Proof/Machine/Restart.lean ====
section
/-! DEFINITION. What a reset does (R116 to R118): what is kept, what MGT still commits, and the start that follows. -/

namespace Sys2Proof.Machine

/-! ### What a reset ends -/

/-- A running targeted test is abandoned: no transient, BLOCK_TEST with result ABANDONED (R506, R510). -/
def State.abandonTest (s : State) (t : Nat × Nat × BitVec 16) : State :=
  let (b, at_, cause) := t
  let x := { s.persist.blocks.get BlockStat.reset b with last := 4 }
  (s.setBlock b x).noteBlock b (BitVec.ofNat 16 (min 65535 (s.dev - at_))) cause x

/-- MGT commits the stage and every tap before it is reset (R623, R624). -/
def State.commitAll (s : State) : State := s.withHist (s.hist.endFreeze.drain 256)

/-- A reset ends a slot command: an ERASE, a COPY_AB or an OVL_CLEAR has by then reached some of its words and not others, and
free values say which. -/
def State.abandonSlotOp (s : State) : State :=
  let reached (word : Nat) : Bool := (Config.freeWord (s.fresh + word)).getLsbD 0
  let p := s.persist
  let p := match s.loader.op with
    | some (.erase, b) => p.setSlot b ((p.slot b).filter fun c => !reached (c.1 / 4))
    | some (.copyAB, _) =>
      if slotVerdict p p.slotA = 0 then
        { p with slotB := (p.slotA.filter fun c => reached (c.1 / 4)).foldl (fun t c => Tbl.set t 0xFF c.1 c.2)
                   (p.slotB.filter fun c => !reached (c.1 / 4)) }
      else p
    | some (.ovlClear, _) =>
      { p with overlay := (p.overlay.zipIdx.filter fun e => !reached e.2).map (·.1) }
    | _ => p
  { s with persist := p, fresh := if s.loader.op.isSome then s.fresh + 0x40000 else s.fresh }

/-- What comes before the reset itself: tests abandoned, PFAIL changes that a tempo switch held, the session's lock, the
lanes; and, where MGT is reset and still powered, its commits. A structure reload resets no MGT: a freeze goes on through it,
although the session locks (R176, R632; log entry 61). -/
def State.beforeReset (s : State) (reload : Bool) : State :=
  let s := (s.react.testing.foldl State.abandonTest s).releasePfail
  if reload then (s.shutSession 2).flushLanes
  else
    let s := (s.lockSession 2).flushLanes
    if s.aon.mgtUp then s.commitAll else s

/-! ### What a reset leaves -/

/-- The islands of QF, SFI, MPI, MC, SCH, SEQ and BUS in reset. -/
def State.clearIslands (s : State) : State :=
  let o := State.reset
  { s with fabric := o.fabric, lattice := o.lattice, react := o.react, gate := o.gate, fusion := s.fusion.cleared,
           planners := [], loops := [], motors := [], doors := [], sched := o.sched, seqr := o.seqr, cans := [],
           time := o.time, porlux := o.porlux, issuer := o.issuer, copy := o.copy,
           field := { Field.reset with shutdown := s.field.shutdown },
           start := { s.start with rsti := Start.reset.rsti } }

/-- The register words after a reset that keeps some islands: theirs, and for the others the RWK words from the array
(R25, R116). -/
def State.keptRegs (s : State) (keep : Nat → Bool) : Tbl Word :=
  let kept (a : Nat) : Bool := match islandAt a with
    | some i => keep i
    | none => false
  (s.persist.rwk.filter fun e => !kept e.1).foldl (fun t e => t.set (rwkDefault e.1).value e.1 e.2.value)
    (s.regs.filter fun e => kept e.1)

/-- The supplies after a reset of PWR: what the comparators show stays, what PWR latched or measured is cleared. PFAIL stays with the
comparator, so that its release after the reset writes PFAIL_CLEAR; R99 speaks of a release without a reset only, so this is the
model's choice (log entry 15). -/
def Supplies.cleared (x : Supplies) : Supplies :=
  { Supplies.reset with vmainOk := x.vmainOk, vfldOk := x.vfldOk, pfail := x.pfail,
                        vbatAbsent := x.vbatAbsent }

/-- The tempo switch after a reset that keeps PWR: a switch in progress has ended; the outcome of an earlier one still shows. The
model's choice (log entry 13): SWITCHES goes on over such a reset. -/
def Tempo.ended (t : Tempo) : Tempo :=
  if t.stat == .deferred || t.stat == .switching then { t with stat := .idle, reason := 0, quiesce := false, qack := [] }
  else t

/-- PWR in reset, or kept with its sequences ended. The model's choice (log entry 16): after a reset of PWR the mains sense
counts as present until MAINS_SENSE_CHANGE says otherwise. -/
def State.resetPwr (s : State) (keep : Bool) : State :=
  let r := { Rescue.reset with charge := 1000 * (s.PWR_RESQREM : Int) }
  if keep then
    { s with tempo := s.tempo.ended, rescue := { s.rescue with stat := .disabled, restart := false },
             power := { s.power with state := .starting, hib := .run, hibReason := 0, watchPorts := 0, gate := 7 } }
  else
    { s with tempo := Tempo.reset, rescue := r, power := Power.reset, supplies := s.supplies.cleared, dev := 0 }

/-- The recorder after a reset of MGT: the taps of AON and of a kept PWR stay, and the newest record's DTIME (R613, R614). -/
def Recorder.restarted (r : Recorder) (keepPwr : Bool) : Recorder :=
  { Recorder.reset with lastDt := r.lastDt, taps := r.taps.filter fun e => e.1 == 0 || (keepPwr && e.1 == 1) }

/-- MGT in reset, or kept with the image gone and what every reset clears (R165, R167, R173, R177, R653). -/
def State.resetMgt (s : State) (keepPwr keep : Bool) : State :=
  if keep then
    { s with session := { s.session with buffer := [], keyWords := [], keyCount := 0 },
             ports := { Ports.reset with mpsel := s.ports.mpsel, mgmt := s.ports.mgmt, mgmtLast := s.ports.mgmtLast,
                                         errors := s.ports.errors, errNotedAt := s.ports.errNotedAt } }
  else
    { s with session := { Session.reset with wait := unlockWait s.persist.fails.toNat }, loader := Loader.reset,
             ports := { Ports.reset with mpsel := s.ports.mpsel }, aon := { s.aon with mgtUp := false },
             recorder := s.recorder.restarted keepPwr }

/-- Everything a reset clears, given the islands it keeps beside AON; no start has begun. -/
def State.wipe (s : State) (keepPwr keepMgt : Bool) : State :=
  let s := s.abandonSlotOp
  let s := { s with regs := s.keptRegs fun i => i == 0 || (keepPwr && i == 1) || (keepMgt && i == 2), image := none,
                    defres := DefRes.reset, start := Start.reset }
  ((s.clearIslands).resetPwr keepPwr).resetMgt keepPwr keepMgt

/-! ### The starts (R116, R123, R134, R138) -/

/-- The cause keeps PWR running and enters at step 4 (R116). -/
def ResetCause.atStep4 (c : ResetCause) : Bool := c == .structureReload || c == .wake

/-- The islands are reset with a cause: what the reset ends and leaves, PHASE at the entry step. -/
def State.toReset (s : State) (c : ResetCause) : State :=
  let s := (s.beforeReset (c == .structureReload)).wipe c.atStep4 (c == .structureReload)
  let entry : BitVec 4 := if c.atStep4 then 4 else 1
  { s with start := { s.start with phase := entry, entry := entry, cause := c }
           aon := { s.aon with timeouts := if c == .startTimeout then s.aon.timeouts else 0, loopHeld := false,
                               wakeWaiting := none } }

/-- A start begins with a cause (R116). -/
def State.restart (s : State) (c : ResetCause) : State :=
  let s := s.toReset c
  { s with aon := { s.aon with starts := satInc s.aon.starts } }

end Sys2Proof.Machine
end

