-- ==== Sys2Proof/Machine/Start.lean ====
section
/-! DEFINITION. The start (chapter 04): the reset input, the steps of R123 with the image load of chapter 05, the self-tests
and the start supervision. -/

namespace Sys2Proof.Machine

/-- The start stands at a step (R123). -/
def State.atStep (s : State) (n : BitVec 4) : Bool := s.power.state == .starting && s.start.phase == n

/-! ### The reset input (R119 to R122) -/

/-- A RESET_N hold ends with the count it has reached: AON_RSTHOLD, and RESET_HELD owed after more than 30 s (R121, R122). -/
def Aon.endHold (a : Aon) (us : Nat) : Aon :=
  if a.resetLow then
    let us := if a.alert then max us 30000001 else us
    { a with resetLow := false, holdUs := 0, alert := false, statLow := false, lastHold := satWordU (msOf us),
             heldOwed := a.heldOwed || decide (30000000 < us) }
  else a

/-- RESET_PIN (R116, R119, R121): a hold begins, and every start ends. -/
def execResetPin (s : State) : Host.Outcome State Fault Refusal :=
  .next (if s.supplies.vmainOk && !s.aon.resetLow then
      let s := s.restart .resetPin
      { s with aon := { s.aon with resetLow := true, holdUs := 0, alert := false, statLow := false } }
    else s)

/-- RESET_RELEASE (R120): RESET_N has been high for 1 ms with VMAIN in range; step 1 ends. -/
def execResetRelease (s : State) : Host.Outcome State Fault Refusal :=
  .next (if s.supplies.vmainOk then
      let s := { s with aon := s.aon.endHold (s.aon.holdUs - 1000) }
      if s.atStep 1 && !s.aon.loopHeld then { s with start := { s.start with phase := 2 } } else s
    else s)

/-- RESET_HOLD_ALERT (R121): AON_STAT is pulled low. -/
def execResetHoldAlert (s : State) : Host.Outcome State Fault Refusal :=
  .next (if s.aon.resetLow && !s.aon.alert then { s with aon := { s.aon with alert := true, statLow := true } } else s)

/-- AON_STAT_TOGGLE (R121). -/
def execAonStatToggle (s : State) : Host.Outcome State Fault Refusal :=
  .next (if s.aon.alert then { s with aon := { s.aon with statLow := !s.aon.statLow } } else s)

/-- A write of MGT_RSTREQ: GO with its KEY resets the device (R116, R140). -/
def State.writeRstreq (s : State) (w : Word) : State :=
  if w.getLsbD 0 && getBits w 31 16 == 0x5A17 then s.restart .mgmtRequest else s

/-- MGMT_REQUEST (R140). -/
def execMgmtRequest (w : Word) (s : State) : Host.Outcome State Fault Refusal :=
  .next (if s.mgtUp then s.writeRstreq w else s)

/-! ### Steps 2 and 3 (R83, R123, R141) -/

/-- RAILS_GOOD: step 2 ends, and the ports answer (R83, R125). -/
def execRailsGood (s : State) : Host.Outcome State Fault Refusal :=
  .next (if s.atStep 2 && s.power.railFails != 2 then { s with start := { s.start with phase := 3 } } else s)

/-- RAIL_TIMEOUT (R83): the first failure leads to one retry, the second holds the device at step 2. -/
def execRailTimeout (rail : Fin 4) (s : State) : Host.Outcome State Fault Refusal :=
  .next (if s.atStep 2 && s.power.railFails != 2 then
      let s := { s with power := { s.power with railFails := s.power.railFails + 1 } }
      if s.power.railFails = 2 then s.aonNote 0x0002 (leBytes 1 rail.val) else s
    else s)

/-- AON hands MGT what it kept while MGT was down: the AON log, and a RESET_HELD owed (R122, R628). -/
def State.takeAon (s : State) : State :=
  let s := s.copyAonLog
  if s.aon.heldOwed then
    { s with aon := { s.aon with heldOwed := false } }.aonNote 0x0010 (leBytes 4 s.aon.lastHold.toNat)
  else s

/-- Device time after a restart of its counter (R615). -/
def State.seedTime (s : State) : State := { s with dev := max s.recorder.lastDt s.persist.dtMark + 1000 }

/-- ARRAY_CHECK_DONE: step 3 ends (R123, R141, R615, R628). -/
def execArrayCheckDone (s : State) : Host.Outcome State Fault Refusal :=
  .next (if s.atStep 3 then
      let s := { s with persist := s.persist.scanLogs }.seedTime.takeAon
      let s := s.commitNote 0x0201
        (leBytes 1 (causeCode s.start.cause) ++ leBytes 1 s.start.entry.toNat ++ leBytes 1 (bit s.aon.rtcInvalid))
      { s with start := { s.start with phase := 4 } }
    else s)

/-! ### Step 4 (R127 to R129, R161, R171, R172) -/

/-- The loader stores a parameter as an RWL write would, clamping included (R156). A command field acts only when the
management port writes it (R170), and MGT_QCLR adds its clearances. -/
def State.loadParam (s : State) (p : Nat × Word) : State :=
  match locate p.1 with
  | none => s
  | some (r, idx) =>
    match r with
    | .MGT_QCLR => s.writeMgtQclr p.2
    | .MPI_FCMD | .SFI_LATCTL | .SFI_TESTCTL | .SFI_LSCTL | .BUS_LICTL => s
    | _ => s.storeFields [.rwl] r idx p.2

/-- SFI_LEPCFGn takes MODE from PINMUX (R71, R148). -/
def State.loadLepModes (s : State) (im : Image) : State :=
  (im.pins.filter fun p => 231 ≤ p.pad && p.pad ≤ 262).foldl
    (fun s p => s.setReg .SFI_LEPCFG [p.pad - 231] (p.func.setWidth 32)) s

/-- The overlay at step 4: erased and tied anew when a structure reload has loaded another image from slot A, applied when
its tie is the image's CRC, skipped otherwise (R171, R172). -/
def State.loadOverlay (s : State) (im : Image) (slotB : Bool) : State :=
  let p := s.persist
  if s.start.cause = .structureReload ∧ !slotB ∧ im.crc ≠ p.ovlCrc then
    { s with persist := { p with overlay := [], ovlCrc := im.crc }, loader := { s.loader with skipped := false } }
  else if p.overlay.isEmpty then { s with loader := { s.loader with skipped := false } }
  else if im.crc = p.ovlCrc then
    p.overlay.foldl State.loadParam { s with loader := { s.loader with skipped := false } }
  else
    { s with loader := { s.loader with skipped := true } }.commitNote 0x0245 (wordBytes p.ovlCrc ++ wordBytes im.crc)

/-- The pads 29 to 34 that the image uses (R46, R147). -/
def Image.tampPads (im : Image) : BitVec 6 :=
  BitVec.ofNat 6 ((List.range 6).map fun i => bit (im.pins.any fun p => p.pad == 29 + i) * 2 ^ i).sum

/-- The image of a slot is applied (R161), and step 5 begins. -/
def State.applyImage (s : State) (im : Image) (slotB : Bool) : State :=
  let s := { s with
    image := some im
    start := { s.start with slot := if slotB then 2 else 1, fallback := slotB, phase := 5 }
    tempo := { s.tempo with mode := im.tempo, pendingTarget := im.tempo }
    aon := { s.aon with vaultWatch := im.hasTile 0x0A [0], tampPads := im.tampPads } }
  let s := s.setReg .SYS_TEMPO [] (setBits (s.reg .SYS_TEMPO) 5 4 im.tempo.toNat)
  let s := im.params.foldl State.loadParam (s.loadLepModes im)
  let s := (s.loadOverlay im slotB).adoptBaud
  { s with defres := { s.defres with stat := if s.fieldUp then .notRun else .waitingVfld } }

/-- A slot fails: IMAGE_FAIL, and its code in SYS_BOOT (R128, R137). -/
def State.slotFail (s : State) (slotB : Bool) (code : Nat) : State :=
  let c := BitVec.ofNat 4 code
  { s with start := if slotB then { s.start with failB := c } else { s.start with failA := c } }.commitNote 0x0210
    (leBytes 1 (bit slotB) ++ leBytes 1 code)

/-- Slot A, else slot B, else the start blocks (R127 to R129). SKIPPED speaks of this start alone (R185). -/
def State.loadImage (s : State) : State :=
  let s := { s with loader := { s.loader with skipped := false } }
  match checkSlot s.persist s.persist.slotA with
  | .inr im => s.applyImage im false
  | .inl a =>
    let s := s.slotFail false a
    match checkSlot s.persist s.persist.slotB with
    | .inr im => (s.commitNote 0x0211).applyImage im true
    | .inl b => ((s.slotFail true b).commitNote 0x0212).block 1

/-- IMAGE_LOAD: step 4; on a wake MGT first copies the AON log (R628). -/
def execImageLoad (s : State) : Host.Outcome State Fault Refusal :=
  .next (if s.atStep 4 then (if s.aon.mgtUp then s else s.takeAon).loadImage else s)

/-! ### Step 6 (R25, R84, R123, R161, R489) -/

/-- PWR_GATE with an image in force (R84, R86). -/
def Image.gateBits (im : Image) : BitVec 13 :=
  let any (kinds : List Nat) : Nat := bit (im.tiles.any fun t => kinds.contains t.kind.toNat)
  let motors := (List.range 4).foldl (fun n m => n + bit (im.hasTile 3 [m]) * 2 ^ (6 + m)) 0
  BitVec.ofNat 13 (0x1F + any [1, 2, 4] * 2 ^ 5 + motors + any [5] * 2 ^ 10 + any [6] * 2 ^ 11 +
    any [7, 8, 9, 0x0B, 0x0C] * 2 ^ 12)

/-- The start's offset calibration of motor engine `i` begins: its 256 conversions end as CAL_COMPLETE, which runs in step 7
(R130, R324). -/
def Mc.startCal (m : Mc) (i : Nat) : Mc := m.updMotor i fun x => { x with calst := 1, startCal := 1 }

/-- The engines of MPI and MC; motor engines whose block is quarantined run no test (R130, R489). -/
def State.startMotion (s : State) (im : Image) : State :=
  let s := s.withMpi s.mpi.startFusion
  let motors := (List.range 4).filter fun i => im.hasTile 3 [i]
  let m := motors.foldl Mc.startMotor s.mc
  let m := (motors.filter fun i => !s.quarantined (12 + i)).foldl Mc.startCal m
  let m := (motors.filter s.isDoor).foldl Mc.startDoor m
  let m := ([4, 5, 6, 7].filter fun e => im.hasTile 4 [e]).foldl Mc.startFree m
  s.withMc m

/-- The engines of BUS. -/
def Bc.startAll (m : Bc) : Bc :=
  ((((List.range 3).foldl Bc.startCan m).startTime).startPorlux).startIssuer.startCopy

/-- Every island starts with its sections of the image. -/
def State.startIslands (s : State) (im : Image) : State :=
  let s := { s with
    start := { s.start with rsti := [], phase := 7 }
    power := { s.power with gate := im.gateBits }
    persist := s.persist.clearQuarantine }
  let s := { s with fabric := { Fabric.build im.routes with stopped := s.quarantined 0 } }
  let s := (s.withSf s.sf.start).startMotion im
  let s := if im.hasTile 5 [0] then s.withSc (s.sc.start im.redundant) else s
  let s := { s with seqr := Seqr.start s }
  let s := s.withBc s.bc.startAll
  s.rescueMode

/-- ISLAND_START: step 6 ends with every island started. -/
def execIslandStart (s : State) : Host.Outcome State Fault Refusal :=
  .next (if s.atStep 6 then
      match s.image with
      | some im => s.startIslands im
      | none => s
    else s)

/-! ### Step 7 (R130, R131) -/

/-- The block of R486 to which a test's instance belongs (R131). -/
def testBlock (row inst : Nat) : Nat :=
  match row with
  | 1 => 0
  | 2 => 1
  | 3 => 2
  | 4 => 16 + inst % 6
  | 5 => 22
  | 6 => 12 + inst % 4
  | 7 => if inst % 8 < 4 then 12 + inst % 8 else 4
  | 8 => 6 + inst % 4
  | _ => 10

/-- A test that passed on its repeat counts one transient error of its block; a lasting one quarantines it (R131, R488). -/
def State.startTransient (s : State) (f : SelfTestFail) : State :=
  let b := testBlock f.row.val f.instance_
  if s.quarantined b then s
  else
  let x := (s.persist.blocks.get BlockStat.reset b).classify s.dev true
  let s := (s.setBlock b x).noteBlock b 0 0 x
  if x.quar then s.stopBlock b else s

/-- A second failure: SELFTEST_FAIL (R131). -/
def State.selftestFail (s : State) (f : SelfTestFail) : State :=
  s.commitNote 0x0220 (leBytes 1 (blockIsland (testBlock f.row.val f.instance_)) ++ leBytes 1 f.row.val)

/-- The start blocks after the islands have started: they are held in reset again, so that nothing drives an output (R51,
R131). -/
def State.blockTests (s : State) : State :=
  let s := (s.clearIslands).block 3
  { s with start := { s.start with readyPad := .highZ } }

/-- The tests have passed: lattice passes begin, and the lease is awaited where there is a gate (R123, R132, R458). -/
def State.testsPassed (s : State) : State :=
  let s := s.runSf (!s.quarantined 1 && !s.quarantined 2) Sf.startPasses
  if s.leaseImage then State.leaseDecided { s with start := { s.start with phase := 8 } }
  else { s with start := { s.start with phase := 9 } }

/-- A test of R130, by its row, applies to an instance of the image in force. -/
def State.testApplies (s : State) (row inst : Nat) : Bool :=
  match row with
  | 1 | 2 | 3 | 10 => true
  | 4 => inst < 6
  | 5 => inst < 32 && getBits (s.reg .SFI_LEPCFG [inst]) 2 0 != 0
  | 6 => (s.tile 3 inst).isSome
  | 7 => if inst < 4 then (s.tile 3 inst).isSome else (s.tile 4 inst).isSome
  | 8 => (s.tile 6 inst).isSome
  | 9 => (s.tile 7 inst).isSome
  | _ => false

/-- A start calibration still takes its conversions (R130, R324). -/
def State.calibrating (s : State) : Bool :=
  (List.range 4).any fun i => s.motorMode i != 0 && !s.quarantined (12 + i) && (s.mc.motor i).calst == 1

/-- The start calibrations that failed once, with their repeats passed or failed (row 6 of R130, R131). -/
def State.calFails (s : State) : List SelfTestFail :=
  ((List.range 4).filter fun i => 2 ≤ (s.mc.motor i).startCal.toNat).map fun i =>
    { row := 6, instance_ := i, repeatPass := (s.mc.motor i).startCal == 2 }

/-- SELFTEST_COMPLETE (R131): step 7 ends with its last test, so not while a calibration runs (R130); tests apply to what is
instantiated (R130), and those of quarantined blocks are not run (R489). The calibrations' own outcomes join those named. -/
def execSelftestComplete (fails : List SelfTestFail) (s : State) : Host.Outcome State Fault Refusal :=
  .next (if s.atStep 7 && !s.calibrating then
      let run := (fails ++ s.calFails).filter fun f =>
        s.testApplies f.row.val f.instance_ && !s.quarantined (testBlock f.row.val f.instance_)
      let s := { s with motors := s.motors.map fun e => (e.1, { e.2 with startCal := 0 }) }
      let s := (run.filter (·.repeatPass)).foldl State.startTransient s
      let bad := run.filter fun f => !f.repeatPass
      if bad.isEmpty then s.testsPassed else (bad.foldl State.selftestFail s).blockTests
    else s)

/-! ### Steps 8 and 9 (R126, R132, R141) -/

/-- LEASE_ACQUISITION_TIMEOUT (R132). -/
def execLeaseAcquisitionTimeout (s : State) : Host.Outcome State Fault Refusal :=
  .next (if s.atStep 8 then { s with start := { s.start with phase := 9 } } else s)

/-- PWR sets WAKESRC and records the wake (R91). -/
def State.recordWake (s : State) : State :=
  if s.start.cause = .wake then
    { s with power := { s.power with wakeSrc := s.power.wakeNext } }.note 0x0108 (leBytes 1 s.power.wakeNext.toNat)
  else s

/-- The start tempo of the image in force (R141). -/
def State.startTempo (s : State) : Nat :=
  match s.image with
  | some im => im.tempo.toNat
  | none => 1

/-- READY: step 9 (R126, R134, R138, R141, R414). -/
def execStartReady (s : State) : Host.Outcome State Fault Refusal :=
  .next (if s.atStep 9 && !s.start.ready then
      let us := satWordU s.start.elapsed
      let s := { s with
        start := { s.start with ready := true, startUs := us }
        power := { s.power with state := .run }
        aon := { s.aon with timeouts := 0 }
        ports := { s.ports with irqReady := true } }
      let s := (s.driveReady .high).recordWake
      let s := s.commitNote 0x0202 (wordBytes us ++ leBytes 1 s.start.slot.toNat ++ leBytes 1 s.startTempo)
      s.withFc s.fc.autostart
    else s)

/-! ### Start supervision (R133, R134) -/

/-- The start is supervised: past step 2 or entered at step 4, neither READY nor blocked, nor in the wait for VFLD (R133). -/
def State.supervised (s : State) : Bool :=
  s.power.state == .starting && 3 ≤ s.start.phase.toNat && s.start.phase.toNat ≤ 9 &&
    s.defres.stat != .waitingVfld

/-- START_TIMEOUT: a restart, or the hold after the fourth (R133, R134). -/
def execStartTimeout (s : State) : Host.Outcome State Fault Refusal :=
  .next (if s.supervised then
      let n := s.aon.timeouts + 1
      let s := { s with aon := { s.aon with timeouts := n } }
      if n < 4 then s.restart .startTimeout
      else
        let s := s.toReset .startTimeout
        { s with aon := { s.aon with loopHeld := true } }.aonNote 0x0011 (leBytes 1 n)
    else s)

end Sys2Proof.Machine
end

