-- ==== Sys2Proof/Machine/Power.lean ====
section
/-! DEFINITION. The supplies and power states of chapter 03 (R76 to R97, R115): VMAIN, VFLD and VBAT, HIBERNATE and its wake,
VAULT-WATCH and OFF, and the 1 ms measurement. -/

namespace Sys2Proof.Machine

/-- PWR is powered and out of reset. -/
def State.pwrUp (s : State) : Bool := s.supplies.vmainOk && s.start.phase != 1

/-! ### VMAIN (R78, R87, R116) -/

/-- AON loses both supplies: it is reset, and the RTC is invalid (R81, R116). -/
def State.aonOff (s : State) : State :=
  { s with aon := Aon.reset, regs := s.regs.filter fun e => islandAt e.1 != some 0,
           recorder := { s.recorder with taps := s.recorder.taps.filter fun e => e.1 != 0 },
           power := { s.power with state := .off } }

/-- AON enters VAULT-WATCH: VMAIN_LOSS (R87, R636). -/
def State.vaultWatch (s : State) : State := { s with power := { s.power with state := .vaultWatch } }.aonNote 0x0001

/-- What MGT still does as VMAIN is lost: after PFAIL the hold-up of R99 covers the lock, the stage and the taps; without it the
session ends and the records that wait are lost (R176, R623, R632; log entry 15). -/
def State.lastActs (s : State) : State :=
  if s.supplies.pfail && s.aon.mgtUp then (s.lockSession 2).flushLanes.commitAll else (s.endSession 2).loseRecords

/-- VMAIN_OUT_OF_RANGE (R78, R87): every island but AON loses its power; a RESET_N hold ends with the count it reached
(R122, R134). -/
def execVmainOutOfRange (s : State) : Host.Outcome State Fault Refusal :=
  .next (if s.supplies.vmainOk then
      let s := s.lastActs.wipe false false
      let s := { s with
        supplies := { s.supplies with vmainOk := false, vfldOk := false, pfail := false }
        aon := { s.aon.endHold s.aon.holdUs with loopHeld := false, timeouts := 0, wakeWaiting := none }
        start := { s.start with phase := 1, entry := 1 } }
      if s.supplies.vbatAbsent then s.aonOff else s.vaultWatch
    else s)

/-- POWER_ON: VMAIN enters its range, with RESET_N and VFLD as they stand (R116, R121). -/
def execPowerOn (resetLow vfldOk : Bool) (s : State) : Host.Outcome State Fault Refusal :=
  .next (if s.supplies.vmainOk then s
    else
      let s := { s with supplies := { s.supplies with vmainOk := true, vfldOk := vfldOk } }.restart .powerOn
      { s with aon := { s.aon with resetLow := resetLow, holdUs := 0 } })

/-! ### HIBERNATE (R88 to R92, R94) -/

/-- Every output has been demanded OFF for at least 1 s (R88). -/
def State.offLong (s : State) : Bool :=
  match s.lattice.offSince with
  | some t => decide (t + 1000000 ≤ s.dev)
  | none => false

/-- The REASON that refuses a HIB request, 0 for none (R88, R94). Which one shows when several conditions fail is the model's
choice: the lowest (log entry 14). -/
def State.hibReason (s : State) : Nat :=
  if !s.offLong then 1
  else if s.leaseImage then 2
  else if !(s.plannersRest && s.bridgesIdle) then 3
  else if s.PWR_WAKEEN_EN = 0 then 4
  else 0

/-- A write of PWR_STATE: HIB requests HIBERNATE from RUN (R87, R88). -/
def State.writePwrState (s : State) (w : Word) : State :=
  if w.getLsbD 4 && s.power.state == .run && s.power.hib != .entering && !s.quarantined 3 then
    let why := s.hibReason
    if why = 0 then { s with power := { s.power with hib := .entering, hibReason := 0 } }.note 0x0107
    else { s with power := { s.power with hib := .refused, hibReason := BitVec.ofNat 4 why } }
  else s

/-- HIB_REQUEST (R88). -/
def execHibRequest (w : Word) (s : State) : Host.Outcome State Fault Refusal := .next (s.writePwrState (w ||| 0x10))

/-- A wake start begins (R91, R116). -/
def State.wake (s : State) (src : BitVec 4) : State :=
  let s := s.restart .wake
  { s with power := { s.power with wakeNext := src } }

/-- A wake source fires: in HIBERNATE a start begins, during the entry it waits for its end (R90, R135). -/
def State.fireWake (s : State) (src : BitVec 4) : State :=
  if s.power.state = .hibernate then s.wake src
  else if s.power.state = .run ∧ s.power.hib = .entering ∧ s.aon.wakeWaiting = none then
    { s with aon := { s.aon with wakeWaiting := some src } }
  else s

/-- The active level of the wake input of source 5, the ARG of a pad of FUNC 0x13, none without one: by the image in force, or by the
one left at HIBERNATE (R148). -/
def State.wakeInput (s : State) : Option Bool :=
  match s.image with
  | some im => (im.pins.find? fun p => p.func == 0x13).map fun p => p.arg == 1
  | none => s.power.wakePin

/-- The LE ports in CONTACT_SOURCE, which stay powered in HIBERNATE (R71, R87). -/
def State.contactSources (s : State) : BitVec 32 :=
  BitVec.ofNat 32 ((List.range 32).map fun p => bit (getBits (s.reg .SFI_LEPCFG [p]) 2 0 == 1) * 2 ^ p).sum

/-- HIBERNATE_ENTERED (R87, R89, R135, R176): only AON, PWR, the SFI input watch and the LE ports in CONTACT_SOURCE stay powered. -/
def execHibernateEntered (s : State) : Host.Outcome State Fault Refusal :=
  .next (if s.power.state == .run && s.power.hib == .entering then
      let waiting := s.aon.wakeWaiting
      let pin := s.wakeInput
      let ports := s.contactSources
      let s := ((s.react.testing.foldl State.abandonTest s.releasePfail).lockSession 3).flushLanes.commitAll
      let s := s.wipe true false
      let s := { s with power := { s.power with state := .hibernate, gate := 0x13, wakePin := pin, watchPorts := ports } }
      match waiting with
      | some src => s.wake src
      | none => s
    else s)

/-- WAKE_SOURCE_FIRE (R90, R95): sources 1 to 8 as PWR_WAKEEN enables them, source 9 always; source 5 is a pad that comes to
`level`, which fires it when that is the active level of its ARG (R148). -/
def execWakeSourceFire (src : Fin 10) (level : Bool) (s : State) : Host.Outcome State Fault Refusal :=
  .next (if src.val == 9 ||
      (src.val != 0 && testBit s.PWR_WAKEEN_EN (src.val - 1) && (src.val != 5 || s.wakeInput == some level)) then
      s.fireWake (BitVec.ofNat 4 src.val)
    else s)

/-! ### VFLD (R79, R92, R96, R115) -/

/-- VFLD_OUT (R79, R92). -/
def execVfldOut (s : State) : Host.Outcome State Fault Refusal :=
  .next (if s.supplies.vfldOk then
      let s := { s with supplies := { s.supplies with vfldOk := false } }
      let s := if s.pwrUp then { s with supplies := { s.supplies with vfldLost := true } }.note 0x0103 else s
      s.settleOutputs.fireWake 9
    else s)

/-- VFLD_BACK (R79). -/
def execVfldBack (s : State) : Host.Outcome State Fault Refusal :=
  .next (if s.supplies.vmainOk && !s.supplies.vfldOk then
      let s := { s with supplies := { s.supplies with vfldOk := true } }
      (s.noteIf s.pwrUp 0x0104).settleOutputs
    else s)

/-- VFLD_LOW (R96, R115). -/
def execVfldLow (s : State) : Host.Outcome State Fault Refusal :=
  .next (if s.pwrUp then { s with supplies := { s.supplies with vfldLowSeen := true } }.note 0x0105 else s)

/-! ### VBAT (R87, R93) -/

/-- VBAT_LOW (R93, R96): a record with VMAIN present, an AON log entry in VAULT-WATCH. -/
def execVbatLow (mv : BitVec 16) (s : State) : Host.Outcome State Fault Refusal :=
  .next (if s.pwrUp then { s with supplies := { s.supplies with vbatLowSeen := true } }.note 0x0106
    else if s.power.state = .vaultWatch then s.aonNote 0x0003 (leBytes 2 mv.toNat)
    else s)

/-- VBAT_ABSENT_CHANGE (R87): with VMAIN out of range it moves the device between VAULT-WATCH and OFF. -/
def execVbatAbsentChange (absent : Bool) (s : State) : Host.Outcome State Fault Refusal :=
  .next (if s.supplies.vbatAbsent = absent then s
    else
      let s := { s with supplies := { s.supplies with vbatAbsent := absent } }
      if s.supplies.vmainOk then s else if absent then s.aonOff else s.vaultWatch)

/-! ### Measurement (R76, R96, R97, R679) -/

/-- SUPPLY_MEASUREMENT (R76). -/
def execSupplyMeasurement (vmain vfld vbat : Word) (fieldT ctrlT : BitVec 8) (s : State) :
    Host.Outcome State Fault Refusal :=
  .next (if s.pwrUp && !s.quarantined 3 then
      { s with supplies := { s.supplies with vmainMv := vmain, vfldMv := vfld, vbatMv := vbat, fieldT := fieldT,
                                             ctrlT := ctrlT, vbatOk := decide (2100 ≤ sInt vbat) } }
    else s)

/-- A write of PWR_SUP: its sticky bits are W1C (R96). -/
def State.writePwrSup (s : State) (w : Word) : State :=
  let x := s.supplies
  { s with supplies := { x with vfldLost := x.vfldLost && !w.getLsbD 8, vfldLowSeen := x.vfldLowSeen && !w.getLsbD 9,
                                vbatLowSeen := x.vbatLowSeen && !w.getLsbD 10 } }

end Sys2Proof.Machine
end

