-- ==== Sys2Proof/Machine/Clock.lean ====
section
/-! DEFINITION. One microsecond in which no command waits: what runs by itself (R19, R20, R81, R121, R138, R175; log entry 4). -/

namespace Sys2Proof.Machine

/-- The RTC runs for 1 µs: WFRAC takes 2 at each period of the 32.768 kHz crystal, a carry counts a second (R609, R635). -/
def Aon.runRtc (a : Aon) : Aon :=
  let sub := a.rtcSub + 4096
  if sub < 125000 then { a with rtcSub := sub }
  else
    let frac := a.rtcFrac + 2
    { a with rtcSub := sub - 125000, rtcFrac := frac, rtcSec := if frac < 2 then a.rtcSec + 1 else a.rtcSec }

/-- AON for 1 µs: the RTC, unless its block is quarantined (R488), TAMPOUT's pulse (R627), and the count of a RESET_N hold
(R121). -/
def Aon.run (a : Aon) (stopped : Bool) : Aon :=
  let a := { (if stopped then a else a.runRtc) with pulseUs := a.pulseUs - 1 }
  if a.resetLow then { a with holdUs := a.holdUs + 1 } else a

/-- One microsecond passes: AON runs while it has a supply, device time while PWR runs, the start's own time from its entry
step to READY (R138), and the wait after a failed UNLOCK while the ports answer. -/
def State.microsecond (s : State) : State :=
  let s := if s.power.state == .off then s else { s with aon := s.aon.run (s.quarantined 23) }
  let s := if s.pwrUp then { s with dev := s.dev + 1 } else s
  let s := if s.supplies.vmainOk && s.power.state == .starting then
      { s with start := { s.start with elapsed := s.start.elapsed + 1 } }
    else s
  if s.mgtUp then { s with session := { s.session with wait := s.session.wait - 1 } } else s

end Sys2Proof.Machine
end

