-- ==== Sys2Proof/Machine/Views.lean ====
section
/-! DEFINITION. What a read of a register returns (R13, R14): the stored fields, and the fields that show the machine's
state, register by register as the chapters' tables give them. -/

namespace Sys2Proof.Machine

/-- A word from values with the lowest bit each stands at. -/
def packed (fs : List (Nat × Nat)) : Word := BitVec.ofNat 32 (fs.map fun e => e.1 * 2 ^ e.2).sum

/-- Bit `i` of the result is `f i`. -/
def bitWord (n : Nat) (f : Nat → Bool) : Word := packed ((List.range n).map fun i => (bit (f i), i))

/-- Shows a signed value, saturated to the word. -/
def shown (v : Int) : Word := satWord v

/-- The fields of a register that hold what was written: RW, RWL and RWK. -/
def Reg.storedMask (r : Reg) : Word :=
  r.fields.foldl (fun m f =>
    if f.acc == .rw || f.acc == .rwl || f.acc == .rwk then setBits m f.hi f.lo (2 ^ (f.hi - f.lo + 1) - 1) else m) 0

/-- The stored fields of a register. -/
def State.storedFields (s : State) (r : Reg) (idx : List Nat) : Word := s.reg r idx &&& r.storedMask

/-- SEQ of BUS_TSSTAT: of the last reference message a master has sent, or a slave received (R554). -/
def TimeSvc.shownSeq (t : TimeSvc) : BitVec 16 :=
  if t.stat == .master then (match t.sent with | some e => e.1 | none => 0) else t.seq

/-- BUS_CANSTATn (R538, R549). -/
def canWord (c : Can) : Word :=
  packed [(if c.estate == 2 then 0xFF else min 0xFF c.tec, 24), (min 0xFF c.recCnt, 16), (c.recov, 8), (bit c.cfgErr, 6), (bit c.idColl, 5), (bit c.boSeen, 4),
    (bit c.triple, 3), (c.estate.toNat, 0)]

namespace State
variable (s : State)

/-! ### SYS, PWR and AON (chapters 00 to 04, 18, 20) -/

/-- LEASE of SYS_STAT (R136). -/
def leaseField : Nat := if s.leaseImage then leaseCode s.gate.stat else 0

/-- REASON of SYS_TEMPOSTAT: a deferred switch shows the condition that fails at the read (R37). -/
def tempoReason : Nat := if s.tempo.stat == .deferred then s.restReason else s.tempo.reason.toNat

/-- SYS. -/
def viewSys (r : Reg) : Option Word :=
  let t := s.tempo
  let b := s.start
  match r with
  | .SYS_ID => some (packed [(0x9400, 16), (0xB, 4)])
  | .SYS_TEMPO => some (packed [(s.SYS_TEMPO_TARGET, 4), (t.mode.toNat, 0)])
  | .SYS_TEMPOSTAT => some (packed [(t.switches.toNat, 16), (s.tempoReason, 8), (tempoStatCode t.stat, 0)])
  | .SYS_STAT => some (packed [(b.block.toNat, 24), ((s.role.map roleCode).getD 0, 20), (s.leaseField, 18), (bit b.ready, 8),
      (b.phase.toNat, 0)])
  | .SYS_BOOT => some (packed [(b.failB.toNat, 20), (b.failA.toNat, 16), (bit b.fallback, 8), (b.slot.toNat, 0)])
  | .SYS_RSTCAUSE => some (packed [(s.aon.starts.toNat, 16), (b.entry.toNat, 8), (causeCode b.cause, 0)])
  | .SYS_STARTUS => some b.startUs
  | _ => none

/-- PWR. -/
def viewPwr (r : Reg) : Option Word :=
  let p := s.power
  let x := s.supplies
  let q := s.rescue
  match r with
  | .PWR_GATE => some (p.gate.setWidth 32)
  | .PWR_STATE => some (packed [(p.wakeSrc.toNat, 12), (p.hibReason.toNat, 8), (hibCode p.hib, 0)])
  | .PWR_SUP => some (packed [(bit x.vbatLowSeen, 10), (bit x.vfldLowSeen, 9), (bit x.vfldLost, 8), (bit x.pfail, 3),
      (bit x.vbatOk, 2), (bit x.vfldOk, 1), (bit x.vmainOk, 0)])
  | .PWR_VMAINMV => some x.vmainMv
  | .PWR_VFLDMV => some x.vfldMv
  | .PWR_VBATMV => some x.vbatMv
  | .PWR_TEMP => some (packed [(bit s.field.shutdown, 16), (x.fieldT.toNat, 8), (x.ctrlT.toNat, 0)])
  | .PWR_RESSTAT => some (packed [(q.count.toNat, 16), (bit q.dirUp, 12), (q.reason.toNat, 8), (rescueCode q.stat, 0)])
  | .PWR_RESEAVL => some q.eavail
  | .PWR_RESEREQ => some q.ereq
  | .PWR_RESVMIN => some q.vmin
  | _ => none

/-- AON. -/
def viewAon (r : Reg) : Option Word :=
  let a := s.aon
  match r with
  | .AON_RTCSEC => some a.rtcSec
  | .AON_RTCFRAC => some (a.fracLatch.setWidth 32)
  | .AON_RTCSTAT => some (packed [(bit a.rtcInvalid, 0)])
  | .AON_TAMPSTAT => some (bitWord 5 fun i => (a.tampers.get Tamper.reset i).alarm)
  | .AON_LOGSTAT => some (packed [(a.bad.toNat, 24), (a.lost.toNat, 8), (a.log.length, 0)])
  | .AON_RSTHOLD => some a.lastHold
  | _ => none

/-! ### MGT (chapters 02, 05, 14, 17, 18, 19) -/

/-- The pad that MGT_DRCSEL selects, none for 0 or above 484 (R64). -/
def drcPad : Option PadResult :=
  if 1 ≤ s.MGT_DRCSEL_PAD ∧ s.MGT_DRCSEL_PAD ≤ 484 then some (s.defres.results.get PadResult.reset s.MGT_DRCSEL_PAD)
  else none

/-- The selected pad's result as MGT_DRCRES shows it (R65). -/
def drcResult (p : PadResult) : Word :=
  packed [(bit (p.checked && p.measured == p.declared), 8), (padClassCode p.measured, 4), (padClassCode p.declared, 0)]

/-- A measured voltage of the selected pad, 0 for a pad not checked (R66). -/
def drcVolts (f : PadResult → Int) : Word :=
  match s.drcPad with
  | some p => if p.checked then satWord (f p) else 0
  | none => 0

/-- The circulating-log line and the birth-log line that MGT_RECSEL names, none when not held, nor before
MGT_RECSEL has been written (R632, R634). -/
def selectedRecord : Option RecBytes :=
  let p := s.persist
  let v := s.MGT_RECSEL_VALUE
  if !s.recorder.selected then none
  else if s.MGT_RECSEL_LOG = 1 then (if v < p.bcount then some (p.birth.get [] v) else none)
  else
    let back := (p.nextSeq.toNat + 2 ^ 31 - v) % 2 ^ 31
    if 1 ≤ back ∧ back ≤ p.circHeld then some (p.circ.get [] ((p.circLine + 49152 - back) % 49152)) else none

/-- RESULT of MGT_RECRES (R634): its reset value until MGT_RECSEL is written. -/
def recordResult : Nat :=
  match s.selectedRecord with
  | some l => if lineValid l then 0 else 2
  | none => bit s.recorder.selected

/-- The change-log record that MGT_CLOGSEL names, none when no longer held (R185). -/
def selectedChange : Option LogBytes :=
  let p := s.persist
  let back := (p.clogNext - s.reg .MGT_CLOGSEL).toNat
  let l := p.clog.get [] (s.MGT_CLOGSEL % 2048)
  if 1 ≤ back ∧ back ≤ 2048 ∧ !l.isEmpty then some l else none

/-- The management port works in UART mode: MPSEL's function in the image in force, else its level (R148, R650, R657). -/
def uartMode : Bool :=
  match s.image with
  | some im =>
    match im.pins.find? fun p => p.pad == 42 with
    | some p => if p.func = 0x20 then s.ports.mpsel else p.func == 0x22
    | none => s.ports.mpsel
  | none => s.ports.mpsel

/-- Word `w` of a record, 0 of none. -/
def recordWord (l : Option (List Byte)) (w : Nat) : Word :=
  match l with
  | some l => BitVec.ofNat 32 (leAt l (4 * w) 4)
  | none => 0

/-- The REASON that defers a reload, 0 when it may start (R166). When several of its conditions fail 0x6 shows before 0x7, and 0x7
before 0x4: R181 gives no order, it is the model's choice (log entry 21). -/
def reloadReason : Nat :=
  if s.start.block ≠ 0 then 0
  else if s.restReason ≠ 0 then 6
  else if !(s.rescue.stat == .idle || s.rescue.stat == .disabled) then 7
  else if s.leaseImage && s.gate.stat == .active then 4
  else 0

/-- An ACCEPT waits: STATE reads DEFERRED with the present REASON, whatever other command is refused meanwhile (R164, R166). -/
def reloadWaits : Bool :=
  match s.loader.op with
  | some (op, _) => op == .deferred
  | none => false

/-- The loader, the session and the logs of MGT. DESIGN CHOICE: past a slot's last word OFFSET's field cannot hold the
position; it shows 0, while accesses of MGT_SLOTDATA find no word (R165, R183; log 21). -/
def viewMgt (r : Reg) (idx : List Nat) : Option Word :=
  let i := idx.headD 0
  let l := s.loader
  let x := s.session
  let p := s.persist
  let c := s.recorder
  match r with
  | .MGT_DRCSTAT => some (packed [(s.defres.firstPad.toNat, 16), (s.defres.fails.toNat, 8), (drcStatCode s.defres.stat, 0)])
  | .MGT_DRCRES => some (match s.drcPad with | some p => drcResult p | none => 0)
  | .MGT_DRCVOC => some (s.drcVolts (·.voc))
  | .MGT_DRCDH => some (s.drcVolts (·.dh))
  | .MGT_DRCDL => some (s.drcVolts (·.dl))
  | .MGT_LDSTAT =>
    let waits := s.reloadWaits
    some (packed [(l.vres.toNat, 24), (if waits then s.reloadReason else l.reason.toNat, 20), (bit l.window.isSome, 16),
      (bit (l.window.getD false), 12), (loaderCode (if waits then .deferred else l.stat), 0)])
  | .MGT_SLOTADDR => some (packed [(l.offset % 2 ^ 18, 2)])
  | .MGT_PWSTAT => some (packed [(p.fails.toNat, 24), ((x.wait + 999999) / 1000000, 12), (x.result.toNat, 8),
      (bit x.derivation.isSome, 2), (bit x.unlocked, 1), (bit p.pwSet, 0)])
  | .MGT_KEYSTAT => some (packed [(bit p.reqTag, 8), (bit p.prov, 0)])
  | .MGT_CLOGNEXT => some p.clogNext
  | .MGT_CLOGDATA => some (recordWord s.selectedChange i)
  | .MGT_OVLSTAT => some (packed [(bit l.skipped, 16), (p.overlay.length, 0)])
  | .MGT_OVLKEY => some p.ovlCrc
  | .MGT_IMGCRC => some (match s.image with | some im => im.crc | none => 0)
  | .MGT_BLKSTAT =>
    let b := p.blocks.get BlockStat.reset i
    some (packed [(b.trans.toNat, 16), (b.recent s.dev, 8), (b.last.toNat, 4), (bit b.quar, 0)])
  | .MGT_QCLR => some (p.qclr.setWidth 32)
  | .MGT_EPNUM => some (if s.image.isSome && !s.leaseImage then 0 else match p.epochAt i with | some b => b.epoch | none => 0)
  | .MGT_RECSTAT => some (packed [(c.stage.length, 16), (bit p.commissioned, 8), (bit (8192 ≤ p.bcount), 4), (bit c.frozen, 0)])
  | .MGT_RECNEXT => some p.nextSeq
  | .MGT_RECOLDEST => some (p.nextSeq - BitVec.ofNat 32 p.circHeld)
  | .MGT_RECBIRTH => some (packed [(p.bcount, 0)])
  | .MGT_RECRES => some (packed [(s.recordResult, 0)])
  | .MGT_RECDATA => some (recordWord s.selectedRecord i)
  | .MGT_RECDROP => some (packed [(c.stageDrop.toNat, 16), (c.tapDrop.toNat, 0)])
  | .MGT_WEARLO => some (match s.wearCell with | some c => BitVec.ofNat 32 c.wear | none => 0)
  | .MGT_WEARHI => some (if s.wearCell.isSome then c.wearHi else 0)
  | .MGT_WORNCNT => some (packed [((p.rwk.filter (·.2.worn)).length, 0)])
  | .MGT_MPSTAT => some (packed [(s.ports.errors.toNat, 16), (s.ports.mgmtLast.toNat, 8), (bit s.uartMode, 0)])
  | _ => none

/-! ### QF (chapters 06 and 19) -/

/-- The items a host consumer has staged on queue `n`. -/
def hostStage (n : Nat) : List StageItem := s.fabric.stage (0x10000 + n)

/-- HEADLEN (R218). -/
def headLen (n : Nat) : Nat :=
  match s.hostStage n with
  | it :: _ => it.words.length - it.read
  | [] => 0

/-- The next host word on a queue would cause a drop (R200, R218). -/
def hostFull (q : Queue) : Bool := q.route.producer == 0xFF00 && q.full

/-- Bit for queue `n` of QF_GQPEND (R656). -/
def queuePending (n : Nat) : Bool :=
  match s.fabric.queue n with
  | some q => q.route.consumer == 0xFF00 && !(s.hostStage n).isEmpty
  | none => false

/-- Tags INFLIGHT (R656). -/
def tagCount : Nat := ((List.range 256).filter fun t => s.ports.tags.getLsbD t).length

/-- QF_GIRQSTAT (R656). -/
def girqWord : Word :=
  packed [(bit s.ports.irqLockout, 4), (bit s.ports.irqReady, 3),
    (bit (s.fabric.built.any fun e => e.2.route.consumer == 0xFF00 && e.2.underrun), 2), (bit (!s.fabric.ltags.isEmpty), 1),
    (bit (s.fabric.built.any fun e => s.queuePending e.1), 0)]

/-- HIRQ_N is pulled low: from the start of step 7, while an enabled bit of QF_GIRQSTAT is 1 and the image uses the pad (R49,
R646). -/
def hirqLow : Bool := s.padUsed 41 && 7 ≤ s.start.phase.toNat && s.start.phase.toNat ≤ 9 && (s.girqWord &&& s.reg .QF_GIRQEN) != 0

/-- A queue's registers, 0 for a queue that was not built. -/
def viewQueue (n : Nat) (f : Queue → Word) : Word :=
  match s.fabric.queue n with
  | some q => f q
  | none => 0

/-- QF. -/
def viewQf (r : Reg) (idx : List Nat) : Option Word :=
  let i := idx.headD 0
  let f := s.fabric
  match r with
  | .QF_QCFG => some (s.viewQueue i fun q => packed [(1, 31), (bit q.route.cmdq, 30), (bit q.route.flag, 29), (q.wlen, 16),
      (q.route.capacity, 0)])
  | .QF_QSTAT => some (s.viewQueue i fun q => packed [(bit q.poison, 29), (bit q.last, 28), (bit q.underrun, 27),
      (bit q.broken, 26), (bit (hostFull q), 25), (if q.route.consumer == 0xFF00 then s.headLen i else 0, 20), (q.level, 0)])
  | .QF_QLOST => some (s.viewQueue i (·.lost))
  | .QF_FSTAT => some (packed [(f.built.length, 16), ((f.built.map (·.2.route.capacity)).sum, 0)])
  | .QF_PARERR => some (packed [(f.metaErr.toNat, 16), (f.wordErr.toNat, 0)])
  | .QF_LTAG => some (match f.ltags with | e :: _ => packed [(1, 31), (e.1, 16), (e.2.toNat, 0)] | [] => 0)
  | .QF_LTAGSTAT => some (packed [(f.overflow.toNat, 16), (f.ltags.length, 0)])
  | .QF_QFDROP => some (s.viewQueue i (·.flushDrop))
  | .QF_QEP => some (s.viewQueue i fun q => packed [(q.route.producer.toNat, 16), (q.route.consumer.toNat, 0)])
  | .QF_QTMO => some (s.viewQueue i fun q => packed [(if q.route.flag then 0 else q.route.timeout, 0)])
  | .QF_GSTAT => some (packed [(s.ports.hostLast.toNat, 24), (s.tagCount, 0)])
  | .QF_GIRQSTAT => some s.girqWord
  | .QF_GTAGMAP => some (bitWord 32 fun b => s.ports.tags.getLsbD (32 * i + b))
  | .QF_GQPEND => some (bitWord 32 fun b => s.queuePending (32 * i + b))
  | _ => none

/-! ### SFI (chapters 02, 13, 14, 17) -/

/-- An LE port sources (R51, R71, R73, R79, R488): SFI has started, the field die is on, block LEP works and MODE is not OFF. In
HIBERNATE the ports left in CONTACT_SOURCE go on (R87). -/
def leSources (p : Nat) : Bool :=
  let m := getBits (s.reg .SFI_LEPCFG [p]) 2 0
  (s.outputsLive .sfi || (s.power.state == .hibernate && s.power.watchPorts.getLsbD p)) && s.fieldUp && !s.quarantined 22 &&
    ((decide (1 ≤ m) && decide (m ≤ 4)) || s.power.state == .hibernate)

/-- SFI_LEPSTATp (R73). Whether a limit of the regulator acts is a free value, and so is whether a switched FIXTURE_OUT is
on. -/
def lepWord (p : Nat) : Word :=
  let x := Config.freeWord s.fresh
  let on := s.leSources p && (getBits (s.reg .SFI_LEPCFG [p]) 2 0 != 3 || x.getLsbD 0)
  packed [(bit (s.field.port p).fault, 4), (bit (on && x.getLsbD 3), 3), (bit (on && x.getLsbD 2), 2), (bit on, 0)]

/-- Word `w` of a lattice cell in the true working memory, 0 at or beyond COUNT (chapter 13). -/
def cellWord (n w : Nat) : Word :=
  if s.lattice.count ≤ n then 0
  else
    let c := s.lattice.tru.cell false n
    match w with
    | 0 => c.w0
    | 1 => c.w1
    | 2 => c.w2
    | _ => c.w3

/-- TST and E of a lattice timer (R479). -/
def timerWord (t : Nat) : Word :=
  let x := s.lattice.tru.timerAt false t
  let tst := match s.lattice.timerPreset t with
    | some preset => if !x.1 then 0 else if preset ≤ x.2.toNat then 2 else 1
    | none => 0
  packed [(tst, 30), (x.2.toNat, 0)]

/-- SFI_SISTATn (R481). -/
def siWord (n : Nat) : Word :=
  let x := s.sf.input n
  packed [(x.faults.toNat, 16), (bit x.pending.isSome, 8), (bit x.shortB, 5), (bit x.shortA, 4), (bit x.disc, 3),
    (bit (s.sf.si n), 2), (bit x.b, 1), (bit x.a, 0)]

/-- SFI_SOSTATk (R483). TESTING is never seen: a pulse is one step. -/
def soWord (k : Nat) : Word :=
  let o := s.sf.out k
  packed [(o.fcause.toNat, 12), (bit o.nextLs, 8), (bit (s.react.holdMask.getLsbD k), 6), (bit o.sof, 5), (bit o.lsRb, 4),
    (bit o.hsRb, 3), (bit o.on, 2), (bit s.sf.gatePasses, 1), (bit o.demand, 0)]

/-- The lattice and the safety inputs and outputs. -/
def viewSfi (r : Reg) (idx : List Nat) : Option Word :=
  let i := idx.headD 0
  let l := s.lattice
  let sig := s.sf.snapshot l.lastAckp
  match r with
  | .SFI_LEPCFG => some (s.reg .SFI_LEPCFG idx)
  | .SFI_LEPSTAT => some (s.lepWord i)
  | .SFI_LATCTL | .SFI_TESTCTL | .SFI_LSCTL => some 0
  | .SFI_LATSTAT => some (packed [(l.count, 16), (l.cause.toNat, 4), (latCode l.stat, 0)])
  | .SFI_LATPASS => some l.pass
  | .SFI_LATMCRC => some l.mcrc
  | .SFI_LATERR => some (packed [(l.mismatches.toNat, 16), (l.cellErrs.toNat, 0)])
  | .SFI_FLTIN => some (packed [(bit l.lastLockout, 25), (bit l.lastAckp, 24), ((bitWord 5 fun b => sig (0x4C0 + b)).toNat, 16),
      ((bitWord 13 fun b => sig (0x4B0 + b)).toNat, 0)])
  | .SFI_SIIN => some (bitWord 24 fun n => s.sf.si n)
  | .SFI_CTIN => some (bitWord 8 fun c => s.sf.ct c)
  | .SFI_VIIN => some (packed [((s.sf.vi true).toNat, 16), ((s.sf.vi false).toNat, 0)])
  | .SFI_COUT => some (bitWord 32 fun b => l.applied.get false (32 * i + b))
  | .SFI_TMR => some (s.timerWord i)
  | .SFI_CELL => some (s.cellWord i (idx.getD 1 0))
  | .SFI_SISTAT => some (s.siWord i)
  | .SFI_CTMV => some (l.taps.get Tap.reset i).mv
  | .SFI_SOSTAT => some (s.soWord i)
  | .SFI_SOCNT => some (packed [((s.sf.out i).discarded.toNat, 16), ((s.sf.out i).passed.toNat, 0)])
  | _ => none

/-- SRC of SFI_FRSTAT: sources with a HOLD not released (R508). -/
def holdSources : Word :=
  bitWord 14 fun i => s.react.holds.any fun e =>
    match e.1 with
    | .source j => j.val == i && e.2 != 0
    | _ => false

/-- SFI_TESTSTAT: a switch test, or a lattice reload that waits; REASON is the condition of R501 that fails now (R509). -/
def testWord : Word :=
  let x := s.react
  let st := if x.testStat != 2 && s.lattice.reloadReq then 1 else x.testStat.toNat
  let why := if st ≠ 1 then 0 else if x.testStat == 1 then s.sf.switchReason x.testPend else s.sf.reloadReason
  packed [(x.testPend.toNat, 16), (why, 8), (st, 0)]

/-- Fault reaction and lease gate. -/
def viewReact (r : Reg) : Option Word :=
  let x := s.react
  let g := s.gate
  let c := s.copy
  match r with
  | .SFI_FRSTAT => some (packed [(bit (x.holds.any fun e => e.1 == .inherited && e.2 != 0), 30), (s.holdSources.toNat, 16),
      (x.holdMask.toNat, 8), (bit x.persist, 1), (bit x.lockout, 0)])
  | .SFI_ACKSTAT => some (packed [(x.accepted.toNat, 16), (x.result.toNat, 8), (bit x.stuck, 2), (bit s.lattice.ackLevel, 1),
      (bit x.armed, 0)])
  | .SFI_TESTSTAT => some s.testWord
  | .SFI_LSSTAT => some (packed [(g.hreason.toNat, 28), (handCode g.hstate, 24), (copyCode c.copy, 16), (bit c.linkQ, 9),
      (bit c.linkOk, 8), (bit s.sf.gatePasses, 4), (g.loss.toNat, 2),
      (if s.image.isSome && !s.leaseImage then 0 else leaseCode g.stat, 0)])
  | .SFI_LSHELD => some g.held
  | .SFI_LSHIGH => some g.high
  | .SFI_LSREM => some (if g.stat == .active then toWord (max 0 (sDiff g.exp (lowWord s.dev))) else 0)
  | .SFI_LSCNT => some (packed [(g.takeovers.toNat, 16), (g.oldNum.toNat, 0)])
  | _ => none

/-! ### MPI (chapters 07, 08, 14) -/

/-- The five registers that a read of MPI_FPOS freezes (R251). -/
def frozenResult : FusionResult := s.fusion.frozen.getD s.fusion.res

/-- REMAIN of MPI_DEGSTAT (R511). -/
def degRemain : Nat :=
  match s.fusion.degAt with
  | some t => if s.fusion.degStat == 1 || s.fusion.degStat == 2 then (t + s.MPI_DEGTIME * 1000000 - s.dev + 999999) / 1000000 else 0
  | none => 0

/-- Fusion. -/
def viewFusion (r : Reg) (idx : List Nat) : Option Word :=
  let x := s.fusion
  let run := x.runState
  match r with
  | .MPI_LLEVEL => some (if s.landing (idx.headD 0) then toWord (s.levelOf (idx.headD 0)) else 0x7FFFFFFF)
  | .MPI_FSTAT => some (packed [(x.vane.status.toNat, 24), (x.ssi.status.toNat, 20), (x.enc.status.toNat, 16),
      (bit x.disagree, 9), (bit (x.stat == .tracking || x.stat == .degraded), 8), (runKindCode run.run, 4), (bit x.tabOk, 3),
      (fusionCode x.stat, 0)])
  | .MPI_FPOS => some x.res.pos
  | .MPI_FBOUND => some s.frozenResult.bound
  | .MPI_FPLO => some s.frozenResult.plo
  | .MPI_FPHI => some s.frozenResult.phi
  | .MPI_FVEL => some s.frozenResult.vel
  | .MPI_FCYCLE => some s.frozenResult.cycle
  | .MPI_FRUN => some (packed [(run.found.toNat, 16), (run.phase.toNat, 4), (run.result.toNat, 0)])
  | .MPI_FSW =>
    let sw (i : Nat) := x.switches.get TermSwitch.reset i
    some (packed [((bitWord 4 fun i => (sw i).chatter).toNat, 8), ((bitWord 4 fun i => (sw i).level).toNat, 0)])
  | .MPI_PVISTAT => some (x.pvi.setWidth 32)
  | .MPI_DEGSTAT => some (packed [(s.degRemain, 16), (bit x.degExp, 2), (x.degStat.toNat, 0)])
  | _ => none

/-- A planner. -/
def viewPlanner (r : Reg) (idx : List Nat) : Option Word :=
  let p := idx.headD 0
  let x := s.planners.get Planner.reset p
  match r with
  | .MPI_PLCFG => some (packed [(bit (s.stepper p), 8), (s.planKind p, 0)])
  | .MPI_PLSTAT => some (packed [(x.held.length + bit x.running.isSome, 24), (x.last.toNat, 16), (bit (x.pdCarry != 0), 12),
      (bit x.stalled, 11), (bit x.degLock, 10), (bit x.pwrLock, 9), (bit x.sync, 8), (plannerCode x.stat, 0)])
  | .MPI_PLCORR => some x.corr
  | .MPI_PLREFPOS => some (x.refWords.getD 1 0)
  | .MPI_PLREFVEL => some (x.refWords.getD 2 0)
  | .MPI_PLREFACC => some (x.refWords.getD 3 0)
  | .MPI_PLSTOPPOS => some (x.refWords.getD 4 0)
  | .MPI_PLCURID => some (match x.running with | some m => m.id | none => 0)
  | .MPI_PLMOVES => some x.moves
  | _ => none

/-! ### Loop and motor engines, doors (chapters 09 and 10) -/

/-- A loop engine. RATEDIV reads 1 on LE0 to LE3 (R326). -/
def viewLoop (r : Reg) (idx : List Nat) : Option Word :=
  let e := idx.headD 0
  let l := s.loops.get Loop.reset e
  let sl := l.slots.get Slot.reset (idx.getD 1 0)
  match r with
  | .LECTL => some (let w := s.storedFields .LECTL idx; if e < 4 then setBits w 21 16 1 else w)
  | .LESTAT => some (packed [(l.run.toNat, 24), (bit l.held, 17), (bit l.fault, 16), (bit l.miss, 8), (bit l.limited, 5),
      (bit l.dirDown, 4), (l.win.toNat, 0)])
  | .LEMISSCNT => some l.missCount
  | .LEOUT => some (shown l.out)
  | .LESAMPLE => some l.n
  | .LSSP => some (shown sl.sp)
  | .LSMEAS => some (shown sl.m)
  | .LSU => some (shown sl.u)
  | .LSI => some (shown (rnDiv sl.i s16))
  | _ => none

/-- A motor engine. -/
def viewMotor (r : Reg) (idx : List Nat) : Option Word :=
  let i := idx.headD 0
  let x := s.motors.get Motor.reset i
  match r with
  | .MC_CFG => some (s.storedFields .MC_CFG idx ||| packed [(s.motorMode i, 0)])
  | .MC_STAT => some (packed [(bit x.aligned, 13), (bit x.adcf, 12), (bit x.dclow, 11), (bit x.extf, 10), (bit x.gduv, 9),
      (bit x.oc, 8), (x.calst.toNat, 4), (bridgeCode x.bridge, 0)])
  | .MC_ANGOFS => some (x.angofs.setWidth 32)
  | .MC_ID => some (shown x.idm)
  | .MC_IQ => some (shown x.iqm)
  | .MC_VD => some (shown x.vd)
  | .MC_VQ => some (shown x.vq)
  | .MC_THETA => some (x.theta.setWidth 32)
  | .MC_FBPOS => some (shown x.fbpos)
  | .MC_VEL => some (shown x.vel)
  | .MC_VDC => some (shown x.vdc)
  | .MC_IQD => some (shown x.iqd)
  | .MC_IOFS => some (shown (x.iofs.get 0 (idx.getD 1 0)))
  | .MC_ICUR => some (shown (x.icur.get 0 (idx.getD 1 0)))
  | .MC_TWOHM => some x.twohm
  | _ => none

/-- A door. -/
def viewDoor (r : Reg) (idx : List Nat) : Option Word :=
  let d := s.doors.get Door.reset (idx.headD 0)
  match r with
  | .MC_DSTAT => some (packed [(d.detail.toNat, 24), (d.lastEv.toNat, 16), (bit d.chatter, 13), (bit d.stale, 12),
      (bit d.learned, 9), (bit d.homed, 8), (doorCode d.stat, 0)])
  | .MC_DIN => some (packed [(bit d.session, 5), (bit d.permit, 4), (bit d.coupled, 3), (bit d.closeLim, 2), (bit d.curtain, 1),
      (bit d.edge, 0)])
  | .MC_DFOBS => some (shown d.fobs)
  | .MC_DEKIN => some (shown d.ekin)
  | .MC_DVADM => some (shown d.vadm)
  | .MC_DFLIMNOW => some (shown d.flimNow)
  | .MC_DMUSE => some (satWordU d.muse)
  | .MC_DREVCOUNT => some d.revCount
  | .MC_DOBSPOS => some (shown d.obsPos)
  | .MC_DACC => some (shown d.acc)
  | _ => none

/-! ### SCH (chapter 11) -/

/-- The context that SCH_CTXSEL selects (R408). -/
def shownCtx : Option Ctx := s.sched.ctxs.get none s.SCH_CTXSEL_INDEX

/-- A register of the selected context, 0 for a FREE one. -/
def viewCtx (f : Ctx → Word) : Word :=
  match s.shownCtx with
  | some x => f x
  | none => 0

/-- SCH. -/
def viewSched (r : Reg) (idx : List Nat) : Option Word :=
  let x := s.sched
  let car (w : Nat) : Word := ((x.cars.get CarView.reset (idx.headD 0)).words).getD w 0
  match r with
  | .SCH_CFG => some (packed [(s.schCars, 8), (bit s.schDrives, 4), (s.schMode, 0)])
  | .SCH_CTL => some (s.schCtlWord &&& 0x0F0F0001)
  | .SCH_STAT => some x.statWord
  | .SCH_OPEN => some (packed [(x.unserved, 16), (x.open_.length, 0)])
  | .SCH_RECOMP => some x.count
  | .SCH_MISSCNT => some x.missCount
  | .SCH_CTXTIME => some (s.viewCtx fun c => lowWord c.time)
  | .SCH_CTXCOST => some (s.viewCtx (·.cost))
  | .SCH_CTXTTS => some (s.viewCtx (·.tts))
  | .SCH_CTXREM => some (s.viewCtx fun c => BitVec.ofNat 32 (c.remaining s.dev))
  | .SCH_CTXA => some (s.viewCtx (·.wordA))
  | .SCH_CTXB => some (s.viewCtx (·.wordB))
  | .SCH_CSTAT => some (car 0)
  | .SCH_CPOS => some (car 1)
  | .SCH_CVEL => some (car 2)
  | _ => none

/-! ### BUS (chapters 15 to 17) -/

/-- CAN controllers and the time service. -/
def viewCan (r : Reg) (idx : List Nat) : Option Word :=
  let n := idx.headD 0
  let b := idx.getD 1 0
  let c := s.cans.get Can.reset n
  let x := c.bufs.get RxBuf.reset b
  let t := s.time
  match r with
  | .BUS_CANSTAT => some (canWord c)
  | .BUS_CANCNT => some (packed [(c.busoffs.toNat, 16), (c.collisions.toNat, 0)])
  | .BUS_CANNOMATCH => some c.noMatch
  | .BUS_CANTXSTAT => some (packed [(c.queue.length, 16), (c.last.toNat, 8), (c.lastTag.toNat, 0)])
  | .BUS_RBSTAT => some (packed [(x.lost.toNat, 16), (bit x.pending.isSome, 2), (bit x.lock, 1), (bit x.new, 0)])
  | .BUS_RBW => some (if s.hostMode n b && idx.getD 2 0 ≤ 18 then x.window.getD (idx.getD 2 0) 0 else 0)
  | .BUS_TSSTAT => some (packed [(t.shownSeq.toNat, 16), (t.steps.toNat, 8), (timeCode t.stat, 0)])
  | .BUS_TSRATE => some (shown t.rate)
  | .BUS_TSCORR => some (shown t.corr)
  | .BUS_TSERR => some (shown t.err)
  | .BUS_TSNTHI => some t.nthi
  | _ => none

/-- UNITS of BUS_LISTAT: reachable and candidate of A and B (R606). -/
def unitsField : Nat :=
  let m := s.li
  bit (m.reachable false).isSome + 2 * bit (m.reachable true).isSome + 4 * bit (m.candidate false).isSome +
    8 * bit (m.candidate true).isSome

/-- Porlux, the lease issuer and the copy link. -/
def viewBus (r : Reg) (idx : List Nat) : Option Word :=
  let c := s.porlux.conns.get Conn.reset (idx.headD 0)
  let x := s.issuer
  match r with
  | .BUS_PXSTAT => some (packed [(bit s.porlux.intFlt, 16),
      ((s.porlux.conns.filter fun e => e.2.state == .run || e.2.state == .sending).length, 8), (s.connCount, 0)])
  | .BUS_PXUNKNOWN => some s.porlux.unknown
  | .BUS_PXCSTAT => some (packed [(c.lastSeq.toNat, 16), (c.lastErr.toNat, 8), (connCode c.state, 0)])
  | .BUS_PXCERR => some (packed [(c.discards.toNat, 16), (c.expiries.toNat, 0)])
  | .BUS_PXCNODE => if s.BUS_PXCCFG_DIR (idx.headD 0) = 1 then some 0 else none
  | .BUS_LICTL => some 0
  | .BUS_LISTAT => some (packed [(x.grants.toNat, 16), (s.unitsField, 8),
      (match x.holder with | some u => bit u | none => 0xF, 4), (issuerCode x.stat, 0)])
  | .BUS_EPSEQ => some (if s.gate.stat == .active then s.copy.seq else s.copy.committed)
  | _ => none

/-! ### A register's word -/

/-- A register of a Porlux connection beyond the TILES count, which reads 0 and ignores writes (chapter 16). -/
def pastConns (r : Reg) (idx : List Nat) : Bool :=
  match r with
  | .BUS_PXCCFG | .BUS_PXCCAN | .BUS_PXCNODE | .BUS_PXCPER | .BUS_PXCAGE | .BUS_PXCMAP | .BUS_PXCTM | .BUS_PXCSTAT
  | .BUS_PXCERR => decide (s.connCount ≤ idx.headD 0)
  | _ => false

/-- A register of the scheduler that does not answer in SESSION_CHECK mode (chapter 11, Registers). -/
def notChecked (r : Reg) (a : Nat) : Bool :=
  decide (0x140000 ≤ a) && decide (a < 0x180000) && s.schMode == 3 &&
    !(match r with
      | .SCH_CFG | .SCH_STAT | .SCH_GRANTAGE | .SCH_STN => true
      | _ => false)

/-- A register that reads 0 and ignores writes: of a connection beyond the TILES count, of the scheduler where its mode has no
use for it, or a door register of a motor engine without the door function (chapter 10). -/
def inert (r : Reg) (idx : List Nat) : Bool :=
  let a := r.addr idx
  s.pastConns r idx || s.notChecked r a ||
    (decide (0x100000 ≤ a) && decide (a < 0x140000) && decide (0x200 ≤ a % 0x10000) && decide (a % 0x10000 < 0x300) &&
      !s.isDoor (idx.headD 0))

/-- What a register shows at this moment, by the block it lies in; the stored fields where no field shows the machine's
state (R14). -/
def view (r : Reg) (idx : List Nat) : Word :=
  let a := r.addr idx
  let v :=
    if a < 0x010000 then s.viewSys r
    else if a < 0x020000 then s.viewPwr r
    else if a < 0x030000 then s.viewAon r
    else if a < 0x080000 then s.viewQf r idx
    else if a < 0x0C0000 then (s.viewSfi r idx).orElse fun _ => s.viewReact r
    else if a < 0x0C4000 then s.viewFusion r idx
    else if a < 0x0C8000 then s.viewPlanner r idx
    else if a < 0x0D0000 then s.viewLoop r idx
    else if a < 0x100000 then none
    else if a < 0x140000 then (s.viewMotor r idx).orElse fun _ => (s.viewLoop r idx).orElse fun _ => s.viewDoor r idx
    else if a < 0x180000 then s.viewSched r idx
    else if a < 0x1C0000 then s.seqView r idx
    else if a < 0x200000 then (s.viewCan r idx).orElse fun _ => s.viewBus r idx
    else s.viewMgt r idx
  if s.inert r idx then 0 else v.getD (s.storedFields r idx)

end State

end Sys2Proof.Machine
end

