-- ==== Sys2Proof/Machine/Loader.lean ====
section
/-! DEFINITION. The slot commands of chapter 05 (R163 to R168): erasing, writing, verifying and copying image slots, and the
ACCEPT that starts a structure reload. -/

namespace Sys2Proof.Machine

/-- A slot command ends with a STATE and its REASON (R164, R181). -/
def State.slotEnd (s : State) (stat : LoaderStat) (reason : Nat) : State :=
  { s with loader := { s.loader with stat := stat, reason := BitVec.ofNat 4 reason } }

/-- A slot command ends in REFUSED. -/
def State.slotRefuse (s : State) (reason : Nat) : State := s.slotEnd .refused reason

/-- A slot command ends in DONE. -/
def State.slotDone (s : State) : State := s.slotEnd .done 0

/-- ACCEPT ends in REFUSED: ACCEPT_REFUSED (R186). -/
def State.acceptRefuse (s : State) (reason : Nat) : State :=
  (s.slotRefuse reason).commitNote 0x0241 (leBytes 1 reason ++ leBytes 1 s.loader.vres.toNat)

/-- A slot command that takes time begins. -/
def State.slotBegin (s : State) (op : SlotOp) (slotB : Bool) : State :=
  { s.slotEnd .busy 0 with loader := { (s.slotEnd .busy 0).loader with op := some (op, slotB) } }

/-- The slot command that takes time has ended. -/
def State.slotFree (s : State) : State := { s with loader := { s.loader with op := none } }

/-- The running slot command, when it is `op`. -/
def State.slotRuns (s : State) (op : SlotOp) : Option Bool :=
  match s.loader.op with
  | some (o, b) => if o = op then some b else none
  | none => none

/-- A write refused as LOCKED, OVERLAY_FULL or BUSY: RWL_REFUSED (R15, R186). -/
def State.noteRefused (s : State) (addr code : Nat) : State := s.commitNote 0x0246 (leBytes 4 addr ++ leBytes 1 code)

/-- Codes of the slot commands (R164). -/
def slotNeedsSession (cmd : Nat) : Bool := cmd == 1 || cmd == 2 || cmd == 5 || cmd == 6 || cmd == 8

/-- The REASON that refuses a slot command before it acts, 0 for none: locked or no password set (R163, R174), then busy
(R164). -/
def State.slotReason (s : State) (cmd : Nat) : Nat :=
  if slotNeedsSession cmd && !s.session.unlocked then (if s.persist.pwSet then 1 else 8)
  else if s.loader.op.isSome && cmd != 7 then 5
  else 0

/-- A slot command that nothing refuses beforehand (R163, R164). -/
def State.slotAct (s : State) (cmd : Nat) (slotB : Bool) : State :=
  match cmd with
  | 1 => s.slotBegin .erase slotB
  | 2 =>
    if s.loader.window.isSome then s.slotRefuse 3
    else { s.slotDone with loader := { s.slotDone.loader with window := some slotB, offset := 0, written := 0 } }
  | 3 => if s.loader.window.isSome then s.closeWindow.slotDone else s.slotRefuse 3
  | 4 => s.slotBegin .verify slotB
  | 5 => s.slotBegin .copyAB false
  | 6 => s.slotBegin .accept false
  | 7 => if (s.slotRuns .deferred).isSome then s.slotFree.slotDone else s.slotRefuse 3
  | 8 => s.slotBegin .ovlClear false
  | _ => s

/-- A slot command is refused: a locked one is recorded as R15 states (R163), and ACCEPT writes its own record (R186). -/
def State.slotDeny (s : State) (cmd reason : Nat) : State :=
  let s := if cmd = 6 then s.acceptRefuse reason else s.slotRefuse reason
  if reason = 1 ∨ reason = 8 then s.noteRefused 0x200004 1 else s

/-- A write of MGT_SLOTCMD; the answer says whether it was refused as locked (R163, R164, R182). -/
def State.writeSlotcmd (s : State) (w : Word) : Bool × State :=
  let cmd := getBits w 3 0
  if cmd = 0 ∨ 8 < cmd then (false, s)
  else
    let why := s.slotReason cmd
    if why = 0 then (false, s.slotAct cmd (w.getLsbD 8)) else (why == 1 || why == 8, s.slotDeny cmd why)

/-- A slot command from its number and slot. -/
def slotCommand (cmd : Nat) (slotB : Bool) : Word := BitVec.ofNat 32 (cmd + 256 * bit slotB)

/-- A slot command written to MGT_SLOTCMD. -/
def State.slotRow (s : State) (cmd : Nat) (slotB : Bool) : State :=
  s.atMgt fun s => (s.writeSlotcmd (slotCommand cmd slotB)).2

/-- ERASE (R164). -/
def execSlotErase (slotB : Bool) (s : State) : Host.Outcome State Fault Refusal :=
  .next (s.slotRow 1 slotB)

/-- ERASE_COMPLETE: every word of the slot reads 0xFFFF_FFFF (R164). -/
def execEraseComplete (s : State) : Host.Outcome State Fault Refusal :=
  .next (match s.slotRuns .erase with
    | some b => (({ s with persist := s.persist.setSlot b [] } : State).logChange 0x03 (bit b)).slotFree.slotDone
    | none => s)

/-- OPEN (R164). -/
def execSlotOpen (slotB : Bool) (s : State) : Host.Outcome State Fault Refusal :=
  .next (s.slotRow 2 slotB)

/-- CLOSE (R163). -/
def execSlotClose (s : State) : Host.Outcome State Fault Refusal := .next (s.slotRow 3 false)

/-- VERIFY (R164). -/
def execSlotVerify (slotB : Bool) (s : State) : Host.Outcome State Fault Refusal :=
  .next (s.slotRow 4 slotB)

/-- VRES takes the result of R127 on a slot. -/
def State.slotChecked (s : State) (slotB : Bool) : State :=
  { s with loader := { s.loader with vres := BitVec.ofNat 4 (slotVerdict s.persist (s.persist.slot slotB)) } }

/-- VERIFY_COMPLETE: the result is in VRES (R164). -/
def execVerifyComplete (s : State) : Host.Outcome State Fault Refusal :=
  .next (match s.slotRuns .verify with
    | some b => (s.slotChecked b).slotFree.slotDone
    | none => s)

/-- COPY_AB (R164). -/
def execSlotCopyAb (s : State) : Host.Outcome State Fault Refusal := .next (s.slotRow 5 false)

/-- COPY_AB ends: slot B takes slot A's bytes only if slot A passed (R164). DESIGN CHOICE: R179 does not say which slot the
change-log record of COPY_AB names; it carries 1, the slot that changes (log 21). -/
def State.copyDone (s : State) : State :=
  let s := (s.slotChecked false).slotFree
  if s.loader.vres = 0 then
    (({ s with persist := { s.persist with slotB := s.persist.slotA } } : State).logChange 0x05 1).slotDone
  else s.slotRefuse 2

/-- COPY_AB_COMPLETE (R164). -/
def execCopyAbComplete (s : State) : Host.Outcome State Fault Refusal :=
  .next (match s.slotRuns .copyAB with
    | some _ => s.copyDone
    | none => s)

/-! ### ACCEPT and the structure reload (R166 to R168) -/

/-- ACCEPT (R166). -/
def execSlotAccept (s : State) : Host.Outcome State Fault Refusal := .next (s.slotRow 6 false)

/-- The CRC word of the image in a slot. -/
def slotCrc (slot : List Host.Cell) : Word := BitVec.ofNat 32 (ofLe (slotBytes slot (leAt (slotBytes slot 8 4) 0 4) 4))

/-- The structure reload starts: change log, IMAGE_ACCEPT, and the reset of R116 (R168). -/
def State.startStructureReload (s : State) : State :=
  let old : Word := match s.image with
    | some im => im.crc
    | none => 0
  let new := slotCrc s.persist.slotA
  let s := (s.slotFree.slotDone).logChange 0x02 0 0 old.toNat new.toNat
  (s.commitNote 0x0240 (wordBytes new ++ wordBytes old)).restart .structureReload

/-- A verified ACCEPT starts the reload or waits in DEFERRED (R166). -/
def State.tryReload (s : State) : State :=
  let why := s.reloadReason
  if why = 0 then s.startStructureReload
  else { s.slotEnd .deferred why with loader := { (s.slotEnd .deferred why).loader with op := some (.deferred, false) } }

/-- ACCEPT_VERIFIED (R166). -/
def execAcceptVerified (s : State) : Host.Outcome State Fault Refusal :=
  .next (match s.slotRuns .accept with
    | some _ =>
      let s := (s.slotChecked false).slotFree
      if s.loader.vres = 0 then s.tryReload else s.acceptRefuse 2
    | none => s)

/-- STRUCTURE_RELOAD_START: a deferred ACCEPT looks at its conditions again (R166 to R168). -/
def execStructureReloadStart (s : State) : Host.Outcome State Fault Refusal :=
  .next (match s.slotRuns .deferred with
    | some _ => s.tryReload
    | none => s)

/-- CANCEL (R163, R167). -/
def execSlotCancel (s : State) : Host.Outcome State Fault Refusal := .next (s.slotRow 7 false)

/-! ### The overlay and the window -/

/-- OVL_CLEAR (R164). -/
def execOvlClear (s : State) : Host.Outcome State Fault Refusal := .next (s.slotRow 8 false)

/-- OVL_CLEAR_COMPLETE: the overlay is erased (R164, R171). DESIGN CHOICE: MGT_OVLKEY keeps the last tie, which R171 and R185
leave open for an overlay with no entries (log 21). -/
def execOvlClearComplete (s : State) : Host.Outcome State Fault Refusal :=
  .next (match s.slotRuns .ovlClear with
    | some _ => (({ s with persist := { s.persist with overlay := [] } } : State).logChange 0x0B 0).slotFree.slotDone
    | none => s)

/-- Words in a slot. -/
def slotWords : Nat := 0x40000

/-- A write of MGT_SLOTDATA: with a window open and OFFSET inside the slot the word is stored and OFFSET advances (R165). -/
def State.writeSlotdata (s : State) (w : Word) : State :=
  match s.loader.window with
  | some b =>
    let o := s.loader.offset
    if o < slotWords then
      { s with persist := s.persist.setSlot b (setSlotWord (s.persist.slot b) o w),
               loader := { s.loader with offset := o + 1, written := satInc s.loader.written } }
    else s
  | none => s

/-- SLOTDATA_WRITE (R165). -/
def execSlotdataWrite (w : Word) (s : State) : Host.Outcome State Fault Refusal := .next (s.atMgt fun s => s.writeSlotdata w)

/-- A read of MGT_SLOTDATA: the window's word at OFFSET, which advances, 0 with no window open (R183). Past the slot's last
word there is no word to return: a free value. -/
def State.readSlotdata (s : State) : Word × State :=
  match s.loader.window with
  | some b =>
    let o := s.loader.offset
    if o < slotWords then (slotWord (s.persist.slot b) o, { s with loader := { s.loader with offset := o + 1 } })
    else (Config.freeWord s.fresh, s.tick)
  | none => (0, s)

/-- SLOTDATA_READ (R183). -/
def execSlotdataRead (s : State) : Host.Outcome State Fault Refusal := .next (s.atMgt fun s => s.readSlotdata.2)

end Sys2Proof.Machine
end

