-- ==== Sys2Proof/Machine/RecControl.lean ====
section
/-! DEFINITION. The recorder's control register and the wall clock (R621, R623, R625, R633). -/

namespace Sys2Proof.Machine

/-- MGT freezes the recorder: REC_FREEZE first, then every further record is held (R621). -/
def State.freeze (s : State) : State :=
  if s.recorder.frozen then s
  else
    let s := s.commitNote 0x0261
    { s with recorder := { s.recorder with frozen := true, frozenAt := s.dev, freezeDrop := 0 } }

/-- A write of MGT_RECCTL; the answer says whether it was refused as locked. FREEZE and UNFREEZE together leave the freeze as
it is; CLRDROP still acts (R621, R623, R633). -/
def State.writeRecctl (s : State) (w : Word) : Bool × State :=
  let on := w.getLsbD 0
  let off := w.getLsbD 1
  if !s.session.unlocked then (on || w.getLsbD 2, s)
  else
    let s := if on && !off then s.freeze else if off && !on then s.withHist s.hist.endFreeze else s
    (false, if w.getLsbD 2 then { s with recorder := { s.recorder with stageDrop := 0, tapDrop := 0 } } else s)

/-- FREEZE: a write of MGT_RECCTL with FREEZE (R621). -/
def execRecFreeze (w : Word) (s : State) : Host.Outcome State Fault Refusal := .next (s.atMgt fun s => (s.writeRecctl (w ||| 1)).2)

/-- UNFREEZE: a write of MGT_RECCTL with UNFREEZE (R623). -/
def execRecUnfreeze (w : Word) (s : State) : Host.Outcome State Fault Refusal := .next (s.atMgt fun s => (s.writeRecctl (w ||| 2)).2)

/-- CLRDROP: a write of MGT_RECCTL with CLRDROP (R633). -/
def execClrdrop (w : Word) (s : State) : Host.Outcome State Fault Refusal := .next (s.atMgt fun s => (s.writeRecctl (w ||| 4)).2)

/-- The clock takes a new wall time: change log, RTC_INVALID cleared, and CLOCK_SET, whose own wall time is the new one and
whose data hold the old (R625). -/
def State.setClock (s : State) (w : Word) : State :=
  let old := leBytes 4 s.aon.rtcSec.toNat ++ leBytes 2 s.aon.rtcFrac.toNat
  let s := s.logChange 0x01 0 0x020008 s.aon.rtcSec.toNat w.toNat
  let s := { s with aon := { s.aon with rtcSec := w, rtcFrac := 0, rtcSub := 0, rtcInvalid := false } }
  s.withHist (s.hist.submit { dtime := s.dev, code := 0x0263, data := old, wall := some (w, 0) })

/-- A write of AON_RTCSET; the answer says whether it was refused as locked, which is recorded (R625). -/
def State.writeRtcset (s : State) (w : Word) : Bool × State :=
  if s.session.unlocked then (false, s.setClock w) else (true, s.noteRefused 0x020008 1)

/-- AON_RTCSET (R625). -/
def execAonRtcset (w : Word) (s : State) : Host.Outcome State Fault Refusal := .next (s.atMgt fun s => (s.writeRtcset w).2)

end Sys2Proof.Machine
end

