-- ==== Sys2Proof/Machine/RegWrite.lean ====
section
/-! DEFINITION. What a write of a register does, register by register (R14), and the path of an RWL write through the Glaun
loader (R15, R16, R156, R169 to R171). -/

namespace Sys2Proof.Machine

/-! ### Writes of RW, W1C, WO and RWK fields (R14) -/

/-- Where the attempt of a controller's head entry stands when a register write cancels: won once arbitration has been won
(R534); before that a free value, since the moment of the write decides whether the start-of-frame has been sent. -/
def State.txPhase (s : State) (n : Nat) : TxPhase :=
  if (s.cans.get Can.reset n).won then .won
  else if s.canTalks n && (Config.freeWord s.fresh).getLsbD 0 then .arbitrating
  else .idle

/-- A write of MPI_FSW: CHATTER is W1C (R252). -/
def State.writeFsw (s : State) (w : Word) : State :=
  let sw := (List.range 4).foldl (fun t i =>
    if w.getLsbD (8 + i) then t.modify TermSwitch.reset i fun x => { x with chatter := false } else t) s.fusion.switches
  { s with fusion := { s.fusion with switches := sw } }

/-- A write of QF_GIRQSTAT: READY and LOCKOUT are W1C (R656). -/
def Ports.writeGirqstat (p : Ports) (w : Word) : Ports :=
  { p with irqLockout := p.irqLockout && !w.getLsbD 4, irqReady := p.irqReady && !w.getLsbD 3 }

/-- A write of QF_GTAGCLR: GO closes TAG (R648, R656). -/
def Ports.writeGtagclr (p : Ports) (w : Word) : Ports := if w.getLsbD 8 then p.closeTag (getBits w 7 0) else p

/-- A write of QF_QCFGn: WLEN in its range; it holds from the next item (R215, R217). -/
def State.writeQcfg (s : State) (n : Nat) (w : Word) : State :=
  match s.fabric.queue n with
  | some q => { s with fabric := s.fabric.setQueue n { q with wlen := clampNat 1 16 (getBits w 20 16) } }
  | none => s

/-- A write of PWR_RESQREM: the account takes the charge, inside 0 to QCAP, and the array keeps it (R25, R103). -/
def State.writeQrem (s : State) (w : Word) : State := (s.setCharge (1000 * w.toNat)).storeQrem

/-- A register of PWR, QF or SFI. -/
def State.writePlain (s : State) (r : Reg) (idx : List Nat) (w : Word) : State :=
  if r.has .rwk then s.writeRwk r idx (s.storedWord [.rwk] r idx w) else s.storeFields [.rw] r idx w

/-- A write to a register's RW, W1C, WO and RWK fields, by a port or a figure. -/
def State.writeReg (s : State) (r : Reg) (idx : List Nat) (w : Word) : State :=
  let i := idx.headD 0
  if s.inert r idx then s
  else match r with
  | .SYS_TEMPO => s.writeSysTempo w
  | .PWR_STATE => s.writePwrState w
  | .PWR_SUP => s.writePwrSup w
  | .PWR_RESQREM => s.writeQrem w
  | .QF_QCFG => s.writeQcfg i w
  | .QF_QSTAT => s.withQf (s.qf.writeQstat i w false)
  | .QF_FCTL => { s with fabric := s.fabric.writeFctl w }
  | .QF_GIRQSTAT => { s with ports := s.ports.writeGirqstat w }
  | .QF_GTAGCLR => { s with ports := s.ports.writeGtagclr w }
  | .SFI_LEPSTAT => s.writeLepstat i w
  | .MPI_FSW => s.writeFsw w
  | .MPI_PLCTL => s.writePlctl i w
  | .MPI_PLSTAT => s.writePlstat i w
  | .LECMD => s.writeLecmd i w
  | .LESTAT => s.writeLestat i w
  | .MC_CTL => s.writeMcCtl i w
  | .MC_STAT => s.writeMcStat i w
  | .MC_FBSET => s.writeFbset i w
  | .MC_DSTAT => s.writeDstat i w
  | .SCH_CTL => s.writeSchCtl w
  | .SCH_STAT => s.writeSchStat w
  | .SEQ_FCTL => s.writeSeqFctl i w
  | .SEQ_FFLAG => s.writeSeqFflag i w
  | .SEQ_FSIG => s.writeSeqFsig i w
  | .BUS_CANSTAT => s.writeCanstat i w
  | .BUS_CANTXCANCEL => (s.writeCanTxcancel i (s.txPhase i) w).tick
  | .BUS_CANTXGO => s.writeCanTxgo i w
  | .BUS_RBSTAT => s.writeRbstat i (idx.getD 1 0) w
  | .BUS_PXCTL => s.writePxctl w
  | _ => s.writePlain r idx w

/-! ### Writes of MGT's and AON's own registers -/

/-- The status of a write that only a session may make. -/
def lockedOr (x : Bool × State) : Status × State := (if x.1 then .locked else .ok, x.2)

/-- A write of MGT_PWCMD; a SET that needs a session and has none is LOCKED (R174, R641). -/
def State.pwcmdWrite (s : State) (w : Word) : Status × State :=
  (if getBits w 2 0 = 3 ∧ s.persist.pwSet ∧ !s.session.unlocked then .locked else .ok, s.writePwcmd w)

/-- A write of MGT_SLOTADDR (R183). -/
def State.writeSlotaddr (s : State) (w : Word) : State := { s with loader := { s.loader with offset := getBits w 19 2 } }

/-- A write of MGT_RECSEL selects a record for the read-out (R634). -/
def State.writeRecsel (s : State) (w : Word) : State :=
  { s.storeFields [.rw] .MGT_RECSEL [] w with recorder := { s.recorder with selected := true } }

/-- A write of a keep register: MGT stores the value itself (R629, R631). -/
def State.writeKeep (s : State) (i : Nat) (w : Word) : State :=
  let s := s.setReg .MGT_KEEP [i] w
  s.withHist (s.hist.storeRwk (Reg.addr .MGT_KEEP [i]) w)

/-- A write of a register of MGT or AON that is no RWL register. -/
def State.writeMgtReg (s : State) (r : Reg) (idx : List Nat) (w : Word) : Status × State :=
  match r with
  | .MGT_SLOTCMD => lockedOr (s.writeSlotcmd w)
  | .MGT_SLOTADDR => (.ok, s.writeSlotaddr w)
  | .MGT_SLOTDATA => (.ok, s.writeSlotdata w)
  | .MGT_PWDATA => (.ok, s.writePwdata w)
  | .MGT_PWCMD => s.pwcmdWrite w
  | .MGT_KEYDATA => (.ok, s.writeKeydata w)
  | .MGT_KEYCMD => lockedOr (s.writeKeycmd w)
  | .MGT_RSTREQ => (.ok, s.writeRstreq w)
  | .MGT_RECCTL => lockedOr (s.writeRecctl w)
  | .AON_RTCSET => lockedOr (s.writeRtcset w)
  | .MGT_KEEP => (.ok, s.writeKeep (idx.headD 0) w)
  | .MGT_RECSEL => (.ok, s.writeRecsel w)
  | _ => (.ok, s.storeFields [.rw] r idx w)

/-! ### RWL writes (R15, R16, R169 to R171) -/

/-- The RWL command fields of R170: they act once and make no overlay entry. -/
def rwlCommand (r : Reg) : Bool :=
  match r with
  | .MPI_FCMD | .SFI_LATCTL | .SFI_TESTCTL | .SFI_LSCTL | .BUS_LICTL | .MGT_QCLR => true
  | _ => false

/-- An accepted RWL write takes effect (R169). -/
def State.applyRwl (s : State) (r : Reg) (idx : List Nat) (w : Word) : State :=
  match r with
  | .MPI_FCMD => s.writeFcmd w
  | .SFI_LATCTL => s.writeSfiLatctl w
  | .SFI_TESTCTL => s.writeSfiTestctl w
  | .SFI_LSCTL => s.writeLsctl w
  | .BUS_LICTL => s.writeLictl w
  | .MGT_QCLR => s.writeMgtQclr w
  | .MPI_NLAND => s.writeNland w
  | .LEHOLD => s.writeLehold (idx.headD 0) w
  | .PWR_RESCFG => (s.storeFields [.rwl] r idx w).rescueMode
  | .MGT_MPCFG => (s.storeFields [.rwl] r idx w).adoptBaud
  | _ => s.storeFields [.rwl] r idx w

/-- A held or running TABLE move of planner `p` uses table `t` (R275). -/
def State.tableInUse (s : State) (p t : Nat) : Bool :=
  let x := s.planners.get Planner.reset p
  let uses (mv : Move) : Bool := mv.kind == 4 && mv.table == t
  x.held.any uses || (match x.running with | some mv => uses mv | none => false)

/-- A knot belongs to a table in use. -/
def State.knotInUse (s : State) (i : Nat) : Bool :=
  (List.range 8).any fun p => (List.range 32).any fun t =>
    s.tableInUse p t && (let d := s.tableDir p t; decide (d.2 ≤ i) && decide (i < d.2 + d.1))

/-- The write is refused with BUSY: an ACCEPT is deferred (R167), or a move uses the knot or directory entry (R275). -/
def State.rwlBusy (s : State) (r : Reg) (idx : List Nat) : Bool :=
  (s.slotRuns .deferred).isSome ||
    (match r with
      | .MPI_KNT | .MPI_KNP | .MPI_KNV => s.knotInUse (idx.headD 0)
      | .MPI_PLTAB => s.tableInUse (idx.headD 0) (idx.getD 1 0)
      | _ => false)

/-- The overlay is full and the address has no entry in it (R171). -/
def Persist.overlayFull (p : Persist) (a : Nat) : Bool := 2048 ≤ p.overlay.length && !(p.overlay.any fun e => e.1 == a)

/-- The overlay with an address's entry written or replaced; an empty one takes the tie of the image in force (R169, R171). -/
def Persist.overlayPut (p : Persist) (crc : Word) (a : Nat) (w : Word) : Persist :=
  let p := if p.overlay.isEmpty then { p with ovlCrc := crc } else p
  if p.overlay.any fun e => e.1 == a then
    { p with overlay := p.overlay.map fun e => if e.1 == a then (a, w) else e }
  else { p with overlay := p.overlay ++ [(a, w)] }

/-- The overlay keeps an accepted write. DESIGN CHOICE: with no image in force, R171 gives a first entry no tie, and the last
tie stays (log 21). -/
def State.keepInOverlay (s : State) (a : Nat) (w : Word) : State :=
  let crc : Word := match s.image with
    | some im => im.crc
    | none => s.persist.ovlCrc
  { s with persist := s.persist.overlayPut crc a w }

/-- The value a change-log record shows for a register: a command field's record carries the value written. -/
def State.loggedValue (s : State) (r : Reg) (idx : List Nat) (w : Word) : Nat :=
  if rwlCommand r && r != .MPI_FCMD then w.toNat else (s.view r idx).toNat

/-- An accepted RWL write: its effect, its change-log record, its overlay entry (R16, R169). -/
def State.acceptRwl (s : State) (r : Reg) (idx : List Nat) (w : Word) : State :=
  let a := r.addr idx
  let old := s.view r idx
  let s := s.applyRwl r idx w
  let s := s.logChange 0x01 0 a old.toNat (s.loggedValue r idx w)
  if rwlCommand r then s else s.keepInOverlay a w

/-- An RWL write of an instantiated sub-block, with its first refusal (R15, R167, R171, R275, R682). An unlocked write of a register
that reads 0 in this mode is answered OK and changes nothing, with no change-log record and no overlay entry: R16 does not say so, it
is the model's choice (log entry 24). -/
def State.writeRwl (s : State) (r : Reg) (idx : List Nat) (w : Word) : Status × State :=
  let a := r.addr idx
  if !s.session.unlocked then (.locked, s.noteRefused a 1)
  else if s.rwlBusy r idx then (.busy, s.noteRefused a 3)
  else if !rwlCommand r && s.persist.overlayFull a then (.overlayFull, s.noteRefused a 2)
  else (.ok, if s.inert r idx then s else s.acceptRwl r idx w)

end Sys2Proof.Machine
end

