-- ==== Sys2Proof/Machine/PortAccess.lean ====
section
/-! DEFINITION. One register access, by a port or by a figure: what each may reach and what the access does (R12, R14, R26, R29,
R31, R125, R214, R429, R430, R682). -/

namespace Sys2Proof.Machine

/-! ### Reads (R14) -/

/-- A read of BUS_TSNTLO at an instant of the present µs that the command does not name (R554). -/
def State.readTimeNow (s : State) : Word × State :=
  if s.runs .bus && s.timeRole != 0 then
    let r := s.readTsntlo ((Config.freeWord s.fresh).toNat % 80)
    (r.1, r.2.tick)
  else (0, s)

/-- A read of a register: what it returns, and what the read itself does. -/
def State.readReg (s : State) (r : Reg) (idx : List Nat) : Word × State :=
  let s := if r == .BUS_CANSTAT then s.countRecov (idx.headD 0) else s
  let v := s.view r idx
  match r with
  | .QF_QDATA => (s.qf.hostRead (idx.headD 0)).2.map id s.withQf
  | .QF_LTAG => (v, { s with fabric := { s.fabric with ltags := s.fabric.ltags.tail } })
  | .MPI_FPOS => (v, { s with fusion := { s.fusion with frozen := some s.fusion.res } })
  | .BUS_TSNTLO => s.readTimeNow
  | .BUS_RBW => (v, s.readBufferWord (idx.headD 0) (idx.getD 1 0) (idx.getD 2 0))
  | .AON_RTCSEC => (v, s.latchRtc)
  | .MGT_WEARLO => (v, s.latchWear)
  | .MGT_SLOTDATA => s.readSlotdata
  | .SFI_LEPSTAT => (v, s.tick)
  | _ => (v, s)

/-! ### Reach (R26, R29, R125, R214) -/

/-- The image exposes an address to the host for reading or writing (R26, R157). -/
def State.exposed (s : State) (a : Nat) (write : Bool) : Bool :=
  match s.image with
  | some im => im.expose.any fun e => (if write then e.write else e.read) && decide (e.addr ≤ a) && decide (a < e.addr + 4 * e.count)
  | none => false

/-- The islands have started: the ports reach beyond SYS, AON and MGT (R125). -/
def State.portsOpen (s : State) : Bool := 7 ≤ s.start.phase.toNat && s.start.phase.toNat ≤ 9

/-- The host is on the right side of a queue's data register (R214); a queue without a ROUTES record is left to ABSENT. -/
def State.queueSide (s : State) (r : Reg) (idx : List Nat) (write : Bool) : Bool :=
  match r with
  | .QF_QDATA =>
    match s.fabric.queue (idx.headD 0) with
    | some q => (if write then q.route.producer else q.route.consumer) == 0xFF00
    | none => true
  | _ => true

/-- The host port's reach. -/
def State.hostReach (s : State) (r : Reg) (idx : List Nat) (a : Nat) (write : Bool) : Bool :=
  if a < 0x010000 then !write || (r == .SYS_TEMPO && s.portsOpen)
  else
    s.portsOpen && a < 0x200000 && !(write && ((0x020000 ≤ a && a < 0x030000) || (0x080000 ≤ a && a < 0x0C0000))) &&
      s.exposed a write && s.queueSide r idx write

/-- The management port's reach. -/
def State.mgmtReach (s : State) (r : Reg) (a : Nat) (write : Bool) : Bool :=
  if a < 0x010000 then !write
  else if (0x020000 ≤ a && a < 0x030000) || 0x200000 ≤ a then true
  else s.portsOpen && r.has .rwl

/-- The port reaches a register with a read or a write. -/
def State.reaches (s : State) (p : Port) (r : Reg) (idx : List Nat) (a : Nat) (write : Bool) : Bool :=
  match p with
  | .host => s.hostReach r idx a write
  | .mgmt => s.mgmtReach r a write

/-- The sub-block, or the queue, at an address is instantiated (R31). -/
def State.there (s : State) (a : Nat) : Bool :=
  if 0x050000 ≤ a ∧ a < 0x052000 then (s.fabric.queue ((a - 0x050000) / 0x10)).isSome else s.subPresent a

/-! ### One access of a port (R682) -/

/-- A write that the port may make to a register that exists. -/
def State.portWrite (s : State) (p : Port) (r : Reg) (idx : List Nat) (w : Word) : Status × State :=
  match p with
  | .host =>
    match r with
    | .QF_QDATA =>
      let x := s.qf.hostWrite (idx.headD 0) w
      (x.1, s.withQf x.2)
    | _ => (.ok, s.writeReg r idx w)
  | .mgmt => if r.takesRwl idx then s.writeRwl r idx w else s.writeMgtReg r idx w

/-- The refusal of an access before it reaches its register, in the order of R682; none for an access that is performed. -/
def State.accessRefusal (s : State) (p : Port) (a : Nat) (write : Bool) : Status ⊕ (Reg × List Nat) :=
  if a % 4 ≠ 0 then .inl .misaligned
  else
    match locate a with
    | none => .inl .unmapped
    | some (r, idx) =>
      if !s.reaches p r idx a write then .inl .notExposed
      else if !s.there a then .inl .absent
      else .inr (r, idx)

/-- A port's read of SEQ_INLVL0 or SEQ_INLVL1 finds the input lines at their present level, which the command does not name
(R434, R443). -/
def State.seeLines (s : State) (r : Reg) : State :=
  match r with
  | .SEQ_INLVL0 | .SEQ_INLVL1 =>
    (s.seePads ((Config.freeWord s.fresh).setWidth 64 ||| ((Config.freeWord (s.fresh + 1)).setWidth 64 <<< 32))).tick.tick
  | _ => s

/-- One read access: its status, its word, and the state after it. -/
def State.accessRead (s : State) (p : Port) (a : Nat) : Status × Word × State :=
  match s.accessRefusal p a false with
  | .inl why => (why, 0, s)
  | .inr (r, idx) => (.ok, (s.seeLines r).readReg r idx)

/-- One write access: its status and the state after it. -/
def State.accessWrite (s : State) (p : Port) (a : Nat) (w : Word) : Status × State :=
  match s.accessRefusal p a true with
  | .inl why => (why, s)
  | .inr (r, idx) => s.portWrite p r idx w

/-- RWL_WRITE: a write of an RWL register through the management port (R169). -/
def execRwlWrite (addr : BitVec 24) (w : Word) (s : State) : Host.Outcome State Fault Refusal :=
  .next (s.atMgt fun s => if isRwl addr.toNat then (s.accessWrite .mgmt addr.toNat w).2 else s)

/-- REGISTER_WRITE: one write access through a port (R14). -/
def execRegisterWrite (p : Port) (addr : BitVec 24) (w : Word) (s : State) : Host.Outcome State Fault Refusal :=
  .next (s.atMgt fun s => (s.accessWrite p addr.toNat w).2)

/-- GTAGCLR: a write of QF_GTAGCLR with GO (R648). -/
def execGtagclr (w : Word) (s : State) : Host.Outcome State Fault Refusal :=
  .next { s with ports := s.ports.writeGtagclr (w ||| 0x100) }

/-! ### A figure's access (R429, R430) -/

/-- An island performs a figure's request: the reply's two words, status first (R429, R430). QF_QDATAn answers a figure as it
answers the host, REFUSED on the wrong side of the queue (R214, R219) and where the gate turns the item away (DEDUCED, log
entry 45). -/
def State.serveRequest (s : State) (i : Nat) (ws : List Word) : List Word × State :=
  let op := ws.getD 0 0
  let a := (ws.getD 1 0).toNat
  match locate a with
  | none => ([2, 0], s)
  | some (r, idx) =>
    if islandAt a ≠ some i then ([2, 0], s)
    else if !s.there a then ([1, 0], s)
    else if op = 1 ∧ figReadable a ∧ s.queueSide r idx false then
      let x := s.readReg r idx
      ([0, x.1], x.2)
    else if op = 2 ∧ figWritable a ∧ s.queueSide r idx true then
      let x := s.portWrite .host r idx (ws.getD 2 0)
      (if x.1 = .ok then [0, 0] else [2, 0], x.2)
    else ([2, 0], s)

/-- An island takes the next request of figure engine `f`; a poisoned one is not used and gets no reply (R206). -/
def State.regRequest (s : State) (f i : Nat) : State :=
  let r := s.qf.takeItem (regReqIn f i)
  let s := s.withQf r.2
  match r.1 with
  | some it =>
    if it.poison then
      { s with seqr := { s.seqr with figs := s.seqr.figs.modify Figure.reset f fun g =>
          { g with stale := g.stale.modify 0 i (· - 1) } } }
    else
      let x := s.serveRequest i it.words
      x.2.post (regRepOut f i) x.1
  | none => s

/-- REG_REQUEST: a register request of figure engine `f` reaches island `i` (R429). -/
def execRegRequest (f : Fin 4) (i : Island) (s : State) : Host.Outcome State Fault Refusal :=
  .next (if s.runs i then s.regRequest f.val (islandNum i) else s)

end Sys2Proof.Machine
end

