-- ==== Sys2Proof/Machine/Array.lean ====
section
/-! DEFINITION. The layout of the persistent array (R618): its regions, and the bytes that stand at each offset. No port reads the
array as such; the engines of MGT read and write the fields of Persist, whose place in the array this file gives. -/

namespace Sys2Proof.Machine

/-- The regions of the array, in the order of the table of R618. -/
inductive Region where
  | slotA | slotB | rwk | overlay | mgtState | changeLog | birthLog | circLog | epochs
  deriving DecidableEq, Repr

def Region.all : List Region := [.slotA, .slotB, .rwk, .overlay, .mgtState, .changeLog, .birthLog, .circLog, .epochs]

/-- Offset of a region from the start of the array (R618). -/
def Region.offset : Region → Nat
  | .slotA => 0
  | .slotB => 0x100000
  | .rwk => 0x200000
  | .overlay => 0x208000
  | .mgtState => 0x20C000
  | .changeLog => 0x210000
  | .birthLog => 0x220000
  | .circLog => 0x260000
  | .epochs => 0x3E0000

/-- Size of a region in bytes (R618). -/
def Region.size : Region → Nat
  | .slotA | .slotB => 0x100000
  | .rwk => 0x8000
  | .overlay | .mgtState => 0x4000
  | .changeLog => 0x10000
  | .birthLog => 0x40000
  | .circLog => 0x180000
  | .epochs => 0x20000

/-- Size of the array: 4 MiB (R618). -/
def arraySize : Nat := 0x400000

/-- The region that holds an offset of the array. -/
def regionAt (o : Nat) : Option Region := Region.all.find? fun r => decide (r.offset ≤ o) && decide (o < r.offset + r.size)

/-- The regions whose words R617 or the slots' own rating covers instead of the 10^10 writes per word (R618). -/
def Region.wordRated : Region → Bool
  | .rwk | .overlay | .mgtState | .epochs => true
  | _ => false

/-- The 16 bytes of an RWK cell: value, the 40-bit wear counter with WORN above it, the register's address, and the CRC-16 over the
rest (R610, R618). The order of the parts is that in which R618 names them: the model's choice (log entry 61). -/
def RwkCell.bytes (addr : Nat) (c : RwkCell) : List Byte :=
  let body := wordBytes c.value ++ leBytes 6 (c.wear % 2 ^ 40 + bit c.worn * 2 ^ 40) ++ leBytes 4 addr
  body ++ leBytes 2 (crc16 body).toNat

/-- The bytes of a list of equal lines. -/
def lineByte (size : Nat) (line : Nat → Option (List Byte)) (o : Nat) : Option Byte :=
  (line (o / size)).bind fun l => l[o % size]?

/-- The byte of an epoch buffer: its content from offset 0, its marker at 0xFFE0 (R596). -/
def EpochBuf.byte (b : EpochBuf) (o : Nat) : Option Byte := if o < 0xFFE0 then b.content[o]? else b.marker[o - 0xFFE0]?

/-- The byte at an offset of a region; none where nothing has been written, and in the MGT state, inside which the spec places
nothing. The cells of the RWK words written so far stand in the order of their
registers' addresses: the model's choice (log entry 61). -/
def Persist.regionByte (p : Persist) (r : Region) (o : Nat) : Option Byte :=
  match r with
  | .slotA => some (Tbl.get p.slotA 0xFF o)
  | .slotB => some (Tbl.get p.slotB 0xFF o)
  | .rwk => lineByte 16 (fun k => p.rwk[k]?.map fun e => e.2.bytes e.1) o
  | .overlay => lineByte 8 (fun k => p.overlay[k]?.map fun e => leBytes 4 e.1 ++ wordBytes e.2) o
  | .mgtState => none
  | .changeLog => lineByte 32 (fun k => (p.clog.find? fun e => e.1 == k).map (·.2)) o
  | .birthLog => lineByte 32 (fun k => (p.birth.find? fun e => e.1 == k).map (·.2)) o
  | .circLog => lineByte 32 (fun k => (p.circ.find? fun e => e.1 == k).map (·.2)) o
  | .epochs => (p.epochs.get none (o / 0x10000)).bind fun b => b.byte (o % 0x10000)

/-- The byte at an offset of the array. -/
def Persist.arrayByte (p : Persist) (o : Nat) : Option Byte :=
  (regionAt o).bind fun r => p.regionByte r (o - r.offset)

end Sys2Proof.Machine
end

