-- ==== Sys2Proof/Machine/Ports.lean ====
section
/-! DEFINITION. The transactions of the host and management ports (R637 to R646, R650 to R653, R658). -/

namespace Sys2Proof.Machine

/-! ### Requests and responses as bytes (R637, R638, R651) -/

/-- The opcode bytes: whether the transaction writes, and whether all its accesses go to ADDR (R637). -/
def portOp (b : Byte) : Option (Bool × Bool) :=
  match b.toNat with
  | 0x02 => some (true, false)
  | 0x03 => some (false, false)
  | 0x0A => some (true, true)
  | 0x0B => some (false, true)
  | _ => none

/-- A request with the data words that have arrived whole. -/
structure Request where
  write : Bool
  fixed : Bool
  addr  : BitVec 24
  count : Nat
  words : List Word
  deriving DecidableEq, Repr

/-- What the bytes of a request have told so far. -/
inductive Heard where
  | head
  | unknown
  | request (r : Request)
  deriving DecidableEq, Repr

/-- Words that LEN names: 1 to 255, 0 for 256 (R637). -/
def lenWords (len : BitVec 8) : Nat := if len = 0 then 256 else len.toNat

/-- The request that bytes spell: opcode, address most significant byte first, LEN, and of a write its data words, least
significant byte first (R637, R640). -/
def hear : List Byte → Heard
  | [] => .head
  | op :: rest =>
    match portOp op, rest with
    | none, _ => .unknown
    | some o, a2 :: a1 :: a0 :: len :: data =>
      .request { write := o.1, fixed := o.2, addr := BitVec.ofNat 24 (a2.toNat * 2 ^ 16 + a1.toNat * 2 ^ 8 + a0.toNat),
                 count := lenWords len,
                 words := if o.1 then bytesWords (min (lenWords len) (data.length / 4)) data else [] }
    | some _, _ => .head

/-- Bytes that a whole request takes (R637). -/
def Request.size (r : Request) : Nat := 5 + (if r.write then 4 * r.count else 0)

/-- The response over SPI: each read word behind a sync byte, then the trailer (R638). -/
def Xfer.spiBytes (t : Xfer) : List Byte :=
  (t.words.flatMap fun w => 0x5A :: wordBytes w) ++ (if t.ended then [0x5A, t.status, BitVec.ofNat 8 t.done] else [])

/-- The response over UART: the trailer, the read words, and the CRC-16 over what follows the sync byte, low byte first (R651). -/
def Xfer.uartBytes (t : Xfer) : List Byte :=
  let body := [t.status, BitVec.ofNat 8 t.done] ++ wordsBytes t.words
  if t.ended then 0x5A :: body ++ leBytes 2 (crc16 body).toNat else []

/-! ### The accesses (R637 to R640) -/

/-- What the accesses of a transaction have given so far: the first status not OK, the accesses that ended OK, the read words,
and the device after them. -/
structure Burst where
  status : BitVec 8
  done   : Nat
  words  : List Word
  env    : State
  deriving DecidableEq, Repr

/-- Address of access `i` of a transaction (R637). -/
def accessAddr (fixed : Bool) (addr : BitVec 24) (i : Nat) : Nat := if fixed then addr.toNat else addr.toNat + 4 * i

/-- The transaction goes on: no access has failed (R639) and no reset has stopped MGT under it (R655). -/
def Burst.open (b : Burst) : Bool := b.status == 0 && b.env.mgtUp

/-- One more access has ended with a status (R638, R641). -/
def Burst.count (b : Burst) (c : Status) : Burst :=
  { b with status := BitVec.ofNat 8 (statusCode c), done := if c = .ok then b.done + 1 else b.done }

/-- The next access of a write transaction (R639). -/
def Burst.write (p : Port) (a : Nat) (w : Word) (b : Burst) : Burst :=
  if b.open then
    let r := b.env.accessWrite p a w
    { b with env := r.2 }.count r.1
  else b

/-- The next access of a read transaction: its word, zero from the first failure on (R639). -/
def Burst.read (p : Port) (a : Nat) (b : Burst) : Burst :=
  if b.open then
    let r := b.env.accessRead p a
    { b with words := b.words ++ [r.2.1], env := r.2.2 }.count r.1
  else { b with words := b.words ++ [0] }

/-- The accesses of a write request from access `i` on. -/
def Burst.writes (p : Port) (fixed : Bool) (addr : BitVec 24) (i : Nat) (ws : List Word) (b : Burst) : Burst :=
  match ws with
  | [] => b
  | w :: ws => (b.write p (accessAddr fixed addr i) w).writes p fixed addr (i + 1) ws

/-- `n` accesses of a read request from access `i` on. -/
def Burst.reads (p : Port) (fixed : Bool) (addr : BitVec 24) (i n : Nat) (b : Burst) : Burst :=
  match n with
  | 0 => b
  | n + 1 => (b.read p (accessAddr fixed addr i)).reads p fixed addr (i + 1) n

/-- Accesses that `k` more of a request come to after `i`: of a write no more than whole words have arrived. -/
def Request.steps (r : Request) (i k : Nat) : Nat := min k ((if r.write then r.words.length else r.count) - i)

/-- Up to `k` accesses of a request after the first `i`. -/
def Request.run (r : Request) (p : Port) (i k : Nat) (b : Burst) : Burst :=
  if r.write then b.writes p r.fixed r.addr i ((r.words.drop i).take k) else b.reads p r.fixed r.addr i (r.steps i k)

/-- Address of a queue's data register, whose word stays staged until its last nibble has left (R645). -/
def isQueueData (a : Nat) : Bool :=
  match locate a with
  | some (.QF_QDATA, _) => true
  | _ => false

/-! ### The transaction of a port -/

/-- LASTST of a port. -/
def Ports.setLast (x : Ports) (p : Port) (c : BitVec 8) : Ports :=
  match p with
  | .host => { x with hostLast := c }
  | .mgmt => { x with mgmtLast := c }

/-- The transaction of a port. -/
def Ports.xfer (x : Ports) (p : Port) : Xfer :=
  match p with
  | .host => x.host
  | .mgmt => x.mgmt

/-- The transaction of a port, as it stands. -/
def Ports.setXfer (x : Ports) (p : Port) (t : Xfer) : Ports :=
  match p with
  | .host => { x with host := t }
  | .mgmt => { x with mgmt := t }

/-- The transaction of a port changes. -/
def State.withXfer (s : State) (p : Port) (t : Xfer) : State := { s with ports := s.ports.setXfer p t }

/-- The transaction after a burst: with its last access the response gets its trailer, and LASTST the status (R638, R656). A
transaction over UART is then over; over SPI its chip select ends it. -/
def Burst.close (p : Port) (uart : Bool) (t : Xfer) (ended : Bool) (b : Burst) : State :=
  let t := { t with ended := ended, status := b.status, done := b.done, words := b.words, active := !(ended && uart) }
  let t := { t with response := if uart then t.uartBytes else t.spiBytes }
  if !b.env.mgtUp then b.env
  else if ended then { b.env with ports := (b.env.ports.setXfer p t).setLast p b.status }
  else b.env.withXfer p t

/-- Up to `k` more accesses of the request that a transaction has received (R639). -/
def State.perform (s : State) (p : Port) (uart : Bool) (t : Xfer) (r : Request) (k : Nat) : State :=
  let n := t.acc + r.steps t.acc k
  (r.run p t.acc k { status := t.status, done := t.done, words := t.words, env := s }).close p uart { t with acc := n }
    (decide (r.count ≤ n))

/-- The transaction ends with FRAME before any access (R640, R652). -/
def State.frameError (s : State) (p : Port) (uart : Bool) (t : Xfer) : State :=
  Burst.close p uart t true { status := BitVec.ofNat 8 (statusCode .frame), done := 0, words := [], env := s }

/-- The port works over UART framing. -/
def State.portUart (s : State) (p : Port) : Bool := p == .mgmt && s.uartMode

/-- A request that the management port in UART mode abandons or fails: ERRORS counts, and MPORT_ERROR is written at the first
and then at most once per second (R652, R658). -/
def State.mportError (s : State) (kind : Nat) : State :=
  let n := satInc s.ports.errors
  let due := match s.ports.errNotedAt with
    | some t => decide (t + 1000000 ≤ s.dev)
    | none => true
  let s := { s with ports := { s.ports with errors := n, errNotedAt := if due then some s.dev else s.ports.errNotedAt } }
  if due then s.commitNote 0x0270 (leBytes 1 kind ++ leBytes 2 n.toNat) else s

/-- The transaction under way at a port with more bytes of its request, or a new one that they begin. -/
def Ports.heard (x : Ports) (p : Port) (bytes : List Byte) : Xfer :=
  let t := x.xfer p
  if t.active then { t with rx := t.rx ++ bytes } else { Xfer.reset with active := true, rx := bytes }

/-- Bytes arrive over SPI, and up to `k` accesses of the request are performed (R637 to R640). -/
def State.spiBytes (s : State) (p : Port) (bytes : List Byte) (k : Nat) : State :=
  let t := s.ports.heard p bytes
  if t.ended then s
  else match hear t.rx with
    | .head => s.withXfer p t
    | .unknown => s.frameError p false t
    | .request r => s.perform p false t r k

/-- Bytes arrive over UART: 0xA5, the request and its CRC-16, low byte first; a request whose CRC fails performs no access and is
answered with FRAME (R651, R652). A byte other than 0xA5 begins no request: the model's choice (log entry 63). -/
def State.uartBytes (s : State) (bytes : List Byte) (k : Nat) : State :=
  let t := s.ports.heard .mgmt bytes
  match t.rx with
  | [] => s
  | a :: body =>
    if a ≠ 0xA5 then s.withXfer .mgmt { t with active := false, rx := [] }
    else match hear body with
      | .head => s.withXfer .mgmt t
      | .unknown => s.frameError .mgmt true t
      | .request r =>
        if body.length < r.size + 2 then s.withXfer .mgmt t
        else if leAt body r.size 2 = (crc16 (body.take r.size)).toNat then s.perform .mgmt true t r k
        else (s.mportError 3).frameError .mgmt true t

/-- The chip select that begins a transaction is wake source 0x3 or 0x4 (R94, R646, R653). -/
def State.selectWakes (s : State) (p : Port) : State :=
  let k := match p with
    | .host => 3
    | .mgmt => 4
  if !s.portUart p && testBit s.PWR_WAKEEN_EN (k - 1) && !(s.ports.xfer p).active then s.fireWake (BitVec.ofNat 4 k) else s

/-- Bytes of a transaction reach a port, and up to `k` of its accesses are performed; what the other port and the engines do comes
between two such pieces (R643). It receives no response, and does nothing, until MGT has started, nor does the transaction that
wakes the device (R125, R646). -/
def State.transact (s : State) (p : Port) (bytes : List Byte) (k : Nat) : State :=
  if !s.mgtUp then s.selectWakes p
  else
    let s := s.selectWakes p
    if s.portUart p then s.uartBytes bytes k else s.spiBytes p bytes k

/-! ### The commands

The four request commands carry the bytes as they arrive, and the opcode byte among them decides what is done (R637, R640). A
request can come in several pieces of the same command. -/

/-- WRITE (R637). -/
def execPortWrite (p : Port) (bytes : List Byte) (k : Nat) (s : State) : Host.Outcome State Fault Refusal :=
  .next (s.transact p bytes k)

/-- READ (R637). -/
def execPortRead (p : Port) (bytes : List Byte) (k : Nat) (s : State) : Host.Outcome State Fault Refusal :=
  .next (s.transact p bytes k)

/-- WRITE_FIXED (R637). -/
def execPortWriteFixed (p : Port) (bytes : List Byte) (k : Nat) (s : State) : Host.Outcome State Fault Refusal :=
  .next (s.transact p bytes k)

/-- READ_FIXED (R637). -/
def execPortReadFixed (p : Port) (bytes : List Byte) (k : Nat) (s : State) : Host.Outcome State Fault Refusal :=
  .next (s.transact p bytes k)

/-- An access that had begun is completed and not reported: a write whose word had arrived whole, a read of any register but a
queue's data, whose word stays staged (R645). -/
def State.overtaken (s : State) (p : Port) (t : Xfer) : State :=
  match hear t.rx with
  | .request r =>
    let a := accessAddr r.fixed r.addr t.acc
    if t.status ≠ 0 || r.count ≤ t.acc then s
    else if r.write then
      match r.words[t.acc]? with
      | some w => (s.accessWrite p a w).2
      | none => s
    else if isQueueData a then s else (s.accessRead p a).2.2
  | _ => s

/-- CHIP_SELECT_RISE (R645, R650): LASTST takes the status the trailer carried or would have carried; `begun` when the next access
had begun. -/
def execChipSelectRise (p : Port) (begun : Bool) (s : State) : Host.Outcome State Fault Refusal :=
  .next (s.atMgt fun s =>
    let t := s.ports.xfer p
    if t.active && !s.portUart p then
      let s := { s with ports := (s.ports.setLast p t.status).setXfer p { t with active := false } }
      if begun && !t.ended then s.overtaken p t else s
    else s)

/-- UART_GAP_TIMEOUT: the request under way is abandoned (R652). -/
def execUartGapTimeout (s : State) : Host.Outcome State Fault Refusal :=
  .next (s.atMgt fun s => if s.uartMode then (s.withXfer .mgmt Xfer.reset).mportError 1 else s)

/-- UART_BYTE_OVERLAP: the request that the byte begins is abandoned (R652). -/
def execUartByteOverlap (s : State) : Host.Outcome State Fault Refusal :=
  .next (s.atMgt fun s => if s.uartMode then s.mportError 2 else s)

end Sys2Proof.Machine
end

