-- ==== Sys2Proof/Machine/RwlCommands.lean ====
section
/-! DEFINITION. The commands that are one write of an RWL register: each is that write through the management port, refused while
the image is locked, recorded and kept like any other (R15, R16, R169, R170). -/

namespace Sys2Proof.Machine

/-- The management port writes `w` to an RWL register. -/
def State.mgmtWrite (s : State) (r : Reg) (idx : List Nat) (w : Word) : State :=
  s.atMgt fun s => (s.accessWrite .mgmt (r.addr idx) w).2

/-- LEARN (R243): MPI_FCMD with CMD 1. -/
def execFusionLearn (s : State) : Host.Outcome State Fault Refusal := .next (s.mgmtWrite .MPI_FCMD [] 1)

/-- HOME (R243): MPI_FCMD with CMD 2. -/
def execFusionHome (s : State) : Host.Outcome State Fault Refusal := .next (s.mgmtWrite .MPI_FCMD [] 2)

/-- FUSION_ABORT (R246): MPI_FCMD with CMD 3. -/
def execFusionAbort (s : State) : Host.Outcome State Fault Refusal := .next (s.mgmtWrite .MPI_FCMD [] 3)

/-- NLAND_WRITE (R241). -/
def execNlandWrite (w : Word) (s : State) : Host.Outcome State Fault Refusal := .next (s.mgmtWrite .MPI_NLAND [] w)

/-- HOLD_WRITE: a write of LEHOLD (R312). -/
def execHoldWrite (e : Fin 8) (w : Word) (s : State) : Host.Outcome State Fault Refusal :=
  .next (s.mgmtWrite .LEHOLD [e.val] w)

/-- LATTICE_RELOAD: SFI_LATCTL with RELOAD (R457). -/
def execLatticeReload (w : Word) (s : State) : Host.Outcome State Fault Refusal :=
  .next (s.mgmtWrite .SFI_LATCTL [] (w ||| 1))

/-- LATTICE_CLRCNT: SFI_LATCTL with CLRCNT (R478). -/
def execLatticeClrcnt (w : Word) (s : State) : Host.Outcome State Fault Refusal :=
  .next (s.mgmtWrite .SFI_LATCTL [] (w ||| 2))

/-- SWREQ: a write of SFI_TESTCTL (R501). -/
def execSwreq (w : Word) (s : State) : Host.Outcome State Fault Refusal := .next (s.mgmtWrite .SFI_TESTCTL [] w)

/-- HANDOVER: SFI_LSCTL with HANDOVER (R603). -/
def execHandover (w : Word) (s : State) : Host.Outcome State Fault Refusal :=
  .next (s.mgmtWrite .SFI_LSCTL [] (w ||| 1))

/-- HANDOVER_CANCEL: SFI_LSCTL with CANCEL (R603). -/
def execHandoverCancel (w : Word) (s : State) : Host.Outcome State Fault Refusal :=
  .next (s.mgmtWrite .SFI_LSCTL [] (w ||| 2))

/-- LICTL_WITHDRAW: BUS_LICTL with WITHDRAW (R586). -/
def execLictlWithdraw (w : Word) (s : State) : Host.Outcome State Fault Refusal :=
  .next (s.mgmtWrite .BUS_LICTL [] (w ||| 1))

/-- QCLR: a write of MGT_QCLR (R490). -/
def execQclr (w : Word) (s : State) : Host.Outcome State Fault Refusal := .next (s.mgmtWrite .MGT_QCLR [] w)

end Sys2Proof.Machine
end

