-- ==== Sys2Proof/Machine/Dispatch.lean ====
section
/-! DEFINITION. The dispatch of every command to its meaning, one arm per row of spec/opcode_table.json. -/

namespace Sys2Proof.Machine

def exec (i : Instr) (s : State) : Host.Outcome State Fault Refusal :=
  match i with
  | .sfiOscWindow cycles => Sys2Proof.Machine.execSfiOscWindow cycles s
  | .tempoGo w => Sys2Proof.Machine.execTempoGo w s
  | .tempoSwitchStart => Sys2Proof.Machine.execTempoSwitchStart s
  | .tempoQuiesceAck isl => Sys2Proof.Machine.execTempoQuiesceAck isl s
  | .tempoPllLocked => Sys2Proof.Machine.execTempoPllLocked s
  | .defresCheckStart => Sys2Proof.Machine.execDefresCheckStart s
  | .defresWaitVfld => Sys2Proof.Machine.execDefresWaitVfld s
  | .defresCheckComplete selfOk readings => Sys2Proof.Machine.execDefresCheckComplete selfOk readings s
  | .lepLimiterAct p => Sys2Proof.Machine.execLepLimiterAct p s
  | .lepLimiterRelease p => Sys2Proof.Machine.execLepLimiterRelease p s
  | .soOvercurrentTrip k => Sys2Proof.Machine.execSoOvercurrentTrip k s
  | .vmainOutOfRange => Sys2Proof.Machine.execVmainOutOfRange s
  | .powerOn resetLow vfldOk => Sys2Proof.Machine.execPowerOn resetLow vfldOk s
  | .vmainPfail => Sys2Proof.Machine.execVmainPfail s
  | .pfailClear => Sys2Proof.Machine.execPfailClear s
  | .vfldOut => Sys2Proof.Machine.execVfldOut s
  | .vfldBack => Sys2Proof.Machine.execVfldBack s
  | .vfldLow => Sys2Proof.Machine.execVfldLow s
  | .vbatLow mv => Sys2Proof.Machine.execVbatLow mv s
  | .vbatAbsentChange absent => Sys2Proof.Machine.execVbatAbsentChange absent s
  | .hibRequest w => Sys2Proof.Machine.execHibRequest w s
  | .hibernateEntered => Sys2Proof.Machine.execHibernateEntered s
  | .wakeSourceFire src level => Sys2Proof.Machine.execWakeSourceFire src level s
  | .batterySample it => Sys2Proof.Machine.execBatterySample it s
  | .batteryAccountTick => Sys2Proof.Machine.execBatteryAccountTick s
  | .measurementStale => Sys2Proof.Machine.execMeasurementStale s
  | .qremStore => Sys2Proof.Machine.execQremStore s
  | .fullChargeDetect => Sys2Proof.Machine.execFullChargeDetect s
  | .mainsSenseChange level => Sys2Proof.Machine.execMainsSenseChange level s
  | .mainsFilterExpire => Sys2Proof.Machine.execMainsFilterExpire s
  | .rescueCarAtRest => Sys2Proof.Machine.execRescueCarAtRest s
  | .rescueEstimateReply it => Sys2Proof.Machine.execRescueEstimateReply it s
  | .rescuePlannerEvent it => Sys2Proof.Machine.execRescuePlannerEvent it s
  | .rescueEnergyCheck => Sys2Proof.Machine.execRescueEnergyCheck s
  | .rescueVcutTimeout => Sys2Proof.Machine.execRescueVcutTimeout s
  | .rescueDoorAnswer it => Sys2Proof.Machine.execRescueDoorAnswer it s
  | .resetPin => Sys2Proof.Machine.execResetPin s
  | .resetRelease => Sys2Proof.Machine.execResetRelease s
  | .resetHoldAlert => Sys2Proof.Machine.execResetHoldAlert s
  | .mgmtRequest w => Sys2Proof.Machine.execMgmtRequest w s
  | .railsGood => Sys2Proof.Machine.execRailsGood s
  | .railTimeout rail => Sys2Proof.Machine.execRailTimeout rail s
  | .arrayCheckDone => Sys2Proof.Machine.execArrayCheckDone s
  | .imageLoad => Sys2Proof.Machine.execImageLoad s
  | .islandStart => Sys2Proof.Machine.execIslandStart s
  | .selftestComplete fails => Sys2Proof.Machine.execSelftestComplete fails s
  | .leaseAcquisitionTimeout => Sys2Proof.Machine.execLeaseAcquisitionTimeout s
  | .startReady => Sys2Proof.Machine.execStartReady s
  | .startTimeout => Sys2Proof.Machine.execStartTimeout s
  | .slotErase slotB => Sys2Proof.Machine.execSlotErase slotB s
  | .eraseComplete => Sys2Proof.Machine.execEraseComplete s
  | .slotOpen slotB => Sys2Proof.Machine.execSlotOpen slotB s
  | .slotClose => Sys2Proof.Machine.execSlotClose s
  | .slotVerify slotB => Sys2Proof.Machine.execSlotVerify slotB s
  | .verifyComplete => Sys2Proof.Machine.execVerifyComplete s
  | .slotCopyAb => Sys2Proof.Machine.execSlotCopyAb s
  | .copyAbComplete => Sys2Proof.Machine.execCopyAbComplete s
  | .slotAccept => Sys2Proof.Machine.execSlotAccept s
  | .acceptVerified => Sys2Proof.Machine.execAcceptVerified s
  | .structureReloadStart => Sys2Proof.Machine.execStructureReloadStart s
  | .slotCancel => Sys2Proof.Machine.execSlotCancel s
  | .ovlClear => Sys2Proof.Machine.execOvlClear s
  | .ovlClearComplete => Sys2Proof.Machine.execOvlClearComplete s
  | .slotdataWrite w => Sys2Proof.Machine.execSlotdataWrite w s
  | .slotdataRead => Sys2Proof.Machine.execSlotdataRead s
  | .pwdataWrite w => Sys2Proof.Machine.execPwdataWrite w s
  | .passwordUnlock len => Sys2Proof.Machine.execPasswordUnlock len s
  | .passwordSet len => Sys2Proof.Machine.execPasswordSet len s
  | .passwordDerivationDone => Sys2Proof.Machine.execPasswordDerivationDone s
  | .unlockWaitExpire => Sys2Proof.Machine.execUnlockWaitExpire s
  | .passwordLock => Sys2Proof.Machine.execPasswordLock s
  | .clearBuffer => Sys2Proof.Machine.execClearBuffer s
  | .sessionIdleTimeout => Sys2Proof.Machine.execSessionIdleTimeout s
  | .keydataWrite w => Sys2Proof.Machine.execKeydataWrite w s
  | .keyProvision w => Sys2Proof.Machine.execKeyProvision w s
  | .rwlWrite addr w => Sys2Proof.Machine.execRwlWrite addr w s
  | .registerWrite p addr w => Sys2Proof.Machine.execRegisterWrite p addr w s
  | .queueProducerWord p first last w => Sys2Proof.Machine.execQueueProducerWord p first last w s
  | .stagePush p bad broken => Sys2Proof.Machine.execStagePush p bad broken s
  | .consumerRead p => Sys2Proof.Machine.execConsumerRead p s
  | .stallReadTimeout p => Sys2Proof.Machine.execStallReadTimeout p s
  | .queueFlush n w ending => Sys2Proof.Machine.execQueueFlush n w ending s
  | .queueClrcnt n w => Sys2Proof.Machine.execQueueClrcnt n w s
  | .hostQdataWrite n w => Sys2Proof.Machine.execHostQdataWrite n w s
  | .hostQdataRead n => Sys2Proof.Machine.execHostQdataRead n s
  | .ltagRead => Sys2Proof.Machine.execLtagRead s
  | .clrltag w => Sys2Proof.Machine.execClrltag w s
  | .clrerr w => Sys2Proof.Machine.execClrerr w s
  | .fusionCycle => Sys2Proof.Machine.execFusionCycle s
  | .ssiRead code err high => Sys2Proof.Machine.execSsiRead code err high s
  | .encoderTransition pad a b => Sys2Proof.Machine.execEncoderTransition pad a b s
  | .encoderItem it => Sys2Proof.Machine.execEncoderItem it s
  | .captureItem it => Sys2Proof.Machine.execCaptureItem it s
  | .vaneChannelEdge pair chB level => Sys2Proof.Machine.execVaneChannelEdge pair chB level s
  | .vaneWindowExpire pair => Sys2Proof.Machine.execVaneWindowExpire pair s
  | .switchChangeItem it => Sys2Proof.Machine.execSwitchChangeItem it s
  | .switchEdgeCount sw => Sys2Proof.Machine.execSwitchEdgeCount sw s
  | .fusionLearn => Sys2Proof.Machine.execFusionLearn s
  | .fusionHome => Sys2Proof.Machine.execFusionHome s
  | .fusionAbort => Sys2Proof.Machine.execFusionAbort s
  | .runPhaseEnd => Sys2Proof.Machine.execRunPhaseEnd s
  | .nlandWrite w => Sys2Proof.Machine.execNlandWrite w s
  | .fposRead => Sys2Proof.Machine.execFposRead s
  | .plannerCycle p => Sys2Proof.Machine.execPlannerCycle p s
  | .movePosition p it => Sys2Proof.Machine.execMovePosition p it s
  | .moveRelative p it => Sys2Proof.Machine.execMoveRelative p it s
  | .moveVelocity p it => Sys2Proof.Machine.execMoveVelocity p it s
  | .moveTable p it => Sys2Proof.Machine.execMoveTable p it s
  | .moveStop p it => Sys2Proof.Machine.execMoveStop p it s
  | .moveAbort p it => Sys2Proof.Machine.execMoveAbort p it s
  | .estimateRequest it => Sys2Proof.Machine.execEstimateRequest it s
  | .revdwellExpire p => Sys2Proof.Machine.execRevdwellExpire p s
  | .arrwaitExpire p => Sys2Proof.Machine.execArrwaitExpire p s
  | .holddlyExpire p => Sys2Proof.Machine.execHolddlyExpire p s
  | .esync p w => Sys2Proof.Machine.execEsync p w s
  | .plannerClrcnt p w => Sys2Proof.Machine.execPlannerClrcnt p w s
  | .stalledClear p w => Sys2Proof.Machine.execStalledClear p w s
  | .speedSample m late => Sys2Proof.Machine.execSpeedSample m late s
  | .loopSample e late => Sys2Proof.Machine.execLoopSample e late s
  | .currentSample m shunts vdc ohm => Sys2Proof.Machine.execCurrentSample m shunts vdc ohm s
  | .bridgeGduv m mv => Sys2Proof.Machine.execBridgeGduv m mv s
  | .bridgeExtf m low => Sys2Proof.Machine.execBridgeExtf m low s
  | .alignDone m => Sys2Proof.Machine.execAlignDone m s
  | .enableWrite m w => Sys2Proof.Machine.execEnableWrite m w s
  | .calStart m w => Sys2Proof.Machine.execCalStart m w s
  | .calComplete m sums => Sys2Proof.Machine.execCalComplete m sums s
  | .mcClrflt m w => Sys2Proof.Machine.execMcClrflt m w s
  | .reseti e w => Sys2Proof.Machine.execReseti e w s
  | .loopClrcnt e w => Sys2Proof.Machine.execLoopClrcnt e w s
  | .holdWrite e w => Sys2Proof.Machine.execHoldWrite e w s
  | .fbset m w => Sys2Proof.Machine.execFbset m w s
  | .batteryItemTick m => Sys2Proof.Machine.execBatteryItemTick m s
  | .doorOpen m it => Sys2Proof.Machine.execDoorOpen m it s
  | .doorClose m it => Sys2Proof.Machine.execDoorClose m it s
  | .doorNudge m it => Sys2Proof.Machine.execDoorNudge m it s
  | .doorStop m it => Sys2Proof.Machine.execDoorStop m it s
  | .doorHome m it => Sys2Proof.Machine.execDoorHome m it s
  | .doorLearn m it => Sys2Proof.Machine.execDoorLearn m it s
  | .doorInputItem m it => Sys2Proof.Machine.execDoorInputItem m it s
  | .doorInputStale m => Sys2Proof.Machine.execDoorInputStale m s
  | .doorPlannerEvent m it => Sys2Proof.Machine.execDoorPlannerEvent m it s
  | .sessionItem m it => Sys2Proof.Machine.execSessionItem m it s
  | .closelimEdge m => Sys2Proof.Machine.execCloselimEdge m s
  | .closewaitExpire m => Sys2Proof.Machine.execClosewaitExpire m s
  | .homeTimeout m => Sys2Proof.Machine.execHomeTimeout m s
  | .sessgraceExpire m => Sys2Proof.Machine.execSessgraceExpire m s
  | .recompute => Sys2Proof.Machine.execRecompute s
  | .recomputeOverrun => Sys2Proof.Machine.execRecomputeOverrun s
  | .hallUp it => Sys2Proof.Machine.execHallUp it s
  | .hallDn it => Sys2Proof.Machine.execHallDn it s
  | .carCall it => Sys2Proof.Machine.execCarCall it s
  | .sessionOpen it => Sys2Proof.Machine.execSessionOpen it s
  | .callCancel it => Sys2Proof.Machine.execCallCancel it s
  | .sessionExtend it => Sys2Proof.Machine.execSessionExtend it s
  | .sessionClose it => Sys2Proof.Machine.execSessionClose it s
  | .assignContext it => Sys2Proof.Machine.execAssignContext it s
  | .withdrawContext it => Sys2Proof.Machine.execWithdrawContext it s
  | .assignLive it => Sys2Proof.Machine.execAssignLive it s
  | .assignEnd it => Sys2Proof.Machine.execAssignEnd it s
  | .carStatusItem c it => Sys2Proof.Machine.execCarStatusItem c it s
  | .depart it => Sys2Proof.Machine.execDepart it s
  | .doorrem it => Sys2Proof.Machine.execDoorrem it s
  | .grantPeriod => Sys2Proof.Machine.execGrantPeriod s
  | .sessionExpiry x => Sys2Proof.Machine.execSessionExpiry x s
  | .pendmaxExpire x => Sys2Proof.Machine.execPendmaxExpire x s
  | .sessionGrant it => Sys2Proof.Machine.execSessionGrant it s
  | .sessionItemTick => Sys2Proof.Machine.execSessionItemTick s
  | .schTakeover => Sys2Proof.Machine.execSchTakeover s
  | .resyncEnd => Sys2Proof.Machine.execResyncEnd s
  | .figureStart f w => Sys2Proof.Machine.execFigureStart f w s
  | .figureAbort f w => Sys2Proof.Machine.execFigureAbort f w s
  | .figClrflt f w => Sys2Proof.Machine.execFigClrflt f w s
  | .fsigWrite f w => Sys2Proof.Machine.execFsigWrite f w s
  | .stepNop f bad => Sys2Proof.Machine.execStepNop f bad s
  | .stepLdi f bad => Sys2Proof.Machine.execStepLdi f bad s
  | .stepLdw f bad => Sys2Proof.Machine.execStepLdw f bad s
  | .stepMov f bad => Sys2Proof.Machine.execStepMov f bad s
  | .stepAdd f bad => Sys2Proof.Machine.execStepAdd f bad s
  | .stepSub f bad => Sys2Proof.Machine.execStepSub f bad s
  | .stepAddi f bad => Sys2Proof.Machine.execStepAddi f bad s
  | .stepAnd f bad => Sys2Proof.Machine.execStepAnd f bad s
  | .stepOr f bad => Sys2Proof.Machine.execStepOr f bad s
  | .stepXor f bad => Sys2Proof.Machine.execStepXor f bad s
  | .stepShl f bad => Sys2Proof.Machine.execStepShl f bad s
  | .stepShr f bad => Sys2Proof.Machine.execStepShr f bad s
  | .stepBr f bad => Sys2Proof.Machine.execStepBr f bad s
  | .stepBri f bad => Sys2Proof.Machine.execStepBri f bad s
  | .stepJmp f bad => Sys2Proof.Machine.execStepJmp f bad s
  | .stepCall f bad => Sys2Proof.Machine.execStepCall f bad s
  | .stepRet f bad => Sys2Proof.Machine.execStepRet f bad s
  | .stepEnd f bad => Sys2Proof.Machine.execStepEnd f bad s
  | .stepRdreg f bad pads => Sys2Proof.Machine.execStepRdreg f bad pads s
  | .stepWrreg f bad => Sys2Proof.Machine.execStepWrreg f bad s
  | .regRequest f isl => Sys2Proof.Machine.execRegRequest f isl s
  | .regReply f isl => Sys2Proof.Machine.execRegReply f isl s
  | .regTimeout f => Sys2Proof.Machine.execRegTimeout f s
  | .stepPost f bad => Sys2Proof.Machine.execStepPost f bad s
  | .stepRecv f bad => Sys2Proof.Machine.execStepRecv f bad s
  | .stepFlush f bad => Sys2Proof.Machine.execStepFlush f bad s
  | .stepMove f bad => Sys2Proof.Machine.execStepMove f bad s
  | .stepWait f bad pads => Sys2Proof.Machine.execStepWait f bad pads s
  | .waitComplete f pads => Sys2Proof.Machine.execWaitComplete f pads s
  | .stepTset f bad => Sys2Proof.Machine.execStepTset f bad s
  | .figureTimerExpire f t pads => Sys2Proof.Machine.execFigureTimerExpire f t pads s
  | .stepTrd f bad => Sys2Proof.Machine.execStepTrd f bad s
  | .stepRaise f bad => Sys2Proof.Machine.execStepRaise f bad s
  | .stepSig f bad => Sys2Proof.Machine.execStepSig f bad s
  | .stepOutl f bad => Sys2Proof.Machine.execStepOutl f bad s
  | .stepInl f bad pads => Sys2Proof.Machine.execStepInl f bad pads s
  | .stepDevt f bad => Sys2Proof.Machine.execStepDevt f bad s
  | .latticePass upsets => Sys2Proof.Machine.execLatticePass upsets s
  | .latticeTimerExpire t => Sys2Proof.Machine.execLatticeTimerExpire t s
  | .siLevelChange t closed => Sys2Proof.Machine.execSiLevelChange t closed s
  | .siDiscrepancy n => Sys2Proof.Machine.execSiDiscrepancy n s
  | .lepTestPulse p before last => Sys2Proof.Machine.execLepTestPulse p before last s
  | .chainTapChange c level mv => Sys2Proof.Machine.execChainTapChange c level mv s
  | .pviItem it => Sys2Proof.Machine.execPviItem it s
  | .nviItem it => Sys2Proof.Machine.execNviItem it s
  | .viStale nvi => Sys2Proof.Machine.execViStale nvi s
  | .soReadbackFault k hs ls late => Sys2Proof.Machine.execSoReadbackFault k hs ls late s
  | .darkTestPulse k opened reclosed cut => Sys2Proof.Machine.execDarkTestPulse k opened reclosed cut s
  | .latticeReload w => Sys2Proof.Machine.execLatticeReload w s
  | .latticeReloadStart => Sys2Proof.Machine.execLatticeReloadStart s
  | .latReload => Sys2Proof.Machine.execLatReload s
  | .latticeClrcnt w => Sys2Proof.Machine.execLatticeClrcnt w s
  | .faultSourceRise src => Sys2Proof.Machine.execFaultSourceRise src s
  | .blockError b cause => Sys2Proof.Machine.execBlockError b cause s
  | .blockTest b pass us => Sys2Proof.Machine.execBlockTest b pass us s
  | .ackPressRelease ms => Sys2Proof.Machine.execAckPressRelease ms s
  | .ackStuck => Sys2Proof.Machine.execAckStuck s
  | .degtimeExpire => Sys2Proof.Machine.execDegtimeExpire s
  | .degopenExpire => Sys2Proof.Machine.execDegopenExpire s
  | .qclr w => Sys2Proof.Machine.execQclr w s
  | .swreq w => Sys2Proof.Machine.execSwreq w s
  | .switchTestStart => Sys2Proof.Machine.execSwitchTestStart s
  | .swtestEnd fails => Sys2Proof.Machine.execSwtestEnd fails s
  | .canFrameReceived n f esi sof => Sys2Proof.Machine.execCanFrameReceived n f esi sof s
  | .canTxPortItem n q => Sys2Proof.Machine.execCanTxPortItem n q s
  | .txgo n w => Sys2Proof.Machine.execTxgo n w s
  | .canTxAttemptEnd n out => Sys2Proof.Machine.execCanTxAttemptEnd n out s
  | .txcancel n phase w => Sys2Proof.Machine.execTxcancel n phase w s
  | .rbWord0Read n b => Sys2Proof.Machine.execRbWord0Read n b s
  | .rbLastWordRead n b => Sys2Proof.Machine.execRbLastWordRead n b s
  | .rbUnlock n b w => Sys2Proof.Machine.execRbUnlock n b w s
  | .canError n e => Sys2Proof.Machine.execCanError n e s
  | .canBusoffEnd n => Sys2Proof.Machine.execCanBusoffEnd n s
  | .canBusJoin n => Sys2Proof.Machine.execCanBusJoin n s
  | .timeRefSend => Sys2Proof.Machine.execTimeRefSend s
  | .timeRefReceived => Sys2Proof.Machine.execTimeRefReceived s
  | .timeHoldoverTimeout => Sys2Proof.Machine.execTimeHoldoverTimeout s
  | .timeUnsyncTimeout => Sys2Proof.Machine.execTimeUnsyncTimeout s
  | .tsntloRead phase => Sys2Proof.Machine.execTsntloRead phase s
  | .pxFrameBuild c => Sys2Proof.Machine.execPxFrameBuild c s
  | .pxDataSend c => Sys2Proof.Machine.execPxDataSend c s
  | .pxHeartbeat c => Sys2Proof.Machine.execPxHeartbeat c s
  | .pxFrameReceive parity => Sys2Proof.Machine.execPxFrameReceive parity s
  | .pxWatchdogExpire c => Sys2Proof.Machine.execPxWatchdogExpire c s
  | .nviPostTick => Sys2Proof.Machine.execNviPostTick s
  | .pxInternal c kind => Sys2Proof.Machine.execPxInternal c kind s
  | .pxClrcnt w => Sys2Proof.Machine.execPxClrcnt w s
  | .leaseItem it => Sys2Proof.Machine.execLeaseItem it s
  | .leaseExpiry => Sys2Proof.Machine.execLeaseExpiry s
  | .unitReportPost => Sys2Proof.Machine.execUnitReportPost s
  | .unitReport u it => Sys2Proof.Machine.execUnitReport u it s
  | .reportLoss u => Sys2Proof.Machine.execReportLoss u s
  | .lictlWithdraw w => Sys2Proof.Machine.execLictlWithdraw w s
  | .leaseBuild => Sys2Proof.Machine.execLeaseBuild s
  | .refGrant => Sys2Proof.Machine.execRefGrant s
  | .epochBegin => Sys2Proof.Machine.execEpochBegin s
  | .copyFrame => Sys2Proof.Machine.execCopyFrame s
  | .epochAck => Sys2Proof.Machine.execEpochAck s
  | .epochCommit => Sys2Proof.Machine.execEpochCommit s
  | .linkFault => Sys2Proof.Machine.execLinkFault s
  | .linkBack => Sys2Proof.Machine.execLinkBack s
  | .handover w => Sys2Proof.Machine.execHandover w s
  | .handoverCancel w => Sys2Proof.Machine.execHandoverCancel w s
  | .recordTapWrite isl code data => Sys2Proof.Machine.execRecordTapWrite isl code data s
  | .recordCommit => Sys2Proof.Machine.execRecordCommit s
  | .persistLaneWrite => Sys2Proof.Machine.execPersistLaneWrite s
  | .dtmarkStore => Sys2Proof.Machine.execDtmarkStore s
  | .recFreeze w => Sys2Proof.Machine.execRecFreeze w s
  | .recUnfreeze w => Sys2Proof.Machine.execRecUnfreeze w s
  | .clrdrop w => Sys2Proof.Machine.execClrdrop w s
  | .aonRtcset w => Sys2Proof.Machine.execAonRtcset w s
  | .rtcsecRead => Sys2Proof.Machine.execRtcsecRead s
  | .wearloRead => Sys2Proof.Machine.execWearloRead s
  | .tamperSample before pulse => Sys2Proof.Machine.execTamperSample before pulse s
  | .portWrite p bytes k => Sys2Proof.Machine.execPortWrite p bytes k s
  | .portRead p bytes k => Sys2Proof.Machine.execPortRead p bytes k s
  | .portWriteFixed p bytes k => Sys2Proof.Machine.execPortWriteFixed p bytes k s
  | .portReadFixed p bytes k => Sys2Proof.Machine.execPortReadFixed p bytes k s
  | .chipSelectRise p begun => Sys2Proof.Machine.execChipSelectRise p begun s
  | .uartGapTimeout => Sys2Proof.Machine.execUartGapTimeout s
  | .gtagclr w => Sys2Proof.Machine.execGtagclr w s
  | .fieldOvertemp => Sys2Proof.Machine.execFieldOvertemp s
  | .fieldTempOk => Sys2Proof.Machine.execFieldTempOk s
  | .supplyMeasurement vmain vfld vbat fieldT ctrlT => Sys2Proof.Machine.execSupplyMeasurement vmain vfld vbat fieldT ctrlT s
  | .aonStatToggle => Sys2Proof.Machine.execAonStatToggle s
  | .canArbitrationWon n => Sys2Proof.Machine.execCanArbitrationWon n s
  | .uartByteOverlap => Sys2Proof.Machine.execUartByteOverlap s

end Sys2Proof.Machine
end

