-- ==== Sys2Proof/Machine/Pads.lean ====
section
/-! DEFINITION. What the device drives its output pads to (R46, R47, R49, R51, R148, R283, R434, R514, R646). -/

namespace Sys2Proof.Machine

/-- The PINMUX record of a pad. -/
def State.pin (s : State) (pad : Nat) : Option PinRec :=
  match s.image with
  | some im => im.pins.find? fun p => p.pad == pad
  | none => none

/-- A push-pull output at a level. -/
def driveTo (lvl : Bool) : PadDrive := if lvl then .high else .low

/-- Output line `n` on its pad, push-pull or open-drain; high impedance until the first OUTL on the line (R148, R434). -/
def State.lineOut (s : State) (openDrain : Bool) (n : Nat) : PadDrive :=
  if !(s.outputsLive .seq && s.seqr.outDriven.getLsbD n) then .highZ
  else if openDrain && s.seqr.outLvl.getLsbD n then .highZ
  else driveTo (s.seqr.outLvl.getLsbD n)

/-- A pad of the pulse train: PD_STEP as it rests between pulses, PD_DIR, and PD_ENA, which follows PDENA (R283); at its resistor
state while MPI is quarantined (R488). -/
def State.trainOut (s : State) (pad : Nat) : PadDrive :=
  match s.carPlanner with
  | none => .highZ
  | some p =>
    if !s.outputsLive .mpi || s.quarantined 4 then .highZ
    else match pad with
      | 77 => driveTo (s.planners.get Planner.reset p).pdUp
      | 78 => driveTo (s.MPI_PLCTL_PDENA p == 1)
      | _ => .low

/-- A pad of controller `n` by its mode: TXD `k` 0, which is recessive between frames, and STB `k` 2 (R514); at their resistor states while BUS is quarantined (R488). -/
def State.canOut (s : State) (n k : Nat) : PadDrive :=
  let mode := (s.cans.get Can.reset n).mode
  if !(s.outputsLive .bus && (s.tile 7 n).isSome) || s.quarantined 10 then .highZ
  else match k with
    | 0 => .high
    | 2 => if mode == 1 || mode == 2 then .low else .highZ
    | _ => .highZ

/-- AON_STAT, open-drain: pulled low in the alert of a long RESET_N hold (R52, R121). -/
def State.aonStatOut (s : State) : PadDrive := if s.aon.statLow then .low else .highZ

/-- TAMPOUT: at high impedance until an image that uses the pad has enabled the vault-watch; from then on AON pulses it high
(R52, R627). Its level between the pulses is low (log entry 62). -/
def State.tampOut (s : State) : PadDrive :=
  if !(s.aon.vaultWatch && s.aon.tampPads.getLsbD 5) || s.quarantined 23 then .highZ else driveTo (s.aon.pulseUs != 0)

/-- What a logic output pad is driven to: AON_STAT and TAMPOUT by AON (R52), any other nothing where the image does not use it
(R49) or R51 holds it. -/
def State.padOut (s : State) (pad : Nat) : PadDrive :=
  if pad = 24 then s.aonStatOut
  else if pad = 34 then s.tampOut
  else match s.pin pad with
  | none => .highZ
  | some r =>
    if r.func == 0x11 || r.func == 0x12 then s.lineOut (r.func == 0x12) (r.arg.toNat % 64)
    else if r.func == 0x15 then s.trainOut pad
    else if pad == 25 then (if s.supplies.vmainOk && s.supplies.vfldOk then s.start.readyPad else .highZ)
    else if pad == 41 then (if s.outputsLive .qf && !s.quarantined 0 && s.hirqLow then .low else .highZ)
    else if 47 ≤ pad && pad ≤ 55 then s.canOut ((pad - 47) / 3) ((pad - 47) % 3)
    else .highZ

/-- What one gate of a bridge carries: low, or its leg's duty in units of 2^-15, inverted on the low side. -/
inductive GateDrive where
  | low
  | duty (d : Int)
  deriving DecidableEq, Repr

/-- The gates of leg `j` (R47). -/
def Gates.leg (g : Gates) (j : Nat) : GateDrive :=
  match g, j with
  | .low, _ => .low
  | .duty a _ _ _, 0 => .duty a
  | .duty _ b _ _, 1 => .duty b
  | .duty _ _ c _, 2 => .duty c
  | .duty _ _ _ d, _ => .duty d

/-- What gate pad `o` (0 to 15, of which 0 and 1 of every 4 are GHx and GLx) of motor engine `i` carries, none while it is at high
impedance: without a PINMUX record of the pad (R49, R147), without the field die's supply, after its temperature shutdown and in
quarantine (R47, R51, R79, R488, R678). -/
def State.gateOut (s : State) (i o : Nat) : Option GateDrive :=
  if s.outputsLive (motorIsland i) && s.fieldUp && !s.quarantined (12 + i) && s.motorMode i != 0 &&
      s.padUsed (355 + 26 * i + o) && decide (o < 16) && decide (o % 4 < 2) then
    some ((s.motors.get Motor.reset i).gates.leg (o / 4))
  else none

/-- No pad that R51 governs is driven. -/
abbrev State.padsReleased (s : State) : Prop :=
  (∀ pad ≤ 458, pad ≠ 24 → pad ≠ 34 → s.padOut pad = .highZ) ∧ (∀ i < 4, ∀ o < 16, s.gateOut i o = none) ∧
    ∀ p < 32, s.leSources p = true → s.power.state = .hibernate ∧ s.power.watchPorts.getLsbD p = true

end Sys2Proof.Machine
end

