-- ==== Sys2Proof/Safety.lean ====
section
/-! DEFINITION. What the statements call a command that completes, a port where nothing waits, the commands of each island, and
the invariant of the persistent array. -/

namespace Sys2Proof

/-- The commands of SEQ: the figure engines, their steps, and the stage pushes. -/
def Instr.ofSeq : Instr → Bool
  | .stagePush .. | .stallReadTimeout .. | .figureStart .. | .figureAbort .. | .figClrflt .. | .fsigWrite ..
  | .stepNop .. | .stepLdi .. | .stepLdw .. | .stepMov .. | .stepAdd .. | .stepSub .. | .stepAddi .. | .stepAnd ..
  | .stepOr .. | .stepXor .. | .stepShl .. | .stepShr .. | .stepBr .. | .stepBri .. | .stepJmp .. | .stepCall ..
  | .stepRet .. | .stepEnd .. | .stepRdreg .. | .stepWrreg .. | .regReply .. | .regTimeout .. | .stepPost ..
  | .stepRecv .. | .stepFlush .. | .stepMove .. | .stepWait .. | .waitComplete .. | .stepTset ..
  | .figureTimerExpire .. | .stepTrd .. | .stepRaise .. | .stepSig .. | .stepOutl .. | .stepInl .. | .stepDevt .. => true
  | _ => false

/-- The commands of MPI: position fusion and the planners. -/
def Instr.ofMpi : Instr → Bool
  | .fusionCycle | .ssiRead .. | .encoderTransition .. | .encoderItem .. | .captureItem .. | .vaneChannelEdge ..
  | .vaneWindowExpire .. | .switchChangeItem .. | .switchEdgeCount .. | .runPhaseEnd | .plannerCycle .. | .movePosition .. | .moveRelative .. | .moveVelocity ..
  | .moveTable .. | .moveStop .. | .moveAbort .. | .estimateRequest .. | .revdwellExpire .. | .arrwaitExpire ..
  | .holddlyExpire .. | .esync .. | .plannerClrcnt .. | .stalledClear .. | .degtimeExpire | .degopenExpire => true
  | _ => false

/-- The commands of MC: loop engines, motor engines and door functions. -/
def Instr.ofMc : Instr → Bool
  | .speedSample .. | .loopSample .. | .currentSample .. | .bridgeGduv .. | .bridgeExtf .. | .alignDone ..
  | .enableWrite .. | .calStart .. | .calComplete .. | .mcClrflt .. | .reseti .. | .loopClrcnt ..
  | .fbset .. | .batteryItemTick .. | .doorOpen .. | .doorClose .. | .doorNudge .. | .doorStop .. | .doorHome ..
  | .doorLearn .. | .doorInputItem .. | .doorInputStale .. | .doorPlannerEvent .. | .sessionItem ..
  | .closelimEdge .. | .closewaitExpire .. | .homeTimeout .. | .sessgraceExpire .. => true
  | _ => false

/-- The commands of SCH: the call scheduler. -/
def Instr.ofSch : Instr → Bool
  | .recompute | .recomputeOverrun | .hallUp .. | .hallDn .. | .carCall .. | .sessionOpen .. | .callCancel ..
  | .sessionExtend .. | .sessionClose .. | .assignContext .. | .withdrawContext .. | .assignLive .. | .assignEnd ..
  | .carStatusItem .. | .depart .. | .doorrem .. | .grantPeriod | .sessionExpiry .. | .pendmaxExpire ..
  | .sessionGrant .. | .sessionItemTick | .resyncEnd => true
  | _ => false

/-- The commands of SFI: the lattice, the safety inputs and outputs, fault reaction and the field die. -/
def Instr.ofSfi : Instr → Bool
  | .sfiOscWindow .. | .soOvercurrentTrip .. | .siLevelChange .. | .siDiscrepancy .. | .lepTestPulse ..
  | .chainTapChange .. | .pviItem .. | .nviItem .. | .viStale .. | .soReadbackFault .. | .darkTestPulse ..
  | .latticeReloadStart | .latReload | .blockError .. | .ackPressRelease .. | .ackStuck | .switchTestStart
  | .swtestEnd .. | .fieldOvertemp | .fieldTempOk => true
  | _ => false

/-- The commands of BUS: CAN, network time, Porlux and the epoch copy. -/
def Instr.ofBus : Instr → Bool
  | .canFrameReceived .. | .canTxPortItem .. | .txgo .. | .canTxAttemptEnd .. | .txcancel .. | .rbWord0Read ..
  | .rbLastWordRead .. | .rbUnlock .. | .canError .. | .canBusoffEnd .. | .canBusJoin .. | .timeRefSend
  | .timeRefReceived | .timeHoldoverTimeout | .timeUnsyncTimeout | .pxFrameBuild .. | .pxDataSend ..
  | .pxHeartbeat .. | .pxFrameReceive .. | .pxWatchdogExpire .. | .nviPostTick | .pxInternal .. | .pxClrcnt ..
  | .copyFrame | .canArbitrationWon .. => true
  | _ => false

/-- The commands of the lease issuer. -/
def Instr.ofIssuer : Instr → Bool
  | .unitReport .. | .reportLoss .. | .leaseBuild | .refGrant => true
  | _ => false

/-- The commands that decide the lease: the item, its expiry and the acknowledgement of a FINAL epoch. -/
def Instr.ofGate : Instr → Bool
  | .leaseItem .. | .leaseExpiry | .epochAck => true
  | _ => false

/-- The commands of the rescue sequence. -/
def Instr.ofRescue : Instr → Bool
  | .mainsFilterExpire | .rescueCarAtRest | .rescueEstimateReply .. | .rescuePlannerEvent .. | .rescueEnergyCheck
  | .rescueVcutTimeout | .batterySample .. | .measurementStale | .mainsSenseChange .. => true
  | _ => false

/-- The commands of the image slots. -/
def Instr.ofLoader : Instr → Bool
  | .slotErase .. | .slotOpen .. | .slotClose | .slotVerify .. | .slotCopyAb | .slotAccept | .slotCancel | .ovlClear
  | .eraseComplete | .ovlClearComplete | .slotdataWrite .. => true
  | _ => false

/-- The commands of the password session. -/
def Instr.ofSession : Instr → Bool
  | .pwdataWrite .. | .passwordUnlock .. | .passwordSet .. | .unlockWaitExpire | .keydataWrite .. => true
  | _ => false

/-- The commands of the recorder, RECORD_COMMIT apart. -/
def Instr.ofHistory : Instr → Bool
  | .recFreeze .. | .recUnfreeze .. | .clrdrop .. | .recordTapWrite .. | .dtmarkStore
  | .wearloRead => true
  | _ => false

/-- The commands of QF: the queues and the host's access to them. -/
def Instr.ofQueues : Instr → Bool
  | .queueProducerWord .. | .consumerRead .. | .queueFlush .. | .queueClrcnt .. | .hostQdataWrite ..
  | .hostQdataRead .. | .ltagRead | .clrltag .. | .clrerr .. => true
  | _ => false

/-- The commands that are one write of an RWL register: the register with its indexes, and the word written (R15, R169). -/
def Instr.rwlTarget : Instr → Option (Machine.Reg × List Nat × Word)
  | .fusionLearn => some (.MPI_FCMD, [], 1)
  | .fusionHome => some (.MPI_FCMD, [], 2)
  | .fusionAbort => some (.MPI_FCMD, [], 3)
  | .nlandWrite w => some (.MPI_NLAND, [], w)
  | .holdWrite e w => some (.LEHOLD, [e.val], w)
  | .latticeReload w => some (.SFI_LATCTL, [], w ||| 1)
  | .latticeClrcnt w => some (.SFI_LATCTL, [], w ||| 2)
  | .swreq w => some (.SFI_TESTCTL, [], w)
  | .handover w => some (.SFI_LSCTL, [], w ||| 1)
  | .handoverCancel w => some (.SFI_LSCTL, [], w ||| 2)
  | .lictlWithdraw w => some (.BUS_LICTL, [], w ||| 1)
  | .qclr w => some (.MGT_QCLR, [], w)
  | _ => none

/-- The figure engine that a command of SEQ acts on; SIG sets flags of another one. -/
def Instr.figureEngine : Instr → Option (Fin 4)
  | .figureStart f .. | .figureAbort f .. | .figClrflt f .. | .fsigWrite f .. | .stepNop f .. | .stepLdi f ..
  | .stepLdw f .. | .stepMov f .. | .stepAdd f .. | .stepSub f .. | .stepAddi f .. | .stepAnd f .. | .stepOr f ..
  | .stepXor f .. | .stepShl f .. | .stepShr f .. | .stepBr f .. | .stepBri f .. | .stepJmp f .. | .stepCall f ..
  | .stepRet f .. | .stepEnd f .. | .stepRdreg f .. | .stepWrreg f .. | .regReply f .. | .regTimeout f
  | .stepPost f .. | .stepRecv f .. | .stepFlush f .. | .stepMove f .. | .stepWait f .. | .waitComplete f ..
  | .stepTset f .. | .figureTimerExpire f .. | .stepTrd f .. | .stepRaise f .. | .stepOutl f .. | .stepInl f ..
  | .stepDevt f .. => some f
  | _ => none

end Sys2Proof

namespace Sys2Proof.Machine

/-- Command `c` completes in state `s`: it answers a next state, and `P` holds of that state. -/
def Completes (c : Instr) (s : State) (P : State → Prop) : Prop := ∃ t, exec c s = .next t ∧ P t

/-- The recorder of `t` is that of `s` but for the taps of the islands in `l`. -/
def State.tapsKept (s t : State) (l : List Nat) : Prop :=
  t.recorder = { s.recorder with taps := t.recorder.taps } ∧
  ∀ j, j ∉ l → t.recorder.taps.get RecTap.reset j = s.recorder.taps.get RecTap.reset j

/-- The stored register words of `t` are those of `s` but for the addresses in `l`. -/
def State.regsKept (s t : State) (l : List Nat) : Prop :=
  ∀ a, a ∉ l → t.regs.get 0 a = s.regs.get 0 a

/-- The management port reaches a register for a write: MGT answers, the address is reached, and the register is there (R12, R29,
R31, R125). -/
abbrev State.mgmtReaches (s : State) (r : Reg) (idx : List Nat) : Prop :=
  s.mgtUp = true ∧ s.accessRefusal .mgmt (r.addr idx) true = .inr (r, idx)

/-- An RWL write of a register is accepted: reached in a session, with no ACCEPT deferred and room in the overlay (R15, R167,
R171). -/
abbrev State.rwlOpen (s : State) (r : Reg) (idx : List Nat) : Prop :=
  s.mgmtReaches r idx ∧ s.session.unlocked = true ∧ s.slotRuns .deferred = none ∧ s.persist.overlay.length < 2048

/-- No whole item waits at any of these consumer ports, in a stage or in the pool (R194, R197). -/
abbrev State.noneWaits (s : State) (ports : List Nat) : Prop := ∀ p ∈ ports, s.fabric.ready p = false

/-- The persistent array as the rules bound it: both slots in canonical form inside 1 MiB (R118), at most 2048 overlay entries
(R171), at most 8192 birth-log lines and the circulating log's 49 152 (R616). -/
structure State.ArrayInv (s : State) : Prop where
  slotA   : Memory.wf s.persist.slotA = true
  slotB   : Memory.wf s.persist.slotB = true
  overlay : s.persist.overlay.length ≤ 2048
  birth   : s.persist.bcount ≤ 8192
  circ    : s.persist.circHeld ≤ 49152 ∧ s.persist.circLine < 49152

/-- The bytes of a request: the opcode of its form, the address with its most significant byte first, LEN, 0 for 256, and the
data words of a write, least significant byte first (R637, R638). -/
def requestBytes (write fixed : Bool) (addr : BitVec 24) (len : Nat) (ws : List Word) : List Byte :=
  (if fixed then (if write then 0x0A else 0x0B) else if write then 0x02 else 0x03) ::
    ((leBytes 3 addr.toNat).reverse ++ BitVec.ofNat 8 len :: ws.flatMap wordBytes)

/-- What a port receives for a request: the request itself over SPI; 0xA5, the request and its CRC-16 over UART (R651). -/
def framed (uart : Bool) (req : List Byte) : List Byte :=
  if uart then 0xA5 :: (req ++ leBytes 2 (crc16 req).toNat) else req

/-- What a port has answered: over SPI each word behind a sync byte, and the trailer at the end (R638); over UART nothing before
the end, and then the trailer, the words and a CRC-16 behind one sync byte (R651). -/
def answer (uart ended : Bool) (status : Byte) (done : Nat) (ws : List Word) : List Byte :=
  let trailer := [status, BitVec.ofNat 8 done]
  if uart then
    (if ended then 0x5A :: (trailer ++ ws.flatMap wordBytes ++ leBytes 2 (crc16 (trailer ++ ws.flatMap wordBytes)).toNat) else [])
  else (ws.flatMap fun w => 0x5A :: wordBytes w) ++ (if ended then 0x5A :: trailer else [])

/-- The four request commands with the same bytes. -/
abbrev requestCommands (p : Port) (bytes : List Byte) (k : Nat) : List Instr :=
  [.portWrite p bytes k, .portRead p bytes k, .portWriteFixed p bytes k, .portReadFixed p bytes k]

/-- A transaction of port `p` whose request stands whole in the bytes received, with `a` of its accesses made, all OK. -/
def Xfer.after (rx : List Byte) (a : Nat) (vs : List Word) (resp : List Byte) : Xfer :=
  { Xfer.reset with active := true, rx := rx, acc := a, done := a, words := vs, response := resp }

/-- The transaction once `n` accesses of `len` are behind it: `done` of them OK, the first other status, the words read, and at
the end its trailer, LASTST and, over UART, the end of the transaction (R638, R639, R651, R656). -/
def State.answered (s : State) (p : Port) (rx : List Byte) (n len : Nat) (status : Byte) (done : Nat) (ws : List Word) : State :=
  let ended := decide (len ≤ n)
  let x := s.ports.setXfer p
    { active := !(ended && s.portUart p), rx := rx, acc := n, ended := ended, status := status, done := done, words := ws,
      response := answer (s.portUart p) ended status done ws }
  { s with ports := if ended then x.setLast p status else x }

end Sys2Proof.Machine
end

