-- ==== Sys2Proof/Certificates/Slice0/Obligations.lean ====
section
/-! DEFINITION. The statements about the device that the provers prove: the effect of every row of the command table by family, what
each family of commands leaves unchanged, the queue of commands, the state after reset, and invariants of every step. A clause cites
the rules it rests on in its docstring; where it rests on a choice of the model, the docstring names the log entry. -/

open Sys2Proof Sys2Proof.Machine

/-- A write of SYS_TEMPO with GO stores TARGET and answers the request: it changes nothing while SWITCHING, is DONE when the
target is the mode in force, REFUSED with REASON 1 for a target of 3 or 2 for one the image does not permit, and DEFERRED
otherwise (R36, R39, R43). Only a refusal writes a record. A PWR held in quarantine answers no request (R488). The model's
choice, not the spec's: every permitted GO passes through DEFERRED and an unchanged mode writes no record (log entry 13), the
bytes of record 0x0111 (log entry 10), and a quarantined PWR answers nothing (log entry 52). -/
def Obligations.TempoRequestIsAnswered : Prop :=
  ∀ (s : State) (w : Word),
    Completes (.tempoGo w) s fun t =>
      getBits (t.reg .SYS_TEMPO) 5 4 = getBits w 5 4 ∧
      (∀ r idx, r.addr idx ≠ Reg.addr .SYS_TEMPO [] → t.reg r idx = s.reg r idx) ∧
      t = { s with regs := t.regs, tempo := t.tempo, recorder := t.recorder } ∧
      (s.tempo.stat = .switching ∨ s.quarantined 3 = true → t.tempo = s.tempo ∧ t.recorder = s.recorder) ∧
      (s.tempo.stat ≠ .switching → s.quarantined 3 = false → getBits w 5 4 = s.tempo.mode.toNat →
        t.tempo = { s.tempo with stat := .done, reason := 0 } ∧ t.recorder = s.recorder) ∧
      (s.tempo.stat ≠ .switching → s.quarantined 3 = false → getBits w 5 4 ≠ s.tempo.mode.toNat → getBits w 5 4 = 3 →
        t.tempo = { s.tempo with stat := .refused, reason := 1 } ∧
        t.recorder = s.recorder.put s.dev 1 0x0111 [3, 1]) ∧
      (s.tempo.stat ≠ .switching → s.quarantined 3 = false → getBits w 5 4 ≠ s.tempo.mode.toNat → getBits w 5 4 ≠ 3 →
        s.permits (getBits w 5 4) = false →
        t.tempo = { s.tempo with stat := .refused, reason := 2 } ∧
        t.recorder = s.recorder.put s.dev 1 0x0111 [BitVec.ofNat 8 (getBits w 5 4), 2]) ∧
      (s.tempo.stat ≠ .switching → s.quarantined 3 = false → getBits w 5 4 ≠ s.tempo.mode.toNat → getBits w 5 4 ≠ 3 →
        s.permits (getBits w 5 4) = true →
        t.tempo.stat = .deferred ∧ t.tempo.pendingTarget.toNat = getBits w 5 4 ∧ t.tempo.mode = s.tempo.mode ∧
        t.tempo.switches = s.tempo.switches ∧ t.tempo.quiesce = s.tempo.quiesce ∧ t.recorder = s.recorder)

/-- The switch: a deferred request starts with QUIESCE once the conditions of R38 hold and shows the one that fails until
then, each powered scaled island answers QACK once, and when all have answered the PLLs take the target, SWITCHES counts and
TEMPO_CHANGE holds the old and the new mode (R38, R41, R43); the reference items staged for the motor engines before it are
dropped (R228), and a figure whose timer ran out meanwhile completes its WAIT (R439). A 10 ms window of SFI's 48 MHz
oscillator with more than 499 200 or fewer than 460 800 cycles deviates by more than 4 % (R19). The model's choice, not the
spec's: the order of REASON and the step through DEFERRED (log entry 13), OSC_DEV falling with a good window and CAUSE being
the last error (log entry 48), FAULT while reloading (log entry 49), the bytes of record 0x0110 (log entry 10), that the row
is the moment (log entry 5), and the quarantine of SFI (log entry 52). -/
def Obligations.TempoSwitchRuns : Prop :=
  ∀ s : State,
    (s.tempo.stat = .deferred → s.quarantined 3 = false → s.restReason = 0 →
      exec .tempoSwitchStart s =
        .next { s with tempo := { s.tempo with stat := .switching, reason := 0, quiesce := true, qack := [] } }) ∧
    (s.tempo.stat = .deferred → s.quarantined 3 = false → s.restReason ≠ 0 →
      exec .tempoSwitchStart s = .next { s with tempo := { s.tempo with reason := BitVec.ofNat 8 s.restReason } }) ∧
    (s.tempo.stat ≠ .deferred ∨ s.quarantined 3 = true → exec .tempoSwitchStart s = .next s) ∧
    (∀ i, s.tempo.quiesce = true → s.power.gate.getLsbD (islandNum i) = true →
      i ∈ [Island.mpi, .mc0, .mc1, .mc2, .mc3, .sch, .seq] → i ∉ s.tempo.qack →
      exec (.tempoQuiesceAck i) s = .next { s with tempo := { s.tempo with qack := s.tempo.qack ++ [i] } }) ∧
    (∀ i, s.tempo.quiesce = false ∨ s.power.gate.getLsbD (islandNum i) = false ∨
      i ∉ [Island.mpi, .mc0, .mc1, .mc2, .mc3, .sch, .seq] ∨ i ∈ s.tempo.qack →
      exec (.tempoQuiesceAck i) s = .next s) ∧
    (s.tempo.stat = .switching → s.allQuiet = true →
      Completes .tempoPllLocked s fun t =>
        t.tempo = { s.tempo with mode := s.tempo.pendingTarget, stat := .done, reason := 0, quiesce := false, qack := [],
                                 switches := satInc s.tempo.switches } ∧
        (s.fabric.stopped = false → ∀ i < 4, t.fabric.stage ((6 + i) * 0x100) = [])) ∧
    (s.tempo.stat = .switching → s.allQuiet = true → s.supplies.pfailHeld = [] →
      s.noneWaits [0x0600, 0x0700, 0x0800, 0x0900] →
      (∀ f < 4, (s.fc.fig f).waiting ≠ .wait ∧ (s.fc.fig f).waiting ≠ .recv) →
      Completes .tempoPllLocked s fun t =>
        t.tempo = { s.tempo with mode := s.tempo.pendingTarget, stat := .done, reason := 0, quiesce := false, qack := [],
                                 switches := satInc s.tempo.switches } ∧
        t.recorder = s.recorder.put s.dev 1 0x0110 [s.tempo.mode.setWidth 8, s.tempo.pendingTarget.setWidth 8] ∧
        t = { s with tempo := t.tempo, recorder := t.recorder, doors := t.doors }) ∧
    (∀ (f : Fin 4) kind arg (tm : BitVec 4) else_, s.tempo.stat = .switching → s.allQuiet = true → s.supplies.pfailHeld = [] →
      s.figTile f.val = true → s.power.gate.getLsbD 11 = true → s.start.rsti = [] → s.quarantined (6 + f.val) = false →
      (s.fc.fig f.val).waiting = .wait → (s.fc.fig f.val).step = some (.wait kind arg tm else_) →
      kind = WaitKind.timer → ((s.fc.fig f.val).timer (arg.toNat % 8)).done s.dev = true →
      Completes .tempoPllLocked s fun t =>
        (t.fc.fig f.val).pc = (s.fc.fig f.val).pc + 1 ∧ (t.fc.fig f.val).waiting = .none) ∧
    (s.tempo.stat ≠ .switching ∨ s.allQuiet = false → exec .tempoPllLocked s = .next s) ∧
    (∀ cycles : Nat, s.latticeRuns = true → 499200 < cycles ∨ cycles < 460800 →
      Completes (.sfiOscWindow cycles) s fun t =>
        t.lattice.oscDev = true ∧ t.lattice.cause = 4 ∧ t.lattice.faultOsc = true ∧
        (s.lattice.stat ≠ .reloading → t.lattice.stat = .fault) ∧
        (s.lattice.stat = .reloading → t.lattice.stat = .reloading ∧ t.lattice.reloadFrom = .fault) ∧
        ∀ k : Fin 6, (t.lattice.outs.get SafetyOut.reset k.val).on = false) ∧
    (∀ cycles : Nat, s.latticeRuns = true → 460800 ≤ cycles → cycles ≤ 499200 →
      exec (.sfiOscWindow cycles) s = .next { s with lattice := { s.lattice with oscDev := false } }) ∧
    (∀ cycles : Nat, s.latticeRuns = false → exec (.sfiOscWindow cycles) s = .next s)

/-- The default-state resistor check starts only with VFLD in range and no temperature shutdown (R56, R678), notes its wait
once, and ends in PROBE_ERROR, PASS or FAIL by the classes of the checked pads (R58, R59); a failed check or probe blocks the
start with BLOCK 2. A failed check shows the count of the failing pads in FAILS and the lowest of them in FIRSTPAD, and writes
a DEFRES_MISMATCH for each of the first 16 and then DEFRES_BLOCK with the count (R60, R61). The model's choice, not the
spec's: the wait is noted once and the order of the end (log entry 18), that the row is the moment (log entry 5), and a row
without its condition does nothing (log entry 68). -/
def Obligations.ResistorCheckDecidesTheStart : Prop :=
  ∀ s : State,
    (s.start.phase = 5 → s.defres.stat = .notRun ∨ s.defres.stat = .waitingVfld → s.supplies.vfldOk = true →
      s.field.shutdown = false →
      exec .defresCheckStart s = .next { s with defres := { s.defres with stat := .running } }) ∧
    (s.start.phase = 5 → s.defres.stat = .notRun ∨ s.defres.stat = .waitingVfld →
      s.supplies.vfldOk = false ∨ s.field.shutdown = true →
      exec .defresCheckStart s = .next { s with defres := { s.defres with stat := .waitingVfld } }) ∧
    (s.start.phase ≠ 5 → exec .defresCheckStart s = .next s) ∧
    (s.defres.stat = .waitingVfld → s.defres.waitNoted = false →
      Completes .defresWaitVfld s fun t =>
        t.defres = { s.defres with waitNoted := true } ∧ t.hist = s.hist.own 0x0233 [] ∧
        t = { s with defres := t.defres, persist := t.persist, recorder := t.recorder, lanes := t.lanes }) ∧
    (s.defres.stat ≠ .waitingVfld ∨ s.defres.waitNoted = true → exec .defresWaitVfld s = .next s) ∧
    (∀ im rs, s.defres.stat = .running → s.image = some im →
      Completes (.defresCheckComplete false rs) s fun t =>
        t.defres = { s.defres with stat := .probeError } ∧ t.start.phase = 0xE ∧ t.start.block = 2 ∧
        t.hist = s.hist.own 0x0232 []) ∧
    (∀ im rs, s.defres.stat = .running → s.image = some im →
      (∀ p ∈ im.checkedPads, (classifyPad (readingOf rs p.pad)).1 = p.declared) →
      Completes (.defresCheckComplete true rs) s fun t =>
        t.defres.stat = .pass ∧ t.defres.fails = 0 ∧ t.defres.firstPad = 0 ∧ t.start.phase = 6 ∧
          t.start.block = s.start.block ∧
        t.persist = s.persist ∧ t.recorder = s.recorder) ∧
    (∀ im rs p ps, s.defres.stat = .running → s.image = some im →
      im.checkedPads.filter (fun p => (classifyPad (readingOf rs p.pad)).1 != p.declared) = p :: ps →
      let cls (p : PinRec) := classifyPad (readingOf rs p.pad)
      let delta (p : PinRec) : Int :=
        absInt ((if (cls p).2 then (readingOf rs p.pad).vh else (readingOf rs p.pad).vl) - (readingOf rs p.pad).voc)
      let data (p : PinRec) : List Byte :=
        leBytes 2 p.pad ++ leBytes 1 (padClassCode p.declared) ++ leBytes 1 (padClassCode (cls p).1) ++
          wordBytes (satWord (delta p)) ++ leBytes 1 (if (cls p).2 then 4 else 5)
      Completes (.defresCheckComplete true rs) s fun t =>
        t.defres.stat = .fail ∧ t.defres.fails = satAdd 0 (p :: ps).length ∧ t.defres.firstPad = BitVec.ofNat 9 p.pad ∧
        t.start.phase = 0xE ∧ t.start.block = 2 ∧ t.image = s.image ∧
        t.hist = (((p :: ps).take 16).foldl (fun h q => h.own 0x0230 (data q)) s.hist).own 0x0231
          (leBytes 2 (p :: ps).length))

/-- An LE port's independent limiter shows in FAULT and in the field die's fault line until it stops acting (R67, R73), an
output over its trip current is faulted with cause 5 and commanded open (R74, R472), and the temperature shutdown of the field
die starts and ends with a record of FIELDT in PWR's tap (R678, R680). The model's choice, not the spec's: a row whose unit is
not up does nothing (log entry 68) and that the row is the moment at which a current or a temperature is found (log entry 5).
-/
def Obligations.FieldDieProtectsItself : Prop :=
  ∀ s : State,
    (∀ p : Fin 32, s.sfiUp = true →
      Completes (.lepLimiterAct p) s fun t =>
        (t.field.port p.val).fault = true ∧ (t.field.port p.val).acting = true ∧ t.field.limiting = true ∧
        (∀ q, q ≠ p.val → t.field.port q = s.field.port q) ∧ t = { s with field := t.field }) ∧
    (∀ p : Fin 32, s.sfiUp = false → exec (.lepLimiterAct p) s = .next s) ∧
    (∀ p : Fin 32,
      Completes (.lepLimiterRelease p) s fun t =>
        (t.field.port p.val).fault = (s.field.port p.val).fault ∧ (t.field.port p.val).acting = false ∧
        (∀ q, q ≠ p.val → t.field.port q = s.field.port q) ∧ t = { s with field := t.field }) ∧
    (∀ k : Fin 6, s.sfiUp = true →
      Completes (.soOvercurrentTrip k) s fun t =>
        t.field.overcurrent.getLsbD k.val = true ∧ (t.lattice.outs.get SafetyOut.reset k.val).sof = true ∧
        (t.lattice.outs.get SafetyOut.reset k.val).on = false ∧
        ((s.lattice.outs.get SafetyOut.reset k.val).sof = false → (t.lattice.outs.get SafetyOut.reset k.val).fcause = 5)) ∧
    (∀ k : Fin 6, s.sfiUp = false → exec (.soOvercurrentTrip k) s = .next s) ∧
    (s.field.shutdown = false →
      Completes .fieldOvertemp s fun t =>
        t.field.shutdown = true ∧ (s.sfiUp = true → ∀ k : Fin 6, (t.lattice.outs.get SafetyOut.reset k.val).on = false) ∧
        t.recorder.taps.get RecTap.reset 1 =
          (s.recorder.put s.dev 1 0x0109 [s.supplies.fieldT]).taps.get RecTap.reset 1) ∧
    (s.field.shutdown = false → s.sfiUp = false →
      exec .fieldOvertemp s = .next { s with
        field := { s.field with shutdown := true }, recorder := s.recorder.put s.dev 1 0x0109 [s.supplies.fieldT] }) ∧
    (s.field.shutdown = true → exec .fieldOvertemp s = .next s) ∧
    (s.field.shutdown = true → Completes .fieldTempOk s fun t =>
      t.field.shutdown = false ∧ t.recorder.taps.get RecTap.reset 1 =
        (s.recorder.put s.dev 1 0x010A [s.supplies.fieldT]).taps.get RecTap.reset 1) ∧
    (s.field.shutdown = true → s.sfiUp = false →
      exec .fieldTempOk s = .next { s with
        field := { s.field with shutdown := false }, recorder := s.recorder.put s.dev 1 0x010A [s.supplies.fieldT] }) ∧
    (s.field.shutdown = false → exec .fieldTempOk s = .next s)

/-- VMAIN and VBAT move the device between its power states: with VMAIN out of range every island but AON loses its power and
AON stands in VAULT-WATCH with its VMAIN_LOSS entry, or in OFF without VBAT (R78, R87, R636); VMAIN back in range begins a
start at step 1 with cause POWER_ON (R116); VBAT_LOW is a record with VMAIN present and an AON log entry in VAULT-WATCH (R93);
the 1 ms measurement stores what it measured (R76, R96). The model's choice, not the spec's: OFF resets AON too, which islands
record and what VMAIN_LOSS closes (log entry 15), and a quarantined AON or PWR takes no part (log entry 52). -/
def Obligations.SupplyEventsMoveThePowerState : Prop :=
  ∀ s : State,
    (s.supplies.vmainOk = true → s.supplies.vbatAbsent = false →
      Completes .vmainOutOfRange s fun t =>
        t.supplies.vmainOk = false ∧ t.power.state = .vaultWatch ∧ t.image = none ∧ t.fabric = Fabric.reset ∧
        t.lattice = Lattice.reset ∧ t.start.phase = 1 ∧ (t.aon.log.getLastD ⟨0, 0, 0, [], 0⟩).code = 0x0001) ∧
    (s.supplies.vmainOk = true → s.supplies.vbatAbsent = true →
      Completes .vmainOutOfRange s fun t =>
        t.supplies.vmainOk = false ∧ t.power.state = .off ∧ t.image = none ∧ t.aon = Aon.reset) ∧
    (s.supplies.vmainOk = false → exec .vmainOutOfRange s = .next s) ∧
    (∀ low ok, s.supplies.vmainOk = false →
      Completes (.powerOn low ok) s fun t =>
        t.supplies.vmainOk = true ∧ t.supplies.vfldOk = ok ∧ t.aon.resetLow = low ∧ t.start.phase = 1 ∧ t.start.entry = 1 ∧
        t.start.cause = .powerOn ∧ t.power = Power.reset ∧ t.dev = 0 ∧ t.image = none) ∧
    (∀ low ok, s.supplies.vmainOk = true → exec (.powerOn low ok) s = .next s) ∧
    (∀ mv : BitVec 16, s.supplies.vmainOk = true → s.start.phase ≠ 1 →
      exec (.vbatLow mv) s = .next { s with
        supplies := { s.supplies with vbatLowSeen := true }, recorder := s.recorder.put s.dev 1 0x0106 [] }) ∧
    (∀ mv : BitVec 16, s.supplies.vmainOk = false → s.power.state = .vaultWatch → s.aon.mgtUp = false →
      exec (.vbatLow mv) s =
        .next { s with aon := s.aon.logEntry 0x0003 [mv.setWidth 8, (mv >>> 8).setWidth 8] }) ∧
    (s.supplies.vmainOk = false → s.supplies.vbatAbsent = false →
      Completes (.vbatAbsentChange true) s fun t =>
        t.supplies.vbatAbsent = true ∧ t.power.state = .off ∧ t.aon = Aon.reset) ∧
    (s.supplies.vmainOk = false → s.supplies.vbatAbsent = true →
      Completes (.vbatAbsentChange false) s fun t =>
        t.supplies.vbatAbsent = false ∧ t.power.state = .vaultWatch) ∧
    (∀ a, s.supplies.vmainOk = true →
      exec (.vbatAbsentChange a) s = .next { s with supplies := { s.supplies with vbatAbsent := a } }) ∧
    (∀ vm vf vb ft ct, s.supplies.vmainOk = true → s.start.phase ≠ 1 → s.quarantined 3 = false →
      exec (.supplyMeasurement vm vf vb ft ct) s = .next { s with supplies := { s.supplies with
        vmainMv := vm, vfldMv := vf, vbatMv := vb, fieldT := ft, ctrlT := ct, vbatOk := decide (2100 ≤ vb.toInt) } })

/-- The PFAIL and VFLD warnings: PFAIL writes VMAIN_PFAIL, ends a freeze and stores QREM and the device time, but waits while
a tempo switch runs (R41, R98, R115, R615); VFLD out of range opens every output at once, releases every pad of R51 and is
recorded once PWR runs, as are its return and its low warning (R79, R92, R96). The model's choice, not the spec's: records
only with PWR out of reset, PFAIL ignored while VMAIN is out (log entry 15), PFAIL held while SWITCHING (log entry 13), and a
quarantined PWR takes no warning (log entry 52). -/
def Obligations.SupplyWarningsAreHandled : Prop :=
  ∀ s : State,
    (s.supplies.vmainOk = true → s.supplies.pfail = false → s.tempo.stat ≠ .switching → s.quarantined 3 = false →
      s.aon.mgtUp = true →
      Completes .vmainPfail s fun t =>
        t.supplies.pfail = true ∧ t.persist.dtMark = s.dev ∧ t.recorder.frozen = false ∧
        t.lanes = (if s.recorder.frozen then [] else s.lanes) ++
          [.rwk (Reg.addr .PWR_RESQREM []) (s.reg .PWR_RESQREM)] ∧
        t = { s with supplies := t.supplies, persist := t.persist, recorder := t.recorder, lanes := t.lanes, regs := t.regs }) ∧
    (s.supplies.vmainOk = true → s.supplies.pfail = false → s.tempo.stat = .switching →
      exec .vmainPfail s =
        .next { s with supplies := { s.supplies with pfail := true, pfailHeld := s.supplies.pfailHeld ++ [true] } }) ∧
    (s.supplies.vmainOk = false ∨ s.supplies.pfail = true → exec .vmainPfail s = .next s) ∧
    (s.supplies.vmainOk = true → s.supplies.pfail = false → s.tempo.stat ≠ .switching → s.quarantined 3 = true →
      exec .vmainPfail s = .next { s with supplies := { s.supplies with pfail := true } }) ∧
    (s.supplies.vmainOk = true → s.supplies.pfail = true → s.tempo.stat ≠ .switching → s.quarantined 3 = true →
      exec .pfailClear s = .next { s with supplies := { s.supplies with pfail := false } }) ∧
    (s.supplies.vmainOk = true → s.supplies.pfail = true → s.tempo.stat ≠ .switching → s.quarantined 3 = false →
      exec .pfailClear s = .next { s with
        supplies := { s.supplies with pfail := false }, recorder := s.recorder.put s.dev 1 0x0102 [] }) ∧
    (s.supplies.vfldOk = true →
      Completes .vfldOut s fun t =>
        t.supplies.vfldOk = false ∧ t.padsReleased ∧ (s.power.state = .hibernate → t.power.state = .starting ∧
          t.start.cause = .wake) ∧
        (s.power.state ≠ .hibernate → s.sfiUp = true → ∀ k : Fin 6, (t.lattice.outs.get SafetyOut.reset k.val).on = false) ∧
        (s.power.state ≠ .hibernate → s.supplies.vmainOk = true → s.start.phase ≠ 1 → t.supplies.vfldLost = true)) ∧
    (s.supplies.vfldOk = false → exec .vfldOut s = .next s) ∧
    (s.supplies.vmainOk = true → s.supplies.vfldOk = false →
      Completes .vfldBack s fun t => t.supplies = { s.supplies with vfldOk := true } ∧
        (s.start.phase ≠ 1 → t.recorder.taps.get RecTap.reset 1 =
          (s.recorder.put s.dev 1 0x0104 []).taps.get RecTap.reset 1)) ∧
    (s.supplies.vmainOk = true → s.supplies.vfldOk = false → s.start.phase ≠ 1 → s.sfiUp = false →
      Completes .vfldBack s fun t => t.recorder = s.recorder.put s.dev 1 0x0104 []) ∧
    (s.supplies.vmainOk = true → s.start.phase ≠ 1 →
      exec .vfldLow s = .next { s with
        supplies := { s.supplies with vfldLowSeen := true }, recorder := s.recorder.put s.dev 1 0x0105 [] })

/-- HIBERNATE: a request in RUN is accepted with its record or refused with the first condition of R88 that fails, the entry
leaves AON, PWR, the SFI input watch and the LE ports in CONTACT_SOURCE powered, with every other output released (R87, R89),
and an enabled wake source, or VFLD going out of range, begins a start at step 4 with cause WAKE (R90, R91, R92, R116); source
5 is a pad that PINMUX makes the wake input, at its active level (R148). The model's choice, not the spec's: requests act in
RUN only, the lowest REASON shows, what the entry closes and source 5 (log entry 14), and a quarantined PWR answers nothing
(log entry 52). -/
def Obligations.HibernateIsEnteredAndLeft : Prop :=
  ∀ s : State,
    (∀ w : Word, s.power.state = .run → s.quarantined 3 = false → s.power.hib ≠ .entering → s.hibReason = 0 →
      exec (.hibRequest w) s = .next { s with
        power := { s.power with hib := .entering, hibReason := 0 }, recorder := s.recorder.put s.dev 1 0x0107 [] }) ∧
    (∀ w : Word, s.power.state = .run → s.quarantined 3 = false → s.power.hib ≠ .entering → s.hibReason ≠ 0 →
      exec (.hibRequest w) s = .next { s with
        power := { s.power with hib := .refused, hibReason := BitVec.ofNat 4 s.hibReason } }) ∧
    (∀ w : Word, s.power.state ≠ .run ∨ s.quarantined 3 = true ∨ s.power.hib = .entering → exec (.hibRequest w) s = .next s) ∧
    (s.power.state = .run → s.power.hib = .entering → s.aon.wakeWaiting = none →
      Completes .hibernateEntered s fun t =>
        t.power.state = .hibernate ∧ t.power.gate = 0x13 ∧ t.power.watchPorts = s.contactSources ∧ t.image = none ∧
        t.session.unlocked = false ∧ t.fabric = Fabric.reset ∧ t.dev = s.dev ∧ t.padsReleased) ∧
    (∀ src, s.power.state = .run → s.power.hib = .entering → s.aon.wakeWaiting = some src →
      Completes .hibernateEntered s fun t =>
        t.power.state = .starting ∧ t.power.wakeNext = src ∧ t.start.phase = 4 ∧ t.start.cause = .wake) ∧
    (s.power.state ≠ .run ∨ s.power.hib ≠ .entering → exec .hibernateEntered s = .next s) ∧
    (∀ (src : Fin 10) lvl, s.power.state = .hibernate →
      src.val = 9 ∨ (src.val ≠ 0 ∧ testBit s.PWR_WAKEEN_EN (src.val - 1) = true ∧ (src.val = 5 → s.wakeInput = some lvl)) →
      Completes (.wakeSourceFire src lvl) s fun t =>
        t.power.state = .starting ∧ t.power.wakeNext = BitVec.ofNat 4 src.val ∧ t.start.phase = 4 ∧ t.start.entry = 4 ∧
        t.start.cause = .wake ∧ t.dev = s.dev) ∧
    (∀ (src : Fin 10) lvl, src.val ≠ 9 → src.val = 0 ∨ testBit s.PWR_WAKEEN_EN (src.val - 1) = false ∨
      (src.val = 5 ∧ s.wakeInput ≠ some lvl) →
      exec (.wakeSourceFire src lvl) s = .next s)

/-- The battery account: a good sample joins the last 100 (R102), each millisecond of the rescue function takes the latest
current from the account (R103), QREM is stored, and a full charge is found by RESVFULL and RESITAPER (R104). The mains-sense
input starts its filter, whose end sets MAINS and writes MAINS_LOST or MAINS_BACK (R101, R115), where PINMUX or a queue
assigns that input. A PWR held in quarantine does none of it (R488). The model's choice, not the spec's: items of another
length are not used, which items count after a change of SRC, and the sense after a reset (log entry 16), a pad the image does
not use brings nothing (log entry 70), and the quarantine of PWR (log entry 52). -/
def Obligations.BatteryAndMainsAreFollowed : Prop :=
  ∀ s : State,
    (∀ vb ib, s.quarantined 3 = false → exec (.batterySample { words := [vb, ib], poison := false }) s =
      .next { s with rescue := { s.rescue with
        vbs := (vb :: s.rescue.vbs).take 100, ibs := (ib :: s.rescue.ibs).take 100, stale := false } }) ∧
    (∀ it : Item, it.poison = true ∨ it.words.length ≠ 2 → exec (.batterySample it) s = .next s) ∧
    (s.quarantined 3 = false → s.rescueExists = true → s.noneWaits [0x0100, 0x0101, 0x0103, 0x0105, 0x0107] →
      s.react.lockout = false →
      Completes .batteryAccountTick s fun t =>
        t.rescue.charge = clampInt 0 (1000 * (s.PWR_RESQCAP : Int)) (s.rescue.charge - (s.rescue.ibs.headD 0).toInt) ∧
        t.reg .PWR_RESQREM = BitVec.ofInt 32 (t.rescue.charge / 1000)) ∧
    (s.rescueExists = false → s.noneWaits [0x0100, 0x0101, 0x0103, 0x0105, 0x0107] → s.react.lockout = false →
      exec .batteryAccountTick s = .next s) ∧
    (s.quarantined 3 = false → exec .measurementStale s = .next { s with rescue := { s.rescue with stale := true } }) ∧
    (s.quarantined 3 = false → s.rescueExists = true →
      Completes .qremStore s fun t =>
        t.lanes = s.lanes ++ [.rwk (Reg.addr .PWR_RESQREM []) (s.reg .PWR_RESQREM)] ∧
          t.reg .PWR_RESQREM = s.reg .PWR_RESQREM) ∧
    (s.rescueExists = false → exec .qremStore s = .next s) ∧
    (s.quarantined 3 = false → s.rescueExists = true → (s.PWR_RESVFULL : Int) ≤ s.rescue.vavg →
      absInt s.rescue.iavg ≤ s.PWR_RESITAPER →
      Completes .fullChargeDetect s fun t =>
        t.rescue.charge = 1000 * (s.PWR_RESQCAP : Int) ∧ t.reg .PWR_RESQREM = BitVec.ofNat 32 s.PWR_RESQCAP) ∧
    (∀ lvl p, s.quarantined 3 = false → s.mainsLevel = some (lvl == p) → s.rescue.senseOn ≠ p →
      Completes (.mainsSenseChange lvl) s fun t =>
        t.rescue.senseOn = p ∧ t.rescue.filterRunning = (p != s.rescue.mainsOn) ∧ t.rescue.mainsOn = s.rescue.mainsOn ∧
        (s.rescue.stat = .idle → p = false → s.rescue.mainsOn = true → s.holdsLease = true → t.rescue.stat = .confirming) ∧
        (s.rescue.stat = .confirming ∨ s.rescue.stat.ended = true → p = true → s.rescue.mainsOn = true →
          t.rescue.stat = .idle)) ∧
    (∀ lvl, s.mainsLevel = none ∨ s.mainsLevel = some (lvl == s.rescue.senseOn) → exec (.mainsSenseChange lvl) s = .next s) ∧
    (s.quarantined 3 = false → s.react.lockout = false → s.rescue.filterRunning = true → s.rescue.senseOn = true →
      Completes .mainsFilterExpire s fun t =>
        t.rescue.mainsOn = true ∧ t.rescue.filterRunning = false ∧ t.recorder = s.recorder.put s.dev 1 0x0125 [] ∧
        (s.rescue.stat = .hold → t.rescue.stat = .idle)) ∧
    (s.quarantined 3 = false → s.react.lockout = false → s.rescue.filterRunning = true → s.rescue.senseOn = false →
      s.carIdle = true →
      Completes .mainsFilterExpire s fun t =>
        t.rescue.mainsOn = false ∧ t.rescue.filterRunning = false ∧
        (s.rescue.stat = .confirming → t.rescue.stat = .estimating) ∧ (s.rescue.stat = .idle → t.rescue.stat = .idle)) ∧
    (s.react.lockout = false → s.rescue.filterRunning = false → exec .mainsFilterExpire s = .next s) ∧
    (s.quarantined 3 = true →
      ∀ c ∈ [Instr.batteryAccountTick, .measurementStale, .qremStore, .fullChargeDetect, .mainsFilterExpire],
      exec c s = .next s)

/-- The rescue sequence of R105 to R114: at rest the two estimates are asked for, the replies decide by R109, COMPLETED of the
rescue move opens the doors and any other end abandons, the rest of the move is checked each 100 ms, a low voltage abandons
it, and the door answer ends the sequence in DONE or HOLD. A lockout ends a running sequence in HOLD with REASON 6 (R107). The
model's choice, not the spec's: records for REASON 1 to 5 only, the check identifiers, replies without their state, and what
ends the sequence (log entry 16), with replies of another length unused (log entry 17). -/
def Obligations.RescueSequenceAdvances : Prop :=
  ∀ s : State,
    (s.quarantined 3 = false → s.react.lockout = true → s.rescue.stat.running = true → s.rescue.mainsOn = false →
      Completes .rescueCarAtRest s fun t => t.rescue.stat = .hold ∧ t.rescue.reason = 6) ∧
    (s.quarantined 3 = false → s.react.lockout = true → s.rescue.stat.running = true → s.rescue.senseOn = false →
      Completes .rescueCarAtRest s fun t => t.rescue.stat = .hold ∧ t.rescue.reason = 6) ∧
    (s.quarantined 3 = false → s.react.lockout = false → s.rescue.stat = .stopping → s.carIdle = true →
      Completes .rescueCarAtRest s fun t =>
        t.rescue = { s.rescue with stat := .estimating, restart := false, up := none, down := none, chosen := none }) ∧
    (s.quarantined 3 = false → s.react.lockout = false → s.rescue.stat = .stopping → s.carIdle = false →
      exec .rescueCarAtRest s = .next s) ∧
    (∀ w0 w1 w2 w3 w4, s.quarantined 3 = false → s.react.lockout = false → s.rescue.stat = .estimating → getBits w0 7 0 = 1 →
      getBits w0 15 8 = 0 →
      s.rescue.down = none →
      exec (.rescueEstimateReply { words := [w0, w1, w2, w3, w4], poison := false }) s =
        .next { s with rescue := { s.rescue with up := some (
          { status := 0, landing := BitVec.ofNat 8 (getBits w0 23 16), tmove := w1, emove := w2, target := w4 : Estimate }) } }) ∧
    (∀ w0 w1 w2 w3 w4 u, s.quarantined 3 = false → s.react.lockout = false → s.rescue.stat = .estimating →
      getBits w0 7 0 = 2 → getBits w0 15 8 = 3 →
      s.rescue.up = some u → u.status = 3 → s.rescue.stale = false → s.rescue.mainsOn = false →
      Completes (.rescueEstimateReply { words := [w0, w1, w2, w3, w4], poison := false }) s fun t =>
        t.rescue.stat = .hold ∧ t.rescue.reason = 4 ∧ t.rescue.count = satInc s.rescue.count) ∧
    (∀ w0 w1 w2 w3 w4 u, s.quarantined 3 = false → s.react.lockout = false → s.rescue.stat = .estimating →
      getBits w0 7 0 = 2 → getBits w0 15 8 = 3 →
      s.rescue.up = some u → u.status ≠ 3 → s.rescue.stale = false → s.inDoorZone = false →
      s.energyNeed u.emove.toInt u.tmove.toNat s.PWR_RESMARGIN ≤ s.energyAvail → (s.PWR_RESVCUT : Int) ≤ s.vminAt →
      Completes (.rescueEstimateReply { words := [w0, w1, w2, w3, w4], poison := false }) s fun t =>
        t.rescue.stat = .moving ∧ t.rescue.dirUp = true ∧ t.rescue.chosen = some u ∧ t.rescue.reason = 0 ∧
        t.rescue.count = satInc s.rescue.count) ∧
    (∀ w0 w1 w2 w3 w4, s.quarantined 3 = false → s.react.lockout = false → s.rescue.stat = .estimating →
      getBits w0 15 8 = 2 → s.rescue.mainsOn = false →
      Completes (.rescueEstimateReply { words := [w0, w1, w2, w3, w4], poison := false }) s fun t =>
        t.rescue.stat = .hold ∧ t.rescue.reason = 7) ∧
    (∀ w0 w2 w3, s.quarantined 3 = false → s.react.lockout = false → s.rescue.stat = .moving →
      getBits w0 15 8 = 2 → getBits w0 19 16 = 1 →
      Completes (.rescuePlannerEvent { words := [w0, 0xFFFFFFFC, w2, w3], poison := false }) s fun t =>
        t.rescue = { s.rescue with stat := .doors }) ∧
    (∀ w0 w2 w3, s.quarantined 3 = false → s.react.lockout = false → s.rescue.stat = .moving →
      getBits w0 15 8 ≠ 2 → getBits w0 15 8 ≠ 1 →
      getBits w0 19 16 = 1 → s.rescue.mainsOn = false →
      Completes (.rescuePlannerEvent { words := [w0, 0xFFFFFFFC, w2, w3], poison := false }) s fun t =>
        t.rescue.stat = .abandoned) ∧
    (∀ e, s.quarantined 3 = false → s.react.lockout = false → s.rescue.stat = .moving → s.rescue.chosen = some e →
      Completes .rescueEnergyCheck s fun t =>
        t = s.post 0x0104 [if s.rescue.dirUp then 1 else 2, e.target, s.reg .PWR_RESVEL, 0]) ∧
    (s.quarantined 3 = false → s.react.lockout = false → s.rescue.stat ≠ .moving → exec .rescueEnergyCheck s = .next s) ∧
    (s.quarantined 3 = false → s.react.lockout = false → s.rescue.stat = .moving → s.rescue.mainsOn = false →
      Completes .rescueVcutTimeout s fun t => t.rescue.stat = .abandoned) ∧
    (s.quarantined 3 = false → s.react.lockout = false → s.rescue.stat ≠ .moving → exec .rescueVcutTimeout s = .next s) ∧
    (∀ w0, s.quarantined 3 = false → s.react.lockout = false → s.rescue.stat = .doors →
      w0.getLsbD 0 = true → s.rescue.mainsOn = false →
      Completes (.rescueDoorAnswer { words := [w0, s.rescue.count.setWidth 32], poison := false }) s fun t =>
        t.rescue.stat = .done ∧ t.rescue.reason = 0 ∧ t.recorder = s.recorder.put s.dev 1 0x0123 []) ∧
    (∀ w0, s.quarantined 3 = false → s.react.lockout = false → s.rescue.stat = .doors →
      w0.getLsbD 0 = false → w0.getLsbD 1 = true →
      s.rescue.mainsOn = false →
      Completes (.rescueDoorAnswer { words := [w0, s.rescue.count.setWidth 32], poison := false }) s fun t =>
        t.rescue.stat = .hold ∧ t.rescue.reason = 8)

/-- RESET_N and MGT_RSTREQ: a low level with VMAIN in range resets every island but AON and holds step 1 with cause RESET_PIN
(R116, R119, R121), its release measures the hold and ends step 1 (R120, R121), a hold of 30 s alerts on AON_STAT, which then
toggles (R121), and MGT_RSTREQ resets with cause MGMT_REQUEST only with its KEY (R140). The model's choice, not the spec's:
the arithmetic of the hold count and what each cause keeps (log entry 19), and how starts and timeouts are counted (log entry
20). -/
def Obligations.ResetInputAndRequestResetTheDevice : Prop :=
  ∀ s : State,
    (s.supplies.vmainOk = true → s.aon.resetLow = false →
      Completes .resetPin s fun t =>
        t.aon.resetLow = true ∧ t.aon.holdUs = 0 ∧ t.aon.starts = satInc s.aon.starts ∧ t.start.phase = 1 ∧
          t.start.entry = 1 ∧
        t.start.cause = .resetPin ∧ t.start.ready = false ∧ t.start.readyPad = .highZ ∧ t.power = Power.reset ∧
          t.image = none ∧
        t.tempo = Tempo.reset ∧ t.fabric = Fabric.reset ∧ t.lattice = Lattice.reset ∧ t.motors = [] ∧ t.cans = [] ∧
          t.dev = 0 ∧
        t.session.unlocked = false) ∧
    (s.supplies.vmainOk = false ∨ s.aon.resetLow = true → exec .resetPin s = .next s) ∧
    (s.supplies.vmainOk = true → s.aon.resetLow = true → s.aon.alert = false → s.power.state = .starting → s.start.phase = 1 →
      s.aon.loopHeld = false →
      Completes .resetRelease s fun t =>
        t.start = { s.start with phase := 2 } ∧ t.aon.resetLow = false ∧ t.aon.statLow = false ∧
        t.aon.lastHold = satWordU ((s.aon.holdUs - 1000) / 1000 : Nat) ∧
        t.aon.heldOwed = (s.aon.heldOwed || decide (30000000 < s.aon.holdUs - 1000)) ∧
        t = { s with start := t.start, aon := t.aon }) ∧
    (s.supplies.vmainOk = true → s.aon.resetLow = false → s.power.state = .starting → s.start.phase = 1 →
      s.aon.loopHeld = true →
      exec .resetRelease s = .next s) ∧
    (s.aon.resetLow = true → s.aon.alert = false →
      exec .resetHoldAlert s = .next { s with aon := { s.aon with alert := true, statLow := true } }) ∧
    (s.aon.resetLow = false ∨ s.aon.alert = true → exec .resetHoldAlert s = .next s) ∧
    (s.aon.alert = true → exec .aonStatToggle s = .next { s with aon := { s.aon with statLow := !s.aon.statLow } }) ∧
    (s.aon.alert = false → exec .aonStatToggle s = .next s) ∧
    (∀ w : Word, s.mgtUp = true → w.getLsbD 0 = true → getBits w 31 16 = 0x5A17 →
      Completes (.mgmtRequest w) s fun t =>
        t.start.phase = 1 ∧ t.start.cause = .mgmtRequest ∧ t.aon.starts = satInc s.aon.starts ∧ t.image = none ∧
        t.power = Power.reset) ∧
    (∀ w : Word, w.getLsbD 0 = false ∨ getBits w 31 16 ≠ 0x5A17 → exec (.mgmtRequest w) s = .next s)

/-- Steps 2 to 6 of R123: rails good or failing once and then held (R83), the array check that seeds device time and takes
AON's log (R141, R615, R628), the image of slot A, of slot B as the fallback, or BLOCK 1 (R127 to R129, R161), and the start
of every island the image uses (R84). The model's choice, not the spec's: device time before its seed and what survives a
reset (log entry 19), and when a start is counted (log entry 20). -/
def Obligations.StartLoadsTheImageAndStartsIslands : Prop :=
  ∀ s : State,
    (s.power.state = .starting → s.start.phase = 2 → s.power.railFails ≠ 2 →
      exec .railsGood s = .next { s with start := { s.start with phase := 3 } }) ∧
    (s.start.phase ≠ 2 ∨ s.power.railFails = 2 → exec .railsGood s = .next s) ∧
    (∀ rail, s.power.state = .starting → s.start.phase = 2 → s.power.railFails = 0 →
      exec (.railTimeout rail) s = .next { s with power := { s.power with railFails := 1 } }) ∧
    (∀ rail : Fin 4, s.power.state = .starting → s.start.phase = 2 → s.power.railFails = 1 → s.aon.mgtUp = false →
      exec (.railTimeout rail) s = .next { s with
        power := { s.power with railFails := 2 }, aon := s.aon.logEntry 0x0002 [BitVec.ofNat 8 rail.val] }) ∧
    (s.power.state = .starting → s.start.phase = 3 →
      Completes .arrayCheckDone s fun t =>
        t.start = { s.start with phase := 4 } ∧ t.dev = max s.recorder.lastDt s.persist.dtMark + 1000 ∧
        t.aon.mgtUp = true ∧ t.aon.log = [] ∧ t.aon.heldOwed = false) ∧
    (s.start.phase ≠ 3 → exec .arrayCheckDone s = .next s) ∧
    (∀ im, s.power.state = .starting → s.start.phase = 4 → checkSlot s.persist s.persist.slotA = .inr im →
      Completes .imageLoad s fun t =>
        t.image = some im ∧ t.start.phase = 5 ∧ t.start.slot = 1 ∧ t.start.fallback = false ∧ t.start.failA = s.start.failA ∧
        t.tempo.mode = im.tempo ∧ t.aon.vaultWatch = im.hasTile 0x0A [0]) ∧
    (∀ im a, s.power.state = .starting → s.start.phase = 4 → checkSlot s.persist s.persist.slotA = .inl a →
      checkSlot s.persist s.persist.slotB = .inr im →
      Completes .imageLoad s fun t =>
        t.image = some im ∧ t.start.phase = 5 ∧ t.start.slot = 2 ∧ t.start.fallback = true ∧
        t.start.failA = BitVec.ofNat 4 a ∧ t.tempo.mode = im.tempo) ∧
    (∀ a b, s.power.state = .starting → s.start.phase = 4 → checkSlot s.persist s.persist.slotA = .inl a →
      checkSlot s.persist s.persist.slotB = .inl b →
      Completes .imageLoad s fun t =>
        t.image = s.image ∧ t.start.phase = 0xE ∧ t.start.block = 1 ∧ t.start.failA = BitVec.ofNat 4 a ∧
        t.start.failB = BitVec.ofNat 4 b ∧ t.aon.timeouts = 0) ∧
    (∀ im, s.power.state = .starting → s.start.phase = 6 → s.image = some im →
      Completes .islandStart s fun t =>
        t.start = { s.start with rsti := [], phase := 7 } ∧ t.power = { s.power with gate := im.gateBits } ∧
        t.image = some im ∧ t.persist = s.persist.clearQuarantine ∧ t.aon = s.aon) ∧
    (s.start.phase ≠ 6 → exec .islandStart s = .next s)

/-- Steps 7 to 9 of R123: the self-tests pass or block the start with BLOCK 3, the islands held in reset again (R130, R131),
not while an ADC calibration runs and not by a test of what is absent or quarantined (R130, R489), the lease wait ends (R132),
a calibration that failed twice blocks the start as well (row 6 of R130), READY (R126, R138), and the supervision, which
restarts the start with cause START_TIMEOUT and holds it at step 1 after the fourth timeout in a row (R133, R134). The model's
choice, not the spec's: one SELFTEST_FAIL for each row and instance, how a failing calibration and the supervision count (log
entry 20), and READY waiting for the resistor check (log entry 18). -/
def Obligations.StartEndsInReadyOrStartsAgain : Prop :=
  ∀ s : State,
    (s.power.state = .starting → s.start.phase = 7 → s.calibrating = false → s.calFails = [] → s.leaseImage = false →
      Completes (.selftestComplete []) s fun t => t.start = { s.start with phase := 9 } ∧ t.image = s.image) ∧
    (∀ f : SelfTestFail, s.power.state = .starting → s.start.phase = 7 → s.calibrating = false → s.calFails = [] →
      f.repeatPass = false →
      s.testApplies f.row.val f.instance_ = true →
      s.quarantined (testBlock f.row.val f.instance_) = false →
      Completes (.selftestComplete [f]) s fun t =>
        t.start.phase = 0xE ∧ t.start.block = 3 ∧ t.start.readyPad = .highZ ∧ t.start.rsti = Start.reset.rsti ∧
        t.lattice = Lattice.reset ∧ t.hist = s.hist.own 0x0220
          [BitVec.ofNat 8 (blockIsland (testBlock f.row.val f.instance_)), BitVec.ofNat 8 f.row.val]) ∧
    (∀ f : SelfTestFail, s.power.state = .starting → s.start.phase = 7 → s.calibrating = false → s.calFails = [] →
      s.leaseImage = false →
      s.testApplies f.row.val f.instance_ = false ∨ s.quarantined (testBlock f.row.val f.instance_) = true →
      Completes (.selftestComplete [f]) s fun t => t.start = { s.start with phase := 9 } ∧ t.image = s.image) ∧
    (∀ i : Fin 4, s.power.state = .starting → s.start.phase = 7 → s.calibrating = false → (s.mc.motor i.val).startCal = 3 →
      (s.tile 3 i.val).isSome = true → s.quarantined (12 + i.val) = false →
      Completes (.selftestComplete []) s fun t => t.start.phase = 0xE ∧ t.start.block = 3) ∧
    (∀ fs, s.start.phase ≠ 7 ∨ s.calibrating = true → exec (.selftestComplete fs) s = .next s) ∧
    (s.power.state = .starting → s.start.phase = 8 →
      exec .leaseAcquisitionTimeout s = .next { s with start := { s.start with phase := 9 } }) ∧
    (s.start.phase ≠ 8 → exec .leaseAcquisitionTimeout s = .next s) ∧
    (s.power.state = .starting → s.start.phase = 9 → s.start.ready = false →
      Completes .startReady s fun t =>
        t.start.ready = true ∧ t.start.phase = 9 ∧ t.start.startUs = satWordU s.start.elapsed ∧ t.power.state = .run ∧
        t.aon.timeouts = 0 ∧ (s.padUsed 25 = true → t.start.readyPad = .high) ∧
        (s.padUsed 25 = false → t.start.readyPad = s.start.readyPad) ∧
        (s.start.cause = .wake → t.power.wakeSrc = s.power.wakeNext)) ∧
    (s.start.phase ≠ 9 ∨ s.start.ready = true → exec .startReady s = .next s) ∧
    (s.supervised = true → s.aon.timeouts < 3 →
      Completes .startTimeout s fun t =>
        t.start.phase = 1 ∧ t.start.cause = .startTimeout ∧ t.aon.timeouts = s.aon.timeouts + 1 ∧ t.aon.loopHeld = false ∧
        t.aon.starts = satInc s.aon.starts ∧ t.image = none) ∧
    (s.supervised = true → 3 ≤ s.aon.timeouts →
      Completes .startTimeout s fun t =>
        t.start.phase = 1 ∧ t.start.cause = .startTimeout ∧ t.aon.loopHeld = true ∧ t.aon.starts = s.aon.starts ∧
          t.image = none) ∧
    (s.supervised = false → exec .startTimeout s = .next s)

/-- A slot command through the management port: with a session and nothing running it begins, or ends at once, as R163 and
R164 say; without a session, or while another runs, it is refused with its REASON. The model's choice, not the spec's: the
order of the checks and what a refusal shows (log entry 21). -/
def Obligations.SlotCommandsAreAcceptedOrRefused : Prop :=
  ∀ s : State, s.mgtUp = true →
    (∀ c op b, (c, op, b) ∈ [(Instr.slotErase false, SlotOp.erase, false), (.slotErase true, .erase, true),
        (.slotCopyAb, .copyAB, false), (.slotAccept, .accept, false), (.ovlClear, .ovlClear, false)] →
      s.session.unlocked = true → s.loader.op = none →
      exec c s = .next { s with loader := { s.loader with stat := .busy, reason := 0, op := some (op, b) } }) ∧
    (∀ b, s.loader.op = none →
      exec (.slotVerify b) s = .next { s with loader := { s.loader with stat := .busy, reason := 0, op := some (.verify, b) } }) ∧
    (∀ b, s.session.unlocked = true → s.loader.op = none → s.loader.window = none →
      exec (.slotOpen b) s = .next { s with
        loader := { s.loader with stat := .done, reason := 0, window := some b, offset := 0, written := 0 } }) ∧
    (∀ b, s.loader.op = none → s.loader.window = some b →
      exec .slotClose s = .next { s with
        persist := s.persist.clogAppend s.dev s.aon.rtcSec 0x04 (bit b) 0 s.loader.written.toNat 0
        loader := { s.loader with stat := .done, reason := 0, window := none, written := 0 } }) ∧
    (s.loader.op = none → s.loader.window = none →
      exec .slotClose s = .next { s with loader := { s.loader with stat := .refused, reason := 3 } }) ∧
    (∀ b, s.loader.op = some (.deferred, b) →
      exec .slotCancel s = .next { s with loader := { s.loader with stat := .done, reason := 0, op := none } }) ∧
    (s.loader.op = none → exec .slotCancel s = .next { s with loader := { s.loader with stat := .refused, reason := 3 } }) ∧
    (∀ c, c ∈ [Instr.slotErase false, .slotErase true, .slotOpen false, .slotOpen true, .slotCopyAb, .ovlClear] →
      s.session.unlocked = false →
      Completes c s fun t =>
        t.loader = { s.loader with stat := .refused, reason := if s.persist.pwSet then 1 else 8 } ∧
        t.hist = s.hist.own 0x0246 [0x04, 0x00, 0x20, 0x00, 0x01]) ∧
    (s.session.unlocked = false → Completes .slotAccept s fun t => t.loader.stat = .refused ∧ t.loader.op = s.loader.op) ∧
    (∀ c x, c ∈ [Instr.slotErase false, .slotErase true, .slotOpen false, .slotOpen true, .slotCopyAb, .ovlClear] →
      s.session.unlocked = true → s.loader.op = some x →
      exec c s = .next { s with loader := { s.loader with stat := .refused, reason := 5 } })

/-- A running slot command ends: ERASE leaves an empty slot, VERIFY and COPY_AB give VRES, COPY_AB copies only a slot A that
passed, ACCEPT starts the reload once nothing defers it and waits otherwise, OVL_CLEAR empties the overlay (R164, R166 to
R168, R171). The model's choice, not the spec's: what each end shows and the instance of COPY_AB in the change log (log entry
21). -/
def Obligations.SlotCommandsEndAsTheRulesSay : Prop :=
  ∀ s : State,
    (∀ b, s.loader.op = some (.erase, b) →
      exec .eraseComplete s = .next { s with
        persist := (s.persist.setSlot b []).clogAppend s.dev s.aon.rtcSec 0x03 (bit b) 0 0 0
        loader := { s.loader with stat := .done, reason := 0, op := none } }) ∧
    (∀ b, s.loader.op = some (.verify, b) →
      exec .verifyComplete s = .next { s with loader := { s.loader with
        stat := .done, reason := 0, op := none, vres := BitVec.ofNat 4 (slotVerdict s.persist (s.persist.slot b)) } }) ∧
    (∀ b, s.loader.op = some (.copyAB, b) → slotVerdict s.persist s.persist.slotA = 0 →
      exec .copyAbComplete s = .next { s with
        persist := ({ s.persist with slotB := s.persist.slotA }).clogAppend s.dev s.aon.rtcSec 0x05 1 0 0 0
        loader := { s.loader with stat := .done, reason := 0, op := none, vres := 0 } }) ∧
    (∀ b v, s.loader.op = some (.copyAB, b) → slotVerdict s.persist s.persist.slotA = v → v % 16 ≠ 0 →
      exec .copyAbComplete s = .next { s with
        loader := { s.loader with stat := .refused, reason := 2, op := none, vres := BitVec.ofNat 4 v } }) ∧
    (∀ b, s.loader.op = some (.accept, b) → slotVerdict s.persist s.persist.slotA = 0 → s.reloadReason = 0 →
      Completes .acceptVerified s fun t =>
        t.start.phase = 4 ∧ t.start.entry = 4 ∧ t.start.cause = .structureReload ∧ t.image = none ∧
          t.power.state = .starting ∧
        t.loader.op = none ∧ t.loader.stat = .done) ∧
    (∀ b, s.loader.op = some (.accept, b) → slotVerdict s.persist s.persist.slotA = 0 → s.reloadReason ≠ 0 →
      exec .acceptVerified s = .next { s with loader := { s.loader with
        stat := .deferred, reason := BitVec.ofNat 4 s.reloadReason, op := some (.deferred, false), vres := 0 } }) ∧
    (∀ b, s.loader.op = some (.deferred, b) → s.reloadReason = 0 →
      Completes .structureReloadStart s fun t =>
        t.start.phase = 4 ∧ t.start.cause = .structureReload ∧ t.image = none ∧ t.power.state = .starting ∧
          t.loader.op = none) ∧
    (∀ b, s.loader.op = some (.deferred, b) → s.reloadReason ≠ 0 →
      exec .structureReloadStart s = .next { s with loader := { s.loader with
        stat := .deferred, reason := BitVec.ofNat 4 s.reloadReason, op := some (.deferred, false) } }) ∧
    (∀ b, s.loader.op = some (.ovlClear, b) →
      exec .ovlClearComplete s = .next { s with
        persist := ({ s.persist with overlay := [] }).clogAppend s.dev s.aon.rtcSec 0x0B 0 0 0 0
        loader := { s.loader with stat := .done, reason := 0, op := none } }) ∧
    (∀ c, c ∈ [Instr.eraseComplete, .verifyComplete, .copyAbComplete, .acceptVerified, .structureReloadStart, .ovlClearComplete] →
      s.loader.op = none → exec c s = .next s)

/-- MGT_SLOTDATA: a write with a window open stores the word at OFFSET and advances it, a read with a window open advances it,
and neither does anything without a window (R165, R183). A slot is held as its bytes by offset, strictly rising, none of them
0xFF: a write keeps that form, the word written is the word read, and every other word reads as before. The model's choice,
not the spec's: OFFSET past the last word and a word without a window (log entry 21), and a row without its condition does
nothing (log entry 65). -/
def Obligations.SlotWordsReadBackAsWritten : Prop :=
  (∀ (s : State) (w : Word) (b : Bool), s.mgtUp = true → s.loader.window = some b → s.loader.offset < 0x40000 →
    exec (.slotdataWrite w) s = .next { s with
      persist := s.persist.setSlot b (setSlotWord (s.persist.slot b) s.loader.offset w)
      loader := { s.loader with offset := s.loader.offset + 1, written := satInc s.loader.written } }) ∧
  (∀ (s : State) (b : Bool), s.mgtUp = true → s.loader.window = some b → s.loader.offset < 0x40000 →
    exec .slotdataRead s = .next { s with loader := { s.loader with offset := s.loader.offset + 1 } }) ∧
  (∀ (s : State) (w : Word), s.loader.window = none → exec (.slotdataWrite w) s = .next s ∧ exec .slotdataRead s = .next s) ∧
  (∀ (slot : List Host.Cell) (o : Nat) (w : Word), Tbl.wf (α := Byte) 0xFF slot = true →
    Tbl.wf (α := Byte) 0xFF (setSlotWord slot o w) = true ∧ slotWord (setSlotWord slot o w) o = w ∧
    ∀ j, j ≠ o → slotWord (setSlotWord slot o w) j = slotWord slot j)

/-- The password commands and the session: the buffer takes 16 words, UNLOCK and SET derive when nothing of R685 refuses them
and clear the buffer either way, a match unlocks and a mismatch counts in FAILS and starts the wait (R174, R175), a SET stores
a new salt and value, and LOCK, the idle timeout and the end of the wait do what R175, R176 and R184 say. The model's choice,
not the spec's: the order of the checks on a slot left open (log entry 21), and a SET that completes while the session stays
locked (log entry 23); and PROVISION with MGT not up does nothing (log entry 65). -/
def Obligations.PasswordCommandsFollowTheirRules : Prop :=
  ∀ s : State,
    (∀ w : Word, s.mgtUp = true → s.session.buffer.length < 16 →
      exec (.pwdataWrite w) s = .next { s with session := { s.session with buffer := s.session.buffer ++ [w] } }) ∧
    (∀ w : Word, 16 ≤ s.session.buffer.length → exec (.pwdataWrite w) s = .next s) ∧
    (∀ len : BitVec 7, s.mgtUp = true → s.session.derivation = none → s.persist.pwSet = true → s.session.wait = 0 →
      16 ≤ len.toNat → len.toNat ≤ 64 → len.toNat ≤ 4 * s.session.buffer.length →
      exec (.passwordUnlock len) s = .next { s with session := { s.session with
        buffer := [], derivation := some (false, (wordsBytes s.session.buffer).take len.toNat) } }) ∧
    (∀ len : BitVec 7, s.mgtUp = true → s.session.derivation = none → s.persist.pwSet = false →
      exec (.passwordUnlock len) s = .next { s with session := { s.session with buffer := [], result := 5 } }) ∧
    (∀ len : BitVec 7, s.mgtUp = true → s.session.derivation = none → s.persist.pwSet = true → s.session.wait ≠ 0 →
      exec (.passwordUnlock len) s = .next { s with session := { s.session with buffer := [], result := 3 } }) ∧
    (∀ len : BitVec 7, s.mgtUp = true → s.session.derivation = none → s.persist.pwSet = true → s.session.wait = 0 →
      len.toNat < 16 ∨ 64 < len.toNat ∨ 4 * s.session.buffer.length < len.toNat →
      exec (.passwordUnlock len) s = .next { s with session := { s.session with buffer := [], result := 4 } }) ∧
    (∀ len : BitVec 7, s.mgtUp = true → s.session.derivation = none → s.persist.pwSet = false ∨ s.session.unlocked = true →
      16 ≤ len.toNat → len.toNat ≤ 64 → len.toNat ≤ 4 * s.session.buffer.length →
      exec (.passwordSet len) s = .next { s with session := { s.session with
        buffer := [], derivation := some (true, (wordsBytes s.session.buffer).take len.toNat) } }) ∧
    (∀ len : BitVec 7, s.mgtUp = true → s.session.derivation = none → s.persist.pwSet = true → s.session.unlocked = false →
      exec (.passwordSet len) s = .next { s with session := { s.session with buffer := [], result := 5 } }) ∧
    (∀ pw, s.session.derivation = some (false, pw) → derivePassword pw s.persist.salt = s.persist.hash →
      Completes .passwordDerivationDone s fun t =>
        t.session.unlocked = true ∧ t.session.result = 1 ∧ t.session.derivation = none ∧ t.persist.fails = 0) ∧
    (∀ pw, s.session.derivation = some (false, pw) → derivePassword pw s.persist.salt ≠ s.persist.hash →
      Completes .passwordDerivationDone s fun t =>
        t.session = { s.session with derivation := none, result := 2, wait := unlockWait (satInc s.persist.fails).toNat } ∧
        t.persist.fails = satInc s.persist.fails) ∧
    (∀ pw, s.session.derivation = some (true, pw) →
      Completes .passwordDerivationDone s fun t =>
        t.persist.pwSet = true ∧ t.persist.salt.length = 16 ∧ t.persist.hash = derivePassword pw t.persist.salt ∧
          t.session.result = 1 ∧
        (s.persist.pwSet = false → t.session.unlocked = true ∧ t.persist.commissioned = true)) ∧
    (s.session.derivation = none → exec .passwordDerivationDone s = .next s) ∧
    (exec .unlockWaitExpire s = .next { s with session := { s.session with wait := 0 } }) ∧
    (s.mgtUp = true → s.session.unlocked = true →
      Completes .passwordLock s fun t =>
        t.session = { s.session with unlocked := false, buffer := [] } ∧ t.loader.window = none ∧ t.recorder.frozen = false) ∧
    (s.mgtUp = true → s.session.unlocked = false →
      exec .passwordLock s = .next { s with session := { s.session with buffer := [] } }) ∧
    (s.mgtUp = true → exec .clearBuffer s = .next { s with session := { s.session with buffer := [] } }) ∧
    (s.session.unlocked = true →
      Completes .sessionIdleTimeout s fun t =>
        t.session = { s.session with unlocked := false } ∧ t.loader.window = none ∧ t.recorder.frozen = false) ∧
    (s.session.unlocked = false → exec .sessionIdleTimeout s = .next s) ∧
    (∀ w : Word, s.mgtUp = false → exec (.keyProvision w) s = .next s)

/-- The device key: MGT_KEYDATA keeps its last eight words, and PROVISION stores them once, in an unlocked session, with PROV
0 and eight words written, together with REQTAG; one in a locked session is reported LOCKED and one with too few words or with
PROV 1 has no effect; the key words are cleared after every PROVISION and at every reset, and PROV stays 1 (R177). -/
def Obligations.DeviceKeyIsProvisionedOnce : Prop :=
  ∀ s : State,
    (∀ w : Word, s.mgtUp = true →
      exec (.keydataWrite w) s = .next { s with session := { s.session with
        keyWords := (s.session.keyWords ++ [w]).drop (s.session.keyWords.length + 1 - 8), keyCount := s.session.keyCount + 1 } }) ∧
    (∀ w : Word, s.mgtUp = true → s.session.unlocked = true → s.persist.prov = false → 8 ≤ s.session.keyCount →
      Completes (.keyProvision w) s fun t =>
        t.persist.prov = true ∧ t.persist.key = wordsBytes s.session.keyWords ∧ t.persist.reqTag = w.getLsbD 8 ∧
        t.persist.clogNext = s.persist.clogNext + 1 ∧ t.session = { s.session with keyWords := [], keyCount := 0 } ∧
        t = { s with persist := t.persist, session := t.session }) ∧
    (∀ w : Word, s.mgtUp = true → s.session.unlocked = true → s.persist.prov = true ∨ s.session.keyCount < 8 →
      exec (.keyProvision w) s = .next { s with session := { s.session with keyWords := [], keyCount := 0 } }) ∧
    (∀ w : Word, s.mgtUp = true → s.session.unlocked = false →
      exec (.keyProvision w) s = .next { s with session := { s.session with keyWords := [], keyCount := 0 } }) ∧
    (∀ w : Word, s.mgmtReaches .MGT_KEYCMD [] → s.session.unlocked = false →
      s.accessWrite .mgmt (Reg.addr .MGT_KEYCMD []) (w ||| 1) =
        (.locked, { s with session := { s.session with keyWords := [], keyCount := 0 } })) ∧
    (∀ cause, (s.restart cause).session.keyWords = [] ∧ (s.restart cause).session.keyCount = 0) ∧
    (∀ (c : Instr) (t : State), exec c s = .next t → s.persist.prov = true → t.persist.prov = true)

/-- The recorder: an island's record stands in its tap with the device time and the island's number in its code or is counted
as dropped when four wait (R17, R613), MGT serves the persistence lanes first (R25), takes the head of R614 and commits it
with the next SEQ, a DTIME that does not fall, the wall time and its MARK in the line of the circulating log that is due
(R609, R616), or holds it while frozen (R621), once MGT has set device time (R615); FREEZE, UNFREEZE and CLRDROP need a
session (R621, R623, R633). The model's choice, not the spec's: in what order taps and lanes are served and what a record
commits ahead of itself (log entry 61), and a row without its condition does nothing (log entry 65). -/
def Obligations.RecorderKeepsTheHistory : Prop :=
  ∀ s : State,
    (∀ i code data, (s.recorder.taps.get RecTap.reset (islandNum i)).recs.length < 4 →
      Completes (.recordTapWrite i code data) s fun t =>
        t.recorder.taps.get RecTap.reset (islandNum i) =
          { s.recorder.taps.get RecTap.reset (islandNum i) with
            recs := (s.recorder.taps.get RecTap.reset (islandNum i)).recs ++
              [{ dtime := s.dev, code := BitVec.ofNat 16 (islandNum i * 256 + code.toNat % 256), data := data, wall := none }] } ∧
        (∀ j, j ≠ islandNum i → t.recorder.taps.get RecTap.reset j = s.recorder.taps.get RecTap.reset j) ∧
        t = { s with recorder := { s.recorder with taps := t.recorder.taps } }) ∧
    (∀ i code data, 4 ≤ (s.recorder.taps.get RecTap.reset (islandNum i)).recs.length →
      Completes (.recordTapWrite i code data) s fun t =>
        t.recorder.taps.get RecTap.reset (islandNum i) =
          { s.recorder.taps.get RecTap.reset (islandNum i) with
            dropped := satInc (s.recorder.taps.get RecTap.reset (islandNum i)).dropped }) ∧
    (∀ i r, nextHead s.recorder.taps = some (i, r) → s.recorder.frozen = false → r.code ≠ 0x0260 → r.wall = none →
      s.lanes = [] → s.aon.mgtUp = true →
      Completes .recordCommit s fun t =>
        t.persist.nextSeq = s.persist.nextSeq + 1 ∧ t.persist.circLine = (s.persist.circLine + 1) % 49152 ∧
        t.persist.circ.get [] s.persist.circLine =
          recordLine (recordBody s.persist.nextSeq (max r.dtime s.recorder.lastDt) s.aon.rtcSec s.aon.rtcFrac r) ∧
        (∀ j, j ≠ s.persist.circLine → t.persist.circ.get [] j = s.persist.circ.get [] j) ∧
        t.recorder.lastDt = max r.dtime s.recorder.lastDt ∧
        t.recorder.taps.get RecTap.reset i = RecTap.takeHead i s.dev (s.recorder.taps.get RecTap.reset i) ∧
        t = { s with persist := t.persist, recorder := t.recorder }) ∧
    (∀ i r, nextHead s.recorder.taps = some (i, r) → s.recorder.frozen = true → r.code ≠ 0x0260 →
      s.recorder.stage.length < 256 → s.lanes = [] → s.aon.mgtUp = true →
      Completes .recordCommit s fun t =>
        t.recorder.stage = s.recorder.stage ++ [(r.code.toNat / 256, r)] ∧ t.persist = s.persist) ∧
    (s.aon.mgtUp = true → exec .recordCommit s = exec .recordCommit s.flushLanes) ∧
    (s.aon.mgtUp = true → nextHead s.recorder.taps = none → exec .recordCommit s = .next s.flushLanes) ∧
    (s.aon.mgtUp = false → exec .recordCommit s = .next s) ∧
    (∀ w : Word, s.mgtUp = true → s.session.unlocked = true → s.recorder.frozen = false → w.getLsbD 1 = false →
      w.getLsbD 2 = false →
      Completes (.recFreeze w) s fun t =>
        t.recorder.frozen = true ∧ t.recorder.frozenAt = s.dev ∧ t.persist = (s.hist.own 0x0261 []).persist) ∧
    (∀ w : Word, s.mgtUp = true → s.session.unlocked = true → s.recorder.frozen = true → w.getLsbD 0 = false →
      w.getLsbD 2 = false →
      Completes (.recUnfreeze w) s fun t => t.recorder.frozen = false ∧ t.recorder.stage = [] ∧ t.hist = s.hist.endFreeze) ∧
    (∀ w : Word, s.mgtUp = true → s.session.unlocked = true → w.getLsbD 0 = false → w.getLsbD 1 = false →
      exec (.clrdrop w) s = .next { s with recorder := { s.recorder with stageDrop := 0, tapDrop := 0 } }) ∧
    (∀ w : Word, s.session.unlocked = false →
      exec (.recFreeze w) s = .next s ∧ exec (.recUnfreeze w) s = .next s ∧ exec (.clrdrop w) s = .next s)

/-- The persistent array: a value on a lane is stored, an equal value without a write and any other with one count of wear
(R25, R629), DTMARK is stored (R615), and reads latch the clock's fraction and the wear counter (R634, R635). AON_RTCSET sets
the clock in a session and is refused as LOCKED without one (R625). The tamper watch drives its pulse of 61 µs and takes a
second sample of a new state as its change and writes a TAMPER entry (R627). The model's choice, not the spec's: further
changes counted into the next TAMPER entry and the pulse (log entry 62), the refusals of AON_RTCSET (log entry 24), and a row
without its condition does nothing (log entry 65). -/
def Obligations.PersistentStateAndClockAreKept : Prop :=
  ∀ s : State,
    (∀ a w rest, s.lanes = .rwk a w :: rest → (s.persist.cell a).value = w →
      exec .persistLaneWrite s = .next { s with lanes := rest }) ∧
    (∀ a w rest, s.lanes = .rwk a w :: rest → (s.persist.cell a).value ≠ w → (s.persist.cell a).wear < 10000000000 →
      Completes .persistLaneWrite s fun t =>
        t.persist.cell a = { value := w, wear := (s.persist.cell a).wear + 1 } ∧
        (∀ b, b ≠ a → t.persist.cell b = s.persist.cell b) ∧ t.lanes = rest ∧ t.recorder = s.recorder ∧
        t = { s with lanes := t.lanes, persist := { s.persist with rwk := t.persist.rwk } }) ∧
    (∀ a w rest, s.lanes = .rwk a w :: rest → (s.persist.cell a).value ≠ w → (s.persist.cell a).wear = 10000000000 →
      Completes .persistLaneWrite s fun t =>
        (t.persist.cell a).worn = true ∧
        t.hist = ({ s.hist with persist := s.persist.store a w, lanes := rest } : Hist).own 0x0264 (leBytes 4 a)) ∧
    (∀ o src rest, s.lanes = .held o src :: rest →
      exec .persistLaneWrite s = .next { s with lanes := rest, persist := { s.persist with held := o, heldBy := src } }) ∧
    (s.lanes = [] → exec .persistLaneWrite s = .next s) ∧
    (s.aon.mgtUp = true → exec .dtmarkStore s = .next { s with persist := { s.persist with dtMark := s.dev } }) ∧
    (s.aon.mgtUp = false → exec .dtmarkStore s = .next s) ∧
    (s.mgtUp = true → exec .rtcsecRead s = .next { s with aon := { s.aon with fracLatch := s.aon.rtcFrac } }) ∧
    (s.mgtUp = true →
      exec .wearloRead s = .next { s with recorder := { s.recorder with wearHi := wearHiWord s.wearCell } }) ∧
    (s.mgtUp = false → exec .rtcsecRead s = .next s ∧ exec .wearloRead s = .next s) ∧
    (∀ w : Word, s.mgtUp = true → s.session.unlocked = true →
      Completes (.aonRtcset w) s fun t =>
        t.aon = { s.aon with rtcSec := w, rtcFrac := 0, rtcSub := 0, rtcInvalid := false } ∧
        t.persist.clogNext = s.persist.clogNext + 1) ∧
    (∀ w : Word, s.mgtUp = true → s.session.unlocked = false →
      Completes (.aonRtcset w) s fun t => t.aon = s.aon ∧ t.hist = s.hist.own 0x0246 [0x08, 0x00, 0x02, 0x00, 0x01]) ∧
    (∀ before pulse, s.aon.vaultWatch = false ∨ s.AON_TAMPCFG_MODE = 0 ∨ s.aon.tampPads = 0 ∨ s.quarantined 23 = true →
      exec (.tamperSample before pulse) s = .next s) ∧
    (∀ before pulse : BitVec 5, s.aon.vaultWatch = true → s.quarantined 23 = false → s.aon.tampPads.getLsbD 0 = true →
      s.AON_TAMPCFG_MODE = 1 → pulse.getLsbD 0 = true →
      s.aon.tampers.get Tamper.reset 0 = { alarm := false, pend := true, entries := [], excess := 0 } →
      Completes (.tamperSample before pulse) s fun t =>
        t.aon.tampers.get Tamper.reset 0 = { alarm := true, pend := false, entries := [s.aon.rtcSec.toNat], excess := 0 } ∧
        t.aon.pulseUs = 61 ∧
        (s.aon.mgtUp = true → t.recorder = s.recorder.put s.dev 0 0x0020 [0, 1, 0, 0])) ∧
    (∀ before pulse : BitVec 5, s.aon.vaultWatch = true → s.quarantined 23 = false → s.aon.tampPads.getLsbD 0 = true →
      s.AON_TAMPCFG_MODE = 1 → pulse.getLsbD 0 = true →
      (s.aon.tampers.get Tamper.reset 0).alarm = false → (s.aon.tampers.get Tamper.reset 0).pend = false →
      Completes (.tamperSample before pulse) s fun t =>
        t.aon.tampers.get Tamper.reset 0 = { s.aon.tampers.get Tamper.reset 0 with pend := true } ∧ t.aon.pulseUs = 61 ∧
        t.recorder = s.recorder)

/-- An access that R682 refuses does nothing, whatever its port: a misaligned or unmapped address, a register the port does
not reach, a sub-block the image does not instantiate (R12, R29, R31). The first refusal in that order is the answer. -/
def Obligations.RefusedAccessDoesNothing : Prop :=
  ∀ (s : State) (p : Port) (a : Nat) (w : Word),
    (a % 4 ≠ 0 → s.accessWrite p a w = (.misaligned, s) ∧ s.accessRead p a = (.misaligned, 0, s)) ∧
    (a % 4 = 0 → locate a = none → s.accessWrite p a w = (.unmapped, s) ∧ s.accessRead p a = (.unmapped, 0, s)) ∧
    (∀ r idx, a % 4 = 0 → locate a = some (r, idx) → s.reaches p r idx a true = false →
      s.accessWrite p a w = (.notExposed, s)) ∧
    (∀ r idx, a % 4 = 0 → locate a = some (r, idx) → s.reaches p r idx a false = false →
      s.accessRead p a = (.notExposed, 0, s)) ∧
    (∀ r idx, a % 4 = 0 → locate a = some (r, idx) → s.reaches p r idx a true = true → s.there a = false →
      s.accessWrite p a w = (.absent, s)) ∧
    (∀ r idx, a % 4 = 0 → locate a = some (r, idx) → s.reaches p r idx a false = true → s.there a = false →
      s.accessRead p a = (.absent, 0, s)) ∧
    (∀ addr : BitVec 24, addr.toNat = a → (s.accessWrite p a w).1 ∈ [Status.misaligned, .unmapped, .notExposed, .absent] →
      exec (.registerWrite p addr w) s = .next s)

/-- A write that is performed: an RW register of MGT takes its fields inside their ranges through the management port (R14),
the host's write of SYS_TEMPO stores TARGET, and an RWL register takes effect through the management port only in a session,
with its change-log record and its overlay entry, and is refused as LOCKED, with RWL_REFUSED, without one (R15, R16, R169,
R171). So is each command that is one such write. The model's choice, not the spec's: the order of LOCKED, BUSY and
OVERLAY_FULL and the value the overlay holds (log entry 24), fields that limit each other (log entry 25), and which addresses
answer (log entry 65). -/
def Obligations.PerformedWriteTakesEffect : Prop :=
  ∀ (s : State) (addr : BitVec 24) (w : Word),
    (∀ r idx, s.mgtUp = true → (r = .MGT_RECSEL ∨ r = .MGT_WEARSEL ∨ r = .MGT_DRCSEL) →
      s.accessRefusal .mgmt addr.toNat true = .inr (r, idx) →
      Completes (.registerWrite .mgmt addr w) s fun t =>
        t.reg r idx = s.storedWord [.rw] r idx w ∧ (∀ q i, q.addr i ≠ r.addr idx → t.reg q i = s.reg q i) ∧
        t = { s with regs := t.regs, recorder := { s.recorder with selected := s.recorder.selected || r == .MGT_RECSEL } }) ∧
    (∀ idx, s.mgtUp = true → s.accessRefusal .host addr.toNat true = .inr (.SYS_TEMPO, idx) → w.getLsbD 8 = false →
      Completes (.registerWrite .host addr w) s fun t =>
        getBits (t.reg .SYS_TEMPO) 5 4 = getBits w 5 4 ∧ t.tempo = s.tempo) ∧
    (∀ r idx, s.mgtUp = true → s.accessRefusal .mgmt addr.toNat true = .inr (r, idx) → r.has .rwl = true →
      isRwl addr.toNat = true →
      s.session.unlocked = false →
      Completes (.rwlWrite addr w) s fun t =>
        t.regs = s.regs ∧ t.hist = s.hist.own 0x0246 (leBytes 4 (r.addr idx) ++ [1]) ∧
        t = { s with persist := t.persist, recorder := t.recorder, lanes := t.lanes }) ∧
    (∀ r idx, s.mgtUp = true → s.accessRefusal .mgmt addr.toNat true = .inr (r, idx) →
      (r = .MPI_DZHALF ∨ r = .SFI_SICFG ∨ r = .BUS_RBID ∨ r = .BUS_TSCFG ∨ r = .SFI_CTCFG) → isRwl addr.toNat = true →
      s.session.unlocked = true → s.slotRuns .deferred = none → s.persist.overlayFull (r.addr idx) = false →
        s.inert r idx = false →
      Completes (.rwlWrite addr w) s fun t =>
        t.reg r idx = s.storedWord [.rwl] r idx w ∧ (∀ q i, q.addr i ≠ r.addr idx → t.reg q i = s.reg q i) ∧
        (r.addr idx, w) ∈ t.persist.overlay ∧ t.persist.clogNext = s.persist.clogNext + 1 ∧
        t = { s with regs := t.regs, persist := t.persist }) ∧
    (∀ c r idx v, c.rwlTarget = some (r, idx, v) →
      (s.mgmtReaches r idx → s.session.unlocked = false →
        Completes c s fun t =>
          t.hist = s.hist.own 0x0246 (leBytes 4 (r.addr idx) ++ [1]) ∧
            t = { s with persist := t.persist, recorder := t.recorder, lanes := t.lanes }) ∧
      (s.rwlOpen r idx → Completes c s fun t =>
        t.persist.clogNext = s.persist.clogNext + 1 ∧ t.session = s.session ∧
        (r = .MPI_NLAND ∨ r = .LEHOLD → (r.addr idx, v) ∈ t.persist.overlay) ∧
        (r ≠ .MPI_NLAND → r ≠ .LEHOLD → t.persist.overlay = s.persist.overlay)) ∧
      (s.mgtUp = false → exec c s = .next s)) ∧
    (s.mgtUp = false → exec (.rwlWrite addr w) s = .next s ∧ ∀ p, exec (.registerWrite p addr w) s = .next s)

/-- A request of any LEN performs its accesses in order, at rising addresses or all at one (R637), some in one piece and the
rest in later ones (R643), and answers the first status that is not OK with the count of the accesses that ended OK; after a
failed access none is performed, and the words of a read are zero from there (R638, R639), in the bytes of R638 over SPI and
of R651 with its CRC-16 over UART. The first byte decides the form, an unknown opcode ends with FRAME and no access (R640),
and so does a UART request whose CRC fails, which counts in ERRORS, as an abandoned one does (R652). The rise of the chip
select keeps the status the trailer carried or would have carried, and completes an access that had begun (R645), and a GO of
QF_GTAGCLR frees its tag (R648). The model's choice, not the spec's: what a row carries and how accesses fall into pieces (log
entry 63), and the status, errors and abandoned transactions (log entry 64). -/
def Obligations.PortTransactionsPerformTheirAccesses : Prop :=
  ∀ (s : State) (p : Port) (bytes : List Byte) (k : Nat),
    (∀ c fixed addr ws a resp (at_ : Nat → State) rx, c ∈ requestCommands p bytes k → s.mgtUp = true →
      s.power.hib ≠ .entering → 1 ≤ ws.length → ws.length ≤ 256 → a + k ≤ ws.length →
      rx = framed (s.portUart p) (requestBytes true fixed addr ws.length ws) →
      s.ports.heard p bytes = Xfer.after rx a [] resp → at_ a = s →
      (∀ i, a ≤ i → i < a + k →
        (at_ i).accessWrite p (accessAddr fixed addr i) (ws.getD i 0) = (.ok, at_ (i + 1)) ∧ (at_ (i + 1)).mgtUp = true ∧
          (at_ (i + 1)).portUart p = s.portUart p) →
      exec c s = .next ((at_ (a + k)).answered p rx (a + k) ws.length 0 (a + k) [])) ∧
    (∀ c fixed addr ws a m st u resp (at_ : Nat → State) rx, c ∈ requestCommands p bytes k → s.mgtUp = true →
      s.power.hib ≠ .entering → 1 ≤ ws.length → ws.length ≤ 256 → a + k ≤ ws.length → a ≤ m → m < a + k →
      rx = framed (s.portUart p) (requestBytes true fixed addr ws.length ws) →
      s.ports.heard p bytes = Xfer.after rx a [] resp → at_ a = s →
      (∀ i, a ≤ i → i < m →
        (at_ i).accessWrite p (accessAddr fixed addr i) (ws.getD i 0) = (.ok, at_ (i + 1)) ∧ (at_ (i + 1)).mgtUp = true) →
      (at_ m).accessWrite p (accessAddr fixed addr m) (ws.getD m 0) = (st, u) → st ≠ .ok → u.mgtUp = true →
      u.portUart p = s.portUart p →
      exec c s = .next (u.answered p rx (a + k) ws.length (BitVec.ofNat 8 (statusCode st)) m [])) ∧
    (∀ c fixed addr len a vs resp (v : Nat → Word) (at_ : Nat → State) rx, c ∈ requestCommands p bytes k → s.mgtUp = true →
      s.power.hib ≠ .entering → 1 ≤ len → len ≤ 256 → a + k ≤ len →
      rx = framed (s.portUart p) (requestBytes false fixed addr len []) →
      s.ports.heard p bytes = Xfer.after rx a vs resp → at_ a = s →
      (∀ i, a ≤ i → i < a + k →
        (at_ i).accessRead p (accessAddr fixed addr i) = (.ok, v i, at_ (i + 1)) ∧ (at_ (i + 1)).mgtUp = true ∧
          (at_ (i + 1)).portUart p = s.portUart p) →
      exec c s = .next ((at_ (a + k)).answered p rx (a + k) len 0 (a + k) (vs ++ (List.range k).map fun i => v (a + i)))) ∧
    (∀ c fixed addr len a m st u vs resp (v : Nat → Word) (at_ : Nat → State) rx, c ∈ requestCommands p bytes k →
      s.mgtUp = true → s.power.hib ≠ .entering → 1 ≤ len → len ≤ 256 → a + k ≤ len → a ≤ m → m < a + k →
      rx = framed (s.portUart p) (requestBytes false fixed addr len []) →
      s.ports.heard p bytes = Xfer.after rx a vs resp → at_ a = s →
      (∀ i, a ≤ i → i < m →
        (at_ i).accessRead p (accessAddr fixed addr i) = (.ok, v i, at_ (i + 1)) ∧ (at_ (i + 1)).mgtUp = true) →
      (at_ m).accessRead p (accessAddr fixed addr m) = (st, 0, u) → st ≠ .ok → u.mgtUp = true →
      u.portUart p = s.portUart p →
      exec c s = .next (u.answered p rx (a + k) len (BitVec.ofNat 8 (statusCode st)) m
        (vs ++ ((List.range (m - a)).map fun i => v (a + i)) ++ List.replicate (a + k - m) 0))) ∧
    (∀ c op rest, c ∈ requestCommands p bytes k → s.mgtUp = true → s.power.hib ≠ .entering → s.portUart p = false →
      s.ports.heard p bytes = Xfer.after (op :: rest) 0 [] [] → op ∉ [(0x02 : Byte), 0x03, 0x0A, 0x0B] →
      exec c s = .next { s with ports :=
        (s.ports.setXfer p { Xfer.reset with
          active := true, rx := op :: rest, ended := true, status := 9, response := [0x5A, 9, 0] }).setLast p 9 }) ∧
    (∀ c op rest, c ∈ requestCommands p bytes k → s.mgtUp = true → s.power.hib ≠ .entering → s.portUart p = false →
      s.ports.heard p bytes = Xfer.after (op :: rest) 0 [] [] → op ∈ [(0x02 : Byte), 0x03, 0x0A, 0x0B] → rest.length < 4 →
      exec c s = .next { s with ports := s.ports.setXfer p (Xfer.after (op :: rest) 0 [] []) }) ∧
    (∀ c wr fixed addr ws (crc : BitVec 16), c ∈ requestCommands .mgmt bytes k → s.mgtUp = true → s.power.hib ≠ .entering →
      s.uartMode = true → 1 ≤ ws.length → ws.length ≤ 256 →
        crc ≠ crc16 (requestBytes wr fixed addr ws.length (if wr then ws else [])) →
      s.ports.heard .mgmt bytes =
        Xfer.after (0xA5 :: (requestBytes wr fixed addr ws.length (if wr then ws else []) ++ leBytes 2 crc.toNat)) 0 [] [] →
      Completes c s fun t =>
        t.ports.mgmt.status = 9 ∧ t.ports.mgmt.done = 0 ∧ t.ports.mgmt.ended = true ∧ t.ports.mgmt.active = false ∧
        t.ports.mgmt.response = 0x5A :: 9 :: 0 :: leBytes 2 (crc16 [9, 0]).toNat ∧ t.ports.mgmtLast = 9 ∧
        t.ports.errors = satInc s.ports.errors ∧
        t = { s with ports := t.ports, persist := t.persist, recorder := t.recorder, lanes := t.lanes }) ∧
    (∀ c, c ∈ requestCommands p bytes k → s.mgtUp = false → s.PWR_WAKEEN_EN = 0 → exec c s = .next s) ∧
    (∀ b, s.mgtUp = true → s.portUart p = false → (s.ports.xfer p).active = true → b = false ∨ (s.ports.xfer p).ended = true →
      Completes (.chipSelectRise p b) s fun t =>
        t.ports.xfer p = { s.ports.xfer p with active := false } ∧ t = { s with ports := t.ports } ∧
        (match p with | .host => t.ports.hostLast | .mgmt => t.ports.mgmtLast) = (s.ports.xfer p).status) ∧
    (∀ fixed addr n ws x u w, s.mgtUp = true → s.portUart p = false → s.ports.xfer p = x → x.active = true → x.ended = false →
      x.status = 0 → 1 ≤ n → n ≤ 256 → x.rx = requestBytes true fixed addr n ws → ws.length ≤ n → ws[x.acc]? = some w →
      u = { s with ports := (s.ports.setLast p 0).setXfer p { x with active := false } } →
      exec (.chipSelectRise p true) s = .next (u.accessWrite p (accessAddr fixed addr x.acc) w).2) ∧
    (∀ fixed addr n x u, s.mgtUp = true → s.portUart p = false → s.ports.xfer p = x → x.active = true → x.ended = false →
      x.status = 0 → n ≤ 256 → x.acc < n → x.rx = requestBytes false fixed addr n [] →
      u = { s with ports := (s.ports.setLast p 0).setXfer p { x with active := false } } →
      exec (.chipSelectRise p true) s = .next
        (if isQueueData (accessAddr fixed addr x.acc) then u else (u.accessRead p (accessAddr fixed addr x.acc)).2.2)) ∧
    (∀ b, (s.ports.xfer p).active = false → exec (.chipSelectRise p b) s = .next s) ∧
    (∀ c, c ∈ [Instr.uartGapTimeout, .uartByteOverlap] → s.mgtUp = true → s.uartMode = true →
      Completes c s fun t => t.ports.errors = satInc s.ports.errors ∧
        t.ports.mgmt = (if c = .uartGapTimeout then Xfer.reset else s.ports.mgmt) ∧
        t = { s with ports := t.ports, persist := t.persist, recorder := t.recorder, lanes := t.lanes }) ∧
    (∀ c, c ∈ [Instr.uartGapTimeout, .uartByteOverlap] → s.uartMode = false → exec c s = .next s) ∧
    (∀ w : Word,
      Completes (.gtagclr w) s fun t =>
        t.ports.tags.getLsbD (getBits w 7 0) = false ∧ (∀ k, k ≠ getBits w 7 0 →
          t.ports.tags.getLsbD k = s.ports.tags.getLsbD k) ∧
        t = { s with ports := t.ports })

/-- A producer port writes one word into the queue it feeds: an item opens, grows or becomes visible with its end marker
(R189, R193), the oldest visible item makes room in a full queue and LOST counts it (R200), and a broken queue counts the word
in FLUSHDROP (R207). No other queue changes. The model's choice, not the spec's: the rest of an item around a BROKEN queue is
dropped and counted (log entry 27), the free value of a cell's place (log entry 28), and a row whose unit is absent or
quarantined does nothing (log entry 68, log entry 52). -/
def Obligations.ProducerWordJoinsItsQueue : Prop :=
  ∀ (s : State) (p : BitVec 16) (n : Nat) (q : Queue) (w : Word),
    s.fabric.stopped = false → s.fabric.queue n = some q →
      s.fabric.built.filter (fun e => e.2.route.producer.toNat == p.toNat) = [(n, q)] →
    (q.broken = false → q.full = false →
      Completes (.queueProducerWord p true true w) s fun t =>
        t.fabric.queue n = some { q with
          wcnt := q.wcnt + 1, sent := q.sent + 1, skipping := false, opened := none
          items := q.items ++ [{ start := q.wcnt, words := [w], endSeq := s.fabric.endSeq, at_ := s.dev, flaws := [] }] } ∧
        (∀ m, m ≠ n → t.fabric.queue m = s.fabric.queue m) ∧ t.fabric.endSeq = s.fabric.endSeq + 1 ∧
          t.recorder = s.recorder) ∧
    (q.broken = false → q.full = false →
      Completes (.queueProducerWord p true false w) s fun t =>
        t.fabric.queue n = some { q with
          wcnt := q.wcnt + 1, sent := q.sent + 1, skipping := false, opened := some { start := q.wcnt, words := [w], endSeq := 0, at_ := 0, flaws := [] } } ∧
        (∀ m, m ≠ n → t.fabric.queue m = s.fabric.queue m) ∧ t.recorder = s.recorder) ∧
    (∀ o, q.broken = false → q.skipping = false → q.full = false → q.opened = some o →
      Completes (.queueProducerWord p false true w) s fun t =>
        t.fabric.queue n = some { q with
          wcnt := q.wcnt + 1, sent := q.sent + 1, opened := none, items := q.items ++ [{ o with words := o.words ++ [w], endSeq := s.fabric.endSeq, at_ := s.dev }] } ∧
        (∀ m, m ≠ n → t.fabric.queue m = s.fabric.queue m)) ∧
    (∀ it rest, q.broken = false → q.skipping = false → q.full = true → q.items = it :: rest →
      Queue.full { q with items := rest } = false → q.route.cmdq = false → q.opened = none →
      Completes (.queueProducerWord p true true w) s fun t =>
        (∃ q', t.fabric.queue n = some q' ∧ q'.lost = satAdd q.lost 1 ∧ q'.wcnt = q.wcnt + 1 ∧ q'.sent = q.sent + 1 ∧
          q'.items = rest ++ [{ start := q.wcnt, words := [w], endSeq := s.fabric.endSeq, at_ := s.dev, flaws := [] }]) ∧
        (∀ m, m ≠ n → t.fabric.queue m = s.fabric.queue m)) ∧
    (∀ first last, q.broken = true →
      Completes (.queueProducerWord p first last w) s fun t =>
        t.fabric.queue n = some { q with sent := q.sent + 1, flushDrop := satInc q.flushDrop } ∧
        (∀ m, m ≠ n → t.fabric.queue m = s.fabric.queue m) ∧ t.recorder = s.recorder)

/-- A consumer stage. QF's push always completes: with a free slot and a visible item it moves the oldest whole item (R194,
R197), each word POISON whose parity does not fit, with one count in WORDERR for each (R191, R205); an error in its metadata
marks the queue BROKEN (R207); with two items staged, with nothing visible or in quarantine it moves nothing (R488). A STALL
read that waits at the port then takes its word (R208), and a figure's RECV that waits takes the item (R427). A consumer's
read always completes: it takes the next word and frees the slot after an item's last (R195), and waits at an empty stage.
TIMEOUT ends such a wait with no data (R208), a figure's RECV with G15 0 (R427), and is nothing where no read waits. The
model's choice, not the spec's: STAGE_PUSH is the moment an item is staged and a stalled read resumes (log entry 30), the cell
index in a parity record is free (log entry 2, log entry 28), and a quarantined QF moves nothing (log entry 52). -/
def Obligations.ConsumerStageFillsAndEmpties : Prop :=
  ∀ (s : State) (p : StagePort),
    let staged (it : PoolItem) (bad : List Bool) : List (Word × Bool) :=
      it.words.zipIdx.map fun e => (e.1, it.flaws.contains e.2 || bad.getD e.2 false)
    let reader : Prop := ∃ f < 4, ∃ q < 16, stageKey p = figIn f q ∧ (s.fc.fig f).waiting = .recv
    (∀ bad broken, Completes (.stagePush p bad broken) s fun t => t.pending = s.pending ∧ t.persist = s.persist ∧
      ((s.fabric.stage (stageKey p)).length ≤ 2 → (t.fabric.stage (stageKey p)).length ≤ 2)) ∧
    (∀ n q it rest bad, s.fabric.stopped = false → (s.fabric.stage (stageKey p)).length < 2 → s.fabric.sources p = [(n, q)] →
      q.broken = false → q.items = it :: rest → stageKey p ∉ s.fabric.waiting → ¬ reader →
      Completes (.stagePush p bad false) s fun t =>
        t.fabric.stage (stageKey p) = s.fabric.stage (stageKey p) ++
          [{ queue := n, words := staged it bad, read := 0, at_ := max it.at_ (s.fabric.fullAt.get 0 (stageKey p)) }] ∧
        t.fabric.queue n = some { q with items := rest } ∧ (∀ m, m ≠ n → t.fabric.queue m = s.fabric.queue m) ∧
        t.fabric.wordErr = satAdd s.fabric.wordErr ((staged it bad).filter (·.2)).length ∧
        (((staged it bad).filter (·.2)) = [] → t.recorder = s.recorder) ∧
        t = { s with fabric := t.fabric, recorder := t.recorder, fresh := t.fresh }) ∧
    (∀ n q it rest bad, s.fabric.stopped = false → s.fabric.stage (stageKey p) = [] → s.fabric.sources p = [(n, q)] →
      q.broken = false → q.items = it :: rest → stageKey p ∈ s.fabric.waiting → ¬ reader →
      Completes (.stagePush p bad false) s fun t =>
        stageKey p ∉ t.fabric.waiting ∧
        t.fabric.lastRead.get .nothing (stageKey p) =
          .word ((staged it bad).getD 0 (0, false)).1 ((staged it bad).getD 0 (0, false)).2) ∧
    (∀ f < 4, ∀ port < 16, ∀ n q it rd n1, p = .engine (BitVec.ofNat 16 (figIn f port)) → s.runs .seq = true →
      (s.fc.fig f).waiting = .recv → (s.fc.fig f).step = some (.recv (BitVec.ofNat 4 port) rd n1) → (s.fc.fig f).since = 0 →
      0 < s.SEQ_FSTEPMAX f → s.fabric.stopped = false → s.fabric.stage (stageKey p) = [] → s.fabric.sources p = [(n, q)] →
      q.broken = false → q.items = [it] → it.flaws = [] → it.words.length ≤ n1.toNat + 1 → n1.toNat + rd.toNat < 15 →
      stageKey p ∉ s.fabric.waiting →
      Completes (.stagePush p [] false) s fun t =>
        t.fabric.stage (stageKey p) = [] ∧ (t.fc.fig f).waiting = .none ∧ (t.fc.fig f).pc = (s.fc.fig f).pc + 1 ∧
        (t.fc.fig f).regs.get 0 15 = BitVec.ofNat 32 it.words.length ∧
        ∀ k < it.words.length, (t.fc.fig f).regs.get 0 (rd.toNat + k) = it.words.getD k 0) ∧
    (∀ n q it rest bad, s.fabric.stopped = false → (s.fabric.stage (stageKey p)).length < 2 → s.fabric.sources p = [(n, q)] →
      q.broken = false → q.items = it :: rest → ¬ reader →
      Completes (.stagePush p bad true) s fun t =>
        t.fabric.queue n = some { q with broken := true, items := [], opened := none } ∧
        (∀ m, m ≠ n → t.fabric.queue m = s.fabric.queue m) ∧
        t.fabric.metaErr = satInc s.fabric.metaErr ∧ t.fabric.stages = s.fabric.stages) ∧
    (∀ bad broken, s.fabric.stopped = true ∨ 2 ≤ (s.fabric.stage (stageKey p)).length ∨ s.fabric.sources p = [] → ¬ reader →
      Completes (.stagePush p bad broken) s fun t =>
        t.fabric.stages = s.fabric.stages ∧ t.fabric.wordErr = s.fabric.wordErr ∧ t.recorder = s.recorder) ∧
    (Completes (.consumerRead p) s fun t => t = { s with fabric := t.fabric } ∧
      (s.fabric.stage (stageKey p) ≠ [] → t.fabric.waiting = s.fabric.waiting) ∧
      (s.fabric.stage (stageKey p) = [] → stageKey p ∈ t.fabric.waiting ∧ t.fabric.stages = s.fabric.stages)) ∧
    (∀ it rest, s.fabric.stage (stageKey p) = it :: rest → it.read + 1 < it.words.length →
      Completes (.consumerRead p) s fun t =>
        t.fabric.stage (stageKey p) = { it with read := it.read + 1 } :: rest ∧
        t.fabric.lastRead.get .nothing (stageKey p) =
          .word (it.words.getD it.read (0, false)).1 (it.words.getD it.read (0, false)).2) ∧
    (∀ it rest, s.fabric.stage (stageKey p) = it :: rest → it.words.length ≤ it.read + 1 →
      Completes (.consumerRead p) s fun t =>
        t.fabric.stage (stageKey p) = rest ∧
        t.fabric.lastRead.get .nothing (stageKey p) =
          .word (it.words.getD it.read (0, false)).1 (it.words.getD it.read (0, false)).2) ∧
    (s.fabric.stage (stageKey p) = [] → stageKey p ∉ s.fabric.waiting →
      exec (.consumerRead p) s = .next { s with fabric := { s.fabric with waiting := s.fabric.waiting ++ [stageKey p] } }) ∧
    (Completes (.stallReadTimeout p) s fun t => stageKey p ∉ t.fabric.waiting ∧
      (stageKey p ∈ s.fabric.waiting → t.fabric.lastRead.get .nothing (stageKey p) = .timeout) ∧
      t.fabric.queues = s.fabric.queues ∧ t.fabric.stages = s.fabric.stages) ∧
    (stageKey p ∈ s.fabric.waiting → ¬ reader →
      exec (.stallReadTimeout p) s = .next { s with fabric := { s.fabric with
        waiting := s.fabric.waiting.filter (· != stageKey p)
        lastRead := s.fabric.lastRead.set .nothing (stageKey p) .timeout } }) ∧
    (stageKey p ∉ s.fabric.waiting → ¬ reader → exec (.stallReadTimeout p) s = .next s) ∧
    (∀ f < 4, ∀ port < 16, ∀ rd n1, p = .engine (BitVec.ofNat 16 (figIn f port)) → s.runs .seq = true →
      (s.fc.fig f).waiting = .recv → (s.fc.fig f).step = some (.recv (BitVec.ofNat 4 port) rd n1) → (s.fc.fig f).since = 0 →
      0 < s.SEQ_FSTEPMAX f →
      Completes (.stallReadTimeout p) s fun t =>
        (t.fc.fig f).regs.get 0 15 = 0 ∧ (t.fc.fig f).waiting = .none ∧ (t.fc.fig f).pc = (s.fc.fig f).pc + 1)

/-- The writes and reads of QF's registers: FLUSH empties a queue, with the items staged and not yet read, and writes
QUEUE_FLUSH with both counts (R210, R211); the item whose end word comes in its cycle is kept (R213). CLRCNT, CLRLTAG and
CLRERR clear their counts (R218, R220), a host write joins the host's item unless its tag is in flight (R215, R647), a host
read takes the next staged word, and of an empty stage shows the last word with UNDERRUN in FLAG mode or waits in STALL mode
(R209, R214, R216), and a read of QF_LTAG takes an entry. The model's choice, not the spec's: what a flush does with words
still to come (log entry 27, log entry 67), the resumption of a STALL read (log entry 30), and what an address or a unit that
is absent does (log entry 65, log entry 68). -/
def Obligations.QueueRegistersActOnTheirQueue : Prop :=
  ∀ s : State,
    (exec .ltagRead s = .next { s with fabric := { s.fabric with ltags := s.fabric.ltags.tail } }) ∧
    (∀ w : Word, w.getLsbD 0 = false →
      exec (.clrltag w) s = .next { s with fabric := { s.fabric with ltags := [], overflow := 0 } }) ∧
    (∀ w : Word, w.getLsbD 1 = false →
      exec (.clrerr w) s = .next { s with fabric := { s.fabric with metaErr := 0, wordErr := 0 } }) ∧
    ∀ (n : Fin 512) (q : Queue), s.fabric.queue n.val = some q →
    let k := if q.route.consumer = 0xFF00 then 0x10000 + n.val else q.route.consumer.toNat
    let unread (it : StageItem) : Bool := it.queue == n.val && it.read == 0
    (∀ w : Word, s.fabric.stopped = false → w.getLsbD 30 = false → w.getLsbD 27 = false →
      Completes (.queueFlush n w none) s fun t =>
        (∃ q', t.fabric.queue n.val = some q' ∧ q'.items = [] ∧ q'.opened = none ∧ q'.wcnt = q.wcnt ∧ q'.lost = q.lost ∧
          (q.opened = none → q' = { q with items := [] }) ∧
          (∀ o, q.opened = some o → q'.skipping = true ∧ q'.flushDrop = satAdd q.flushDrop o.words.length)) ∧
        (∀ m, m ≠ n.val → t.fabric.queue m = s.fabric.queue m) ∧
        t.fabric.stage k = (s.fabric.stage k).filter (fun it => !unread it) ∧
        (∀ j, j ≠ k → t.fabric.stage j = s.fabric.stage j) ∧
        t.recorder = s.recorder.put s.dev 3 0x0304 (leBytes 2 n.val ++
          leBytes 2 (min 0xFFFF (q.items.length + ((s.fabric.stage k).filter unread).length)) ++
          leBytes 2 (min 0xFFFF (match q.opened with | some o => o.words.length | none => 0)))) ∧
    (∀ (w e : Word) o, s.fabric.stopped = false → w.getLsbD 30 = false → w.getLsbD 27 = false → q.broken = false →
      q.skipping = false → q.opened = some o → Queue.full { q with items := [] } = false →
      s.fabric.built.filter (fun x => x.2.route.producer.toNat == q.route.producer.toNat) = [(n.val, q)] →
      Completes (.queueFlush n w (some e)) s fun t =>
        t.fabric.queue n.val = some { q with
          wcnt := q.wcnt + 1, sent := q.sent + 1, opened := none
          items := [{ o with words := o.words ++ [e], endSeq := s.fabric.endSeq, at_ := s.dev }] } ∧
        (∀ m, m ≠ n.val → t.fabric.queue m = s.fabric.queue m) ∧
        t.fabric.stage k = (s.fabric.stage k).filter (fun it => !unread it) ∧
        t.recorder = s.recorder.put s.dev 3 0x0304 (leBytes 2 n.val ++
          leBytes 2 (min 0xFFFF (q.items.length + ((s.fabric.stage k).filter unread).length)) ++ leBytes 2 0)) ∧
    (∀ w e, s.fabric.stopped = true → w.getLsbD 30 = false → w.getLsbD 27 = false → exec (.queueFlush n w e) s = .next s) ∧
    (∀ w : Word, w.getLsbD 31 = false → w.getLsbD 27 = false →
      Completes (.queueClrcnt n w) s fun t =>
        t.fabric.queue n.val = some { q with lost := 0, flushDrop := 0 } ∧
        (∀ m, m ≠ n.val → t.fabric.queue m = s.fabric.queue m) ∧ t = { s with fabric := t.fabric }) ∧
    (∀ w : Word, s.fabric.stopped = false → q.route.producer = 0xFF00 → s.ports.busyLeft.get 0 n.val = 0 → q.hostLeft = 0 →
      q.route.cmdq = true →
      s.ports.tags.getLsbD (w.toNat % 256) = false → q.wlen = 1 → q.broken = false → q.full = false →
      Completes (.hostQdataWrite n w) s fun t =>
        t.fabric.queue n.val = some { q with
          wcnt := q.wcnt + 1, sent := q.sent + 1, skipping := false, opened := none
          items := q.items ++ [{ start := q.wcnt, words := [w], endSeq := s.fabric.endSeq, at_ := s.dev, flaws := [] }] } ∧
        t.ports.tags.getLsbD (w.toNat % 256) = true) ∧
    (∀ w : Word, s.fabric.stopped = false → q.route.producer = 0xFF00 → s.ports.busyLeft.get 0 n.val = 0 → q.hostLeft = 0 →
      q.route.cmdq = false → 1 < q.wlen → q.broken = false → q.full = false →
      Completes (.hostQdataWrite n w) s fun t =>
        t.fabric.queue n.val = some { q with
          wcnt := q.wcnt + 1, sent := q.sent + 1, skipping := false, hostLeft := q.wlen - 1
          opened := some { start := q.wcnt, words := [w], endSeq := 0, at_ := 0, flaws := [] } } ∧
        t = { s with fabric := t.fabric }) ∧
    (∀ (w : Word) o, s.fabric.stopped = false → q.route.producer = 0xFF00 → s.ports.busyLeft.get 0 n.val = 0 →
      1 ≤ q.hostLeft → q.opened = some o → q.skipping = false → q.broken = false → q.full = false →
      Completes (.hostQdataWrite n w) s fun t =>
        t.fabric.queue n.val = some (if q.hostLeft = 1 then { q with
            wcnt := q.wcnt + 1, sent := q.sent + 1, hostLeft := 0, opened := none
            items := q.items ++ [{ o with words := o.words ++ [w], endSeq := s.fabric.endSeq, at_ := s.dev }] }
          else { q with wcnt := q.wcnt + 1, sent := q.sent + 1, hostLeft := q.hostLeft - 1
                        opened := some { o with words := o.words ++ [w] } }) ∧
        t = { s with fabric := t.fabric }) ∧
    (∀ w : Word, s.fabric.stopped = false → q.route.producer = 0xFF00 → s.ports.busyLeft.get 0 n.val = 0 → q.hostLeft = 0 →
      q.route.cmdq = true →
      s.ports.tags.getLsbD (w.toNat % 256) = true →
      exec (.hostQdataWrite n w) s =
        .next { s with ports := { s.ports with busyLeft := s.ports.busyLeft.set 0 n.val (q.wlen - 1) } }) ∧
    (q.route.consumer = 0xFF00 → s.fabric.stage (0x10000 + n.val) = [] → q.route.flag = true →
      exec (.hostQdataRead n) s = .next { s with fabric := s.fabric.setQueue n.val { q with underrun := true } }) ∧
    (∀ it rest, q.route.consumer = 0xFF00 → s.fabric.stage (0x10000 + n.val) = it :: rest → it.words.length ≤ it.read + 1 →
      it.queue = n.val →
      Completes (.hostQdataRead n) s fun t =>
        t.fabric.stage (0x10000 + n.val) = rest ∧
        t.fabric.queue n.val = some { q with poison := (it.words.getD it.read (0, false)).2, last := true,
                                             lastWord := (it.words.getD it.read (0, false)).1 }) ∧
    (∀ it rest, q.route.consumer = 0xFF00 → s.fabric.stage (0x10000 + n.val) = it :: rest → it.read + 1 < it.words.length →
      it.queue = n.val →
      Completes (.hostQdataRead n) s fun t =>
        t.fabric.stage (0x10000 + n.val) = { it with read := it.read + 1 } :: rest ∧
        t.fabric.queue n.val = some { q with poison := (it.words.getD it.read (0, false)).2, last := false,
                                             lastWord := (it.words.getD it.read (0, false)).1 }) ∧
    (q.route.consumer = 0xFF00 → s.fabric.stage (0x10000 + n.val) = [] → q.route.flag = false →
      exec (.hostQdataRead n) s =
        .next { s with fabric := { s.fabric with waiting := s.fabric.waiting ++ [0x10000 + n.val] } }) ∧
    (∀ w, q.route.producer ≠ 0xFF00 → exec (.hostQdataWrite n w) s = .next s) ∧
    (q.route.consumer ≠ 0xFF00 → exec (.hostQdataRead n) s = .next s)

/-- The inputs of position fusion: an absolute reader's code is the cycle's sample unless its error bit or its monoflop fails
(R224), quadrature counts up with A leading and an illegal transition loses the encoder (R223), items bring a remote encoder,
reader or switch (R222, R226, R242), a vane edge counts when both channels agree within VANEDISC and three misses lose the
pair (R225), and a switch takes its level when it has held (R242). A pad that the image does not use brings nothing (R49), and
parameters act as the last cycle boundary took them (R248). The model's choice, not the spec's: A leading counts up (log entry
6), pad levels and late edges (log entry 31, log entry 33), the end of a missing run (log entry 32), pads without a record
(log entry 70), and a row whose engine is absent does nothing (log entry 68). -/
def Obligations.FusionTakesItsInputs : Prop :=
  ∀ s : State,
    (∀ code err high, s.fusion.stat ≠ .off → s.quiet .mpi = false → s.fusion.ssiSel = 1 ∨ s.fusion.ssiSel = 2 →
      s.ssiWired = true →
      exec (.ssiRead code err high) s = .next { s with fusion := { s.fusion with
        sample := if (s.fusion.cfg.getLsbD 15 = true ∧ err = true) ∨ high = false then none
                  else some { tc := s.dev, code := code } } }) ∧
    (∀ code err high, s.fusion.stat = .off ∨ s.ssiWired = false → exec (.ssiRead code err high) s = .next s) ∧
    (∀ (pad : Fin 4) q a b, s.padUsed (64 + 3 * pad.val) = true → s.padUsed (65 + 3 * pad.val) = true →
      s.fusion.quads.get Quad.reset pad.val = q →
      (q.a, q.b, a, b) ∈ [(false, false, true, false), (true, false, true, true), (true, true, false, true),
        (false, true, false, false)] →
      Completes (.encoderTransition pad a b) s fun t =>
        t.fusion.quads.get Quad.reset pad.val = { a := a, b := b, count := q.count + 1 } ∧
        t = { s with fusion := { s.fusion with quads := t.fusion.quads } }) ∧
    (∀ (pad : Fin 4) q a b, s.padUsed (64 + 3 * pad.val) = true → s.padUsed (65 + 3 * pad.val) = true →
      s.fusion.quads.get Quad.reset pad.val = q →
      (a, b, q.a, q.b) ∈ [(false, false, true, false), (true, false, true, true), (true, true, false, true),
        (false, true, false, false)] →
      Completes (.encoderTransition pad a b) s fun t =>
        t.fusion.quads.get Quad.reset pad.val = { a := a, b := b, count := q.count - 1 } ∧
        t = { s with fusion := { s.fusion with quads := t.fusion.quads } }) ∧
    (∀ (pad : Fin 4) q a b, s.padUsed (64 + 3 * pad.val) = true → s.padUsed (65 + 3 * pad.val) = true →
      s.fusion.quads.get Quad.reset pad.val = q → q.a ≠ a → q.b ≠ b → s.fusionKind = 1 →
      s.fusion.encSel = 1 → s.fusion.encPad = pad.val → s.fusion.enc.lost = false →
      Completes (.encoderTransition pad a b) s fun t =>
        t.fusion.enc = { s.fusion.enc with lost := true, status := 4 } ∧
        t.fusion.quads.get Quad.reset pad.val = { a := a, b := b, count := q.count } ∧
        t.recorder = s.recorder.put s.dev 5 0x0502 [0, 3]) ∧
    (∀ (pad : Fin 4) a b, s.padUsed (64 + 3 * pad.val) = false ∨ s.padUsed (65 + 3 * pad.val) = false →
      exec (.encoderTransition pad a b) s = .next s) ∧
    (∀ w0 w1 w2 : Word, s.fullFusion = true → w2.getLsbD 0 = true →
      exec (.encoderItem { words := [w0, w1, w2], poison := false }) s =
        .next { s with fusion := { s.fusion with encItem := some (w0, captureTime s.dev w1) } }) ∧
    (∀ it : Item, it.poison = true ∨ it.words.length ≠ 3 → exec (.encoderItem it) s = .next s) ∧
    (∀ w0 w1 w2 w3 w4 w5 w6 w7 w8 : Word, s.fullFusion = true → s.fusion.ssiSel = 3 → s.fusion.vaneSel ≠ 2 →
      w3.getLsbD 0 = true →
      exec (.captureItem { words := [w0, w1, w2, w3, w4, w5, w6, w7, w8], poison := false }) s =
        .next { s with fusion := { s.fusion with sample := some { tc := captureTime s.dev w1, code := w2 } } }) ∧
    (∀ it : Item, it.poison = true ∨ it.words.length ≠ 9 → exec (.captureItem it) s = .next s) ∧
    (∀ (v : Fin 4) p chB level, s.fusion.stat ≠ .off → s.mpi.vaneLocal v.val = true →
      s.padUsed (311 + 2 * v.val + bit chB) = true →
      s.fusion.pairs.get VanePair.reset v.val = p → p.pend = none → p.levelA ≠ level → p.levelB ≠ level →
      Completes (.vaneChannelEdge v chB level) s fun t =>
        t.fusion.pairs.get VanePair.reset v.val =
          (if chB then { p with levelB := level, pend := some (false, s.dev) } else { p with levelA := level, pend := some (true, s.dev) }) ∧
        t.fusion.edges = s.fusion.edges) ∧
    (∀ (v : Fin 4) p at_ level, s.fusion.stat ≠ .off → s.mpi.vaneLocal v.val = true → s.padUsed (312 + 2 * v.val) = true →
      s.fusion.pairs.get VanePair.reset v.val = p → p.pend = some (true, at_) → p.levelB ≠ level → p.lost = false →
      s.dev - at_ ≤ s.mpi.inForce.MPI_VANEDISC →
      Completes (.vaneChannelEdge v true level) s fun t =>
        t.fusion.edges = s.fusion.edges ++ [{ pair := v.val, on := level, te := (at_ + s.dev) / 2, d := s.dev - at_ }] ∧
        t.fusion.pairs.get VanePair.reset v.val = { p with levelB := level, pend := none, misses := 0 }) ∧
    (∀ (v : Fin 4) chB level, s.padUsed (311 + 2 * v.val + bit chB) = false →
      exec (.vaneChannelEdge v chB level) s = .next s) ∧
    (∀ (v : Fin 4) p b at_, s.fusion.pairs.get VanePair.reset v.val = p → p.pend = some (b, at_) → p.lost = false →
      Completes (.vaneWindowExpire v) s fun t =>
        t.fusion.pairs.get VanePair.reset v.val = { p with pend := none, misses := p.misses + 1, lost := decide (2 ≤ p.misses) } ∧
        t.fusion.discs.getLsbD v.val = true) ∧
    (∀ v : Fin 4, (s.fusion.pairs.get VanePair.reset v.val).pend = none → exec (.vaneWindowExpire v) s = .next s) ∧
    (∀ (w0 w1 : Word) n w, s.fusion.stat ≠ .off →
      [0, 1, 2, 3].filter (fun n => s.mpi.inForce.switchInput n == some (getBits w0 4 0)) = [n] →
      s.fusion.switches.get TermSwitch.reset n = w → w.changes = [] → w.level ≠ w0.getLsbD 8 →
      Completes (.switchChangeItem { words := [w0, w1], poison := false }) s fun t =>
        t.fusion.switches.get TermSwitch.reset n =
          { w with changes := [captureTime s.dev w1], burst := false,
                   pending := some (w0.getLsbD 8, captureTime s.dev w1) }) ∧
    (∀ it : Item, it.poison = true ∨ it.words.length ≠ 2 → exec (.switchChangeItem it) s = .next s) ∧
    (∀ (n : Fin 4) w l at_, s.fusion.switches.get TermSwitch.reset n.val = w → w.pending = some (l, at_) →
      Completes (.switchEdgeCount n) s fun t =>
        t.fusion.switches.get TermSwitch.reset n.val = { w with level := l, pending := none } ∧
        (s.fusion.runState.run = .none → t.fusion.runState = s.fusion.runState) ∧
        (s.fusion.runState.run = .home → s.fusion.runState.phase = 1 → s.fusion.runState.edge = none → n.val = 0 →
          t.fusion.runState = { s.fusion.runState with edge := some at_ })) ∧
    (∀ n : Fin 4, (s.fusion.switches.get TermSwitch.reset n.val).pending = none → exec (.switchEdgeCount n) s = .next s)

/-- A fusion cycle of an engine with the encoder alone moves its interval by the counted distance and widens it by R229's
growth, a capture-only engine sends its captures and clears them (R226), and LEARN, HOME and ABORT start, refuse or end a run
(R243 to R246), whose phases end at rest. A write of NLAND checks the table again (R241), and a read of MPI_FPOS freezes the
results (R251). The model's choice, not the spec's: missing and late samples (log entry 31), the runs' moves (log entry 7),
the refusals and ends of the runs (log entry 34), that the row is the moment (log entry 5), and an absent engine does nothing
(log entry 68). -/
def Obligations.FusionCycleAndRunsProceed : Prop :=
  ∀ s : State,
    (∀ i p, s.fusion.stat ≠ .off → s.quiet .mpi = false → s.fusionKind = 1 → s.noneWaits [0x0504, 0x0502, 0x0501] →
      s.fusion.encSel = 1 → s.fusion.ssiSel = 0 → s.fusion.vaneUsed = false → s.fusion.enc.lost = false →
      s.fusion.interval = some i → s.fusion.prevCount = some p →
      let c := (s.fusion.quads.get Quad.reset s.fusion.encPad).count
      let dq := (c - p).toInt * s.encScale
      let g := s.mpi.growth dq 0
      Completes .fusionCycle s fun t =>
        t.fusion.interval = some (i.1 + dq - g, i.2 + dq + g) ∧ t.fusion.prevCount = some c ∧
        t.fusion.v = rnDiv (dq * 10 ^ 7) (s16 * s.cycleUs) ∧
        t.fusion.res.plo = toWord (sat32 (downDiv (i.1 + dq - g) s16)) ∧
        t.fusion.res.phi = toWord (sat32 (upDiv (i.2 + dq + g) s16)) ∧
        t.fusion.res.cycle = lowWord (s.dev / s.cycleUs)) ∧
    (s.fusion.stat ≠ .off → s.quiet .mpi = false → s.fusionKind = 2 → s.noneWaits [0x0504] →
      Completes .fusionCycle s fun t =>
        t.fusion = { s.fusion with sample := none, edges := [], discs := 0 } ∧
        t = { s with fusion := t.fusion, fabric := t.fabric, recorder := t.recorder, ports := t.ports, fresh := t.fresh }) ∧
    (s.fusion.stat = .off ∨ s.quiet .mpi = true → exec .fusionCycle s = .next s) ∧
    (∀ p, s.rwlOpen .MPI_FCMD [] → s.fullFusion = true → s.fusion.stat = .unknown ∨ s.fusion.stat = .tracking →
      s.carPlanner = some p →
      (s.planners.get Planner.reset p).idle = true → s.fusion.runState.run = .none →
        (s.mpi.inForce.switchInput 0).isSome = true →
      (s.mpi.inForce.switchInput 1).isSome = true →
      Completes .fusionLearn s fun t =>
        t.fusion = { s.fusion with runState := { FusionRun.reset with run := .learn, phase := 1, result := 1 } } ∧
        (t.planners.get Planner.reset p).held = [fusionMove (-(s.mpi.inForce.MPI_LEARNVEL : Int))] ∧
        t.recorder = s.recorder.put s.dev 5 0x0510 [1]) ∧
    (∀ c, c ∈ [Instr.fusionLearn, .fusionHome] → s.rwlOpen .MPI_FCMD [] → s.fullFusion = true →
      s.fusion.runState.run ≠ .none →
      Completes c s fun t =>
        t.fusion = { s.fusion with runState := { s.fusion.runState with result := 3 } } ∧ t.planners = s.planners) ∧
    (∀ p, s.rwlOpen .MPI_FCMD [] → s.fullFusion = true → s.carPlanner = some p →
      (s.planners.get Planner.reset p).idle = true →
      s.fusion.runState.run = .none → (s.mpi.inForce.switchInput 0).isSome = true → s.fusion.tabOk = true →
        s.reg .MPI_NTSDN ≠ 0x7FFFFFFF →
      Completes .fusionHome s fun t =>
        t.fusion = { s.fusion with runState := { FusionRun.reset with run := .home, phase := 1, result := 1 } } ∧
        (t.planners.get Planner.reset p).held = [fusionMove (-(s.mpi.inForce.MPI_LEARNVEL : Int))] ∧
        t.recorder = s.recorder.put s.dev 5 0x0510 [2]) ∧
    (s.rwlOpen .MPI_FCMD [] → s.fullFusion = true → s.fusion.runState.run ≠ .none →
      Completes .fusionAbort s fun t => t.fusion.runState.run = .none ∧ t.fusion.runState.result = 4 ∧
        t.fusion.runState.phase = 0) ∧
    (s.rwlOpen .MPI_FCMD [] → s.fullFusion = true → s.fusion.runState.run = .none →
      Completes .fusionAbort s fun t =>
        t.fusion = { s.fusion with runState := { s.fusion.runState with result := 8 } } ∧ t.planners = s.planners) ∧
    (∀ p x e, s.fusion.runState.run = .home → s.fusion.runState.phase = 1 → s.fusion.runState.edge = some e →
      s.fusion.runState.p = some x → s.fusion.runState.read = false → s.carPlanner = some p →
      (s.planners.get Planner.reset p).idle = true →
      Completes .runPhaseEnd s fun t =>
        t.fusion.runState.run = .none ∧ t.fusion.runState.result = 2 ∧ t.fusion.stat ≠ .unknown ∧
        t.fusion.interval = some ((s.reg .MPI_NTSDN).toInt * s16 - s.mpi.inForce.MPI_HOMEERR * s16,
          (s.reg .MPI_NTSDN).toInt * s16 + s.mpi.inForce.MPI_HOMEERR * s16)) ∧
    (∀ p x e, s.fusion.runState.run = .learn → s.fusion.runState.phase = 1 → s.fusion.runState.edge = some e →
      s.fusion.runState.p = some x → s.fusion.runState.read = false → s.carPlanner = some p →
      (s.planners.get Planner.reset p).idle = true →
      Completes .runPhaseEnd s fun t =>
        t.fusion.runState = { s.fusion.runState with phase := 2, edge := none, list := [], found := 0 } ∧
        (t.planners.get Planner.reset p).held = [fusionMove s.mpi.inForce.MPI_LEARNVEL]) ∧
    (s.fusion.runState.run = .none ∨ s.fusion.runState.edge = none → exec .runPhaseEnd s = .next s) ∧
    (∀ w : Word, s.rwlOpen .MPI_NLAND [] → Completes (.nlandWrite w) s fun t =>
        t.reg .MPI_NLAND = BitVec.ofNat 32 (min 256 (max 1 w.toNat)) ∧
        (s.fullFusion = true → t.fusion = { s.fusion with tabOk := t.tableCrc == t.reg .MPI_LTABCRC }) ∧
        (s.fullFusion = false → t = { s with regs := t.regs, persist := t.persist })) ∧
    (exec .fposRead s = .next { s with fusion := { s.fusion with frozen := some s.fusion.res } })

/-- A move command whose item is well formed and that no check of R263 refuses is held, in order, with its words as R260 lays
them out; RELATIVE adds its distance to the last target held (R261), STOP and ABORT act on the running and the held moves
(R261, R269, R291), and a refused command answers with its status and holds nothing (R263, R264). A planner that already holds
16 moves takes none (R262), nor does one while a tempo switch runs (R40), in quarantine (R488) or not instantiated. The
model's choice, not the spec's: which refusal answers and what a refused item shows (log entry 35), the rows of an absent
engine (log entry 68), the wait of the commands while 16 moves are held or a tempo switch runs (log entry 35), and the
quarantine of MPI (log entry 52). -/
def Obligations.MoveCommandsAreHeldOrRefused : Prop :=
  ∀ (s : State) (p : Fin 8) (w0 w1 w2 w3 w4 w5 w6 : Word),
    let x := s.planners.get Planner.reset p.val
    let it : Item := { words := [w0, w1, w2, w3, w4, w5, w6, 0], poison := false }
    let mv (k : BitVec 4) (arg : Int) : Move :=
      { tag := w0.setWidth 8, kind := k, blend := w0.getLsbD 12, revok := w0.getLsbD 13, quick := w0.getLsbD 14,
        table := getBits w0 20 16, arg := arg, vmax := w2, amax := w3, dmax := w4, jmax := w5, id := w6, fusion := false }
    (∀ i c, c ∈ [Instr.movePosition p i, .moveRelative p i, .moveVelocity p i, .moveTable p i, .moveStop p i, .moveAbort p i] →
      16 ≤ x.depth ∨ s.switching = true ∨ s.quiet .mpi = true ∨ s.planKind p.val = 0 → exec c s = .next s) ∧
    (s.planKind p.val ≠ 0 → s.quiet .mpi = false → s.switching = false → x.depth < 16 → getBits w0 31 21 = 0 →
      w0.getLsbD 15 = false →
    (x.pwrLock = false → x.stalled = false → (s.planKind p.val = 1 → s.fusion.stat = .tracking ∧ x.degLock = false) →
      ((s.reg .MPI_PLSOFTLO [p.val]).toInt ≤ w1.toInt → w1.toInt ≤ (s.reg .MPI_PLSOFTHI [p.val]).toInt →
        Completes (.movePosition p it) s fun t =>
          (t.planners.get Planner.reset p.val).held = x.held ++ [mv 1 w1.toInt] ∧
          (t.planners.get Planner.reset p.val).running = x.running ∧ t = { s with planners := t.planners }) ∧
      ((s.reg .MPI_PLSOFTLO [p.val]).toInt ≤ sat32 (w1.toInt + x.lastTarget) →
        sat32 (w1.toInt + x.lastTarget) ≤ (s.reg .MPI_PLSOFTHI [p.val]).toInt →
        Completes (.moveRelative p it) s fun t =>
          (t.planners.get Planner.reset p.val).held = x.held ++ [mv 2 (sat32 (w1.toInt + x.lastTarget))] ∧
          t = { s with planners := t.planners }) ∧
      (w1.toInt < (s.reg .MPI_PLSOFTLO [p.val]).toInt ∨ (s.reg .MPI_PLSOFTHI [p.val]).toInt < w1.toInt →
        Completes (.movePosition p it) s fun t =>
          (t.planners.get Planner.reset p.val).held = x.held ∧ (t.planners.get Planner.reset p.val).last = 0x12) ∧
      (Completes (.moveVelocity p it) s fun t =>
        (t.planners.get Planner.reset p.val).held = x.held ++ [mv 3 w1.toInt] ∧ t = { s with planners := t.planners }) ∧
      (s.tableValid p.val (getBits w0 20 16) = true →
        Completes (.moveTable p it) s fun t =>
          (t.planners.get Planner.reset p.val).held = x.held ++ [mv 4 w1.toInt] ∧ t = { s with planners := t.planners }) ∧
      (s.tableValid p.val (getBits w0 20 16) = false →
        Completes (.moveTable p it) s fun t =>
          (t.planners.get Planner.reset p.val).held = x.held ∧ (t.planners.get Planner.reset p.val).last = 0x13)) ∧
    (∀ c, c ∈ [Instr.movePosition p it, .moveRelative p it, .moveVelocity p it, .moveTable p it] → x.pwrLock = true →
      Completes c s fun t =>
        (t.planners.get Planner.reset p.val).held = x.held ∧ (t.planners.get Planner.reset p.val).last = 0x10) ∧
    (∀ vt ad dd jd r, x.motion = .velocity vt ad dd jd → x.running = some r → x.kin.vel ≠ 0 → w0.getLsbD 14 = false →
      (Completes (.moveStop p it) s fun t =>
        (t.planners.get Planner.reset p.val).motion =
          .plan x.kin 0 0 (stopPieces x.kin (s.MPI_PLDMAX p.val) (s.MPI_PLJMAX p.val)) (.stopped 4) ∧
        (t.planners.get Planner.reset p.val).held = [] ∧ (t.planners.get Planner.reset p.val).last = 0x09) ∧
      (r.id = w6 → Completes (.moveAbort p it) s fun t =>
        (t.planners.get Planner.reset p.val).motion =
          .plan x.kin 0 0 (stopPieces x.kin (s.MPI_PLDMAX p.val) (s.MPI_PLJMAX p.val)) (.stopped 5) ∧
        (t.planners.get Planner.reset p.val).held = [] ∧ (t.planners.get Planner.reset p.val).last = 0x05)) ∧
    (∀ m rest, x.running = none → x.held = m :: rest → m.id = w6 → w6 ≠ 0xFFFFFFFF → m.fusion = false →
      Completes (.moveAbort p it) s fun t =>
        (t.planners.get Planner.reset p.val).held = rest ∧ (t.planners.get Planner.reset p.val).last = 0x05) ∧
    (x.running = none → x.held = [] →
      Completes (.moveAbort p it) s fun t =>
        (t.planners.get Planner.reset p.val).held = [] ∧ (t.planners.get Planner.reset p.val).last = 0x06) ∧
    (∀ c, c ∈ [Instr.movePosition p { it with poison := true }, .moveRelative p { it with poison := true },
        .moveVelocity p { it with poison := true }, .moveTable p { it with poison := true }, .moveStop p { it with poison := true },
        .moveAbort p { it with poison := true }] →
      Completes c s fun t =>
        (t.planners.get Planner.reset p.val).held = x.held ∧ (t.planners.get Planner.reset p.val).last = 0x14))

/-- A planner's cycle posts its reference for the next boundary, at rest with its position unchanged, and starts the head of
its queue, door and auxiliary axes from the feedback position (R279): a velocity move through the slew limiter (R272), a
POSITION or RELATIVE move along the plan of R267, whose pieces it follows to the exact target (R265, R268), to the end of a
stop (R269), or into a move that blends (R271), and a table along its knots (R277, R278) (R257, R259); an engine that is not
instantiated, or that holds for a tempo switch, does nothing. The waits of R270, R280 and R288 end, estimates are answered
(R285), and the writes of MPI_PLCTLp and MPI_PLSTATp act (R290, R293, R294). The model's choice, not the spec's: the order of
a cycle, the end of a plan and the clamp of a target (log entry 35), DEGRADED and STOPPOS (log entry 36), estimates without
mass or landing (log entry 37), that the row is the moment (log entry 5), and an absent or quarantined engine does nothing
(log entry 68, log entry 52). -/
def Obligations.PlannerCyclesAndWaitsProceed : Prop :=
  ∀ (s : State) (p : Fin 8),
    let x := s.planners.get Planner.reset p.val
    let y (t : State) : Planner := t.planners.get Planner.reset p.val
    let fb : Int := match s.fedMotor p.val with | some m => (s.motors.get Motor.reset m).fbpos | none => x.kin.lsb
    let k0 : Kin := { pos := fb * s16, vel := 0, acc := 0 }
    (s.planKind p.val = 2 ∨ s.planKind p.val = 3 → s.quiet .mpi = false → s.switching = false →
      s.noneWaits [0x0510 + p.val] → s.stepper p.val = false →
      (x.held = [] → x.running = none → x.motion = .rest →
        Completes (.plannerCycle p) s fun t =>
          (y t).refWords.headD 0 = lowWord (s.dev / s.cycleUs + 1) ∧ (y t).refWords.getD 1 0 = satWord x.kin.lsb ∧
          (y t).kin = x.kin ∧ (y t).motion = .rest ∧
          (∀ q, q ≠ p.val → t.planners.get Planner.reset q = s.planners.get Planner.reset q) ∧ t.fusion = s.fusion) ∧
      (∀ mv, x.held = [mv] → x.running = none → x.motion = .rest → x.standing = false → x.pwrLock = false →
        x.stalled = false → mv.fusion = false →
        (mv.kind = 3 → Completes (.plannerCycle p) s fun t =>
          let l := s.mpi.limits p.val mv
          (y t).running = some mv ∧ (y t).held = [] ∧
          (y t).motion = .velocity (clampInt (-l.vm) l.vm mv.arg) l.a l.d l.j ∧
          (y t).kin = slew k0 (clampInt (-l.vm) l.vm mv.arg) l s.cycleUs) ∧
        (∀ vc k1 tau q qs, mv.kind = 1 ∨ mv.kind = 2 → (s.reg .MPI_PLSOFTLO [p.val]).toInt ≤ mv.arg →
          mv.arg ≤ (s.reg .MPI_PLSOFTHI [p.val]).toInt → (planTo k0 mv.arg (s.mpi.limits p.val mv)).kind = .direct vc →
          runPieces k0 (planTo k0 mv.arg (s.mpi.limits p.val mv)).pieces s.cycleUs = (k1, tau, q :: qs) →
          Completes (.plannerCycle p) s fun t =>
            (y t).running = some mv ∧ (y t).held = [] ∧ (y t).kin = k1.at_ q.jerk tau ∧
            (y t).motion = .plan k1 tau ((planTo k0 mv.arg (s.mpi.limits p.val mv)).pre - s.cycleUs) (q :: qs) (.arrive mv.arg)) ∧
        (∀ a b ks c, mv.kind = 4 → s.tableValid p.val mv.table = true → s.knots p.val mv.table = a :: b :: ks → a.v = 0 →
          knotPair s.cycleUs (a :: b :: ks) = some c →
          Completes (.plannerCycle p) s fun t =>
            (y t).running = some mv ∧ (y t).held = [] ∧ (y t).motion = .table (k0.lsb - a.p) s.cycleUs mv.table ∧
            (y t).kin = { hermite c.1 c.2 s.cycleUs with pos := (k0.lsb - a.p + (hermite c.1 c.2 s.cycleUs).lsb) * s16 })) ∧
      (∀ k tau pre ps fin k1 tau1 q qs mv, x.motion = .plan k tau pre ps fin → x.running = some mv → x.held = [] →
        runPieces k ps (tau + s.cycleUs) = (k1, tau1, q :: qs) →
        Completes (.plannerCycle p) s fun t =>
          (y t).kin = k1.at_ q.jerk tau1 ∧ (y t).motion = .plan k1 tau1 (pre - s.cycleUs) (q :: qs) fin ∧
          (y t).running = some mv) ∧
      (∀ k tau pre ps tg k1 tau1 mv, x.motion = .plan k tau pre ps (.arrive tg) → x.running = some mv → x.held = [] →
        mv.fusion = false → mv.id ≠ 0xFFFFFFFE → runPieces k ps (tau + s.cycleUs) = (k1, tau1, []) →
        Completes (.plannerCycle p) s fun t =>
          (y t).kin = { pos := tg * s16, vel := 0, acc := 0 } ∧ (y t).corr = satWord (rnDiv (k1.pos - tg * s16) s16) ∧
          (y t).motion = .rest ∧ (y t).running = none ∧ (y t).moves = satInc x.moves ∧ (y t).last = 0x02) ∧
      (∀ k tau pre ps st k1 tau1 mv, x.motion = .plan k tau pre ps (.stopped st) → x.running = some mv → x.held = [] →
        mv.fusion = false → mv.id ≠ 0xFFFFFFFE → runPieces k ps (tau + s.cycleUs) = (k1, tau1, []) →
        Completes (.plannerCycle p) s fun t =>
          (y t).kin = k1 ∧ (y t).motion = .rest ∧ (y t).running = none ∧ (y t).last = st) ∧
      (∀ k tau pre ps tg r mv vc k1 tau1 q qs, x.motion = .plan k tau pre ps (.arrive tg) → x.running = some r →
        r.kind = 1 ∨ r.kind = 2 → r.fusion = false → r.id ≠ 0xFFFFFFFE → x.held = [mv] → mv.kind = 1 ∨ mv.kind = 2 →
        mv.fusion = false → x.pwrLock = false → x.stalled = false → (s.reg .MPI_PLSOFTLO [p.val]).toInt ≤ mv.arg →
        mv.arg ≤ (s.reg .MPI_PLSOFTHI [p.val]).toInt → mv.blend = true → 0 ≤ pre → pre < s.cycleUs →
        0 < (mv.arg - tg) * sgn x.kin.vel → (planTo x.kin mv.arg (s.mpi.limits p.val mv)).kind = .direct vc →
        runPieces x.kin (planTo x.kin mv.arg (s.mpi.limits p.val mv)).pieces s.cycleUs = (k1, tau1, q :: qs) →
        Completes (.plannerCycle p) s fun t =>
          (y t).running = some mv ∧ (y t).held = [] ∧ (y t).moves = satInc x.moves ∧ (y t).kin = k1.at_ q.jerk tau1) ∧
      (∀ base tau n c mv, x.motion = .table base tau n → x.running = some mv → x.held = [] →
        knotPair (tau + s.cycleUs) (s.knots p.val n) = some c →
        Completes (.plannerCycle p) s fun t =>
          (y t).motion = .table base (tau + s.cycleUs) n ∧ (y t).running = some mv ∧
          (y t).kin = { hermite c.1 c.2 (tau + s.cycleUs) with
            pos := (base + (hermite c.1 c.2 (tau + s.cycleUs)).lsb) * s16 }) ∧
      (∀ base tau n l mv, x.motion = .table base tau n → x.running = some mv → x.held = [] → mv.fusion = false →
        mv.id ≠ 0xFFFFFFFE → knotPair (tau + s.cycleUs) (s.knots p.val n) = none → (s.knots p.val n).getLast? = some l →
        l.v = 0 →
        Completes (.plannerCycle p) s fun t =>
          (y t).kin = { pos := (base + l.p) * s16, vel := 0, acc := 0 } ∧ (y t).motion = .rest ∧ (y t).running = none ∧
          (y t).last = 0x02)) ∧
    (s.planKind p.val = 0 ∨ s.quiet .mpi = true → exec (.plannerCycle p) s = .next s) ∧
    (∀ c w0 w1 w2 w3, s.carPlanner = some c → s.fusion.stat ≠ .tracking →
      exec (.estimateRequest { words := [w0, w1, w2, w3], poison := false }) s =
        .next (s.post 0x0529 [BitVec.ofNat 32 (getBits w0 7 0 + 2 * 2 ^ 8 + 0xFF * 2 ^ 16), 0, 0, 0, 0])) ∧
    (∀ c w0 w1 w2 w3, s.carPlanner = some c → s.fusion.stat = .tracking → (s.planners.get Planner.reset c).degLock = false →
      w0.getLsbD 8 = false →
      Completes (.estimateRequest { words := [w0, w1, w2, w3], poison := false }) s fun t =>
        let y := s.planners.get Planner.reset c
        let tr := travel y.kin (sInt w1) (s.mpi.limits c { degradedMove 0 true with vmax := w2 }) (s.MPI_PLREVDWELL c * 1000)
        t = s.post 0x0529 [BitVec.ofNat 32 (getBits w0 7 0 + bit tr.behind * 2 ^ 8 + 0xFF * 2 ^ 16),
          satWord (rnDiv tr.time 1000), toWord (moveEnergy (s.masses c) (sInt w1 - y.kin.lsb) tr.vc), satWord tr.vc, w1]) ∧
    (∀ it : Item, it.poison = true ∨ it.words.length ≠ 4 → exec (.estimateRequest it) s = .next s) ∧
    (∀ tg mv, x.motion = .dwell tg → x.running = some mv → x.kin.vel = 0 → x.kin.acc = 0 →
      0 ≤ (s.mpi.limits p.val { mv with arg := tg }).vm →
      Completes (.revdwellExpire p) s fun t =>
        (t.planners.get Planner.reset p.val).motion =
          .plan x.kin 0 (planTo x.kin tg (s.mpi.limits p.val { mv with arg := tg })).pre
            (planTo x.kin tg (s.mpi.limits p.val { mv with arg := tg })).pieces (.arrive tg)) ∧
    (∀ tg mv, x.motion = .arriving tg → x.running = some mv → mv.fusion = false → mv.id ≠ 0xFFFFFFFE →
      Completes (.arrwaitExpire p) s fun t =>
        (t.planners.get Planner.reset p.val).motion = .rest ∧ (t.planners.get Planner.reset p.val).running = none ∧
        (t.planners.get Planner.reset p.val).moves = satInc x.moves ∧ (t.planners.get Planner.reset p.val).last = 0x08) ∧
    (s.stepper p.val = true → x.running = none → x.motion = .rest →
      Completes (.holddlyExpire p) s fun t =>
        (t.planners.get Planner.reset p.val).standing = true ∧ (t.planners.get Planner.reset p.val).kin = x.kin ∧
        t = { s with planners := t.planners }) ∧
    (∀ w : Word, s.planKind p.val ≠ 0 → w.getLsbD 1 = false →
      Completes (.esync p w) s fun t =>
        (t.planners.get Planner.reset p.val).sync = true ∧
        (t.planners.get Planner.reset p.val).eorg = x.eorg + (x.kin.lsb - s.mpi.encPos p.val) ∧
        (t.planners.get Planner.reset p.val).moves = x.moves) ∧
    (∀ w : Word, s.planKind p.val ≠ 0 → w.getLsbD 2 = false →
      Completes (.plannerClrcnt p w) s fun t =>
        (t.planners.get Planner.reset p.val).moves = 0 ∧ (t.planners.get Planner.reset p.val).sync = x.sync) ∧
    (∀ w : Word, s.planKind p.val ≠ 0 → x.motion = .rest →
      Completes (.stalledClear p w) s fun t =>
        (t.planners.get Planner.reset p.val).stalled = false ∧ (t.planners.get Planner.reset p.val).kin = x.kin) ∧
    (∀ w : Word, s.planKind p.val = 0 ∨ x.motion ≠ .rest → exec (.stalledClear p w) s = .next s) ∧
    (∀ c, c ∈ [Instr.revdwellExpire p, .arrwaitExpire p] → x.motion = .rest → exec c s = .next s)

/-- The loop engines. A free engine (4 to 7) takes one input item per sample: with no slot enabled its output is 0 and WIN
reads 7, and one proportional slot gives its clamped term (R302, R303, R307); a sample without its input is a miss (R313). A
motor's loop is evaluated in RUN only (R301) and never in stepper mode (R318), a free engine at every RATEDIV-th cycle (R299).
RESETI, CLRCNT and HOLD act as R328 and R312 say, and an engine that does not run is left as it is. The model's choice, not
the spec's: which missing item is a miss (log entry 38), narrowing (log entry 12), and an engine that is absent or quarantined
does nothing (log entry 68, log entry 52). -/
def Obligations.LoopEnginesSample : Prop :=
  ∀ (s : State) (e : Fin 8),
    let l := s.loops.get Loop.reset e.val
    (∀ it q, 4 ≤ e.val → s.loopRuns e.val = true → s.mc.freeDue e.val = true → s.LEHOLD_HOLD e.val = 1 →
      s.qf.takeItem (0x0530 + 2 * (e.val - 4)) = (some it, q) → it.poison = false →
      (∀ j < 6, (l.cfg s e.val j).en = false) →
      Completes (.loopSample e false) s fun t =>
        (t.loops.get Loop.reset e.val).out = 0 ∧ (t.loops.get Loop.reset e.val).win = 7 ∧
        (t.loops.get Loop.reset e.val).n = BitVec.ofNat 32 (l.n.toNat + 1) ∧ (t.loops.get Loop.reset e.val).run = 0 ∧
        (t.loops.get Loop.reset e.val).copies = l.copies ∧
        (∀ k, k ≠ e.val → t.loops.get Loop.reset k = s.loops.get Loop.reset k)) ∧
    (∀ it q w m, 4 ≤ e.val → s.loopRuns e.val = true → s.mc.freeDue e.val = true → s.LEHOLD_HOLD e.val = 1 →
      s.qf.takeItem (0x0530 + 2 * (e.val - 4)) = (some it, q) → it.poison = false → it.words = [m] →
      (l.copy .LECTL [e.val]).getLsbD 8 = false → w < 6 →
      (∀ j < 6, (l.cfg s e.val j).en = decide (j = w)) →
      let c := l.cfg s e.val w
      c.ssrc = 0 → c.msrc = 0x10 → c.sdir = false → c.mdir = false → c.mneg = false → c.ffen = false → c.rate = 0 → c.ki = 0 →
      c.kd = 0 → c.outmin ≤ 0 → 0 ≤ c.outmax → (l.slots.get Slot.reset w).i = 0 →
      Completes (.loopSample e false) s fun t =>
        (t.loops.get Loop.reset e.val).out =
          min (max (rnDiv (sat64 (c.kp * (c.setp - m.toInt))) (2 ^ 16)) c.outmin) c.outmax ∧
        (t.loops.get Loop.reset e.val).win = BitVec.ofNat 3 w ∧
        (t.loops.get Loop.reset e.val).limited =
          (rnDiv (sat64 (c.kp * (c.setp - m.toInt))) (2 ^ 16) != (t.loops.get Loop.reset e.val).out)) ∧
    (4 ≤ e.val → s.loopRuns e.val = true → s.mc.freeDue e.val = true → s.LEHOLD_HOLD e.val = 1 →
      s.noneWaits [0x0530 + 2 * (e.val - 4)] →
      Completes (.loopSample e false) s fun t =>
        (t.loops.get Loop.reset e.val).miss = true ∧ (t.loops.get Loop.reset e.val).missCount = satInc l.missCount ∧
        (t.loops.get Loop.reset e.val).run = satInc l.run ∧ (t.loops.get Loop.reset e.val).out = l.out ∧
        (t.loops.get Loop.reset e.val).fault =
          (l.fault || decide ((satInc l.run).toNat = max 1 (getBits (l.copy .LECTL [e.val]) 15 12)))) ∧
    (4 ≤ e.val → s.mc.freeDue e.val = false → ∀ late, exec (.loopSample e late) s = .next s) ∧
    (∀ late, e.val < 4 → s.motorMode e.val = 2 → s.loopRuns e.val = true → s.LEHOLD_HOLD e.val = 1 →
      exec (.loopSample e late) s = .next s) ∧
    (e.val < 4 → s.motorMode e.val ≠ 2 → s.loopRuns e.val = true → s.LEHOLD_HOLD e.val = 1 →
      s.routedTo ((6 + e.val) * 0x100) = false →
      s.noneWaits [(6 + e.val) * 0x100 + 2] → (s.motors.get Motor.reset e.val).bridge ≠ .run →
      Completes (.loopSample e false) s fun t =>
        t.loops.get Loop.reset e.val = { l with auxAge := l.auxAge + 1 } ∧
        t.motors.get Motor.reset e.val = { s.motors.get Motor.reset e.val with iqd := l.out }) ∧
    (e.val < 4 → s.loopRuns e.val = true → s.LEHOLD_HOLD e.val = 1 → s.routedTo ((6 + e.val) * 0x100) = false →
      s.motorMode e.val = 1 → s.noneWaits [(6 + e.val) * 0x100 + 2] → l.aux = none →
        (s.motors.get Motor.reset e.val).bridge = .run →
      (∀ j < 6, (l.cfg s e.val j).en = false) → l.usesAux s e.val (s.speedTime * s.speedHz / 1000000) = false →
      Completes (.loopSample e false) s fun t =>
        (t.loops.get Loop.reset e.val).out = 0 ∧ (t.loops.get Loop.reset e.val).win = 7 ∧
        (t.loops.get Loop.reset e.val).n = BitVec.ofNat 32 (s.speedTime * s.speedHz / 1000000)) ∧
    (∀ late, s.loopRuns e.val = false → exec (.loopSample e late) s = .next s) ∧
    (∀ w : Word,
      Completes (.reseti e w) s fun t =>
        t.loops.get Loop.reset e.val =
          { l with resetI := true, missCount := if w.getLsbD 0 then 0 else l.missCount } ∧
        t = { s with loops := t.loops }) ∧
    (∀ w : Word,
      Completes (.loopClrcnt e w) s fun t =>
        t.loops.get Loop.reset e.val = { l with resetI := l.resetI || w.getLsbD 1, missCount := 0 } ∧
        t = { s with loops := t.loops }) ∧
    (∀ w : Word, s.rwlOpen .LEHOLD [e.val] → w.getLsbD 0 = true →
      Completes (.holdWrite e w) s fun t =>
        t.LEHOLD_HOLD e.val = 1 ∧ t.loops.get Loop.reset e.val = { l with held := true } ∧
        t = { s with loops := t.loops, regs := t.regs, persist := t.persist }) ∧
    (∀ w : Word, s.rwlOpen .LEHOLD [e.val] → w.getLsbD 0 = false →
      Completes (.holdWrite e w) s fun t => t.LEHOLD_HOLD e.val = 0 ∧ t = { s with regs := t.regs, persist := t.persist })

/-- The bridge of a motor engine. A current above OCLIM, a low gate supply and the external fault input stop it in FAULT with
their cause and gates low (R319); in RUN the field-oriented sample drives duties within 0 and 32 767 (R317); ENABLE starts it,
through ALIGN in field-oriented mode, and 0 returns it to IDLE (R315); CLRFLT leaves FAULT only with ENABLE 0 and no cause
present. The model's choice, not the spec's: the order in a current sample and when a cause is present (log entry 39), and an
engine that is absent or quarantined does nothing (log entry 68, log entry 52). -/
def Obligations.BridgeStartsAndStops : Prop :=
  ∀ (s : State) (m : Fin 4),
    let x := s.motors.get Motor.reset m.val
    let mot (t : State) : Motor := t.motors.get Motor.reset m.val
    (∀ shunts vdc ohm, s.motorRuns m.val = true → s.motorMode m.val = 1 → x.bridge = .run →
      (s.MC_OCLIM m.val : Int) < absInt (((s.mc.convert m.val shunts vdc ohm).motor m.val).icur.get 0 0) →
      Completes (.currentSample m shunts vdc ohm) s fun t =>
        (mot t).bridge = .fault ∧ (mot t).oc = true ∧ (mot t).gates = .low ∧ (mot t).ocNow = true ∧
        (t.loops.get Loop.reset m.val).out = 0) ∧
    (∀ shunts vdc ohm, s.motorRuns m.val = true → s.motorMode m.val = 1 → x.bridge = .run →
      (∀ j < 3, absInt (((s.mc.convert m.val shunts vdc ohm).motor m.val).icur.get 0 j) ≤ s.MC_OCLIM m.val) →
      (s.MC_VDCMIN m.val : Int) ≤ ((s.mc.convert m.val shunts vdc ohm).motor m.val).vdc →
      Completes (.currentSample m shunts vdc ohm) s fun t =>
        (mot t).bridge = .run ∧
        (match (mot t).gates with
          | .duty a b c d => decide (d = 0 ∧ 0 ≤ a ∧ a ≤ 32767 ∧ 0 ≤ b ∧ b ≤ 32767 ∧ 0 ≤ c ∧ c ≤ 32767)
          | _ => false) = true) ∧
    (∀ shunts vdc ohm, s.motorRuns m.val = true → s.motorMode m.val = 1 → x.bridge = .run →
      (∀ j < 3, absInt (((s.mc.convert m.val shunts vdc ohm).motor m.val).icur.get 0 j) ≤ s.MC_OCLIM m.val) →
      ((s.mc.convert m.val shunts vdc ohm).motor m.val).vdc < s.MC_VDCMIN m.val →
      Completes (.currentSample m shunts vdc ohm) s fun t =>
        (mot t).bridge = .idle ∧ (mot t).dclow = true ∧ (mot t).gates = .low) ∧
    (∀ mv : Word, s.motorRuns m.val = true → mv.toNat < 10500 → x.bridge ≠ .fault →
      Completes (.bridgeGduv m mv) s fun t =>
        (mot t).bridge = .fault ∧ (mot t).gduv = true ∧ (mot t).gduvNow = true ∧ (mot t).gates = .low ∧
        (t.loops.get Loop.reset m.val).out = 0) ∧
    (∀ mv : Word, s.motorRuns m.val = true → 10500 ≤ mv.toNat →
      Completes (.bridgeGduv m mv) s fun t => mot t = { x with gduvNow := false } ∧ t = { s with motors := t.motors }) ∧
    (s.motorRuns m.val = true → s.padUsed (380 + 26 * m.val) = true → x.bridge ≠ .fault →
      Completes (.bridgeExtf m true) s fun t =>
        (mot t).bridge = .fault ∧ (mot t).extf = true ∧ (mot t).extfNow = true ∧ (mot t).gates = .low) ∧
    (∀ on, s.padUsed (380 + 26 * m.val) = false → exec (.bridgeExtf m on) s = .next s) ∧
    (s.motorRuns m.val = true → s.padUsed (380 + 26 * m.val) = true →
      Completes (.bridgeExtf m false) s fun t => mot t = { x with extfNow := false } ∧ t = { s with motors := t.motors }) ∧
    (s.motorRuns m.val = true → x.bridge = .align →
      Completes (.alignDone m) s fun t =>
        (mot t).bridge = .run ∧ (mot t).aligned = true ∧ (mot t).angofs = BitVec.ofInt 16 (-(s.mc.encAngle m.val)) ∧
        (mot t).jd = 0 ∧ (mot t).jq = 0 ∧ (t.loops.get Loop.reset m.val).out = 0) ∧
    (s.motorRuns m.val = false ∨ x.bridge ≠ .align → exec (.alignDone m) s = .next s) ∧
    (∀ w : Word, s.motorMode m.val = 1 → getBits w 2 1 = 0 → w.getLsbD 0 = true → x.bridge = .idle →
      x.calst = 0 ∨ x.calst = 3 →
      x.aligned = false →
      Completes (.enableWrite m w) s fun t =>
        mot t = { x with bridge := .align, jd := 0, jq := 0 } ∧ t.reg .MC_CTL [m.val] = 1 ∧ t.loops = s.loops) ∧
    (∀ w : Word, s.motorMode m.val = 2 ∨ s.motorMode m.val = 1 ∧ x.aligned = true → getBits w 2 1 = 0 → w.getLsbD 0 = true →
      x.bridge = .idle → x.calst = 0 ∨ x.calst = 3 →
      Completes (.enableWrite m w) s fun t =>
        mot t = { x with bridge := .run, jd := 0, jq := 0, iqd := 0 } ∧ (t.loops.get Loop.reset m.val).out = 0 ∧
        (t.loops.get Loop.reset m.val).fresh = true ∧ t.reg .MC_CTL [m.val] = 1) ∧
    (∀ w : Word, s.motorMode m.val ≠ 0 → getBits w 2 0 = 0 → x.bridge = .run ∨ x.bridge = .align → x.calst = 0 ∨ x.calst = 3 →
      Completes (.enableWrite m w) s fun t =>
        mot t = { x with bridge := .idle, gates := .low, iqd := 0 } ∧ (t.loops.get Loop.reset m.val).out = 0 ∧
        t.reg .MC_CTL [m.val] = 0) ∧
    (∀ w : Word, s.motorMode m.val ≠ 0 → w.getLsbD 0 = false → w.getLsbD 1 = false → x.bridge = .fault →
      x.causePresent = false →
      x.calst = 0 ∨ x.calst = 3 →
      Completes (.mcClrflt m w) s fun t =>
        mot t = { x with bridge := .idle, gates := .low, iqd := 0 } ∧ t.reg .MC_CTL [m.val] = 0) ∧
    (∀ w : Word, s.motorMode m.val ≠ 0 → w.getLsbD 1 = false → x.bridge = .fault →
      x.causePresent = true ∨ w.getLsbD 0 = true →
      Completes (.mcClrflt m w) s fun t => mot t = x)

/-- A calibration runs at once in IDLE and waits for IDLE elsewhere (R324); its means become the offsets, and one above 400
stops the bridge in FAULT with ADCF; a start's calibration is run once more (R131). A speed boundary takes VEL and FBPOS from
the encoder (R320), FBSET moves the origin, and the battery item carries VDC and ICUR3 (R323). The model's choice, not the
spec's: the order in a sample and the offsets of a failed calibration (log entry 39), how the start's calibration is repeated
(log entry 20), and an absent or quarantined engine does nothing (log entry 68, log entry 52). -/
def Obligations.MotorMeasurementsAreTaken : Prop :=
  ∀ (s : State) (m : Fin 4),
    let x := s.motors.get Motor.reset m.val
    let mot (t : State) : Motor := t.motors.get Motor.reset m.val
    (∀ w : Word, s.motorMode m.val ≠ 0 → w.getLsbD 2 = false → x.bridge = .idle → x.calst = 0 ∨ x.calst = 3 →
      Completes (.calStart m w) s fun t =>
        mot t = { x with calst := 1 } ∧ t.reg .MC_CTL [m.val] = w &&& 1 ∧ t.loops = s.loops) ∧
    (∀ w : Word, s.motorMode m.val ≠ 0 → w.getLsbD 2 = false → w.getLsbD 0 = true → x.bridge = .run →
      x.calst = 0 ∨ x.calst = 3 →
      Completes (.calStart m w) s fun t => mot t = { x with calst := 2 }) ∧
    (∀ a b c d : Int, s.motorRuns m.val = true → x.calst = 1 → x.bridge = .idle → s.MC_CTL_ENABLE m.val = 0 →
      (∀ v ∈ [a, b, c, d], absInt (rnDiv v 256) ≤ 400) →
      Completes (.calComplete m [a, b, c, d]) s fun t =>
        (mot t).calst = 3 ∧ (mot t).iofs.get 0 0 = rnDiv a 256 ∧ (mot t).iofs.get 0 1 = rnDiv b 256 ∧
        (mot t).iofs.get 0 2 = rnDiv c 256 ∧ (mot t).iofs.get 0 3 = rnDiv d 256 ∧ (mot t).bridge = .idle) ∧
    (∀ a b c d : Int, s.motorRuns m.val = true → x.calst = 1 → x.startCal ≠ 1 →
      400 < absInt (rnDiv a 256) →
      Completes (.calComplete m [a, b, c, d]) s fun t =>
        (mot t).calst = 3 ∧ (mot t).bridge = .fault ∧ (mot t).adcf = true ∧ (mot t).iofs.get 0 0 = rnDiv a 256 ∧
        (mot t).iofs.get 0 1 = rnDiv b 256 ∧ (mot t).iofs.get 0 2 = rnDiv c 256 ∧ (mot t).iofs.get 0 3 = rnDiv d 256 ∧
        (x.startCal = 2 → (mot t).startCal = 3)) ∧
    (∀ a b c d : Int, s.motorRuns m.val = true → x.calst = 1 → x.startCal = 1 → 400 < absInt (rnDiv a 256) →
      Completes (.calComplete m [a, b, c, d]) s fun t =>
        (mot t).calst = 1 ∧ (mot t).startCal = 2 ∧ (mot t).bridge = x.bridge ∧ (mot t).iofs.get 0 0 = rnDiv a 256) ∧
    (∀ sums, s.motorRuns m.val = false ∨ x.calst ≠ 1 → exec (.calComplete m sums) s = .next s) ∧
    (∀ late, s.motorRuns m.val = true → s.motorMode m.val = 2 → s.LEHOLD_HOLD m.val = 1 →
      let c := s.mc.encCount m.val
      Completes (.speedSample m late) s fun t =>
        mot t = { x with
          vel := sat32 (x.vel + rnDiv (rnDiv (sDiff c x.speedCount * s.fbScale m.val * 10 * s.speedHz) (2 ^ 16) - x.vel)
            (2 ^ s.MC_VFILT m.val)),
          speedCount := c,
          fbpos := sat32 (x.fborg + downDiv (c.toInt * s.fbScale m.val) (2 ^ 16)) } ∧
        t = { s with motors := t.motors }) ∧
    (∀ late, s.motorRuns m.val = true → s.motorMode m.val = 1 → s.isDoor m.val = false → s.LEHOLD_HOLD m.val = 1 →
      s.routedTo ((6 + m.val) * 0x100) = false → s.noneWaits [(6 + m.val) * 0x100 + 2] → x.bridge ≠ .run →
      Completes (.speedSample m late) s fun t =>
        (mot t).fbpos = sat32 (x.fborg + downDiv ((s.mc.encCount m.val).toInt * s.fbScale m.val) (2 ^ 16)) ∧
        (mot t).bridge = x.bridge ∧ (mot t).iqd = (s.loops.get Loop.reset m.val).out) ∧
    (∀ late, s.motorRuns m.val = false → exec (.speedSample m late) s = .next s) ∧
    (∀ w : Word,
      Completes (.fbset m w) s fun t =>
        mot t = { x with fborg := w.toInt - downDiv ((s.mc.encCount m.val).toInt * s.fbScale m.val) (2 ^ 16) } ∧
        t = { s with motors := t.motors }) ∧
    (s.motorRuns m.val = true →
      exec (.batteryItemTick m) s =
        .next (s.post ((6 + m.val) * 0x100 + 0x0A) [satWord x.vdc, satWord (x.icur.get 0 3)])) ∧
    (s.motorRuns m.val = false → exec (.batteryItemTick m) s = .next s)

/-- A door command whose requirements are met is accepted: its state is entered, ACCEPTED goes out and the moves go to the
planner (R335, R345 to R348); a command without its requirement is answered REFUSED with the first detail of R346 that applies
and nothing else changes; a wrong item is refused with detail 6. An engine without the door function does nothing, and a
command waits while a tempo switch runs (R40). The model's choice, not the spec's: what becomes of the commands that still run
(log entry 40), the order of a sample (log entry 41), the wait while a tempo switch runs (log entry 30), and an engine that is
absent or quarantined does nothing (log entry 68, log entry 52). -/
def Obligations.DoorCommandsAreAcceptedOrRefused : Prop :=
  ∀ (s : State) (m : Fin 4) (w id : Word),
    let d := s.doors.get Door.reset m.val
    let dr (t : State) : Door := t.doors.get Door.reset m.val
    let port := (6 + m.val) * 0x100
    let tag := getBits w 7 0
    let job : DoorJob := { tag := BitVec.ofNat 8 tag, id := id }
    let it : Item := { words := [w, id], poison := false }
    let pos := satWord (s.motors.get Motor.reset m.val).fbpos
    let event (ev : Nat) (st : DoorState) (detail : Nat) : List Word :=
      [BitVec.ofNat 32 (tag + ev * 2 ^ 8 + doorCode st * 2 ^ 16 + detail * 2 ^ 20), id, pos, lowWord s.dev]
    let go : Prop := s.isDoor m.val = true ∧ s.runs (motorIsland m.val) = true ∧ s.switching = false ∧ getBits w 31 12 = 0
    let ready : Prop := d.homed = true ∧ d.learned = true ∧ (s.motors.get Motor.reset m.val).bridge = .run
    (go → ready → d.stat = .closed ∨ d.stat = .stopped → d.permit = true → s.MC_DSTATION_SESSREQ m.val = 1 →
      d.session = true →
      d.jobs = [] →
      Completes (.doorOpen m it) s fun t =>
        (dr t).stat = .opening ∧ (dr t).jobs = [job] ∧ (dr t).goal = .travel ∧ (dr t).lastEv = 0x0A ∧
        t.qf = (s.qf.post (port + 9) (event 0x0A .opening 0)).post (port + 4)
          [BitVec.ofNat 32 (tag + 2 ^ 8), s.reg .MC_DTRAVEL [m.val],
           satWordU (s.mc.moveVmax m.val (s.MC_DOPENV m.val) false true false), 0, 0, 0, id, 0]) ∧
    (go → ready → d.stat = .open_ ∨ d.stat = .stopped → d.edge = false → d.curtain = false → d.jobs = [] →
      Completes (.doorClose m it) s fun t =>
        (dr t).stat = .closing ∧ (dr t).jobs = [job] ∧ (dr t).goal = .close ∧
        t.qf = (s.qf.post (port + 9) (event 0x0A .closing 0)).post (port + 4)
          [BitVec.ofNat 32 (tag + 2 ^ 8), 0, satWordU (s.mc.moveVmax m.val (s.MC_DCLOSEV m.val) false false false), 0, 0, 0, id, 0]) ∧
    (go → ready → d.stat = .open_ ∨ d.stat = .stopped → d.edge = false → d.goal = .none → d.jobs = [] →
      Completes (.doorNudge m it) s fun t =>
        (dr t).stat = .nudging ∧ (dr t).jobs = [job] ∧ (dr t).goal = .close ∧
        t.qf = (s.qf.post (port + 9) (event 0x0A .nudging 0)).post (port + 4)
          [BitVec.ofNat 32 (tag + 2 ^ 8), 0, satWordU (s.mc.moveVmax m.val (s.MC_DNUDGEV m.val) true false false), 0, 0, 0, id, 0]) ∧
    (go → d.stat = .opening ∨ d.stat = .closing → d.jobs = [] → d.goal ≠ .none →
      Completes (.doorStop m it) s fun t =>
        (dr t).stat = .stopped ∧ (dr t).jobs = [job] ∧ (dr t).stopping = some (0x03, 0x1A) ∧ (dr t).goal = d.goal ∧
        t.qf = (s.qf.post (port + 9) (event 0x0A .stopped 0)).post (port + 4)
          [BitVec.ofNat 32 (tag + 6 * 2 ^ 8 + 2 ^ 14), 0, 0, 0, 0, 0, 0xFFFFFFFF, 0]) ∧
    (go → d.stat = .closed ∨ d.stat = .open_ ∨ d.stat = .stopped ∨ d.stat = .unhomed →
      Completes (.doorStop m it) s fun t =>
        dr t = { d with lastEv := 0x08, detail := 0 } ∧ t.qf = s.qf.post (port + 9) (event 0x08 d.stat 0)) ∧
    (go → d.stat = .unhomed ∨ d.stat = .closed ∨ d.stat = .open_ ∨ d.stat = .stopped →
      (s.motors.get Motor.reset m.val).bridge = .run → d.jobs = [] →
      Completes (.doorHome m it) s fun t =>
        (dr t).stat = .homing ∧ (dr t).jobs = [job] ∧ (dr t).goal = .home ∧
        t.qf = (s.qf.post (port + 9) (event 0x0A .homing 0)).post (port + 4)
          [BitVec.ofNat 32 (tag + 3 * 2 ^ 8), toWord (-(s.MC_DHOMEV m.val : Int)),
           satWordU (s.mc.moveVmax m.val (s.MC_DHOMEV m.val) false false true), 0, 0, 0, id, 0]) ∧
    (go → d.stat = .closed → d.homed = true → (s.motors.get Motor.reset m.val).bridge = .run → d.permit = true →
      s.MC_DSTATION_SESSREQ m.val = 0 → d.jobs = [] →
      Completes (.doorLearn m it) s fun t =>
        (dr t).stat = .learning ∧ (dr t).jobs = [job] ∧ (dr t).goal = .learn ∧ (dr t).phase = 1 ∧
          (dr t).sums = LearnSums.reset ∧
        t.qf = (s.qf.post (port + 9) (event 0x0A .learning 0)).post (port + 4)
          [BitVec.ofNat 32 (tag + 3 * 2 ^ 8), toWord (s.MC_DLRNV m.val : Int),
           satWordU (s.mc.moveVmax m.val (s.MC_DLRNV m.val) false true true), 0, 0, 0, id, 0]) ∧
    (go → d.stat = .unhomed → ∀ c, c ∈ [Instr.doorOpen m it, .doorClose m it, .doorNudge m it, .doorLearn m it] →
      Completes c s fun t =>
        dr t = { d with lastEv := 0x07, detail := 0x01 } ∧ t.qf = s.qf.post (port + 9) (event 0x07 .unhomed 0x01)) ∧
    (go → ready → d.stat = .closed → d.permit = false →
      Completes (.doorOpen m it) s fun t =>
        dr t = { d with lastEv := 0x07, detail := 0x04 } ∧ t.qf = s.qf.post (port + 9) (event 0x07 .closed 0x04)) ∧
    (go → ready → d.stat = .open_ → d.edge = true →
      ∀ c, c ∈ [Instr.doorClose m it, .doorNudge m it] →
      Completes c s fun t =>
        dr t = { d with lastEv := 0x07, detail := 0x08 } ∧ t.qf = s.qf.post (port + 9) (event 0x07 .open_ 0x08)) ∧
    (s.isDoor m.val = true → s.runs (motorIsland m.val) = true → s.switching = false →
      ∀ c, c ∈ [Instr.doorOpen m { it with poison := true }, .doorClose m { it with poison := true },
        .doorNudge m { it with poison := true }, .doorStop m { it with poison := true }, .doorHome m { it with poison := true },
        .doorLearn m { it with poison := true }] →
      Completes c s fun t => dr t = { d with lastEv := 0x07, detail := 0x06 } ∧ t.motors = s.motors) ∧
    (s.isDoor m.val = false ∨ s.runs (motorIsland m.val) = false ∨ s.switching = true →
      ∀ c, c ∈ [Instr.doorOpen m it, .doorClose m it, .doorNudge m it, .doorStop m it, .doorHome m it, .doorLearn m it] →
        exec c s = .next s)

/-- What reaches a door beside its commands. A good input item gives its levels, a stale one their safe values (R341, R342), a
CLOSELIM level counts once it has held (R343), a completed move ends its command (R347, R349), a session item gives SESSION
(R358), CLOSEWAIT and a home run that finds no stall end in STOPPED and UNHOMED (R349, R360), and SESSGRACE nudges the door
closed (R359). The model's choice, not the spec's: which command an event ends (log entry 40), the order of a sample and
single details (log entry 41), the moment of a session item (log entry 30), that the row is the moment (log entry 5), and an
absent engine does nothing (log entry 68). -/
def Obligations.DoorInputsAndEventsAreFollowed : Prop :=
  ∀ (s : State) (m : Fin 4),
    let d := s.doors.get Door.reset m.val
    let dr (t : State) : Door := t.doors.get Door.reset m.val
    let port := (6 + m.val) * 0x100
    s.isDoor m.val = true → s.runs (motorIsland m.val) = true →
    (∀ w x : Word, getBits w 4 0 + getBits w 20 16 = 31 → getBits w 4 0 &&& getBits w 20 16 = 0 → d.hasCloseLim = false →
      d.closeLim = false → d.closePend = none → d.permit = false ∨ (mappedCode (getBits d.map 29 24) = true ∧
        w.getLsbD 4 = true) →
      Completes (.doorInputItem m { words := [w, x], poison := false }) s fun t =>
        dr t = { d with
          stale := false,
          edge := mappedCode (getBits d.map 5 0) && !w.getLsbD 0,
          curtain := mappedCode (getBits d.map 11 6) && !w.getLsbD 1,
          coupled := mappedCode (getBits d.map 23 18) && w.getLsbD 3,
          permit := mappedCode (getBits d.map 29 24) && w.getLsbD 4 } ∧
        t = { s with doors := t.doors }) ∧
    (∀ it : Item, it.poison = true ∨ it.words.length ≠ 2 → exec (.doorInputItem m it) s = .next s) ∧
    (d.stale = false → d.permit = false →
      Completes (.doorInputStale m) s fun t =>
        dr t = { d with stale := true, closeLim := false, closePend := none, edge := true, curtain := true, coupled := false,
                        permit := false } ∧
        t.recorder = s.recorder.put s.dev (6 + m.val) (port + 0x2A) [BitVec.ofNat 8 m.val, BitVec.ofNat 8 (doorCode d.stat)]) ∧
    (d.stale = true → exec (.doorInputStale m) s = .next s) ∧
    (∀ (w a b c : Word) j, getBits w 15 8 = 2 → getBits w 19 16 = 1 → d.oldMoves = 0 → d.stopping = none → d.goal = .travel →
      d.jobs = [j] →
      Completes (.doorPlannerEvent m { words := [w, a, b, c], poison := false }) s fun t =>
        (dr t).stat = .open_ ∧ (dr t).jobs = [] ∧ (dr t).goal = .none ∧ (dr t).lastEv = 0x01 ∧
        t.qf = s.qf.post (port + 9) [BitVec.ofNat 32 (j.tag.toNat + 2 ^ 8 + 4 * 2 ^ 16), j.id,
          satWord (s.motors.get Motor.reset m.val).fbpos, lowWord s.dev]) ∧
    (∀ (w a b c : Word), getBits w 15 8 = 2 → getBits w 19 16 = 1 → d.oldMoves = 0 → d.stopping = none → d.goal = .close →
      d.stat = .closing → (s.motors.get Motor.reset m.val).fbpos ≤ s.MC_DCLOSETOL m.val → d.hasCloseLim = true →
        d.closeLim = true →
      Completes (.doorPlannerEvent m { words := [w, a, b, c], poison := false }) s fun t =>
        (dr t).stat = .closed ∧ (dr t).jobs = [] ∧ (dr t).goal = .none ∧ (dr t).completed = false) ∧
    (∀ it : Item, it.poison = true ∨ it.words.length ≠ 4 → exec (.doorPlannerEvent m it) s = .next s) ∧
    (∀ w x : Word, w.getLsbD 0 = true → getBits w 15 8 = s.MC_DSTATION_STATION m.val → 0 < sDiff x (lowWord s.dev) →
      Completes (.sessionItem m { words := [w, x], poison := false }) s fun t =>
        dr t = { d with sessLive := true, sessStation := BitVec.ofNat 8 (getBits w 15 8), sessExpiry := x, sessAt := some s.dev,
                        session := true } ∧
        t = { s with doors := t.doors }) ∧
    (∀ w x : Word, w.getLsbD 0 = false → d.stat ≠ .opening →
      Completes (.sessionItem m { words := [w, x], poison := false }) s fun t =>
        (dr t).session = false ∧ (dr t).stat = d.stat ∧ t = { s with doors := t.doors }) ∧
    (∀ l, d.closePend = some l → d.completed = false →
      Completes (.closelimEdge m) s fun t =>
        dr t = { d with closeLim := l, closePend := none } ∧ t = { s with doors := t.doors }) ∧
    (∀ j, d.completed = true → d.stat = .closing → (s.MC_DCLOSETOL m.val : Int) < (s.motors.get Motor.reset m.val).fbpos →
      d.jobs = [j] →
      Completes (.closewaitExpire m) s fun t =>
        (dr t).stat = .stopped ∧ (dr t).jobs = [] ∧ (dr t).completed = false ∧ (dr t).lastEv = 0x03 ∧ (dr t).detail = 0x18) ∧
    (d.completed = false → exec (.closewaitExpire m) s = .next s) ∧
    (∀ j, d.stat = .homing → d.jobs = [j] →
      Completes (.homeTimeout m) s fun t =>
        (dr t).stat = .unhomed ∧ (dr t).homed = false ∧ (dr t).jobs = [] ∧ (dr t).lastEv = 0x09 ∧ (dr t).detail = 0x21) ∧
    (d.stat ≠ .homing → exec (.homeTimeout m) s = .next s) ∧
    (s.MC_DSTATION_SESSREQ m.val = 1 → d.session = false → d.stat = .open_ ∨ d.stat = .stopped → d.goal = .none →
      d.jobs = [] →
      Completes (.sessgraceExpire m) s fun t =>
        (dr t).stat = .nudging ∧ (dr t).jobs = [{ tag := 0, id := 0xFFFFFFFD }] ∧ (dr t).goal = .close ∧
          (dr t).lastEv = 0x0C ∧
        (dr t).detail = 0x17) ∧
    (d.session = true → exec (.sessgraceExpire m) s = .next s)

/-- An edge contact pressed while the door closes reverses it at the next speed sample (R351, R352): REVERSING, OBSPOS and
REVCOUNT taken, and the target of R353, TRAVEL where the door may open fully and at most REVLIM further otherwise, posted to
its planner behind an ABORT of the closing move. The model's choice, not the spec's: the order of a sample, detection first
(log entry 41), and which command the reversal supersedes (log entry 40). -/
def Obligations.AnObstructedDoorReverses : Prop :=
  ∀ (s : State) (m : Fin 4) (late : Bool),
    let d := s.doors.get Door.reset m.val
    let x := s.motors.get Motor.reset m.val
    let dr (t : State) : Door := t.doors.get Door.reset m.val
    let port := (6 + m.val) * 0x100
    let target (t : State) : Int :=
      if d.permit = true ∧ s.MC_DSTATION_SESSREQ m.val = 0 then (s.reg .MC_DTRAVEL [m.val]).toInt
      else min (s.reg .MC_DTRAVEL [m.val]).toInt ((t.motors.get Motor.reset m.val).fbpos + s.MC_DREVLIM m.val)
    s.isDoor m.val = true → s.motorRuns m.val = true → s.LEHOLD_HOLD m.val = 1 →
    s.noneWaits [port, port + 2, port + 5, port + 6, port + 7, port + 8] →
    x.bridge = .run → d.stat = .closing → d.edge = true → d.completed = false →
    d.ekRun + 1 < s.MC_DEORUN m.val → 0 < s.MC_DOBSRUN m.val →
    s.MC_DCOUPLEPOS m.val = 0 ∨ d.hasCoupled = false ∨ d.coupled = true →
    d.permit = false ∨ s.MC_DSTATION_SESSREQ m.val = 0 →
      Completes (.speedSample m late) s fun t =>
        (dr t).stat = .reversing ∧ (dr t).obsPos = (t.motors.get Motor.reset m.val).fbpos ∧
        (dr t).revCount = satInc d.revCount ∧ (dr t).lastEv = 0x04 ∧
        (dr t).goal = (if target t = (s.reg .MC_DTRAVEL [m.val]).toInt then .travel else .short) ∧
        (∀ n q, s.fabric.stopped = false → s.fabric.queue n = some q →
          s.fabric.built.filter (fun e => e.2.route.producer.toNat == port + 4) = [(n, q)] → q.broken = false →
          q.route.cmdq = false → q.opened = none → q.items = [] → 2 ≤ q.route.capacity → q.wcnt % 8 = 0 →
          ∃ q', t.fabric.queue n = some q' ∧
            q'.items.map (fun it => (getBits (it.words.getD 0 0) 11 8, it.words.getD 1 0)) = [(6, 0), (1, satWord (target t))])

/-- Call items. A hall call or car call that no open context answers becomes a REGISTERED context and is ACCEPTED; one that an
open context answers is MERGED (R384); a wrong or poisoned one is REFUSED (R383); CANCEL frees a context not yet served
(R385). STANDBY discards calls (R405), and a scheduler that is not instantiated or only checks sessions takes none. The
model's choice, not the spec's: what an item of a group scheduler does (log entry 42, log entry 43), and a scheduler that is
absent or quarantined does nothing (log entry 68, log entry 52). -/
def Obligations.CallItemsOpenMergeAndCancelContexts : Prop :=
  ∀ (s : State) (w0 w1 : Word),
    let ctx (t : State) (i : Nat) : Option Ctx := t.sched.ctxs.get none i
    let floor := getBits w0 23 16
    let tag := getBits w0 7 0
    let it : Item := { words := [w0, w1, 0, 0, 0, 0], poison := false }
    let event (ev detail idx car : Nat) : List Word :=
      [BitVec.ofNat 32 (tag + ev * 2 ^ 8 + detail * 2 ^ 16 + floor * 2 ^ 24), BitVec.ofNat 32 (idx + car * 2 ^ 16), 0, lowWord s.dev]
    let works : Prop := s.schRuns = true ∧ s.schMode ≠ 3 ∧ s.sched.stat ≠ .standby
    let fields : Prop := getBits w0 15 12 = 0 ∧ getBits w0 31 28 = 0 ∧ getBits w1 31 16 = 0
    let isNew (t : State) (i : Nat) (kind : CtxKind) (car : Option Nat) : Prop :=
      (∃ x, ctx t i = some x ∧ x.stat = .registered ∧ x.kind = kind ∧ x.floor = floor ∧ x.car = car ∧
        x.tag = BitVec.ofNat 8 tag ∧ x.time = s.dev ∧ x.order = s.sched.nextOrder + 1) ∧
      (∀ j, j ≠ i → ctx t j = ctx s j) ∧ t.sched.nextOrder = s.sched.nextOrder + 1
    (∀ c kind i, (c, kind) ∈ [(Instr.hallUp it, CtxKind.hallUp), (Instr.hallDn it, CtxKind.hallDn)] → works → fields →
      s.schMember = false → (∃ car ∈ s.carList, s.served car floor = true) →
      s.sched.open_.find? (fun e => e.2.kind == kind && e.2.floor == floor) = none →
      (List.range 1024).find? (fun i => (ctx s i).isNone) = some i →
      Completes c s fun t => isNew t i kind none ∧ t.qf = s.qf.post 0x0A04 (event 0x01 0 i 0x1F)) ∧
    (∀ i, works → fields → s.schMode = 1 → s.served s.SCH_CTL_OWNCAR floor = true →
      s.sched.open_.find? (fun e => e.2.kind == .car && e.2.floor == floor && e.2.car == some s.SCH_CTL_OWNCAR) = none →
      (List.range 1024).find? (fun i => (ctx s i).isNone) = some i →
      Completes (.carCall it) s fun t =>
        isNew t i .car (some s.SCH_CTL_OWNCAR) ∧ t.qf = s.qf.post 0x0A04 (event 0x01 0 i s.SCH_CTL_OWNCAR)) ∧
    (∀ c kind e, (c, kind) ∈ [(Instr.hallUp it, CtxKind.hallUp), (Instr.hallDn it, CtxKind.hallDn)] → works → fields →
      s.schMember = false → (∃ car ∈ s.carList, s.served car floor = true) →
      s.sched.open_.find? (fun e => e.2.kind == kind && e.2.floor == floor) = some e →
      exec c s = .next (s.post 0x0A04 (event 0x02 0 e.1 (e.2.car.getD 0x1F)))) ∧
    (∀ c, c ∈ [Instr.hallUp it, .hallDn it] → works → fields → s.schMember = true →
      exec c s = .next (s.post 0x0A04 (event 0x03 0x04 0 0x1F))) ∧
    (∀ c, c ∈ [Instr.hallUp it, .hallDn it] → works → fields → s.schMember = false →
      (∀ car ∈ s.carList, s.served car floor = false) →
      exec c s = .next (s.post 0x0A04 (event 0x03 0x03 0 0x1F))) ∧
    (∀ c, c ∈ [Instr.hallUp { it with poison := true }, .hallDn { it with poison := true }, .carCall { it with poison := true },
        .callCancel { it with poison := true }, .sessionOpen { it with poison := true }, .sessionExtend { it with poison := true },
        .sessionClose { it with poison := true }] → works →
      exec c s = .next (s.post 0x0A04 [BitVec.ofNat 32 (3 * 2 ^ 8 + 2 ^ 16), BitVec.ofNat 32 (0x1F * 2 ^ 16), 0, lowWord s.dev])) ∧
    (∀ k i x, works → fields → k ∈ [CtxKind.hallUp, .hallDn] → (∃ car ∈ s.carList, s.served car floor = true) →
      s.sched.open_.find? (fun e => e.2.kind == k && e.2.floor == floor) = some (i, x) → x.stat = .registered → x.car = none →
      Completes (.callCancel { it with words := [w0, w1, BitVec.ofNat 32 (ctxKindCode k), 0, 0, 0] }) s fun t =>
        ctx t i = none ∧ (∀ j, j ≠ i → ctx t j = ctx s j) ∧ t.qf = s.qf.post 0x0A04 (event 0x09 0 i 0x1F)) ∧
    (∀ k i x, works → fields → k ∈ [CtxKind.hallUp, .hallDn] → (∃ car ∈ s.carList, s.served car floor = true) →
      s.sched.open_.find? (fun e => e.2.kind == k && e.2.floor == floor) = some (i, x) → x.stat = .serving →
      exec (.callCancel { it with words := [w0, w1, BitVec.ofNat 32 (ctxKindCode k), 0, 0, 0] }) s =
        .next (s.post 0x0A04 (event 0x03 0x09 0 0x1F))) ∧
    (∀ c, c ∈ [Instr.hallUp it, .hallDn it, .carCall it, .callCancel it, .sessionOpen it, .sessionExtend it, .sessionClose it] →
      s.schRuns = true → s.schMode ≠ 3 → s.sched.stat = .standby →
      exec c s = .next { s with sched := { s.sched with ignored := satInc s.sched.ignored } }) ∧
    (∀ c, c ∈ [Instr.hallUp it, .hallDn it, .carCall it, .callCancel it, .sessionOpen it, .sessionExtend it, .sessionClose it] →
      s.schRuns = false ∨ s.schMode = 3 → exec c s = .next s)

/-- Vault access sessions: OPEN makes a session of a station in service with its token and life (R399), EXTEND and CLOSE need
the token (R400), expiry, which is decided before an item (R406), and PENDMAX end a session (R400), a LIVE session's grant is
repeated (R401), and a SESSION_CHECK scheduler keeps the grants and passes them to its doors (R402). The model's choice, not
the spec's: the item that a session without a grant posts (log entry 44), the refusals of a withdrawn call (log entry 43),
that the row is the moment (log entry 5), and an absent scheduler does nothing (log entry 68). -/
def Obligations.SessionsOpenLiveAndEnd : Prop :=
  ∀ s : State,
    let ctx (t : State) (i : Nat) : Option Ctx := t.sched.ctxs.get none i
    let works : Prop := s.schRuns = true ∧ s.schMode ≠ 3 ∧ s.sched.stat ≠ .standby
    (∀ (w0 w1 life st a b : Word) i, works → getBits w0 15 12 = 0 → getBits w0 31 28 = 0 → getBits w1 31 16 = 0 →
      getBits st 31 8 = 0 → ¬ (a = 0 ∧ b = 0) →
      (∃ car ∈ s.carList, s.served car (getBits w0 23 16) = true ∧ (s.sc.car car).inServ = true) →
      s.stationAt st.toNat (getBits w0 23 16) = true → s.sc.sessionOf st.toNat = none → 1000 ≤ life.toNat →
      life.toNat ≤ s.SCH_SESSMAX → (List.range 1024).find? (fun i => (ctx s i).isNone) = some i →
      Completes (.sessionOpen { words := [w0, w1, life, st, a, b], poison := false }) s fun t =>
        (∃ x, ctx t i = some x ∧ x.stat = .registered ∧ x.kind = .session ∧ x.floor = getBits w0 23 16 ∧
          x.station = st.toNat ∧
          x.token = (b.setWidth 64 <<< 32 ||| a.setWidth 64) ∧ x.life = life.toNat ∧ x.car = none ∧ x.ended = false) ∧
        (∀ j, j ≠ i → ctx t j = ctx s j)) ∧
    (∀ (w0 w1 life st a b : Word) i x, works → getBits w0 15 12 = 0 → getBits w0 31 28 = 0 → getBits w1 31 16 = 0 →
      getBits st 31 8 = 0 → ¬ (a = 0 ∧ b = 0) → (∃ car ∈ s.carList, s.served car (getBits w0 23 16) = true) →
      s.sc.sessionOf st.toNat = some (i, x) →
      (x.token = (b.setWidth 64 <<< 32 ||| a.setWidth 64) → x.stat = .live → x.overdue s.dev = false →
        Completes (.sessionExtend { words := [w0, w1, life, st, a, b], poison := false }) s fun t =>
          ctx t i = some { x with expiry := s.dev + min life.toNat s.SCH_SESSMAX * 1000 } ∧ (∀ j, j ≠ i →
            ctx t j = ctx s j)) ∧
      (x.token = (b.setWidth 64 <<< 32 ||| a.setWidth 64) → x.stat ≠ .live →
        Completes (.sessionExtend { words := [w0, w1, life, st, a, b], poison := false }) s fun t =>
          ctx t i = some { x with life := min life.toNat s.SCH_SESSMAX } ∧ (∀ j, j ≠ i → ctx t j = ctx s j)) ∧
      (x.overdue s.dev = true →
        ∀ c, c ∈ [Instr.sessionExtend { words := [w0, w1, life, st, a, b], poison := false },
            .sessionClose { words := [w0, w1, 0, st, a, b], poison := false }] →
        Completes c s fun t => ctx t i = some { x with ended := true } ∧ (∀ j, j ≠ i → ctx t j = ctx s j)) ∧
      (x.token ≠ (b.setWidth 64 <<< 32 ||| a.setWidth 64) → x.overdue s.dev = false →
        ∀ c, c ∈ [Instr.sessionExtend { words := [w0, w1, life, st, a, b], poison := false },
            .sessionClose { words := [w0, w1, 0, st, a, b], poison := false }] →
        Completes c s fun t =>
          t.sched = s.sched ∧
          t.qf = (s.qf.note 0x0A13 (leBytes 1 st.toNat ++ leBytes 2 w1.toNat)).post 0x0A04
            [BitVec.ofNat 32 (getBits w0 7 0 + 3 * 2 ^ 8 + 6 * 2 ^ 16 + getBits w0 23 16 * 2 ^ 24), BitVec.ofNat 32 (0x1F * 2 ^ 16), 0,
              lowWord s.dev]) ∧
      (x.token = (b.setWidth 64 <<< 32 ||| a.setWidth 64) → x.stat = .live → x.overdue s.dev = false →
        Completes (.sessionClose { words := [w0, w1, 0, st, a, b], poison := false }) s fun t =>
          ctx t i = some { x with ended := true } ∧ (∀ j, j ≠ i → ctx t j = ctx s j)) ∧
      (x.token = (b.setWidth 64 <<< 32 ||| a.setWidth 64) → x.stat = .registered →
        Completes (.sessionClose { words := [w0, w1, 0, st, a, b], poison := false }) s fun t =>
          ctx t i = none ∧ (∀ j, j ≠ i → ctx t j = ctx s j))) ∧
    (∀ (n : Fin 1024) x, s.schWorks = true → ctx s n.val = some x → x.kind = .session → x.stat = .live → x.ended = false →
      x.group = none →
      Completes (.sessionExpiry n) s fun t =>
        ctx t n.val = some { x with ended := true } ∧ (∀ j, j ≠ n.val → ctx t j = ctx s j)) ∧
    (∀ n : Fin 1024, s.schWorks = false ∨ ctx s n.val = none →
      exec (.sessionExpiry n) s = .next s ∧ exec (.pendmaxExpire n) s = .next s) ∧
    (∀ (n : Fin 1024) x, s.schWorks = true → ctx s n.val = some x → x.kind = .session → x.stat ≠ .live → x.group = none →
      Completes (.pendmaxExpire n) s fun t => ctx t n.val = none ∧ (∀ j, j ≠ n.val → ctx t j = ctx s j)) ∧
    (∀ i x, s.schWorks = true → s.sched.open_ = [(i, x)] → x.kind = .session → x.stat = .live → x.ended = false →
      x.group = none →
      Completes .grantPeriod s fun t =>
        t.sched = { s.sched with grantCount := s.sched.grantCount + 1 } ∧
        t.qf = s.qf.post 0x0A30 [BitVec.ofNat 32 (1 + x.station * 2 ^ 8 + (s.sched.grantCount + 1).toNat * 2 ^ 16),
          BitVec.ofNat 32 (msOf (x.expiry - s.dev)), BitVec.ofNat 32 i, 0]) ∧
    (s.schWorks = false → exec .grantPeriod s = .next s) ∧
    (∀ w0 remain w2 w3 : Word, s.schRuns = true → s.schMode = 3 →
      Completes (.sessionGrant { words := [w0, remain, w2, w3], poison := false }) s fun t =>
        t.sched = { s.sched with
          grants := s.sched.grants.set none (getBits w0 15 8) (some { live := w0.getLsbD 0, remain := remain, at_ := s.dev }) }) ∧
    (∀ it : Item, s.schMode ≠ 3 ∨ it.poison = true → exec (.sessionGrant it) s = .next s) ∧
    (∀ i st g, s.schRuns = true → s.schMode = 3 → s.sessionDoors = [(i, st)] → s.sched.grants.get none st = some g →
      exec .sessionItemTick s = .next (s.post (0x0A32 + i)
        [BitVec.ofNat 32 (bit (g.live && decide (s.dev ≤ g.at_ + s.SCH_GRANTAGE * 1000)) + st * 2 ^ 8),
          lowWord (g.at_ + g.remain.toNat * 1000)])) ∧
    (s.schMode ≠ 3 → exec .sessionItemTick s = .next s)

/-- The scheduler and the cars. A member car takes the group's contexts (R392, R402), a group scheduler its cars' status
(R380) and gives a context back to the car that refused its WITHDRAW (R392), the driven car departs and tells how long its
door stays open (R395, R398); a recompute counts and clears RUN, an abandoned one is a miss and sets SCHFLT at MISSRUN (R374,
R376); a takeover enters RESYNC and RESYNC ends (R403, R404). The model's choice, not the spec's: the order of the assignment
pass (log entry 42), the messages between GROUP and driving schedulers (log entry 43), takeover and resynchronisation (log
entry 44), and an absent scheduler does nothing (log entry 68). -/
def Obligations.SchedulerFollowsItsCars : Prop :=
  ∀ s : State,
    let ctx (t : State) (i : Nat) : Option Ctx := t.sched.ctxs.get none i
    let finished (t : State) : Prop :=
      (s.schDrives = true → (t.sched.cars.get CarView.reset s.SCH_CTL_OWNCAR).words = s.sc.statusWords) ∧
      (s.schDrives = false → t.sched.cars = s.sched.cars) ∧
      t.sched.snapCar = some (t.sched.statWord :: t.schCtlWord ::
        (if s.schDrives then s.sc.statusWords else List.replicate 16 0) ++
          [s.sched.count + 1, s.sched.drive.counter.setWidth 32])
    (∀ (w0 g tts w3 : Word) i, s.schRuns = true → s.schMember = true → s.sched.stat ≠ .standby → s.sc.ofGroup g = none →
      (List.range 1024).find? (fun i => (ctx s i).isNone) = some i → getBits w0 19 16 = 1 →
      Completes (.assignContext { words := [w0, g, tts, w3], poison := false }) s fun t =>
        (∃ x, ctx t i = some x ∧ x.stat = .assigned ∧ x.kind = .hallUp ∧ x.floor = getBits w0 15 8 ∧ x.group = some g ∧
          x.car = some s.SCH_CTL_OWNCAR ∧ x.tts = tts) ∧
        (∀ j, j ≠ i → ctx t j = ctx s j) ∧ t = { s with sched := t.sched }) ∧
    (∀ (w0 g w2 w3 : Word) i x, s.schRuns = true → s.schMember = true → s.sched.stat ≠ .standby →
      s.sc.ofGroup g = some (i, x) →
      (x.stat = .assigned → s.sc.commits s.sc.ownCar x = false →
        Completes (.withdrawContext { words := [w0, g, w2, w3], poison := false }) s fun t =>
          ctx t i = none ∧ (∀ j, j ≠ i → ctx t j = ctx s j) ∧ t = { s with sched := t.sched }) ∧
      (x.stat = .committed →
        Completes (.withdrawContext { words := [w0, g, w2, w3], poison := false }) s fun t =>
          t.sched = { s.sched with drive := { s.sched.drive with refusedWithdraw := some (g.setWidth 10) } } ∧
          t = { s with sched := t.sched }) ∧
      (s.sched.drive.stat = .moving →
        Completes (.assignLive { words := [w0, g, w2, w3], poison := false }) s fun t =>
          ctx t i = some { x with stat := .live, ended := false } ∧ (∀ j, j ≠ i → ctx t j = ctx s j) ∧
          t = { s with sched := t.sched }) ∧
      (s.sched.drive.stat = .moving →
        Completes (.assignEnd { words := [w0, g, w2, w3], poison := false }) s fun t =>
          ctx t i = some { x with ended := true } ∧ (∀ j, j ≠ i → ctx t j = ctx s j) ∧
          (x.stat ≠ .live → t = { s with sched := t.sched }) ∧
          (x.stat = .live → x.floor < 64 → ∃ ws, t.qf = s.qf.post 0x0A09 ws ∧ ws.length = 4 ∧
            getBits (ws.headD 0) 7 0 = x.floor))) ∧
    (∀ it, s.schMember = false → ∀ c, c ∈ [Instr.assignContext it, .withdrawContext it, .assignLive it, .assignEnd it] →
      exec c s = .next s) ∧
    (∀ (c : Fin 16) it, s.schRuns = true → s.schMode = 2 → c.val < s.schCars → it.poison = false → it.words.length = 16 →
      (it.words.getD 6 0).getLsbD 15 = false →
      Completes (.carStatusItem c it) s fun t =>
        t.sched.cars.get CarView.reset c.val =
          { s.sched.cars.get CarView.reset c.val with
            words := it.words, seen := true,
            age := if (s.sched.cars.get CarView.reset c.val).seen = false ∨
                (s.sched.cars.get CarView.reset c.val).words.getD 5 0 ≠ it.words.getD 5 0 then 0
              else (s.sched.cars.get CarView.reset c.val).age } ∧
        t = { s with sched := { s.sched with cars := t.sched.cars } }) ∧
    (∀ (c : Fin 16) it x, s.schRuns = true → s.schMode = 2 → c.val < s.schCars → it.poison = false → it.words.length = 16 →
      (it.words.getD 6 0).getLsbD 15 = true → it.words.getD 6 0 ≠ (s.sched.cars.get CarView.reset c.val).words.getD 6 0 →
      s.sched.stat ≠ .standby → ctx s (getBits (it.words.getD 6 0) 9 0) = some x → x.stat = .registered → x.car = none →
      Completes (.carStatusItem c it) s fun t =>
        ctx t (getBits (it.words.getD 6 0) 9 0) = some { x with car := some c.val, stat := .committed, oldCar := none, restored := true }) ∧
    (∀ (c : Fin 16) it, s.schMode ≠ 2 ∨ it.poison = true ∨ it.words.length ≠ 16 → exec (.carStatusItem c it) s = .next s) ∧
    (∀ (w x : Word) f, s.schWorks = true → s.schDrives = true → s.sched.drive.stat = .atFloor → s.sched.drive.at_ = some f →
      s.sc.liveAt f = none → s.sched.resyncStop = none → s.sched.open_ = [] →
      Completes (.depart { words := [w, x], poison := false }) s fun t =>
        t = { s with sched := { s.sched with drive :=
          { s.sched.drive with stat := .idle, at_ := none, depart := none } } }) ∧
    (∀ (w x : Word) f, s.schWorks = true → s.schDrives = true → s.sched.drive.stat = .atFloor → s.sched.drive.at_ = some f →
      s.sc.liveAt f ≠ none →
      exec (.depart { words := [w, x], poison := false }) s =
        .next { s with sched := { s.sched with ignored := satInc s.sched.ignored } }) ∧
    (∀ w x : Word, s.schWorks = true → s.schDrives = true →
      exec (.doorrem { words := [w, x], poison := false }) s =
        .next { s with sched := { s.sched with drive := { s.sched.drive with doorRem := x } } }) ∧
    (∀ it, s.schWorks = false ∨ s.schDrives = false → exec (.depart it) s = .next s ∧ exec (.doorrem it) s = .next s) ∧
    (s.schRuns = true → s.schMode = 3 ∨ s.sched.stat = .standby →
      s.noneWaits ([0x0A06, 0x0A07, 0x0A08, 0x0A0B, 0x0A31, 0x0A00, 0x0A01, 0x0A02, 0x0A03] ++
        (List.range s.schCars).map (0x0A10 + ·)) →
      Completes .recompute s fun t =>
        t = { s with sched := { s.sched with
          count := s.sched.count + 1, run := 0, snapCtxs := s.sched.ctxs, snapCar := t.sched.snapCar, cars := t.sched.cars } } ∧
        finished t) ∧
    (s.schRuns = true → s.schMode = 1 → s.sched.stat = .running → s.schMember = false → s.sched.ctxs = [] →
      s.sched.drive.stat = .idle → s.sc.ownCar.inServ = true →
      s.noneWaits [0x0A06, 0x0A07, 0x0A08, 0x0A10, 0x0A0B, 0x0A31, 0x0A00, 0x0A01, 0x0A02, 0x0A03] →
      Completes .recompute s fun t =>
        t = { s with sched := { s.sched with
          unserved := 0, count := s.sched.count + 1, run := 0, snapCtxs := [], snapCar := t.sched.snapCar, cars := t.sched.cars } } ∧
        finished t) ∧
    (s.schRuns = true → (satInc s.sched.run).toNat ≠ max 1 s.SCH_CTL_MISSRUN →
      Completes .recomputeOverrun s fun t =>
        t = { s with sched := { s.sched with
          miss := true, missCount := satInc s.sched.missCount, run := satInc s.sched.run } }) ∧
    (s.schRuns = true → (satInc s.sched.run).toNat = max 1 s.SCH_CTL_MISSRUN →
      Completes .recomputeOverrun s fun t =>
        t.sched = { s.sched with
          miss := true, fault := true, missCount := satInc s.sched.missCount, run := satInc s.sched.run } ∧
        t.recorder = s.recorder.put s.dev 0x0A 0x0A01
          (leBytes 1 (satInc s.sched.run).toNat ++ leBytes 4 (satInc s.sched.missCount).toNat)) ∧
    (s.schRuns = false → exec .recompute s = .next s ∧ exec .recomputeOverrun s = .next s) ∧
    (s.schRuns = true → s.sched.stat = .resync → s.sched.resyncLeft = true →
      Completes .resyncEnd s fun t =>
        t.sched = { s.sched with stat := .running, resyncStop := none } ∧
        t.recorder = s.recorder.put s.dev 0x0A 0x0A21 (leBytes 2 s.sched.open_.length)) ∧
    (s.sched.stat ≠ .resync ∨ s.sched.resyncLeft = false → exec .resyncEnd s = .next s) ∧
    (s.gate.takeover = true → s.sched.stat ≠ .off → s.persist.newestEpoch = none → s.schDrives = false →
      Completes .schTakeover s fun t =>
        t.gate.takeover = false ∧
        t.sched = { s.sched with stat := .resync, ctxs := [], nextOrder := 0, resyncStop := none, resyncLeft := true,
                                 resends := s.sched.resends + 1 }) ∧
    (∀ i b, s.gate.takeover = true → s.sched.stat ≠ .off → s.persist.newestEpoch = some (i, b) →
      s.dev - leAt b.marker 20 6 ≤ (s.reg .BUS_EPMAXAGE).toNat * 1000000 →
      Completes .schTakeover s fun t =>
        t.gate.takeover = false ∧ t.sched.stat = .resync ∧ t.copy.seq = b.epoch ∧ t.copy.ackedSeq = b.epoch) ∧
    (s.gate.takeover = false → exec .schTakeover s = .next s)

/-- The steps of a figure that compute and branch, by the table of R419: each writes G[RD] alone, counts in STEPS (R417) and
goes on behind its words; ADD, SUB and ADDI saturate and the shifts take 0 to 31 (R416); BR and BRI compare as R420 says; CALL
and RET use the 8-deep stack, whose overflow and underflow stop the engine with STACK (R435). The step runs on a RUNNING or
ABORTING engine whose step count has not reached STEPMAX (R425); on any other engine the command leaves the device as it is.
The model's choice, not the spec's: when STEPS rises, what RUNAWAY keeps and the width of IMM17 (log entry 45), and that a
step row runs the word at PC, and does nothing on an engine that does not run (log entry 46, log entry 68). -/
def Obligations.FigureStepsComputeAndBranch : Prop :=
  ∀ (s : State) (f : Fin 4),
    let g := s.seqr.figs.get Figure.reset f.val
    let c : Figure := { g with steps := satInc g.steps, since := g.since + 1 }
    let with_ (x : Figure) : State := { s with seqr := { s.seqr with figs := s.seqr.figs.set Figure.reset f.val x } }
    let put (rd : BitVec 4) (w : Word) (n : BitVec 12) : State :=
      with_ { c with regs := c.regs.set 0 rd.toNat w, pc := g.pc + n }
    let r (a : BitVec 4) : Word := g.regs.get 0 a.toNat
    let sat (x : Int) : Word := BitVec.ofInt 32 (max (-2 ^ 31) (min (2 ^ 31 - 1) x))
    let cond (k : BitVec 3) (a b : Word) : Bool :=
      match k.toNat with
      | 0 => a == b
      | 1 => a != b
      | 2 => a.slt b
      | 3 => b.sle a
      | 4 => a.ult b
      | 5 => b.ule a
      | 6 => a &&& b != 0
      | _ => a &&& b == 0
    (s.figRuns f.val = true → g.executes = true → g.since + 1 < s.SEQ_FSTEPMAX f.val →
      (g.step = some .nop → exec (.stepNop f false) s = .next (with_ { c with pc := g.pc + 1 })) ∧
      (∀ rd imm, g.step = some (.ldi rd imm) → exec (.stepLdi f false) s = .next (put rd (imm.signExtend 32) 1)) ∧
      (∀ rd lit, g.step = some (.ldw rd lit) → exec (.stepLdw f false) s = .next (put rd lit 2)) ∧
      (∀ rd ra, g.step = some (.mov rd ra) → exec (.stepMov f false) s = .next (put rd (r ra) 1)) ∧
      (∀ rd ra rb, g.step = some (.add rd ra rb) →
        exec (.stepAdd f false) s = .next (put rd (sat ((r ra).toInt + (r rb).toInt)) 1)) ∧
      (∀ rd ra rb, g.step = some (.sub rd ra rb) →
        exec (.stepSub f false) s = .next (put rd (sat ((r ra).toInt - (r rb).toInt)) 1)) ∧
      (∀ rd ra imm, g.step = some (.addi rd ra imm) →
        exec (.stepAddi f false) s = .next (put rd (sat ((r ra).toInt + imm.toInt)) 1)) ∧
      (∀ rd ra rb, g.step = some (.and rd ra rb) → exec (.stepAnd f false) s = .next (put rd (r ra &&& r rb) 1)) ∧
      (∀ rd ra rb, g.step = some (.or rd ra rb) → exec (.stepOr f false) s = .next (put rd (r ra ||| r rb) 1)) ∧
      (∀ rd ra rb, g.step = some (.xor rd ra rb) → exec (.stepXor f false) s = .next (put rd (r ra ^^^ r rb) 1)) ∧
      (∀ rd ra n, g.step = some (.shl rd ra n) → exec (.stepShl f false) s = .next (put rd (r ra <<< n.toNat) 1)) ∧
      (∀ rd ra n, g.step = some (.shr rd ra true n) → exec (.stepShr f false) s = .next (put rd (r ra >>> n.toNat) 1)) ∧
      (∀ rd ra n, g.step = some (.shr rd ra false n) →
        exec (.stepShr f false) s = .next (put rd ((r ra).sshiftRight n.toNat) 1)) ∧
      (∀ k ra rb t, g.step = some (.br k ra rb t) →
        exec (.stepBr f false) s = .next (with_ { c with pc := if cond k (r ra) (r rb) then t else g.pc + 1 })) ∧
      (∀ k ra imm t, g.step = some (.bri k ra imm t) →
        exec (.stepBri f false) s = .next (with_ { c with pc := if cond k (r ra) (imm.signExtend 32) then t else g.pc + 1 })) ∧
      (∀ t, g.step = some (.jmp t) → exec (.stepJmp f false) s = .next (with_ { c with pc := t })) ∧
      (∀ t, g.step = some (.call t) → g.stack.length < 8 →
        exec (.stepCall f false) s = .next (with_ { c with stack := (g.pc + 1) :: g.stack, pc := t })) ∧
      (∀ t, g.step = some (.call t) → g.stack.length = 8 →
        Completes (.stepCall f false) s fun t =>
          (t.seqr.figs.get Figure.reset f.val).stat = .fault ∧ (t.seqr.figs.get Figure.reset f.val).cause = 1 ∧
          (t.seqr.figs.get Figure.reset f.val).result = 4 ∧ (t.seqr.figs.get Figure.reset f.val).pc = g.pc) ∧
      (∀ a rest, g.step = some .ret → g.stack = a :: rest →
        exec (.stepRet f false) s = .next (with_ { c with stack := rest, pc := a })) ∧
      (g.step = some .ret → g.stack = [] →
        Completes (.stepRet f false) s fun t =>
          (t.seqr.figs.get Figure.reset f.val).stat = .fault ∧ (t.seqr.figs.get Figure.reset f.val).cause = 1) ∧
      (∀ rd, g.step = some (.devt rd) → exec (.stepDevt f false) s = .next (put rd (BitVec.ofNat 32 s.dev) 1)) ∧
      (∀ rd t u, g.step = some (.trd rd t) → g.timers.get .stopped t.toNat = .running u →
        exec (.stepTrd f false) s = .next (put rd (BitVec.ofNat 32 (u - s.dev)) 1)) ∧
      (∀ rd t, g.step = some (.trd rd t) → (∀ u, g.timers.get .stopped t.toNat ≠ .running u) →
        exec (.stepTrd f false) s = .next (put rd 0 1))) ∧
    (s.figRuns f.val = true → g.executes = true → g.step = some .nop → s.SEQ_FSTEPMAX f.val ≤ g.since + 1 →
      Completes (.stepNop f false) s fun t =>
        (t.seqr.figs.get Figure.reset f.val).stat = .fault ∧ (t.seqr.figs.get Figure.reset f.val).cause = 2) ∧
    (s.figRuns f.val = true → g.executes = true → g.step = some .nop →
      Completes (.stepNop f true) s fun t =>
        (t.seqr.figs.get Figure.reset f.val).stat = .fault ∧ (t.seqr.figs.get Figure.reset f.val).cause = 5 ∧
        (t.seqr.figs.get Figure.reset f.val).steps = g.steps) ∧
    (∀ bad, s.figRuns f.val = false ∨ g.executes = false →
      ∀ i, i ∈ [Instr.stepNop f bad, .stepLdi f bad, .stepLdw f bad, .stepMov f bad, .stepAdd f bad, .stepSub f bad,
        .stepAddi f bad, .stepAnd f bad, .stepOr f bad, .stepXor f bad, .stepShl f bad, .stepShr f bad, .stepBr f bad,
        .stepBri f bad, .stepJmp f bad, .stepCall f bad, .stepRet f bad, .stepEnd f bad, .stepPost f bad, .stepRecv f bad,
        .stepFlush f bad, .stepMove f bad, .stepWrreg f bad, .stepTset f bad, .stepTrd f bad, .stepRaise f bad, .stepSig f bad,
        .stepOutl f bad, .stepDevt f bad] → exec i s = .next s)

/-- The steps of a figure that reach outside their engine: END stops the figure (R437, R438), POST, RECV, FLUSH and MOVE use
its ports (R426 to R428), RDREG and WRREG send a request and wait for the reply of R429, WAIT completes or waits (R422, R423),
TSET loads a timer (R424), RAISE records (R432), SIG sets another engine's flags (R431, R433), and OUTL and INL use the lines
(R434). The model's choice, not the spec's: single points of the steps (log entry 45), a step row runs the word at PC (log
entry 46), the codes of a register reply (log entry 66), and a row on an engine that does not run does nothing (log entry 68).
-/
def Obligations.FigureStepsReachTheDevice : Prop :=
  ∀ (s : State) (f : Fin 4),
    let fig (t : State) : Figure := t.seqr.figs.get Figure.reset f.val
    let g := fig s
    let c : Figure := { g with steps := satInc g.steps, since := g.since + 1 }
    let with_ (t : State) (x : Figure) : State := { t with seqr := { t.seqr with figs := t.seqr.figs.set Figure.reset f.val x } }
    let view (pads : BitVec 64) (k : WaitKind) (arg : BitVec 8) : State :=
      (s.seePads pads).withFc ((s.seePads pads).fc.waitView f.val k arg)
    s.figRuns f.val = true → g.executes = true → g.since + 1 < s.SEQ_FSTEPMAX f.val →
    (∀ st, g.step = some (.end_ st) → g.stat = .running →
      Completes (.stepEnd f false) s fun t =>
        fig t = { c with stat := .idle, endst := st, result := 1 } ∧
        t.recorder = s.recorder.put s.dev 0x0B 0x0B02
          (leBytes 1 f.val ++ leBytes 1 1 ++ leBytes 1 st.toNat ++ leBytes 2 g.pc.toNat)) ∧
    (∀ st, g.step = some (.end_ st) → g.stat = .aborting →
      Completes (.stepEnd f false) s fun t => fig t = { c with stat := .idle, endst := st, result := 2 }) ∧
    (∀ p ra n1, g.step = some (.post p ra n1) →
      exec (.stepPost f false) s =
        .next (with_ (s.post (0x0B10 + f.val * 0x20 + p.toNat)
          ((List.range (n1.toNat + 1)).map fun k => g.regs.get 0 (ra.toNat + k))) { c with pc := g.pc + 1 })) ∧
    (∀ p ra k b r q t, g.step = some (.move p ra k b r q false t) →
      exec (.stepMove f false) s =
        .next (with_ (s.post (0x0B10 + f.val * 0x20 + p.toNat)
          [BitVec.ofNat 32 (k.toNat * 2 ^ 8 + bit b * 2 ^ 12 + bit r * 2 ^ 13 + bit q * 2 ^ 14 + t.toNat * 2 ^ 16),
            g.regs.get 0 ra.toNat, 0, 0, 0, 0, g.regs.get 0 (ra.toNat + 1), 0]) { c with pc := g.pc + 1 })) ∧
    (∀ p rd n1 w x, g.step = some (.recv p rd n1) → g.stat = .running →
      s.qf.takeItem (0x0B00 + f.val * 0x20 + p.toNat) = (some { words := [w], poison := false }, x) →
      Completes (.stepRecv f false) s fun t =>
        fig t = { c with regs := (g.regs.set 0 rd.toNat w).set 0 15 1, pc := g.pc + 1 } ∧ t.qf = x) ∧
    (∀ p rd n1, g.step = some (.recv p rd n1) → g.stat = .running → s.noneWaits [0x0B00 + f.val * 0x20 + p.toNat] →
      exec (.stepRecv f false) s = .next (with_ s { c with stat := .waiting, waiting := .recv })) ∧
    (∀ p n q, g.step = some (.flush p false) →
      s.fabric.built.filter (fun e => e.2.route.consumer.toNat == 0x0B00 + f.val * 0x20 + p.toNat) = [(n, q)] →
      exec (.stepFlush f false) s = .next (with_ (s.withQf (s.qf.flushQueue n false)) { c with pc := g.pc + 1 })) ∧
    (∀ pads rd a i, g.step = some (.rdreg rd a) → g.stat = .running → islandAt a.toNat = some i → i ≠ 11 →
      exec (.stepRdreg f false pads) s =
        .next (with_ ((s.seePads pads).post (0x0B80 + f.val * 0x10 + i) [1, a, 0]) { c with stat := .waiting, waiting := .reg })) ∧
    (∀ ra a i, g.step = some (.wrreg ra a) → g.stat = .running → islandAt a.toNat = some i → i ≠ 11 →
      exec (.stepWrreg f false) s =
        .next (with_ (s.post (0x0B80 + f.val * 0x10 + i) [2, a, g.regs.get 0 ra.toNat])
          { c with stat := .waiting, waiting := .reg })) ∧
    (∀ pads k arg, k ≠ .qready → view pads k arg = s.seePads pads) ∧
    (∀ pads arg tm e, g.step = some (.wait .qready arg tm e) → g.stat = .running →
      s.fabric.stage (0x0B00 + f.val * 0x20 + arg.toNat % 16) ≠ [] →
      Completes (.stepWait f false pads) s fun t => (fig t).pc = g.pc + 1) ∧
    (∀ pads k arg tm e, g.step = some (.wait k arg tm e) → g.stat = .running →
      (view pads k arg).fc.waitHolds f.val g k arg = true →
      exec (.stepWait f false pads) s =
        .next (with_ (view pads k arg)
          { c with since := 0, flags := if k = .evAny then g.flags &&& ~~~arg else g.flags, pc := g.pc + 1 })) ∧
    (∀ pads k arg tm e, g.step = some (.wait k arg tm e) → g.stat = .running →
      (view pads k arg).fc.waitHolds f.val g k arg = false → 8 ≤ tm.toNat →
      exec (.stepWait f false pads) s = .next (with_ (view pads k arg) { c with stat := .waiting, waiting := .wait })) ∧
    (∀ t u imm ra, g.step = some (.tset t u false ra imm) → imm ≠ 0 →
      exec (.stepTset f false) s =
        .next (with_ s { c with
          timers := g.timers.set .stopped t.toNat
            (.running (s.dev + min (imm.toNat * (if u = 0 then 1 else if u = 1 then 1000 else 1000000)) 0xFFFFFFFF)),
          pc := g.pc + 1 })) ∧
    (∀ ra code, g.step = some (.raise ra code) →
      Completes (.stepRaise f false) s fun t =>
        fig t = { c with pc := g.pc + 1 } ∧
        t.recorder = s.recorder.put s.dev ((0x0B00 + code.toNat) / 256) (0x0B00 + code.toNat)
          (leBytes 1 f.val ++ wordBytes (g.regs.get 0 ra.toNat) ++ leBytes 2 g.pc.toNat)) ∧
    (∀ e mask, g.step = some (.sig e mask) → e.toNat ≠ f.val → s.figTile e.toNat = true →
      Completes (.stepSig f false) s fun t =>
        fig t = { c with pc := g.pc + 1 } ∧
        t.seqr.figs.get Figure.reset e.toNat =
          { s.seqr.figs.get Figure.reset e.toNat with flags := (s.seqr.figs.get Figure.reset e.toNat).flags ||| mask } ∧
        t = { s with seqr := { s.seqr with figs := t.seqr.figs } }) ∧
    (∀ line val, g.step = some (.outl line val) →
      Completes (.stepOutl f false) s fun t =>
        t.seqr.outLvl.getLsbD line.toNat = val ∧ t.seqr.outDriven.getLsbD line.toNat = true ∧
        t.seqr.outOwner.get none line.toNat = some f.val ∧ fig t = { c with pc := g.pc + 1 } ∧
        (∀ n, n ≠ line.toNat → t.seqr.outLvl.getLsbD n = s.seqr.outLvl.getLsbD n)) ∧
    (∀ pads rd line, g.step = some (.inl rd line) →
      exec (.stepInl f false pads) s =
        .next (with_ (s.seePads pads)
          { c with regs := g.regs.set 0 rd.toNat (if (s.inputLines pads).getLsbD line.toNat then 1 else 0), pc := g.pc + 1 }))

/-- A figure engine is started, aborted, cleared and signalled (R415, R431, R436, R437), a waiting engine goes on when its
wait completes, its timer ends or its register reply comes (R422 to R424, R429), a reply that does not come faults it (R435),
and an island serves a figure's request (R429, R430). The model's choice, not the spec's: single points of the engines (log
entry 45), which row stands for what (log entry 46), the codes of a register reply (log entry 66), and a row whose engine is
absent or stopped does nothing (log entry 68, log entry 52). -/
def Obligations.FigureEnginesAreControlled : Prop :=
  ∀ (s : State) (f : Fin 4),
    let fig (t : State) : Figure := t.seqr.figs.get Figure.reset f.val
    let g := fig s
    let with_ (t : State) (x : Figure) : State := { t with seqr := { t.seqr with figs := t.seqr.figs.set Figure.reset f.val x } }
    let view (pads : BitVec 64) (k : WaitKind) (arg : BitVec 8) : State :=
      (s.seePads pads).withFc ((s.seePads pads).fc.waitView f.val k arg)
    (∀ w : Word, s.figTile f.val = true → w.getLsbD 1 = false → w.getLsbD 2 = false → g.stat = .idle →
      s.quarantined (6 + f.val) = false →
      Completes (.figureStart f w) s fun t =>
        fig t = { g with stat := .running, stack := [], timers := [], flags := 0, steps := 0, since := 0, cause := 0, waiting := .none,
                         pc := if w.getLsbD 28 then w.extractLsb' 16 12 else BitVec.ofNat 12 (s.SEQ_FCFG_ENTRY f.val) }) ∧
    (∀ w : Word, s.figTile f.val = true → w.getLsbD 1 = false → w.getLsbD 2 = false → g.stat ≠ .idle →
      exec (.figureStart f w) s = .next (with_ s { g with result := 5 })) ∧
    (∀ w : Word, s.figTile f.val = true → w.getLsbD 0 = false → w.getLsbD 2 = false → g.stat = .running → g.waiting = .none →
      s.SEQ_FCFG_ABORTEN f.val = 1 →
      Completes (.figureAbort f w) s fun t =>
        fig t = { g with stat := .aborting, stack := [], timers := [], pc := BitVec.ofNat 12 (s.SEQ_FCFG_ABORTPC f.val) }) ∧
    (∀ w : Word, s.figTile f.val = true → w.getLsbD 0 = false → w.getLsbD 2 = false → g.stat = .running → g.waiting = .none →
      s.SEQ_FCFG_ABORTEN f.val = 0 →
      Completes (.figureAbort f w) s fun t => fig t = { g with stat := .idle, result := 2 }) ∧
    (∀ w : Word, s.figTile f.val = true → w.getLsbD 0 = false → w.getLsbD 2 = false → g.stat = .idle →
      exec (.figureAbort f w) s = .next (with_ s { g with result := 3 })) ∧
    (∀ w : Word, s.figTile f.val = true → w.getLsbD 0 = false → w.getLsbD 1 = false → g.stat = .fault →
      exec (.figClrflt f w) s = .next (with_ s { g with stat := .idle })) ∧
    (∀ w : Word, s.figTile f.val = false →
      ∀ c, c ∈ [Instr.figureStart f w, .figureAbort f w, .figClrflt f w, .fsigWrite f w] →
      exec c s = .next s) ∧
    (∀ w : Word, s.figTile f.val = true →
      exec (.fsigWrite f w) s = .next (with_ s { g with flags := g.flags ||| w.setWidth 8 })) ∧
    (∀ pads k arg tm e, s.figRuns f.val = true → g.waiting = .wait → g.stat = .waiting → g.step = some (.wait k arg tm e) →
      (view pads k arg).fc.waitHolds f.val g k arg = true →
      exec (.waitComplete f pads) s =
        .next (with_ (view pads k arg)
          { g with waiting := .none, stat := .running, since := 0, flags := if k = .evAny then g.flags &&& ~~~arg else g.flags,
                   pc := g.pc + 1 })) ∧
    (∀ pads, g.waiting ≠ .wait → exec (.waitComplete f pads) s = .next (s.seePads pads)) ∧
    (∀ (n : Fin 8) pads u, g.timers.get .stopped n.val = .running u → g.waiting = .none →
      exec (.figureTimerExpire f n pads) s =
        .next (with_ (s.seePads pads) { g with timers := g.timers.set .stopped n.val .expired })) ∧
    (∀ (n : Fin 8) pads u k arg tm e, s.figRuns f.val = true → g.timers.get .stopped n.val = .running u → g.waiting = .wait →
      g.stat = .waiting → g.since < s.SEQ_FSTEPMAX f.val → g.step = some (.wait k arg tm e) → tm.toNat = n.val → k = .in1 →
      (s.inputLines pads).getLsbD (arg.toNat % 64) = false →
      exec (.figureTimerExpire f n pads) s =
        .next (with_ (s.seePads pads) { g with timers := g.timers.set .stopped n.val .expired, waiting := .none, stat := .running,
                                               pc := e })) ∧
    (∀ i rd a v x, s.figRuns f.val = true → g.waiting = .reg → g.stat = .waiting → g.step = some (.rdreg rd a) →
      islandAt a.toNat = some (islandNum i) → g.stale.get 0 (islandNum i) = 0 → g.since < s.SEQ_FSTEPMAX f.val →
      s.qf.takeItem (0x0BC0 + f.val * 0x10 + islandNum i) = (some { words := [0, v], poison := false }, x) →
      Completes (.regReply f i) s fun t =>
        fig t = { g with waiting := .none, stat := .running, regs := g.regs.set 0 rd.toNat v, pc := g.pc + 2 } ∧ t.qf = x) ∧
    (∀ i, s.noneWaits [0x0BC0 + f.val * 0x10 + islandNum i] → exec (.regReply f i) s = .next s) ∧
    (s.figRuns f.val = true → g.waiting = .reg →
      Completes (.regTimeout f) s fun t =>
        (fig t).stat = .fault ∧ (fig t).cause = 3 ∧ (fig t).result = 4 ∧ (fig t).waiting = .none ∧ (fig t).timers = []) ∧
    (s.figRuns f.val = false ∨ g.waiting ≠ .reg → exec (.regTimeout f) s = .next s) ∧
    (∀ i a r idx x, s.runs i = true →
      s.qf.takeItem (islandNum i * 0x100 + 0xF8 + f.val) = (some { words := [1, a, 0], poison := false }, x) →
      locate a.toNat = some (r, idx) → islandAt a.toNat = some (islandNum i) → State.there (s.withQf x) a.toNat = true →
      figReadable a.toNat = true → (s.withQf x).queueSide r idx false = true →
      exec (.regRequest f i) s =
        .next (((s.withQf x).readReg r idx).2.post (islandNum i * 0x100 + 0xFC + f.val) [0, ((s.withQf x).readReg r idx).1])) ∧
    (∀ i op a v x, s.runs i = true →
      s.qf.takeItem (islandNum i * 0x100 + 0xF8 + f.val) = (some { words := [op, a, v], poison := false }, x) →
      islandAt a.toNat ≠ some (islandNum i) →
      exec (.regRequest f i) s = .next ((s.withQf x).post (islandNum i * 0x100 + 0xFC + f.val) [2, 0])) ∧
    (∀ i a v r idx x u, s.runs i = true →
      s.qf.takeItem (islandNum i * 0x100 + 0xF8 + f.val) = (some { words := [2, a, v], poison := false }, x) →
      locate a.toNat = some (r, idx) → islandAt a.toNat = some (islandNum i) → State.there (s.withQf x) a.toNat = true →
      figWritable a.toNat = true → (s.withQf x).queueSide r idx true = true →
        (s.withQf x).portWrite .host r idx v = (.ok, u) →
      exec (.regRequest f i) s = .next (u.post (islandNum i * 0x100 + 0xFC + f.val) [0, 0])) ∧
    (∀ i, s.noneWaits [islandNum i * 0x100 + 0xF8 + f.val] → exec (.regRequest f i) s = .next s)

/-- A pass takes a snapshot, evaluates every cell on the true and on the complemented encoding (R446, R453, R454), each cell
as its LUT and MODE say on signals of the snapshot, on cells before it in this pass and on itself and cells behind it in the
last one (R447 to R449, R451). A pass counts, leaves every output commanded exactly as R470 says, and a pass whose evaluations
differ puts the lattice into FAULT (R453, R455, R470); no pass runs before the lattice test (R458). A timer's E reaches PRESET
(R450); a reload opens every output, waits for its conditions and ends with both memories rewritten from the master (R457,
R501); CLRCNT clears the counters (R478). The model's choice, not the spec's: outputs follow a pass at once (log entry 47),
TOFF at its start and the first pass (log entry 48), FAULT over DEFERRED (log entry 49), the order at a pass boundary (log
entry 51), and a row without its condition does nothing (log entry 68). -/
def Obligations.LatticePassesAndReloads : Prop :=
  ∀ s : State,
    (∀ ups, s.latticeRuns = true →
      Completes (.latticePass ups) s fun t =>
        t.lattice.pass = s.lattice.pass + 1 ∧
        (∀ k < 6, (t.lattice.outs.get SafetyOut.reset k).on = (t.sf.offCause k == 0)) ∧
        (t.lattice.mismatches ≠ s.lattice.mismatches → t.lattice.stat = .fault)) ∧
    (s.latticeRuns = true → s.quarantined 1 = false → s.lattice.stat = .running → s.lattice.unapplied = false →
      s.react.ackOwed = none →
      Completes (.latticePass []) s fun t => ∃ snap : Nat → Bool,
        t.lattice.tru = s.lattice.tru.eval false s.lattice.initPass snap s.passUs s.lattice.count ∧
        t.lattice.cmp = s.lattice.cmp.eval true s.lattice.initPass snap s.passUs s.lattice.count ∧
        snap 0x4F0 = false ∧ snap 0x4F1 = true ∧ snap 0x4C0 = s.fieldUp ∧ (∀ n < 24, snap (0x400 + n) = s.sf.si n) ∧
        (∀ c < 8, snap (0x480 + c) = s.sf.ct c)) ∧
    (∀ (c : Channel) neg first (snap : Nat → Bool) per count n, n < count →
      let x := c.plain neg n
      let r := c.eval neg first snap per count
      let q (y : Channel) (a : Nat) : Bool := xor (y.out.get neg a) neg
      let sig (a : Nat) : Bool := if a < 0x400 then (if a < n then q r a else q c a) else snap a
      let f := testBit x.lut (bit (sig x.srcA) + 2 * bit (sig x.srcB) + 4 * bit (sig x.srcC) + 8 * bit (sig x.srcD))
      let fp := xor (c.fp.get neg n) neg
      let e := c.timerAt neg x.timer
      let grown := min (e.2.toNat + per) x.preset
      xor (r.fp.get neg n) neg = f ∧ (x.mode = 0 → q r n = f) ∧ (x.mode = 1 → q r n = ((q c n || f) && !sig x.rst)) ∧
      (x.mode = 2 → q r n = (f || (q c n && !sig x.rst))) ∧ (x.mode = 6 → q r n = (f && !fp && !first)) ∧
      ((∀ m < n, (c.plain neg m).timer = x.timer → (c.plain neg m).mode < 3 ∨ 5 < (c.plain neg m).mode) →
        (x.mode = 3 → q r n = (f && decide (x.preset ≤ if fp then grown else 0))) ∧
        (x.mode = 4 → q r n = (f || decide ((if fp then 0 else if e.1 then grown else e.2.toNat) < x.preset))) ∧
        (x.mode = 5 → q r n =
          if e.1 && decide (e.2.toNat < x.preset) then decide (grown < x.preset)
          else (f && !fp && !q c n && decide (0 < x.preset))))) ∧
    (∀ ups, s.latticeRuns = false → exec (.latticePass ups) s = .next s) ∧
    (∀ (t : Fin 64) p e, s.latticeRuns = true → s.lattice.timerPreset t.val = some p → p < 2 ^ 28 →
      s.lattice.tru.timerAt false t.val = (true, e) → s.lattice.cmp.timerAt true t.val = (true, e) → p ≤ e.toNat + s.passUs →
      Completes (.latticeTimerExpire t) s fun u =>
        u.lattice.tru.timerAt false t.val = (true, BitVec.ofNat 28 p) ∧
        u.lattice.cmp.timerAt true t.val = (true, BitVec.ofNat 28 p) ∧
        u = { s with lattice := { s.lattice with tru := u.lattice.tru, cmp := u.lattice.cmp } }) ∧
    (∀ t : Fin 64, s.latticeRuns = false ∨ s.lattice.timerPreset t.val = none → exec (.latticeTimerExpire t) s = .next s) ∧
    (∀ w : Word, s.rwlOpen .SFI_LATCTL [] → w.getLsbD 1 = false → s.lattice.stat = .running → s.lattice.reloadReq = false →
      s.react.underTest 1 = false →
      s.quarantined 1 = false → s.sf.reloadReason = 0 →
      Completes (.latticeReload w) s fun t =>
        t.lattice.stat = .reloading ∧ t.lattice.reloadFrom = .running ∧ t.lattice.reloadReq = false ∧
        ∀ k < 6, (t.lattice.outs.get SafetyOut.reset k).on = false) ∧
    (∀ w : Word, s.rwlOpen .SFI_LATCTL [] → w.getLsbD 1 = false → s.lattice.stat = .running → s.lattice.reloadReq = false →
      s.react.underTest 1 = false →
      s.quarantined 1 = false → s.sf.reloadReason ≠ 0 →
      Completes (.latticeReload w) s fun t =>
        t.lattice = { s.lattice with stat := .deferred, reloadReq := true } ∧ t.react = s.react ∧
        t.recorder = (s.recorder.put s.dev 4 0x0404 [1]).put s.dev 4 0x0414 [2, BitVec.ofNat 8 s.sf.reloadReason]) ∧
    (s.lattice.reloadReq = true → s.lattice.stat = .deferred → s.sf.reloadReason = 0 →
      Completes .latticeReloadStart s fun t =>
        t.lattice.stat = .reloading ∧ t.lattice.reloadFrom = .running ∧ t.lattice.reloadReq = false ∧
        ∀ k < 6, (t.lattice.outs.get SafetyOut.reset k).on = false) ∧
    (s.lattice.reloadReq = false ∨ s.sf.reloadReason ≠ 0 → exec .latticeReloadStart s = .next s) ∧
    (s.sfiUp = true → s.lattice.stat = .reloading →
      Completes .latReload s fun t =>
        t.lattice.stat = s.lattice.reloadFrom ∧ t.lattice.initPass = true ∧ t.lattice.tru.cells = s.lattice.master ∧
        t.lattice.cmp.cells = s.lattice.master.map (fun e => (e.1, e.2.not)) ∧
        t.lattice.first = true ∧ t.lattice.firstDue = true) ∧
    (s.lattice.stat ≠ .reloading → exec .latReload s = .next s) ∧
    (∀ w : Word, s.rwlOpen .SFI_LATCTL [] → w.getLsbD 0 = false →
      Completes (.latticeClrcnt w) s fun t =>
        t.lattice.mismatches = 0 ∧ t.lattice.cellErrs = 0 ∧
        (∀ k < 6, t.lattice.outs.get SafetyOut.reset k =
          { s.lattice.outs.get SafetyOut.reset k with passed := 0, discarded := 0 }) ∧
        t = { s with lattice := { s.lattice with mismatches := 0, cellErrs := 0, outs := t.lattice.outs }, persist := t.persist })

/-- The safety inputs, chain taps and virtual inputs: a contact's level (R459, R460), the discrepancy of a dual input (R461),
a shorted contact found by a test pulse (R462), ACK_IN's level (R495), a tap's level (R465) and the items of R238 and R466,
with the stale period of VI_STALE. The model's choice, not the spec's: shorts, terminals and the door item (log entry 50),
pads without a record (log entry 70), that the row is the moment (log entry 5), and a row whose input is absent does nothing
(log entry 68). -/
def Obligations.SafetyInputsAreFiltered : Prop :=
  ∀ s : State,
    let inp (t : State) (n : Nat) : SafetyIn := t.lattice.inputs.get SafetyIn.reset n
    (∀ (n : Fin 24) (t : Fin 49), t.val = 2 * n.val → s.sfiUp = true → s.padUsed (sensePad t.val) = true →
      s.lattice.siMode n.val = 3 → (inp s n.val).a = false →
      Completes (.siLevelChange t true) s fun u =>
        inp u n.val = { inp s n.val with a := true, pending := none } ∧ (∀ k, k ≠ n.val → inp u k = inp s k)) ∧
    (∀ (n : Fin 24) (t : Fin 49), t.val = 2 * n.val → s.sfiUp = true → s.padUsed (sensePad t.val) = true →
      s.lattice.siMode n.val = 1 → (inp s n.val).a = false →
      (inp s n.val).b = false →
      Completes (.siLevelChange t true) s fun u =>
        inp u n.val = { inp s n.val with a := true, pending := some s.dev, firstB := false } ∧
        u.sf.si n.val = false ∧ (∀ k, k ≠ n.val → inp u k = inp s k)) ∧
    (∀ t : Fin 49, t.val = 48 → s.sfiUp = true → s.padUsed (sensePad t.val) = true → s.lattice.ackEn = true →
      s.react.ackSeen = true →
      exec (.siLevelChange t true) s = .next { s with lattice := { s.lattice with ackLevel := true } }) ∧
    (∀ (t : Fin 49) closed, s.sfiUp = false ∨ s.padUsed (sensePad t.val) = false →
      exec (.siLevelChange t closed) s = .next s) ∧
    (∀ n : Fin 24, s.sfiUp = true → (inp s n.val).pending.isSome = true →
      (inp s n.val).mixed (s.lattice.siMode n.val) = true →
      Completes (.siDiscrepancy n) s fun u =>
        inp u n.val = { inp s n.val with disc := true, pending := none, faults := satInc (inp s n.val).faults } ∧
        u.sf.si n.val = false ∧ (∀ k, k ≠ n.val → inp u k = inp s k)) ∧
    (∀ n : Fin 24, s.sfiUp = false ∨ (inp s n.val).pending = none → exec (.siDiscrepancy n) s = .next s) ∧
    (∀ (p : Fin 32) (n : Fin 24) (before last : BitVec 49), s.sfiUp = true → s.fieldUp = true → s.quarantined 22 = false →
      s.padUsed (sensePad (2 * n.val)) = true → getBits (s.reg .SFI_LEPCFG [p.val]) 2 0 = 1 → s.lattice.siMode n.val = 3 →
        s.lattice.siSrcA n.val = p.val →
      (∀ k < 24, k ≠ n.val → s.lattice.siMode k = 0) → before.getLsbD (2 * n.val) = true → last.getLsbD (2 * n.val) = true →
      (inp s n.val).shortA = false →
      Completes (.lepTestPulse p before last) s fun u =>
        inp u n.val = { inp s n.val with shortA := true, faults := satInc (inp s n.val).faults } ∧ u.sf.si n.val = false ∧
        (∀ k, k ≠ n.val → inp u k = inp s k)) ∧
    (∀ (p : Fin 32) before last, s.sfiUp = false ∨ s.fieldUp = false ∨ s.quarantined 22 = true ∨ getBits (s.reg .SFI_LEPCFG [p.val]) 2 0 ≠ 1 →
      exec (.lepTestPulse p before last) s = .next s) ∧
    (∀ (c : Fin 8) (mv : Word), s.sfiUp = true → s.padUsed (319 + c.val) = true →
      (s.lattice.taps.get Tap.reset c.val).level = false → 10 * s.tapTlo c.val < mv.toInt →
      Completes (.chainTapChange c true mv) s fun u =>
        (u.lattice.taps.get Tap.reset c.val).level = true ∧ (u.lattice.taps.get Tap.reset c.val).mv = mv) ∧
    (∀ (c : Fin 8) (mv : Word), s.sfiUp = true → s.padUsed (319 + c.val) = true →
      (s.lattice.taps.get Tap.reset c.val).level = true → mv.toInt < 10 * s.tapThi c.val →
      Completes (.chainTapChange c false mv) s fun u =>
        (u.lattice.taps.get Tap.reset c.val).level = false ∧ (u.lattice.taps.get Tap.reset c.val).mv = mv) ∧
    (∀ (c : Fin 8) level mv, s.sfiUp = false ∨ s.padUsed (319 + c.val) = false →
      exec (.chainTapChange c level mv) s = .next s) ∧
    (∀ w x : Word, s.sfiUp = true → w.setWidth 16 = ~~~((w >>> 16).setWidth 16 : BitVec 16) →
      exec (.pviItem { words := [w, x], poison := false }) s = .next { s with lattice := { s.lattice with
        pviItem := some { word := w, poison := false, at_ := s.dev }, pviStale := false } } ∧
      exec (.nviItem { words := [w, x], poison := false }) s = .next { s with lattice := { s.lattice with
        nviItem := some { word := w, poison := false, at_ := s.dev }, nviStale := false } }) ∧
    (∀ ws, s.sfiUp = true →
      (Completes (.pviItem { words := ws, poison := true }) s fun u => u.lattice.pviStale = true ∧ u.sf.vi false = 0) ∧
      (Completes (.nviItem { words := ws, poison := true }) s fun u => u.lattice.nviStale = true ∧ u.sf.vi true = 0)) ∧
    (s.sfiUp = true → s.lattice.nviStale = false →
      Completes (.viStale true) s fun u =>
        u.lattice = { s.lattice with nviStale := true } ∧ u.sf.vi true = 0 ∧ u.recorder = s.recorder.put s.dev 4 0x040B [1]) ∧
    (s.sfiUp = true → s.lattice.pviStale = false →
      Completes (.viStale false) s fun u =>
        u.lattice = { s.lattice with pviStale := true } ∧ u.sf.vi false = 0 ∧
          u.recorder = s.recorder.put s.dev 4 0x040B [0]) ∧
    (∀ it nvi, s.sfiUp = false →
      exec (.pviItem it) s = .next s ∧ exec (.nviItem it) s = .next s ∧ exec (.viStale nvi) s = .next s)

/-- Fault reaction: a risen source waits for the next pass (R492); a block error starts its targeted test, whose pass counts a
transient and whose failure quarantines the block (R487, R488); the outputs' read-backs and dark pulses latch their cause and
open the output (R471, R472, R474, R475); switch tests are asked for, start and end (R501, R502). The model's choice, not the
spec's: outputs follow at once and a dark test is one command (log entry 47), the order at a pass boundary (log entry 51),
what quarantine stops and a third transient being lasting (log entry 52), and a row without its condition does nothing (log
entry 68). -/
def Obligations.FaultsAreTestedAndLatched : Prop :=
  ∀ s : State,
    let o (t : State) (k : Nat) : SafetyOut := t.lattice.outs.get SafetyOut.reset k
    (∀ src : Fin 20, s.sfiUp = true → s.react.waiting = [] →
      exec (.faultSourceRise src) s = .next { s with react := { s.react with waiting := [allSources.getD src.val (.source 0)] } }) ∧
    (∀ src : Fin 20, s.sfiUp = false → exec (.faultSourceRise src) s = .next s) ∧
    (∀ (b : Fin 24) cause, s.sfiUp = true → s.quarantined b.val = false → s.react.underTest b.val = false → b.val ≠ 1 →
      exec (.blockError b cause) s = .next { s with react := { s.react with
        testing := s.react.testing ++ [(b.val, s.dev, cause)], passed := s.react.passed.filter (· != b.val) } }) ∧
    (∀ (b : Fin 24) cause, s.sfiUp = false ∨ s.quarantined b.val = true ∨ s.react.underTest b.val = true →
      exec (.blockError b cause) s = .next s) ∧
    (∀ (b : Fin 24) at_ cause us, s.react.testing = [(b.val, at_, cause)] → b.val ≠ 0 → b.val ≠ 1 → b.val ≠ 10 →
      (s.persist.blocks.get BlockStat.reset b.val).times = [] → (s.persist.blocks.get BlockStat.reset b.val).quar = false →
      Completes (.blockTest b true us) s fun t =>
        t.persist.blocks.get BlockStat.reset b.val =
          { times := [s.dev], trans := satInc (s.persist.blocks.get BlockStat.reset b.val).trans, last := 1, quar := false } ∧
        t.react.testing = [] ∧ b.val ∈ t.react.passed) ∧
    (∀ (b : Fin 24) at_ cause us, s.react.testing = [(b.val, at_, cause)] → b.val ≠ 0 → b.val ≠ 1 → b.val ≠ 10 →
      Completes (.blockTest b false us) s fun t =>
        t.quarantined b.val = true ∧ (t.persist.blocks.get BlockStat.reset b.val).last = 2 ∧ t.react.testing = []) ∧
    (∀ at_ cause us, s.react.testing = [(0, at_, cause)] →
      Completes (.blockTest 0 false us) s fun t => t.quarantined 0 = true ∧ t.fabric.stopped = true) ∧
    (∀ (b : Fin 24) pass us, s.react.underTest b.val = false → exec (.blockTest b pass us) s = .next s) ∧
    (∀ k : Fin 6, s.sfiUp = true → (o s k.val).hsCmd = true → (o s k.val).sof = false →
      Completes (.soReadbackFault k false (o s k.val).lsCmd false) s fun t =>
        (o t k.val).sof = true ∧ (o t k.val).fcause = 3 ∧ (o t k.val).on = false) ∧
    (∀ k : Fin 6, s.sfiUp = true → (o s k.val).hsCmd = false → (o s k.val).lsCmd = false → (o s k.val).sof = false →
      Completes (.soReadbackFault k true false false) s fun t =>
        (o t k.val).sof = true ∧ (o t k.val).fcause = 1 ∧ (o t k.val).on = false ∧ (o t k.val).hsRb = true) ∧
    (∀ (k : Fin 6) hs ls late, s.sfiUp = false → exec (.soReadbackFault k hs ls late) s = .next s) ∧
    (∀ k : Fin 6, s.sfiUp = true → (o s k.val).on = true →
      Completes (.darkTestPulse k true true false) s fun t =>
        o t k.val = { (o s k.val).closeHs with nextLs := !(o s k.val).nextLs, passed := satInc (o s k.val).passed } ∧
        (∀ j, j ≠ k.val → o t j = o s j)) ∧
    (∀ (k : Fin 6) opened reclosed, s.sfiUp = true → (o s k.val).on = true →
      Completes (.darkTestPulse k opened reclosed true) s fun t =>
        o t k.val = { (o s k.val).closeHs with nextLs := !(o s k.val).nextLs, discarded := satInc (o s k.val).discarded } ∧
        t = { s with lattice := { s.lattice with outs := t.lattice.outs } }) ∧
    (∀ (k : Fin 6) reclosed, s.sfiUp = true → (o s k.val).on = true → (o s k.val).sof = false →
      Completes (.darkTestPulse k false reclosed false) s fun t =>
        (o t k.val).sof = true ∧ (o t k.val).fcause = (if (o s k.val).nextLs then 2 else 1) ∧ (o t k.val).on = false) ∧
    (∀ (k : Fin 6) opened reclosed cut, s.sfiUp = false ∨ (o s k.val).on = false →
      exec (.darkTestPulse k opened reclosed cut) s = .next s) ∧
    (∀ w : Word, s.rwlOpen .SFI_TESTCTL [] → s.sfiUp = true → w.setWidth 6 ≠ (0 : BitVec 6) →
      s.react.testStat ≠ 2 → s.sf.switchReason (s.react.testPend ||| w.setWidth 6) = 0 →
      Completes (.swreq w) s fun t =>
        t = { s with persist := t.persist, react := { s.react with
          testStat := 2, testRun := s.react.testPend ||| w.setWidth 6, testPend := 0 } }) ∧
    (∀ w : Word, s.rwlOpen .SFI_TESTCTL [] → s.sfiUp = true → w.setWidth 6 ≠ (0 : BitVec 6) →
      s.react.testStat ≠ 2 → s.sf.switchReason (s.react.testPend ||| w.setWidth 6) ≠ 0 →
      Completes (.swreq w) s fun t =>
        t.react = { s.react with testStat := 1, testPend := s.react.testPend ||| w.setWidth 6 } ∧
        t.recorder = s.recorder.put s.dev 4 0x0414 [1, BitVec.ofNat 8 (s.sf.switchReason (s.react.testPend ||| w.setWidth 6))]) ∧
    (∀ w : Word, s.rwlOpen .SFI_TESTCTL [] → s.sfiUp = true → s.react.testStat = 2 →
      Completes (.swreq w) s fun t => t.react = { s.react with testPend := s.react.testPend ||| w.setWidth 6 }) ∧
    (∀ w : Word, s.rwlOpen .SFI_TESTCTL [] → s.sfiUp = false ∨ w.setWidth 6 = (0 : BitVec 6) →
      Completes (.swreq w) s fun t => t = { s with persist := t.persist }) ∧
    (s.sfiUp = true → s.react.testStat = 1 → s.sf.switchReason s.react.testPend = 0 →
      exec .switchTestStart s = .next { s with react := { s.react with
        testStat := 2, testRun := s.react.testPend, testPend := 0 } }) ∧
    (s.react.testStat ≠ 1 → exec .switchTestStart s = .next s) ∧
    (s.react.testStat = 2 → s.react.testPend = 0 →
      Completes (.swtestEnd []) s fun t =>
        t.react = { s.react with testStat := 3, testRun := 0 } ∧ t.lattice = s.lattice ∧
        t.recorder = s.recorder.put s.dev 4 0x0415 (leBytes 1 s.react.testRun.toNat ++ leBytes 1 0)) ∧
    (s.react.testStat = 2 → s.react.testPend ≠ 0 → s.sf.switchReason s.react.testPend ≠ 0 →
      Completes (.swtestEnd []) s fun t =>
        t.react = { s.react with testStat := 1, testRun := 0 } ∧
        t.recorder = (s.recorder.put s.dev 4 0x0415 (leBytes 1 s.react.testRun.toNat ++ leBytes 1 0)).put s.dev 4 0x0414
          [1, BitVec.ofNat 8 (s.sf.switchReason s.react.testPend)]) ∧
    (∀ (k : Fin 6) c, s.react.testStat = 2 → s.react.testPend = 0 → s.react.testRun.getLsbD k.val = true →
      s.react.underTest (16 + k.val) = false →
      (o s k.val).sof = false →
      Completes (.swtestEnd [(k, c)]) s fun t =>
        (o t k.val).sof = true ∧ (o t k.val).fcause = c ∧ (o t k.val).on = false ∧ t.react.testRun = 0) ∧
    (∀ fails, s.react.testStat ≠ 2 → exec (.swtestEnd fails) s = .next s)

/-- ACK_IN: with ARMED 1 a press of 100 to 3000 ms is accepted and the next pass carries it out, a shorter, a longer or a
shorted one is refused with its RESULT (R494, R495); 3000 ms closed is stuck (R495). Degraded operation that lasts too long
locks out (R498), and QCLR keeps its clearances for the next start (R490, R510). The model's choice, not the spec's: 3000 ms
is accepted unless the press was found stuck first (log entry 71), the order at a pass boundary (log entry 51), which
clearances QCLR keeps (log entry 52), and a row without its condition does nothing (log entry 68). -/
def Obligations.AcknowledgementAndLockout : Prop :=
  ∀ s : State,
    let pressed : Prop := s.sfiUp = true ∧ s.lattice.ackEn = true ∧ s.lattice.ackLevel = true ∧ s.react.ackSeen = true
    let released : Lattice := { s.lattice with ackLevel := false }
    (∀ ms : BitVec 16, pressed → s.react.stuck = false → s.react.armed = true → 100 ≤ ms.toNat → ms.toNat ≤ 3000 →
      s.lattice.ackShort = false →
      exec (.ackPressRelease ms) s = .next { s with lattice := released, react := { s.react with
        ackOwed := some ms.toNat, accepted := satInc s.react.accepted } }) ∧
    (∀ ms : BitVec 16, pressed → s.react.stuck = false → ms.toNat < 100 →
      Completes (.ackPressRelease ms) s fun t =>
        t.react = { s.react with result := 3 } ∧ t.lattice = released ∧
        t.recorder = s.recorder.put s.dev 4 0x0413 (leBytes 1 3 ++ leBytes 2 ms.toNat)) ∧
    (∀ ms : BitVec 16, pressed → s.react.stuck = true ∨ 3000 < ms.toNat →
      Completes (.ackPressRelease ms) s fun t =>
        t.react = { s.react with stuck := false, armed := true, result := 4 } ∧ t.lattice = released) ∧
    (∀ ms : BitVec 16, pressed → s.react.stuck = false → 100 ≤ ms.toNat → ms.toNat ≤ 3000 → s.lattice.ackShort = true →
      Completes (.ackPressRelease ms) s fun t => t.react = { s.react with result := 5 } ∧ t.lattice = released) ∧
    (∀ ms, ¬ pressed → exec (.ackPressRelease ms) s = .next s) ∧
    (pressed → s.react.stuck = false →
      Completes .ackStuck s fun t =>
        t.react = { s.react with stuck := true, armed := false } ∧ t.lattice = s.lattice ∧
        t.recorder = s.recorder.put s.dev 4 0x0412 [1]) ∧
    (s.sfiUp = false ∨ s.lattice.ackLevel = false ∨ s.react.stuck = true → exec .ackStuck s = .next s) ∧
    (∀ c, c ∈ [Instr.degtimeExpire, .degopenExpire] → s.fusion.degStat = 2 →
      Completes c s fun t => t.fusion = { s.fusion with degStat := 3, degExp := true }) ∧
    (s.fusion.degStat = 1 →
      Completes .degtimeExpire s fun t => t.fusion = { s.fusion with degStat := 3, degExp := true }) ∧
    (∀ c, c ∈ [Instr.degtimeExpire, .degopenExpire] → s.fusion.degStat = 0 ∨ s.fusion.degStat = 3 → exec c s = .next s) ∧
    (s.fusion.degStat = 1 → exec .degopenExpire s = .next s) ∧
    (∀ w : Word, s.rwlOpen .MGT_QCLR [] → Completes (.qclr w) s fun t =>
        t.persist.qclr = s.persist.qclr ||| w.setWidth 24 ∧ t.persist.blocks = s.persist.blocks ∧
          t = { s with persist := t.persist })

/-- The transmit queue of a CAN controller: a port's RAW request and the host window's become entries (R526, R529, R530), an
attempt that is lost is repeated and one that is sent leaves the queue (R532, R533), a cancel removes an entry, waits for its
arbitration or comes too late, and one that names no entry is answered so (R534). A controller that is not there does nothing,
and one whose pads the image does not use attempts nothing outside LOOPBACK (R49, R514). The model's choice, not the spec's:
the order of refusals and endings of a request (log entry 54), attempts as operands (log entry 53), pads without a record (log
entry 70), and an absent or quarantined controller does nothing (log entry 68, log entry 52). -/
def Obligations.CanFramesAreQueuedAndSent : Prop :=
  ∀ (s : State) (n : Fin 3),
    let can (t : State) : Can := t.cans.get Can.reset n.val
    let c := can s
    (s.canUp n.val = true →
      (∀ (q : Fin 4) (w0 w1 w2 : Word) x, c.mode = 1 → c.queue.length < 32 → s.BUS_CANTXPCFG_WRAP n.val q.val = 0 →
        s.qf.takeItem (0x0CC0 + 4 * n.val + q.val) = (some { words := [w0, w1, w2], poison := false }, x) →
        getBits w0 31 30 = 0 → w0.getLsbD 29 = true ∨ getBits w0 28 11 = 0 → getBits w1 6 0 ≤ 4 → getBits w1 15 9 = 0 →
        getBits w1 31 24 = 0 →
        Completes (.canTxPortItem n q) s fun t =>
          can t = { c with queue := c.queue ++ [
            { src := .port q, tag := BitVec.ofNat 8 (getBits w1 23 16), wrap := false, head := w0, rtr := w1.getLsbD 7,
              oneshot := w1.getLsbD 8, data := (wordBytes w2).take (getBits w1 6 0), attempts := 0, cancel := false,
              tooLate := false }] } ∧
          t.qf = x) ∧
      (∀ q : Fin 4, c.queue.length = 32 ∨ s.noneWaits [0x0CC0 + 4 * n.val + q.val] → exec (.canTxPortItem n q) s = .next s) ∧
      (∀ w ws, c.mode = 1 → c.queue.length < 32 → (List.range 18).map (fun k => s.reg .BUS_CANTXW [n.val, k]) = ws →
        badRequest c.fden false 64 ws = false →
        Completes (.txgo n w) s fun t =>
          can t = { c with queue := c.queue ++ [requestEntry .host ws] } ∧ t = { s with cans := t.cans }) ∧
      (∀ w, c.mode = 2 →
        Completes (.txgo n w) s fun t =>
          (can t).queue = c.queue ∧ (can t).last = 8 ∧
            (can t).lastTag = BitVec.ofNat 8 (getBits (s.reg .BUS_CANTXW [n.val, 1]) 23 16)) ∧
      (∀ e rest, s.canTalks n.val = true → c.queue = e :: rest → e.cancel = false → e.oneshot = false →
        s.BUS_CANCTL_ONESHOT n.val = 0 →
        Completes (.canTxAttemptEnd n .lost) s fun t =>
          can t = { c with queue := { e with attempts := e.attempts + 1 } :: rest, won := false } ∧
            t = { s with cans := t.cans }) ∧
      (∀ e rest sof, c.mode = 1 → s.canTalks n.val = true → c.queue = e :: rest → e.src = .host → s.copy.run = none →
        Completes (.canTxAttemptEnd n (.sent sof)) s fun t =>
          (can t).queue = rest ∧ (can t).tec = c.tec - 1 ∧ (can t).last = 1 ∧ (can t).lastTag = e.tag ∧
          t.qf = s.qf.post (0x0CCC + n.val)
            [BitVec.ofNat 32 (e.tag.toNat + 256 + 65536 * 4), e.head, lowWord (s.localTime sof / 1000), BitVec.ofNat 32 (e.attempts + 1)]) ∧
      (∀ out, s.canTalks n.val = false ∨ (c.queue = [] ∧ c.won = false) → exec (.canTxAttemptEnd n out) s = .next s) ∧
      (∀ w e rest, getBits w 10 8 = 4 → c.queue = e :: rest → e.src = .host → e.tag = w.setWidth 8 → e.cancel = false →
        e.tooLate = false →
        (s.copy.run = none →
          Completes (.txcancel n .idle w) s fun t =>
            (can t).queue = rest ∧ (can t).last = 3 ∧ (can t).lastTag = e.tag) ∧
        (Completes (.txcancel n .arbitrating w) s fun t =>
          can t = { c with queue := { e with cancel := true } :: rest } ∧ t = { s with cans := t.cans }) ∧
        (Completes (.txcancel n .won w) s fun t =>
          (can t).queue = { e with tooLate := true } :: rest ∧ (can t).last = 4)) ∧
      (∀ w phase, getBits w 10 8 = 4 → c.queue = [] →
        Completes (.txcancel n phase w) s fun t =>
          (can t).queue = [] ∧ (can t).last = 7 ∧ (can t).lastTag = w.setWidth 8) ∧
      (∀ e rest, s.canTalks n.val = true → c.queue = e :: rest → e.cancel = true →
        Completes (.canArbitrationWon n) s fun t =>
          (can t).queue = { e with cancel := false, tooLate := true } :: rest ∧ (can t).won = true) ∧
      (∀ e rest, s.canTalks n.val = true → c.queue = e :: rest → e.cancel = false →
        Completes (.canArbitrationWon n) s fun t => can t = { c with won := true } ∧ t = { s with cans := t.cans }) ∧
      (s.canTalks n.val = false ∨ c.queue = [] → exec (.canArbitrationWon n) s = .next s)) ∧
    (∀ (q : Fin 4) w phase out, s.canUp n.val = false →
      ∀ i, i ∈ [Instr.canTxPortItem n q, .txgo n w, .canTxAttemptEnd n out, .txcancel n phase w, .canArbitrationWon n] →
        exec i s = .next s)

/-- Reception and error confinement: a frame that a HOST buffer lets in enters its window (R521 to R523), one that nothing
lets in is counted; reading word 0 locks the window and the last word or UNLOCK releases it (R523); an error moves the
counters, above 255 into bus-off (R537), and bus-off ends with the counters at 0 (R538); a node joins the bus (R515). The
model's choice, not the spec's: when a frame reaches its inbox (log entry 53), the counting of TEC and REC (log entry 55) with
the free value of REC above 127 (log entry 2), and an absent or quarantined controller does nothing (log entry 68, log entry
52). -/
def Obligations.CanFramesAreReceived : Prop :=
  ∀ (s : State) (n : Fin 3),
    let can (t : State) : Can := t.cans.get Can.reset n.val
    let c := can s
    let buf (t : State) (b : Nat) : RxBuf := (can t).bufs.get RxBuf.reset b
    (s.canUp n.val = true →
      (∀ f esi sof b, s.canHears n.val = true → c.receives = true → c.mode = 1 → c.recCnt ≤ 127 →
        f.fdf = false ∨ c.fden = true →
        s.bc.isReference n.val f = false → s.bc.isCopy n.val 0 f = false → s.bc.isCopy n.val 1 f = false →
        (List.range 64).find? (fun b => s.bufferTakes n.val b f) = some b → s.hostMode n.val b = true →
        (buf s b).lock = false → (buf s b).new = false →
        Completes (.canFrameReceived n f esi sof) s fun t =>
          buf t b = { buf s b with window := frameWords f esi false b (s.localTime sof / 1000), new := true } ∧
          (can t).recCnt = c.recCnt - 1 ∧ (∀ j, j ≠ b → buf t j = buf s j) ∧ (can t).noMatch = c.noMatch) ∧
      (∀ f esi sof, s.canHears n.val = true → c.receives = true → c.mode = 1 → c.recCnt ≤ 127 →
        f.fdf = false ∨ c.fden = true →
        s.bc.isReference n.val f = false → s.bc.isCopy n.val 0 f = false → s.bc.isCopy n.val 1 f = false →
        (∀ b < 64, s.bufferTakes n.val b f = false) →
        Completes (.canFrameReceived n f esi sof) s fun t =>
          (can t).noMatch = satInc c.noMatch ∧ (can t).bufs = c.bufs ∧ t = { s with cans := t.cans }) ∧
      (∀ f esi sof, s.canHears n.val = false ∨ c.receives = false ∨ (f.fdf = true ∧ c.fden = false) →
        exec (.canFrameReceived n f esi sof) s = .next s) ∧
      (∀ b : Fin 64, s.hostMode n.val b.val = true →
        (Completes (.rbWord0Read n b) s fun t => buf t b.val = { buf s b.val with lock := true } ∧
          t = { s with cans := t.cans }) ∧
        ((buf s b.val).pending = none →
          Completes (.rbLastWordRead n b) s fun t =>
            buf t b.val = { buf s b.val with lock := false, new := false } ∧ t = { s with cans := t.cans }) ∧
        (∀ w, (buf s b.val).pending = some w →
          Completes (.rbLastWordRead n b) s fun t =>
            buf t b.val = { buf s b.val with lock := false, window := w, new := true, pending := none }) ∧
        (∀ w, (buf s b.val).lock = true → (buf s b.val).pending = none →
          Completes (.rbUnlock n b w) s fun t => buf t b.val = { buf s b.val with lock := false, new := false }) ∧
        (∀ w, (buf s b.val).lock = false → Completes (.rbUnlock n b w) s fun t => buf t b.val = buf s b.val)) ∧
      (s.canHears n.val = true → c.receives = true → c.mode = 1 → c.tec + 8 ≤ 255 →
        Completes (.canError n .transmit) s fun t =>
          can t = { c with tec := c.tec + 8, estate := if 128 ≤ c.tec + 8 ∨ 128 ≤ c.recCnt then 1 else 0 }) ∧
      (s.canHears n.val = true → c.receives = true → c.mode = 1 → 255 < c.tec + 8 → c.queue = [] →
        Completes (.canError n .transmit) s fun t =>
          can t = { c with tec := c.tec + 8, estate := 2, boSeen := true, recov := 0, won := false } ∧
          t.recorder = s.recorder.put s.dev 0x0C 0x0C01 (leBytes 1 n.val ++ leBytes 1 (min 255 c.recCnt))) ∧
      (s.canHears n.val = true → c.receives = true → c.mode = 1 → c.tec ≤ 255 →
        Completes (.canError n (.dominant false)) s fun t => (can t).recCnt = c.recCnt + 8 ∧ (can t).tec = c.tec) ∧
      (∀ e, s.canHears n.val = false ∨ c.receives = false ∨ c.mode ≠ 1 → exec (.canError n e) s = .next s) ∧
      (s.canHears n.val = true → c.estate = 2 →
        Completes (.canBusoffEnd n) s fun t =>
          can t = { c with estate := 0, tec := 0, recCnt := 0, onBus := false, recov := 0, busoffs := satInc c.busoffs }) ∧
      (s.canHears n.val = false ∨ c.estate ≠ 2 → exec (.canBusoffEnd n) s = .next s) ∧
      (s.canHears n.val = true → c.mode = 1 ∨ c.mode = 2 → c.onBus = false → c.estate ≠ 2 →
        Completes (.canBusJoin n) s fun t =>
          can t = { c with onBus := true, estate := if 128 ≤ c.tec ∨ 128 ≤ c.recCnt then 1 else 0 } ∧
            t = { s with cans := t.cans }) ∧
      (s.canHears n.val = false ∨ c.onBus = true → exec (.canBusJoin n) s = .next s)) ∧
    (∀ f esi sof e (b : Fin 64) w, s.canUp n.val = false →
      ∀ i, i ∈ [Instr.canFrameReceived n f esi sof, .rbWord0Read n b, .rbLastWordRead n b, .rbUnlock n b w, .canError n e,
        .canBusoffEnd n, .canBusJoin n] → exec i s = .next s)

/-- The time service: a master sends its reference with the next SEQ (R541, R542), a slave keeps a reference and steps to the
time of a pair (R543, R544), silence leads to HOLDOVER and UNSYNC (R545), and a read of BUS_TSNTLO latches the high word
(R554). The model's choice, not the spec's: the first SEQ, the pair and the record bytes (log entry 56, log entry 10), a rate
with a zero divisor (log entry 11), that the row is the moment (log entry 5), and an absent or quarantined BUS does nothing
(log entry 68, log entry 52). -/
def Obligations.NetworkTimeIsKept : Prop :=
  ∀ s : State,
    (s.canUp s.timeCtrl = true → s.time.stat = .master → (s.cans.get Can.reset s.timeCtrl).mode ≠ 2 →
      (s.cans.get Can.reset s.timeCtrl).fden = true → (s.cans.get Can.reset s.timeCtrl).queue.length < 32 →
      Completes .timeRefSend s fun t =>
        t.time = { s.time with seq := s.time.seq + 1 } ∧
        ∃ e, (t.cans.get Can.reset s.timeCtrl).queue = (s.cans.get Can.reset s.timeCtrl).queue ++ [e] ∧ e.src = .time ∧
          e.data = s.time.reference s.BUS_TSCTL_NODE (s.time.seq + 1)) ∧
    (s.canUp s.timeCtrl = true → s.time.stat = .master → (s.cans.get Can.reset s.timeCtrl).fden = false →
      Completes .timeRefSend s fun t => t.cans = s.cans ∧ t.time = { s.time with seq := s.time.seq + 1 }) ∧
    (s.time.stat ≠ .master → exec .timeRefSend s = .next s) ∧
    (∀ d lt rest, s.runs .bus = true → s.timeRole = 2 → s.time.stat ≠ .off → s.time.inbox = (d, lt) :: rest →
      s.time.prev = none →
      Completes .timeRefReceived s fun t =>
        t.time = { s.time with inbox := rest, seq := BitVec.ofNat 16 (leAt d 0 2), prev := some (BitVec.ofNat 16 (leAt d 0 2), lt) } ∧
        t = { s with time := t.time }) ∧
    (∀ d lt rest l, s.runs .bus = true → s.timeRole = 2 → s.time.stat = .unsync → s.time.inbox = (d, lt) :: rest →
      s.time.prev = some (BitVec.ofNat 16 (leAt d 0 2) - 1, l) → (d.getD 3 0).getLsbD 0 = true →
      Completes .timeRefReceived s fun t =>
        t.time.stat = .acquiring ∧ t.time.la = l ∧ t.time.na = leAt d 4 8 ∧ t.time.corr = 0 ∧
        t.time.steps = satInc s.time.steps ∧ t.time.pair = some ((l : Int), (leAt d 4 8 : Int)) ∧ t.time.inbox = rest ∧
        t.time.nt l = leAt d 4 8) ∧
    (s.time.inbox = [] → exec .timeRefReceived s = .next s) ∧
    (s.runs .bus = true → s.time.stat = .locked ∨ s.time.stat = .acquiring →
      Completes .timeHoldoverTimeout s fun t =>
        t.time = { s.time with stat := .holdover, good := 0, corr := 0, la := s.dev * 1000, na := s.time.nt (s.dev * 1000) }) ∧
    (s.time.stat = .off ∨ s.time.stat = .unsync ∨ s.time.stat = .holdover ∨ s.time.stat = .master →
      exec .timeHoldoverTimeout s = .next s) ∧
    (s.runs .bus = true → s.time.stat = .holdover →
      Completes .timeUnsyncTimeout s fun t => t.time = { s.time with stat := .unsync, good := 0 }) ∧
    (s.time.stat ≠ .holdover → exec .timeUnsyncTimeout s = .next s) ∧
    (∀ phase : Fin 80, s.runs .bus = true → s.timeRole ≠ 0 →
      exec (.tsntloRead phase) s = .next { s with time := { s.time with
        nthi := ((BitVec.ofInt 64 (s.time.nt (s.dev * 1000 + phase.val * 25 / 2))) >>> 32).setWidth 32 } }) ∧
    (∀ phase : Fin 80, s.runs .bus = false ∨ s.timeRole = 0 → exec (.tsntloRead phase) s = .next s)

/-- Porlux connections: a transmitting connection numbers, stamps and signs its frames (R556, R557, R561, R562), a received
one passes the checks in their order or is discarded with its code (R565), the watchdog makes a connection STALE (R567), the
network virtual inputs are posted (R466, R569), and an internal check holds the engine with every input 0 (R570). The model's
choice, not the spec's: PEERNODE, the seed and the order of single cases (log entry 57), the bytes of a record (log entry 10),
and an absent or quarantined BUS does nothing (log entry 68, log entry 52). -/
def Obligations.PorluxFramesAreBuiltAndChecked : Prop :=
  ∀ s : State,
    let conn (t : State) (c : Nat) : Conn := t.porlux.conns.get Conn.reset c
    let queue (t : State) (n : Nat) : List TxEntry := (t.cans.get Can.reset n).queue
    let nextSeq (x : Conn) : BitVec 16 := if x.built then x.lastSeq + 1 else 0
    let sent (c : Nat) (t : State) (payload : List Byte) : Prop :=
      let x := conn s c
      conn t c = { x with lastSeq := nextSeq x, built := true } ∧
      ∃ e, queue t x.ctrl = queue s x.ctrl ++ [e] ∧ e.src = .porlux c ∧ e.head = x.head ∧
        e.data = pxFrame x.connId (nextSeq x) (s.time.net s.dev) x.len s.ownSeed payload
    let room (x : Conn) : Prop := (queue s x.ctrl).length < 32 ∧ (s.cans.get Can.reset x.ctrl).mode ≠ 2 ∧
      (s.cans.get Can.reset x.ctrl).fden = true
    (s.pxUp = true →
      (∀ c : Fin 64, (conn s c.val).transmits = true → (conn s c.val).kind = 0 → s.bc.halts (conn s c.val) = false →
        room (conn s c.val) → s.tile 0x0B 0 = none → s.noneWaits [0x0CE9] → s.porlux.nvo = none →
        Completes (.pxFrameBuild c) s fun t => sent c.val t (wordsBytes [0xFFFF0000, 0])) ∧
      (∀ c : Fin 64, (conn s c.val).transmits = false → s.noneWaits [0x0CE9] → exec (.pxFrameBuild c) s = .next s) ∧
      (∀ (c : Fin 64) w q, (conn s c.val).transmits = true → (conn s c.val).kind = 1 → s.bc.halts (conn s c.val) = false →
        room (conn s c.val) → (conn s c.val).plen = 8 → (conn s c.val).tm = 0 →
        s.qf.takeItem (0x0CD8 + (conn s c.val).dport) = (some { words := [w], poison := false }, q) →
        Completes (.pxDataSend c) s fun t => sent c.val t (wordsBytes [1, w])) ∧
      (∀ c : Fin 64, (conn s c.val).transmits = false ∨ (conn s c.val).kind ≠ 1 →
        exec (.pxDataSend c) s = .next s ∧ exec (.pxHeartbeat c) s = .next s) ∧
      (∀ c : Fin 64, (conn s c.val).transmits = true → (conn s c.val).kind = 1 → s.bc.halts (conn s c.val) = false →
        room (conn s c.val) → (conn s c.val).plen = 4 →
        Completes (.pxHeartbeat c) s fun t => sent c.val t (wordsBytes [0])) ∧
      (∀ r rest c, s.porlux.inbox = r :: rest → s.porlux.intFlt = false → s.bc.owner r.frame = some c → r.frame.fdf = true →
        (conn s c).len = r.frame.data.length → (conn s c).accAt = none → (conn s c).kind = 0 → (conn s c).state = .run →
        s.bc.checks c r = 0 →
        Completes (.pxFrameReceive false) s fun t =>
          t.porlux.inbox = rest ∧ (conn t c).lastSeq = BitVec.ofNat 16 (leAt r.frame.data 2 2) ∧
            (conn t c).accAt = some r.at_ ∧
          (conn t c).state = .run ∧ (conn t c).values = (pxWord r.frame.data 0).setWidth 16 ∧
          (conn t c).word1 = pxWord r.frame.data 1 ∧ (conn t c).discards = (conn s c).discards) ∧
      (∀ r rest c, s.porlux.inbox = r :: rest → s.porlux.intFlt = false → s.bc.owner r.frame = some c → r.frame.fdf = true →
        (conn s c).len = r.frame.data.length → (conn s c).accAt = none → s.bc.checks c r = 4 →
        Completes (.pxFrameReceive false) s fun t =>
          t.porlux.inbox = rest ∧ (conn t c).lastErr = 4 ∧ (conn t c).discards = satInc (conn s c).discards ∧
          (conn t c).lastSeq = (conn s c).lastSeq ∧ (conn t c).values = (conn s c).values ∧
            (conn t c).state = (conn s c).state) ∧
      (∀ r rest c, s.porlux.inbox = r :: rest → s.porlux.intFlt = false → s.bc.owner r.frame = some c →
        Completes (.pxFrameReceive true) s fun t =>
          t.porlux.inbox = rest ∧ (conn t c).lastErr = 0x0A ∧ (conn t c).discards = satInc (conn s c).discards) ∧
      (∀ parity, s.porlux.inbox = [] → exec (.pxFrameReceive parity) s = .next s) ∧
      (∀ c : Fin 64, (conn s c.val).receives = true → (conn s c.val).state = .run →
        Completes (.pxWatchdogExpire c) s fun t =>
          (conn t c.val).state = .stale ∧ (conn t c.val).expiries = satInc (conn s c.val).expiries ∧
          (conn t c.val).lastSeq = (conn s c.val).lastSeq) ∧
      (∀ c : Fin 64, (conn s c.val).state ≠ .run → exec (.pxWatchdogExpire c) s = .next s) ∧
      (Completes .nviPostTick s fun t =>
        t.porlux = { s.porlux with nviCnt := s.porlux.nviCnt + 1, nviLast := s.bc.netInputs } ∧
        t.qf = s.qf.post 0x0CE8
          [s.bc.netInputs.setWidth 32 ||| ((~~~s.bc.netInputs).setWidth 32 <<< 16), s.porlux.nviCnt + 1]) ∧
      (∀ (c : Fin 64) k, Completes (.pxInternal c k) s fun t =>
        t.porlux.intFlt = true ∧ t.porlux.nviLast = 0 ∧ t.bc.netInputs = 0 ∧
        ((s.recorder.taps.get RecTap.reset 0x0C).recs.length < 4 →
          (t.recorder.taps.get RecTap.reset 0x0C).recs[(s.recorder.taps.get RecTap.reset 0x0C).recs.length]? =
            some { dtime := s.dev, code := 0x0C23, wall := none
                   data := [BitVec.ofNat 8 c.val, match k with | .recheck => 1 | .parity => 2] })) ∧
      (∀ w : Word,
        Completes (.pxClrcnt w) s fun t =>
          t.porlux.unknown = 0 ∧
          (∀ c < 64, conn t c = { conn s c with discards := 0, expiries := 0 }) ∧ t = { s with porlux := t.porlux })) ∧
    (∀ (c : Fin 64) parity k w, s.pxUp = false →
      ∀ i, i ∈ [Instr.pxFrameBuild c, .pxDataSend c, .pxHeartbeat c, .pxFrameReceive parity, .pxWatchdogExpire c, .nviPostTick,
        .pxInternal c k, .pxClrcnt w] → exec i s = .next s)

/-- The lease gate and its issuer: an item of the own unit renews the lease, one with an old number is counted and nothing
more (R583), expiry opens every output (R583, R584); reports reach the issuer, their loss or WITHDRAW ends the holder (R586),
a build sends the lease (R581, R587), and a grant takes the next number (R588). The model's choice, not the spec's: items with
POISON and the causes of LEASE_GAINED (log entry 58), when a holder is judged (log entry 59), that the row is the moment (log
entry 5), and an absent gate or issuer does nothing (log entry 68). -/
def Obligations.LeasesAreIssuedHeldAndLost : Prop :=
  ∀ s : State,
    let g := s.gate
    let x := s.issuer
    (∀ (no w1 exp w3 : Word), s.sfiUp = true → s.leaseImage = true → s.start.phase ≠ 8 → g.stat = .active →
      g.seen = false ∨ 0 ≤ sDiff no g.high → getBits w1 7 0 = bit g.unit → w1.getLsbD 8 = false →
      exec (.leaseItem { words := [no, w1, exp, w3], poison := false }) s =
        .next { s with gate := { g with high := no, seen := true, held := no, exp := exp, lastHolder := some g.unit } }) ∧
    (∀ (no w1 exp w3 : Word), s.sfiUp = true → s.leaseImage = true → s.start.phase ≠ 8 → g.seen = true → sDiff no g.high < 0 →
      exec (.leaseItem { words := [no, w1, exp, w3], poison := false }) s =
        .next { s with gate := { g with oldNum := satInc g.oldNum } }) ∧
    (∀ (no w1 exp w3 : Word), s.sfiUp = true → s.leaseImage = true → g.stat = .active → g.seen = false ∨ 0 ≤ sDiff no g.high →
      getBits w1 7 0 = 1 - bit g.unit → w1.getLsbD 8 = false →
      Completes (.leaseItem { words := [no, w1, exp, w3], poison := false }) s fun t =>
        t.gate.stat = .standby ∧ t.gate.loss = 2 ∧ t.gate.high = no ∧
        ∀ k < 6, (t.lattice.outs.get SafetyOut.reset k).on = false) ∧
    (∀ (no w1 exp w3 : Word), s.sfiUp = true → s.leaseImage = true → g.stat ≠ .active → g.seen = false ∨ 0 ≤ sDiff no g.high →
      getBits w1 7 0 = bit g.unit → w1.getLsbD 8 = false →
      Completes (.leaseItem { words := [no, w1, exp, w3], poison := false }) s fun t =>
        t.gate.stat = .active ∧ t.gate.held = no ∧ t.gate.exp = exp ∧ t.gate.takeovers = satInc g.takeovers ∧
        t.gate.takeover = (g.lastHolder == some (!g.unit))) ∧
    (∀ it : Item, s.start.phase ≠ 8 → s.sfiUp = false ∨ s.leaseImage = false ∨ it.poison = true →
      exec (.leaseItem it) s = .next s) ∧
    (s.sfiUp = true → s.leaseImage = true → g.stat = .active →
      Completes .leaseExpiry s fun t =>
        t.gate.stat = .seeking ∧ t.gate.loss = 1 ∧ ∀ k < 6, (t.lattice.outs.get SafetyOut.reset k).on = false) ∧
    (s.start.phase ≠ 8 → s.sfiUp = false ∨ g.stat ≠ .active → exec .leaseExpiry s = .next s) ∧
    (s.leaseImage = true → s.runs .bus = true →
      Completes .unitReportPost s fun t =>
        t.copy = { s.copy with report := s.reportWords } ∧ t.qf = s.qf.post 0x0CF7 s.reportWords ∧
        s.reportWords.getD 1 0 = g.held) ∧
    (s.leaseImage = false ∨ s.runs .bus = false → exec .unitReportPost s = .next s) ∧
    (s.issuerUp = true →
      (∀ u (w0 held epoch w3 : Word), x.holder = none → x.stat ≠ .starting →
        exec (.unitReport u { words := [w0, held, epoch, w3], poison := false }) s =
          .next { s with issuer := if u then { x with repB := some { word0 := w0, held := held, epoch := epoch, at_ := s.dev } }
                                   else { x with repA := some { word0 := w0, held := held, epoch := epoch, at_ := s.dev } } }) ∧
      (∀ u it, it.poison = true → exec (.unitReport u it) s = .next s) ∧
      (∀ u, x.holder = some u → s.noneWaits [0x0CF0 + bit u] →
        Completes (.reportLoss u) s fun t =>
          t.issuer.holder = none ∧ t.issuer.lastHolder = some u ∧ t.issuer.lostBy = 1 ∧ t.issuer.stat = .waiting ∧
          t.issuer.lostAt = s.dev ∧ t.recorder = s.recorder.put s.dev 0x0C 0x0C31 (leBytes 1 (bit u) ++ leBytes 1 1)) ∧
      (∀ u w, s.rwlOpen .BUS_LICTL [] → x.holder = some u →
        Completes (.lictlWithdraw w) s fun t =>
          t.issuer = { x with holder := none, lastHolder := some u, lostBy := 4, lostAt := s.dev, stat := .waiting,
                              released := none, waived := false } ∧
          t.recorder = s.recorder.put s.dev 0x0C 0x0C31 (leBytes 1 (bit u) ++ leBytes 1 4)) ∧
      (∀ w, s.rwlOpen .BUS_LICTL [] → x.holder = none →
        Completes (.lictlWithdraw w) s fun t => t = { s with persist := t.persist }) ∧
      (∀ u, s.noneWaits [0x0CF0, 0x0CF1] → x.repA = none → x.repB = none → x.holder = some u → s.connCount = 1 →
        let c := s.porlux.conns.get Conn.reset 0
        let q (t : State) : List TxEntry := (t.cans.get Can.reset c.ctrl).queue
        c.kind = 2 → c.transmits = true → c.plen = 16 → s.bc.halts c = false → (q s).length < 32 →
        (s.cans.get Can.reset c.ctrl).mode ≠ 2 → (s.cans.get Can.reset c.ctrl).fden = true →
        Completes .leaseBuild s fun t =>
          t.issuer.named = some (s.dev, s.BUS_LICFG_LEASEMS * 1000) ∧
          ∃ e, q t = q s ++ [e] ∧ e.src = .porlux 0 ∧
            e.data = pxFrame c.connId (if c.built then c.lastSeq + 1 else 0) (s.time.net s.dev) c.len s.ownSeed
              (wordsBytes [s.reg .BUS_LINUM, ~~~(s.reg .BUS_LINUM), BitVec.ofNat 32 (bit u + 256 * (255 - bit u)),
                BitVec.ofNat 32 (s.BUS_LICFG_LEASEMS * 1000)])) ∧
      (s.noneWaits [0x0CF0, 0x0CF1] → x.repA = none → x.repB = none → s.connCount = 0 → exec .leaseBuild s = .next s) ∧
      (∀ r, s.noneWaits [0x0CF0, 0x0CF1] → x.stat = .waiting → x.holder = none → x.lastHolder = none → x.named = none →
        x.repA = some r → x.repB = none → s.dev ≤ r.at_ + s.BUS_LICFG_REPLOSS * 1000 → r.word0.getLsbD 3 = true →
        Completes .refGrant s fun t =>
          t.issuer.holder = some false ∧ t.issuer.stat = .holding ∧ t.issuer.grants = satInc x.grants ∧
          t.issuer.grantAt = s.dev ∧ t.reg .BUS_LINUM = s.reg .BUS_LINUM + 1) ∧
      (∀ u, s.noneWaits [0x0CF0, 0x0CF1] → x.repA = none → x.repB = none → x.holder = some u → exec .refGrant s = .next s)) ∧
    (∀ u it w, s.issuerUp = false →
      (∀ i, i ∈ [Instr.unitReport u it, .reportLoss u, .leaseBuild, .refGrant] → exec i s = .next s) ∧
      (s.rwlOpen .BUS_LICTL [] → Completes (.lictlWithdraw w) s fun t => t = { s with persist := t.persist }))

/-- Epochs, the copy link and the allemande: the ACTIVE unit begins an epoch, the STANDBY unit assembles its frames and keeps
it (R592 to R596), an acknowledgement ends it (R592), the link's loss and return show in LINKOK and COPY (R597, R598, R602),
and HANDOVER starts an allemande once its conditions hold, which CANCEL ends before its release (R603, R604). The model's
choice, not the spec's: what becomes of waiting frames and of a HANDOVER out of place (log entry 60), that the row is the
moment (log entry 5), and an absent copy link or gate does nothing (log entry 68). -/
def Obligations.EpochsAreCopiedAndHandedOver : Prop :=
  ∀ s : State,
    let c := s.copy
    let idle : Prop := s.gate.hstate ≠ .deferred ∧ s.gate.hstate ≠ .finalEpoch
    (s.runs .bus = true → s.leaseImage = true →
      (s.gate.stat = .active → idle → c.run = none →
        Completes .epochBegin s fun t =>
          t.copy.seq = c.seq + 1 ∧
          ∃ r, t.copy.run = some r ∧ r.epoch = c.seq + 1 ∧ r.final = false ∧ r.commitAt = none ∧ r.acked = false) ∧
      (∀ r, s.gate.stat = .active → idle → c.run = some r → r.commitAt = none → r.acked = false →
        exec .epochBegin s = .next s) ∧
      (∀ d rest, s.gate.stat = .standby → c.frames = d :: rest → c.linkOk = true → leAt d 4 2 ≠ 0xFFFF → c.assembly = none →
        exec .copyFrame s = .next { s with copy := { c with
          frames := rest, linkAt := some s.dev,
          assembly := some { epoch := BitVec.ofNat 32 (leAt d 0 4), total := leAt d 6 2,
                             frames := [(leAt d 4 2, (d.drop 8).take 56)], linked := true } } }) ∧
      (s.gate.stat = .active → exec .copyFrame s = .next { s with copy := { c with frames := c.frames.tail } }) ∧
      (s.gate.stat = .standby → c.frames = [] → exec .copyFrame s = .next s) ∧
      (∀ d rest r, s.gate.stat = .active → idle → c.acks = d :: rest → c.linkOk = true → c.run = some r → r.acked = false →
        r.final = false → BitVec.ofNat 32 (leAt d 0 4) = r.epoch → leAt d 4 1 = 0 →
        exec .epochAck s = .next { s with copy := { c with
          acks := rest, linkAt := some s.dev, peerEligible := leAt d 5 1 % 2 == 1, run := some { r with acked := true },
          ackedSeq := r.epoch } }) ∧
      (∀ d rest r, s.gate.stat = .active → idle → c.acks = d :: rest → c.linkOk = true → c.run = some r → r.acked = false →
        r.final = false → BitVec.ofNat 32 (leAt d 0 4) = r.epoch → leAt d 4 1 ≠ 0 →
        Completes .epochAck s fun t =>
          t.copy.run = none ∧ t.copy.ackedSeq = c.ackedSeq ∧
          t.recorder = s.recorder.put s.dev 0x0C 0x0C32 (wordBytes r.epoch ++ [2])) ∧
      (s.gate.stat = .standby → exec .epochAck s = .next { s with copy := { c with acks := c.acks.tail } }) ∧
      (c.linkOk = true → idle →
        Completes .linkFault s fun t =>
          t.copy = { c with linkOk := false, linkFellAt := s.dev, copy := if c.copy = .fresh then .stale else c.copy,
                            assembly := c.assembly.map fun a => { a with linked := false },
                            ready := c.ready.map fun r => (r.1, false), linkQ := c.linkQ || s.gate.stat == .standby } ∧
          t.recorder = s.recorder.put s.dev 0x0C 0x0C33 (leBytes 1 (leaseCode s.gate.stat) ++ leBytes 1 c.latestHolder.toNat)) ∧
      (∀ t0, c.linkOk = false → idle → c.linkAt = some t0 → s.dev ≤ t0 + s.BUS_EPCTL_LINKMS * 1000 →
        Completes .linkBack s fun t => t.copy = { c with linkOk := true, linkQ := false }) ∧
      (c.linkAt = none → exec .linkBack s = .next s)) ∧
    (c.linkOk = false → exec .linkFault s = .next s) ∧
    (∀ b linked, c.ready = some (b, linked) →
      Completes .epochCommit s fun t =>
        t.copy = { c with ready := none, seq := b.epoch, committed := b.epoch,
                          copy := if c.linkOk = true ∧ (c.copy ≠ .stale ∨ linked = true) then .fresh else .stale } ∧
        ∃ i, i < 2 ∧ t.persist.epochs.get none i = some b ∧
          ∀ j, j ≠ i → t.persist.epochs.get none j = s.persist.epochs.get none j) ∧
    (c.ready = none → exec .epochCommit s = .next s) ∧
    (s.runs .bus = false ∨ s.leaseImage = false →
      ∀ i, i ∈ [Instr.epochBegin, .copyFrame, .epochAck, .linkFault, .linkBack] → exec i s = .next s) ∧
    (∀ w : Word, s.rwlOpen .SFI_LSCTL [] → s.sfiUp = true → s.leaseImage = true → s.gate.stat = .active → idle →
      w.getLsbD 1 = false →
      (s.handReason = 0 →
        Completes (.handover w) s fun t =>
          t = { s with gate := { s.gate with hstate := .finalEpoch, hreason := 0 }, persist := t.persist }) ∧
      (s.handReason ≠ 0 →
        Completes (.handover w) s fun t =>
          t = { s with gate := { s.gate with hstate := .deferred, hreason := BitVec.ofNat 4 s.handReason },
                       persist := t.persist })) ∧
    (∀ w : Word, s.rwlOpen .SFI_LSCTL [] → s.sfiUp = true → s.leaseImage = true → w.getLsbD 0 = false →
      (¬ idle →
        Completes (.handoverCancel w) s fun t =>
          t.gate = { s.gate with hstate := .aborted, hreason := 6 } ∧
          t.recorder = s.recorder.put s.dev 4 0x0424 (leBytes 1 (handCode .aborted) ++ leBytes 1 6 ++ wordBytes s.gate.finalEpoch)) ∧
      (idle → Completes (.handoverCancel w) s fun t => t = { s with persist := t.persist })) ∧
    (∀ w : Word, s.rwlOpen .SFI_LSCTL [] → s.sfiUp = false ∨ s.leaseImage = false →
      ∀ i, i ∈ [Instr.handover w, .handoverCancel w] → Completes i s fun t => t = { s with persist := t.persist })

/-- A step runs the command at the front of the queue on the state with the queue's rest. With no command waiting, 1 µs
passes: device time, the RTC's count, the start's own time, the wait after a failed UNLOCK, the rest of TAMPOUT's pulse and
the time RESET_N has been held low, each while its part runs, and nothing else (the model's choice, log entry 4). -/
def Obligations.StepRunsTheFrontCommand : Prop :=
  ∀ (s : State) (c : Instr) (rest : List Instr),
    step { s with pending := c :: rest } = exec c { s with pending := rest } ∧
    (s.pending = [] → ∃ t, step s = .next t ∧
      t = { s with
        dev := if s.pwrUp then s.dev + 1 else s.dev
        start := { s.start with
          elapsed := if s.supplies.vmainOk = true ∧ s.power.state = .starting then s.start.elapsed + 1 else s.start.elapsed }
        session := { s.session with wait := if s.mgtUp then s.session.wait - 1 else s.session.wait }
        aon := { s.aon with
          rtcSec := t.aon.rtcSec, rtcFrac := t.aon.rtcFrac, rtcSub := t.aon.rtcSub
          pulseUs := if s.power.state = .off then s.aon.pulseUs else s.aon.pulseUs - 1
          holdUs := if s.power.state ≠ .off ∧ s.aon.resetLow = true then s.aon.holdUs + 1 else s.aon.holdUs } } ∧
      (s.power.state = .off ∨ s.quarantined 23 = true →
        t.aon.rtcSub = s.aon.rtcSub ∧ t.aon.rtcFrac = s.aon.rtcFrac ∧ t.aon.rtcSec = s.aon.rtcSec) ∧
      (s.power.state ≠ .off → s.quarantined 23 = false →
        (s.aon.rtcSub + 4096 < 125000 →
          t.aon.rtcSub = s.aon.rtcSub + 4096 ∧ t.aon.rtcFrac = s.aon.rtcFrac ∧ t.aon.rtcSec = s.aon.rtcSec) ∧
        (125000 ≤ s.aon.rtcSub + 4096 →
          t.aon.rtcSub = s.aon.rtcSub + 4096 - 125000 ∧ t.aon.rtcFrac = s.aon.rtcFrac + 2 ∧
          t.aon.rtcSec = if s.aon.rtcFrac.toNat < 65534 then s.aon.rtcSec else s.aon.rtcSec + 1)))

/-- Right after reset the device is at step 3 of the start (R136) with READY not reached, no command waits, every stored
register word is its reset word, the array keeps its bounds, no session is open, no record waits in a tap or is held, and no
image is in force; the values the spec gives none for are the model's (log entry 1). -/
def Obligations.ResetStateHolds : Prop :=
  State.reset.pending = [] ∧ State.reset.ArrayInv ∧ State.reset.image = none ∧ State.reset.session.unlocked = false ∧
  State.reset.recorder.stage = [] ∧ (∀ i, State.reset.recorder.taps.get RecTap.reset i = RecTap.reset) ∧
    State.reset.lanes = [] ∧
  State.reset.recorder.frozen = false ∧ State.reset.persist.prov = false ∧
  State.reset.fabric.queues = [] ∧ State.reset.regs = [] ∧
  (∀ r idx, State.reset.reg r idx = r.resetWord) ∧
  State.reset.view .SYS_STAT [] = 3 ∧ State.reset.view .SYS_ID [] = 0x940000B0 ∧ State.reset.view .SYS_TEMPO [] = 0x11 ∧
  State.reset.view .PWR_GATE [] = 7 ∧ State.reset.view .MGT_LDSTAT [] = Reg.resetWord .MGT_LDSTAT ∧
  (∀ k, k < 6 → (State.reset.sf.out k).on = false)

/-- Every command answers a next state, and no command adds, takes or reorders the commands that wait. The model's choice, not
the spec's: a row whose unit is absent or stopped answers with the state it found (log entry 68), and no row waits for its own
moment (log entry 5). -/
def Obligations.EveryCommandAnswersAndKeepsTheQueue : Prop :=
  ∀ (c : Instr) (s : State), ∃ t, exec c s = .next t ∧ t.pending = s.pending

/-- What the commands of the queues, the figure engines, fusion and the planners, the loops and doors, and the scheduler
change: their own island's part, with the queues they post to, their recorder tap and the count of free values; every other
part of the device stays, and so do the registers of the other islands' blocks (R30), with NLAND at most 256 where a learn run
writes its table (R244). A command of one figure engine leaves the other engines (R417), SIG apart (R433). The model's choice,
not the spec's: records of a part wait in its island's tap, and one that MGT commits takes the heads of every tap with it (log
entry 61), so the taps are pinned where no record is committed; effects happen at the row (log entry 9). -/
def Obligations.MotionAndFigureCommandsChangeOnlyTheirPart : Prop :=
  ∀ (c : Instr) (s t : State), exec c s = .next t →
    (c.ofQueues = true → t = { s with
        fresh := t.fresh, recorder := t.recorder, fabric := t.fabric, ports := t.ports } ∧ s.tapsKept t [3]) ∧
    (c.ofSeq = true → t = { s with
        fresh := t.fresh, recorder := t.recorder, fabric := t.fabric, ports := t.ports, seqr := t.seqr } ∧
          s.tapsKept t [3, 11]) ∧
    (c.ofMpi = true → t = { s with
        fresh := t.fresh, regs := t.regs, lanes := t.lanes, recorder := t.recorder, fabric := t.fabric,
        ports := t.ports, fusion := t.fusion, planners := t.planners } ∧ s.tapsKept t [3, 5] ∧
      ((c = .runPhaseEnd → s.MPI_NLAND ≤ 256) → ∀ a, islandAt a ≠ some 5 → t.regs.get 0 a = s.regs.get 0 a)) ∧
    (c.ofMc = true → t = { s with
        fresh := t.fresh, regs := t.regs, lanes := t.lanes, recorder := t.recorder, fabric := t.fabric,
        ports := t.ports, loops := t.loops, motors := t.motors, doors := t.doors } ∧ s.tapsKept t [3, 5, 6, 7, 8, 9] ∧
      ∀ a, (∀ i ∈ [5, 6, 7, 8, 9], islandAt a ≠ some i) → t.regs.get 0 a = s.regs.get 0 a) ∧
    (c.ofSch = true → t = { s with
        fresh := t.fresh, recorder := t.recorder, fabric := t.fabric, ports := t.ports, sched := t.sched } ∧
          s.tapsKept t [3, 10]) ∧
    (c = .fposRead → t = { s with fusion := t.fusion }) ∧
    (c = .fusionLearn ∨ c = .fusionHome ∨ c = .fusionAbort → t = { s with
        lanes := t.lanes,
        fresh := t.fresh, regs := t.regs, persist := t.persist, recorder := t.recorder, fabric := t.fabric,
        ports := t.ports, fusion := t.fusion, planners := t.planners } ∧
      ∀ a, islandAt a ≠ some 5 → t.regs.get 0 a = s.regs.get 0 a) ∧
    (∀ w, c = .nlandWrite w → t = { s with
        lanes := t.lanes,
        regs := t.regs, persist := t.persist, recorder := t.recorder, fusion := t.fusion } ∧
          s.regsKept t [Reg.addr .MPI_NLAND []]) ∧
    (∀ e w, c = .holdWrite e w → t = { s with
        lanes := t.lanes,
        regs := t.regs, persist := t.persist, recorder := t.recorder, loops := t.loops } ∧
          s.regsKept t [Reg.addr .LEHOLD [e.val]]) ∧
    (∀ f : Fin 4, c.figureEngine = some f → ∀ g, g ≠ f.val →
      t.seqr.figs.get Figure.reset g = s.seqr.figs.get Figure.reset g)

/-- What the commands of the interlock lattice and the safety inputs and outputs, of the lease, of CAN, time, Porlux and the
epoch copy, of the lease issuer and of the rescue sequence change: the parts named here; every other part of the device stays.
The model's choice, not the spec's: a record that MGT commits takes the heads of every tap with it (log entry 61), so the taps
are pinned where none is committed; outputs and the parts that follow a pass do so at the row (log entry 9, log entry 47). -/
def Obligations.SafetyAndBusCommandsChangeOnlyTheirPart : Prop :=
  ∀ (c : Instr) (s t : State), exec c s = .next t →
    (c.ofSfi = true → t = { s with
        fresh := t.fresh, lanes := t.lanes, field := t.field, recorder := t.recorder, fabric := t.fabric,
        ports := t.ports, lattice := t.lattice, react := t.react, gate := t.gate } ∧ s.tapsKept t [1, 3, 4]) ∧
    (c.ofGate = true → t = { s with
        fresh := t.fresh, lanes := t.lanes, start := t.start, field := t.field, rescue := t.rescue,
        recorder := t.recorder, fabric := t.fabric, ports := t.ports, lattice := t.lattice, react := t.react,
        gate := t.gate, sched := t.sched, cans := t.cans, copy := t.copy } ∧ s.tapsKept t [1, 3, 4, 10, 12]) ∧
    (c.ofBus = true → t = { s with
        persist := t.persist,
        fresh := t.fresh, recorder := t.recorder, fabric := t.fabric, ports := t.ports, cans := t.cans,
        time := t.time, porlux := t.porlux, issuer := t.issuer, copy := t.copy } ∧ s.tapsKept t [3, 12]) ∧
    (c.ofIssuer = true → t = { s with
        fresh := t.fresh, regs := t.regs, lanes := t.lanes, recorder := t.recorder, fabric := t.fabric,
        ports := t.ports, cans := t.cans, time := t.time, porlux := t.porlux, issuer := t.issuer,
        copy := t.copy } ∧ s.tapsKept t [3, 12] ∧ ∀ r idx, r.addr idx ≠ Reg.addr .BUS_LINUM [] → t.reg r idx = s.reg r idx) ∧
    (c.ofRescue = true → t = { s with
        fresh := t.fresh, rescue := t.rescue, recorder := t.recorder, fabric := t.fabric, ports := t.ports } ∧
          s.tapsKept t [1, 3]) ∧
    (∀ p, c = .lepLimiterAct p → t = { s with field := t.field }) ∧
    (∀ p, c = .lepLimiterRelease p → t = { s with field := t.field }) ∧
    (c = .vfldBack → t = { s with
        fresh := t.fresh, lanes := t.lanes, field := t.field, supplies := t.supplies, recorder := t.recorder,
        fabric := t.fabric, ports := t.ports, lattice := t.lattice, react := t.react, gate := t.gate } ∧
          s.tapsKept t [1, 3, 4]) ∧
    (c = .batteryAccountTick → t = { s with
        fresh := t.fresh, regs := t.regs, rescue := t.rescue, recorder := t.recorder, fabric := t.fabric,
        ports := t.ports } ∧ s.tapsKept t [1, 3] ∧ s.regsKept t [Reg.addr .PWR_RESQREM []]) ∧
    (c = .qremStore → t = { s with regs := t.regs, lanes := t.lanes } ∧ s.regsKept t [Reg.addr .PWR_RESQREM []]) ∧
    (c = .fullChargeDetect → t = { s with regs := t.regs, rescue := t.rescue } ∧ s.regsKept t [Reg.addr .PWR_RESQREM []]) ∧
    (∀ it, c = .rescueDoorAnswer it → t = { s with rescue := t.rescue, recorder := t.recorder } ∧ s.tapsKept t [1]) ∧
    (c = .schTakeover → t = { s with
        fresh := t.fresh, lanes := t.lanes, persist := t.persist, recorder := t.recorder, fabric := t.fabric, ports := t.ports,
        react := t.react, gate := t.gate, sched := t.sched, copy := t.copy }) ∧
    (∀ upsets, c = .latticePass upsets → t = { s with
        fresh := t.fresh, lanes := t.lanes, start := t.start, field := t.field, rescue := t.rescue,
        recorder := t.recorder, fabric := t.fabric, ports := t.ports, lattice := t.lattice, react := t.react,
        gate := t.gate, sched := t.sched, cans := t.cans, porlux := t.porlux, copy := t.copy } ∧
          s.tapsKept t [1, 3, 4, 10, 12]) ∧
    (∀ tm, c = .latticeTimerExpire tm → t = { s with lattice := t.lattice }) ∧
    (∀ w, c = .latticeReload w → t = { s with
        fresh := t.fresh, lanes := t.lanes, field := t.field, persist := t.persist, recorder := t.recorder,
        fabric := t.fabric, ports := t.ports, lattice := t.lattice, react := t.react, gate := t.gate }) ∧
    (∀ w, c = .latticeClrcnt w → t = { s with
        fresh := t.fresh, lanes := t.lanes, field := t.field, persist := t.persist, recorder := t.recorder,
        fabric := t.fabric, ports := t.ports, lattice := t.lattice, react := t.react, gate := t.gate }) ∧
    (∀ w, c = .swreq w → t = { s with lanes := t.lanes, persist := t.persist, recorder := t.recorder, react := t.react }) ∧
    (∀ w, c = .handover w → t = { s with
        lanes := t.lanes,
        fresh := t.fresh, persist := t.persist, recorder := t.recorder, fabric := t.fabric, ports := t.ports,
        gate := t.gate }) ∧
    (∀ w, c = .handoverCancel w → t = { s with
        lanes := t.lanes,
        fresh := t.fresh, persist := t.persist, recorder := t.recorder, fabric := t.fabric, ports := t.ports,
        gate := t.gate }) ∧
    (∀ w, c = .lictlWithdraw w →
      t = { s with lanes := t.lanes, persist := t.persist, recorder := t.recorder, issuer := t.issuer }) ∧
    (∀ w, c = .qclr w → t = { s with lanes := t.lanes, persist := t.persist, recorder := t.recorder }) ∧
    (∀ src, c = .faultSourceRise src → t = { s with react := t.react }) ∧
    (∀ b pass us, c = .blockTest b pass us → t = { s with
        fresh := t.fresh, lanes := t.lanes, field := t.field, persist := t.persist, recorder := t.recorder,
        fabric := t.fabric, ports := t.ports, lattice := t.lattice, react := t.react, gate := t.gate,
        motors := t.motors, seqr := t.seqr, cans := t.cans, time := t.time, porlux := t.porlux,
        issuer := t.issuer, copy := t.copy } ∧ s.tapsKept t [3, 4, 5, 6, 7, 8, 9, 11, 12]) ∧
    (∀ phase, c = .tsntloRead phase → t = { s with time := t.time }) ∧
    (c = .unitReportPost → t = { s with
        fresh := t.fresh, recorder := t.recorder, fabric := t.fabric, ports := t.ports, copy := t.copy } ∧
          s.tapsKept t [3, 12]) ∧
    (c = .epochBegin → t = { s with
        fresh := t.fresh, lanes := t.lanes, field := t.field, recorder := t.recorder, fabric := t.fabric,
        ports := t.ports, lattice := t.lattice, react := t.react, gate := t.gate, cans := t.cans,
        time := t.time, porlux := t.porlux, issuer := t.issuer, copy := t.copy } ∧ s.tapsKept t [1, 3, 4, 10, 12]) ∧
    (c = .epochCommit → t = { s with persist := t.persist, copy := t.copy }) ∧
    (c = .linkFault → t = { s with
        fresh := t.fresh, lanes := t.lanes, field := t.field, recorder := t.recorder, fabric := t.fabric,
        ports := t.ports, lattice := t.lattice, react := t.react, gate := t.gate, copy := t.copy } ∧
          s.tapsKept t [1, 3, 4, 10, 12]) ∧
    (c = .linkBack → t = { s with
        fresh := t.fresh, lanes := t.lanes, field := t.field, recorder := t.recorder, fabric := t.fabric,
        ports := t.ports, lattice := t.lattice, react := t.react, gate := t.gate, copy := t.copy } ∧
          s.tapsKept t [1, 3, 4, 10, 12])

/-- What the commands of the image slots, the session and the recorder change, and each command of the tempo switch, the
supplies, the start, the clock and the ports that does not reset islands: the parts named here; every other part of the device
stays. The model's choice, not the spec's: a record that MGT commits takes the heads of every tap and the lanes with it (log
entry 61), so the taps are pinned where none is committed; effects happen at the row (log entry 9). -/
def Obligations.ManagementCommandsChangeOnlyTheirPart : Prop :=
  ∀ (c : Instr) (s t : State), exec c s = .next t →
    (c.ofLoader = true → t = { s with lanes := t.lanes, persist := t.persist, loader := t.loader, recorder := t.recorder }) ∧
    (c.ofSession = true → t = { s with session := t.session }) ∧
    (c.ofHistory = true → t = { s with lanes := t.lanes, persist := t.persist, recorder := t.recorder }) ∧
    (∀ w, c = .tempoGo w → t = { s with regs := t.regs, tempo := t.tempo, recorder := t.recorder } ∧ s.tapsKept t [1] ∧
      s.regsKept t [Reg.addr .SYS_TEMPO []]) ∧
    (c = .tempoSwitchStart → t = { s with tempo := t.tempo }) ∧
    (∀ isl, c = .tempoQuiesceAck isl → t = { s with tempo := t.tempo }) ∧
    (c = .tempoPllLocked → t = { s with
        fabric := t.fabric, ports := t.ports, seqr := t.seqr, fresh := t.fresh,
        regs := t.regs, lanes := t.lanes, tempo := t.tempo, supplies := t.supplies, persist := t.persist,
        recorder := t.recorder, doors := t.doors } ∧ s.regsKept t [Reg.addr .SYS_TEMPO [], Reg.addr .PWR_RESQREM []]) ∧
    (c = .defresCheckStart → t = { s with defres := t.defres }) ∧
    (c = .defresWaitVfld →
      t = { s with lanes := t.lanes, defres := t.defres, persist := t.persist, recorder := t.recorder }) ∧
    (∀ selfOk readings, c = .defresCheckComplete selfOk readings → t = { s with
        lanes := t.lanes,
        start := t.start, defres := t.defres, aon := t.aon, persist := t.persist, recorder := t.recorder }) ∧
    (c = .vmainPfail → t = { s with
        regs := t.regs, lanes := t.lanes, supplies := t.supplies, persist := t.persist, recorder := t.recorder } ∧
          s.regsKept t [Reg.addr .SYS_TEMPO [], Reg.addr .PWR_RESQREM []]) ∧
    (c = .pfailClear → t = { s with
        regs := t.regs, lanes := t.lanes, supplies := t.supplies, persist := t.persist, recorder := t.recorder } ∧
          s.tapsKept t [1] ∧ s.regsKept t [Reg.addr .SYS_TEMPO []]) ∧
    (c = .vfldLow → t = { s with supplies := t.supplies, recorder := t.recorder } ∧ s.tapsKept t [1]) ∧
    (∀ mv, c = .vbatLow mv → t = { s with supplies := t.supplies, aon := t.aon, recorder := t.recorder } ∧
      s.tapsKept t [0, 1]) ∧
    (∀ absent, c = .vbatAbsentChange absent → t = { s with
        regs := t.regs, supplies := t.supplies, power := t.power, aon := t.aon, recorder := t.recorder } ∧
          s.tapsKept t [0, 1] ∧ s.regsKept t [Reg.addr .SYS_TEMPO []]) ∧
    (∀ w, c = .hibRequest w → t = { s with power := t.power, recorder := t.recorder } ∧ s.tapsKept t [1]) ∧
    (c = .resetRelease → t = { s with start := t.start, aon := t.aon }) ∧
    (c = .resetHoldAlert → t = { s with aon := t.aon }) ∧
    (c = .railsGood → t = { s with start := t.start }) ∧
    (∀ rail, c = .railTimeout rail → t = { s with power := t.power, aon := t.aon, recorder := t.recorder }) ∧
    (c = .arrayCheckDone → t = { s with
        lanes := t.lanes,
        dev := t.dev, start := t.start, aon := t.aon, persist := t.persist, recorder := t.recorder }) ∧
    (c = .leaseAcquisitionTimeout → t = { s with start := t.start }) ∧
    (c = .startReady → t = { s with
        lanes := t.lanes,
        fresh := t.fresh, start := t.start, power := t.power, aon := t.aon, persist := t.persist,
        recorder := t.recorder, fabric := t.fabric, ports := t.ports, seqr := t.seqr }) ∧
    (c = .slotdataRead → t = { s with fresh := t.fresh, loader := t.loader }) ∧
    (c = .passwordDerivationDone → t = { s with
        lanes := t.lanes,
        fresh := t.fresh, persist := t.persist, session := t.session, recorder := t.recorder }) ∧
    (c = .passwordLock → t = { s with
        lanes := t.lanes,
        persist := t.persist, loader := t.loader, session := t.session, recorder := t.recorder }) ∧
    (c = .clearBuffer → t = { s with
        lanes := t.lanes,
        persist := t.persist, loader := t.loader, session := t.session, recorder := t.recorder }) ∧
    (c = .sessionIdleTimeout → t = { s with
        lanes := t.lanes,
        persist := t.persist, loader := t.loader, session := t.session, recorder := t.recorder }) ∧
    (∀ w, c = .keyProvision w → t = { s with persist := t.persist, session := t.session }) ∧
    (c = .recordCommit → t = { s with lanes := t.lanes, persist := t.persist, recorder := t.recorder }) ∧
    (c = .persistLaneWrite → t = { s with lanes := t.lanes, persist := t.persist, recorder := t.recorder }) ∧
    (∀ w, c = .aonRtcset w → t = { s with lanes := t.lanes, aon := t.aon, persist := t.persist, recorder := t.recorder }) ∧
    (c = .rtcsecRead → t = { s with aon := t.aon }) ∧
    (∀ before pulse, c = .tamperSample before pulse → t = { s with aon := t.aon, recorder := t.recorder } ∧
      s.tapsKept t [0]) ∧
    (∀ p, c = .chipSelectRise p false → t = { s with ports := t.ports }) ∧
    (c = .uartGapTimeout → t = { s with lanes := t.lanes, persist := t.persist, recorder := t.recorder, ports := t.ports }) ∧
    (∀ w, c = .gtagclr w → t = { s with ports := t.ports }) ∧
    (∀ vmain vfld vbat fieldT ctrlT, c = .supplyMeasurement vmain vfld vbat fieldT ctrlT → t = { s with
        supplies := t.supplies }) ∧
    (c = .aonStatToggle → t = { s with aon := t.aon }) ∧
    (c = .uartByteOverlap → t = { s with lanes := t.lanes, persist := t.persist, recorder := t.recorder, ports := t.ports })

/-- A figure step's words decode to that step, for each of the 32 operations and every operand its encoding admits (R418 to
R424, R428, R432): no bit of an encoding is dropped, so two steps never share their words. The model's choice, not the spec's:
IMM17 of TSET is unsigned (log entry 45). -/
def Obligations.FigureStepWordsDecodeToTheStep : Prop :=
  ∀ (st : FigStep) (next : Word), st.ok = true → figDecode st.word (st.lit.getD next) = some st

/-- Every step keeps the bounds of the persistent array: both image slots in canonical form inside 1 MiB, at most 2048 overlay
entries (R171), at most 8192 birth-log lines and at most 49 152 lines of the circulating log (R616). The model's choice, not
the spec's: the canonical form of a slot, an erased byte being absent (log entry 1). -/
def Obligations.EveryStepKeepsTheArrayBounds : Prop :=
  ∀ (s t : State), s.ArrayInv → step s = .next t → t.ArrayInv

/-- What is written once stays: no step changes a birth-log line that is used, uses fewer lines, undoes commissioning (R616),
or changes the device key, REQTAG or PROV once PROV is 1 (R177). -/
def Obligations.NoStepUndoesWrittenHistory : Prop :=
  ∀ (s t : State), step s = .next t →
    s.persist.bcount ≤ t.persist.bcount ∧
    (∀ k, k < s.persist.bcount → t.persist.birth.get [] k = s.persist.birth.get [] k) ∧
    (s.persist.commissioned = true → t.persist.commissioned = true) ∧
    (s.persist.prov = true →
      t.persist.prov = true ∧ t.persist.key = s.persist.key ∧ t.persist.reqTag = s.persist.reqTag)
end

