-- ==== Sys2Proof/Laws/Bytes.lean ====
section
/-! SUPPORT. Lengths of the byte lists the model builds. -/

namespace Sys2Proof.Machine

@[simp] theorem leBytes_length (n w : Nat) : (leBytes n w).length = n := by
  induction n generalizing w with
  | zero => rfl
  | succ n ih => simp [leBytes, ih]

@[simp] theorem wordBytes_length (w : Word) : (wordBytes w).length = 4 := leBytes_length _ _

@[simp] theorem sha256_length (bs : List Byte) : (sha256 bs).length = 32 := by
  simp only [sha256, beBytes, List.length_flatMap, List.length_reverse, wordBytes_length]; rfl

@[simp] theorem hmacSha256_length (k m : List Byte) : (hmacSha256 k m).length = 32 := sha256_length _

@[simp] theorem xorBytes_length (a b : List Byte) : (xorBytes a b).length = min a.length b.length := by
  simp [xorBytes]

theorem pbkdf2Loop_length (pw : List Byte) (n : Nat) (u acc : List Byte) (h : acc.length = 32) :
    (pbkdf2Loop pw n u acc).length = 32 := by
  induction n generalizing u acc with
  | zero => exact h
  | succ n ih => exact ih _ _ (by simp [h])

@[simp] theorem pbkdf2_length (pw salt : List Byte) (n : Nat) : (pbkdf2 pw salt n).length = 32 :=
  pbkdf2Loop_length _ _ _ _ (hmacSha256_length _ _)

@[simp] theorem derivePassword_length (pw salt : List Byte) : (derivePassword pw salt).length = 32 := pbkdf2_length _ _ _

end Sys2Proof.Machine
end

