-- ==== Sys2Proof/Laws/Table.lean ====
section
/-! SUPPORT. Laws of the tables: what a read gives after a write, and that a write keeps the canonical form. -/

namespace Sys2Proof

variable {α : Type}

@[simp] theorem Tbl.get_nil (d : α) (k : Nat) : Tbl.get [] d k = d := rfl

theorem Tbl.get_insert (t : Tbl α) (d : α) (k j : Nat) (v : α) :
    Tbl.get (Tbl.insert t k v) d j = if k = j then v else Tbl.get t d j := by
  induction t with
  | nil => simp [Tbl.insert, Tbl.get]
  | cons e t ih =>
    obtain ⟨i, w⟩ := e
    simp only [Tbl.insert]
    split
    · simp [Tbl.get]
    · split
      · subst_vars; simp only [Tbl.get]; split <;> simp_all
      · simp only [Tbl.get, ih]; split <;> split <;> simp_all

theorem Tbl.get_filter (t : Tbl α) (d : α) (k j : Nat) :
    Tbl.get (t.filter fun e => e.1 != k) d j = if k = j then d else Tbl.get t d j := by
  induction t with
  | nil => simp [Tbl.get]
  | cons e t ih =>
    obtain ⟨i, w⟩ := e
    by_cases h : i = k
    · subst h; simp only [List.filter_cons, bne_self_eq_false, Bool.false_eq_true, if_false, ih, Tbl.get]
      split <;> simp_all
    · have h' : (i != k) = true := by simpa using h
      simp only [List.filter_cons, h', if_true, Tbl.get, ih]
      split <;> split <;> simp_all

/-- A read after a write gives the value written at its key, and what stood there before elsewhere. -/
theorem Tbl.get_set [DecidableEq α] (t : Tbl α) (d : α) (k j : Nat) (v : α) :
    Tbl.get (Tbl.set t d k v) d j = if k = j then v else Tbl.get t d j := by
  unfold Tbl.set
  split
  · rw [Tbl.get_filter]; split <;> simp_all
  · exact Tbl.get_insert t d k j v

@[simp] theorem Tbl.get_set_self [DecidableEq α] (t : Tbl α) (d : α) (k : Nat) (v : α) :
    Tbl.get (Tbl.set t d k v) d k = v := by simp [Tbl.get_set]

theorem Tbl.get_set_of_ne [DecidableEq α] (t : Tbl α) (d : α) {k j : Nat} (v : α) (h : k ≠ j) :
    Tbl.get (Tbl.set t d k v) d j = Tbl.get t d j := by simp [Tbl.get_set, h]

theorem Tbl.get_modify [DecidableEq α] (t : Tbl α) (d : α) (k j : Nat) (f : α → α) :
    Tbl.get (Tbl.modify t d k f) d j = if k = j then f (Tbl.get t d j) else Tbl.get t d j := by
  unfold Tbl.modify
  rw [Tbl.get_set]; split <;> simp_all

@[simp] theorem Tbl.get_modify_self [DecidableEq α] (t : Tbl α) (d : α) (k : Nat) (f : α → α) :
    Tbl.get (Tbl.modify t d k f) d k = f (Tbl.get t d k) := by simp [Tbl.get_modify]

theorem Tbl.get_modify_of_ne [DecidableEq α] (t : Tbl α) (d : α) {k j : Nat} (f : α → α) (h : k ≠ j) :
    Tbl.get (Tbl.modify t d k f) d j = Tbl.get t d j := by simp [Tbl.get_modify, h]

/-! ### The canonical form -/

theorem Tbl.all_insert (t : Tbl α) (k : Nat) (v : α) (p : Nat × α → Bool) (hv : p (k, v) = true) (ht : t.all p = true) :
    (Tbl.insert t k v).all p = true := by
  induction t with
  | nil => simp [Tbl.insert, hv]
  | cons e t ih =>
    obtain ⟨i, w⟩ := e
    simp only [List.all_cons, Bool.and_eq_true] at ht
    simp only [Tbl.insert]
    split
    · simp [hv, ht.1, ht.2]
    · split
      · simp [hv, ht.2]
      · simp [ht.1, ih ht.2]

theorem Tbl.wf_insert [DecidableEq α] (d : α) (t : Tbl α) (k : Nat) (v : α) (hv : v ≠ d) (ht : Tbl.wf d t = true) :
    Tbl.wf d (Tbl.insert t k v) = true := by
  induction t with
  | nil => simp [Tbl.insert, Tbl.wf, hv]
  | cons e t ih =>
    obtain ⟨i, w⟩ := e
    simp only [Tbl.wf, Bool.and_eq_true, bne_iff_ne, ne_eq] at ht
    obtain ⟨⟨hw, hall⟩, hwf⟩ := ht
    simp only [Tbl.insert]
    split
    · rename_i hlt
      simp only [Tbl.wf, Bool.and_eq_true, bne_iff_ne, ne_eq, List.all_cons, decide_eq_true_eq]
      refine ⟨⟨hv, hlt, ?_⟩, ⟨hw, hall⟩, hwf⟩
      rw [List.all_eq_true] at hall ⊢
      intro x hx; have := hall x hx; simp only [decide_eq_true_eq] at this ⊢; omega
    · split
      · rename_i heq; subst heq
        simp [Tbl.wf, hv, hwf]; simpa using hall
      · rename_i h1 h2
        simp only [Tbl.wf, Bool.and_eq_true, bne_iff_ne, ne_eq]
        refine ⟨⟨hw, ?_⟩, ih hwf⟩
        exact Tbl.all_insert t k v _ (by simp only [decide_eq_true_eq]; omega) hall

theorem Tbl.wf_filter [DecidableEq α] (d : α) (t : Tbl α) (p : Nat × α → Bool) (ht : Tbl.wf d t = true) :
    Tbl.wf d (t.filter p) = true := by
  induction t with
  | nil => simp [Tbl.wf]
  | cons e t ih =>
    obtain ⟨i, w⟩ := e
    simp only [Tbl.wf, Bool.and_eq_true] at ht
    obtain ⟨⟨hw, hall⟩, hwf⟩ := ht
    simp only [List.filter_cons]
    split
    · simp only [Tbl.wf, Bool.and_eq_true]
      refine ⟨⟨hw, ?_⟩, ih hwf⟩
      rw [List.all_eq_true] at hall ⊢
      intro x hx; exact hall x (List.mem_filter.mp hx).1
    · exact ih hwf

/-- Every write keeps the canonical form. -/
theorem Tbl.wf_set [DecidableEq α] (d : α) (t : Tbl α) (k : Nat) (v : α) (ht : Tbl.wf d t = true) :
    Tbl.wf d (Tbl.set t d k v) = true := by
  unfold Tbl.set
  split
  · exact Tbl.wf_filter d t _ ht
  · rename_i hv; exact Tbl.wf_insert d t k v hv ht

theorem Tbl.wf_modify [DecidableEq α] (d : α) (t : Tbl α) (k : Nat) (f : α → α) (ht : Tbl.wf d t = true) :
    Tbl.wf d (Tbl.modify t d k f) = true := Tbl.wf_set d t k _ ht

end Sys2Proof
end

