-- ==== Sys2Proof/Laws/Outputs.lean ====
section
/-! SUPPORT. Laws of the output stage: what commanding the outputs can change (R470 to R473). -/

namespace Sys2Proof.Machine

/-- An output as R470 looks at it: everything but its commands and read-backs. -/
def SafetyOut.cause (o : SafetyOut) : SafetyOut := { o with on := false, hsCmd := false, lsCmd := false, hsRb := false, lsRb := false, lsDue := false }

/-- Two states of SFI differ at most in the outputs' commands, read-backs and the queue fabric's part. -/
structure Sf.SameBut (m n : Sf) : Prop where
  env : n.env = m.env
  react : n.react = m.react
  gate : n.gate = m.gate
  field : n.field = m.field
  lanes : n.lanes = m.lanes
  lattice : n.lattice = { m.lattice with outs := n.lattice.outs }
  outs : ∀ k, (n.out k).cause = (m.out k).cause

theorem Sf.SameBut.refl (m : Sf) : m.SameBut m := ⟨rfl, rfl, rfl, rfl, rfl, rfl, fun _ => rfl⟩

theorem Sf.SameBut.trans {a b c : Sf} (h : a.SameBut b) (g : b.SameBut c) : a.SameBut c :=
  ⟨g.env.trans h.env, g.react.trans h.react, g.gate.trans h.gate, g.field.trans h.field, g.lanes.trans h.lanes,
   by have e := g.lattice; rw [h.lattice] at e; exact e, fun k => (g.outs k).trans (h.outs k)⟩

/-- The condition of R470 reads nothing that a command changes. -/
theorem Sf.SameBut.offCause {m n : Sf} (h : m.SameBut n) (k : Nat) : n.offCause k = m.offCause k := by
  have ho := h.outs k
  have hd : (n.out k).demand = (m.out k).demand := by simpa [SafetyOut.cause] using congrArg SafetyOut.demand ho
  have hs : (n.out k).sof = (m.out k).sof := by simpa [SafetyOut.cause] using congrArg SafetyOut.sof ho
  have hl : n.lattice.stat = m.lattice.stat := by rw [h.lattice]
  have he : n.lattice.outEn k = m.lattice.outEn k := by rw [h.lattice]; rfl
  simp only [Sf.offCause, Sf.gatePasses, Sf.fieldUp, hd, hs, hl, he, h.env, h.react, h.gate, h.field]
  rfl

theorem Sf.settleOut_same (m : Sf) (k : Nat) : m.SameBut (m.settleOut k) := by
  unfold Sf.settleOut
  simp only []
  split
  · exact .refl m
  · refine ⟨rfl, rfl, rfl, rfl, rfl, rfl, fun j => ?_⟩
    simp only [Sf.note, Sf.updOut, Sf.updL, Sf.out, Tbl.get_modify]
    split
    · subst_vars; rfl
    · rfl

/-- Commanding output `k` closes it exactly when every condition of R470 holds, and leaves the others. -/
theorem Sf.settleOut_on (m : Sf) (k j : Nat) :
    ((m.settleOut k).out j).on = if k = j then m.offCause k == 0 else (m.out j).on := by
  unfold Sf.settleOut
  simp only []
  split
  · rename_i h
    split
    · subst_vars; simpa using (by simpa using h : (m.offCause _ == 0) = (m.out _).on).symm
    · rfl
  · simp only [Sf.note, Sf.updOut, Sf.updL, Sf.out, Tbl.get_modify]
    split <;> rfl

theorem Sf.settle_same (m : Sf) : m.SameBut m.settle := by
  have h (a : Sf) (k : Nat) := a.settleOut_same k
  unfold Sf.settle
  simp only [List.range_succ, List.range_zero, List.nil_append, List.cons_append, List.foldl_cons, List.foldl_nil]
  exact (((((h m 0).trans (h _ 1)).trans (h _ 2)).trans (h _ 3)).trans (h _ 4)).trans (h _ 5)

/-- After the outputs are commanded, each is ON exactly when every condition of R470 holds. -/
theorem Sf.settle_on (m : Sf) (k : Nat) (hk : k < 6) : (m.settle.out k).on = (m.offCause k == 0) := by
  have same (a : Sf) (k : Nat) := a.settleOut_same k
  unfold Sf.settle
  simp only [List.range_succ, List.range_zero, List.nil_append, List.cons_append, List.foldl_cons, List.foldl_nil,
    Sf.settleOut_on]
  have h1 := same m 0
  have h2 := h1.trans (same _ 1)
  have h3 := h2.trans (same _ 2)
  have h4 := h3.trans (same _ 3)
  have h5 := h4.trans (same _ 4)
  have hk' : k = 0 ∨ k = 1 ∨ k = 2 ∨ k = 3 ∨ k = 4 ∨ k = 5 := by omega
  rcases hk' with rfl | rfl | rfl | rfl | rfl | rfl <;>
    simp [h1.offCause, h2.offCause, h3.offCause, h4.offCause, h5.offCause]

theorem Sf.settle_lattice (m : Sf) : m.settle.lattice = { m.lattice with outs := m.settle.lattice.outs } := m.settle_same.lattice

end Sys2Proof.Machine
end

