-- ==== Sys2Proof/Laws/Queues.lean ====
section
/-! SUPPORT. Laws of the queue fabric's shared operations: a port where nothing waits, what a queue operation and a record can
change. -/

namespace Sys2Proof.Machine

@[simp] theorem State.withQf_qf (s : State) : s.withQf s.qf = s := rfl

/-- Nothing is pushed to a stage whose queues show nothing. -/
theorem Qf.push_of_none (x : Qf) (p : StagePort) (broken : Bool)
    (h : oldestVisible (x.fabric.sources p) = none) : x.push p broken = x := by
  unfold Qf.push
  simp only [h]
  split <;> rfl

/-- A port where nothing waits gives no item, and nothing changes. -/
theorem Qf.takeItems_of_not_ready (x : Qf) (code n : Nat) (h : x.fabric.ready code = false) :
    x.takeItems code n = ([], x) := by
  have hs : x.fabric.stage code = [] := by
    cases e : x.fabric.stage code with
    | nil => rfl
    | cons a l => simp [Fabric.ready, e] at h
  have ho : oldestVisible (x.fabric.sources (.engine (BitVec.ofNat 16 code))) = none := by
    simpa [Fabric.ready, hs] using h
  have hp : x.stagePort code = x := Qf.push_of_none x _ _ ho
  cases n with
  | zero => rfl
  | succ n => simp [Qf.takeItems, Qf.takeAllStaged, Qf.takeStaged, hp, hs]

/-! ### Records -/

/-- A record changes nothing but its tap. -/
theorem State.note_eq (s : State) (code : Nat) (data : List Byte) :
    s.note code data = { s with recorder := (s.note code data).recorder } := rfl

/-- A record leaves every other island's tap. -/
theorem Recorder.put_taps_of_ne (r : Recorder) (dev i code : Nat) (data : List Byte) {j : Nat} (h : i ≠ j) :
    (r.put dev i code data).taps.get RecTap.reset j = r.taps.get RecTap.reset j := by
  simp only [Recorder.put]
  exact Tbl.get_modify_of_ne _ _ _ h

/-! ### Queue operations -/

/-- What a queue operation leaves: the device time. -/
theorem Qf.note_dev (x : Qf) (code : Nat) (data : List Byte) : (x.note code data).dev = x.dev := rfl

/-- A queue operation changes the fabric, the recorder's taps, the gate's tags and the counter of free values only. -/
theorem State.withQf_frame (s : State) (x : Qf) :
    s.withQf x = { s with fabric := x.fabric, recorder := x.recorder, ports := x.ports, fresh := x.fresh } := rfl

end Sys2Proof.Machine
end

