-- ==== Sys2Proof/Laws/Slots.lean ====
section
/-! SUPPORT. The memory of a slot: what a byte reads after a write, and that every operation on a slot keeps its canonical form. -/

namespace Sys2Proof.Machine

/-- A byte of a slot; an unlisted one reads 0xFF. -/
abbrev slotByte (slot : List Host.Cell) (a : Nat) : Byte := Tbl.get slot 0xFF a

theorem all_set {α : Type} [DecidableEq α] (t : Tbl α) (d : α) (k : Nat) (v : α) (p : Nat × α → Bool) (hv : p (k, v) = true)
    (ht : t.all p = true) : (Tbl.set t d k v).all p = true := by
  unfold Tbl.set
  split
  · rw [List.all_eq_true] at ht ⊢
    exact fun x hx => ht x (List.mem_filter.mp hx).1
  · exact Tbl.all_insert t k v p hv ht

theorem Memory.wf_nil : Memory.wf [] = true := rfl

/-- A byte stored inside the slot keeps the canonical form. -/
theorem Memory.wf_set (m : List Host.Cell) (a : Nat) (b : Byte) (ha : a < 0x100000) (h : Memory.wf m = true) :
    Memory.wf (Tbl.set m 0xFF a b) = true := by
  simp only [Memory.wf, Bool.and_eq_true] at h ⊢
  exact ⟨Tbl.wf_set _ _ _ _ h.1, all_set _ _ _ _ _ (by simpa using ha) h.2⟩

/-- Leaving bytes out, as an erase that is cut short does, keeps the canonical form. -/
theorem Memory.wf_filter (m : List Host.Cell) (p : Host.Cell → Bool) (h : Memory.wf m = true) :
    Memory.wf (m.filter p) = true := by
  simp only [Memory.wf, Bool.and_eq_true] at h ⊢
  refine ⟨Tbl.wf_filter _ _ _ h.1, ?_⟩
  rw [List.all_eq_true] at *
  exact fun x hx => h.2 x (List.mem_filter.mp hx).1

/-- Storing any bytes of another slot keeps the canonical form. -/
theorem Memory.wf_foldl (cs m : List Host.Cell) (hc : cs.all (fun c => c.1 < 0x100000) = true) (h : Memory.wf m = true) :
    Memory.wf (cs.foldl (fun t c => Tbl.set t 0xFF c.1 c.2) m) = true := by
  induction cs generalizing m with
  | nil => exact h
  | cons c cs ih =>
    simp only [List.all_cons, Bool.and_eq_true, decide_eq_true_eq] at hc
    exact ih _ hc.2 (Memory.wf_set m c.1 c.2 hc.1 h)

/-- A word stored inside the slot keeps the canonical form. -/
theorem Memory.wf_setSlotWord (m : List Host.Cell) (o : Nat) (w : Word) (ho : o < 0x40000) (h : Memory.wf m = true) :
    Memory.wf (setSlotWord m o w) = true := by
  have key : ∀ (l : List (Byte × Nat)) (m : List Host.Cell), (∀ e ∈ l, e.2 < 4) → Memory.wf m = true →
      Memory.wf (l.foldl (fun t e => Tbl.set t 0xFF (4 * o + e.2) e.1) m) = true := by
    intro l
    induction l with
    | nil => exact fun _ _ h => h
    | cons e l ih =>
      intro m hl h
      have he := hl e (by simp)
      exact ih _ (fun x hx => hl x (by simp [hx])) (Memory.wf_set _ _ _ (by omega) h)
  refine key _ m ?_ h
  intro e he
  have := List.snd_lt_of_mem_zipIdx he
  simpa [wordBytes, leBytes] using this

/-- A byte reads what was stored, and every other byte what it read before. -/
theorem slotByte_set (m : List Host.Cell) (a b : Nat) (v : Byte) :
    slotByte (Tbl.set m 0xFF a v) b = if a = b then v else slotByte m b := Tbl.get_set m 0xFF a b v

end Sys2Proof.Machine
end

