-- ==== Sys2Proof/Laws/State.lean ====
section
/-! SUPPORT. What each update of the state leaves in each field, and what a register reads after a write of a register. -/

namespace Sys2Proof.Machine

set_option Elab.async false

variable (s : State)

/-! ### `State.withQf` -/

@[simp] theorem State.withQf_pending (x : Qf) : (s.withQf x).pending = s.pending := rfl
@[simp] theorem State.withQf_fresh (x : Qf) : (s.withQf x).fresh = x.fresh := rfl
@[simp] theorem State.withQf_dev (x : Qf) : (s.withQf x).dev = s.dev := rfl
@[simp] theorem State.withQf_regs (x : Qf) : (s.withQf x).regs = s.regs := rfl
@[simp] theorem State.withQf_lanes (x : Qf) : (s.withQf x).lanes = s.lanes := rfl
@[simp] theorem State.withQf_start (x : Qf) : (s.withQf x).start = s.start := rfl
@[simp] theorem State.withQf_tempo (x : Qf) : (s.withQf x).tempo = s.tempo := rfl
@[simp] theorem State.withQf_defres (x : Qf) : (s.withQf x).defres = s.defres := rfl
@[simp] theorem State.withQf_field (x : Qf) : (s.withQf x).field = s.field := rfl
@[simp] theorem State.withQf_supplies (x : Qf) : (s.withQf x).supplies = s.supplies := rfl
@[simp] theorem State.withQf_rescue (x : Qf) : (s.withQf x).rescue = s.rescue := rfl
@[simp] theorem State.withQf_power (x : Qf) : (s.withQf x).power = s.power := rfl
@[simp] theorem State.withQf_aon (x : Qf) : (s.withQf x).aon = s.aon := rfl
@[simp] theorem State.withQf_persist (x : Qf) : (s.withQf x).persist = s.persist := rfl
@[simp] theorem State.withQf_loader (x : Qf) : (s.withQf x).loader = s.loader := rfl
@[simp] theorem State.withQf_session (x : Qf) : (s.withQf x).session = s.session := rfl
@[simp] theorem State.withQf_image (x : Qf) : (s.withQf x).image = s.image := rfl
@[simp] theorem State.withQf_recorder (x : Qf) : (s.withQf x).recorder = x.recorder := rfl
@[simp] theorem State.withQf_fabric (x : Qf) : (s.withQf x).fabric = x.fabric := rfl
@[simp] theorem State.withQf_ports (x : Qf) : (s.withQf x).ports = x.ports := rfl
@[simp] theorem State.withQf_lattice (x : Qf) : (s.withQf x).lattice = s.lattice := rfl
@[simp] theorem State.withQf_react (x : Qf) : (s.withQf x).react = s.react := rfl
@[simp] theorem State.withQf_gate (x : Qf) : (s.withQf x).gate = s.gate := rfl
@[simp] theorem State.withQf_fusion (x : Qf) : (s.withQf x).fusion = s.fusion := rfl
@[simp] theorem State.withQf_planners (x : Qf) : (s.withQf x).planners = s.planners := rfl
@[simp] theorem State.withQf_loops (x : Qf) : (s.withQf x).loops = s.loops := rfl
@[simp] theorem State.withQf_motors (x : Qf) : (s.withQf x).motors = s.motors := rfl
@[simp] theorem State.withQf_doors (x : Qf) : (s.withQf x).doors = s.doors := rfl
@[simp] theorem State.withQf_sched (x : Qf) : (s.withQf x).sched = s.sched := rfl
@[simp] theorem State.withQf_seqr (x : Qf) : (s.withQf x).seqr = s.seqr := rfl
@[simp] theorem State.withQf_cans (x : Qf) : (s.withQf x).cans = s.cans := rfl
@[simp] theorem State.withQf_time (x : Qf) : (s.withQf x).time = s.time := rfl
@[simp] theorem State.withQf_porlux (x : Qf) : (s.withQf x).porlux = s.porlux := rfl
@[simp] theorem State.withQf_issuer (x : Qf) : (s.withQf x).issuer = s.issuer := rfl
@[simp] theorem State.withQf_copy (x : Qf) : (s.withQf x).copy = s.copy := rfl

/-! ### `State.withFc` -/

@[simp] theorem State.withFc_pending (x : Fc) : (s.withFc x).pending = s.pending := rfl
@[simp] theorem State.withFc_fresh (x : Fc) : (s.withFc x).fresh = x.qf.fresh := rfl
@[simp] theorem State.withFc_dev (x : Fc) : (s.withFc x).dev = s.dev := rfl
@[simp] theorem State.withFc_regs (x : Fc) : (s.withFc x).regs = s.regs := rfl
@[simp] theorem State.withFc_lanes (x : Fc) : (s.withFc x).lanes = s.lanes := rfl
@[simp] theorem State.withFc_start (x : Fc) : (s.withFc x).start = s.start := rfl
@[simp] theorem State.withFc_tempo (x : Fc) : (s.withFc x).tempo = s.tempo := rfl
@[simp] theorem State.withFc_defres (x : Fc) : (s.withFc x).defres = s.defres := rfl
@[simp] theorem State.withFc_field (x : Fc) : (s.withFc x).field = s.field := rfl
@[simp] theorem State.withFc_supplies (x : Fc) : (s.withFc x).supplies = s.supplies := rfl
@[simp] theorem State.withFc_rescue (x : Fc) : (s.withFc x).rescue = s.rescue := rfl
@[simp] theorem State.withFc_power (x : Fc) : (s.withFc x).power = s.power := rfl
@[simp] theorem State.withFc_aon (x : Fc) : (s.withFc x).aon = s.aon := rfl
@[simp] theorem State.withFc_persist (x : Fc) : (s.withFc x).persist = s.persist := rfl
@[simp] theorem State.withFc_loader (x : Fc) : (s.withFc x).loader = s.loader := rfl
@[simp] theorem State.withFc_session (x : Fc) : (s.withFc x).session = s.session := rfl
@[simp] theorem State.withFc_image (x : Fc) : (s.withFc x).image = s.image := rfl
@[simp] theorem State.withFc_recorder (x : Fc) : (s.withFc x).recorder = x.qf.recorder := rfl
@[simp] theorem State.withFc_fabric (x : Fc) : (s.withFc x).fabric = x.qf.fabric := rfl
@[simp] theorem State.withFc_ports (x : Fc) : (s.withFc x).ports = x.qf.ports := rfl
@[simp] theorem State.withFc_lattice (x : Fc) : (s.withFc x).lattice = s.lattice := rfl
@[simp] theorem State.withFc_react (x : Fc) : (s.withFc x).react = s.react := rfl
@[simp] theorem State.withFc_gate (x : Fc) : (s.withFc x).gate = s.gate := rfl
@[simp] theorem State.withFc_fusion (x : Fc) : (s.withFc x).fusion = s.fusion := rfl
@[simp] theorem State.withFc_planners (x : Fc) : (s.withFc x).planners = s.planners := rfl
@[simp] theorem State.withFc_loops (x : Fc) : (s.withFc x).loops = s.loops := rfl
@[simp] theorem State.withFc_motors (x : Fc) : (s.withFc x).motors = s.motors := rfl
@[simp] theorem State.withFc_doors (x : Fc) : (s.withFc x).doors = s.doors := rfl
@[simp] theorem State.withFc_sched (x : Fc) : (s.withFc x).sched = s.sched := rfl
@[simp] theorem State.withFc_seqr (x : Fc) : (s.withFc x).seqr = x.seqr := rfl
@[simp] theorem State.withFc_cans (x : Fc) : (s.withFc x).cans = s.cans := rfl
@[simp] theorem State.withFc_time (x : Fc) : (s.withFc x).time = s.time := rfl
@[simp] theorem State.withFc_porlux (x : Fc) : (s.withFc x).porlux = s.porlux := rfl
@[simp] theorem State.withFc_issuer (x : Fc) : (s.withFc x).issuer = s.issuer := rfl
@[simp] theorem State.withFc_copy (x : Fc) : (s.withFc x).copy = s.copy := rfl

/-! ### `State.withMpi` -/

@[simp] theorem State.withMpi_pending (m : Mpi) : (s.withMpi m).pending = s.pending := rfl
@[simp] theorem State.withMpi_fresh (m : Mpi) : (s.withMpi m).fresh = m.qf.fresh := rfl
@[simp] theorem State.withMpi_dev (m : Mpi) : (s.withMpi m).dev = s.dev := rfl
@[simp] theorem State.withMpi_regs (m : Mpi) : (s.withMpi m).regs = m.regs := rfl
@[simp] theorem State.withMpi_lanes (m : Mpi) : (s.withMpi m).lanes = m.lanes := rfl
@[simp] theorem State.withMpi_start (m : Mpi) : (s.withMpi m).start = s.start := rfl
@[simp] theorem State.withMpi_tempo (m : Mpi) : (s.withMpi m).tempo = s.tempo := rfl
@[simp] theorem State.withMpi_defres (m : Mpi) : (s.withMpi m).defres = s.defres := rfl
@[simp] theorem State.withMpi_field (m : Mpi) : (s.withMpi m).field = s.field := rfl
@[simp] theorem State.withMpi_supplies (m : Mpi) : (s.withMpi m).supplies = s.supplies := rfl
@[simp] theorem State.withMpi_rescue (m : Mpi) : (s.withMpi m).rescue = s.rescue := rfl
@[simp] theorem State.withMpi_power (m : Mpi) : (s.withMpi m).power = s.power := rfl
@[simp] theorem State.withMpi_aon (m : Mpi) : (s.withMpi m).aon = s.aon := rfl
@[simp] theorem State.withMpi_persist (m : Mpi) : (s.withMpi m).persist = s.persist := rfl
@[simp] theorem State.withMpi_loader (m : Mpi) : (s.withMpi m).loader = s.loader := rfl
@[simp] theorem State.withMpi_session (m : Mpi) : (s.withMpi m).session = s.session := rfl
@[simp] theorem State.withMpi_image (m : Mpi) : (s.withMpi m).image = s.image := rfl
@[simp] theorem State.withMpi_recorder (m : Mpi) : (s.withMpi m).recorder = m.qf.recorder := rfl
@[simp] theorem State.withMpi_fabric (m : Mpi) : (s.withMpi m).fabric = m.qf.fabric := rfl
@[simp] theorem State.withMpi_ports (m : Mpi) : (s.withMpi m).ports = m.qf.ports := rfl
@[simp] theorem State.withMpi_lattice (m : Mpi) : (s.withMpi m).lattice = s.lattice := rfl
@[simp] theorem State.withMpi_react (m : Mpi) : (s.withMpi m).react = s.react := rfl
@[simp] theorem State.withMpi_gate (m : Mpi) : (s.withMpi m).gate = s.gate := rfl
@[simp] theorem State.withMpi_fusion (m : Mpi) : (s.withMpi m).fusion = m.fusion := rfl
@[simp] theorem State.withMpi_planners (m : Mpi) : (s.withMpi m).planners = m.planners := rfl
@[simp] theorem State.withMpi_loops (m : Mpi) : (s.withMpi m).loops = s.loops := rfl
@[simp] theorem State.withMpi_motors (m : Mpi) : (s.withMpi m).motors = s.motors := rfl
@[simp] theorem State.withMpi_doors (m : Mpi) : (s.withMpi m).doors = s.doors := rfl
@[simp] theorem State.withMpi_sched (m : Mpi) : (s.withMpi m).sched = s.sched := rfl
@[simp] theorem State.withMpi_seqr (m : Mpi) : (s.withMpi m).seqr = s.seqr := rfl
@[simp] theorem State.withMpi_cans (m : Mpi) : (s.withMpi m).cans = s.cans := rfl
@[simp] theorem State.withMpi_time (m : Mpi) : (s.withMpi m).time = s.time := rfl
@[simp] theorem State.withMpi_porlux (m : Mpi) : (s.withMpi m).porlux = s.porlux := rfl
@[simp] theorem State.withMpi_issuer (m : Mpi) : (s.withMpi m).issuer = s.issuer := rfl
@[simp] theorem State.withMpi_copy (m : Mpi) : (s.withMpi m).copy = s.copy := rfl

/-! ### `State.withMc` -/

@[simp] theorem State.withMc_pending (m : Mc) : (s.withMc m).pending = s.pending := rfl
@[simp] theorem State.withMc_fresh (m : Mc) : (s.withMc m).fresh = m.qf.fresh := rfl
@[simp] theorem State.withMc_dev (m : Mc) : (s.withMc m).dev = s.dev := rfl
@[simp] theorem State.withMc_regs (m : Mc) : (s.withMc m).regs = m.regs := rfl
@[simp] theorem State.withMc_lanes (m : Mc) : (s.withMc m).lanes = m.lanes := rfl
@[simp] theorem State.withMc_start (m : Mc) : (s.withMc m).start = s.start := rfl
@[simp] theorem State.withMc_tempo (m : Mc) : (s.withMc m).tempo = s.tempo := rfl
@[simp] theorem State.withMc_defres (m : Mc) : (s.withMc m).defres = s.defres := rfl
@[simp] theorem State.withMc_field (m : Mc) : (s.withMc m).field = s.field := rfl
@[simp] theorem State.withMc_supplies (m : Mc) : (s.withMc m).supplies = s.supplies := rfl
@[simp] theorem State.withMc_rescue (m : Mc) : (s.withMc m).rescue = s.rescue := rfl
@[simp] theorem State.withMc_power (m : Mc) : (s.withMc m).power = s.power := rfl
@[simp] theorem State.withMc_aon (m : Mc) : (s.withMc m).aon = s.aon := rfl
@[simp] theorem State.withMc_persist (m : Mc) : (s.withMc m).persist = s.persist := rfl
@[simp] theorem State.withMc_loader (m : Mc) : (s.withMc m).loader = s.loader := rfl
@[simp] theorem State.withMc_session (m : Mc) : (s.withMc m).session = s.session := rfl
@[simp] theorem State.withMc_image (m : Mc) : (s.withMc m).image = s.image := rfl
@[simp] theorem State.withMc_recorder (m : Mc) : (s.withMc m).recorder = m.qf.recorder := rfl
@[simp] theorem State.withMc_fabric (m : Mc) : (s.withMc m).fabric = m.qf.fabric := rfl
@[simp] theorem State.withMc_ports (m : Mc) : (s.withMc m).ports = m.qf.ports := rfl
@[simp] theorem State.withMc_lattice (m : Mc) : (s.withMc m).lattice = s.lattice := rfl
@[simp] theorem State.withMc_react (m : Mc) : (s.withMc m).react = s.react := rfl
@[simp] theorem State.withMc_gate (m : Mc) : (s.withMc m).gate = s.gate := rfl
@[simp] theorem State.withMc_fusion (m : Mc) : (s.withMc m).fusion = s.fusion := rfl
@[simp] theorem State.withMc_planners (m : Mc) : (s.withMc m).planners = s.planners := rfl
@[simp] theorem State.withMc_loops (m : Mc) : (s.withMc m).loops = m.loops := rfl
@[simp] theorem State.withMc_motors (m : Mc) : (s.withMc m).motors = m.motors := rfl
@[simp] theorem State.withMc_doors (m : Mc) : (s.withMc m).doors = m.doors := rfl
@[simp] theorem State.withMc_sched (m : Mc) : (s.withMc m).sched = s.sched := rfl
@[simp] theorem State.withMc_seqr (m : Mc) : (s.withMc m).seqr = s.seqr := rfl
@[simp] theorem State.withMc_cans (m : Mc) : (s.withMc m).cans = s.cans := rfl
@[simp] theorem State.withMc_time (m : Mc) : (s.withMc m).time = s.time := rfl
@[simp] theorem State.withMc_porlux (m : Mc) : (s.withMc m).porlux = s.porlux := rfl
@[simp] theorem State.withMc_issuer (m : Mc) : (s.withMc m).issuer = s.issuer := rfl
@[simp] theorem State.withMc_copy (m : Mc) : (s.withMc m).copy = s.copy := rfl

/-! ### `State.withSf` -/

@[simp] theorem State.withSf_pending (m : Sf) : (s.withSf m).pending = s.pending := rfl
@[simp] theorem State.withSf_fresh (m : Sf) : (s.withSf m).fresh = m.qf.fresh := rfl
@[simp] theorem State.withSf_dev (m : Sf) : (s.withSf m).dev = s.dev := rfl
@[simp] theorem State.withSf_regs (m : Sf) : (s.withSf m).regs = s.regs := rfl
@[simp] theorem State.withSf_lanes (m : Sf) : (s.withSf m).lanes = m.lanes := rfl
@[simp] theorem State.withSf_start (m : Sf) : (s.withSf m).start = s.start := rfl
@[simp] theorem State.withSf_tempo (m : Sf) : (s.withSf m).tempo = s.tempo := rfl
@[simp] theorem State.withSf_defres (m : Sf) : (s.withSf m).defres = s.defres := rfl
@[simp] theorem State.withSf_field (m : Sf) : (s.withSf m).field = m.field := rfl
@[simp] theorem State.withSf_supplies (m : Sf) : (s.withSf m).supplies = s.supplies := rfl
@[simp] theorem State.withSf_rescue (m : Sf) : (s.withSf m).rescue = s.rescue := rfl
@[simp] theorem State.withSf_power (m : Sf) : (s.withSf m).power = s.power := rfl
@[simp] theorem State.withSf_aon (m : Sf) : (s.withSf m).aon = s.aon := rfl
@[simp] theorem State.withSf_persist (m : Sf) : (s.withSf m).persist = s.persist := rfl
@[simp] theorem State.withSf_loader (m : Sf) : (s.withSf m).loader = s.loader := rfl
@[simp] theorem State.withSf_session (m : Sf) : (s.withSf m).session = s.session := rfl
@[simp] theorem State.withSf_image (m : Sf) : (s.withSf m).image = s.image := rfl
@[simp] theorem State.withSf_recorder (m : Sf) : (s.withSf m).recorder = m.qf.recorder := rfl
@[simp] theorem State.withSf_fabric (m : Sf) : (s.withSf m).fabric = m.qf.fabric := rfl
@[simp] theorem State.withSf_ports (m : Sf) : (s.withSf m).ports = m.qf.ports := rfl
@[simp] theorem State.withSf_lattice (m : Sf) : (s.withSf m).lattice = m.lattice := rfl
@[simp] theorem State.withSf_react (m : Sf) : (s.withSf m).react = m.react := rfl
@[simp] theorem State.withSf_gate (m : Sf) : (s.withSf m).gate = m.gate := rfl
@[simp] theorem State.withSf_fusion (m : Sf) : (s.withSf m).fusion = s.fusion := rfl
@[simp] theorem State.withSf_planners (m : Sf) : (s.withSf m).planners = s.planners := rfl
@[simp] theorem State.withSf_loops (m : Sf) : (s.withSf m).loops = s.loops := rfl
@[simp] theorem State.withSf_motors (m : Sf) : (s.withSf m).motors = s.motors := rfl
@[simp] theorem State.withSf_doors (m : Sf) : (s.withSf m).doors = s.doors := rfl
@[simp] theorem State.withSf_sched (m : Sf) : (s.withSf m).sched = s.sched := rfl
@[simp] theorem State.withSf_seqr (m : Sf) : (s.withSf m).seqr = s.seqr := rfl
@[simp] theorem State.withSf_cans (m : Sf) : (s.withSf m).cans = s.cans := rfl
@[simp] theorem State.withSf_time (m : Sf) : (s.withSf m).time = s.time := rfl
@[simp] theorem State.withSf_porlux (m : Sf) : (s.withSf m).porlux = s.porlux := rfl
@[simp] theorem State.withSf_issuer (m : Sf) : (s.withSf m).issuer = s.issuer := rfl
@[simp] theorem State.withSf_copy (m : Sf) : (s.withSf m).copy = s.copy := rfl

/-! ### `State.withSc` -/

@[simp] theorem State.withSc_pending (m : Sc) : (s.withSc m).pending = s.pending := rfl
@[simp] theorem State.withSc_fresh (m : Sc) : (s.withSc m).fresh = m.qf.fresh := rfl
@[simp] theorem State.withSc_dev (m : Sc) : (s.withSc m).dev = s.dev := rfl
@[simp] theorem State.withSc_regs (m : Sc) : (s.withSc m).regs = s.regs := rfl
@[simp] theorem State.withSc_lanes (m : Sc) : (s.withSc m).lanes = s.lanes := rfl
@[simp] theorem State.withSc_start (m : Sc) : (s.withSc m).start = s.start := rfl
@[simp] theorem State.withSc_tempo (m : Sc) : (s.withSc m).tempo = s.tempo := rfl
@[simp] theorem State.withSc_defres (m : Sc) : (s.withSc m).defres = s.defres := rfl
@[simp] theorem State.withSc_field (m : Sc) : (s.withSc m).field = s.field := rfl
@[simp] theorem State.withSc_supplies (m : Sc) : (s.withSc m).supplies = s.supplies := rfl
@[simp] theorem State.withSc_rescue (m : Sc) : (s.withSc m).rescue = s.rescue := rfl
@[simp] theorem State.withSc_power (m : Sc) : (s.withSc m).power = s.power := rfl
@[simp] theorem State.withSc_aon (m : Sc) : (s.withSc m).aon = s.aon := rfl
@[simp] theorem State.withSc_persist (m : Sc) : (s.withSc m).persist = s.persist := rfl
@[simp] theorem State.withSc_loader (m : Sc) : (s.withSc m).loader = s.loader := rfl
@[simp] theorem State.withSc_session (m : Sc) : (s.withSc m).session = s.session := rfl
@[simp] theorem State.withSc_image (m : Sc) : (s.withSc m).image = s.image := rfl
@[simp] theorem State.withSc_recorder (m : Sc) : (s.withSc m).recorder = m.qf.recorder := rfl
@[simp] theorem State.withSc_fabric (m : Sc) : (s.withSc m).fabric = m.qf.fabric := rfl
@[simp] theorem State.withSc_ports (m : Sc) : (s.withSc m).ports = m.qf.ports := rfl
@[simp] theorem State.withSc_lattice (m : Sc) : (s.withSc m).lattice = s.lattice := rfl
@[simp] theorem State.withSc_react (m : Sc) : (s.withSc m).react = s.react := rfl
@[simp] theorem State.withSc_gate (m : Sc) : (s.withSc m).gate = s.gate := rfl
@[simp] theorem State.withSc_fusion (m : Sc) : (s.withSc m).fusion = s.fusion := rfl
@[simp] theorem State.withSc_planners (m : Sc) : (s.withSc m).planners = s.planners := rfl
@[simp] theorem State.withSc_loops (m : Sc) : (s.withSc m).loops = s.loops := rfl
@[simp] theorem State.withSc_motors (m : Sc) : (s.withSc m).motors = s.motors := rfl
@[simp] theorem State.withSc_doors (m : Sc) : (s.withSc m).doors = s.doors := rfl
@[simp] theorem State.withSc_sched (m : Sc) : (s.withSc m).sched = m.sched := rfl
@[simp] theorem State.withSc_seqr (m : Sc) : (s.withSc m).seqr = s.seqr := rfl
@[simp] theorem State.withSc_cans (m : Sc) : (s.withSc m).cans = s.cans := rfl
@[simp] theorem State.withSc_time (m : Sc) : (s.withSc m).time = s.time := rfl
@[simp] theorem State.withSc_porlux (m : Sc) : (s.withSc m).porlux = s.porlux := rfl
@[simp] theorem State.withSc_issuer (m : Sc) : (s.withSc m).issuer = s.issuer := rfl
@[simp] theorem State.withSc_copy (m : Sc) : (s.withSc m).copy = s.copy := rfl

/-! ### `State.withBc` -/

@[simp] theorem State.withBc_pending (m : Bc) : (s.withBc m).pending = s.pending := rfl
@[simp] theorem State.withBc_fresh (m : Bc) : (s.withBc m).fresh = m.qf.fresh := rfl
@[simp] theorem State.withBc_dev (m : Bc) : (s.withBc m).dev = s.dev := rfl
@[simp] theorem State.withBc_regs (m : Bc) : (s.withBc m).regs = s.regs := rfl
@[simp] theorem State.withBc_lanes (m : Bc) : (s.withBc m).lanes = s.lanes := rfl
@[simp] theorem State.withBc_start (m : Bc) : (s.withBc m).start = s.start := rfl
@[simp] theorem State.withBc_tempo (m : Bc) : (s.withBc m).tempo = s.tempo := rfl
@[simp] theorem State.withBc_defres (m : Bc) : (s.withBc m).defres = s.defres := rfl
@[simp] theorem State.withBc_field (m : Bc) : (s.withBc m).field = s.field := rfl
@[simp] theorem State.withBc_supplies (m : Bc) : (s.withBc m).supplies = s.supplies := rfl
@[simp] theorem State.withBc_rescue (m : Bc) : (s.withBc m).rescue = s.rescue := rfl
@[simp] theorem State.withBc_power (m : Bc) : (s.withBc m).power = s.power := rfl
@[simp] theorem State.withBc_aon (m : Bc) : (s.withBc m).aon = s.aon := rfl
@[simp] theorem State.withBc_persist (m : Bc) : (s.withBc m).persist = s.persist := rfl
@[simp] theorem State.withBc_loader (m : Bc) : (s.withBc m).loader = s.loader := rfl
@[simp] theorem State.withBc_session (m : Bc) : (s.withBc m).session = s.session := rfl
@[simp] theorem State.withBc_image (m : Bc) : (s.withBc m).image = s.image := rfl
@[simp] theorem State.withBc_recorder (m : Bc) : (s.withBc m).recorder = m.qf.recorder := rfl
@[simp] theorem State.withBc_fabric (m : Bc) : (s.withBc m).fabric = m.qf.fabric := rfl
@[simp] theorem State.withBc_ports (m : Bc) : (s.withBc m).ports = m.qf.ports := rfl
@[simp] theorem State.withBc_lattice (m : Bc) : (s.withBc m).lattice = s.lattice := rfl
@[simp] theorem State.withBc_react (m : Bc) : (s.withBc m).react = s.react := rfl
@[simp] theorem State.withBc_gate (m : Bc) : (s.withBc m).gate = s.gate := rfl
@[simp] theorem State.withBc_fusion (m : Bc) : (s.withBc m).fusion = s.fusion := rfl
@[simp] theorem State.withBc_planners (m : Bc) : (s.withBc m).planners = s.planners := rfl
@[simp] theorem State.withBc_loops (m : Bc) : (s.withBc m).loops = s.loops := rfl
@[simp] theorem State.withBc_motors (m : Bc) : (s.withBc m).motors = s.motors := rfl
@[simp] theorem State.withBc_doors (m : Bc) : (s.withBc m).doors = s.doors := rfl
@[simp] theorem State.withBc_sched (m : Bc) : (s.withBc m).sched = s.sched := rfl
@[simp] theorem State.withBc_seqr (m : Bc) : (s.withBc m).seqr = s.seqr := rfl
@[simp] theorem State.withBc_cans (m : Bc) : (s.withBc m).cans = m.cans := rfl
@[simp] theorem State.withBc_time (m : Bc) : (s.withBc m).time = m.time := rfl
@[simp] theorem State.withBc_porlux (m : Bc) : (s.withBc m).porlux = m.porlux := rfl
@[simp] theorem State.withBc_issuer (m : Bc) : (s.withBc m).issuer = m.issuer := rfl
@[simp] theorem State.withBc_copy (m : Bc) : (s.withBc m).copy = m.copy := rfl

/-! ### `State.withHist` -/

@[simp] theorem State.withHist_pending (h : Hist) : (s.withHist h).pending = s.pending := rfl
@[simp] theorem State.withHist_fresh (h : Hist) : (s.withHist h).fresh = s.fresh := rfl
@[simp] theorem State.withHist_dev (h : Hist) : (s.withHist h).dev = s.dev := rfl
@[simp] theorem State.withHist_regs (h : Hist) : (s.withHist h).regs = s.regs := rfl
@[simp] theorem State.withHist_lanes (h : Hist) : (s.withHist h).lanes = h.lanes := rfl
@[simp] theorem State.withHist_start (h : Hist) : (s.withHist h).start = s.start := rfl
@[simp] theorem State.withHist_tempo (h : Hist) : (s.withHist h).tempo = s.tempo := rfl
@[simp] theorem State.withHist_defres (h : Hist) : (s.withHist h).defres = s.defres := rfl
@[simp] theorem State.withHist_field (h : Hist) : (s.withHist h).field = s.field := rfl
@[simp] theorem State.withHist_supplies (h : Hist) : (s.withHist h).supplies = s.supplies := rfl
@[simp] theorem State.withHist_rescue (h : Hist) : (s.withHist h).rescue = s.rescue := rfl
@[simp] theorem State.withHist_power (h : Hist) : (s.withHist h).power = s.power := rfl
@[simp] theorem State.withHist_aon (h : Hist) : (s.withHist h).aon = s.aon := rfl
@[simp] theorem State.withHist_persist (h : Hist) : (s.withHist h).persist = h.persist := rfl
@[simp] theorem State.withHist_loader (h : Hist) : (s.withHist h).loader = s.loader := rfl
@[simp] theorem State.withHist_session (h : Hist) : (s.withHist h).session = s.session := rfl
@[simp] theorem State.withHist_image (h : Hist) : (s.withHist h).image = s.image := rfl
@[simp] theorem State.withHist_recorder (h : Hist) : (s.withHist h).recorder = h.recorder := rfl
@[simp] theorem State.withHist_fabric (h : Hist) : (s.withHist h).fabric = s.fabric := rfl
@[simp] theorem State.withHist_ports (h : Hist) : (s.withHist h).ports = s.ports := rfl
@[simp] theorem State.withHist_lattice (h : Hist) : (s.withHist h).lattice = s.lattice := rfl
@[simp] theorem State.withHist_react (h : Hist) : (s.withHist h).react = s.react := rfl
@[simp] theorem State.withHist_gate (h : Hist) : (s.withHist h).gate = s.gate := rfl
@[simp] theorem State.withHist_fusion (h : Hist) : (s.withHist h).fusion = s.fusion := rfl
@[simp] theorem State.withHist_planners (h : Hist) : (s.withHist h).planners = s.planners := rfl
@[simp] theorem State.withHist_loops (h : Hist) : (s.withHist h).loops = s.loops := rfl
@[simp] theorem State.withHist_motors (h : Hist) : (s.withHist h).motors = s.motors := rfl
@[simp] theorem State.withHist_doors (h : Hist) : (s.withHist h).doors = s.doors := rfl
@[simp] theorem State.withHist_sched (h : Hist) : (s.withHist h).sched = s.sched := rfl
@[simp] theorem State.withHist_seqr (h : Hist) : (s.withHist h).seqr = s.seqr := rfl
@[simp] theorem State.withHist_cans (h : Hist) : (s.withHist h).cans = s.cans := rfl
@[simp] theorem State.withHist_time (h : Hist) : (s.withHist h).time = s.time := rfl
@[simp] theorem State.withHist_porlux (h : Hist) : (s.withHist h).porlux = s.porlux := rfl
@[simp] theorem State.withHist_issuer (h : Hist) : (s.withHist h).issuer = s.issuer := rfl
@[simp] theorem State.withHist_copy (h : Hist) : (s.withHist h).copy = s.copy := rfl

/-! ### Registers, records and the count of free values -/

@[simp] theorem State.setReg_pending (r : Reg) (i : List Nat) (w : Word) : (s.setReg r i w).pending = s.pending := rfl
@[simp] theorem State.setReg_fresh (r : Reg) (i : List Nat) (w : Word) : (s.setReg r i w).fresh = s.fresh := rfl
@[simp] theorem State.setReg_dev (r : Reg) (i : List Nat) (w : Word) : (s.setReg r i w).dev = s.dev := rfl
@[simp] theorem State.setReg_lanes (r : Reg) (i : List Nat) (w : Word) : (s.setReg r i w).lanes = s.lanes := rfl
@[simp] theorem State.setReg_start (r : Reg) (i : List Nat) (w : Word) : (s.setReg r i w).start = s.start := rfl
@[simp] theorem State.setReg_tempo (r : Reg) (i : List Nat) (w : Word) : (s.setReg r i w).tempo = s.tempo := rfl
@[simp] theorem State.setReg_defres (r : Reg) (i : List Nat) (w : Word) : (s.setReg r i w).defres = s.defres := rfl
@[simp] theorem State.setReg_field (r : Reg) (i : List Nat) (w : Word) : (s.setReg r i w).field = s.field := rfl
@[simp] theorem State.setReg_supplies (r : Reg) (i : List Nat) (w : Word) : (s.setReg r i w).supplies = s.supplies := rfl
@[simp] theorem State.setReg_rescue (r : Reg) (i : List Nat) (w : Word) : (s.setReg r i w).rescue = s.rescue := rfl
@[simp] theorem State.setReg_power (r : Reg) (i : List Nat) (w : Word) : (s.setReg r i w).power = s.power := rfl
@[simp] theorem State.setReg_aon (r : Reg) (i : List Nat) (w : Word) : (s.setReg r i w).aon = s.aon := rfl
@[simp] theorem State.setReg_persist (r : Reg) (i : List Nat) (w : Word) : (s.setReg r i w).persist = s.persist := rfl
@[simp] theorem State.setReg_loader (r : Reg) (i : List Nat) (w : Word) : (s.setReg r i w).loader = s.loader := rfl
@[simp] theorem State.setReg_session (r : Reg) (i : List Nat) (w : Word) : (s.setReg r i w).session = s.session := rfl
@[simp] theorem State.setReg_image (r : Reg) (i : List Nat) (w : Word) : (s.setReg r i w).image = s.image := rfl
@[simp] theorem State.setReg_recorder (r : Reg) (i : List Nat) (w : Word) : (s.setReg r i w).recorder = s.recorder := rfl
@[simp] theorem State.setReg_fabric (r : Reg) (i : List Nat) (w : Word) : (s.setReg r i w).fabric = s.fabric := rfl
@[simp] theorem State.setReg_ports (r : Reg) (i : List Nat) (w : Word) : (s.setReg r i w).ports = s.ports := rfl
@[simp] theorem State.setReg_lattice (r : Reg) (i : List Nat) (w : Word) : (s.setReg r i w).lattice = s.lattice := rfl
@[simp] theorem State.setReg_react (r : Reg) (i : List Nat) (w : Word) : (s.setReg r i w).react = s.react := rfl
@[simp] theorem State.setReg_gate (r : Reg) (i : List Nat) (w : Word) : (s.setReg r i w).gate = s.gate := rfl
@[simp] theorem State.setReg_fusion (r : Reg) (i : List Nat) (w : Word) : (s.setReg r i w).fusion = s.fusion := rfl
@[simp] theorem State.setReg_planners (r : Reg) (i : List Nat) (w : Word) : (s.setReg r i w).planners = s.planners := rfl
@[simp] theorem State.setReg_loops (r : Reg) (i : List Nat) (w : Word) : (s.setReg r i w).loops = s.loops := rfl
@[simp] theorem State.setReg_motors (r : Reg) (i : List Nat) (w : Word) : (s.setReg r i w).motors = s.motors := rfl
@[simp] theorem State.setReg_doors (r : Reg) (i : List Nat) (w : Word) : (s.setReg r i w).doors = s.doors := rfl
@[simp] theorem State.setReg_sched (r : Reg) (i : List Nat) (w : Word) : (s.setReg r i w).sched = s.sched := rfl
@[simp] theorem State.setReg_seqr (r : Reg) (i : List Nat) (w : Word) : (s.setReg r i w).seqr = s.seqr := rfl
@[simp] theorem State.setReg_cans (r : Reg) (i : List Nat) (w : Word) : (s.setReg r i w).cans = s.cans := rfl
@[simp] theorem State.setReg_time (r : Reg) (i : List Nat) (w : Word) : (s.setReg r i w).time = s.time := rfl
@[simp] theorem State.setReg_porlux (r : Reg) (i : List Nat) (w : Word) : (s.setReg r i w).porlux = s.porlux := rfl
@[simp] theorem State.setReg_issuer (r : Reg) (i : List Nat) (w : Word) : (s.setReg r i w).issuer = s.issuer := rfl
@[simp] theorem State.setReg_copy (r : Reg) (i : List Nat) (w : Word) : (s.setReg r i w).copy = s.copy := rfl
@[simp] theorem State.writeRwk_pending (r : Reg) (i : List Nat) (w : Word) : (s.writeRwk r i w).pending = s.pending := rfl
@[simp] theorem State.writeRwk_fresh (r : Reg) (i : List Nat) (w : Word) : (s.writeRwk r i w).fresh = s.fresh := rfl
@[simp] theorem State.writeRwk_dev (r : Reg) (i : List Nat) (w : Word) : (s.writeRwk r i w).dev = s.dev := rfl
@[simp] theorem State.writeRwk_start (r : Reg) (i : List Nat) (w : Word) : (s.writeRwk r i w).start = s.start := rfl
@[simp] theorem State.writeRwk_tempo (r : Reg) (i : List Nat) (w : Word) : (s.writeRwk r i w).tempo = s.tempo := rfl
@[simp] theorem State.writeRwk_defres (r : Reg) (i : List Nat) (w : Word) : (s.writeRwk r i w).defres = s.defres := rfl
@[simp] theorem State.writeRwk_field (r : Reg) (i : List Nat) (w : Word) : (s.writeRwk r i w).field = s.field := rfl
@[simp] theorem State.writeRwk_supplies (r : Reg) (i : List Nat) (w : Word) : (s.writeRwk r i w).supplies = s.supplies := rfl
@[simp] theorem State.writeRwk_rescue (r : Reg) (i : List Nat) (w : Word) : (s.writeRwk r i w).rescue = s.rescue := rfl
@[simp] theorem State.writeRwk_power (r : Reg) (i : List Nat) (w : Word) : (s.writeRwk r i w).power = s.power := rfl
@[simp] theorem State.writeRwk_aon (r : Reg) (i : List Nat) (w : Word) : (s.writeRwk r i w).aon = s.aon := rfl
@[simp] theorem State.writeRwk_persist (r : Reg) (i : List Nat) (w : Word) : (s.writeRwk r i w).persist = s.persist := rfl
@[simp] theorem State.writeRwk_loader (r : Reg) (i : List Nat) (w : Word) : (s.writeRwk r i w).loader = s.loader := rfl
@[simp] theorem State.writeRwk_session (r : Reg) (i : List Nat) (w : Word) : (s.writeRwk r i w).session = s.session := rfl
@[simp] theorem State.writeRwk_image (r : Reg) (i : List Nat) (w : Word) : (s.writeRwk r i w).image = s.image := rfl
@[simp] theorem State.writeRwk_recorder (r : Reg) (i : List Nat) (w : Word) : (s.writeRwk r i w).recorder = s.recorder := rfl
@[simp] theorem State.writeRwk_fabric (r : Reg) (i : List Nat) (w : Word) : (s.writeRwk r i w).fabric = s.fabric := rfl
@[simp] theorem State.writeRwk_ports (r : Reg) (i : List Nat) (w : Word) : (s.writeRwk r i w).ports = s.ports := rfl
@[simp] theorem State.writeRwk_lattice (r : Reg) (i : List Nat) (w : Word) : (s.writeRwk r i w).lattice = s.lattice := rfl
@[simp] theorem State.writeRwk_react (r : Reg) (i : List Nat) (w : Word) : (s.writeRwk r i w).react = s.react := rfl
@[simp] theorem State.writeRwk_gate (r : Reg) (i : List Nat) (w : Word) : (s.writeRwk r i w).gate = s.gate := rfl
@[simp] theorem State.writeRwk_fusion (r : Reg) (i : List Nat) (w : Word) : (s.writeRwk r i w).fusion = s.fusion := rfl
@[simp] theorem State.writeRwk_planners (r : Reg) (i : List Nat) (w : Word) : (s.writeRwk r i w).planners = s.planners := rfl
@[simp] theorem State.writeRwk_loops (r : Reg) (i : List Nat) (w : Word) : (s.writeRwk r i w).loops = s.loops := rfl
@[simp] theorem State.writeRwk_motors (r : Reg) (i : List Nat) (w : Word) : (s.writeRwk r i w).motors = s.motors := rfl
@[simp] theorem State.writeRwk_doors (r : Reg) (i : List Nat) (w : Word) : (s.writeRwk r i w).doors = s.doors := rfl
@[simp] theorem State.writeRwk_sched (r : Reg) (i : List Nat) (w : Word) : (s.writeRwk r i w).sched = s.sched := rfl
@[simp] theorem State.writeRwk_seqr (r : Reg) (i : List Nat) (w : Word) : (s.writeRwk r i w).seqr = s.seqr := rfl
@[simp] theorem State.writeRwk_cans (r : Reg) (i : List Nat) (w : Word) : (s.writeRwk r i w).cans = s.cans := rfl
@[simp] theorem State.writeRwk_time (r : Reg) (i : List Nat) (w : Word) : (s.writeRwk r i w).time = s.time := rfl
@[simp] theorem State.writeRwk_porlux (r : Reg) (i : List Nat) (w : Word) : (s.writeRwk r i w).porlux = s.porlux := rfl
@[simp] theorem State.writeRwk_issuer (r : Reg) (i : List Nat) (w : Word) : (s.writeRwk r i w).issuer = s.issuer := rfl
@[simp] theorem State.writeRwk_copy (r : Reg) (i : List Nat) (w : Word) : (s.writeRwk r i w).copy = s.copy := rfl
@[simp] theorem State.note_pending (c : Nat) (d : List Byte) : (s.note c d).pending = s.pending := rfl
@[simp] theorem State.note_fresh (c : Nat) (d : List Byte) : (s.note c d).fresh = s.fresh := rfl
@[simp] theorem State.note_dev (c : Nat) (d : List Byte) : (s.note c d).dev = s.dev := rfl
@[simp] theorem State.note_regs (c : Nat) (d : List Byte) : (s.note c d).regs = s.regs := rfl
@[simp] theorem State.note_lanes (c : Nat) (d : List Byte) : (s.note c d).lanes = s.lanes := rfl
@[simp] theorem State.note_start (c : Nat) (d : List Byte) : (s.note c d).start = s.start := rfl
@[simp] theorem State.note_tempo (c : Nat) (d : List Byte) : (s.note c d).tempo = s.tempo := rfl
@[simp] theorem State.note_defres (c : Nat) (d : List Byte) : (s.note c d).defres = s.defres := rfl
@[simp] theorem State.note_field (c : Nat) (d : List Byte) : (s.note c d).field = s.field := rfl
@[simp] theorem State.note_supplies (c : Nat) (d : List Byte) : (s.note c d).supplies = s.supplies := rfl
@[simp] theorem State.note_rescue (c : Nat) (d : List Byte) : (s.note c d).rescue = s.rescue := rfl
@[simp] theorem State.note_power (c : Nat) (d : List Byte) : (s.note c d).power = s.power := rfl
@[simp] theorem State.note_aon (c : Nat) (d : List Byte) : (s.note c d).aon = s.aon := rfl
@[simp] theorem State.note_persist (c : Nat) (d : List Byte) : (s.note c d).persist = s.persist := rfl
@[simp] theorem State.note_loader (c : Nat) (d : List Byte) : (s.note c d).loader = s.loader := rfl
@[simp] theorem State.note_session (c : Nat) (d : List Byte) : (s.note c d).session = s.session := rfl
@[simp] theorem State.note_image (c : Nat) (d : List Byte) : (s.note c d).image = s.image := rfl
@[simp] theorem State.note_fabric (c : Nat) (d : List Byte) : (s.note c d).fabric = s.fabric := rfl
@[simp] theorem State.note_ports (c : Nat) (d : List Byte) : (s.note c d).ports = s.ports := rfl
@[simp] theorem State.note_lattice (c : Nat) (d : List Byte) : (s.note c d).lattice = s.lattice := rfl
@[simp] theorem State.note_react (c : Nat) (d : List Byte) : (s.note c d).react = s.react := rfl
@[simp] theorem State.note_gate (c : Nat) (d : List Byte) : (s.note c d).gate = s.gate := rfl
@[simp] theorem State.note_fusion (c : Nat) (d : List Byte) : (s.note c d).fusion = s.fusion := rfl
@[simp] theorem State.note_planners (c : Nat) (d : List Byte) : (s.note c d).planners = s.planners := rfl
@[simp] theorem State.note_loops (c : Nat) (d : List Byte) : (s.note c d).loops = s.loops := rfl
@[simp] theorem State.note_motors (c : Nat) (d : List Byte) : (s.note c d).motors = s.motors := rfl
@[simp] theorem State.note_doors (c : Nat) (d : List Byte) : (s.note c d).doors = s.doors := rfl
@[simp] theorem State.note_sched (c : Nat) (d : List Byte) : (s.note c d).sched = s.sched := rfl
@[simp] theorem State.note_seqr (c : Nat) (d : List Byte) : (s.note c d).seqr = s.seqr := rfl
@[simp] theorem State.note_cans (c : Nat) (d : List Byte) : (s.note c d).cans = s.cans := rfl
@[simp] theorem State.note_time (c : Nat) (d : List Byte) : (s.note c d).time = s.time := rfl
@[simp] theorem State.note_porlux (c : Nat) (d : List Byte) : (s.note c d).porlux = s.porlux := rfl
@[simp] theorem State.note_issuer (c : Nat) (d : List Byte) : (s.note c d).issuer = s.issuer := rfl
@[simp] theorem State.note_copy (c : Nat) (d : List Byte) : (s.note c d).copy = s.copy := rfl
@[simp] theorem State.tick_pending : s.tick.pending = s.pending := rfl
@[simp] theorem State.tick_fresh : s.tick.fresh = s.fresh + 1 := rfl
@[simp] theorem State.tick_dev : s.tick.dev = s.dev := rfl
@[simp] theorem State.tick_regs : s.tick.regs = s.regs := rfl
@[simp] theorem State.tick_lanes : s.tick.lanes = s.lanes := rfl
@[simp] theorem State.tick_start : s.tick.start = s.start := rfl
@[simp] theorem State.tick_tempo : s.tick.tempo = s.tempo := rfl
@[simp] theorem State.tick_defres : s.tick.defres = s.defres := rfl
@[simp] theorem State.tick_field : s.tick.field = s.field := rfl
@[simp] theorem State.tick_supplies : s.tick.supplies = s.supplies := rfl
@[simp] theorem State.tick_rescue : s.tick.rescue = s.rescue := rfl
@[simp] theorem State.tick_power : s.tick.power = s.power := rfl
@[simp] theorem State.tick_aon : s.tick.aon = s.aon := rfl
@[simp] theorem State.tick_persist : s.tick.persist = s.persist := rfl
@[simp] theorem State.tick_loader : s.tick.loader = s.loader := rfl
@[simp] theorem State.tick_session : s.tick.session = s.session := rfl
@[simp] theorem State.tick_image : s.tick.image = s.image := rfl
@[simp] theorem State.tick_recorder : s.tick.recorder = s.recorder := rfl
@[simp] theorem State.tick_fabric : s.tick.fabric = s.fabric := rfl
@[simp] theorem State.tick_ports : s.tick.ports = s.ports := rfl
@[simp] theorem State.tick_lattice : s.tick.lattice = s.lattice := rfl
@[simp] theorem State.tick_react : s.tick.react = s.react := rfl
@[simp] theorem State.tick_gate : s.tick.gate = s.gate := rfl
@[simp] theorem State.tick_fusion : s.tick.fusion = s.fusion := rfl
@[simp] theorem State.tick_planners : s.tick.planners = s.planners := rfl
@[simp] theorem State.tick_loops : s.tick.loops = s.loops := rfl
@[simp] theorem State.tick_motors : s.tick.motors = s.motors := rfl
@[simp] theorem State.tick_doors : s.tick.doors = s.doors := rfl
@[simp] theorem State.tick_sched : s.tick.sched = s.sched := rfl
@[simp] theorem State.tick_seqr : s.tick.seqr = s.seqr := rfl
@[simp] theorem State.tick_cans : s.tick.cans = s.cans := rfl
@[simp] theorem State.tick_time : s.tick.time = s.time := rfl
@[simp] theorem State.tick_porlux : s.tick.porlux = s.porlux := rfl
@[simp] theorem State.tick_issuer : s.tick.issuer = s.issuer := rfl
@[simp] theorem State.tick_copy : s.tick.copy = s.copy := rfl

/-- A read under any default after a write at another key. -/
theorem get_set_default {α : Type} [DecidableEq α] (t : Tbl α) (d d' : α) (k j : Nat) (v : α) (h : k ≠ j) :
    Tbl.get (Tbl.set t d k v) d' j = Tbl.get t d' j := by
  unfold Tbl.set
  split
  · rw [Tbl.get_filter]; simp [h]
  · rw [Tbl.get_insert]; simp [h]

/-- A write of a register leaves every register at another address. -/
theorem State.reg_setReg_ne (r r' : Reg) (i i' : List Nat) (w : Word) (h : r'.addr i' ≠ r.addr i) :
    (s.setReg r i w).reg r' i' = s.reg r' i' := by
  unfold State.reg State.setReg
  exact get_set_default _ _ _ _ _ _ (Ne.symm h)

/-- A register reads the word stored in it. -/
@[simp] theorem State.reg_setReg_self (r : Reg) (i : List Nat) (w : Word) : (s.setReg r i w).reg r i = w := by
  unfold State.reg State.setReg; simp

/-- An island's write of its RWK register shows at once and goes to the persistence lanes. -/
theorem State.writeRwk_spec (r : Reg) (i : List Nat) (w : Word) :
    (s.writeRwk r i w).reg r i = w ∧ (s.writeRwk r i w).lanes = s.lanes ++ [.rwk (r.addr i) w] ∧
    ∀ r' i', r'.addr i' ≠ r.addr i → (s.writeRwk r i w).reg r' i' = s.reg r' i' := by
  refine ⟨by unfold State.reg State.writeRwk; simp, rfl, fun r' i' h => ?_⟩
  unfold State.reg State.writeRwk
  exact get_set_default _ _ _ _ _ _ (Ne.symm h)

end Sys2Proof.Machine
end

