-- ==== Sys2Proof/Tests/Fixtures.lean ====
section
/-! SUPPORT. The small states the tests and the witnesses start from. -/

namespace Sys2Proof.Machine.Fx

set_option Elab.async false

def tile (kind : Nat) (index : Nat) (arg : Nat := 0) : TileRec :=
  { kind := BitVec.ofNat 8 kind, index := index, arg := BitVec.ofNat 32 arg }

def pad (n : Nat) (func : Nat := 0) : PinRec := { pad := n, func := BitVec.ofNat 8 func, decl := 1, arg := 0 }

/-- The pads of the engines, the mains sense and the wake input. -/
def pads : List PinRec :=
  [pad 3 0x14, pad 4 0x13, pad 25, pad 26, pad 41, pad 76 0x15, pad 77 0x15, pad 78 0x15] ++
  ([47, 48, 49, 50, 51, 52, 56, 57, 58, 59, 64, 65, 66, 263, 265, 311, 312, 319, 380, 406].map fun n => pad n)

/-- An image without redundancy that instantiates every other engine. -/
def im : Image :=
  { role := .machine, tempo := 1, permit := 7, redundant := false, nodeId := 7, setId := 9, crc := 0x1234,
    pins := pads,
    tiles := [tile 1 0 1, tile 2 0 1, tile 2 1 2, tile 2 2 3, tile 3 0 1, tile 3 1 1, tile 3 2 2, tile 4 4, tile 5 0 1, tile 6 0, tile 6 1,
      tile 7 0, tile 7 1, tile 8 0 4, tile 9 0 1],
    routes := [], lattice := [], params := [], expose := [], figures := [] }

/-- The device in READY with an image. -/
def up (im : Image) : State :=
  { State.reset with
    image := some im
    dev := 5000000
    start := { Start.reset with phase := 9, ready := true, rsti := [] }
    power := { Power.reset with state := .run, gate := 0x1FFF }
    supplies := { Supplies.reset with vfldOk := true, vbatOk := true }
    aon := { Aon.reset with mgtUp := true } }

/-- A session is open. -/
def opened (s : State) : State := { s with session := { s.session with unlocked := true } }

/-- One item staged at a consumer port. -/
def stage (s : State) (port : Nat) (ws : List Word) : State :=
  { s with fabric := { s.fabric with stages := s.fabric.stages.set [] port (s.fabric.stage port ++
      [{ queue := 0, words := ws.map fun w => (w, false), read := 0, at_ := s.dev }]) } }

/-! ### Figure engines -/

/-- A figure engine RUNNING at a step. -/
def figAt (st : FigStep) : Figure :=
  { Figure.reset with
    stat := .running
    regs := [(0, 1), (1, 0x7FFFFFFF), (2, 0x80000000), (15, 3)]
    store := ((0, st.word) :: match st.lit with
      | some w => [(1, w)]
      | none => []).filter fun e => e.2 != 0
    stack := [5] }

def withFig (s : State) (f : Nat) (g : Figure) : State :=
  { s with seqr := { s.seqr with figs := s.seqr.figs.set Figure.reset f g } }

def fig (st : FigStep) (h : Figure → Figure := id) : State := withFig (up im) 0 (h (figAt st))

/-! ### Tempo, field die, lattice -/

def tempoAt (st : TempoStat) (s : State) : State := { s with tempo := { s.tempo with stat := st, pendingTarget := 2 } }

/-- SWITCHING with QUIESCE, and the islands that have answered. -/
def quiesced (is : List Island) (s : State) : State :=
  { s with tempo := { s.tempo with stat := .switching, pendingTarget := 2, quiesce := true, qack := is } }

/-- The lattice runs. -/
def latt (s : State) : State := { s with lattice := { s.lattice with stat := .running } }

/-- The start at a step with the resistor check at a stage. -/
def checkAt (phase : BitVec 4) (d : DrcStat) : State :=
  { up { im with pins := [pad 3] } with start := { Start.reset with phase := phase }, power := Power.reset, defres := { DefRes.reset with stat := d } }

def pulledUp (pad : Nat) : PadReading := { pad := pad, voc := 1500, vh := 1300, vl := 1400 }

/-! ### Power and rescue -/

/-- VMAIN out of range: VAULT-WATCH. -/
def vmainGone : State :=
  { State.reset with
    supplies := { Supplies.reset with vmainOk := false }
    power := { Power.reset with state := .vaultWatch }
    start := { Start.reset with phase := 1 } }

def hib (h : HibState) (s : State) : State := { s with power := { s.power with hib := h } }

def hibernating : State :=
  { (State.reset.setReg .PWR_WAKEEN [] 3) with
    power := { Power.reset with state := .hibernate, gate := 0x13 }
    supplies := { Supplies.reset with vfldOk := true } }

/-- A rescue function with mains away, at a state. -/
def rescue (st : RescueState) : State :=
  { (up im).setReg .PWR_RESCFG [] 0x101 with
    rescue := { Rescue.reset with stat := st, senseOn := false, mainsOn := false, stale := false, charge := 1000, ibs := [1] } }

def est : Estimate := { status := 0, landing := 2, tmove := 1000, emove := 5, target := 7 }

/-- ESTIMATING with the upward reply in. -/
def estimated (status : BitVec 4) : State :=
  let s := rescue .estimating
  { (s.setReg .PWR_RESQREM [] 0x7FFFFFFF) with
    rescue := { s.rescue with up := some { est with status := status }, vbs := [40000] } }

/-! ### An image in a slot -/

/-- A smallest image written out by R142 to R147 and R447: a MACHINE with the three fixed pads and one cell, its CRC word worked
out apart from the model. -/
def imageBytes : List Byte :=
  [0x47, 0x4C, 0x41, 0x4E, 0x01, 0x00, 0x00, 0x00, 0x98, 0x00, 0x00, 0x00, 0x00, 0x00, 0x00, 0x00] ++
  [0x00, 0x94, 0x0B, 0x0B, 0x02, 0x01, 0x02, 0x04, 0x07, 0x00, 0x00, 0x00, 0x09, 0x00, 0x00, 0x00] ++
  [0x00, 0x00, 0x00, 0x00, 0x00, 0x00, 0x00, 0x00, 0x00, 0x00, 0x00, 0x00, 0x00, 0x00, 0x00, 0x00] ++
  [0x00, 0x00, 0x00, 0x00, 0x00, 0x00, 0x00, 0x00, 0x00, 0x00, 0x00, 0x00, 0x00, 0x00, 0x00, 0x00] ++
  [0x01, 0x01, 0x03, 0x00, 0x70, 0x00, 0x00, 0x00, 0x18, 0x00, 0x00, 0x00, 0x02, 0x01, 0x00, 0x00] ++
  [0x88, 0x00, 0x00, 0x00, 0x00, 0x00, 0x00, 0x00, 0x03, 0x01, 0x00, 0x00, 0x88, 0x00, 0x00, 0x00] ++
  [0x00, 0x00, 0x00, 0x00, 0x04, 0x01, 0x01, 0x00, 0x88, 0x00, 0x00, 0x00, 0x10, 0x00, 0x00, 0x00] ++
  [0x18, 0x00, 0x01, 0x04, 0x00, 0x00, 0x00, 0x00, 0x19, 0x00, 0x01, 0x00, 0x00, 0x00, 0x00, 0x00] ++
  [0x29, 0x00, 0x01, 0x01, 0x00, 0x00, 0x00, 0x00, 0xF0, 0x04, 0x4F, 0x00, 0xF0, 0x04, 0x4F, 0x00] ++
  [0x00, 0x00, 0x00, 0x00, 0x00, 0x00, 0x00, 0x00, 0x60, 0xA1, 0x7B, 0xFB]

/-- Bytes as a slot's cells. -/
def cells (bs : List Byte) : List Host.Cell := (bs.zipIdx.filter fun e => e.1 != 0xFF).map fun e => (e.2, e.1)

/-- The start at a step with these slots. -/
def starting (phase : BitVec 4) (a : List Byte := []) (b : List Byte := []) : State :=
  { State.reset with
    start := { Start.reset with phase := phase }
    persist := { Persist.reset with slotA := cells a, slotB := cells b } }

/-! ### Slots and the session -/

/-- A slot command that runs, and whether a session is open. -/
def slotOp (op : Option SlotOp) (unlocked : Bool) : State :=
  { up im with
    loader := { Loader.reset with op := op.map fun o => (o, false) }
    session := { Session.reset with unlocked := unlocked } }

/-- An ACCEPT whose slot A holds a good image, at rest. -/
def accepting : State :=
  { slotOp (some .accept) true with
    persist := { Persist.reset with slotA := cells imageBytes }
    image := some { im with tiles := [tile 3 0 1] } }

/-- A password set, the wait and the buffer. -/
def session (wait : Nat) (buffer : List Word) : State :=
  { up im with
    persist := { Persist.reset with pwSet := true }
    session := { Session.reset with wait := wait, buffer := buffer } }

/-- A derivation that runs: of a SET or of an UNLOCK. -/
def deriving_ (set : Bool) (pw : List Byte) : State :=
  { session 0 [] with session := { Session.reset with derivation := some (set, pw) } }

/-- Key words in the session. -/
def keyed (unlocked : Bool) (n : Nat) : State :=
  { up im with session := { Session.reset with unlocked := unlocked, keyWords := [1, 2, 3, 4, 5, 6, 7, 8], keyCount := n } }

/-! ### The recorder and AON -/

/-- Records that wait in PWR's tap. -/
def taps (n : Nat) : State :=
  { up im with recorder := { Recorder.reset with
      taps := [(1, { recs := List.replicate n { dtime := 100, code := 0x0101, data := [], wall := none }, dropped := 0 })] } }

def recUp (unlocked frozen : Bool) (s : State) : State :=
  { s with session := { s.session with unlocked := unlocked }, recorder := { s.recorder with frozen := frozen } }

/-- VAULT-WATCH in the image, tamper input 0 sampled normally open. -/
def tamper (s : State) (t : Tamper) : State :=
  { (s.setReg .AON_TAMPCFG [] 1) with
    aon := { s.aon with vaultWatch := true, tampPads := 1, tampers := if t = Tamper.reset then [] else [(0, t)] } }

/-! ### Queues -/

/-- Queue 0 built with this content. -/
def queued (q : Queue) : State := { up im with fabric := { Fabric.reset with queues := [(0, some q)] } }

def route (p c : BitVec 16) : RouteRec :=
  { queue := 0, capacity := 2, producer := p, consumer := c, flag := false, cmdq := false, timeout := 0 }

/-- From the planner's events to an engine port, to the host, and from the host as a command queue. -/
def inQ : Queue := Queue.build (route 0x530 0x510)
def outQ : Queue := Queue.build { route 0x530 0xFF00 with flag := true }
def hostQ : Queue := Queue.build { route 0xFF00 0x510 with cmdq := true }

/-- A read that waits at a port. -/
def waitingAt (k : Nat) (s : State) : State := { s with fabric := { s.fabric with waiting := [k] } }

/-! ### Fusion and planners -/

/-- The full fusion engine, UNKNOWN, with its configuration. -/
def fuse (cfg : Word) : State := { up im with fusion := { Fusion.reset with stat := .unknown, cfg := cfg } }

/-- The parameters of a state are in force. -/
def inForce (s : State) : State := { s with fusion := { s.fusion with parms := s.regs } }

/-- Terminal switches at inputs 0 to 3, and a terminal position. -/
def fswitch : State := inForce (((fuse 1).setReg .MPI_FSWMAP [] 0x03020100).setReg .MPI_NTSDN [] 500)

/-- A run whose first phase has found its switch. -/
def running (r : RunKind) : State :=
  { fswitch with fusion := { fswitch.fusion with runState := { FusionRun.reset with run := r, phase := 1, edge := some 4999000, p := some 7 } } }

/-- A move command. -/
def mv : Move :=
  { tag := 0, kind := 1, blend := false, revok := false, quick := false, table := 0, arg := 5, vmax := 0, amax := 0, dmax := 0,
    jmax := 0, id := 0, fusion := false }

/-- The auxiliary planner 2. -/
def plan (f : Planner → Planner) : State := { up im with planners := [(2, f { Planner.reset with last := 1 })] }

/-- Motion table 0 of planner 2 with two knots. -/
def knots (s : State) : State := (s.setReg .MPI_PLTAB [2, 0] 0x20000).setReg .MPI_KNT [1] 100

/-- Planner 2 feeds the stepper engine 2. -/
def steps : State :=
  { plan id with image := some { im with routes := [{ route 0x051A 0x0800 with queue := 1 }] } }

/-! ### Loops, motors and doors -/

def withLoop (e : Nat) (f : Loop → Loop) (s : State) : State :=
  { s with loops := s.loops.set Loop.reset e (f (s.loops.get Loop.reset e)) }

def withMotor (m : Nat) (f : Motor → Motor) (s : State) : State :=
  { s with motors := s.motors.set Motor.reset m (f (s.motors.get Motor.reset m)) }

/-- Working copies of a loop engine. -/
def copied (xs : List (Reg × List Nat × Nat)) (l : Loop) : Loop :=
  { l with copies := xs.foldl (fun c x => c.set 0 (x.1.addr x.2.1) (BitVec.ofNat 32 x.2.2)) l.copies }

/-- HOLD of a loop engine. -/
def hold (e : Nat) (s : State) : State := s.setReg .LEHOLD [e] 1

/-- Planner 5 feeds motor engine 0 as a door, its bridge in RUN. -/
def door (f : Door → Door) : State :=
  let s := up { im with tiles := im.tiles ++ [tile 2 5 2], routes := [{ route 0x051D 0x0600 with queue := 2 }] }
  withMotor 0 (fun m => { m with bridge := .run })
    { s with doors := s.doors.set Door.reset 0 (f { Door.reset with homed := true, learned := true }) }

/-- A door with a command that runs. -/
def busyDoor (st : DoorState) (g : DoorGoal) : State :=
  door fun d => { d with stat := st, goal := g, jobs := [{ tag := 3, id := 4 }] }

/-! ### Scheduler -/

/-- An image whose scheduler has this configuration word. -/
def schIm (arg : Nat) (rs : List RouteRec := []) : Image :=
  { im with tiles := (im.tiles.filter fun t => t.kind != 5) ++ [tile 5 0 arg], routes := rs }

/-- A running scheduler that serves floors 0 and 5. -/
def sched (arg : Nat) (rs : List RouteRec := []) (f : Sched → Sched := id) : State :=
  let s := ((up (schIm arg rs)).setReg .SCH_FLVL [0] 0).setReg .SCH_FLVL [5] 400000
  { s with sched := f { Sched.reset with stat := .running } }

/-- A route to a member car's assignments. -/
def member : List RouteRec := [{ route 0x0A05 0x0A0B with queue := 3 }]

def ctx (k : CtxKind) (st : CtxState) (floor : Nat) (car : Option Nat) : Ctx :=
  { newCtx 1000 k floor car [] with stat := st }

/-- Contexts at their indexes. -/
def calls (xs : List Ctx) (x : Sched) : Sched := { x with ctxs := xs.zipIdx.map fun e => (e.2, some e.1) }

def driving (st : DriveState) (x : Sched) : Sched := { x with drive := { Drive.reset with stat := st, at_ := some 0 } }

/-- An epoch buffer without content and with a valid marker (R594). -/
def epochBuf (n : Nat) : EpochBuf :=
  let m := leBytes 4 0x434F5045 ++ leBytes 4 n ++ leBytes 4 0 ++ leBytes 4 (crc32 []).toNat ++ leBytes 12 0
  { content := [], marker := m ++ leBytes 4 (crc32 m).toNat }

/-! ### Safety inputs, outputs and fault reaction -/

def lat (f : Lattice → Lattice) (s : State := up im) : State := { s with lattice := f s.lattice }

def react (f : FaultReact → FaultReact) (s : State := up im) : State := { s with react := f s.react }

/-- Safety input 0 with its configuration word. -/
def safetyIn (cfg : Word) (f : SafetyIn → SafetyIn := id) : State :=
  lat fun l => { l with sicfg := [(0, cfg)], inputs := [(0, f SafetyIn.reset)] }

/-- Output 0. -/
def safetyOut (f : SafetyOut → SafetyOut) : State := lat fun l => { l with outs := [(0, f SafetyOut.reset)] }

/-- The running lattice with one TON cell on timer 0. -/
def timed (e : BitVec 28) : State :=
  let c : Cell := { w0 := 0, w1 := 0, w2 := 3, w3 := 1000 }
  lat fun l => { l with
    stat := .running, count := 1, master := [(0, c)]
    tru := { l.tru with cells := [(0, c)], timers := [(0, (true, e))] }
    cmp := { l.cmp with cells := [(0, c.not)], timers := [(0, (true, ~~~e))] } }

/-- ACK_IN enabled and closed. -/
def pressing (f : FaultReact → FaultReact := id) : State :=
  react (fun r => f { r with ackSeen := true, armed := true }) (lat fun l => { l with ackcfg := 0x20, ackLevel := true })

/-! ### CAN FD and network time -/

/-- Controller 0 with BUS_CANCTL and a queue. -/
def can (ctl : Word) (q : List TxEntry) (f : Can → Can := id) (s : State := up im) : State :=
  { s with cans := [(0, f { Can.reset with ctl := ctl, onBus := true, queue := q })] }

def entry (tag : BitVec 8) : TxEntry :=
  { src := .host, tag := tag, wrap := false, head := 0, rtr := false, oneshot := false, data := [], attempts := 0, cancel := false,
    tooLate := false }

/-- Buffer 0 takes every frame into its host window. -/
def hostBuf (s : State) : State := (s.setReg .BUS_RBCFG [0, 0] 1).setReg .BUS_RBMASK [0, 0] 0

/-- The time service in a role and a state. -/
def timeAt (role : Nat) (st : TimeState) (f : TimeSvc → TimeSvc := id) : State :=
  let s := can 0x11 [] id (up { im with tiles := (im.tiles.filter fun t => t.kind != 9) ++ [tile 9 0 role] })
  { s with time := f { TimeSvc.reset with stat := st } }

/-! ### Porlux, leases and epochs -/

/-- Connection 0 with BUS_PXCCFG as it stood at the start. -/
def pconn (cfg : Word) (f : Conn → Conn) (s : State := can 0x11 []) : State :=
  { s with porlux := { s.porlux with conns := [(0, f { Conn.reset with cfg := cfg })] } }

/-- A received SAFETY frame of connection 0 with a SEQ and a complement. -/
def pframe (s : State) (seq : Nat) (w : Word) : CanFrame :=
  { id := 0, ide := false, fdf := true, brs := false, rtr := false,
    data := pxFrame 5 (BitVec.ofNat 16 seq) (s.time.net s.dev) 20 0 (wordsBytes [w, 7]) }

/-- A receiving SAFETY connection in RUN whose next frame waits. -/
def received (seq : Nat) : State :=
  let s := pconn 5 (fun x => { x with state := .run })
  { s with porlux := { s.porlux with inbox := [{ frame := pframe s seq 0xFFF0000F, at_ := s.dev }] } }

/-- A role of a redundant pair. -/
def gateIm : Image := { im with tiles := im.tiles ++ [tile 0x0B 0], redundant := true }

/-- The lease gate in a state. -/
def gate (st : LeaseState) (f : Gate → Gate := id) (g : Copy → Copy := id) : State :=
  let s := up gateIm
  { s with gate := f { Gate.reset with stat := st }, copy := g s.copy }

/-- The lease issuer. -/
def issuer (f : Issuer → Issuer) (conns : Nat := 4) : State :=
  let s := can 0x11 [] id (up { im with tiles := (im.tiles.filter fun t => t.kind != 8) ++ [tile 8 0 conns, tile 0x0C 0] })
  { s with issuer := f { Issuer.reset with stat := .waiting } }

def epochRun : EpochRun := { epoch := 3, final := false, todo := [], commitAt := none, acked := false }

end Sys2Proof.Machine.Fx
end

