-- ==== Sys2Proof/Tests/States.lean ====
section
/-! SUPPORT. The states in which the witnesses find the hypotheses of the statements met. -/

namespace Sys2Proof.Machine.Fx

def lanes (l : List LaneItem) (p : Persist := Persist.reset) : State := { up im with lanes := l, persist := p }
def recving (qs : List (Nat × Option Queue)) : State := { (fig (.recv 0 1 0) (fun g => {g with stat := .waiting, waiting := .recv})) with fabric := { Fabric.reset with queues := qs } }
def lim (s : State) : State := ((((((s.setReg .MPI_PLVMAX [2] 1600000).setReg .MPI_PLAMAX [2] 8000).setReg .MPI_PLDMAX [2] 8000).setReg .MPI_PLJMAX [2] 1000).setReg .MPI_PLSOFTLO [2] (-1000000)).setReg .MPI_PLSOFTHI [2] 10000000).setReg .MPI_KNT [1] 5000
def fast : Kin := { pos := 0, vel := 100000, acc := 0 }
def cruise : List Piece := [{jerk := 0, dur := 100000, endVel := none}]
def held (e : Nat) (s : State) : State := s.setReg .LEHOLD [e] 1
def cp (xs : List (Reg × List Nat × Nat)) (l : Loop) : Loop := { l with copies := xs.foldl (fun c x => c.set 0 (x.1.addr x.2.1) (BitVec.ofNat 32 x.2.2)) l.copies }
def prop (j kp setp mn mx : Nat) : Loop → Loop := cp [(.LSCFG, [4, j], 0x10000001), (.LSKP, [4,j], kp), (.LSSETP,[4,j],setp), (.LSOUTMIN,[4,j],mn), (.LSOUTMAX,[4,j],mx)]
def offDue : Loop → Loop := cp [(.LECTL, [4], 7 * 0x10000)]
def sess (st : DoorState) : State := (door fun d => {d with stat := st, permit := true, session := true}).setReg .MC_DSTATION [0] 0x105
def nosess (st : DoorState) : State := (door fun d => {d with stat := st, permit := true}).setReg .MC_DSTATION [0] 0x105
def wq (s : State) : State := { s with fabric := { Fabric.reset with queues := [(0, some (Queue.build (route 0x604 0x515)))] } }
def inSrv (x : Sched) : Sched := { x with service := true, drive := { Drive.reset with stat := .idle, fusion := some [0,0,0,0,2,0,0,0] } }
def stn (s : State) : State := s.setReg .SCH_STN [1] 0x100
def own (rs : List RouteRec) (f : Sched → Sched) : State := sched 1 rs f
def door3 : State := 
  let s := up { (schIm 3) with tiles := (schIm 3).tiles ++ [tile 2 5 2], routes := [{ route 0x051D 0x0600 with queue := 2 }] }
  ({ s with sched := {Sched.reset with stat := .running, grants := [(5, some {live := true, remain := 2000, at_ := 4000000})] } }).setReg .MC_DSTATION [0] 0x105
def epochSt (s : State) : State := { s with gate := {s.gate with takeover := true} }
def chans (s : State) : State := (s.setReg .SFI_CTCFG [0] 0x03E80064).setReg .SFI_CTCFG [1] 0x006403E8
def noSfi : State := { up im with start := { (up im).start with rsti := [.sfi] } }
def inDisc : State := safetyIn 1 (fun x => {x with a := true, pending := some 1000})
def ref1 : List Byte := [5,0,0,1] ++ leBytes 8 123456789
def bytes64 (e : Nat) (fr tot : Nat) : List Byte := leBytes 4 e ++ leBytes 2 fr ++ leBytes 2 tot ++ leBytes 56 0
def atTempo0 : State := { tempoAt .deferred (up { im with tiles := [tile 3 0 1] }) with motors := [(0, { Motor.reset with bridge := .run })] }
def atTempo1 : State := up im
def atTempo3 : State := tempoAt .deferred (up { im with tiles := [] })
def atTempo4 : State := tempoAt .switching (up im)
def atTempo7 : State := up { im with permit := 3 }
def atTempo8 : State := quiesced [] (up im)
def atTempo9 : State := quiesced [.mpi, .mc0, .mc1, .mc2, .mc3, .sch, .seq] (up im)
def atTempo11 : State := latt (up im)
def atTempo12 : State := {up im with lattice := {(latt (up im)).lattice with stat := .reloading}}
def atTempo13 : State := quiesced [.mpi, .mc0, .mc1, .mc2, .mc3, .sch, .seq] (fig (.wait .timer 1 8 0) (fun g => {g with timers := [(1,.running 4999999)], stat := .waiting, waiting := .wait}))
def atCheck0 : State := checkAt 5 .notRun
def atCheck1 : State := {checkAt 5 .notRun with supplies := Supplies.reset}
def atCheck2 : State := checkAt 5 .waitingVfld
def atCheck3 : State := checkAt 5 .running
def atCheck6 : State := checkAt 6 .pass
def atCheck7 : State := up im
def atCheck10 : State := {up im with field := {Field.reset with shutdown := true}}
def atCheck11 : State := {State.reset with field := {Field.reset with shutdown := true}}
def atPower0 : State := up im
def atPower1 : State := State.reset
def atPower2 : State := vmainGone
def atPower3 : State := { vmainGone with supplies := { vmainGone.supplies with vbatAbsent := true }}
def atPower4 : State := {up im with supplies := {(up im).supplies with vbatAbsent := true}}
def atPower5 : State := {up im with supplies := {(up im).supplies with pfail := true}}
def atPower6 : State := quiesced [] (up im)
def atPower11 : State := hib .entering (up im)
def atPower12 : State := {hib .entering (up im) with aon := {Aon.reset with wakeWaiting := some 3}}
def atPower13 : State := hibernating
def atPower14 : State := rescue .idle
def atPower16 : State := rescue .stopping
def atPower17 : State := {rescue .stopping with planners := [(0, {Planner.reset with motion := .velocity 5 1 1 1})]}
def atPower18 : State := rescue .estimating
def atPower19 : State := { rescue .moving with rescue := {(rescue .moving).rescue with chosen := some est}}
def atPower20 : State := rescue .doors
def atPower22 : State := {rescue .moving with react := {FaultReact.reset with lockout := true}}
def atPower23 : State := estimated 0
def atPower24 : State := estimated 3
def atPower25 : State := { rescue .idle with rescue := {(rescue .idle).rescue with vbs := [5], ibs := [0]}}
def atPower26 : State := { rescue .idle with rescue := {(rescue .idle).rescue with senseOn := false, filterRunning := true, mainsOn := true}}
def atPower27 : State := { rescue .confirming with rescue := {(rescue .confirming).rescue with senseOn := false, filterRunning := true, mainsOn := true}}
def atPower28 : State := { rescue .hold with rescue := {(rescue .hold).rescue with senseOn := true, filterRunning := true, mainsOn := false}}
def atPower29 : State := { rescue .idle with rescue := {(rescue .idle).rescue with senseOn := true, mainsOn := true}}
def atPower30 : State := { up im with persist := { Persist.reset with blocks := [(3, { BlockStat.reset with quar := true })] } }
def atPower31 : State := { up im with supplies := {(up im).supplies with pfail := true}, persist := { Persist.reset with blocks := [(3, { BlockStat.reset with quar := true })] } }
def atStart0 : State := up im
def atStart1 : State := State.reset
def atStart2 : State := vmainGone
def atStart3 : State := {up im with aon := { Aon.reset with resetLow := true, holdUs := 40000000}}
def atStart4 : State := {starting 1 with aon := { Aon.reset with resetLow := true, holdUs := 40000000}}
def atStart5 : State := {starting 1 with aon := { Aon.reset with loopHeld := true}}
def atStart6 : State := {up im with aon := { Aon.reset with resetLow := true, alert := true}}
def atStart7 : State := starting 2
def atStart8 : State := {starting 2 with power := {Power.reset with railFails := 1}}
def atStart11 : State := starting 4
def atStart12 : State := starting 4 imageBytes
def atStart13 : State := starting 4 [] imageBytes
def atStart14 : State := {starting 6 with image := some im}
def atStart15 : State := {starting 7 with image := some im}
def atStart17 : State := {starting 7 with image := some im, motors := [(0, {Motor.reset with startCal := 3})]}
def atStart18 : State := starting 8
def atStart19 : State := {starting 9 with image := some im}
def atStart20 : State := {starting 9 with image := some {im with pins := []}}
def atStart22 : State := {starting 9 with image := some im, start := {Start.reset with phase := 9, cause := .wake}}
def atStart23 : State := {starting 4 with aon := {Aon.reset with timeouts := 3}}
def atSlot0 : State := { slotOp (some .deferred) true with image := some { im with tiles := [tile 3 0 1] }, motors := [(0, { Motor.reset with bridge := .run })] }
def atSlot1 : State := up im
def atSlot2 : State := slotOp none true
def atSlot4 : State := {slotOp none true with loader := {Loader.reset with window := some true}}
def atSlot8 : State := slotOp (some .erase) true
def atSlot9 : State := slotOp (some .verify) false
def atSlot10 : State := slotOp (some .copyAB) true
def atSlot11 : State := {slotOp (some .copyAB) true with persist := {Persist.reset with slotA := cells imageBytes}}
def atSlot13 : State := { accepting with motors := [(0, {Motor.reset with bridge := .run})]}
def atSlot14 : State := accepting
def atSlot16 : State := { slotOp (some .deferred) true with image := some {im with tiles := []}}
def atSlot17 : State := slotOp (some .ovlClear) true
def atSlot18 : State := session 0 []
def atSlot19 : State := session 0 [1,2,3,4]
def atSlot20 : State := session 3 [1,2,3,4]
def atSlot21 : State := {session 0 [] with session := {Session.reset with buffer := List.replicate 16 1}}
def atSlot22 : State := {session 0 [1,2,3,4] with persist := {Persist.reset with pwSet := false}}
def atSlot24 : State := deriving_ false [1]
def atSlot25 : State := deriving_ true [1]
def atSlot26 : State := {deriving_ false [1] with persist := {Persist.reset with pwSet := true, hash := derivePassword [1] []}}
def atSlot27 : State := {deriving_ true [1] with persist := Persist.reset}
def atSlot28 : State := keyed true 8
def atSlot32 : State := vmainGone
def atRec0 : State := up im
def atRec1 : State := vmainGone
def atRec2 : State := taps 1
def atRec3 : State := taps 4
def atRec4 : State := recUp true false (taps 1)
def atRec5 : State := recUp true true (taps 2)
def atRec8 : State := {up im with lanes := [.rwk 1 0]}
def atRec9 : State := {up im with lanes := [.rwk 0x10060 5]}
def atRec10 : State := {up im with lanes := [.rwk 0x10060 5, .rwk 0x10064 1], persist := {Persist.reset with rwk := [(0x10060, {value := 1, wear := 10000000000})]}}
def atRec11 : State := {up im with lanes := [.held 3 []]}
def atRec12 : State := tamper (up im) {Tamper.reset with pend := true}
def atRec13 : State := tamper (up im) Tamper.reset
def atReg0 : State := up im
def atReg2 : State := recUp true false (up im)
def atReg3 : State := vmainGone
def atQueue0 : State := queued inQ
def atQueue1 : State := queued outQ
def atQueue2 : State := queued { inQ with opened := some {start := 0, words := [1], endSeq := 0, at_ := 0, flaws := []}}
def atQueue3 : State := queued { inQ with items := [⟨0, [5], 0, 5000000, []⟩]}
def atQueue4 : State := queued { inQ with route := {inQ.route with capacity := 1}, items := [⟨0, [1,2,3,4,5,6,7,8], 0, 5000000, []⟩], wcnt := 8}
def atQueue5 : State := queued { inQ with broken := true}
def atQueue7 : State := stage (queued inQ) 0x510 [1,2]
def atQueue8 : State := stage (queued inQ) 0x510 [1]
def atQueue10 : State := stage (queued outQ) 0x10000 [1]
def atQueue11 : State := queued hostQ
def atQueue12 : State := {queued hostQ with ports := {Ports.reset with tags := 0x83}}
def atQueue13 : State := waitingAt 0x10000 (queued outQ)
def atQueue14 : State := waitingAt 0x510 (queued { inQ with items := [⟨0, [5], 0, 5000000, []⟩]})
def atQueue15 : State := recving []
def atQueue16 : State := recving [(0, some { Queue.build (route 0x530 0x0B00) with items := [⟨0, [5], 0, 5000000, []⟩]})]
def atQueue18 : State := {queued inQ with fabric := {(queued inQ).fabric with stopped := true}}
def atQueue19 : State := stage (queued outQ) 0x10000 [1,2]
def atQueue20 : State := queued { outQ with route := {outQ.route with flag := false} }
def atQueue22 : State := queued { hostQ with route := {hostQ.route with cmdq := false}, wlen := 2}
def atQueue23 : State := queued { hostQ with opened := some {start := 0, words := [1], endSeq := 0, at_ := 0, flaws := []}, hostLeft := 1, wlen := 2}
def atFuse0 : State := up im
def atFuse1 : State := fuse 0x10
def atFuse4 : State := fuse 0x1
def atFuse5 : State := fuse 0x30
def atFuse9 : State := fuse 0x140
def atFuse10 : State := {fuse 0x140 with fusion := {(fuse 0x140).fusion with pairs := [(0, {VanePair.reset with levelA := true, pend := some (true, 4999990)})]}}
def atFuse11 : State := fswitch
def atFuse12 : State := {fswitch with fusion := {fswitch.fusion with switches := [(0, {TermSwitch.reset with pending := some (true, 4999990)})]}}
def atFuse13 : State := {fswitch with fusion := {fswitch.fusion with switches := [(0, {TermSwitch.reset with pending := some (true, 4999990)})], runState := {FusionRun.reset with run := .home, phase := 1}}}
def atFuse14 : State := {fuse 1 with fusion := {(fuse 1).fusion with interval := some (0, 65536), prevCount := some 3}}
def atFuse15 : State := {fuse 0x10 with image := some {im with tiles := [tile 1 0 2]}}
def atFuse17 : State := running .learn
def atFuse18 : State := running .home
def atFuse19 : State := opened (running .learn)
def atFuse21 : State := opened fswitch
def atFuse22 : State := opened {fswitch with fusion := {fswitch.fusion with tabOk := true}}
def atFuse23 : State := opened (up im)
def atPlan0 : State := lim (plan fun x => {x with held := [{mv with arg := 300000}]})
def atPlan1 : State := lim (knots (plan fun x => {x with held := [{mv with kind := 4}]})) |> fun s => s.setReg .MPI_KNT [1] 5000
def atPlan2 : State := lim (plan fun x => {x with running := some mv, motion := .plan fast 0 100000 cruise (.arrive 300000), kin := fast})
def atPlan3 : State := lim (plan fun x => {x with running := some mv, motion := .plan fast 0 0 [] (.arrive 5), kin := fast})
def atPlan4 : State := lim (plan fun x => {x with running := some mv, motion := .plan fast 0 0 [] (.stopped 4), kin := fast})
def atPlan5 : State := lim (plan fun x => {x with running := some mv, held := [{mv with arg := 300000, blend := true}], motion := .plan fast 0 0 cruise (.arrive 5), kin := fast})
def atPlan6 : State := (knots (plan fun x => {x with running := some mv, motion := .table 7 0 0})).setReg .MPI_KNT [1] 5000
def atPlan7 : State := (knots (plan fun x => {x with running := some mv, motion := .table 7 4800 0})).setReg .MPI_KNT [1] 5000
def atPlan9 : State := up im
def atPlan11 : State := (plan id).setReg .MPI_PLSOFTLO [2] 100
def atPlan13 : State := plan fun x => {x with pwrLock := true}
def atPlan14 : State := plan fun x => {x with motion := .velocity 5 1 1 1, running := some mv, kin := {x.kin with vel := 5}}
def atPlan15 : State := plan fun x => {x with held := [{mv with kind := 3}]}
def atPlan16 : State := plan fun x => {x with motion := .dwell 5, running := some mv}
def atPlan17 : State := plan fun x => {x with motion := .arriving 5, running := some mv}
def atPlan18 : State := steps
def atPlan19 : State := {up im with fusion := {Fusion.reset with stat := .tracking}}
def atLoop0 : State := held 4 (stage (up im) 0x530 [7])
def atLoop2 : State := held 4 (up im)
def atLoop3 : State := withLoop 4 (prop 0 0x10000 5 0 100) (held 4 (stage (up im) 0x530 [7]))
def atLoop8 : State := withLoop 4 offDue (up im)
def atLoop9 : State := opened (up im)
def atLoop10 : State := held 0 (up im)
def atLoop11 : State := withMotor 0 (fun m => {m with bridge := .run}) (held 0 (up im))
def atLoop13 : State := withMotor 0 (fun m => {m with bridge := .run}) ((up im).setReg .MC_OCLIM [0] 0x7FFFFFFF)
def atLoop16 : State := withMotor 0 (fun m => {m with bridge := .align}) (up im)
def atLoop18 : State := withMotor 0 (fun m => {m with bridge := .fault, oc := true}) (up im)
def atLoop20 : State := withMotor 0 (fun m => {m with bridge := .idle, calst := 1}) (up im)
def atLoop22 : State := withMotor 0 (fun m => {m with bridge := .idle, calst := 1, startCal := 1}) (up im)
def atLoop23 : State := withMotor 0 (fun m => {m with bridge := .idle, calst := 1, startCal := 2}) (up im)
def atLoop26 : State := withMotor 2 (fun m => {m with bridge := .idle}) (held 2 (up im))
def atDoor0 : State := sess .closed
def atDoor1 : State := sess .stopped
def atDoor2 : State := nosess .open_
def atDoor4 : State := door (fun d => {d with stat := .open_})
def atDoor6 : State := door (fun d => {d with stat := .opening, goal := .travel})
def atDoor8 : State := door (fun d => {d with stat := .closed, permit := true})
def atDoor9 : State := door (fun d => {d with stat := .closed, permit := false})
def atDoor10 : State := door (fun d => {d with stat := .unhomed, homed := false})
def atDoor11 : State := door (fun d => {d with stat := .open_, edge := true})
def atDoor13 : State := door (fun d => {d with stale := true, closePend := some true})
def atDoor16 : State := busyDoor .opening .travel
def atDoor17 : State := door (fun d => {d with stat := .closing, goal := .close, map := 0x3FFC4FFF, closeLim := true})
def atDoor19 : State := withMotor 0 (fun m => {m with fbpos := 500000}) (door (fun d => {d with stat := .closing, completed := true, jobs := [{tag:=1,id:=2}], goal := .close}))
def atDoor20 : State := busyDoor .homing .home
def atDoor23 : State := (((door (fun d => {d with stat := .closing, edge := true, permit := true, goal := .close})).setReg .MC_DEORUN [0] 5).setReg .MC_DCOUPLEPOS [0] 0).setReg .MC_DOBSRUN [0] 5 |> hold 0
def atDoor25 : State := wq ((((door (fun d => {d with stat := .closing, edge := true, permit := true, goal := .close})).setReg .MC_DEORUN [0] 5).setReg .MC_DCOUPLEPOS [0] 0).setReg .MC_DOBSRUN [0] 5 |> hold 0)
def atSched0 : State := own [] id
def atSched1 : State := own [] (calls [ctx .hallUp .registered 0 none, ctx .hallDn .serving 5 (some 0)])
def atSched4 : State := sched 0x202 [] id
def atSched5 : State := sched 1 member id
def atSched6 : State := sched 3 [] id
def atSched7 : State := own [] (fun x => {x with stat := .standby})
def atSched8 : State := own [] (fun x => {x with stat := .off})
def atSched10 : State := stn (own [] inSrv)
def atSched11 : State := stn (own [] (fun x => calls [{ctx .session .live 0 (some 0) with station := 1, token := 1, expiry := 9000000}] x))
def atSched12 : State := stn (own [] (fun x => calls [{ctx .session .registered 0 (some 0) with station := 1, token := 1}] x))
def atSched13 : State := stn (own [] (fun x => calls [{ctx .session .live 0 (some 0) with station := 1, token := 5}] x))
def atSched14 : State := door3
def atSched15 : State := sched 1 member (fun x => driving .moving (calls [{ctx .session .live 0 (some 0) with group := some 1}] x))
def atSched16 : State := sched 1 member (fun x => driving .moving (calls [{ctx .hallUp .assigned 0 (some 0) with group := some 1}] x))
def atSched17 : State := sched 1 member (fun x => driving .moving (calls [{ctx .hallUp .committed 0 (some 0) with group := some 1}] x))
def atSched19 : State := own [] (fun x => driving .atFloor (calls [{ctx .session .live 0 (some 0) with station := 1, token := 5}] x))
def atSched21 : State := own [] (fun x => {x with run := 2})
def atSched22 : State := own [] (fun x => {x with stat := .resync, resyncLeft := true})
def atSched24 : State := epochSt (sched 0x202 [] id)
def atSched25 : State := (let s := epochSt (own [] id); {s with persist := {s.persist with epochs := [(0, some (epochBuf 3))]}})
def atSched28 : State := sched 0x202 [] (calls [ctx .hallUp .registered 0 none])
def atSched29 : State := own [] (fun x => { driving .atFloor x with drive := { (driving .atFloor x).drive with doorRem := 9 } })
def atFig0 : State := fig .nop
def atFig1 : State := fig (.ldi 3 0x400000)
def atFig3 : State := fig (.ldw 2 5)
def atFig4 : State := fig (.mov 3 1)
def atFig5 : State := fig (.add 0 0 1)
def atFig6 : State := fig (.sub 3 2 0)
def atFig7 : State := fig (.addi 3 2 0x4000)
def atFig8 : State := fig (.and 3 1 2)
def atFig9 : State := fig (.or 3 1 2)
def atFig10 : State := fig (.xor 3 1 2)
def atFig11 : State := fig (.shl 3 1 3)
def atFig12 : State := fig (.shr 3 2 true 3)
def atFig13 : State := fig (.shr 3 2 false 3)
def atFig14 : State := fig (.br 0 1 2 3)
def atFig15 : State := fig (.bri 0 1 3 3)
def atFig16 : State := fig (.jmp 3)
def atFig17 : State := fig (.call 3)
def atFig18 : State := fig (.ret)
def atFig19 : State := fig (.end_ 3)
def atFig20 : State := fig (.rdreg 0 0x0C4000)
def atFig21 : State := fig (.wrreg 0 0x40000)
def atFig22 : State := fig (.post 1 2 3)
def atFig23 : State := fig (.recv 1 2 0)
def atFig25 : State := fig (.move 1 2 3 true true true false 3)
def atFig26 : State := fig (.wait .evAny 1 8 0)
def atFig30 : State := fig (.tset 1 0 false 0 3)
def atFig32 : State := fig (.raise 1 0x80)
def atFig34 : State := fig (.sig 1 3)
def atFig35 : State := fig (.outl 3 true)
def atFig36 : State := fig (.inl 3 0)
def atFig37 : State := fig (.devt 3)
def atFig38 : State := fig (.trd 3 1)
def atFig39 : State := fig (.call 3) (fun g => {g with stack := [1,2,3,4,5,6,7,8]})
def atFig40 : State := fig .ret (fun g => {g with stack := []})
def atFig41 : State := fig (.trd 3 1) (fun g => {g with timers := [(1, .running 5000100)]})
def atFig42 : State := fig .nop (fun g => {g with since := 99999999})
def atFig44 : State := fig .nop (fun g => {g with stat := .fault})
def atFig45 : State := fig (.end_ 3) (fun g => {g with stat := .aborting})
def atFig46 : State := stage (fig (.recv 1 2 0)) 0xB01 [7]
def atFig47 : State := fig (.wait .evAny 1 8 0) (fun g => {g with flags := 3})
def atFig48 : State := fig (.wait .evAny 1 8 0) (fun g => {g with flags := 3, stat := .waiting, waiting := .wait})
def atFig49 : State := fig (.wait .in1 1 1 0) (fun g => {g with timers := [(1,.running 5000100)], stat := .waiting, waiting := .wait})
def atFig51 : State := stage (fig (.rdreg 0 0x0C4000) (fun g => {g with stat := .waiting, waiting := .reg})) 0xBC5 [0, 7]
def atFig53 : State := stage (fig .nop) 0x5F8 [1, 0x0C4000, 0]
def atFig54 : State := stage (fig .nop) 0x5F8 [1, 0x80010, 0]
def atFig55 : State := stage (fig (.wait .qready 1 8 0)) 0xB01 [7]
def atFig56 : State := stage (fig .nop) 0x3F8 [2, 0x42004, 5]
def atFig59 : State := (fig (.nop)).setReg .SEQ_FCFG [0] 0x10000003
def atFig60 : State := { fig (.flush 1 false) with fabric := {Fabric.reset with queues := [(0, some (Queue.build (route 0x530 0xB01)))]}}
def atSafe0 : State := opened { latt (up { im with tiles := [tile 3 0 1] }) with motors := [(0, { Motor.reset with bridge := .run })] }
def atSafe1 : State := { react (fun r => {r with testStat := 2, testRun := 1, testPend := 1}) (up { im with tiles := [tile 3 0 1] }) with motors := [(0, { Motor.reset with bridge := .run })] }
def atSafe2 : State := opened (latt (up {im with tiles := []}))
def atSafe3 : State := opened (lat (fun l => {l with stat := .running, outs := [(0, {SafetyOut.reset with on := true})]}) (up im))
def atSafe4 : State := opened (react (fun r => {r with testStat := 2, testRun := 1}))
def atSafe5 : State := react (fun r => {r with testStat := 2, testRun := 1, testPend := 1}) (safetyOut (fun o => {o with hsCmd := true, lsCmd := true, on := true}))
def atSafe6 : State := react (fun r => {r with testing := [(0, 1, 7)]})
def atSafe9 : State := noSfi
def atSafe10 : State := lat (fun l => {l with stat := .running, unapplied := false, count := 1, master := [(0, {w0:=0,w1:=0,w2:=0,w3:=0})], tru := {l.tru with cells := [(0, {w0:=0,w1:=0,w2:=0,w3:=0})]}, cmp := {l.cmp with cells := [(0, {w0:=0,w1:=0,w2:=0,w3:=0})]}})
def atSafe13 : State := timed 999
def atSafe15 : State := lat (fun l => {l with stat := .deferred, reloadReq := true}) (up {im with tiles := []})
def atSafe17 : State := lat (fun l => {l with stat := .reloading, reloadFrom := .started, master := [(0, {w0:=1,w1:=2,w2:=3,w3:=4})]})
def atSafe19 : State := safetyIn 3
def atSafe20 : State := safetyIn 1
def atSafe21 : State := inDisc
def atSafe22 : State := (safetyIn 3 (fun x => {x with a := true})).setReg .SFI_LEPCFG [0] 1
def atSafe25 : State := chans (lat (fun l => {l with taps := [(0, {level := true, mv := 0, noted := []})]}))
def atSafe26 : State := pressing
def atSafe28 : State := lat (fun l => {l with ackShort := true}) pressing
def atSafe29 : State := { pressing with fusion := { pressing.fusion with degStat := 1 } }
def atSafe30 : State := { pressing with fusion := { pressing.fusion with degStat := 2 } }
def atSafe32 : State := react (fun r => {r with testing := [(2, 0, 7)]})
def atSafe36 : State := react (fun r => {r with testStat := 1, testPend := 3}) (up {im with tiles := []})
def atCan0 : State := can 1 []
def atCan2 : State := can 2 []
def atCan3 : State := can 3 [entry 0]
def atCan4 : State := can 1 [entry 1]
def atCan6 : State := can 1 [{entry 1 with cancel := true}]
def atCan8 : State := stage (can 1 []) 0xCC0 [1, 0x00050002, 0x01020304]
def atCan10 : State := hostBuf (can 1 [])
def atCan12 : State := hostBuf (can 1 [] fun c => {c with bufs := [(0, {RxBuf.reset with lock := true})]})
def atCan13 : State := hostBuf (can 1 [] fun c => {c with bufs := [(0, {RxBuf.reset with lock := true, pending := some [1,2]})]})
def atCan14 : State := can 1 [] (fun c => {c with tec := 250})
def atCan16 : State := can 1 [] (fun c => {c with estate := 2})
def atCan17 : State := can 1 [] (fun c => {c with onBus := false, tec := 200})
def atCan20 : State := timeAt 1 .master
def atCan21 : State := { timeAt 1 .master with cans := (can 1 []).cans }
def atCan22 : State := timeAt 2 .unsync (fun t => {t with inbox := [(ref1, 5000)]})
def atCan23 : State := timeAt 2 .unsync (fun t => {t with inbox := [(ref1, 5000)], prev := some (4, 4000)})
def atCan24 : State := timeAt 2 .locked
def atCan25 : State := timeAt 2 .holdover
def atCan27 : State := up {im with tiles := []}
def atLease0 : State := opened { gate .active with image := some { gateIm with tiles := [tile 0x0B 0, tile 3 0 1] }, motors := [(0, { Motor.reset with bridge := .run })] }
def atLease1 : State := opened (quiesced [.bus] (issuer id))
def atLease2 : State := opened (gate .active)
def atLease3 : State := opened (gate .active (fun g => {g with hstate := .finalEpoch}))
def atLease4 : State := opened (issuer (fun x => {x with holder := some true, stat := .holding}))
def atLease5 : State := opened (issuer id)
def atLease7 : State := (let s := gate .active id (fun c => {c with linkOk := true, peerEligible := true}); opened {s with image := some {gateIm with tiles := [tile 0x0B 0]}})
def atLease10 : State := pconn 0x40000005 (fun x => {x with state := .sending})
def atLease12 : State := stage (pconn 0x50080005 (fun x => {x with state := .sending, built := true, lastSeq := 8})) 0xCD8 [9]
def atLease13 : State := pconn 0x50040005 (fun x => {x with state := .sending, built := true, lastSeq := 8})
def atLease14 : State := received 1
def atLease15 : State := received 0
def atLease19 : State := gate .seeking
def atLease20 : State := gate .standby
def atLease21 : State := gate .active (fun g => {g with high := 2, seen := true})
def atLease25 : State := issuer (fun x => {x with holder := some true, stat := .holding}) 0
def atLease27 : State := pconn 0x60100005 (fun x => {x with state := .sending}) (issuer (fun x => {x with holder := some true, stat := .holding}) 1)
def atLease28 : State := issuer (fun x => {x with repA := some {word0 := 8, held := 0, epoch := 0, at_ := 4999999}})
def atLease29 : State := gate .active id (fun c => {c with run := some epochRun})
def atLease30 : State := gate .standby id (fun c => {c with linkOk := true, frames := [bytes64 3 0 4]})
def atLease31 : State := gate .active id (fun c => {c with linkOk := true, copy := .fresh, run := some epochRun, acks := [leBytes 4 3 ++ [0, 1,0,0]]})
def atLease32 : State := gate .active id (fun c => {c with linkOk := true, run := some epochRun, acks := [leBytes 4 3 ++ [1, 1,0,0]]})
def atLease33 : State := gate .active id (fun c => {c with linkAt := some 4999999})
def atLease34 : State := gate .active id (fun c => {c with ready := some (epochBuf 3, true), linkOk := true})

end Sys2Proof.Machine.Fx
end

