-- ==== Sys2Proof/Tests/Witnesses.lean ====
section
/-! SUPPORT. For each statement with hypotheses, a theorem that meets the hypotheses of each of its clauses with a state and
operands. -/

namespace Sys2Proof.Machine.Fx

set_option Elab.async false

theorem witness_TempoRequestIsAnswered :
    (((Reg.QF_QCFG : Reg).addr ([] : List Nat) ≠ Reg.SYS_TEMPO.addr [])) ∧
    ((atTempo4.tempo.stat = TempoStat.switching ∨ atTempo4.quarantined 3 = true)) ∧
    ((atTempo0.quarantined 3 = false) ∧
      (atTempo0.tempo.stat ≠ TempoStat.switching) ∧
      (getBits 0x00000110#32 5 4 = atTempo0.tempo.mode.toNat)) ∧
    ((atTempo0.quarantined 3 = false) ∧
      (atTempo0.tempo.stat ≠ TempoStat.switching) ∧
      (getBits 0x00000130#32 5 4 = 3) ∧
      (getBits 0x00000130#32 5 4 ≠ atTempo0.tempo.mode.toNat)) ∧
    ((atTempo7.quarantined 3 = false) ∧
      (atTempo7.tempo.stat ≠ TempoStat.switching) ∧
      (atTempo7.permits (getBits 0x00000120#32 5 4) = false) ∧
      (getBits 0x00000120#32 5 4 ≠ 3) ∧
      (getBits 0x00000120#32 5 4 ≠ atTempo7.tempo.mode.toNat)) ∧
    ((atTempo0.quarantined 3 = false) ∧
      (atTempo0.tempo.stat ≠ TempoStat.switching) ∧
      (atTempo0.permits (getBits 0x00000000#32 5 4) = true) ∧
      (getBits 0x00000000#32 5 4 ≠ 3) ∧
      (getBits 0x00000000#32 5 4 ≠ atTempo0.tempo.mode.toNat)) := by
  and_intros
  all_goals decide +kernel

theorem witness_TempoSwitchRuns :
    ((atTempo3.restReason = 0) ∧
      (atTempo3.quarantined 3 = false) ∧
      (atTempo3.tempo.stat = TempoStat.deferred)) ∧
    ((atTempo0.restReason ≠ 0) ∧
      (atTempo0.quarantined 3 = false) ∧
      (atTempo0.tempo.stat = TempoStat.deferred)) ∧
    ((atTempo1.tempo.stat ≠ TempoStat.deferred ∨ atTempo1.quarantined 3 = true)) ∧
    ((atTempo8.tempo.quiesce = true) ∧
      (¬(Island.mpi : Island) ∈ atTempo8.tempo.qack) ∧
      ((Island.mpi : Island) ∈ [Island.mpi, Island.mc0, Island.mc1, Island.mc2, Island.mc3, Island.sch, Island.seq]) ∧
      (atTempo8.power.gate.getLsbD (islandNum (Island.mpi : Island)) = true)) ∧
    ((atTempo0.tempo.quiesce = false ∨ atTempo0.power.gate.getLsbD (islandNum (Island.pwr : Island)) = false ∨ ¬(Island.pwr : Island) ∈ [Island.mpi, Island.mc0, Island.mc1, Island.mc2, Island.mc3, Island.sch, Island.seq] ∨ (Island.pwr : Island) ∈ atTempo0.tempo.qack)) ∧
    ((atTempo9.fabric.stopped = false) ∧
      (atTempo9.allQuiet = true) ∧
      (atTempo9.tempo.stat = TempoStat.switching) ∧
      (0 < 4)) ∧
    ((∀ (f : Nat), f < 4 → (atTempo9.fc.fig f).waiting ≠ FigWait.wait ∧ (atTempo9.fc.fig f).waiting ≠ FigWait.recv) ∧
      (atTempo9.noneWaits [1536, 1792, 2048, 2304]) ∧
      (atTempo9.supplies.pfailHeld = []) ∧
      (atTempo9.allQuiet = true) ∧
      (atTempo9.tempo.stat = TempoStat.switching)) ∧
    ((atTempo13.start.rsti = []) ∧
      (atTempo13.power.gate.getLsbD 11 = true) ∧
      (atTempo13.supplies.pfailHeld = []) ∧
      (atTempo13.allQuiet = true) ∧
      (atTempo13.tempo.stat = TempoStat.switching) ∧
      ((atTempo13.fc.fig 0).waiting = FigWait.wait) ∧
      (atTempo13.quarantined (6 + 0) = false) ∧
      (atTempo13.figTile 0 = true) ∧
      ((WaitKind.timer : WaitKind) = WaitKind.timer) ∧
      (((atTempo13.fc.fig 0).timer ((0x01#8 : BitVec 8).toNat % 8)).done atTempo13.dev = true) ∧
      ((atTempo13.fc.fig 0).step = some (FigStep.wait (WaitKind.timer : WaitKind) 0x01#8 0x8#4 0x000#12))) ∧
    ((atTempo0.tempo.stat ≠ TempoStat.switching ∨ atTempo0.allQuiet = false)) ∧
    ((atTempo11.lattice.stat ≠ LatState.reloading) ∧
      (atTempo11.latticeRuns = true) ∧
      (499200 < 0 ∨ 0 < 460800)) ∧
    ((atTempo12.lattice.stat = LatState.reloading) ∧
      (atTempo12.latticeRuns = true) ∧
      (499200 < 0 ∨ 0 < 460800)) ∧
    ((atTempo11.latticeRuns = true) ∧
      (460800 ≤ 499200) ∧
      (460800 ≤ 460800)) ∧
    ((atTempo0.latticeRuns = false)) := by
  and_intros
  all_goals decide +kernel

theorem witness_ResistorCheckDecidesTheStart :
    ((atCheck0.field.shutdown = false) ∧
      (atCheck0.supplies.vfldOk = true) ∧
      (atCheck0.defres.stat = DrcStat.notRun ∨ atCheck0.defres.stat = DrcStat.waitingVfld) ∧
      (atCheck0.start.phase = 5)) ∧
    ((atCheck1.supplies.vfldOk = false ∨ atCheck1.field.shutdown = true) ∧
      (atCheck1.defres.stat = DrcStat.notRun ∨ atCheck1.defres.stat = DrcStat.waitingVfld) ∧
      (atCheck1.start.phase = 5)) ∧
    ((atCheck6.start.phase ≠ 5)) ∧
    ((atCheck2.defres.waitNoted = false) ∧
      (atCheck2.defres.stat = DrcStat.waitingVfld)) ∧
    ((atCheck0.defres.stat ≠ DrcStat.waitingVfld ∨ atCheck0.defres.waitNoted = true)) ∧
    ((atCheck3.defres.stat = DrcStat.running) ∧
      (atCheck3.image = some ({ role := Role.machine, tempo := 0x1#2, permit := 0x7#3, redundant := false, nodeId := 0x00000007#32, setId := 0x00000009#32, crc := 0x00001234#32, pins := [{ pad := 3, func := 0x00#8, decl := 0x01#8, arg := 0x00000000#32 }], tiles := [{ kind := 0x01#8, index := 0, arg := 0x00000001#32 }, { kind := 0x02#8, index := 0, arg := 0x00000001#32 }, { kind := 0x02#8, index := 1, arg := 0x00000002#32 }, { kind := 0x02#8, index := 2, arg := 0x00000003#32 }, { kind := 0x03#8, index := 0, arg := 0x00000001#32 }, { kind := 0x03#8, index := 1, arg := 0x00000001#32 }, { kind := 0x03#8, index := 2, arg := 0x00000002#32 }, { kind := 0x04#8, index := 4, arg := 0x00000000#32 }, { kind := 0x05#8, index := 0, arg := 0x00000001#32 }, { kind := 0x06#8, index := 0, arg := 0x00000000#32 }, { kind := 0x06#8, index := 1, arg := 0x00000000#32 }, { kind := 0x07#8, index := 0, arg := 0x00000000#32 }, { kind := 0x07#8, index := 1, arg := 0x00000000#32 }, { kind := 0x08#8, index := 0, arg := 0x00000004#32 }, { kind := 0x09#8, index := 0, arg := 0x00000001#32 }], routes := [], lattice := [], params := [], expose := [], figures := [] } : Image)) ∧
      (∀ (p : PinRec), p ∈ ({ role := Role.machine, tempo := 0x1#2, permit := 0x7#3, redundant := false, nodeId := 0x00000007#32, setId := 0x00000009#32, crc := 0x00001234#32, pins := [{ pad := 3, func := 0x00#8, decl := 0x01#8, arg := 0x00000000#32 }], tiles := [{ kind := 0x01#8, index := 0, arg := 0x00000001#32 }, { kind := 0x02#8, index := 0, arg := 0x00000001#32 }, { kind := 0x02#8, index := 1, arg := 0x00000002#32 }, { kind := 0x02#8, index := 2, arg := 0x00000003#32 }, { kind := 0x03#8, index := 0, arg := 0x00000001#32 }, { kind := 0x03#8, index := 1, arg := 0x00000001#32 }, { kind := 0x03#8, index := 2, arg := 0x00000002#32 }, { kind := 0x04#8, index := 4, arg := 0x00000000#32 }, { kind := 0x05#8, index := 0, arg := 0x00000001#32 }, { kind := 0x06#8, index := 0, arg := 0x00000000#32 }, { kind := 0x06#8, index := 1, arg := 0x00000000#32 }, { kind := 0x07#8, index := 0, arg := 0x00000000#32 }, { kind := 0x07#8, index := 1, arg := 0x00000000#32 }, { kind := 0x08#8, index := 0, arg := 0x00000004#32 }, { kind := 0x09#8, index := 0, arg := 0x00000001#32 }], routes := [], lattice := [], params := [], expose := [], figures := [] } : Image).checkedPads → (classifyPad (readingOf ([{ pad := 3, voc := 1500, vh := 1300, vl := 1400 }] : List PadReading) p.pad)).fst = p.declared)) ∧
    ((atCheck3.defres.stat = DrcStat.running) ∧
      (atCheck3.image = some ({ role := Role.machine, tempo := 0x1#2, permit := 0x7#3, redundant := false, nodeId := 0x00000007#32, setId := 0x00000009#32, crc := 0x00001234#32, pins := [{ pad := 3, func := 0x00#8, decl := 0x01#8, arg := 0x00000000#32 }], tiles := [{ kind := 0x01#8, index := 0, arg := 0x00000001#32 }, { kind := 0x02#8, index := 0, arg := 0x00000001#32 }, { kind := 0x02#8, index := 1, arg := 0x00000002#32 }, { kind := 0x02#8, index := 2, arg := 0x00000003#32 }, { kind := 0x03#8, index := 0, arg := 0x00000001#32 }, { kind := 0x03#8, index := 1, arg := 0x00000001#32 }, { kind := 0x03#8, index := 2, arg := 0x00000002#32 }, { kind := 0x04#8, index := 4, arg := 0x00000000#32 }, { kind := 0x05#8, index := 0, arg := 0x00000001#32 }, { kind := 0x06#8, index := 0, arg := 0x00000000#32 }, { kind := 0x06#8, index := 1, arg := 0x00000000#32 }, { kind := 0x07#8, index := 0, arg := 0x00000000#32 }, { kind := 0x07#8, index := 1, arg := 0x00000000#32 }, { kind := 0x08#8, index := 0, arg := 0x00000004#32 }, { kind := 0x09#8, index := 0, arg := 0x00000001#32 }], routes := [], lattice := [], params := [], expose := [], figures := [] } : Image)) ∧
      (List.filter (fun p => (classifyPad (readingOf ([] : List PadReading) p.pad)).fst != p.declared) ({ role := Role.machine, tempo := 0x1#2, permit := 0x7#3, redundant := false, nodeId := 0x00000007#32, setId := 0x00000009#32, crc := 0x00001234#32, pins := [{ pad := 3, func := 0x00#8, decl := 0x01#8, arg := 0x00000000#32 }], tiles := [{ kind := 0x01#8, index := 0, arg := 0x00000001#32 }, { kind := 0x02#8, index := 0, arg := 0x00000001#32 }, { kind := 0x02#8, index := 1, arg := 0x00000002#32 }, { kind := 0x02#8, index := 2, arg := 0x00000003#32 }, { kind := 0x03#8, index := 0, arg := 0x00000001#32 }, { kind := 0x03#8, index := 1, arg := 0x00000001#32 }, { kind := 0x03#8, index := 2, arg := 0x00000002#32 }, { kind := 0x04#8, index := 4, arg := 0x00000000#32 }, { kind := 0x05#8, index := 0, arg := 0x00000001#32 }, { kind := 0x06#8, index := 0, arg := 0x00000000#32 }, { kind := 0x06#8, index := 1, arg := 0x00000000#32 }, { kind := 0x07#8, index := 0, arg := 0x00000000#32 }, { kind := 0x07#8, index := 1, arg := 0x00000000#32 }, { kind := 0x08#8, index := 0, arg := 0x00000004#32 }, { kind := 0x09#8, index := 0, arg := 0x00000001#32 }], routes := [], lattice := [], params := [], expose := [], figures := [] } : Image).checkedPads = ({ pad := 3, func := 0x00#8, decl := 0x01#8, arg := 0x00000000#32 } : PinRec) :: (List.filter (fun p => (classifyPad (readingOf ([] : List PadReading) p.pad)).fst != p.declared) ({ role := Role.machine, tempo := 0x1#2, permit := 0x7#3, redundant := false, nodeId := 0x00000007#32, setId := 0x00000009#32, crc := 0x00001234#32, pins := [{ pad := 3, func := 0x00#8, decl := 0x01#8, arg := 0x00000000#32 }], tiles := [{ kind := 0x01#8, index := 0, arg := 0x00000001#32 }, { kind := 0x02#8, index := 0, arg := 0x00000001#32 }, { kind := 0x02#8, index := 1, arg := 0x00000002#32 }, { kind := 0x02#8, index := 2, arg := 0x00000003#32 }, { kind := 0x03#8, index := 0, arg := 0x00000001#32 }, { kind := 0x03#8, index := 1, arg := 0x00000001#32 }, { kind := 0x03#8, index := 2, arg := 0x00000002#32 }, { kind := 0x04#8, index := 4, arg := 0x00000000#32 }, { kind := 0x05#8, index := 0, arg := 0x00000001#32 }, { kind := 0x06#8, index := 0, arg := 0x00000000#32 }, { kind := 0x06#8, index := 1, arg := 0x00000000#32 }, { kind := 0x07#8, index := 0, arg := 0x00000000#32 }, { kind := 0x07#8, index := 1, arg := 0x00000000#32 }, { kind := 0x08#8, index := 0, arg := 0x00000004#32 }, { kind := 0x09#8, index := 0, arg := 0x00000001#32 }], routes := [], lattice := [], params := [], expose := [], figures := [] } : Image).checkedPads).tail)) := by
  and_intros
  all_goals decide +kernel

theorem witness_FieldDieProtectsItself :
    ((atCheck7.sfiUp = true) ∧
      (1 ≠ 0)) ∧
    ((atCheck7.sfiUp = true) ∧
      ((atCheck7.lattice.outs.get SafetyOut.reset 0).sof = false)) ∧
    ((atCheck7.sfiUp = true) ∧
      (atCheck7.field.shutdown = false)) ∧
    ((atCheck0.sfiUp = false) ∧
      (atCheck0.field.shutdown = false)) ∧
    ((atCheck10.field.shutdown = true)) ∧
    ((atCheck11.sfiUp = false) ∧
      (atCheck11.field.shutdown = true)) := by
  and_intros
  all_goals decide +kernel

theorem witness_SupplyEventsMoveThePowerState :
    ((atPower0.supplies.vbatAbsent = false) ∧
      (atPower0.supplies.vmainOk = true)) ∧
    ((atPower4.supplies.vbatAbsent = true) ∧
      (atPower4.supplies.vmainOk = true)) ∧
    ((atPower2.aon.mgtUp = false) ∧
      (atPower2.power.state = PowerState.vaultWatch) ∧
      (atPower2.supplies.vmainOk = false)) ∧
    ((atPower2.supplies.vbatAbsent = false) ∧
      (atPower2.supplies.vmainOk = false)) ∧
    ((atPower3.supplies.vbatAbsent = true) ∧
      (atPower3.supplies.vmainOk = false)) ∧
    ((atPower0.quarantined 3 = false) ∧
      (atPower0.start.phase ≠ 1) ∧
      (atPower0.supplies.vmainOk = true)) := by
  and_intros
  all_goals decide +kernel

theorem witness_SupplyWarningsAreHandled :
    ((atPower0.aon.mgtUp = true) ∧
      (atPower0.quarantined 3 = false) ∧
      (atPower0.tempo.stat ≠ TempoStat.switching) ∧
      (atPower0.supplies.pfail = false) ∧
      (atPower0.supplies.vmainOk = true)) ∧
    ((atPower6.tempo.stat = TempoStat.switching) ∧
      (atPower6.supplies.pfail = false) ∧
      (atPower6.supplies.vmainOk = true)) ∧
    ((atPower2.supplies.vmainOk = false ∨ atPower2.supplies.pfail = true)) ∧
    ((atPower30.quarantined 3 = true) ∧
      (atPower30.tempo.stat ≠ TempoStat.switching) ∧
      (atPower30.supplies.pfail = false) ∧
      (atPower30.supplies.vmainOk = true)) ∧
    ((atPower31.quarantined 3 = true) ∧
      (atPower31.tempo.stat ≠ TempoStat.switching) ∧
      (atPower31.supplies.pfail = true) ∧
      (atPower31.supplies.vmainOk = true)) ∧
    ((atPower5.quarantined 3 = false) ∧
      (atPower5.tempo.stat ≠ TempoStat.switching) ∧
      (atPower5.supplies.pfail = true) ∧
      (atPower5.supplies.vmainOk = true)) ∧
    ((atPower13.power.state = PowerState.hibernate) ∧
      (atPower13.supplies.vfldOk = true)) ∧
    ((atPower0.sfiUp = true) ∧
      (atPower0.power.state ≠ PowerState.hibernate) ∧
      (atPower0.supplies.vfldOk = true)) ∧
    ((atPower0.start.phase ≠ 1) ∧
      (atPower0.supplies.vmainOk = true) ∧
      (atPower0.power.state ≠ PowerState.hibernate) ∧
      (atPower0.supplies.vfldOk = true)) ∧
    ((atPower1.sfiUp = false) ∧
      (atPower1.start.phase ≠ 1) ∧
      (atPower1.supplies.vfldOk = false) ∧
      (atPower1.supplies.vmainOk = true)) := by
  and_intros
  all_goals decide +kernel

theorem witness_HibernateIsEnteredAndLeft :
    ((atPower0.hibReason = 0) ∧
      (atPower0.power.hib ≠ HibState.entering) ∧
      (atPower0.quarantined 3 = false) ∧
      (atPower0.power.state = PowerState.run)) ∧
    ((atPower17.hibReason ≠ 0) ∧
      (atPower17.power.hib ≠ HibState.entering) ∧
      (atPower17.quarantined 3 = false) ∧
      (atPower17.power.state = PowerState.run)) ∧
    ((atPower1.power.state ≠ PowerState.run ∨ atPower1.quarantined 3 = true ∨ atPower1.power.hib = HibState.entering)) ∧
    ((atPower11.aon.wakeWaiting = none) ∧
      (atPower11.power.hib = HibState.entering) ∧
      (atPower11.power.state = PowerState.run)) ∧
    ((atPower12.power.hib = HibState.entering) ∧
      (atPower12.power.state = PowerState.run) ∧
      (atPower12.aon.wakeWaiting = some 0x3#4)) ∧
    ((atPower0.power.state ≠ PowerState.run ∨ atPower0.power.hib ≠ HibState.entering)) ∧
    ((atPower13.power.state = PowerState.hibernate) ∧
      (1 = 9 ∨ 1 ≠ 0 ∧ testBit atPower13.PWR_WAKEEN_EN (1 - 1) = true ∧ (1 = 5 → atPower13.wakeInput = some (false : Bool)))) ∧
    ((0 ≠ 9) ∧
      (0 = 0 ∨ testBit atPower0.PWR_WAKEEN_EN (0 - 1) = false ∨ 0 = 5 ∧ atPower0.wakeInput ≠ some (false : Bool))) := by
  and_intros
  all_goals decide +kernel

theorem witness_BatteryAndMainsAreFollowed :
    ((({ words := [0x00000001#32], poison := false } : Item).poison = true ∨ ({ words := [0x00000001#32], poison := false } : Item).words.length ≠ 2)) ∧
    ((atPower14.react.lockout = false) ∧
      (atPower14.noneWaits [256, 257, 259, 261, 263]) ∧
      (atPower14.rescueExists = true) ∧
      (atPower14.quarantined 3 = false)) ∧
    ((atPower0.react.lockout = false) ∧
      (atPower0.noneWaits [256, 257, 259, 261, 263]) ∧
      (atPower0.rescueExists = false)) ∧
    ((absInt atPower25.rescue.iavg ≤ ↑atPower25.PWR_RESITAPER) ∧
      (↑atPower25.PWR_RESVFULL ≤ atPower25.rescue.vavg) ∧
      (atPower25.rescueExists = true) ∧
      (atPower25.quarantined 3 = false)) ∧
    ((atPower0.quarantined 3 = false) ∧
      (atPower0.rescue.senseOn ≠ (false : Bool)) ∧
      (atPower0.mainsLevel = some ((true : Bool) == (false : Bool)))) ∧
    ((atPower29.holdsLease = true) ∧
      (atPower29.rescue.mainsOn = true) ∧
      (atPower29.rescue.stat = RescueState.idle) ∧
      (atPower29.quarantined 3 = false) ∧
      ((false : Bool) = false) ∧
      (atPower29.rescue.senseOn ≠ (false : Bool)) ∧
      (atPower29.mainsLevel = some ((true : Bool) == (false : Bool)))) ∧
    ((atPower27.rescue.mainsOn = true) ∧
      (atPower27.rescue.stat = RescueState.confirming ∨ atPower27.rescue.stat.ended = true) ∧
      (atPower27.quarantined 3 = false) ∧
      ((true : Bool) = true) ∧
      (atPower27.rescue.senseOn ≠ (true : Bool)) ∧
      (atPower27.mainsLevel = some ((false : Bool) == (true : Bool)))) ∧
    ((atPower0.mainsLevel = none ∨ atPower0.mainsLevel = some ((false : Bool) == atPower0.rescue.senseOn))) ∧
    ((atPower28.rescue.stat = RescueState.hold) ∧
      (atPower28.rescue.senseOn = true) ∧
      (atPower28.rescue.filterRunning = true) ∧
      (atPower28.react.lockout = false) ∧
      (atPower28.quarantined 3 = false)) ∧
    ((atPower27.rescue.stat = RescueState.confirming) ∧
      (atPower27.carIdle = true) ∧
      (atPower27.rescue.senseOn = false) ∧
      (atPower27.rescue.filterRunning = true) ∧
      (atPower27.react.lockout = false) ∧
      (atPower27.quarantined 3 = false)) ∧
    ((atPower26.rescue.stat = RescueState.idle) ∧
      (atPower26.carIdle = true) ∧
      (atPower26.rescue.senseOn = false) ∧
      (atPower26.rescue.filterRunning = true) ∧
      (atPower26.react.lockout = false) ∧
      (atPower26.quarantined 3 = false)) ∧
    ((atPower0.rescue.filterRunning = false) ∧
      (atPower0.react.lockout = false)) ∧
    ((atPower30.quarantined 3 = true)) := by
  and_intros
  all_goals decide +kernel

theorem witness_RescueSequenceAdvances :
    ((atPower22.rescue.mainsOn = false) ∧
      (atPower22.rescue.stat.running = true) ∧
      (atPower22.react.lockout = true) ∧
      (atPower22.quarantined 3 = false)) ∧
    ((atPower22.rescue.senseOn = false) ∧
      (atPower22.rescue.stat.running = true) ∧
      (atPower22.react.lockout = true) ∧
      (atPower22.quarantined 3 = false)) ∧
    ((atPower16.carIdle = true) ∧
      (atPower16.rescue.stat = RescueState.stopping) ∧
      (atPower16.react.lockout = false) ∧
      (atPower16.quarantined 3 = false)) ∧
    ((atPower17.carIdle = false) ∧
      (atPower17.rescue.stat = RescueState.stopping) ∧
      (atPower17.react.lockout = false) ∧
      (atPower17.quarantined 3 = false)) ∧
    ((atPower18.rescue.down = none) ∧
      (atPower18.rescue.stat = RescueState.estimating) ∧
      (atPower18.react.lockout = false) ∧
      (atPower18.quarantined 3 = false) ∧
      (getBits 0x00000001#32 15 8 = 0) ∧
      (getBits 0x00000001#32 7 0 = 1)) ∧
    ((atPower24.rescue.mainsOn = false) ∧
      (atPower24.rescue.stale = false) ∧
      (atPower24.rescue.stat = RescueState.estimating) ∧
      (atPower24.react.lockout = false) ∧
      (atPower24.quarantined 3 = false) ∧
      (getBits 0x00000302#32 15 8 = 3) ∧
      (getBits 0x00000302#32 7 0 = 2) ∧
      (({ status := 0x3#4, landing := 0x02#8, tmove := 0x000003e8#32, emove := 0x00000005#32, target := 0x00000007#32 } : Estimate).status = 3) ∧
      (atPower24.rescue.up = some ({ status := 0x3#4, landing := 0x02#8, tmove := 0x000003e8#32, emove := 0x00000005#32, target := 0x00000007#32 } : Estimate))) ∧
    ((↑atPower23.PWR_RESVCUT ≤ atPower23.vminAt) ∧
      (atPower23.inDoorZone = false) ∧
      (atPower23.rescue.stale = false) ∧
      (atPower23.rescue.stat = RescueState.estimating) ∧
      (atPower23.react.lockout = false) ∧
      (atPower23.quarantined 3 = false) ∧
      (getBits 0x00000302#32 15 8 = 3) ∧
      (getBits 0x00000302#32 7 0 = 2) ∧
      (atPower23.energyNeed ({ status := 0x0#4, landing := 0x02#8, tmove := 0x000003e8#32, emove := 0x00000005#32, target := 0x00000007#32 } : Estimate).emove.toInt (↑({ status := 0x0#4, landing := 0x02#8, tmove := 0x000003e8#32, emove := 0x00000005#32, target := 0x00000007#32 } : Estimate).tmove.toNat) atPower23.PWR_RESMARGIN ≤ atPower23.energyAvail) ∧
      (({ status := 0x0#4, landing := 0x02#8, tmove := 0x000003e8#32, emove := 0x00000005#32, target := 0x00000007#32 } : Estimate).status ≠ 3) ∧
      (atPower23.rescue.up = some ({ status := 0x0#4, landing := 0x02#8, tmove := 0x000003e8#32, emove := 0x00000005#32, target := 0x00000007#32 } : Estimate))) ∧
    ((atPower18.rescue.mainsOn = false) ∧
      (atPower18.rescue.stat = RescueState.estimating) ∧
      (atPower18.react.lockout = false) ∧
      (atPower18.quarantined 3 = false) ∧
      (getBits 0x00000201#32 15 8 = 2)) ∧
    ((atPower19.rescue.stat = RescueState.moving) ∧
      (atPower19.react.lockout = false) ∧
      (atPower19.quarantined 3 = false) ∧
      (getBits 0x00010200#32 19 16 = 1) ∧
      (getBits 0x00010200#32 15 8 = 2)) ∧
    ((atPower19.rescue.mainsOn = false) ∧
      (atPower19.rescue.stat = RescueState.moving) ∧
      (atPower19.react.lockout = false) ∧
      (atPower19.quarantined 3 = false) ∧
      (getBits 0x00010001#32 19 16 = 1) ∧
      (getBits 0x00010001#32 15 8 ≠ 1) ∧
      (getBits 0x00010001#32 15 8 ≠ 2)) ∧
    ((atPower19.rescue.stat = RescueState.moving) ∧
      (atPower19.react.lockout = false) ∧
      (atPower19.quarantined 3 = false) ∧
      (atPower19.rescue.chosen = some ({ status := 0x0#4, landing := 0x02#8, tmove := 0x000003e8#32, emove := 0x00000005#32, target := 0x00000007#32 } : Estimate))) ∧
    ((atPower0.rescue.stat ≠ RescueState.moving) ∧
      (atPower0.react.lockout = false) ∧
      (atPower0.quarantined 3 = false)) ∧
    ((atPower20.rescue.mainsOn = false) ∧
      (atPower20.rescue.stat = RescueState.doors) ∧
      (atPower20.react.lockout = false) ∧
      (atPower20.quarantined 3 = false) ∧
      (BitVec.getLsbD 0x00000001#32 0 = true)) ∧
    ((atPower20.rescue.mainsOn = false) ∧
      (atPower20.rescue.stat = RescueState.doors) ∧
      (atPower20.react.lockout = false) ∧
      (atPower20.quarantined 3 = false) ∧
      (BitVec.getLsbD 0x00000002#32 1 = true) ∧
      (BitVec.getLsbD 0x00000002#32 0 = false)) := by
  and_intros
  all_goals decide +kernel

theorem witness_ResetInputAndRequestResetTheDevice :
    ((atStart0.aon.resetLow = false) ∧
      (atStart0.supplies.vmainOk = true)) ∧
    ((atStart2.supplies.vmainOk = false ∨ atStart2.aon.resetLow = true)) ∧
    ((atStart4.aon.loopHeld = false) ∧
      (atStart4.start.phase = 1) ∧
      (atStart4.power.state = PowerState.starting) ∧
      (atStart4.aon.alert = false) ∧
      (atStart4.aon.resetLow = true) ∧
      (atStart4.supplies.vmainOk = true)) ∧
    ((atStart5.aon.loopHeld = true) ∧
      (atStart5.start.phase = 1) ∧
      (atStart5.power.state = PowerState.starting) ∧
      (atStart5.aon.resetLow = false) ∧
      (atStart5.supplies.vmainOk = true)) ∧
    ((atStart3.aon.alert = false) ∧
      (atStart3.aon.resetLow = true)) ∧
    ((atStart0.aon.resetLow = false ∨ atStart0.aon.alert = true)) ∧
    ((atStart6.aon.alert = true)) ∧
    ((atStart0.aon.alert = false)) ∧
    ((atStart0.mgtUp = true) ∧
      (getBits 0x5a170001#32 31 16 = 23063) ∧
      (BitVec.getLsbD 0x5a170001#32 0 = true)) ∧
    ((BitVec.getLsbD 0x00000000#32 0 = false ∨ getBits 0x00000000#32 31 16 ≠ 23063)) := by
  and_intros
  all_goals decide +kernel

set_option maxRecDepth 100000 in
theorem witness_StartLoadsTheImageAndStartsIslands :
    ((atStart7.power.railFails ≠ 2) ∧
      (atStart7.start.phase = 2) ∧
      (atStart7.power.state = PowerState.starting)) ∧
    ((atStart0.start.phase ≠ 2 ∨ atStart0.power.railFails = 2)) ∧
    ((atStart7.power.railFails = 0) ∧
      (atStart7.start.phase = 2) ∧
      (atStart7.power.state = PowerState.starting)) ∧
    ((atStart8.aon.mgtUp = false) ∧
      (atStart8.power.railFails = 1) ∧
      (atStart8.start.phase = 2) ∧
      (atStart8.power.state = PowerState.starting)) ∧
    ((atStart1.start.phase = 3) ∧
      (atStart1.power.state = PowerState.starting)) ∧
    ((atStart0.start.phase ≠ 3)) ∧
    ((atStart12.start.phase = 4) ∧
      (atStart12.power.state = PowerState.starting) ∧
      (checkSlot atStart12.persist atStart12.persist.slotA = Sum.inr ({ role := Role.machine, tempo := 0x1#2, permit := 0x2#3, redundant := false, nodeId := 0x00000007#32, setId := 0x00000009#32, crc := 0xfb7ba160#32, pins := [{ pad := 24, func := 0x01#8, decl := 0x04#8, arg := 0x00000000#32 }, { pad := 25, func := 0x01#8, decl := 0x00#8, arg := 0x00000000#32 }, { pad := 41, func := 0x01#8, decl := 0x01#8, arg := 0x00000000#32 }], tiles := [], routes := [], lattice := [[0x004f04f0#32, 0x004f04f0#32, 0x00000000#32, 0x00000000#32]], params := [], expose := [], figures := [] } : Image))) ∧
    ((atStart13.start.phase = 4) ∧
      (atStart13.power.state = PowerState.starting) ∧
      (checkSlot atStart13.persist atStart13.persist.slotB = Sum.inr ({ role := Role.machine, tempo := 0x1#2, permit := 0x2#3, redundant := false, nodeId := 0x00000007#32, setId := 0x00000009#32, crc := 0xfb7ba160#32, pins := [{ pad := 24, func := 0x01#8, decl := 0x04#8, arg := 0x00000000#32 }, { pad := 25, func := 0x01#8, decl := 0x00#8, arg := 0x00000000#32 }, { pad := 41, func := 0x01#8, decl := 0x01#8, arg := 0x00000000#32 }], tiles := [], routes := [], lattice := [[0x004f04f0#32, 0x004f04f0#32, 0x00000000#32, 0x00000000#32]], params := [], expose := [], figures := [] } : Image)) ∧
      (checkSlot atStart13.persist atStart13.persist.slotA = Sum.inl 1)) ∧
    ((atStart11.start.phase = 4) ∧
      (atStart11.power.state = PowerState.starting) ∧
      (checkSlot atStart11.persist atStart11.persist.slotA = Sum.inl 1) ∧
      (checkSlot atStart11.persist atStart11.persist.slotB = Sum.inl 1)) ∧
    ((atStart14.start.phase = 6) ∧
      (atStart14.power.state = PowerState.starting) ∧
      (atStart14.image = some ({ role := Role.machine, tempo := 0x1#2, permit := 0x7#3, redundant := false, nodeId := 0x00000007#32, setId := 0x00000009#32, crc := 0x00001234#32, pins := [{ pad := 3, func := 0x14#8, decl := 0x01#8, arg := 0x00000000#32 }, { pad := 4, func := 0x13#8, decl := 0x01#8, arg := 0x00000000#32 }, { pad := 25, func := 0x00#8, decl := 0x01#8, arg := 0x00000000#32 }, { pad := 26, func := 0x00#8, decl := 0x01#8, arg := 0x00000000#32 }, { pad := 41, func := 0x00#8, decl := 0x01#8, arg := 0x00000000#32 }, { pad := 76, func := 0x15#8, decl := 0x01#8, arg := 0x00000000#32 }, { pad := 77, func := 0x15#8, decl := 0x01#8, arg := 0x00000000#32 }, { pad := 78, func := 0x15#8, decl := 0x01#8, arg := 0x00000000#32 }, { pad := 47, func := 0x00#8, decl := 0x01#8, arg := 0x00000000#32 }, { pad := 48, func := 0x00#8, decl := 0x01#8, arg := 0x00000000#32 }, { pad := 49, func := 0x00#8, decl := 0x01#8, arg := 0x00000000#32 }, { pad := 50, func := 0x00#8, decl := 0x01#8, arg := 0x00000000#32 }, { pad := 51, func := 0x00#8, decl := 0x01#8, arg := 0x00000000#32 }, { pad := 52, func := 0x00#8, decl := 0x01#8, arg := 0x00000000#32 }, { pad := 56, func := 0x00#8, decl := 0x01#8, arg := 0x00000000#32 }, { pad := 57, func := 0x00#8, decl := 0x01#8, arg := 0x00000000#32 }, { pad := 58, func := 0x00#8, decl := 0x01#8, arg := 0x00000000#32 }, { pad := 59, func := 0x00#8, decl := 0x01#8, arg := 0x00000000#32 }, { pad := 64, func := 0x00#8, decl := 0x01#8, arg := 0x00000000#32 }, { pad := 65, func := 0x00#8, decl := 0x01#8, arg := 0x00000000#32 }, { pad := 66, func := 0x00#8, decl := 0x01#8, arg := 0x00000000#32 }, { pad := 263, func := 0x00#8, decl := 0x01#8, arg := 0x00000000#32 }, { pad := 265, func := 0x00#8, decl := 0x01#8, arg := 0x00000000#32 }, { pad := 311, func := 0x00#8, decl := 0x01#8, arg := 0x00000000#32 }, { pad := 312, func := 0x00#8, decl := 0x01#8, arg := 0x00000000#32 }, { pad := 319, func := 0x00#8, decl := 0x01#8, arg := 0x00000000#32 }, { pad := 380, func := 0x00#8, decl := 0x01#8, arg := 0x00000000#32 }, { pad := 406, func := 0x00#8, decl := 0x01#8, arg := 0x00000000#32 }], tiles := [{ kind := 0x01#8, index := 0, arg := 0x00000001#32 }, { kind := 0x02#8, index := 0, arg := 0x00000001#32 }, { kind := 0x02#8, index := 1, arg := 0x00000002#32 }, { kind := 0x02#8, index := 2, arg := 0x00000003#32 }, { kind := 0x03#8, index := 0, arg := 0x00000001#32 }, { kind := 0x03#8, index := 1, arg := 0x00000001#32 }, { kind := 0x03#8, index := 2, arg := 0x00000002#32 }, { kind := 0x04#8, index := 4, arg := 0x00000000#32 }, { kind := 0x05#8, index := 0, arg := 0x00000001#32 }, { kind := 0x06#8, index := 0, arg := 0x00000000#32 }, { kind := 0x06#8, index := 1, arg := 0x00000000#32 }, { kind := 0x07#8, index := 0, arg := 0x00000000#32 }, { kind := 0x07#8, index := 1, arg := 0x00000000#32 }, { kind := 0x08#8, index := 0, arg := 0x00000004#32 }, { kind := 0x09#8, index := 0, arg := 0x00000001#32 }], routes := [], lattice := [], params := [], expose := [], figures := [] } : Image))) ∧
    ((atStart0.start.phase ≠ 6)) := by
  and_intros
  all_goals decide +kernel

theorem witness_StartEndsInReadyOrStartsAgain :
    ((atStart15.calFails = []) ∧
      (atStart15.calibrating = false) ∧
      (atStart15.start.phase = 7) ∧
      (atStart15.power.state = PowerState.starting) ∧
      (atStart15.quarantined (testBlock (↑({ row := 1, instance_ := 0, repeatPass := false } : SelfTestFail).row) ({ row := 1, instance_ := 0, repeatPass := false } : SelfTestFail).instance_) = false) ∧
      (atStart15.testApplies (↑({ row := 1, instance_ := 0, repeatPass := false } : SelfTestFail).row) ({ row := 1, instance_ := 0, repeatPass := false } : SelfTestFail).instance_ = true) ∧
      (({ row := 1, instance_ := 0, repeatPass := false } : SelfTestFail).repeatPass = false)) ∧
    ((atStart15.leaseImage = false) ∧
      (atStart15.calFails = []) ∧
      (atStart15.calibrating = false) ∧
      (atStart15.start.phase = 7) ∧
      (atStart15.power.state = PowerState.starting) ∧
      (atStart15.testApplies (↑({ row := 6, instance_ := 3, repeatPass := false } : SelfTestFail).row) ({ row := 6, instance_ := 3, repeatPass := false } : SelfTestFail).instance_ = false ∨ atStart15.quarantined (testBlock (↑({ row := 6, instance_ := 3, repeatPass := false } : SelfTestFail).row) ({ row := 6, instance_ := 3, repeatPass := false } : SelfTestFail).instance_) = true)) ∧
    ((atStart17.calibrating = false) ∧
      (atStart17.start.phase = 7) ∧
      (atStart17.power.state = PowerState.starting) ∧
      (atStart17.quarantined (12 + 0) = false) ∧
      ((atStart17.tile 3 0).isSome = true) ∧
      ((atStart17.mc.motor 0).startCal = 3)) ∧
    ((atStart0.start.phase ≠ 7 ∨ atStart0.calibrating = true)) ∧
    ((atStart18.start.phase = 8) ∧
      (atStart18.power.state = PowerState.starting)) ∧
    ((atStart0.start.phase ≠ 8)) ∧
    ((atStart19.padUsed 25 = true) ∧
      (atStart19.start.ready = false) ∧
      (atStart19.start.phase = 9) ∧
      (atStart19.power.state = PowerState.starting)) ∧
    ((atStart20.padUsed 25 = false) ∧
      (atStart20.start.ready = false) ∧
      (atStart20.start.phase = 9) ∧
      (atStart20.power.state = PowerState.starting)) ∧
    ((atStart22.start.cause = ResetCause.wake) ∧
      (atStart22.start.ready = false) ∧
      (atStart22.start.phase = 9) ∧
      (atStart22.power.state = PowerState.starting)) ∧
    ((atStart0.start.phase ≠ 9 ∨ atStart0.start.ready = true)) ∧
    ((atStart1.aon.timeouts < 3) ∧
      (atStart1.supervised = true)) ∧
    ((3 ≤ atStart23.aon.timeouts) ∧
      (atStart23.supervised = true)) ∧
    ((atStart0.supervised = false)) := by
  and_intros
  all_goals decide +kernel

theorem witness_SlotCommandsAreAcceptedOrRefused :
    ((atSlot2.loader.window = none) ∧
      (atSlot2.loader.op = none) ∧
      (atSlot2.session.unlocked = true) ∧
      (atSlot2.mgtUp = true)) ∧
    ((atSlot4.loader.op = none) ∧
      (atSlot4.mgtUp = true) ∧
      (atSlot4.loader.window = some (true : Bool))) ∧
    ((atSlot1.loader.window = none) ∧
      (atSlot1.loader.op = none) ∧
      (atSlot1.mgtUp = true)) ∧
    ((atSlot0.mgtUp = true) ∧
      (atSlot0.loader.op = some (SlotOp.deferred, (false : Bool)))) ∧
    ((atSlot1.session.unlocked = false) ∧
      (atSlot1.mgtUp = true)) ∧
    ((atSlot0.session.unlocked = true) ∧
      (atSlot0.mgtUp = true) ∧
      (atSlot0.loader.op = some ((SlotOp.deferred, false) : SlotOp × Bool))) := by
  and_intros
  all_goals decide +kernel

set_option maxRecDepth 100000 in
theorem witness_SlotCommandsEndAsTheRulesSay :
    ((atSlot8.loader.op = some (SlotOp.erase, (false : Bool)))) ∧
    ((atSlot9.loader.op = some (SlotOp.verify, (false : Bool)))) ∧
    ((slotVerdict atSlot11.persist atSlot11.persist.slotA = 0) ∧
      (atSlot11.loader.op = some (SlotOp.copyAB, (false : Bool)))) ∧
    ((atSlot10.loader.op = some (SlotOp.copyAB, (false : Bool))) ∧
      (slotVerdict atSlot10.persist atSlot10.persist.slotA % 16 ≠ 0) ∧
      (slotVerdict atSlot10.persist atSlot10.persist.slotA = slotVerdict atSlot10.persist atSlot10.persist.slotA)) ∧
    ((atSlot14.reloadReason = 0) ∧
      (slotVerdict atSlot14.persist atSlot14.persist.slotA = 0) ∧
      (atSlot14.loader.op = some (SlotOp.accept, (false : Bool)))) ∧
    ((atSlot13.reloadReason ≠ 0) ∧
      (slotVerdict atSlot13.persist atSlot13.persist.slotA = 0) ∧
      (atSlot13.loader.op = some (SlotOp.accept, (false : Bool)))) ∧
    ((atSlot16.reloadReason = 0) ∧
      (atSlot16.loader.op = some (SlotOp.deferred, (false : Bool)))) ∧
    ((atSlot0.reloadReason ≠ 0) ∧
      (atSlot0.loader.op = some (SlotOp.deferred, (false : Bool)))) ∧
    ((atSlot17.loader.op = some (SlotOp.ovlClear, (false : Bool)))) ∧
    ((atSlot1.loader.op = none)) := by
  and_intros
  all_goals decide +kernel

theorem witness_SlotWordsReadBackAsWritten :
    ((atSlot4.loader.offset < 262144) ∧
      (atSlot4.mgtUp = true) ∧
      (atSlot4.loader.window = some (true : Bool))) ∧
    ((atSlot0.loader.window = none)) ∧
    ((Tbl.wf 255 ([] : List Host.Cell) = true) ∧
      (1 ≠ 0)) := by
  and_intros
  all_goals decide +kernel

theorem witness_PasswordCommandsFollowTheirRules :
    ((atSlot1.session.buffer.length < 16) ∧
      (atSlot1.mgtUp = true)) ∧
    ((16 ≤ atSlot21.session.buffer.length)) ∧
    ((atSlot19.session.wait = 0) ∧
      (atSlot19.persist.pwSet = true) ∧
      (atSlot19.session.derivation = none) ∧
      (atSlot19.mgtUp = true) ∧
      ((0x10#7 : BitVec 7).toNat ≤ 4 * atSlot19.session.buffer.length) ∧
      ((0x10#7 : BitVec 7).toNat ≤ 64) ∧
      (16 ≤ (0x10#7 : BitVec 7).toNat)) ∧
    ((atSlot1.persist.pwSet = false) ∧
      (atSlot1.session.derivation = none) ∧
      (atSlot1.mgtUp = true)) ∧
    ((atSlot20.session.wait ≠ 0) ∧
      (atSlot20.persist.pwSet = true) ∧
      (atSlot20.session.derivation = none) ∧
      (atSlot20.mgtUp = true)) ∧
    ((atSlot18.session.wait = 0) ∧
      (atSlot18.persist.pwSet = true) ∧
      (atSlot18.session.derivation = none) ∧
      (atSlot18.mgtUp = true) ∧
      ((0x00#7 : BitVec 7).toNat < 16 ∨ 64 < (0x00#7 : BitVec 7).toNat ∨ 4 * atSlot18.session.buffer.length < (0x00#7 : BitVec 7).toNat)) ∧
    ((atSlot22.persist.pwSet = false ∨ atSlot22.session.unlocked = true) ∧
      (atSlot22.session.derivation = none) ∧
      (atSlot22.mgtUp = true) ∧
      ((0x10#7 : BitVec 7).toNat ≤ 4 * atSlot22.session.buffer.length) ∧
      ((0x10#7 : BitVec 7).toNat ≤ 64) ∧
      (16 ≤ (0x10#7 : BitVec 7).toNat)) ∧
    ((atSlot18.session.unlocked = false) ∧
      (atSlot18.persist.pwSet = true) ∧
      (atSlot18.session.derivation = none) ∧
      (atSlot18.mgtUp = true)) ∧
    ((atSlot25.session.derivation = some (true, ([0x01#8] : List (BitVec 8))))) ∧
    ((atSlot27.persist.pwSet = false) ∧
      (atSlot27.session.derivation = some (true, ([0x01#8] : List (BitVec 8))))) ∧
    ((atSlot2.session.unlocked = true) ∧
      (atSlot2.mgtUp = true)) ∧
    ((atSlot1.session.unlocked = false) ∧
      (atSlot1.mgtUp = true)) ∧
    ((atSlot32.mgtUp = false)) := by
  and_intros
  all_goals decide +kernel

theorem witness_PasswordCommandsFollowTheirRules_derived :
    (derivePassword [1] atSlot26.persist.salt = atSlot26.persist.hash ∧ atSlot26.session.derivation = some (false, [1])) ∧
    (derivePassword [1] atSlot24.persist.salt ≠ atSlot24.persist.hash ∧ atSlot24.session.derivation = some (false, [1])) :=
  ⟨⟨by simp only [atSlot26, Persist.reset], by simp only [atSlot26, deriving_]⟩, ⟨fun h => by simpa [atSlot24, deriving_, session, Persist.reset, up] using congrArg List.length h, by simp only [atSlot24, deriving_]⟩⟩

theorem witness_DeviceKeyIsProvisionedOnce :
    ((8 ≤ atSlot28.session.keyCount) ∧
      (atSlot28.persist.prov = false) ∧
      (atSlot28.session.unlocked = true) ∧
      (atSlot28.mgtUp = true)) ∧
    ((atSlot0.persist.prov = true ∨ atSlot0.session.keyCount < 8) ∧
      (atSlot0.session.unlocked = true) ∧
      (atSlot0.mgtUp = true)) ∧
    ((atSlot1.session.unlocked = false) ∧
      (atSlot1.mgtUp = true)) ∧
    ((atSlot1.session.unlocked = false) ∧
      (atSlot1.mgmtReaches Reg.MGT_KEYCMD [])) ∧
    ((up im).mgmtReaches .MGT_KEYCMD [] ∧ (up im).session.unlocked = false) := by
  and_intros
  all_goals decide +kernel

theorem witness_RecorderKeepsTheHistory :
    (((atRec0.recorder.taps.get RecTap.reset (islandNum (Island.pwr : Island))).recs.length < 4) ∧
      (0 ≠ islandNum (Island.pwr : Island))) ∧
    ((4 ≤ (atRec3.recorder.taps.get RecTap.reset (islandNum (Island.pwr : Island))).recs.length)) ∧
    ((atRec2.aon.mgtUp = true) ∧
      (atRec2.lanes = []) ∧
      (atRec2.recorder.frozen = false) ∧
      (({ dtime := 100, code := 0x0101#16, data := [], wall := none } : TapRec).wall = none) ∧
      (({ dtime := 100, code := 0x0101#16, data := [], wall := none } : TapRec).code ≠ 608) ∧
      (nextHead atRec2.recorder.taps = some (1, ({ dtime := 100, code := 0x0101#16, data := [], wall := none } : TapRec))) ∧
      (1 ≠ atRec2.persist.circLine)) ∧
    ((atRec5.aon.mgtUp = true) ∧
      (atRec5.lanes = []) ∧
      (atRec5.recorder.stage.length < 256) ∧
      (atRec5.recorder.frozen = true) ∧
      (({ dtime := 100, code := 0x0101#16, data := [], wall := none } : TapRec).code ≠ 608) ∧
      (nextHead atRec5.recorder.taps = some (1, ({ dtime := 100, code := 0x0101#16, data := [], wall := none } : TapRec)))) ∧
    ((nextHead atRec0.recorder.taps = none) ∧
      (atRec0.aon.mgtUp = true)) ∧
    ((atRec1.aon.mgtUp = false)) ∧
    ((atRec4.recorder.frozen = false) ∧
      (atRec4.session.unlocked = true) ∧
      (atRec4.mgtUp = true) ∧
      (BitVec.getLsbD 0x00000000#32 2 = false) ∧
      (BitVec.getLsbD 0x00000000#32 1 = false)) ∧
    ((atRec5.recorder.frozen = true) ∧
      (atRec5.session.unlocked = true) ∧
      (atRec5.mgtUp = true) ∧
      (BitVec.getLsbD 0x00000000#32 2 = false) ∧
      (BitVec.getLsbD 0x00000000#32 0 = false)) ∧
    ((atRec4.session.unlocked = true) ∧
      (atRec4.mgtUp = true) ∧
      (BitVec.getLsbD 0x00000000#32 1 = false) ∧
      (BitVec.getLsbD 0x00000000#32 0 = false)) ∧
    ((atRec0.session.unlocked = false)) := by
  and_intros
  all_goals decide +kernel

theorem witness_PersistentStateAndClockAreKept :
    (((atRec8.persist.cell 1).value = 0x00000000#32) ∧
      (atRec8.lanes = LaneItem.rwk 1 0x00000000#32 :: atRec8.lanes.tail)) ∧
    (((atRec9.persist.cell 65632).wear < 10000000000) ∧
      ((atRec9.persist.cell 65632).value ≠ 0x00000005#32) ∧
      (atRec9.lanes = LaneItem.rwk 65632 0x00000005#32 :: atRec9.lanes.tail) ∧
      (0 ≠ 65632)) ∧
    (((atRec10.persist.cell 65632).wear = 10000000000) ∧
      ((atRec10.persist.cell 65632).value ≠ 0x00000005#32) ∧
      (atRec10.lanes = LaneItem.rwk 65632 0x00000005#32 :: atRec10.lanes.tail)) ∧
    ((atRec11.lanes = LaneItem.held 0x03#6 ([] : List (FaultSrc × BitVec 6)) :: atRec11.lanes.tail)) ∧
    ((atRec0.lanes = [])) ∧
    ((atRec0.aon.mgtUp = true)) ∧
    ((atRec1.aon.mgtUp = false)) ∧
    ((atRec1.mgtUp = false)) ∧
    ((atRec4.session.unlocked = true) ∧
      (atRec4.mgtUp = true)) ∧
    ((atRec0.session.unlocked = false) ∧
      (atRec0.mgtUp = true)) ∧
    ((atRec0.aon.vaultWatch = false ∨ atRec0.AON_TAMPCFG_MODE = 0 ∨ atRec0.aon.tampPads = 0 ∨ atRec0.quarantined 23 = true)) ∧
    ((atRec12.aon.mgtUp = true) ∧
      (atRec12.aon.tampers.get Tamper.reset 0 = { alarm := false, pend := true, entries := [], excess := 0 : Tamper }) ∧
      (atRec12.AON_TAMPCFG_MODE = 1) ∧
      (atRec12.aon.tampPads.getLsbD 0 = true) ∧
      (atRec12.quarantined 23 = false) ∧
      (atRec12.aon.vaultWatch = true) ∧
      ((0x01#5 : BitVec 5).getLsbD 0 = true)) ∧
    (((atRec13.aon.tampers.get Tamper.reset 0).pend = false) ∧
      ((atRec13.aon.tampers.get Tamper.reset 0).alarm = false) ∧
      (atRec13.AON_TAMPCFG_MODE = 1) ∧
      (atRec13.aon.tampPads.getLsbD 0 = true) ∧
      (atRec13.quarantined 23 = false) ∧
      (atRec13.aon.vaultWatch = true) ∧
      ((0x01#5 : BitVec 5).getLsbD 0 = true)) := by
  and_intros
  all_goals decide +kernel

theorem witness_RefusedAccessDoesNothing :
    ((1 % 4 ≠ 0)) ∧
    ((locate 16773120 = none) ∧
      (16773120 % 4 = 0)) ∧
    ((4 % 4 = 0) ∧
      (atReg0.reaches (Port.host : Port) (Reg.SYS_STAT : Reg) ([] : List Nat) 4 true = false) ∧
      (locate 4 = some ((Reg.SYS_STAT : Reg), ([] : List Nat)))) ∧
    ((2098200 % 4 = 0) ∧
      (atReg0.reaches (Port.host : Port) (Reg.MGT_RECSEL : Reg) ([] : List Nat) 2098200 false = false) ∧
      (locate 2098200 = some ((Reg.MGT_RECSEL : Reg), ([] : List Nat)))) ∧
    ((atReg0.there 1868804 = false) ∧
      (1868804 % 4 = 0) ∧
      (atReg0.reaches (Port.mgmt : Port) (Reg.BUS_RBID : Reg) ([2, 0] : List Nat) 1868804 true = true) ∧
      (locate 1868804 = some ((Reg.BUS_RBID : Reg), ([2, 0] : List Nat)))) ∧
    ((atReg0.there 1868804 = false) ∧
      (1868804 % 4 = 0) ∧
      (atReg0.reaches (Port.mgmt : Port) (Reg.BUS_RBID : Reg) ([2, 0] : List Nat) 1868804 false = true) ∧
      (locate 1868804 = some ((Reg.BUS_RBID : Reg), ([2, 0] : List Nat)))) ∧
    (((atReg0.accessWrite (Port.host : Port) 1 0x00000000#32).fst ∈ [Status.misaligned, Status.unmapped, Status.notExposed, Status.absent]) ∧
      ((0x000001#24 : BitVec 24).toNat = 1)) := by
  and_intros
  all_goals decide +kernel

theorem witness_PerformedWriteTakesEffect :
    ((atReg0.mgtUp = true) ∧
      ((Reg.MGT_RECSEL : Reg) = Reg.MGT_RECSEL ∨ (Reg.MGT_RECSEL : Reg) = Reg.MGT_WEARSEL ∨ (Reg.MGT_RECSEL : Reg) = Reg.MGT_DRCSEL) ∧
      (atReg0.accessRefusal Port.mgmt (0x200418#24 : BitVec 24).toNat true = Sum.inr ((Reg.MGT_RECSEL : Reg), ([] : List Nat))) ∧
      ((Reg.SYS_TEMPO : Reg).addr ([] : List Nat) ≠ (Reg.MGT_RECSEL : Reg).addr ([] : List Nat))) ∧
    ((atReg0.mgtUp = true) ∧
      (BitVec.getLsbD 0x00000000#32 8 = false) ∧
      (atReg0.accessRefusal Port.host (0x000020#24 : BitVec 24).toNat true = Sum.inr (Reg.SYS_TEMPO, ([] : List Nat)))) ∧
    ((atReg0.session.unlocked = false) ∧
      (atReg0.mgtUp = true) ∧
      (isRwl (0x0c007c#24 : BitVec 24).toNat = true) ∧
      ((Reg.MPI_DZHALF : Reg).has Access.rwl = true) ∧
      (atReg0.accessRefusal Port.mgmt (0x0c007c#24 : BitVec 24).toNat true = Sum.inr ((Reg.MPI_DZHALF : Reg), ([] : List Nat)))) ∧
    ((atReg2.slotRuns SlotOp.deferred = none) ∧
      (atReg2.session.unlocked = true) ∧
      (atReg2.mgtUp = true) ∧
      (isRwl (0x0c007c#24 : BitVec 24).toNat = true) ∧
      ((Reg.MPI_DZHALF : Reg) = Reg.MPI_DZHALF ∨ (Reg.MPI_DZHALF : Reg) = Reg.SFI_SICFG ∨ (Reg.MPI_DZHALF : Reg) = Reg.BUS_RBID ∨ (Reg.MPI_DZHALF : Reg) = Reg.BUS_TSCFG ∨ (Reg.MPI_DZHALF : Reg) = Reg.SFI_CTCFG) ∧
      (atReg2.inert (Reg.MPI_DZHALF : Reg) ([] : List Nat) = false) ∧
      (atReg2.persist.overlayFull ((Reg.MPI_DZHALF : Reg).addr ([] : List Nat)) = false) ∧
      (atReg2.accessRefusal Port.mgmt (0x0c007c#24 : BitVec 24).toNat true = Sum.inr ((Reg.MPI_DZHALF : Reg), ([] : List Nat))) ∧
      ((Reg.SYS_TEMPO : Reg).addr ([] : List Nat) ≠ (Reg.MPI_DZHALF : Reg).addr ([] : List Nat))) ∧
    ((atReg0.session.unlocked = false) ∧
      (atReg0.mgmtReaches (Reg.MPI_FCMD : Reg) ([] : List Nat)) ∧
      ((Instr.fusionLearn : Instr).rwlTarget = some ((Reg.MPI_FCMD : Reg), ([] : List Nat), 0x00000001#32))) ∧
    (((Reg.MPI_NLAND : Reg) = Reg.MPI_NLAND ∨ (Reg.MPI_NLAND : Reg) = Reg.LEHOLD) ∧
      (atReg2.rwlOpen (Reg.MPI_NLAND : Reg) ([] : List Nat)) ∧
      ((Instr.nlandWrite 0x00000005#32 : Instr).rwlTarget = some ((Reg.MPI_NLAND : Reg), ([] : List Nat), 0x00000005#32))) ∧
    (((Reg.MPI_FCMD : Reg) ≠ Reg.LEHOLD) ∧
      ((Reg.MPI_FCMD : Reg) ≠ Reg.MPI_NLAND) ∧
      (atReg2.rwlOpen (Reg.MPI_FCMD : Reg) ([] : List Nat)) ∧
      ((Instr.fusionLearn : Instr).rwlTarget = some ((Reg.MPI_FCMD : Reg), ([] : List Nat), 0x00000001#32))) ∧
    ((atReg3.mgtUp = false) ∧
      ((Instr.fusionLearn : Instr).rwlTarget = some ((Reg.MPI_FCMD : Reg), ([] : List Nat), 0x00000001#32))) := by
  and_intros
  all_goals decide +kernel

theorem witness_ProducerWordJoinsItsQueue :
    ((atQueue0.fabric.stopped = false) ∧
      (({ route := { queue := 0, capacity := 2, producer := 0x0530#16, consumer := 0x0510#16, flag := false, cmdq := false, timeout := 0 }, items := [], opened := none, wcnt := 0, sent := 0, skipping := false, lost := 0x00000000#32, flushDrop := 0x00000000#32, lossNotedAt := none, broken := false, underrun := false, poison := false, last := false, lastWord := 0x00000000#32, wlen := 1, hostLeft := 0 } : Queue).full = false) ∧
      (({ route := { queue := 0, capacity := 2, producer := 0x0530#16, consumer := 0x0510#16, flag := false, cmdq := false, timeout := 0 }, items := [], opened := none, wcnt := 0, sent := 0, skipping := false, lost := 0x00000000#32, flushDrop := 0x00000000#32, lossNotedAt := none, broken := false, underrun := false, poison := false, last := false, lastWord := 0x00000000#32, wlen := 1, hostLeft := 0 } : Queue).broken = false) ∧
      (List.filter (fun e => e.snd.route.producer.toNat == (0x0530#16 : BitVec 16).toNat) atQueue0.fabric.built = [(0, ({ route := { queue := 0, capacity := 2, producer := 0x0530#16, consumer := 0x0510#16, flag := false, cmdq := false, timeout := 0 }, items := [], opened := none, wcnt := 0, sent := 0, skipping := false, lost := 0x00000000#32, flushDrop := 0x00000000#32, lossNotedAt := none, broken := false, underrun := false, poison := false, last := false, lastWord := 0x00000000#32, wlen := 1, hostLeft := 0 } : Queue))]) ∧
      (atQueue0.fabric.queue 0 = some ({ route := { queue := 0, capacity := 2, producer := 0x0530#16, consumer := 0x0510#16, flag := false, cmdq := false, timeout := 0 }, items := [], opened := none, wcnt := 0, sent := 0, skipping := false, lost := 0x00000000#32, flushDrop := 0x00000000#32, lossNotedAt := none, broken := false, underrun := false, poison := false, last := false, lastWord := 0x00000000#32, wlen := 1, hostLeft := 0 } : Queue)) ∧
      (1 ≠ 0)) ∧
    ((atQueue2.fabric.stopped = false) ∧
      (({ route := { queue := 0, capacity := 2, producer := 0x0530#16, consumer := 0x0510#16, flag := false, cmdq := false, timeout := 0 }, items := [], opened := some { start := 0, words := [0x00000001#32], endSeq := 0, at_ := 0, flaws := [] }, wcnt := 0, sent := 0, skipping := false, lost := 0x00000000#32, flushDrop := 0x00000000#32, lossNotedAt := none, broken := false, underrun := false, poison := false, last := false, lastWord := 0x00000000#32, wlen := 1, hostLeft := 0 } : Queue).full = false) ∧
      (({ route := { queue := 0, capacity := 2, producer := 0x0530#16, consumer := 0x0510#16, flag := false, cmdq := false, timeout := 0 }, items := [], opened := some { start := 0, words := [0x00000001#32], endSeq := 0, at_ := 0, flaws := [] }, wcnt := 0, sent := 0, skipping := false, lost := 0x00000000#32, flushDrop := 0x00000000#32, lossNotedAt := none, broken := false, underrun := false, poison := false, last := false, lastWord := 0x00000000#32, wlen := 1, hostLeft := 0 } : Queue).skipping = false) ∧
      (({ route := { queue := 0, capacity := 2, producer := 0x0530#16, consumer := 0x0510#16, flag := false, cmdq := false, timeout := 0 }, items := [], opened := some { start := 0, words := [0x00000001#32], endSeq := 0, at_ := 0, flaws := [] }, wcnt := 0, sent := 0, skipping := false, lost := 0x00000000#32, flushDrop := 0x00000000#32, lossNotedAt := none, broken := false, underrun := false, poison := false, last := false, lastWord := 0x00000000#32, wlen := 1, hostLeft := 0 } : Queue).broken = false) ∧
      (List.filter (fun e => e.snd.route.producer.toNat == (0x0530#16 : BitVec 16).toNat) atQueue2.fabric.built = [(0, ({ route := { queue := 0, capacity := 2, producer := 0x0530#16, consumer := 0x0510#16, flag := false, cmdq := false, timeout := 0 }, items := [], opened := some { start := 0, words := [0x00000001#32], endSeq := 0, at_ := 0, flaws := [] }, wcnt := 0, sent := 0, skipping := false, lost := 0x00000000#32, flushDrop := 0x00000000#32, lossNotedAt := none, broken := false, underrun := false, poison := false, last := false, lastWord := 0x00000000#32, wlen := 1, hostLeft := 0 } : Queue))]) ∧
      (atQueue2.fabric.queue 0 = some ({ route := { queue := 0, capacity := 2, producer := 0x0530#16, consumer := 0x0510#16, flag := false, cmdq := false, timeout := 0 }, items := [], opened := some { start := 0, words := [0x00000001#32], endSeq := 0, at_ := 0, flaws := [] }, wcnt := 0, sent := 0, skipping := false, lost := 0x00000000#32, flushDrop := 0x00000000#32, lossNotedAt := none, broken := false, underrun := false, poison := false, last := false, lastWord := 0x00000000#32, wlen := 1, hostLeft := 0 } : Queue)) ∧
      (({ route := { queue := 0, capacity := 2, producer := 0x0530#16, consumer := 0x0510#16, flag := false, cmdq := false, timeout := 0 }, items := [], opened := some { start := 0, words := [0x00000001#32], endSeq := 0, at_ := 0, flaws := [] }, wcnt := 0, sent := 0, skipping := false, lost := 0x00000000#32, flushDrop := 0x00000000#32, lossNotedAt := none, broken := false, underrun := false, poison := false, last := false, lastWord := 0x00000000#32, wlen := 1, hostLeft := 0 } : Queue).opened = some ({ start := 0, words := [0x00000001#32], endSeq := 0, at_ := 0, flaws := [] } : PoolItem)) ∧
      (1 ≠ 0)) ∧
    ((atQueue4.fabric.stopped = false) ∧
      (({ route := { queue := 0, capacity := 1, producer := 0x0530#16, consumer := 0x0510#16, flag := false, cmdq := false, timeout := 0 }, items := [{ start := 0, words := [0x00000001#32, 0x00000002#32, 0x00000003#32, 0x00000004#32, 0x00000005#32, 0x00000006#32, 0x00000007#32, 0x00000008#32], endSeq := 0, at_ := 5000000, flaws := [] }], opened := none, wcnt := 8, sent := 0, skipping := false, lost := 0x00000000#32, flushDrop := 0x00000000#32, lossNotedAt := none, broken := false, underrun := false, poison := false, last := false, lastWord := 0x00000000#32, wlen := 1, hostLeft := 0 } : Queue).opened = none) ∧
      (({ route := { queue := 0, capacity := 1, producer := 0x0530#16, consumer := 0x0510#16, flag := false, cmdq := false, timeout := 0 }, items := [{ start := 0, words := [0x00000001#32, 0x00000002#32, 0x00000003#32, 0x00000004#32, 0x00000005#32, 0x00000006#32, 0x00000007#32, 0x00000008#32], endSeq := 0, at_ := 5000000, flaws := [] }], opened := none, wcnt := 8, sent := 0, skipping := false, lost := 0x00000000#32, flushDrop := 0x00000000#32, lossNotedAt := none, broken := false, underrun := false, poison := false, last := false, lastWord := 0x00000000#32, wlen := 1, hostLeft := 0 } : Queue).route.cmdq = false) ∧
      (({ route := { queue := 0, capacity := 1, producer := 0x0530#16, consumer := 0x0510#16, flag := false, cmdq := false, timeout := 0 }, items := [{ start := 0, words := [0x00000001#32, 0x00000002#32, 0x00000003#32, 0x00000004#32, 0x00000005#32, 0x00000006#32, 0x00000007#32, 0x00000008#32], endSeq := 0, at_ := 5000000, flaws := [] }], opened := none, wcnt := 8, sent := 0, skipping := false, lost := 0x00000000#32, flushDrop := 0x00000000#32, lossNotedAt := none, broken := false, underrun := false, poison := false, last := false, lastWord := 0x00000000#32, wlen := 1, hostLeft := 0 } : Queue).full = true) ∧
      (({ route := { queue := 0, capacity := 1, producer := 0x0530#16, consumer := 0x0510#16, flag := false, cmdq := false, timeout := 0 }, items := [{ start := 0, words := [0x00000001#32, 0x00000002#32, 0x00000003#32, 0x00000004#32, 0x00000005#32, 0x00000006#32, 0x00000007#32, 0x00000008#32], endSeq := 0, at_ := 5000000, flaws := [] }], opened := none, wcnt := 8, sent := 0, skipping := false, lost := 0x00000000#32, flushDrop := 0x00000000#32, lossNotedAt := none, broken := false, underrun := false, poison := false, last := false, lastWord := 0x00000000#32, wlen := 1, hostLeft := 0 } : Queue).skipping = false) ∧
      (({ route := { queue := 0, capacity := 1, producer := 0x0530#16, consumer := 0x0510#16, flag := false, cmdq := false, timeout := 0 }, items := [{ start := 0, words := [0x00000001#32, 0x00000002#32, 0x00000003#32, 0x00000004#32, 0x00000005#32, 0x00000006#32, 0x00000007#32, 0x00000008#32], endSeq := 0, at_ := 5000000, flaws := [] }], opened := none, wcnt := 8, sent := 0, skipping := false, lost := 0x00000000#32, flushDrop := 0x00000000#32, lossNotedAt := none, broken := false, underrun := false, poison := false, last := false, lastWord := 0x00000000#32, wlen := 1, hostLeft := 0 } : Queue).broken = false) ∧
      (List.filter (fun e => e.snd.route.producer.toNat == (0x0530#16 : BitVec 16).toNat) atQueue4.fabric.built = [(0, ({ route := { queue := 0, capacity := 1, producer := 0x0530#16, consumer := 0x0510#16, flag := false, cmdq := false, timeout := 0 }, items := [{ start := 0, words := [0x00000001#32, 0x00000002#32, 0x00000003#32, 0x00000004#32, 0x00000005#32, 0x00000006#32, 0x00000007#32, 0x00000008#32], endSeq := 0, at_ := 5000000, flaws := [] }], opened := none, wcnt := 8, sent := 0, skipping := false, lost := 0x00000000#32, flushDrop := 0x00000000#32, lossNotedAt := none, broken := false, underrun := false, poison := false, last := false, lastWord := 0x00000000#32, wlen := 1, hostLeft := 0 } : Queue))]) ∧
      (atQueue4.fabric.queue 0 = some ({ route := { queue := 0, capacity := 1, producer := 0x0530#16, consumer := 0x0510#16, flag := false, cmdq := false, timeout := 0 }, items := [{ start := 0, words := [0x00000001#32, 0x00000002#32, 0x00000003#32, 0x00000004#32, 0x00000005#32, 0x00000006#32, 0x00000007#32, 0x00000008#32], endSeq := 0, at_ := 5000000, flaws := [] }], opened := none, wcnt := 8, sent := 0, skipping := false, lost := 0x00000000#32, flushDrop := 0x00000000#32, lossNotedAt := none, broken := false, underrun := false, poison := false, last := false, lastWord := 0x00000000#32, wlen := 1, hostLeft := 0 } : Queue)) ∧
      ({ route := ({ route := { queue := 0, capacity := 1, producer := 0x0530#16, consumer := 0x0510#16, flag := false, cmdq := false, timeout := 0 }, items := [{ start := 0, words := [0x00000001#32, 0x00000002#32, 0x00000003#32, 0x00000004#32, 0x00000005#32, 0x00000006#32, 0x00000007#32, 0x00000008#32], endSeq := 0, at_ := 5000000, flaws := [] }], opened := none, wcnt := 8, sent := 0, skipping := false, lost := 0x00000000#32, flushDrop := 0x00000000#32, lossNotedAt := none, broken := false, underrun := false, poison := false, last := false, lastWord := 0x00000000#32, wlen := 1, hostLeft := 0 } : Queue).route, items := ({ route := { queue := 0, capacity := 1, producer := 0x0530#16, consumer := 0x0510#16, flag := false, cmdq := false, timeout := 0 }, items := [{ start := 0, words := [0x00000001#32, 0x00000002#32, 0x00000003#32, 0x00000004#32, 0x00000005#32, 0x00000006#32, 0x00000007#32, 0x00000008#32], endSeq := 0, at_ := 5000000, flaws := [] }], opened := none, wcnt := 8, sent := 0, skipping := false, lost := 0x00000000#32, flushDrop := 0x00000000#32, lossNotedAt := none, broken := false, underrun := false, poison := false, last := false, lastWord := 0x00000000#32, wlen := 1, hostLeft := 0 } : Queue).items.tail, opened := ({ route := { queue := 0, capacity := 1, producer := 0x0530#16, consumer := 0x0510#16, flag := false, cmdq := false, timeout := 0 }, items := [{ start := 0, words := [0x00000001#32, 0x00000002#32, 0x00000003#32, 0x00000004#32, 0x00000005#32, 0x00000006#32, 0x00000007#32, 0x00000008#32], endSeq := 0, at_ := 5000000, flaws := [] }], opened := none, wcnt := 8, sent := 0, skipping := false, lost := 0x00000000#32, flushDrop := 0x00000000#32, lossNotedAt := none, broken := false, underrun := false, poison := false, last := false, lastWord := 0x00000000#32, wlen := 1, hostLeft := 0 } : Queue).opened, wcnt := ({ route := { queue := 0, capacity := 1, producer := 0x0530#16, consumer := 0x0510#16, flag := false, cmdq := false, timeout := 0 }, items := [{ start := 0, words := [0x00000001#32, 0x00000002#32, 0x00000003#32, 0x00000004#32, 0x00000005#32, 0x00000006#32, 0x00000007#32, 0x00000008#32], endSeq := 0, at_ := 5000000, flaws := [] }], opened := none, wcnt := 8, sent := 0, skipping := false, lost := 0x00000000#32, flushDrop := 0x00000000#32, lossNotedAt := none, broken := false, underrun := false, poison := false, last := false, lastWord := 0x00000000#32, wlen := 1, hostLeft := 0 } : Queue).wcnt, sent := ({ route := { queue := 0, capacity := 1, producer := 0x0530#16, consumer := 0x0510#16, flag := false, cmdq := false, timeout := 0 }, items := [{ start := 0, words := [0x00000001#32, 0x00000002#32, 0x00000003#32, 0x00000004#32, 0x00000005#32, 0x00000006#32, 0x00000007#32, 0x00000008#32], endSeq := 0, at_ := 5000000, flaws := [] }], opened := none, wcnt := 8, sent := 0, skipping := false, lost := 0x00000000#32, flushDrop := 0x00000000#32, lossNotedAt := none, broken := false, underrun := false, poison := false, last := false, lastWord := 0x00000000#32, wlen := 1, hostLeft := 0 } : Queue).sent, skipping := ({ route := { queue := 0, capacity := 1, producer := 0x0530#16, consumer := 0x0510#16, flag := false, cmdq := false, timeout := 0 }, items := [{ start := 0, words := [0x00000001#32, 0x00000002#32, 0x00000003#32, 0x00000004#32, 0x00000005#32, 0x00000006#32, 0x00000007#32, 0x00000008#32], endSeq := 0, at_ := 5000000, flaws := [] }], opened := none, wcnt := 8, sent := 0, skipping := false, lost := 0x00000000#32, flushDrop := 0x00000000#32, lossNotedAt := none, broken := false, underrun := false, poison := false, last := false, lastWord := 0x00000000#32, wlen := 1, hostLeft := 0 } : Queue).skipping, lost := ({ route := { queue := 0, capacity := 1, producer := 0x0530#16, consumer := 0x0510#16, flag := false, cmdq := false, timeout := 0 }, items := [{ start := 0, words := [0x00000001#32, 0x00000002#32, 0x00000003#32, 0x00000004#32, 0x00000005#32, 0x00000006#32, 0x00000007#32, 0x00000008#32], endSeq := 0, at_ := 5000000, flaws := [] }], opened := none, wcnt := 8, sent := 0, skipping := false, lost := 0x00000000#32, flushDrop := 0x00000000#32, lossNotedAt := none, broken := false, underrun := false, poison := false, last := false, lastWord := 0x00000000#32, wlen := 1, hostLeft := 0 } : Queue).lost, flushDrop := ({ route := { queue := 0, capacity := 1, producer := 0x0530#16, consumer := 0x0510#16, flag := false, cmdq := false, timeout := 0 }, items := [{ start := 0, words := [0x00000001#32, 0x00000002#32, 0x00000003#32, 0x00000004#32, 0x00000005#32, 0x00000006#32, 0x00000007#32, 0x00000008#32], endSeq := 0, at_ := 5000000, flaws := [] }], opened := none, wcnt := 8, sent := 0, skipping := false, lost := 0x00000000#32, flushDrop := 0x00000000#32, lossNotedAt := none, broken := false, underrun := false, poison := false, last := false, lastWord := 0x00000000#32, wlen := 1, hostLeft := 0 } : Queue).flushDrop, lossNotedAt := ({ route := { queue := 0, capacity := 1, producer := 0x0530#16, consumer := 0x0510#16, flag := false, cmdq := false, timeout := 0 }, items := [{ start := 0, words := [0x00000001#32, 0x00000002#32, 0x00000003#32, 0x00000004#32, 0x00000005#32, 0x00000006#32, 0x00000007#32, 0x00000008#32], endSeq := 0, at_ := 5000000, flaws := [] }], opened := none, wcnt := 8, sent := 0, skipping := false, lost := 0x00000000#32, flushDrop := 0x00000000#32, lossNotedAt := none, broken := false, underrun := false, poison := false, last := false, lastWord := 0x00000000#32, wlen := 1, hostLeft := 0 } : Queue).lossNotedAt, broken := ({ route := { queue := 0, capacity := 1, producer := 0x0530#16, consumer := 0x0510#16, flag := false, cmdq := false, timeout := 0 }, items := [{ start := 0, words := [0x00000001#32, 0x00000002#32, 0x00000003#32, 0x00000004#32, 0x00000005#32, 0x00000006#32, 0x00000007#32, 0x00000008#32], endSeq := 0, at_ := 5000000, flaws := [] }], opened := none, wcnt := 8, sent := 0, skipping := false, lost := 0x00000000#32, flushDrop := 0x00000000#32, lossNotedAt := none, broken := false, underrun := false, poison := false, last := false, lastWord := 0x00000000#32, wlen := 1, hostLeft := 0 } : Queue).broken, underrun := ({ route := { queue := 0, capacity := 1, producer := 0x0530#16, consumer := 0x0510#16, flag := false, cmdq := false, timeout := 0 }, items := [{ start := 0, words := [0x00000001#32, 0x00000002#32, 0x00000003#32, 0x00000004#32, 0x00000005#32, 0x00000006#32, 0x00000007#32, 0x00000008#32], endSeq := 0, at_ := 5000000, flaws := [] }], opened := none, wcnt := 8, sent := 0, skipping := false, lost := 0x00000000#32, flushDrop := 0x00000000#32, lossNotedAt := none, broken := false, underrun := false, poison := false, last := false, lastWord := 0x00000000#32, wlen := 1, hostLeft := 0 } : Queue).underrun, poison := ({ route := { queue := 0, capacity := 1, producer := 0x0530#16, consumer := 0x0510#16, flag := false, cmdq := false, timeout := 0 }, items := [{ start := 0, words := [0x00000001#32, 0x00000002#32, 0x00000003#32, 0x00000004#32, 0x00000005#32, 0x00000006#32, 0x00000007#32, 0x00000008#32], endSeq := 0, at_ := 5000000, flaws := [] }], opened := none, wcnt := 8, sent := 0, skipping := false, lost := 0x00000000#32, flushDrop := 0x00000000#32, lossNotedAt := none, broken := false, underrun := false, poison := false, last := false, lastWord := 0x00000000#32, wlen := 1, hostLeft := 0 } : Queue).poison, last := ({ route := { queue := 0, capacity := 1, producer := 0x0530#16, consumer := 0x0510#16, flag := false, cmdq := false, timeout := 0 }, items := [{ start := 0, words := [0x00000001#32, 0x00000002#32, 0x00000003#32, 0x00000004#32, 0x00000005#32, 0x00000006#32, 0x00000007#32, 0x00000008#32], endSeq := 0, at_ := 5000000, flaws := [] }], opened := none, wcnt := 8, sent := 0, skipping := false, lost := 0x00000000#32, flushDrop := 0x00000000#32, lossNotedAt := none, broken := false, underrun := false, poison := false, last := false, lastWord := 0x00000000#32, wlen := 1, hostLeft := 0 } : Queue).last, lastWord := ({ route := { queue := 0, capacity := 1, producer := 0x0530#16, consumer := 0x0510#16, flag := false, cmdq := false, timeout := 0 }, items := [{ start := 0, words := [0x00000001#32, 0x00000002#32, 0x00000003#32, 0x00000004#32, 0x00000005#32, 0x00000006#32, 0x00000007#32, 0x00000008#32], endSeq := 0, at_ := 5000000, flaws := [] }], opened := none, wcnt := 8, sent := 0, skipping := false, lost := 0x00000000#32, flushDrop := 0x00000000#32, lossNotedAt := none, broken := false, underrun := false, poison := false, last := false, lastWord := 0x00000000#32, wlen := 1, hostLeft := 0 } : Queue).lastWord, wlen := ({ route := { queue := 0, capacity := 1, producer := 0x0530#16, consumer := 0x0510#16, flag := false, cmdq := false, timeout := 0 }, items := [{ start := 0, words := [0x00000001#32, 0x00000002#32, 0x00000003#32, 0x00000004#32, 0x00000005#32, 0x00000006#32, 0x00000007#32, 0x00000008#32], endSeq := 0, at_ := 5000000, flaws := [] }], opened := none, wcnt := 8, sent := 0, skipping := false, lost := 0x00000000#32, flushDrop := 0x00000000#32, lossNotedAt := none, broken := false, underrun := false, poison := false, last := false, lastWord := 0x00000000#32, wlen := 1, hostLeft := 0 } : Queue).wlen, hostLeft := ({ route := { queue := 0, capacity := 1, producer := 0x0530#16, consumer := 0x0510#16, flag := false, cmdq := false, timeout := 0 }, items := [{ start := 0, words := [0x00000001#32, 0x00000002#32, 0x00000003#32, 0x00000004#32, 0x00000005#32, 0x00000006#32, 0x00000007#32, 0x00000008#32], endSeq := 0, at_ := 5000000, flaws := [] }], opened := none, wcnt := 8, sent := 0, skipping := false, lost := 0x00000000#32, flushDrop := 0x00000000#32, lossNotedAt := none, broken := false, underrun := false, poison := false, last := false, lastWord := 0x00000000#32, wlen := 1, hostLeft := 0 } : Queue).hostLeft : Queue }.full = false) ∧
      (({ route := { queue := 0, capacity := 1, producer := 0x0530#16, consumer := 0x0510#16, flag := false, cmdq := false, timeout := 0 }, items := [{ start := 0, words := [0x00000001#32, 0x00000002#32, 0x00000003#32, 0x00000004#32, 0x00000005#32, 0x00000006#32, 0x00000007#32, 0x00000008#32], endSeq := 0, at_ := 5000000, flaws := [] }], opened := none, wcnt := 8, sent := 0, skipping := false, lost := 0x00000000#32, flushDrop := 0x00000000#32, lossNotedAt := none, broken := false, underrun := false, poison := false, last := false, lastWord := 0x00000000#32, wlen := 1, hostLeft := 0 } : Queue).items = ({ start := 0, words := [0x00000001#32, 0x00000002#32, 0x00000003#32, 0x00000004#32, 0x00000005#32, 0x00000006#32, 0x00000007#32, 0x00000008#32], endSeq := 0, at_ := 5000000, flaws := [] } : PoolItem) :: ({ route := { queue := 0, capacity := 1, producer := 0x0530#16, consumer := 0x0510#16, flag := false, cmdq := false, timeout := 0 }, items := [{ start := 0, words := [0x00000001#32, 0x00000002#32, 0x00000003#32, 0x00000004#32, 0x00000005#32, 0x00000006#32, 0x00000007#32, 0x00000008#32], endSeq := 0, at_ := 5000000, flaws := [] }], opened := none, wcnt := 8, sent := 0, skipping := false, lost := 0x00000000#32, flushDrop := 0x00000000#32, lossNotedAt := none, broken := false, underrun := false, poison := false, last := false, lastWord := 0x00000000#32, wlen := 1, hostLeft := 0 } : Queue).items.tail) ∧
      (1 ≠ 0)) ∧
    ((atQueue5.fabric.stopped = false) ∧
      (({ route := { queue := 0, capacity := 2, producer := 0x0530#16, consumer := 0x0510#16, flag := false, cmdq := false, timeout := 0 }, items := [], opened := none, wcnt := 0, sent := 0, skipping := false, lost := 0x00000000#32, flushDrop := 0x00000000#32, lossNotedAt := none, broken := true, underrun := false, poison := false, last := false, lastWord := 0x00000000#32, wlen := 1, hostLeft := 0 } : Queue).broken = true) ∧
      (List.filter (fun e => e.snd.route.producer.toNat == (0x0530#16 : BitVec 16).toNat) atQueue5.fabric.built = [(0, ({ route := { queue := 0, capacity := 2, producer := 0x0530#16, consumer := 0x0510#16, flag := false, cmdq := false, timeout := 0 }, items := [], opened := none, wcnt := 0, sent := 0, skipping := false, lost := 0x00000000#32, flushDrop := 0x00000000#32, lossNotedAt := none, broken := true, underrun := false, poison := false, last := false, lastWord := 0x00000000#32, wlen := 1, hostLeft := 0 } : Queue))]) ∧
      (atQueue5.fabric.queue 0 = some ({ route := { queue := 0, capacity := 2, producer := 0x0530#16, consumer := 0x0510#16, flag := false, cmdq := false, timeout := 0 }, items := [], opened := none, wcnt := 0, sent := 0, skipping := false, lost := 0x00000000#32, flushDrop := 0x00000000#32, lossNotedAt := none, broken := true, underrun := false, poison := false, last := false, lastWord := 0x00000000#32, wlen := 1, hostLeft := 0 } : Queue)) ∧
      (1 ≠ 0)) := by
  and_intros
  all_goals decide +kernel

theorem witness_ConsumerStageFillsAndEmpties :
    (((atQueue0.fabric.stage (stageKey (StagePort.engine 0x0510#16 : StagePort))).length ≤ 2)) ∧
    ((atQueue3.fabric.stopped = false) ∧
      (¬stageKey (StagePort.engine 0x0510#16 : StagePort) ∈ atQueue3.fabric.waiting) ∧
      ((atQueue3.fabric.stage (stageKey (StagePort.engine 0x0510#16 : StagePort))).length < 2) ∧
      (¬∃ f, f < 4 ∧ ∃ q, q < 16 ∧ stageKey (StagePort.engine 0x0510#16 : StagePort) = figIn f q ∧ (atQueue3.fc.fig f).waiting = FigWait.recv) ∧
      (({ route := { queue := 0, capacity := 2, producer := 0x0530#16, consumer := 0x0510#16, flag := false, cmdq := false, timeout := 0 }, items := [{ start := 0, words := [0x00000005#32], endSeq := 0, at_ := 5000000, flaws := [] }], opened := none, wcnt := 0, sent := 0, skipping := false, lost := 0x00000000#32, flushDrop := 0x00000000#32, lossNotedAt := none, broken := false, underrun := false, poison := false, last := false, lastWord := 0x00000000#32, wlen := 1, hostLeft := 0 } : Queue).broken = false) ∧
      (atQueue3.fabric.sources (StagePort.engine 0x0510#16 : StagePort) = [(0, ({ route := { queue := 0, capacity := 2, producer := 0x0530#16, consumer := 0x0510#16, flag := false, cmdq := false, timeout := 0 }, items := [{ start := 0, words := [0x00000005#32], endSeq := 0, at_ := 5000000, flaws := [] }], opened := none, wcnt := 0, sent := 0, skipping := false, lost := 0x00000000#32, flushDrop := 0x00000000#32, lossNotedAt := none, broken := false, underrun := false, poison := false, last := false, lastWord := 0x00000000#32, wlen := 1, hostLeft := 0 } : Queue))]) ∧
      (({ route := { queue := 0, capacity := 2, producer := 0x0530#16, consumer := 0x0510#16, flag := false, cmdq := false, timeout := 0 }, items := [{ start := 0, words := [0x00000005#32], endSeq := 0, at_ := 5000000, flaws := [] }], opened := none, wcnt := 0, sent := 0, skipping := false, lost := 0x00000000#32, flushDrop := 0x00000000#32, lossNotedAt := none, broken := false, underrun := false, poison := false, last := false, lastWord := 0x00000000#32, wlen := 1, hostLeft := 0 } : Queue).items = ({ start := 0, words := [0x00000005#32], endSeq := 0, at_ := 5000000, flaws := [] } : PoolItem) :: ({ route := { queue := 0, capacity := 2, producer := 0x0530#16, consumer := 0x0510#16, flag := false, cmdq := false, timeout := 0 }, items := [{ start := 0, words := [0x00000005#32], endSeq := 0, at_ := 5000000, flaws := [] }], opened := none, wcnt := 0, sent := 0, skipping := false, lost := 0x00000000#32, flushDrop := 0x00000000#32, lossNotedAt := none, broken := false, underrun := false, poison := false, last := false, lastWord := 0x00000000#32, wlen := 1, hostLeft := 0 } : Queue).items.tail) ∧
      (1 ≠ 0)) ∧
    ((atQueue3.fabric.stopped = false) ∧
      (¬stageKey (StagePort.engine 0x0510#16 : StagePort) ∈ atQueue3.fabric.waiting) ∧
      ((atQueue3.fabric.stage (stageKey (StagePort.engine 0x0510#16 : StagePort))).length < 2) ∧
      (¬∃ f, f < 4 ∧ ∃ q, q < 16 ∧ stageKey (StagePort.engine 0x0510#16 : StagePort) = figIn f q ∧ (atQueue3.fc.fig f).waiting = FigWait.recv) ∧
      (({ route := { queue := 0, capacity := 2, producer := 0x0530#16, consumer := 0x0510#16, flag := false, cmdq := false, timeout := 0 }, items := [{ start := 0, words := [0x00000005#32], endSeq := 0, at_ := 5000000, flaws := [] }], opened := none, wcnt := 0, sent := 0, skipping := false, lost := 0x00000000#32, flushDrop := 0x00000000#32, lossNotedAt := none, broken := false, underrun := false, poison := false, last := false, lastWord := 0x00000000#32, wlen := 1, hostLeft := 0 } : Queue).broken = false) ∧
      (atQueue3.fabric.sources (StagePort.engine 0x0510#16 : StagePort) = [(0, ({ route := { queue := 0, capacity := 2, producer := 0x0530#16, consumer := 0x0510#16, flag := false, cmdq := false, timeout := 0 }, items := [{ start := 0, words := [0x00000005#32], endSeq := 0, at_ := 5000000, flaws := [] }], opened := none, wcnt := 0, sent := 0, skipping := false, lost := 0x00000000#32, flushDrop := 0x00000000#32, lossNotedAt := none, broken := false, underrun := false, poison := false, last := false, lastWord := 0x00000000#32, wlen := 1, hostLeft := 0 } : Queue))]) ∧
      (({ route := { queue := 0, capacity := 2, producer := 0x0530#16, consumer := 0x0510#16, flag := false, cmdq := false, timeout := 0 }, items := [{ start := 0, words := [0x00000005#32], endSeq := 0, at_ := 5000000, flaws := [] }], opened := none, wcnt := 0, sent := 0, skipping := false, lost := 0x00000000#32, flushDrop := 0x00000000#32, lossNotedAt := none, broken := false, underrun := false, poison := false, last := false, lastWord := 0x00000000#32, wlen := 1, hostLeft := 0 } : Queue).items = ({ start := 0, words := [0x00000005#32], endSeq := 0, at_ := 5000000, flaws := [] } : PoolItem) :: ({ route := { queue := 0, capacity := 2, producer := 0x0530#16, consumer := 0x0510#16, flag := false, cmdq := false, timeout := 0 }, items := [{ start := 0, words := [0x00000005#32], endSeq := 0, at_ := 5000000, flaws := [] }], opened := none, wcnt := 0, sent := 0, skipping := false, lost := 0x00000000#32, flushDrop := 0x00000000#32, lossNotedAt := none, broken := false, underrun := false, poison := false, last := false, lastWord := 0x00000000#32, wlen := 1, hostLeft := 0 } : Queue).items.tail) ∧
      (List.filter (fun x => x.snd) (List.map (fun e => (e.fst, ({ start := 0, words := [0x00000005#32], endSeq := 0, at_ := 5000000, flaws := [] } : PoolItem).flaws.contains e.snd || ([] : List Bool).getD e.snd false)) ({ start := 0, words := [0x00000005#32], endSeq := 0, at_ := 5000000, flaws := [] } : PoolItem).words.zipIdx) = [])) ∧
    ((atQueue14.fabric.stopped = false) ∧
      (stageKey (StagePort.engine 0x0510#16 : StagePort) ∈ atQueue14.fabric.waiting) ∧
      (atQueue14.fabric.stage (stageKey (StagePort.engine 0x0510#16 : StagePort)) = []) ∧
      (¬∃ f, f < 4 ∧ ∃ q, q < 16 ∧ stageKey (StagePort.engine 0x0510#16 : StagePort) = figIn f q ∧ (atQueue14.fc.fig f).waiting = FigWait.recv) ∧
      (({ route := { queue := 0, capacity := 2, producer := 0x0530#16, consumer := 0x0510#16, flag := false, cmdq := false, timeout := 0 }, items := [{ start := 0, words := [0x00000005#32], endSeq := 0, at_ := 5000000, flaws := [] }], opened := none, wcnt := 0, sent := 0, skipping := false, lost := 0x00000000#32, flushDrop := 0x00000000#32, lossNotedAt := none, broken := false, underrun := false, poison := false, last := false, lastWord := 0x00000000#32, wlen := 1, hostLeft := 0 } : Queue).broken = false) ∧
      (atQueue14.fabric.sources (StagePort.engine 0x0510#16 : StagePort) = [(0, ({ route := { queue := 0, capacity := 2, producer := 0x0530#16, consumer := 0x0510#16, flag := false, cmdq := false, timeout := 0 }, items := [{ start := 0, words := [0x00000005#32], endSeq := 0, at_ := 5000000, flaws := [] }], opened := none, wcnt := 0, sent := 0, skipping := false, lost := 0x00000000#32, flushDrop := 0x00000000#32, lossNotedAt := none, broken := false, underrun := false, poison := false, last := false, lastWord := 0x00000000#32, wlen := 1, hostLeft := 0 } : Queue))]) ∧
      (({ route := { queue := 0, capacity := 2, producer := 0x0530#16, consumer := 0x0510#16, flag := false, cmdq := false, timeout := 0 }, items := [{ start := 0, words := [0x00000005#32], endSeq := 0, at_ := 5000000, flaws := [] }], opened := none, wcnt := 0, sent := 0, skipping := false, lost := 0x00000000#32, flushDrop := 0x00000000#32, lossNotedAt := none, broken := false, underrun := false, poison := false, last := false, lastWord := 0x00000000#32, wlen := 1, hostLeft := 0 } : Queue).items = ({ start := 0, words := [0x00000005#32], endSeq := 0, at_ := 5000000, flaws := [] } : PoolItem) :: ({ route := { queue := 0, capacity := 2, producer := 0x0530#16, consumer := 0x0510#16, flag := false, cmdq := false, timeout := 0 }, items := [{ start := 0, words := [0x00000005#32], endSeq := 0, at_ := 5000000, flaws := [] }], opened := none, wcnt := 0, sent := 0, skipping := false, lost := 0x00000000#32, flushDrop := 0x00000000#32, lossNotedAt := none, broken := false, underrun := false, poison := false, last := false, lastWord := 0x00000000#32, wlen := 1, hostLeft := 0 } : Queue).items.tail)) ∧
    ((atQueue16.fabric.stopped = false) ∧
      (atQueue16.runs Island.seq = true) ∧
      (¬stageKey (StagePort.engine 0x0b00#16 : StagePort) ∈ atQueue16.fabric.waiting) ∧
      (atQueue16.fabric.stage (stageKey (StagePort.engine 0x0b00#16 : StagePort)) = []) ∧
      (0 < atQueue16.SEQ_FSTEPMAX 0) ∧
      ((atQueue16.fc.fig 0).since = 0) ∧
      ((atQueue16.fc.fig 0).waiting = FigWait.recv) ∧
      (0 < 4) ∧
      ((StagePort.engine 0x0b00#16 : StagePort) = StagePort.engine (BitVec.ofNat 16 (figIn 0 0))) ∧
      (0 < 16) ∧
      (({ route := { queue := 0, capacity := 2, producer := 0x0530#16, consumer := 0x0b00#16, flag := false, cmdq := false, timeout := 0 }, items := [{ start := 0, words := [0x00000005#32], endSeq := 0, at_ := 5000000, flaws := [] }], opened := none, wcnt := 0, sent := 0, skipping := false, lost := 0x00000000#32, flushDrop := 0x00000000#32, lossNotedAt := none, broken := false, underrun := false, poison := false, last := false, lastWord := 0x00000000#32, wlen := 1, hostLeft := 0 } : Queue).broken = false) ∧
      (atQueue16.fabric.sources (StagePort.engine 0x0b00#16 : StagePort) = [(0, ({ route := { queue := 0, capacity := 2, producer := 0x0530#16, consumer := 0x0b00#16, flag := false, cmdq := false, timeout := 0 }, items := [{ start := 0, words := [0x00000005#32], endSeq := 0, at_ := 5000000, flaws := [] }], opened := none, wcnt := 0, sent := 0, skipping := false, lost := 0x00000000#32, flushDrop := 0x00000000#32, lossNotedAt := none, broken := false, underrun := false, poison := false, last := false, lastWord := 0x00000000#32, wlen := 1, hostLeft := 0 } : Queue))]) ∧
      (({ start := 0, words := [0x00000005#32], endSeq := 0, at_ := 5000000, flaws := [] } : PoolItem).flaws = []) ∧
      (({ route := { queue := 0, capacity := 2, producer := 0x0530#16, consumer := 0x0b00#16, flag := false, cmdq := false, timeout := 0 }, items := [{ start := 0, words := [0x00000005#32], endSeq := 0, at_ := 5000000, flaws := [] }], opened := none, wcnt := 0, sent := 0, skipping := false, lost := 0x00000000#32, flushDrop := 0x00000000#32, lossNotedAt := none, broken := false, underrun := false, poison := false, last := false, lastWord := 0x00000000#32, wlen := 1, hostLeft := 0 } : Queue).items = [({ start := 0, words := [0x00000005#32], endSeq := 0, at_ := 5000000, flaws := [] } : PoolItem)]) ∧
      ((0x0#4 : BitVec 4).toNat + (0x1#4 : BitVec 4).toNat < 15) ∧
      (({ start := 0, words := [0x00000005#32], endSeq := 0, at_ := 5000000, flaws := [] } : PoolItem).words.length ≤ (0x0#4 : BitVec 4).toNat + 1) ∧
      ((atQueue16.fc.fig 0).step = some (FigStep.recv (BitVec.ofNat 4 0) 0x1#4 0x0#4)) ∧
      (0 < ({ start := 0, words := [0x00000005#32], endSeq := 0, at_ := 5000000, flaws := [] } : PoolItem).words.length)) ∧
    ((atQueue0.fabric.stopped = true ∨ 2 ≤ (atQueue0.fabric.stage (stageKey (StagePort.host 0 : StagePort))).length ∨ atQueue0.fabric.sources (StagePort.host 0 : StagePort) = []) ∧
      (¬∃ f, f < 4 ∧ ∃ q, q < 16 ∧ stageKey (StagePort.host 0 : StagePort) = figIn f q ∧ (atQueue0.fc.fig f).waiting = FigWait.recv)) ∧
    ((atQueue7.fabric.stage (stageKey (StagePort.engine 0x0510#16 : StagePort)) ≠ [])) ∧
    ((({ queue := 0, words := [(0x00000001#32, false), (0x00000002#32, false)], read := 0, at_ := 5000000 } : StageItem).read + 1 < ({ queue := 0, words := [(0x00000001#32, false), (0x00000002#32, false)], read := 0, at_ := 5000000 } : StageItem).words.length) ∧
      (atQueue7.fabric.stage (stageKey (StagePort.engine 0x0510#16 : StagePort)) = ({ queue := 0, words := [(0x00000001#32, false), (0x00000002#32, false)], read := 0, at_ := 5000000 } : StageItem) :: (atQueue7.fabric.stage (stageKey (StagePort.engine 0x0510#16 : StagePort))).tail)) ∧
    ((({ queue := 0, words := [(0x00000001#32, false)], read := 0, at_ := 5000000 } : StageItem).words.length ≤ ({ queue := 0, words := [(0x00000001#32, false)], read := 0, at_ := 5000000 } : StageItem).read + 1) ∧
      (atQueue8.fabric.stage (stageKey (StagePort.engine 0x0510#16 : StagePort)) = ({ queue := 0, words := [(0x00000001#32, false)], read := 0, at_ := 5000000 } : StageItem) :: (atQueue8.fabric.stage (stageKey (StagePort.engine 0x0510#16 : StagePort))).tail)) ∧
    ((¬stageKey (StagePort.engine 0x0510#16 : StagePort) ∈ atQueue0.fabric.waiting) ∧
      (atQueue0.fabric.stage (stageKey (StagePort.engine 0x0510#16 : StagePort)) = [])) ∧
    ((stageKey (StagePort.host 0 : StagePort) ∈ atQueue13.fabric.waiting) ∧
      (¬∃ f, f < 4 ∧ ∃ q, q < 16 ∧ stageKey (StagePort.host 0 : StagePort) = figIn f q ∧ (atQueue13.fc.fig f).waiting = FigWait.recv)) ∧
    ((¬stageKey (StagePort.engine 0x0510#16 : StagePort) ∈ atQueue0.fabric.waiting) ∧
      (¬∃ f, f < 4 ∧ ∃ q, q < 16 ∧ stageKey (StagePort.engine 0x0510#16 : StagePort) = figIn f q ∧ (atQueue0.fc.fig f).waiting = FigWait.recv)) ∧
    ((atQueue15.runs Island.seq = true) ∧
      (0 < atQueue15.SEQ_FSTEPMAX 0) ∧
      ((atQueue15.fc.fig 0).since = 0) ∧
      ((atQueue15.fc.fig 0).waiting = FigWait.recv) ∧
      (0 < 4) ∧
      ((StagePort.engine 0x0b00#16 : StagePort) = StagePort.engine (BitVec.ofNat 16 (figIn 0 0))) ∧
      (0 < 16) ∧
      ((atQueue15.fc.fig 0).step = some (FigStep.recv (BitVec.ofNat 4 0) 0x1#4 0x0#4))) := by
  and_intros
  all_goals decide +kernel

theorem witness_QueueRegistersActOnTheirQueue :
    ((BitVec.getLsbD 0x00000000#32 0 = false)) ∧
    ((BitVec.getLsbD 0x00000000#32 1 = false)) ∧
    ((atQueue0.fabric.stopped = false) ∧
      (atQueue0.fabric.queue 0 = some ({ route := { queue := 0, capacity := 2, producer := 0x0530#16, consumer := 0x0510#16, flag := false, cmdq := false, timeout := 0 }, items := [], opened := none, wcnt := 0, sent := 0, skipping := false, lost := 0x00000000#32, flushDrop := 0x00000000#32, lossNotedAt := none, broken := false, underrun := false, poison := false, last := false, lastWord := 0x00000000#32, wlen := 1, hostLeft := 0 } : Queue)) ∧
      (BitVec.getLsbD 0x00000000#32 27 = false) ∧
      (BitVec.getLsbD 0x00000000#32 30 = false) ∧
      (1 ≠ 0)) ∧
    ((atQueue0.fabric.stopped = false) ∧
      (atQueue0.fabric.queue 0 = some ({ route := { queue := 0, capacity := 2, producer := 0x0530#16, consumer := 0x0510#16, flag := false, cmdq := false, timeout := 0 }, items := [], opened := none, wcnt := 0, sent := 0, skipping := false, lost := 0x00000000#32, flushDrop := 0x00000000#32, lossNotedAt := none, broken := false, underrun := false, poison := false, last := false, lastWord := 0x00000000#32, wlen := 1, hostLeft := 0 } : Queue)) ∧
      (BitVec.getLsbD 0x00000000#32 27 = false) ∧
      (BitVec.getLsbD 0x00000000#32 30 = false) ∧
      (0 ≠ if ({ route := { queue := 0, capacity := 2, producer := 0x0530#16, consumer := 0x0510#16, flag := false, cmdq := false, timeout := 0 }, items := [], opened := none, wcnt := 0, sent := 0, skipping := false, lost := 0x00000000#32, flushDrop := 0x00000000#32, lossNotedAt := none, broken := false, underrun := false, poison := false, last := false, lastWord := 0x00000000#32, wlen := 1, hostLeft := 0 } : Queue).route.consumer = 65280 then 65536 + 0 else ({ route := { queue := 0, capacity := 2, producer := 0x0530#16, consumer := 0x0510#16, flag := false, cmdq := false, timeout := 0 }, items := [], opened := none, wcnt := 0, sent := 0, skipping := false, lost := 0x00000000#32, flushDrop := 0x00000000#32, lossNotedAt := none, broken := false, underrun := false, poison := false, last := false, lastWord := 0x00000000#32, wlen := 1, hostLeft := 0 } : Queue).route.consumer.toNat)) ∧
    ((atQueue2.fabric.stopped = false) ∧
      (List.filter (fun x => x.snd.route.producer.toNat == ({ route := { queue := 0, capacity := 2, producer := 0x0530#16, consumer := 0x0510#16, flag := false, cmdq := false, timeout := 0 }, items := [], opened := some { start := 0, words := [0x00000001#32], endSeq := 0, at_ := 0, flaws := [] }, wcnt := 0, sent := 0, skipping := false, lost := 0x00000000#32, flushDrop := 0x00000000#32, lossNotedAt := none, broken := false, underrun := false, poison := false, last := false, lastWord := 0x00000000#32, wlen := 1, hostLeft := 0 } : Queue).route.producer.toNat) atQueue2.fabric.built = [(0, ({ route := { queue := 0, capacity := 2, producer := 0x0530#16, consumer := 0x0510#16, flag := false, cmdq := false, timeout := 0 }, items := [], opened := some { start := 0, words := [0x00000001#32], endSeq := 0, at_ := 0, flaws := [] }, wcnt := 0, sent := 0, skipping := false, lost := 0x00000000#32, flushDrop := 0x00000000#32, lossNotedAt := none, broken := false, underrun := false, poison := false, last := false, lastWord := 0x00000000#32, wlen := 1, hostLeft := 0 } : Queue))]) ∧
      ({ route := ({ route := { queue := 0, capacity := 2, producer := 0x0530#16, consumer := 0x0510#16, flag := false, cmdq := false, timeout := 0 }, items := [], opened := some { start := 0, words := [0x00000001#32], endSeq := 0, at_ := 0, flaws := [] }, wcnt := 0, sent := 0, skipping := false, lost := 0x00000000#32, flushDrop := 0x00000000#32, lossNotedAt := none, broken := false, underrun := false, poison := false, last := false, lastWord := 0x00000000#32, wlen := 1, hostLeft := 0 } : Queue).route, items := [], opened := ({ route := { queue := 0, capacity := 2, producer := 0x0530#16, consumer := 0x0510#16, flag := false, cmdq := false, timeout := 0 }, items := [], opened := some { start := 0, words := [0x00000001#32], endSeq := 0, at_ := 0, flaws := [] }, wcnt := 0, sent := 0, skipping := false, lost := 0x00000000#32, flushDrop := 0x00000000#32, lossNotedAt := none, broken := false, underrun := false, poison := false, last := false, lastWord := 0x00000000#32, wlen := 1, hostLeft := 0 } : Queue).opened, wcnt := ({ route := { queue := 0, capacity := 2, producer := 0x0530#16, consumer := 0x0510#16, flag := false, cmdq := false, timeout := 0 }, items := [], opened := some { start := 0, words := [0x00000001#32], endSeq := 0, at_ := 0, flaws := [] }, wcnt := 0, sent := 0, skipping := false, lost := 0x00000000#32, flushDrop := 0x00000000#32, lossNotedAt := none, broken := false, underrun := false, poison := false, last := false, lastWord := 0x00000000#32, wlen := 1, hostLeft := 0 } : Queue).wcnt, sent := ({ route := { queue := 0, capacity := 2, producer := 0x0530#16, consumer := 0x0510#16, flag := false, cmdq := false, timeout := 0 }, items := [], opened := some { start := 0, words := [0x00000001#32], endSeq := 0, at_ := 0, flaws := [] }, wcnt := 0, sent := 0, skipping := false, lost := 0x00000000#32, flushDrop := 0x00000000#32, lossNotedAt := none, broken := false, underrun := false, poison := false, last := false, lastWord := 0x00000000#32, wlen := 1, hostLeft := 0 } : Queue).sent, skipping := ({ route := { queue := 0, capacity := 2, producer := 0x0530#16, consumer := 0x0510#16, flag := false, cmdq := false, timeout := 0 }, items := [], opened := some { start := 0, words := [0x00000001#32], endSeq := 0, at_ := 0, flaws := [] }, wcnt := 0, sent := 0, skipping := false, lost := 0x00000000#32, flushDrop := 0x00000000#32, lossNotedAt := none, broken := false, underrun := false, poison := false, last := false, lastWord := 0x00000000#32, wlen := 1, hostLeft := 0 } : Queue).skipping, lost := ({ route := { queue := 0, capacity := 2, producer := 0x0530#16, consumer := 0x0510#16, flag := false, cmdq := false, timeout := 0 }, items := [], opened := some { start := 0, words := [0x00000001#32], endSeq := 0, at_ := 0, flaws := [] }, wcnt := 0, sent := 0, skipping := false, lost := 0x00000000#32, flushDrop := 0x00000000#32, lossNotedAt := none, broken := false, underrun := false, poison := false, last := false, lastWord := 0x00000000#32, wlen := 1, hostLeft := 0 } : Queue).lost, flushDrop := ({ route := { queue := 0, capacity := 2, producer := 0x0530#16, consumer := 0x0510#16, flag := false, cmdq := false, timeout := 0 }, items := [], opened := some { start := 0, words := [0x00000001#32], endSeq := 0, at_ := 0, flaws := [] }, wcnt := 0, sent := 0, skipping := false, lost := 0x00000000#32, flushDrop := 0x00000000#32, lossNotedAt := none, broken := false, underrun := false, poison := false, last := false, lastWord := 0x00000000#32, wlen := 1, hostLeft := 0 } : Queue).flushDrop, lossNotedAt := ({ route := { queue := 0, capacity := 2, producer := 0x0530#16, consumer := 0x0510#16, flag := false, cmdq := false, timeout := 0 }, items := [], opened := some { start := 0, words := [0x00000001#32], endSeq := 0, at_ := 0, flaws := [] }, wcnt := 0, sent := 0, skipping := false, lost := 0x00000000#32, flushDrop := 0x00000000#32, lossNotedAt := none, broken := false, underrun := false, poison := false, last := false, lastWord := 0x00000000#32, wlen := 1, hostLeft := 0 } : Queue).lossNotedAt, broken := ({ route := { queue := 0, capacity := 2, producer := 0x0530#16, consumer := 0x0510#16, flag := false, cmdq := false, timeout := 0 }, items := [], opened := some { start := 0, words := [0x00000001#32], endSeq := 0, at_ := 0, flaws := [] }, wcnt := 0, sent := 0, skipping := false, lost := 0x00000000#32, flushDrop := 0x00000000#32, lossNotedAt := none, broken := false, underrun := false, poison := false, last := false, lastWord := 0x00000000#32, wlen := 1, hostLeft := 0 } : Queue).broken, underrun := ({ route := { queue := 0, capacity := 2, producer := 0x0530#16, consumer := 0x0510#16, flag := false, cmdq := false, timeout := 0 }, items := [], opened := some { start := 0, words := [0x00000001#32], endSeq := 0, at_ := 0, flaws := [] }, wcnt := 0, sent := 0, skipping := false, lost := 0x00000000#32, flushDrop := 0x00000000#32, lossNotedAt := none, broken := false, underrun := false, poison := false, last := false, lastWord := 0x00000000#32, wlen := 1, hostLeft := 0 } : Queue).underrun, poison := ({ route := { queue := 0, capacity := 2, producer := 0x0530#16, consumer := 0x0510#16, flag := false, cmdq := false, timeout := 0 }, items := [], opened := some { start := 0, words := [0x00000001#32], endSeq := 0, at_ := 0, flaws := [] }, wcnt := 0, sent := 0, skipping := false, lost := 0x00000000#32, flushDrop := 0x00000000#32, lossNotedAt := none, broken := false, underrun := false, poison := false, last := false, lastWord := 0x00000000#32, wlen := 1, hostLeft := 0 } : Queue).poison, last := ({ route := { queue := 0, capacity := 2, producer := 0x0530#16, consumer := 0x0510#16, flag := false, cmdq := false, timeout := 0 }, items := [], opened := some { start := 0, words := [0x00000001#32], endSeq := 0, at_ := 0, flaws := [] }, wcnt := 0, sent := 0, skipping := false, lost := 0x00000000#32, flushDrop := 0x00000000#32, lossNotedAt := none, broken := false, underrun := false, poison := false, last := false, lastWord := 0x00000000#32, wlen := 1, hostLeft := 0 } : Queue).last, lastWord := ({ route := { queue := 0, capacity := 2, producer := 0x0530#16, consumer := 0x0510#16, flag := false, cmdq := false, timeout := 0 }, items := [], opened := some { start := 0, words := [0x00000001#32], endSeq := 0, at_ := 0, flaws := [] }, wcnt := 0, sent := 0, skipping := false, lost := 0x00000000#32, flushDrop := 0x00000000#32, lossNotedAt := none, broken := false, underrun := false, poison := false, last := false, lastWord := 0x00000000#32, wlen := 1, hostLeft := 0 } : Queue).lastWord, wlen := ({ route := { queue := 0, capacity := 2, producer := 0x0530#16, consumer := 0x0510#16, flag := false, cmdq := false, timeout := 0 }, items := [], opened := some { start := 0, words := [0x00000001#32], endSeq := 0, at_ := 0, flaws := [] }, wcnt := 0, sent := 0, skipping := false, lost := 0x00000000#32, flushDrop := 0x00000000#32, lossNotedAt := none, broken := false, underrun := false, poison := false, last := false, lastWord := 0x00000000#32, wlen := 1, hostLeft := 0 } : Queue).wlen, hostLeft := ({ route := { queue := 0, capacity := 2, producer := 0x0530#16, consumer := 0x0510#16, flag := false, cmdq := false, timeout := 0 }, items := [], opened := some { start := 0, words := [0x00000001#32], endSeq := 0, at_ := 0, flaws := [] }, wcnt := 0, sent := 0, skipping := false, lost := 0x00000000#32, flushDrop := 0x00000000#32, lossNotedAt := none, broken := false, underrun := false, poison := false, last := false, lastWord := 0x00000000#32, wlen := 1, hostLeft := 0 } : Queue).hostLeft : Queue }.full = false) ∧
      (({ route := { queue := 0, capacity := 2, producer := 0x0530#16, consumer := 0x0510#16, flag := false, cmdq := false, timeout := 0 }, items := [], opened := some { start := 0, words := [0x00000001#32], endSeq := 0, at_ := 0, flaws := [] }, wcnt := 0, sent := 0, skipping := false, lost := 0x00000000#32, flushDrop := 0x00000000#32, lossNotedAt := none, broken := false, underrun := false, poison := false, last := false, lastWord := 0x00000000#32, wlen := 1, hostLeft := 0 } : Queue).skipping = false) ∧
      (({ route := { queue := 0, capacity := 2, producer := 0x0530#16, consumer := 0x0510#16, flag := false, cmdq := false, timeout := 0 }, items := [], opened := some { start := 0, words := [0x00000001#32], endSeq := 0, at_ := 0, flaws := [] }, wcnt := 0, sent := 0, skipping := false, lost := 0x00000000#32, flushDrop := 0x00000000#32, lossNotedAt := none, broken := false, underrun := false, poison := false, last := false, lastWord := 0x00000000#32, wlen := 1, hostLeft := 0 } : Queue).broken = false) ∧
      (atQueue2.fabric.queue 0 = some ({ route := { queue := 0, capacity := 2, producer := 0x0530#16, consumer := 0x0510#16, flag := false, cmdq := false, timeout := 0 }, items := [], opened := some { start := 0, words := [0x00000001#32], endSeq := 0, at_ := 0, flaws := [] }, wcnt := 0, sent := 0, skipping := false, lost := 0x00000000#32, flushDrop := 0x00000000#32, lossNotedAt := none, broken := false, underrun := false, poison := false, last := false, lastWord := 0x00000000#32, wlen := 1, hostLeft := 0 } : Queue)) ∧
      (BitVec.getLsbD 0x00000000#32 27 = false) ∧
      (BitVec.getLsbD 0x00000000#32 30 = false) ∧
      (({ route := { queue := 0, capacity := 2, producer := 0x0530#16, consumer := 0x0510#16, flag := false, cmdq := false, timeout := 0 }, items := [], opened := some { start := 0, words := [0x00000001#32], endSeq := 0, at_ := 0, flaws := [] }, wcnt := 0, sent := 0, skipping := false, lost := 0x00000000#32, flushDrop := 0x00000000#32, lossNotedAt := none, broken := false, underrun := false, poison := false, last := false, lastWord := 0x00000000#32, wlen := 1, hostLeft := 0 } : Queue).opened = some ({ start := 0, words := [0x00000001#32], endSeq := 0, at_ := 0, flaws := [] } : PoolItem)) ∧
      (1 ≠ 0)) ∧
    ((atQueue18.fabric.stopped = true) ∧
      (atQueue18.fabric.queue 0 = some ({ route := { queue := 0, capacity := 2, producer := 0x0530#16, consumer := 0x0510#16, flag := false, cmdq := false, timeout := 0 }, items := [], opened := none, wcnt := 0, sent := 0, skipping := false, lost := 0x00000000#32, flushDrop := 0x00000000#32, lossNotedAt := none, broken := false, underrun := false, poison := false, last := false, lastWord := 0x00000000#32, wlen := 1, hostLeft := 0 } : Queue)) ∧
      (BitVec.getLsbD 0x00000000#32 27 = false) ∧
      (BitVec.getLsbD 0x00000000#32 30 = false)) ∧
    ((atQueue0.fabric.queue 0 = some ({ route := { queue := 0, capacity := 2, producer := 0x0530#16, consumer := 0x0510#16, flag := false, cmdq := false, timeout := 0 }, items := [], opened := none, wcnt := 0, sent := 0, skipping := false, lost := 0x00000000#32, flushDrop := 0x00000000#32, lossNotedAt := none, broken := false, underrun := false, poison := false, last := false, lastWord := 0x00000000#32, wlen := 1, hostLeft := 0 } : Queue)) ∧
      (BitVec.getLsbD 0x00000000#32 27 = false) ∧
      (BitVec.getLsbD 0x00000000#32 31 = false) ∧
      (1 ≠ 0)) ∧
    ((atQueue11.fabric.stopped = false) ∧
      (atQueue11.ports.busyLeft.get 0 0 = 0) ∧
      (({ route := { queue := 0, capacity := 2, producer := 0xff00#16, consumer := 0x0510#16, flag := false, cmdq := true, timeout := 0 }, items := [], opened := none, wcnt := 0, sent := 0, skipping := false, lost := 0x00000000#32, flushDrop := 0x00000000#32, lossNotedAt := none, broken := false, underrun := false, poison := false, last := false, lastWord := 0x00000000#32, wlen := 1, hostLeft := 0 } : Queue).full = false) ∧
      (({ route := { queue := 0, capacity := 2, producer := 0xff00#16, consumer := 0x0510#16, flag := false, cmdq := true, timeout := 0 }, items := [], opened := none, wcnt := 0, sent := 0, skipping := false, lost := 0x00000000#32, flushDrop := 0x00000000#32, lossNotedAt := none, broken := false, underrun := false, poison := false, last := false, lastWord := 0x00000000#32, wlen := 1, hostLeft := 0 } : Queue).broken = false) ∧
      (({ route := { queue := 0, capacity := 2, producer := 0xff00#16, consumer := 0x0510#16, flag := false, cmdq := true, timeout := 0 }, items := [], opened := none, wcnt := 0, sent := 0, skipping := false, lost := 0x00000000#32, flushDrop := 0x00000000#32, lossNotedAt := none, broken := false, underrun := false, poison := false, last := false, lastWord := 0x00000000#32, wlen := 1, hostLeft := 0 } : Queue).wlen = 1) ∧
      (({ route := { queue := 0, capacity := 2, producer := 0xff00#16, consumer := 0x0510#16, flag := false, cmdq := true, timeout := 0 }, items := [], opened := none, wcnt := 0, sent := 0, skipping := false, lost := 0x00000000#32, flushDrop := 0x00000000#32, lossNotedAt := none, broken := false, underrun := false, poison := false, last := false, lastWord := 0x00000000#32, wlen := 1, hostLeft := 0 } : Queue).route.cmdq = true) ∧
      (({ route := { queue := 0, capacity := 2, producer := 0xff00#16, consumer := 0x0510#16, flag := false, cmdq := true, timeout := 0 }, items := [], opened := none, wcnt := 0, sent := 0, skipping := false, lost := 0x00000000#32, flushDrop := 0x00000000#32, lossNotedAt := none, broken := false, underrun := false, poison := false, last := false, lastWord := 0x00000000#32, wlen := 1, hostLeft := 0 } : Queue).hostLeft = 0) ∧
      (({ route := { queue := 0, capacity := 2, producer := 0xff00#16, consumer := 0x0510#16, flag := false, cmdq := true, timeout := 0 }, items := [], opened := none, wcnt := 0, sent := 0, skipping := false, lost := 0x00000000#32, flushDrop := 0x00000000#32, lossNotedAt := none, broken := false, underrun := false, poison := false, last := false, lastWord := 0x00000000#32, wlen := 1, hostLeft := 0 } : Queue).route.producer = 65280) ∧
      (atQueue11.fabric.queue 0 = some ({ route := { queue := 0, capacity := 2, producer := 0xff00#16, consumer := 0x0510#16, flag := false, cmdq := true, timeout := 0 }, items := [], opened := none, wcnt := 0, sent := 0, skipping := false, lost := 0x00000000#32, flushDrop := 0x00000000#32, lossNotedAt := none, broken := false, underrun := false, poison := false, last := false, lastWord := 0x00000000#32, wlen := 1, hostLeft := 0 } : Queue)) ∧
      (atQueue11.ports.tags.getLsbD (BitVec.toNat 0x00000000#32 % 256) = false)) ∧
    ((atQueue22.fabric.stopped = false) ∧
      (atQueue22.ports.busyLeft.get 0 0 = 0) ∧
      (({ route := { queue := 0, capacity := 2, producer := 0xff00#16, consumer := 0x0510#16, flag := false, cmdq := false, timeout := 0 }, items := [], opened := none, wcnt := 0, sent := 0, skipping := false, lost := 0x00000000#32, flushDrop := 0x00000000#32, lossNotedAt := none, broken := false, underrun := false, poison := false, last := false, lastWord := 0x00000000#32, wlen := 2, hostLeft := 0 } : Queue).full = false) ∧
      (({ route := { queue := 0, capacity := 2, producer := 0xff00#16, consumer := 0x0510#16, flag := false, cmdq := false, timeout := 0 }, items := [], opened := none, wcnt := 0, sent := 0, skipping := false, lost := 0x00000000#32, flushDrop := 0x00000000#32, lossNotedAt := none, broken := false, underrun := false, poison := false, last := false, lastWord := 0x00000000#32, wlen := 2, hostLeft := 0 } : Queue).broken = false) ∧
      (1 < ({ route := { queue := 0, capacity := 2, producer := 0xff00#16, consumer := 0x0510#16, flag := false, cmdq := false, timeout := 0 }, items := [], opened := none, wcnt := 0, sent := 0, skipping := false, lost := 0x00000000#32, flushDrop := 0x00000000#32, lossNotedAt := none, broken := false, underrun := false, poison := false, last := false, lastWord := 0x00000000#32, wlen := 2, hostLeft := 0 } : Queue).wlen) ∧
      (({ route := { queue := 0, capacity := 2, producer := 0xff00#16, consumer := 0x0510#16, flag := false, cmdq := false, timeout := 0 }, items := [], opened := none, wcnt := 0, sent := 0, skipping := false, lost := 0x00000000#32, flushDrop := 0x00000000#32, lossNotedAt := none, broken := false, underrun := false, poison := false, last := false, lastWord := 0x00000000#32, wlen := 2, hostLeft := 0 } : Queue).route.cmdq = false) ∧
      (({ route := { queue := 0, capacity := 2, producer := 0xff00#16, consumer := 0x0510#16, flag := false, cmdq := false, timeout := 0 }, items := [], opened := none, wcnt := 0, sent := 0, skipping := false, lost := 0x00000000#32, flushDrop := 0x00000000#32, lossNotedAt := none, broken := false, underrun := false, poison := false, last := false, lastWord := 0x00000000#32, wlen := 2, hostLeft := 0 } : Queue).hostLeft = 0) ∧
      (({ route := { queue := 0, capacity := 2, producer := 0xff00#16, consumer := 0x0510#16, flag := false, cmdq := false, timeout := 0 }, items := [], opened := none, wcnt := 0, sent := 0, skipping := false, lost := 0x00000000#32, flushDrop := 0x00000000#32, lossNotedAt := none, broken := false, underrun := false, poison := false, last := false, lastWord := 0x00000000#32, wlen := 2, hostLeft := 0 } : Queue).route.producer = 65280) ∧
      (atQueue22.fabric.queue 0 = some ({ route := { queue := 0, capacity := 2, producer := 0xff00#16, consumer := 0x0510#16, flag := false, cmdq := false, timeout := 0 }, items := [], opened := none, wcnt := 0, sent := 0, skipping := false, lost := 0x00000000#32, flushDrop := 0x00000000#32, lossNotedAt := none, broken := false, underrun := false, poison := false, last := false, lastWord := 0x00000000#32, wlen := 2, hostLeft := 0 } : Queue))) ∧
    ((atQueue23.fabric.stopped = false) ∧
      (atQueue23.ports.busyLeft.get 0 0 = 0) ∧
      (({ route := { queue := 0, capacity := 2, producer := 0xff00#16, consumer := 0x0510#16, flag := false, cmdq := true, timeout := 0 }, items := [], opened := some { start := 0, words := [0x00000001#32], endSeq := 0, at_ := 0, flaws := [] }, wcnt := 0, sent := 0, skipping := false, lost := 0x00000000#32, flushDrop := 0x00000000#32, lossNotedAt := none, broken := false, underrun := false, poison := false, last := false, lastWord := 0x00000000#32, wlen := 2, hostLeft := 1 } : Queue).full = false) ∧
      (({ route := { queue := 0, capacity := 2, producer := 0xff00#16, consumer := 0x0510#16, flag := false, cmdq := true, timeout := 0 }, items := [], opened := some { start := 0, words := [0x00000001#32], endSeq := 0, at_ := 0, flaws := [] }, wcnt := 0, sent := 0, skipping := false, lost := 0x00000000#32, flushDrop := 0x00000000#32, lossNotedAt := none, broken := false, underrun := false, poison := false, last := false, lastWord := 0x00000000#32, wlen := 2, hostLeft := 1 } : Queue).broken = false) ∧
      (({ route := { queue := 0, capacity := 2, producer := 0xff00#16, consumer := 0x0510#16, flag := false, cmdq := true, timeout := 0 }, items := [], opened := some { start := 0, words := [0x00000001#32], endSeq := 0, at_ := 0, flaws := [] }, wcnt := 0, sent := 0, skipping := false, lost := 0x00000000#32, flushDrop := 0x00000000#32, lossNotedAt := none, broken := false, underrun := false, poison := false, last := false, lastWord := 0x00000000#32, wlen := 2, hostLeft := 1 } : Queue).skipping = false) ∧
      (1 ≤ ({ route := { queue := 0, capacity := 2, producer := 0xff00#16, consumer := 0x0510#16, flag := false, cmdq := true, timeout := 0 }, items := [], opened := some { start := 0, words := [0x00000001#32], endSeq := 0, at_ := 0, flaws := [] }, wcnt := 0, sent := 0, skipping := false, lost := 0x00000000#32, flushDrop := 0x00000000#32, lossNotedAt := none, broken := false, underrun := false, poison := false, last := false, lastWord := 0x00000000#32, wlen := 2, hostLeft := 1 } : Queue).hostLeft) ∧
      (({ route := { queue := 0, capacity := 2, producer := 0xff00#16, consumer := 0x0510#16, flag := false, cmdq := true, timeout := 0 }, items := [], opened := some { start := 0, words := [0x00000001#32], endSeq := 0, at_ := 0, flaws := [] }, wcnt := 0, sent := 0, skipping := false, lost := 0x00000000#32, flushDrop := 0x00000000#32, lossNotedAt := none, broken := false, underrun := false, poison := false, last := false, lastWord := 0x00000000#32, wlen := 2, hostLeft := 1 } : Queue).route.producer = 65280) ∧
      (atQueue23.fabric.queue 0 = some ({ route := { queue := 0, capacity := 2, producer := 0xff00#16, consumer := 0x0510#16, flag := false, cmdq := true, timeout := 0 }, items := [], opened := some { start := 0, words := [0x00000001#32], endSeq := 0, at_ := 0, flaws := [] }, wcnt := 0, sent := 0, skipping := false, lost := 0x00000000#32, flushDrop := 0x00000000#32, lossNotedAt := none, broken := false, underrun := false, poison := false, last := false, lastWord := 0x00000000#32, wlen := 2, hostLeft := 1 } : Queue)) ∧
      (({ route := { queue := 0, capacity := 2, producer := 0xff00#16, consumer := 0x0510#16, flag := false, cmdq := true, timeout := 0 }, items := [], opened := some { start := 0, words := [0x00000001#32], endSeq := 0, at_ := 0, flaws := [] }, wcnt := 0, sent := 0, skipping := false, lost := 0x00000000#32, flushDrop := 0x00000000#32, lossNotedAt := none, broken := false, underrun := false, poison := false, last := false, lastWord := 0x00000000#32, wlen := 2, hostLeft := 1 } : Queue).opened = some ({ start := 0, words := [0x00000001#32], endSeq := 0, at_ := 0, flaws := [] } : PoolItem))) ∧
    ((atQueue12.fabric.stopped = false) ∧
      (atQueue12.ports.busyLeft.get 0 0 = 0) ∧
      (({ route := { queue := 0, capacity := 2, producer := 0xff00#16, consumer := 0x0510#16, flag := false, cmdq := true, timeout := 0 }, items := [], opened := none, wcnt := 0, sent := 0, skipping := false, lost := 0x00000000#32, flushDrop := 0x00000000#32, lossNotedAt := none, broken := false, underrun := false, poison := false, last := false, lastWord := 0x00000000#32, wlen := 1, hostLeft := 0 } : Queue).route.cmdq = true) ∧
      (({ route := { queue := 0, capacity := 2, producer := 0xff00#16, consumer := 0x0510#16, flag := false, cmdq := true, timeout := 0 }, items := [], opened := none, wcnt := 0, sent := 0, skipping := false, lost := 0x00000000#32, flushDrop := 0x00000000#32, lossNotedAt := none, broken := false, underrun := false, poison := false, last := false, lastWord := 0x00000000#32, wlen := 1, hostLeft := 0 } : Queue).hostLeft = 0) ∧
      (({ route := { queue := 0, capacity := 2, producer := 0xff00#16, consumer := 0x0510#16, flag := false, cmdq := true, timeout := 0 }, items := [], opened := none, wcnt := 0, sent := 0, skipping := false, lost := 0x00000000#32, flushDrop := 0x00000000#32, lossNotedAt := none, broken := false, underrun := false, poison := false, last := false, lastWord := 0x00000000#32, wlen := 1, hostLeft := 0 } : Queue).route.producer = 65280) ∧
      (atQueue12.fabric.queue 0 = some ({ route := { queue := 0, capacity := 2, producer := 0xff00#16, consumer := 0x0510#16, flag := false, cmdq := true, timeout := 0 }, items := [], opened := none, wcnt := 0, sent := 0, skipping := false, lost := 0x00000000#32, flushDrop := 0x00000000#32, lossNotedAt := none, broken := false, underrun := false, poison := false, last := false, lastWord := 0x00000000#32, wlen := 1, hostLeft := 0 } : Queue)) ∧
      (atQueue12.ports.tags.getLsbD (BitVec.toNat 0x00000000#32 % 256) = true)) ∧
    ((atQueue1.fabric.stage (65536 + 0) = []) ∧
      (({ route := { queue := 0, capacity := 2, producer := 0x0530#16, consumer := 0xff00#16, flag := true, cmdq := false, timeout := 0 }, items := [], opened := none, wcnt := 0, sent := 0, skipping := false, lost := 0x00000000#32, flushDrop := 0x00000000#32, lossNotedAt := none, broken := false, underrun := false, poison := false, last := false, lastWord := 0x00000000#32, wlen := 1, hostLeft := 0 } : Queue).route.flag = true) ∧
      (({ route := { queue := 0, capacity := 2, producer := 0x0530#16, consumer := 0xff00#16, flag := true, cmdq := false, timeout := 0 }, items := [], opened := none, wcnt := 0, sent := 0, skipping := false, lost := 0x00000000#32, flushDrop := 0x00000000#32, lossNotedAt := none, broken := false, underrun := false, poison := false, last := false, lastWord := 0x00000000#32, wlen := 1, hostLeft := 0 } : Queue).route.consumer = 65280) ∧
      (atQueue1.fabric.queue 0 = some ({ route := { queue := 0, capacity := 2, producer := 0x0530#16, consumer := 0xff00#16, flag := true, cmdq := false, timeout := 0 }, items := [], opened := none, wcnt := 0, sent := 0, skipping := false, lost := 0x00000000#32, flushDrop := 0x00000000#32, lossNotedAt := none, broken := false, underrun := false, poison := false, last := false, lastWord := 0x00000000#32, wlen := 1, hostLeft := 0 } : Queue))) ∧
    ((({ route := { queue := 0, capacity := 2, producer := 0x0530#16, consumer := 0xff00#16, flag := true, cmdq := false, timeout := 0 }, items := [], opened := none, wcnt := 0, sent := 0, skipping := false, lost := 0x00000000#32, flushDrop := 0x00000000#32, lossNotedAt := none, broken := false, underrun := false, poison := false, last := false, lastWord := 0x00000000#32, wlen := 1, hostLeft := 0 } : Queue).route.consumer = 65280) ∧
      (atQueue10.fabric.queue 0 = some ({ route := { queue := 0, capacity := 2, producer := 0x0530#16, consumer := 0xff00#16, flag := true, cmdq := false, timeout := 0 }, items := [], opened := none, wcnt := 0, sent := 0, skipping := false, lost := 0x00000000#32, flushDrop := 0x00000000#32, lossNotedAt := none, broken := false, underrun := false, poison := false, last := false, lastWord := 0x00000000#32, wlen := 1, hostLeft := 0 } : Queue)) ∧
      (({ queue := 0, words := [(0x00000001#32, false)], read := 0, at_ := 5000000 } : StageItem).queue = 0) ∧
      (({ queue := 0, words := [(0x00000001#32, false)], read := 0, at_ := 5000000 } : StageItem).words.length ≤ ({ queue := 0, words := [(0x00000001#32, false)], read := 0, at_ := 5000000 } : StageItem).read + 1) ∧
      (atQueue10.fabric.stage (65536 + 0) = ({ queue := 0, words := [(0x00000001#32, false)], read := 0, at_ := 5000000 } : StageItem) :: (atQueue10.fabric.stage (65536 + 0)).tail)) ∧
    ((({ route := { queue := 0, capacity := 2, producer := 0x0530#16, consumer := 0xff00#16, flag := true, cmdq := false, timeout := 0 }, items := [], opened := none, wcnt := 0, sent := 0, skipping := false, lost := 0x00000000#32, flushDrop := 0x00000000#32, lossNotedAt := none, broken := false, underrun := false, poison := false, last := false, lastWord := 0x00000000#32, wlen := 1, hostLeft := 0 } : Queue).route.consumer = 65280) ∧
      (atQueue19.fabric.queue 0 = some ({ route := { queue := 0, capacity := 2, producer := 0x0530#16, consumer := 0xff00#16, flag := true, cmdq := false, timeout := 0 }, items := [], opened := none, wcnt := 0, sent := 0, skipping := false, lost := 0x00000000#32, flushDrop := 0x00000000#32, lossNotedAt := none, broken := false, underrun := false, poison := false, last := false, lastWord := 0x00000000#32, wlen := 1, hostLeft := 0 } : Queue)) ∧
      (({ queue := 0, words := [(0x00000001#32, false), (0x00000002#32, false)], read := 0, at_ := 5000000 } : StageItem).queue = 0) ∧
      (({ queue := 0, words := [(0x00000001#32, false), (0x00000002#32, false)], read := 0, at_ := 5000000 } : StageItem).read + 1 < ({ queue := 0, words := [(0x00000001#32, false), (0x00000002#32, false)], read := 0, at_ := 5000000 } : StageItem).words.length) ∧
      (atQueue19.fabric.stage (65536 + 0) = ({ queue := 0, words := [(0x00000001#32, false), (0x00000002#32, false)], read := 0, at_ := 5000000 } : StageItem) :: (atQueue19.fabric.stage (65536 + 0)).tail)) ∧
    ((atQueue20.fabric.stage (65536 + 0) = []) ∧
      (({ route := { queue := 0, capacity := 2, producer := 0x0530#16, consumer := 0xff00#16, flag := false, cmdq := false, timeout := 0 }, items := [], opened := none, wcnt := 0, sent := 0, skipping := false, lost := 0x00000000#32, flushDrop := 0x00000000#32, lossNotedAt := none, broken := false, underrun := false, poison := false, last := false, lastWord := 0x00000000#32, wlen := 1, hostLeft := 0 } : Queue).route.flag = false) ∧
      (({ route := { queue := 0, capacity := 2, producer := 0x0530#16, consumer := 0xff00#16, flag := false, cmdq := false, timeout := 0 }, items := [], opened := none, wcnt := 0, sent := 0, skipping := false, lost := 0x00000000#32, flushDrop := 0x00000000#32, lossNotedAt := none, broken := false, underrun := false, poison := false, last := false, lastWord := 0x00000000#32, wlen := 1, hostLeft := 0 } : Queue).route.consumer = 65280) ∧
      (atQueue20.fabric.queue 0 = some ({ route := { queue := 0, capacity := 2, producer := 0x0530#16, consumer := 0xff00#16, flag := false, cmdq := false, timeout := 0 }, items := [], opened := none, wcnt := 0, sent := 0, skipping := false, lost := 0x00000000#32, flushDrop := 0x00000000#32, lossNotedAt := none, broken := false, underrun := false, poison := false, last := false, lastWord := 0x00000000#32, wlen := 1, hostLeft := 0 } : Queue))) ∧
    ((({ route := { queue := 0, capacity := 2, producer := 0x0530#16, consumer := 0x0510#16, flag := false, cmdq := false, timeout := 0 }, items := [], opened := none, wcnt := 0, sent := 0, skipping := false, lost := 0x00000000#32, flushDrop := 0x00000000#32, lossNotedAt := none, broken := false, underrun := false, poison := false, last := false, lastWord := 0x00000000#32, wlen := 1, hostLeft := 0 } : Queue).route.producer ≠ 65280) ∧
      (atQueue0.fabric.queue 0 = some ({ route := { queue := 0, capacity := 2, producer := 0x0530#16, consumer := 0x0510#16, flag := false, cmdq := false, timeout := 0 }, items := [], opened := none, wcnt := 0, sent := 0, skipping := false, lost := 0x00000000#32, flushDrop := 0x00000000#32, lossNotedAt := none, broken := false, underrun := false, poison := false, last := false, lastWord := 0x00000000#32, wlen := 1, hostLeft := 0 } : Queue))) ∧
    ((({ route := { queue := 0, capacity := 2, producer := 0x0530#16, consumer := 0x0510#16, flag := false, cmdq := false, timeout := 0 }, items := [], opened := none, wcnt := 0, sent := 0, skipping := false, lost := 0x00000000#32, flushDrop := 0x00000000#32, lossNotedAt := none, broken := false, underrun := false, poison := false, last := false, lastWord := 0x00000000#32, wlen := 1, hostLeft := 0 } : Queue).route.consumer ≠ 65280) ∧
      (atQueue0.fabric.queue 0 = some ({ route := { queue := 0, capacity := 2, producer := 0x0530#16, consumer := 0x0510#16, flag := false, cmdq := false, timeout := 0 }, items := [], opened := none, wcnt := 0, sent := 0, skipping := false, lost := 0x00000000#32, flushDrop := 0x00000000#32, lossNotedAt := none, broken := false, underrun := false, poison := false, last := false, lastWord := 0x00000000#32, wlen := 1, hostLeft := 0 } : Queue))) := by
  and_intros
  all_goals decide +kernel

theorem witness_FusionTakesItsInputs :
    ((atFuse1.ssiWired = true) ∧
      (atFuse1.fusion.ssiSel = 1 ∨ atFuse1.fusion.ssiSel = 2) ∧
      (atFuse1.quiet Island.mpi = false) ∧
      (atFuse1.fusion.stat ≠ FusionState.off)) ∧
    ((atFuse0.fusion.stat = FusionState.off ∨ atFuse0.ssiWired = false)) ∧
    ((atFuse0.padUsed (65 + 3 * 0) = true) ∧
      (atFuse0.padUsed (64 + 3 * 0) = true) ∧
      (atFuse0.fusion.quads.get Quad.reset 0 = atFuse0.fusion.quads.get Quad.reset 0) ∧
      (((atFuse0.fusion.quads.get Quad.reset 0).a, (atFuse0.fusion.quads.get Quad.reset 0).b, (true : Bool), (false : Bool)) ∈ [(false, false, true, false), (true, false, true, true), (true, true, false, true), (false, true, false, false)])) ∧
    ((atFuse0.padUsed (65 + 3 * 0) = true) ∧
      (atFuse0.padUsed (64 + 3 * 0) = true) ∧
      (atFuse0.fusion.quads.get Quad.reset 0 = atFuse0.fusion.quads.get Quad.reset 0) ∧
      (((false : Bool), (true : Bool), (atFuse0.fusion.quads.get Quad.reset 0).a, (atFuse0.fusion.quads.get Quad.reset 0).b) ∈ [(false, false, true, false), (true, false, true, true), (true, true, false, true), (false, true, false, false)])) ∧
    ((atFuse4.fusion.enc.lost = false) ∧
      (atFuse4.fusion.encSel = 1) ∧
      (atFuse4.fusionKind = 1) ∧
      (atFuse4.fusion.encPad = 0) ∧
      (atFuse4.padUsed (65 + 3 * 0) = true) ∧
      (atFuse4.padUsed (64 + 3 * 0) = true) ∧
      (atFuse4.fusion.quads.get Quad.reset 0 = atFuse4.fusion.quads.get Quad.reset 0) ∧
      ((atFuse4.fusion.quads.get Quad.reset 0).a ≠ (true : Bool)) ∧
      ((atFuse4.fusion.quads.get Quad.reset 0).b ≠ (true : Bool))) ∧
    ((atFuse0.padUsed (64 + 3 * 1) = false ∨ atFuse0.padUsed (65 + 3 * 1) = false)) ∧
    ((atFuse1.fullFusion = true) ∧
      (BitVec.getLsbD 0x00000001#32 0 = true)) ∧
    ((({ words := [0x00000001#32], poison := false } : Item).poison = true ∨ ({ words := [0x00000001#32], poison := false } : Item).words.length ≠ 3)) ∧
    ((atFuse5.fusion.vaneSel ≠ 2) ∧
      (atFuse5.fusion.ssiSel = 3) ∧
      (atFuse5.fullFusion = true) ∧
      (BitVec.getLsbD 0x00000001#32 0 = true)) ∧
    ((({ words := [0x00000001#32], poison := false } : Item).poison = true ∨ ({ words := [0x00000001#32], poison := false } : Item).words.length ≠ 9)) ∧
    ((atFuse9.fusion.stat ≠ FusionState.off) ∧
      (atFuse9.mpi.vaneLocal 0 = true) ∧
      ((atFuse9.fusion.pairs.get VanePair.reset 0).pend = none) ∧
      (atFuse9.fusion.pairs.get VanePair.reset 0 = atFuse9.fusion.pairs.get VanePair.reset 0) ∧
      (atFuse9.padUsed (311 + 2 * 0 + bit (false : Bool)) = true) ∧
      ((atFuse9.fusion.pairs.get VanePair.reset 0).levelB ≠ (true : Bool)) ∧
      ((atFuse9.fusion.pairs.get VanePair.reset 0).levelA ≠ (true : Bool))) ∧
    ((atFuse10.fusion.stat ≠ FusionState.off) ∧
      (atFuse10.padUsed (312 + 2 * 0) = true) ∧
      (atFuse10.mpi.vaneLocal 0 = true) ∧
      ((atFuse10.fusion.pairs.get VanePair.reset 0).lost = false) ∧
      (atFuse10.fusion.pairs.get VanePair.reset 0 = atFuse10.fusion.pairs.get VanePair.reset 0) ∧
      (atFuse10.dev - 4999990 ≤ atFuse10.mpi.inForce.MPI_VANEDISC) ∧
      ((atFuse10.fusion.pairs.get VanePair.reset 0).pend = some (true, 4999990)) ∧
      ((atFuse10.fusion.pairs.get VanePair.reset 0).levelB ≠ (true : Bool))) ∧
    ((atFuse0.padUsed (311 + 2 * 1 + bit (false : Bool)) = false)) ∧
    (((atFuse10.fusion.pairs.get VanePair.reset 0).lost = false) ∧
      (atFuse10.fusion.pairs.get VanePair.reset 0 = atFuse10.fusion.pairs.get VanePair.reset 0) ∧
      ((atFuse10.fusion.pairs.get VanePair.reset 0).pend = some ((true : Bool), 4999990))) ∧
    (((atFuse0.fusion.pairs.get VanePair.reset 0).pend = none)) ∧
    ((atFuse11.fusion.stat ≠ FusionState.off) ∧
      (List.filter (fun n => atFuse11.mpi.inForce.switchInput n == some (getBits 0x00000101#32 4 0)) [0, 1, 2, 3] = [1]) ∧
      ((atFuse11.fusion.switches.get TermSwitch.reset 1).level ≠ BitVec.getLsbD 0x00000101#32 8) ∧
      ((atFuse11.fusion.switches.get TermSwitch.reset 1).changes = []) ∧
      (atFuse11.fusion.switches.get TermSwitch.reset 1 = atFuse11.fusion.switches.get TermSwitch.reset 1)) ∧
    ((({ words := [0x00000001#32], poison := false } : Item).poison = true ∨ ({ words := [0x00000001#32], poison := false } : Item).words.length ≠ 2)) ∧
    ((atFuse12.fusion.runState.run = RunKind.none) ∧
      (atFuse12.fusion.switches.get TermSwitch.reset 0 = atFuse12.fusion.switches.get TermSwitch.reset 0) ∧
      ((atFuse12.fusion.switches.get TermSwitch.reset 0).pending = some ((true : Bool), 4999990))) ∧
    ((atFuse13.fusion.runState.edge = none) ∧
      (atFuse13.fusion.runState.phase = 1) ∧
      (atFuse13.fusion.runState.run = RunKind.home) ∧
      (0 = 0) ∧
      (atFuse13.fusion.switches.get TermSwitch.reset 0 = atFuse13.fusion.switches.get TermSwitch.reset 0) ∧
      ((atFuse13.fusion.switches.get TermSwitch.reset 0).pending = some ((true : Bool), 4999990))) ∧
    (((atFuse0.fusion.switches.get TermSwitch.reset 0).pending = none)) := by
  and_intros
  all_goals decide +kernel

theorem witness_FusionCycleAndRunsProceed :
    ((atFuse14.fusion.enc.lost = false) ∧
      (atFuse14.fusion.vaneUsed = false) ∧
      (atFuse14.fusion.ssiSel = 0) ∧
      (atFuse14.fusion.encSel = 1) ∧
      (atFuse14.noneWaits [1284, 1282, 1281]) ∧
      (atFuse14.fusionKind = 1) ∧
      (atFuse14.quiet Island.mpi = false) ∧
      (atFuse14.fusion.stat ≠ FusionState.off) ∧
      (atFuse14.fusion.interval = some ((0, 65536) : Int × Int)) ∧
      (atFuse14.fusion.prevCount = some 0x00000003#32)) ∧
    ((atFuse15.noneWaits [1284]) ∧
      (atFuse15.fusionKind = 2) ∧
      (atFuse15.quiet Island.mpi = false) ∧
      (atFuse15.fusion.stat ≠ FusionState.off)) ∧
    ((atFuse0.fusion.stat = FusionState.off ∨ atFuse0.quiet Island.mpi = true)) ∧
    (((atFuse21.mpi.inForce.switchInput 1).isSome = true) ∧
      ((atFuse21.mpi.inForce.switchInput 0).isSome = true) ∧
      (atFuse21.fusion.runState.run = RunKind.none) ∧
      (atFuse21.fusion.stat = FusionState.unknown ∨ atFuse21.fusion.stat = FusionState.tracking) ∧
      (atFuse21.fullFusion = true) ∧
      (atFuse21.rwlOpen Reg.MPI_FCMD []) ∧
      ((atFuse21.planners.get Planner.reset 0).idle = true) ∧
      (atFuse21.carPlanner = some 0)) ∧
    ((atFuse19.fusion.runState.run ≠ RunKind.none) ∧
      (atFuse19.fullFusion = true) ∧
      (atFuse19.rwlOpen Reg.MPI_FCMD [])) ∧
    ((atFuse22.reg Reg.MPI_NTSDN ≠ 2147483647) ∧
      (atFuse22.fusion.tabOk = true) ∧
      ((atFuse22.mpi.inForce.switchInput 0).isSome = true) ∧
      (atFuse22.fusion.runState.run = RunKind.none) ∧
      (atFuse22.fullFusion = true) ∧
      (atFuse22.rwlOpen Reg.MPI_FCMD []) ∧
      ((atFuse22.planners.get Planner.reset 0).idle = true) ∧
      (atFuse22.carPlanner = some 0)) ∧
    ((atFuse18.fusion.runState.read = false) ∧
      (atFuse18.fusion.runState.phase = 1) ∧
      (atFuse18.fusion.runState.run = RunKind.home) ∧
      ((atFuse18.planners.get Planner.reset 0).idle = true) ∧
      (atFuse18.carPlanner = some 0) ∧
      (atFuse18.fusion.runState.p = some (7 : Int)) ∧
      (atFuse18.fusion.runState.edge = some 4999000)) ∧
    ((atFuse17.fusion.runState.read = false) ∧
      (atFuse17.fusion.runState.phase = 1) ∧
      (atFuse17.fusion.runState.run = RunKind.learn) ∧
      ((atFuse17.planners.get Planner.reset 0).idle = true) ∧
      (atFuse17.carPlanner = some 0) ∧
      (atFuse17.fusion.runState.p = some (7 : Int)) ∧
      (atFuse17.fusion.runState.edge = some 4999000)) ∧
    ((atFuse0.fusion.runState.run = RunKind.none ∨ atFuse0.fusion.runState.edge = none)) ∧
    ((atFuse19.fullFusion = true) ∧
      (atFuse19.rwlOpen Reg.MPI_NLAND [])) ∧
    ((atFuse23.fullFusion = false) ∧
      (atFuse23.rwlOpen Reg.MPI_NLAND [])) := by
  and_intros
  all_goals decide +kernel

theorem witness_MoveCommandsAreHeldOrRefused :
    ((16 ≤ (atPlan0.planners.get Planner.reset 7).depth ∨ atPlan0.switching = true ∨ atPlan0.quiet Island.mpi = true ∨ atPlan0.planKind 7 = 0)) ∧
    ((atPlan0.switching = false) ∧
      (atPlan0.quiet Island.mpi = false) ∧
      (atPlan0.planKind 2 ≠ 0) ∧
      (BitVec.getLsbD 0x00000000#32 15 = false) ∧
      (getBits 0x00000000#32 31 21 = 0) ∧
      (BitVec.toInt 0x00000000#32 ≤ BitVec.toInt (atPlan0.reg Reg.MPI_PLSOFTHI [2])) ∧
      (BitVec.toInt (atPlan0.reg Reg.MPI_PLSOFTLO [2]) ≤ BitVec.toInt 0x00000000#32) ∧
      (atPlan0.planKind 2 = 1 → atPlan0.fusion.stat = FusionState.tracking ∧ (atPlan0.planners.get Planner.reset 2).degLock = false) ∧
      ((atPlan0.planners.get Planner.reset 2).stalled = false) ∧
      ((atPlan0.planners.get Planner.reset 2).pwrLock = false) ∧
      ((atPlan0.planners.get Planner.reset 2).depth < 16)) ∧
    ((atPlan0.switching = false) ∧
      (atPlan0.quiet Island.mpi = false) ∧
      (atPlan0.planKind 2 ≠ 0) ∧
      (BitVec.getLsbD 0x00000000#32 15 = false) ∧
      (getBits 0x00000000#32 31 21 = 0) ∧
      (sat32 (BitVec.toInt 0x00000000#32 + (atPlan0.planners.get Planner.reset 2).lastTarget) ≤ BitVec.toInt (atPlan0.reg Reg.MPI_PLSOFTHI [2])) ∧
      (BitVec.toInt (atPlan0.reg Reg.MPI_PLSOFTLO [2]) ≤ sat32 (BitVec.toInt 0x00000000#32 + (atPlan0.planners.get Planner.reset 2).lastTarget)) ∧
      (atPlan0.planKind 2 = 1 → atPlan0.fusion.stat = FusionState.tracking ∧ (atPlan0.planners.get Planner.reset 2).degLock = false) ∧
      ((atPlan0.planners.get Planner.reset 2).stalled = false) ∧
      ((atPlan0.planners.get Planner.reset 2).pwrLock = false) ∧
      ((atPlan0.planners.get Planner.reset 2).depth < 16)) ∧
    ((atPlan11.switching = false) ∧
      (atPlan11.quiet Island.mpi = false) ∧
      (atPlan11.planKind 2 ≠ 0) ∧
      (BitVec.getLsbD 0x00000000#32 15 = false) ∧
      (getBits 0x00000000#32 31 21 = 0) ∧
      (BitVec.toInt 0x00000000#32 < BitVec.toInt (atPlan11.reg Reg.MPI_PLSOFTLO [2]) ∨ BitVec.toInt (atPlan11.reg Reg.MPI_PLSOFTHI [2]) < BitVec.toInt 0x00000000#32) ∧
      (atPlan11.planKind 2 = 1 → atPlan11.fusion.stat = FusionState.tracking ∧ (atPlan11.planners.get Planner.reset 2).degLock = false) ∧
      ((atPlan11.planners.get Planner.reset 2).stalled = false) ∧
      ((atPlan11.planners.get Planner.reset 2).pwrLock = false) ∧
      ((atPlan11.planners.get Planner.reset 2).depth < 16)) ∧
    ((atPlan1.switching = false) ∧
      (atPlan1.quiet Island.mpi = false) ∧
      (atPlan1.planKind 2 ≠ 0) ∧
      (atPlan1.tableValid (2) (getBits 0x00000000#32 20 16) = true) ∧
      (BitVec.getLsbD 0x00000000#32 15 = false) ∧
      (getBits 0x00000000#32 31 21 = 0) ∧
      (atPlan1.planKind 2 = 1 → atPlan1.fusion.stat = FusionState.tracking ∧ (atPlan1.planners.get Planner.reset 2).degLock = false) ∧
      ((atPlan1.planners.get Planner.reset 2).stalled = false) ∧
      ((atPlan1.planners.get Planner.reset 2).pwrLock = false) ∧
      ((atPlan1.planners.get Planner.reset 2).depth < 16)) ∧
    ((atPlan0.switching = false) ∧
      (atPlan0.quiet Island.mpi = false) ∧
      (atPlan0.planKind 2 ≠ 0) ∧
      (atPlan0.tableValid (2) (getBits 0x00000000#32 20 16) = false) ∧
      (BitVec.getLsbD 0x00000000#32 15 = false) ∧
      (getBits 0x00000000#32 31 21 = 0) ∧
      (atPlan0.planKind 2 = 1 → atPlan0.fusion.stat = FusionState.tracking ∧ (atPlan0.planners.get Planner.reset 2).degLock = false) ∧
      ((atPlan0.planners.get Planner.reset 2).stalled = false) ∧
      ((atPlan0.planners.get Planner.reset 2).pwrLock = false) ∧
      ((atPlan0.planners.get Planner.reset 2).depth < 16)) ∧
    ((atPlan13.switching = false) ∧
      (atPlan13.quiet Island.mpi = false) ∧
      (atPlan13.planKind 2 ≠ 0) ∧
      (BitVec.getLsbD 0x00000000#32 15 = false) ∧
      (getBits 0x00000000#32 31 21 = 0) ∧
      ((atPlan13.planners.get Planner.reset 2).pwrLock = true) ∧
      ((atPlan13.planners.get Planner.reset 2).depth < 16)) ∧
    ((atPlan14.switching = false) ∧
      (atPlan14.quiet Island.mpi = false) ∧
      (atPlan14.planKind 2 ≠ 0) ∧
      (BitVec.getLsbD 0x00000000#32 14 = false) ∧
      (BitVec.getLsbD 0x00000000#32 15 = false) ∧
      (getBits 0x00000000#32 31 21 = 0) ∧
      ((atPlan14.planners.get Planner.reset 2).kin.vel ≠ 0) ∧
      ((atPlan14.planners.get Planner.reset 2).depth < 16) ∧
      ((atPlan14.planners.get Planner.reset 2).motion = Motion.velocity (5 : Int) (1 : Int) (1 : Int) (1 : Int)) ∧
      (({ tag := 0x00#8, kind := 0x1#4, blend := false, revok := false, quick := false, table := 0, arg := 5, vmax := 0x00000000#32, amax := 0x00000000#32, dmax := 0x00000000#32, jmax := 0x00000000#32, id := 0x00000000#32, fusion := false } : Move).id = 0x00000000#32) ∧
      ((atPlan14.planners.get Planner.reset 2).running = some ({ tag := 0x00#8, kind := 0x1#4, blend := false, revok := false, quick := false, table := 0, arg := 5, vmax := 0x00000000#32, amax := 0x00000000#32, dmax := 0x00000000#32, jmax := 0x00000000#32, id := 0x00000000#32, fusion := false } : Move))) ∧
    ((atPlan0.switching = false) ∧
      (atPlan0.quiet Island.mpi = false) ∧
      (atPlan0.planKind 2 ≠ 0) ∧
      (BitVec.getLsbD 0x00000000#32 15 = false) ∧
      (getBits 0x00000000#32 31 21 = 0) ∧
      (0x00000000#32 ≠ 4294967295) ∧
      ((atPlan0.planners.get Planner.reset 2).running = none) ∧
      ((atPlan0.planners.get Planner.reset 2).depth < 16) ∧
      (({ tag := 0x00#8, kind := 0x1#4, blend := false, revok := false, quick := false, table := 0, arg := 300000, vmax := 0x00000000#32, amax := 0x00000000#32, dmax := 0x00000000#32, jmax := 0x00000000#32, id := 0x00000000#32, fusion := false } : Move).fusion = false) ∧
      (({ tag := 0x00#8, kind := 0x1#4, blend := false, revok := false, quick := false, table := 0, arg := 300000, vmax := 0x00000000#32, amax := 0x00000000#32, dmax := 0x00000000#32, jmax := 0x00000000#32, id := 0x00000000#32, fusion := false } : Move).id = 0x00000000#32) ∧
      ((atPlan0.planners.get Planner.reset 2).held = ({ tag := 0x00#8, kind := 0x1#4, blend := false, revok := false, quick := false, table := 0, arg := 300000, vmax := 0x00000000#32, amax := 0x00000000#32, dmax := 0x00000000#32, jmax := 0x00000000#32, id := 0x00000000#32, fusion := false } : Move) :: (atPlan0.planners.get Planner.reset 2).held.tail)) ∧
    ((atPlan0.switching = false) ∧
      (atPlan0.quiet Island.mpi = false) ∧
      (atPlan0.planKind 0 ≠ 0) ∧
      (BitVec.getLsbD 0x00000000#32 15 = false) ∧
      (getBits 0x00000000#32 31 21 = 0) ∧
      ((atPlan0.planners.get Planner.reset 0).held = []) ∧
      ((atPlan0.planners.get Planner.reset 0).running = none) ∧
      ((atPlan0.planners.get Planner.reset 0).depth < 16)) := by
  and_intros
  all_goals decide +kernel

theorem witness_PlannerCyclesAndWaitsProceed :
    ((atPlan9.switching = false) ∧
      (atPlan9.quiet Island.mpi = false) ∧
      (atPlan9.stepper 2 = false) ∧
      (atPlan9.noneWaits [1296 + 2]) ∧
      (atPlan9.planKind 2 = 2 ∨ atPlan9.planKind 2 = 3) ∧
      ((atPlan9.planners.get Planner.reset 2).motion = Motion.rest) ∧
      ((atPlan9.planners.get Planner.reset 2).running = none) ∧
      ((atPlan9.planners.get Planner.reset 2).held = []) ∧
      (0 ≠ 2)) ∧
    ((atPlan15.switching = false) ∧
      (atPlan15.quiet Island.mpi = false) ∧
      (atPlan15.stepper 2 = false) ∧
      (atPlan15.noneWaits [1296 + 2]) ∧
      (atPlan15.planKind 2 = 2 ∨ atPlan15.planKind 2 = 3) ∧
      ((atPlan15.planners.get Planner.reset 2).stalled = false) ∧
      ((atPlan15.planners.get Planner.reset 2).pwrLock = false) ∧
      ((atPlan15.planners.get Planner.reset 2).standing = false) ∧
      ((atPlan15.planners.get Planner.reset 2).motion = Motion.rest) ∧
      ((atPlan15.planners.get Planner.reset 2).running = none) ∧
      (({ tag := 0x00#8, kind := 0x3#4, blend := false, revok := false, quick := false, table := 0, arg := 5, vmax := 0x00000000#32, amax := 0x00000000#32, dmax := 0x00000000#32, jmax := 0x00000000#32, id := 0x00000000#32, fusion := false } : Move).kind = 3) ∧
      (({ tag := 0x00#8, kind := 0x3#4, blend := false, revok := false, quick := false, table := 0, arg := 5, vmax := 0x00000000#32, amax := 0x00000000#32, dmax := 0x00000000#32, jmax := 0x00000000#32, id := 0x00000000#32, fusion := false } : Move).fusion = false) ∧
      ((atPlan15.planners.get Planner.reset 2).held = [({ tag := 0x00#8, kind := 0x3#4, blend := false, revok := false, quick := false, table := 0, arg := 5, vmax := 0x00000000#32, amax := 0x00000000#32, dmax := 0x00000000#32, jmax := 0x00000000#32, id := 0x00000000#32, fusion := false } : Move)])) ∧
    ((atPlan0.switching = false) ∧
      (atPlan0.quiet Island.mpi = false) ∧
      (atPlan0.stepper 2 = false) ∧
      (atPlan0.noneWaits [1296 + 2]) ∧
      (atPlan0.planKind 2 = 2 ∨ atPlan0.planKind 2 = 3) ∧
      ((atPlan0.planners.get Planner.reset 2).stalled = false) ∧
      ((atPlan0.planners.get Planner.reset 2).pwrLock = false) ∧
      ((atPlan0.planners.get Planner.reset 2).standing = false) ∧
      ((atPlan0.planners.get Planner.reset 2).motion = Motion.rest) ∧
      ((atPlan0.planners.get Planner.reset 2).running = none) ∧
      (({ tag := 0x00#8, kind := 0x1#4, blend := false, revok := false, quick := false, table := 0, arg := 300000, vmax := 0x00000000#32, amax := 0x00000000#32, dmax := 0x00000000#32, jmax := 0x00000000#32, id := 0x00000000#32, fusion := false } : Move).arg ≤ BitVec.toInt (atPlan0.reg Reg.MPI_PLSOFTHI [2])) ∧
      (BitVec.toInt (atPlan0.reg Reg.MPI_PLSOFTLO [2]) ≤ ({ tag := 0x00#8, kind := 0x1#4, blend := false, revok := false, quick := false, table := 0, arg := 300000, vmax := 0x00000000#32, amax := 0x00000000#32, dmax := 0x00000000#32, jmax := 0x00000000#32, id := 0x00000000#32, fusion := false } : Move).arg) ∧
      (({ tag := 0x00#8, kind := 0x1#4, blend := false, revok := false, quick := false, table := 0, arg := 300000, vmax := 0x00000000#32, amax := 0x00000000#32, dmax := 0x00000000#32, jmax := 0x00000000#32, id := 0x00000000#32, fusion := false } : Move).kind = 1 ∨ ({ tag := 0x00#8, kind := 0x1#4, blend := false, revok := false, quick := false, table := 0, arg := 300000, vmax := 0x00000000#32, amax := 0x00000000#32, dmax := 0x00000000#32, jmax := 0x00000000#32, id := 0x00000000#32, fusion := false } : Move).kind = 2) ∧
      (({ tag := 0x00#8, kind := 0x1#4, blend := false, revok := false, quick := false, table := 0, arg := 300000, vmax := 0x00000000#32, amax := 0x00000000#32, dmax := 0x00000000#32, jmax := 0x00000000#32, id := 0x00000000#32, fusion := false } : Move).fusion = false) ∧
      ((atPlan0.planners.get Planner.reset 2).held = [({ tag := 0x00#8, kind := 0x1#4, blend := false, revok := false, quick := false, table := 0, arg := 300000, vmax := 0x00000000#32, amax := 0x00000000#32, dmax := 0x00000000#32, jmax := 0x00000000#32, id := 0x00000000#32, fusion := false } : Move)]) ∧
      ((planTo { pos := (match atPlan0.fedMotor 2 with | some m => (atPlan0.motors.get Motor.reset m).fbpos | none => (atPlan0.planners.get Planner.reset 2).kin.lsb) * s16, vel := 0, acc := 0 : Kin } ({ tag := 0x00#8, kind := 0x1#4, blend := false, revok := false, quick := false, table := 0, arg := 300000, vmax := 0x00000000#32, amax := 0x00000000#32, dmax := 0x00000000#32, jmax := 0x00000000#32, id := 0x00000000#32, fusion := false } : Move).arg (atPlan0.mpi.limits (2) ({ tag := 0x00#8, kind := 0x1#4, blend := false, revok := false, quick := false, table := 0, arg := 300000, vmax := 0x00000000#32, amax := 0x00000000#32, dmax := 0x00000000#32, jmax := 0x00000000#32, id := 0x00000000#32, fusion := false } : Move))).kind = PlanKind.direct (1261897 : Int)) ∧
      (runPieces { pos := (match atPlan0.fedMotor 2 with | some m => (atPlan0.motors.get Motor.reset m).fbpos | none => (atPlan0.planners.get Planner.reset 2).kin.lsb) * s16, vel := 0, acc := 0 : Kin } (planTo { pos := (match atPlan0.fedMotor 2 with | some m => (atPlan0.motors.get Motor.reset m).fbpos | none => (atPlan0.planners.get Planner.reset 2).kin.lsb) * s16, vel := 0, acc := 0 : Kin } ({ tag := 0x00#8, kind := 0x1#4, blend := false, revok := false, quick := false, table := 0, arg := 300000, vmax := 0x00000000#32, amax := 0x00000000#32, dmax := 0x00000000#32, jmax := 0x00000000#32, id := 0x00000000#32, fusion := false } : Move).arg (atPlan0.mpi.limits (2) ({ tag := 0x00#8, kind := 0x1#4, blend := false, revok := false, quick := false, table := 0, arg := 300000, vmax := 0x00000000#32, amax := 0x00000000#32, dmax := 0x00000000#32, jmax := 0x00000000#32, id := 0x00000000#32, fusion := false } : Move))).pieces atPlan0.cycleUs = ((runPieces { pos := (match atPlan0.fedMotor 2 with | some m => (atPlan0.motors.get Motor.reset m).fbpos | none => (atPlan0.planners.get Planner.reset 2).kin.lsb) * s16, vel := 0, acc := 0 : Kin } (planTo { pos := (match atPlan0.fedMotor 2 with | some m => (atPlan0.motors.get Motor.reset m).fbpos | none => (atPlan0.planners.get Planner.reset 2).kin.lsb) * s16, vel := 0, acc := 0 : Kin } ({ tag := 0x00#8, kind := 0x1#4, blend := false, revok := false, quick := false, table := 0, arg := 300000, vmax := 0x00000000#32, amax := 0x00000000#32, dmax := 0x00000000#32, jmax := 0x00000000#32, id := 0x00000000#32, fusion := false } : Move).arg (atPlan0.mpi.limits (2) ({ tag := 0x00#8, kind := 0x1#4, blend := false, revok := false, quick := false, table := 0, arg := 300000, vmax := 0x00000000#32, amax := 0x00000000#32, dmax := 0x00000000#32, jmax := 0x00000000#32, id := 0x00000000#32, fusion := false } : Move))).pieces atPlan0.cycleUs).fst, (runPieces { pos := (match atPlan0.fedMotor 2 with | some m => (atPlan0.motors.get Motor.reset m).fbpos | none => (atPlan0.planners.get Planner.reset 2).kin.lsb) * s16, vel := 0, acc := 0 : Kin } (planTo { pos := (match atPlan0.fedMotor 2 with | some m => (atPlan0.motors.get Motor.reset m).fbpos | none => (atPlan0.planners.get Planner.reset 2).kin.lsb) * s16, vel := 0, acc := 0 : Kin } ({ tag := 0x00#8, kind := 0x1#4, blend := false, revok := false, quick := false, table := 0, arg := 300000, vmax := 0x00000000#32, amax := 0x00000000#32, dmax := 0x00000000#32, jmax := 0x00000000#32, id := 0x00000000#32, fusion := false } : Move).arg (atPlan0.mpi.limits (2) ({ tag := 0x00#8, kind := 0x1#4, blend := false, revok := false, quick := false, table := 0, arg := 300000, vmax := 0x00000000#32, amax := 0x00000000#32, dmax := 0x00000000#32, jmax := 0x00000000#32, id := 0x00000000#32, fusion := false } : Move))).pieces atPlan0.cycleUs).snd.fst, ({ jerk := 1000, dur := 800000, endVel := none, endPos := none } : Piece) :: (runPieces { pos := (match atPlan0.fedMotor 2 with | some m => (atPlan0.motors.get Motor.reset m).fbpos | none => (atPlan0.planners.get Planner.reset 2).kin.lsb) * s16, vel := 0, acc := 0 : Kin } (planTo { pos := (match atPlan0.fedMotor 2 with | some m => (atPlan0.motors.get Motor.reset m).fbpos | none => (atPlan0.planners.get Planner.reset 2).kin.lsb) * s16, vel := 0, acc := 0 : Kin } ({ tag := 0x00#8, kind := 0x1#4, blend := false, revok := false, quick := false, table := 0, arg := 300000, vmax := 0x00000000#32, amax := 0x00000000#32, dmax := 0x00000000#32, jmax := 0x00000000#32, id := 0x00000000#32, fusion := false } : Move).arg (atPlan0.mpi.limits (2) ({ tag := 0x00#8, kind := 0x1#4, blend := false, revok := false, quick := false, table := 0, arg := 300000, vmax := 0x00000000#32, amax := 0x00000000#32, dmax := 0x00000000#32, jmax := 0x00000000#32, id := 0x00000000#32, fusion := false } : Move))).pieces atPlan0.cycleUs).snd.snd.tail))) ∧
    ((atPlan1.switching = false) ∧
      (atPlan1.quiet Island.mpi = false) ∧
      (atPlan1.stepper 2 = false) ∧
      (atPlan1.noneWaits [1296 + 2]) ∧
      (atPlan1.planKind 2 = 2 ∨ atPlan1.planKind 2 = 3) ∧
      ((atPlan1.planners.get Planner.reset 2).stalled = false) ∧
      ((atPlan1.planners.get Planner.reset 2).pwrLock = false) ∧
      ((atPlan1.planners.get Planner.reset 2).standing = false) ∧
      ((atPlan1.planners.get Planner.reset 2).motion = Motion.rest) ∧
      ((atPlan1.planners.get Planner.reset 2).running = none) ∧
      (atPlan1.tableValid (2) ({ tag := 0x00#8, kind := 0x4#4, blend := false, revok := false, quick := false, table := 0, arg := 5, vmax := 0x00000000#32, amax := 0x00000000#32, dmax := 0x00000000#32, jmax := 0x00000000#32, id := 0x00000000#32, fusion := false } : Move).table = true) ∧
      (({ tag := 0x00#8, kind := 0x4#4, blend := false, revok := false, quick := false, table := 0, arg := 5, vmax := 0x00000000#32, amax := 0x00000000#32, dmax := 0x00000000#32, jmax := 0x00000000#32, id := 0x00000000#32, fusion := false } : Move).kind = 4) ∧
      (({ tag := 0x00#8, kind := 0x4#4, blend := false, revok := false, quick := false, table := 0, arg := 5, vmax := 0x00000000#32, amax := 0x00000000#32, dmax := 0x00000000#32, jmax := 0x00000000#32, id := 0x00000000#32, fusion := false } : Move).fusion = false) ∧
      ((atPlan1.planners.get Planner.reset 2).held = [({ tag := 0x00#8, kind := 0x4#4, blend := false, revok := false, quick := false, table := 0, arg := 5, vmax := 0x00000000#32, amax := 0x00000000#32, dmax := 0x00000000#32, jmax := 0x00000000#32, id := 0x00000000#32, fusion := false } : Move)]) ∧
      (({ t := 0, p := 0, v := 0 } : Knot).v = 0) ∧
      (atPlan1.knots (2) ({ tag := 0x00#8, kind := 0x4#4, blend := false, revok := false, quick := false, table := 0, arg := 5, vmax := 0x00000000#32, amax := 0x00000000#32, dmax := 0x00000000#32, jmax := 0x00000000#32, id := 0x00000000#32, fusion := false } : Move).table = ({ t := 0, p := 0, v := 0 } : Knot) :: ({ t := 5000, p := 0, v := 0 } : Knot) :: (atPlan1.knots (2) ({ tag := 0x00#8, kind := 0x4#4, blend := false, revok := false, quick := false, table := 0, arg := 5, vmax := 0x00000000#32, amax := 0x00000000#32, dmax := 0x00000000#32, jmax := 0x00000000#32, id := 0x00000000#32, fusion := false } : Move).table).tail.tail) ∧
      (knotPair atPlan1.cycleUs (({ t := 0, p := 0, v := 0 } : Knot) :: ({ t := 5000, p := 0, v := 0 } : Knot) :: (atPlan1.knots (2) ({ tag := 0x00#8, kind := 0x4#4, blend := false, revok := false, quick := false, table := 0, arg := 5, vmax := 0x00000000#32, amax := 0x00000000#32, dmax := 0x00000000#32, jmax := 0x00000000#32, id := 0x00000000#32, fusion := false } : Move).table).tail.tail) = some (({ t := 0, p := 0, v := 0 }, { t := 5000, p := 0, v := 0 }) : Knot × Knot))) ∧
    ((atPlan2.switching = false) ∧
      (atPlan2.quiet Island.mpi = false) ∧
      (atPlan2.stepper 2 = false) ∧
      (atPlan2.noneWaits [1296 + 2]) ∧
      (atPlan2.planKind 2 = 2 ∨ atPlan2.planKind 2 = 3) ∧
      ((atPlan2.planners.get Planner.reset 2).held = []) ∧
      ((atPlan2.planners.get Planner.reset 2).motion = Motion.plan ({ pos := 0, vel := 100000, acc := 0 } : Kin) 0 (100000 : Int) ([{ jerk := 0, dur := 100000, endVel := none, endPos := none }] : List Piece) (PlanEnd.arrive 300000 : PlanEnd)) ∧
      (runPieces ({ pos := 0, vel := 100000, acc := 0 } : Kin) ([{ jerk := 0, dur := 100000, endVel := none, endPos := none }] : List Piece) (0 + atPlan2.cycleUs) = ((runPieces ({ pos := 0, vel := 100000, acc := 0 } : Kin) ([{ jerk := 0, dur := 100000, endVel := none, endPos := none }] : List Piece) (0 + atPlan2.cycleUs)).fst, (runPieces ({ pos := 0, vel := 100000, acc := 0 } : Kin) ([{ jerk := 0, dur := 100000, endVel := none, endPos := none }] : List Piece) (0 + atPlan2.cycleUs)).snd.fst, ({ jerk := 0, dur := 100000, endVel := none, endPos := none } : Piece) :: (runPieces ({ pos := 0, vel := 100000, acc := 0 } : Kin) ([{ jerk := 0, dur := 100000, endVel := none, endPos := none }] : List Piece) (0 + atPlan2.cycleUs)).snd.snd.tail)) ∧
      ((atPlan2.planners.get Planner.reset 2).running = some ({ tag := 0x00#8, kind := 0x1#4, blend := false, revok := false, quick := false, table := 0, arg := 5, vmax := 0x00000000#32, amax := 0x00000000#32, dmax := 0x00000000#32, jmax := 0x00000000#32, id := 0x00000000#32, fusion := false } : Move))) ∧
    ((atPlan3.switching = false) ∧
      (atPlan3.quiet Island.mpi = false) ∧
      (atPlan3.stepper 2 = false) ∧
      (atPlan3.noneWaits [1296 + 2]) ∧
      (atPlan3.planKind 2 = 2 ∨ atPlan3.planKind 2 = 3) ∧
      ((atPlan3.planners.get Planner.reset 2).held = []) ∧
      ((atPlan3.planners.get Planner.reset 2).motion = Motion.plan ({ pos := 0, vel := 100000, acc := 0 } : Kin) 0 (0 : Int) ([] : List Piece) (PlanEnd.arrive (5 : Int))) ∧
      (runPieces ({ pos := 0, vel := 100000, acc := 0 } : Kin) ([] : List Piece) (0 + atPlan3.cycleUs) = ((runPieces ({ pos := 0, vel := 100000, acc := 0 } : Kin) ([] : List Piece) (0 + atPlan3.cycleUs)).fst, (runPieces ({ pos := 0, vel := 100000, acc := 0 } : Kin) ([] : List Piece) (0 + atPlan3.cycleUs)).snd.fst, [])) ∧
      (({ tag := 0x00#8, kind := 0x1#4, blend := false, revok := false, quick := false, table := 0, arg := 5, vmax := 0x00000000#32, amax := 0x00000000#32, dmax := 0x00000000#32, jmax := 0x00000000#32, id := 0x00000000#32, fusion := false } : Move).id ≠ 4294967294) ∧
      (({ tag := 0x00#8, kind := 0x1#4, blend := false, revok := false, quick := false, table := 0, arg := 5, vmax := 0x00000000#32, amax := 0x00000000#32, dmax := 0x00000000#32, jmax := 0x00000000#32, id := 0x00000000#32, fusion := false } : Move).fusion = false) ∧
      ((atPlan3.planners.get Planner.reset 2).running = some ({ tag := 0x00#8, kind := 0x1#4, blend := false, revok := false, quick := false, table := 0, arg := 5, vmax := 0x00000000#32, amax := 0x00000000#32, dmax := 0x00000000#32, jmax := 0x00000000#32, id := 0x00000000#32, fusion := false } : Move))) ∧
    ((atPlan4.switching = false) ∧
      (atPlan4.quiet Island.mpi = false) ∧
      (atPlan4.stepper 2 = false) ∧
      (atPlan4.noneWaits [1296 + 2]) ∧
      (atPlan4.planKind 2 = 2 ∨ atPlan4.planKind 2 = 3) ∧
      ((atPlan4.planners.get Planner.reset 2).held = []) ∧
      ((atPlan4.planners.get Planner.reset 2).motion = Motion.plan ({ pos := 0, vel := 100000, acc := 0 } : Kin) 0 (0 : Int) ([] : List Piece) (PlanEnd.stopped 0x04#8)) ∧
      (runPieces ({ pos := 0, vel := 100000, acc := 0 } : Kin) ([] : List Piece) (0 + atPlan4.cycleUs) = ((runPieces ({ pos := 0, vel := 100000, acc := 0 } : Kin) ([] : List Piece) (0 + atPlan4.cycleUs)).fst, (runPieces ({ pos := 0, vel := 100000, acc := 0 } : Kin) ([] : List Piece) (0 + atPlan4.cycleUs)).snd.fst, [])) ∧
      (({ tag := 0x00#8, kind := 0x1#4, blend := false, revok := false, quick := false, table := 0, arg := 5, vmax := 0x00000000#32, amax := 0x00000000#32, dmax := 0x00000000#32, jmax := 0x00000000#32, id := 0x00000000#32, fusion := false } : Move).id ≠ 4294967294) ∧
      (({ tag := 0x00#8, kind := 0x1#4, blend := false, revok := false, quick := false, table := 0, arg := 5, vmax := 0x00000000#32, amax := 0x00000000#32, dmax := 0x00000000#32, jmax := 0x00000000#32, id := 0x00000000#32, fusion := false } : Move).fusion = false) ∧
      ((atPlan4.planners.get Planner.reset 2).running = some ({ tag := 0x00#8, kind := 0x1#4, blend := false, revok := false, quick := false, table := 0, arg := 5, vmax := 0x00000000#32, amax := 0x00000000#32, dmax := 0x00000000#32, jmax := 0x00000000#32, id := 0x00000000#32, fusion := false } : Move))) ∧
    ((atPlan5.switching = false) ∧
      (atPlan5.quiet Island.mpi = false) ∧
      (atPlan5.stepper 2 = false) ∧
      (atPlan5.noneWaits [1296 + 2]) ∧
      (atPlan5.planKind 2 = 2 ∨ atPlan5.planKind 2 = 3) ∧
      ((atPlan5.planners.get Planner.reset 2).stalled = false) ∧
      ((atPlan5.planners.get Planner.reset 2).pwrLock = false) ∧
      ((0 : Int) < ↑atPlan5.cycleUs) ∧
      (0 ≤ (0 : Int)) ∧
      ((atPlan5.planners.get Planner.reset 2).motion = Motion.plan ({ pos := 0, vel := 100000, acc := 0 } : Kin) 0 (0 : Int) ([{ jerk := 0, dur := 100000, endVel := none, endPos := none }] : List Piece) (PlanEnd.arrive (5 : Int))) ∧
      (({ tag := 0x00#8, kind := 0x1#4, blend := false, revok := false, quick := false, table := 0, arg := 5, vmax := 0x00000000#32, amax := 0x00000000#32, dmax := 0x00000000#32, jmax := 0x00000000#32, id := 0x00000000#32, fusion := false } : Move).id ≠ 4294967294) ∧
      (({ tag := 0x00#8, kind := 0x1#4, blend := false, revok := false, quick := false, table := 0, arg := 5, vmax := 0x00000000#32, amax := 0x00000000#32, dmax := 0x00000000#32, jmax := 0x00000000#32, id := 0x00000000#32, fusion := false } : Move).fusion = false) ∧
      (({ tag := 0x00#8, kind := 0x1#4, blend := false, revok := false, quick := false, table := 0, arg := 5, vmax := 0x00000000#32, amax := 0x00000000#32, dmax := 0x00000000#32, jmax := 0x00000000#32, id := 0x00000000#32, fusion := false } : Move).kind = 1 ∨ ({ tag := 0x00#8, kind := 0x1#4, blend := false, revok := false, quick := false, table := 0, arg := 5, vmax := 0x00000000#32, amax := 0x00000000#32, dmax := 0x00000000#32, jmax := 0x00000000#32, id := 0x00000000#32, fusion := false } : Move).kind = 2) ∧
      ((atPlan5.planners.get Planner.reset 2).running = some ({ tag := 0x00#8, kind := 0x1#4, blend := false, revok := false, quick := false, table := 0, arg := 5, vmax := 0x00000000#32, amax := 0x00000000#32, dmax := 0x00000000#32, jmax := 0x00000000#32, id := 0x00000000#32, fusion := false } : Move)) ∧
      (0 < (({ tag := 0x00#8, kind := 0x1#4, blend := true, revok := false, quick := false, table := 0, arg := 300000, vmax := 0x00000000#32, amax := 0x00000000#32, dmax := 0x00000000#32, jmax := 0x00000000#32, id := 0x00000000#32, fusion := false } : Move).arg - (5 : Int)) * sgn (atPlan5.planners.get Planner.reset 2).kin.vel) ∧
      (({ tag := 0x00#8, kind := 0x1#4, blend := true, revok := false, quick := false, table := 0, arg := 300000, vmax := 0x00000000#32, amax := 0x00000000#32, dmax := 0x00000000#32, jmax := 0x00000000#32, id := 0x00000000#32, fusion := false } : Move).blend = true) ∧
      (({ tag := 0x00#8, kind := 0x1#4, blend := true, revok := false, quick := false, table := 0, arg := 300000, vmax := 0x00000000#32, amax := 0x00000000#32, dmax := 0x00000000#32, jmax := 0x00000000#32, id := 0x00000000#32, fusion := false } : Move).arg ≤ BitVec.toInt (atPlan5.reg Reg.MPI_PLSOFTHI [2])) ∧
      (BitVec.toInt (atPlan5.reg Reg.MPI_PLSOFTLO [2]) ≤ ({ tag := 0x00#8, kind := 0x1#4, blend := true, revok := false, quick := false, table := 0, arg := 300000, vmax := 0x00000000#32, amax := 0x00000000#32, dmax := 0x00000000#32, jmax := 0x00000000#32, id := 0x00000000#32, fusion := false } : Move).arg) ∧
      (({ tag := 0x00#8, kind := 0x1#4, blend := true, revok := false, quick := false, table := 0, arg := 300000, vmax := 0x00000000#32, amax := 0x00000000#32, dmax := 0x00000000#32, jmax := 0x00000000#32, id := 0x00000000#32, fusion := false } : Move).fusion = false) ∧
      (({ tag := 0x00#8, kind := 0x1#4, blend := true, revok := false, quick := false, table := 0, arg := 300000, vmax := 0x00000000#32, amax := 0x00000000#32, dmax := 0x00000000#32, jmax := 0x00000000#32, id := 0x00000000#32, fusion := false } : Move).kind = 1 ∨ ({ tag := 0x00#8, kind := 0x1#4, blend := true, revok := false, quick := false, table := 0, arg := 300000, vmax := 0x00000000#32, amax := 0x00000000#32, dmax := 0x00000000#32, jmax := 0x00000000#32, id := 0x00000000#32, fusion := false } : Move).kind = 2) ∧
      ((atPlan5.planners.get Planner.reset 2).held = [({ tag := 0x00#8, kind := 0x1#4, blend := true, revok := false, quick := false, table := 0, arg := 300000, vmax := 0x00000000#32, amax := 0x00000000#32, dmax := 0x00000000#32, jmax := 0x00000000#32, id := 0x00000000#32, fusion := false } : Move)]) ∧
      ((planTo (atPlan5.planners.get Planner.reset 2).kin ({ tag := 0x00#8, kind := 0x1#4, blend := true, revok := false, quick := false, table := 0, arg := 300000, vmax := 0x00000000#32, amax := 0x00000000#32, dmax := 0x00000000#32, jmax := 0x00000000#32, id := 0x00000000#32, fusion := false } : Move).arg (atPlan5.mpi.limits (2) ({ tag := 0x00#8, kind := 0x1#4, blend := true, revok := false, quick := false, table := 0, arg := 300000, vmax := 0x00000000#32, amax := 0x00000000#32, dmax := 0x00000000#32, jmax := 0x00000000#32, id := 0x00000000#32, fusion := false } : Move))).kind = PlanKind.direct (1253337 : Int)) ∧
      (runPieces (atPlan5.planners.get Planner.reset 2).kin (planTo (atPlan5.planners.get Planner.reset 2).kin ({ tag := 0x00#8, kind := 0x1#4, blend := true, revok := false, quick := false, table := 0, arg := 300000, vmax := 0x00000000#32, amax := 0x00000000#32, dmax := 0x00000000#32, jmax := 0x00000000#32, id := 0x00000000#32, fusion := false } : Move).arg (atPlan5.mpi.limits (2) ({ tag := 0x00#8, kind := 0x1#4, blend := true, revok := false, quick := false, table := 0, arg := 300000, vmax := 0x00000000#32, amax := 0x00000000#32, dmax := 0x00000000#32, jmax := 0x00000000#32, id := 0x00000000#32, fusion := false } : Move))).pieces atPlan5.cycleUs = ((runPieces (atPlan5.planners.get Planner.reset 2).kin (planTo (atPlan5.planners.get Planner.reset 2).kin ({ tag := 0x00#8, kind := 0x1#4, blend := true, revok := false, quick := false, table := 0, arg := 300000, vmax := 0x00000000#32, amax := 0x00000000#32, dmax := 0x00000000#32, jmax := 0x00000000#32, id := 0x00000000#32, fusion := false } : Move).arg (atPlan5.mpi.limits (2) ({ tag := 0x00#8, kind := 0x1#4, blend := true, revok := false, quick := false, table := 0, arg := 300000, vmax := 0x00000000#32, amax := 0x00000000#32, dmax := 0x00000000#32, jmax := 0x00000000#32, id := 0x00000000#32, fusion := false } : Move))).pieces atPlan5.cycleUs).fst, (runPieces (atPlan5.planners.get Planner.reset 2).kin (planTo (atPlan5.planners.get Planner.reset 2).kin ({ tag := 0x00#8, kind := 0x1#4, blend := true, revok := false, quick := false, table := 0, arg := 300000, vmax := 0x00000000#32, amax := 0x00000000#32, dmax := 0x00000000#32, jmax := 0x00000000#32, id := 0x00000000#32, fusion := false } : Move).arg (atPlan5.mpi.limits (2) ({ tag := 0x00#8, kind := 0x1#4, blend := true, revok := false, quick := false, table := 0, arg := 300000, vmax := 0x00000000#32, amax := 0x00000000#32, dmax := 0x00000000#32, jmax := 0x00000000#32, id := 0x00000000#32, fusion := false } : Move))).pieces atPlan5.cycleUs).snd.fst, ({ jerk := 1000, dur := 800000, endVel := none, endPos := none } : Piece) :: (runPieces (atPlan5.planners.get Planner.reset 2).kin (planTo (atPlan5.planners.get Planner.reset 2).kin ({ tag := 0x00#8, kind := 0x1#4, blend := true, revok := false, quick := false, table := 0, arg := 300000, vmax := 0x00000000#32, amax := 0x00000000#32, dmax := 0x00000000#32, jmax := 0x00000000#32, id := 0x00000000#32, fusion := false } : Move).arg (atPlan5.mpi.limits (2) ({ tag := 0x00#8, kind := 0x1#4, blend := true, revok := false, quick := false, table := 0, arg := 300000, vmax := 0x00000000#32, amax := 0x00000000#32, dmax := 0x00000000#32, jmax := 0x00000000#32, id := 0x00000000#32, fusion := false } : Move))).pieces atPlan5.cycleUs).snd.snd.tail))) ∧
    ((atPlan6.switching = false) ∧
      (atPlan6.quiet Island.mpi = false) ∧
      (atPlan6.stepper 2 = false) ∧
      (atPlan6.noneWaits [1296 + 2]) ∧
      (atPlan6.planKind 2 = 2 ∨ atPlan6.planKind 2 = 3) ∧
      ((atPlan6.planners.get Planner.reset 2).held = []) ∧
      ((atPlan6.planners.get Planner.reset 2).motion = Motion.table (7 : Int) 0 0) ∧
      (knotPair (0 + atPlan6.cycleUs) (atPlan6.knots (2) 0) = some (({ t := 0, p := 0, v := 0 }, { t := 5000, p := 0, v := 0 }) : Knot × Knot)) ∧
      ((atPlan6.planners.get Planner.reset 2).running = some ({ tag := 0x00#8, kind := 0x1#4, blend := false, revok := false, quick := false, table := 0, arg := 5, vmax := 0x00000000#32, amax := 0x00000000#32, dmax := 0x00000000#32, jmax := 0x00000000#32, id := 0x00000000#32, fusion := false } : Move))) ∧
    ((atPlan7.switching = false) ∧
      (atPlan7.quiet Island.mpi = false) ∧
      (atPlan7.stepper 2 = false) ∧
      (atPlan7.noneWaits [1296 + 2]) ∧
      (atPlan7.planKind 2 = 2 ∨ atPlan7.planKind 2 = 3) ∧
      ((atPlan7.planners.get Planner.reset 2).held = []) ∧
      (knotPair (4800 + atPlan7.cycleUs) (atPlan7.knots (2) 0) = none) ∧
      ((atPlan7.planners.get Planner.reset 2).motion = Motion.table (7 : Int) 4800 0) ∧
      (({ t := 5000, p := 0, v := 0 } : Knot).v = 0) ∧
      ((atPlan7.knots (2) 0).getLast? = some ({ t := 5000, p := 0, v := 0 } : Knot)) ∧
      (({ tag := 0x00#8, kind := 0x1#4, blend := false, revok := false, quick := false, table := 0, arg := 5, vmax := 0x00000000#32, amax := 0x00000000#32, dmax := 0x00000000#32, jmax := 0x00000000#32, id := 0x00000000#32, fusion := false } : Move).id ≠ 4294967294) ∧
      (({ tag := 0x00#8, kind := 0x1#4, blend := false, revok := false, quick := false, table := 0, arg := 5, vmax := 0x00000000#32, amax := 0x00000000#32, dmax := 0x00000000#32, jmax := 0x00000000#32, id := 0x00000000#32, fusion := false } : Move).fusion = false) ∧
      ((atPlan7.planners.get Planner.reset 2).running = some ({ tag := 0x00#8, kind := 0x1#4, blend := false, revok := false, quick := false, table := 0, arg := 5, vmax := 0x00000000#32, amax := 0x00000000#32, dmax := 0x00000000#32, jmax := 0x00000000#32, id := 0x00000000#32, fusion := false } : Move))) ∧
    ((atPlan0.planKind 7 = 0 ∨ atPlan0.quiet Island.mpi = true)) ∧
    ((atPlan0.fusion.stat ≠ FusionState.tracking) ∧
      (atPlan0.carPlanner = some 0)) ∧
    ((atPlan19.fusion.stat = FusionState.tracking) ∧
      ((atPlan19.planners.get Planner.reset 0).degLock = false) ∧
      (atPlan19.carPlanner = some 0) ∧
      (BitVec.getLsbD 0x00000000#32 8 = false)) ∧
    ((({ words := [0x00000001#32], poison := false } : Item).poison = true ∨ ({ words := [0x00000001#32], poison := false } : Item).words.length ≠ 4)) ∧
    (((atPlan16.planners.get Planner.reset 2).kin.acc = 0) ∧
      ((atPlan16.planners.get Planner.reset 2).kin.vel = 0) ∧
      ((atPlan16.planners.get Planner.reset 2).motion = Motion.dwell (5 : Int)) ∧
      (0 ≤ (atPlan16.mpi.limits 2 { tag := ({ tag := 0x00#8, kind := 0x1#4, blend := false, revok := false, quick := false, table := 0, arg := 5, vmax := 0x00000000#32, amax := 0x00000000#32, dmax := 0x00000000#32, jmax := 0x00000000#32, id := 0x00000000#32, fusion := false } : Move).tag, kind := ({ tag := 0x00#8, kind := 0x1#4, blend := false, revok := false, quick := false, table := 0, arg := 5, vmax := 0x00000000#32, amax := 0x00000000#32, dmax := 0x00000000#32, jmax := 0x00000000#32, id := 0x00000000#32, fusion := false } : Move).kind, blend := ({ tag := 0x00#8, kind := 0x1#4, blend := false, revok := false, quick := false, table := 0, arg := 5, vmax := 0x00000000#32, amax := 0x00000000#32, dmax := 0x00000000#32, jmax := 0x00000000#32, id := 0x00000000#32, fusion := false } : Move).blend, revok := ({ tag := 0x00#8, kind := 0x1#4, blend := false, revok := false, quick := false, table := 0, arg := 5, vmax := 0x00000000#32, amax := 0x00000000#32, dmax := 0x00000000#32, jmax := 0x00000000#32, id := 0x00000000#32, fusion := false } : Move).revok, quick := ({ tag := 0x00#8, kind := 0x1#4, blend := false, revok := false, quick := false, table := 0, arg := 5, vmax := 0x00000000#32, amax := 0x00000000#32, dmax := 0x00000000#32, jmax := 0x00000000#32, id := 0x00000000#32, fusion := false } : Move).quick, table := ({ tag := 0x00#8, kind := 0x1#4, blend := false, revok := false, quick := false, table := 0, arg := 5, vmax := 0x00000000#32, amax := 0x00000000#32, dmax := 0x00000000#32, jmax := 0x00000000#32, id := 0x00000000#32, fusion := false } : Move).table, arg := (5 : Int), vmax := ({ tag := 0x00#8, kind := 0x1#4, blend := false, revok := false, quick := false, table := 0, arg := 5, vmax := 0x00000000#32, amax := 0x00000000#32, dmax := 0x00000000#32, jmax := 0x00000000#32, id := 0x00000000#32, fusion := false } : Move).vmax, amax := ({ tag := 0x00#8, kind := 0x1#4, blend := false, revok := false, quick := false, table := 0, arg := 5, vmax := 0x00000000#32, amax := 0x00000000#32, dmax := 0x00000000#32, jmax := 0x00000000#32, id := 0x00000000#32, fusion := false } : Move).amax, dmax := ({ tag := 0x00#8, kind := 0x1#4, blend := false, revok := false, quick := false, table := 0, arg := 5, vmax := 0x00000000#32, amax := 0x00000000#32, dmax := 0x00000000#32, jmax := 0x00000000#32, id := 0x00000000#32, fusion := false } : Move).dmax, jmax := ({ tag := 0x00#8, kind := 0x1#4, blend := false, revok := false, quick := false, table := 0, arg := 5, vmax := 0x00000000#32, amax := 0x00000000#32, dmax := 0x00000000#32, jmax := 0x00000000#32, id := 0x00000000#32, fusion := false } : Move).jmax, id := ({ tag := 0x00#8, kind := 0x1#4, blend := false, revok := false, quick := false, table := 0, arg := 5, vmax := 0x00000000#32, amax := 0x00000000#32, dmax := 0x00000000#32, jmax := 0x00000000#32, id := 0x00000000#32, fusion := false } : Move).id, fusion := ({ tag := 0x00#8, kind := 0x1#4, blend := false, revok := false, quick := false, table := 0, arg := 5, vmax := 0x00000000#32, amax := 0x00000000#32, dmax := 0x00000000#32, jmax := 0x00000000#32, id := 0x00000000#32, fusion := false } : Move).fusion : Move }).vm) ∧
      ((atPlan16.planners.get Planner.reset 2).running = some ({ tag := 0x00#8, kind := 0x1#4, blend := false, revok := false, quick := false, table := 0, arg := 5, vmax := 0x00000000#32, amax := 0x00000000#32, dmax := 0x00000000#32, jmax := 0x00000000#32, id := 0x00000000#32, fusion := false } : Move))) ∧
    (((atPlan17.planners.get Planner.reset 2).motion = Motion.arriving (5 : Int)) ∧
      (({ tag := 0x00#8, kind := 0x1#4, blend := false, revok := false, quick := false, table := 0, arg := 5, vmax := 0x00000000#32, amax := 0x00000000#32, dmax := 0x00000000#32, jmax := 0x00000000#32, id := 0x00000000#32, fusion := false } : Move).id ≠ 4294967294) ∧
      (({ tag := 0x00#8, kind := 0x1#4, blend := false, revok := false, quick := false, table := 0, arg := 5, vmax := 0x00000000#32, amax := 0x00000000#32, dmax := 0x00000000#32, jmax := 0x00000000#32, id := 0x00000000#32, fusion := false } : Move).fusion = false) ∧
      ((atPlan17.planners.get Planner.reset 2).running = some ({ tag := 0x00#8, kind := 0x1#4, blend := false, revok := false, quick := false, table := 0, arg := 5, vmax := 0x00000000#32, amax := 0x00000000#32, dmax := 0x00000000#32, jmax := 0x00000000#32, id := 0x00000000#32, fusion := false } : Move))) ∧
    ((atPlan18.stepper 2 = true) ∧
      ((atPlan18.planners.get Planner.reset 2).motion = Motion.rest) ∧
      ((atPlan18.planners.get Planner.reset 2).running = none)) ∧
    ((atPlan0.planKind 2 ≠ 0) ∧
      (BitVec.getLsbD 0x00000000#32 1 = false)) ∧
    ((atPlan0.planKind 2 ≠ 0) ∧
      (BitVec.getLsbD 0x00000000#32 2 = false)) ∧
    ((atPlan0.planKind 2 ≠ 0) ∧
      ((atPlan0.planners.get Planner.reset 2).motion = Motion.rest)) ∧
    ((atPlan0.planKind 7 = 0 ∨ (atPlan0.planners.get Planner.reset 7).motion ≠ Motion.rest)) := by
  and_intros
  all_goals decide +kernel

theorem witness_LoopEnginesSample :
    ((atLoop0.LEHOLD_HOLD 4 = 1) ∧
      (atLoop0.mc.freeDue 4 = true) ∧
      (atLoop0.loopRuns 4 = true) ∧
      (4 ≤ 4) ∧
      (∀ (j : Nat), j < 6 → (Loop.cfg atLoop0 (atLoop0.loops.get Loop.reset 4) (4) j).en = false) ∧
      (({ words := [0x00000007#32], poison := false } : Item).poison = false) ∧
      (atLoop0.qf.takeItem (1328 + 2 * (4 - 4)) = (some ({ words := [0x00000007#32], poison := false } : Item), (atLoop0.qf.takeItem (1328 + 2 * (4 - 4))).snd)) ∧
      (0 ≠ 4)) ∧
    ((atLoop3.LEHOLD_HOLD 4 = 1) ∧
      (atLoop3.mc.freeDue 4 = true) ∧
      (atLoop3.loopRuns 4 = true) ∧
      (4 ≤ 4) ∧
      (BitVec.getLsbD ((atLoop3.loops.get Loop.reset 4).copy Reg.LECTL [4]) 8 = false) ∧
      (({ words := [0x00000007#32], poison := false } : Item).poison = false) ∧
      (atLoop3.qf.takeItem (1328 + 2 * (4 - 4)) = (some ({ words := [0x00000007#32], poison := false } : Item), (atLoop3.qf.takeItem (1328 + 2 * (4 - 4))).snd)) ∧
      (((atLoop3.loops.get Loop.reset 4).slots.get Slot.reset 0).i = 0) ∧
      (∀ (j : Nat), j < 6 → (Loop.cfg atLoop3 (atLoop3.loops.get Loop.reset 4) (4) j).en = decide (j = 0)) ∧
      (0 < 6) ∧
      (({ words := [0x00000007#32], poison := false } : Item).words = [0x00000007#32]) ∧
      (0 ≤ (Loop.cfg atLoop3 (atLoop3.loops.get Loop.reset 4) (4) 0).outmax) ∧
      ((Loop.cfg atLoop3 (atLoop3.loops.get Loop.reset 4) (4) 0).outmin ≤ 0) ∧
      ((Loop.cfg atLoop3 (atLoop3.loops.get Loop.reset 4) (4) 0).kd = 0) ∧
      ((Loop.cfg atLoop3 (atLoop3.loops.get Loop.reset 4) (4) 0).ki = 0) ∧
      ((Loop.cfg atLoop3 (atLoop3.loops.get Loop.reset 4) (4) 0).rate = 0) ∧
      ((Loop.cfg atLoop3 (atLoop3.loops.get Loop.reset 4) (4) 0).ffen = false) ∧
      ((Loop.cfg atLoop3 (atLoop3.loops.get Loop.reset 4) (4) 0).mneg = false) ∧
      ((Loop.cfg atLoop3 (atLoop3.loops.get Loop.reset 4) (4) 0).mdir = false) ∧
      ((Loop.cfg atLoop3 (atLoop3.loops.get Loop.reset 4) (4) 0).sdir = false) ∧
      ((Loop.cfg atLoop3 (atLoop3.loops.get Loop.reset 4) (4) 0).msrc = 16) ∧
      ((Loop.cfg atLoop3 (atLoop3.loops.get Loop.reset 4) (4) 0).ssrc = 0)) ∧
    ((atLoop2.noneWaits [1328 + 2 * (4 - 4)]) ∧
      (atLoop2.LEHOLD_HOLD 4 = 1) ∧
      (atLoop2.mc.freeDue 4 = true) ∧
      (atLoop2.loopRuns 4 = true) ∧
      (4 ≤ 4)) ∧
    ((atLoop8.mc.freeDue 4 = false) ∧
      (4 ≤ 4)) ∧
    ((atLoop26.LEHOLD_HOLD 2 = 1) ∧
      (atLoop26.loopRuns 2 = true) ∧
      (atLoop26.motorMode 2 = 2) ∧
      (2 < 4)) ∧
    (((atLoop10.motors.get Motor.reset 0).bridge ≠ BridgeState.run) ∧
      (atLoop10.noneWaits [(6 + 0) * 256 + 2]) ∧
      (atLoop10.routedTo ((6 + 0) * 256) = false) ∧
      (atLoop10.LEHOLD_HOLD 0 = 1) ∧
      (atLoop10.loopRuns 0 = true) ∧
      (atLoop10.motorMode 0 ≠ 2) ∧
      (0 < 4)) ∧
    (((atLoop11.motors.get Motor.reset 0).bridge = BridgeState.run) ∧
      (atLoop11.noneWaits [(6 + 0) * 256 + 2]) ∧
      (atLoop11.motorMode 0 = 1) ∧
      (atLoop11.routedTo ((6 + 0) * 256) = false) ∧
      (atLoop11.LEHOLD_HOLD 0 = 1) ∧
      (atLoop11.loopRuns 0 = true) ∧
      (0 < 4) ∧
      (Loop.usesAux atLoop11 (atLoop11.loops.get Loop.reset 0) (0) (atLoop11.speedTime * atLoop11.speedHz / 1000000) = false) ∧
      (∀ (j : Nat), j < 6 → (Loop.cfg atLoop11 (atLoop11.loops.get Loop.reset 0) (0) j).en = false) ∧
      ((atLoop11.loops.get Loop.reset 0).aux = none)) ∧
    ((atLoop0.loopRuns 3 = false)) ∧
    ((atLoop9.rwlOpen Reg.LEHOLD [0]) ∧
      (BitVec.getLsbD 0x00000001#32 0 = true)) ∧
    ((atLoop9.rwlOpen Reg.LEHOLD [0]) ∧
      (BitVec.getLsbD 0x00000000#32 0 = false)) := by
  and_intros
  all_goals decide +kernel

theorem witness_BridgeStartsAndStops :
    ((atLoop11.motorMode 0 = 1) ∧
      (atLoop11.motorRuns 0 = true) ∧
      ((atLoop11.motors.get Motor.reset 0).bridge = BridgeState.run) ∧
      (↑(atLoop11.MC_OCLIM 0) < absInt (((atLoop11.mc.convert (0) ([0x2000#14, 0x2000#14, 0x2000#14] : List (BitVec 14)) 0x0000#14 (none : Option (BitVec 14))).motor 0).icur.get 0 0))) ∧
    ((atLoop13.motorMode 0 = 1) ∧
      (atLoop13.motorRuns 0 = true) ∧
      ((atLoop13.motors.get Motor.reset 0).bridge = BridgeState.run) ∧
      (↑(atLoop13.MC_VDCMIN 0) ≤ ((atLoop13.mc.convert (0) ([0x2000#14, 0x2000#14, 0x2000#14] : List (BitVec 14)) 0x3fff#14 (none : Option (BitVec 14))).motor 0).vdc) ∧
      (∀ (j : Nat), j < 3 → absInt (((atLoop13.mc.convert (0) ([0x2000#14, 0x2000#14, 0x2000#14] : List (BitVec 14)) 0x3fff#14 (none : Option (BitVec 14))).motor 0).icur.get 0 j) ≤ ↑(atLoop13.MC_OCLIM 0))) ∧
    ((atLoop13.motorMode 0 = 1) ∧
      (atLoop13.motorRuns 0 = true) ∧
      ((atLoop13.motors.get Motor.reset 0).bridge = BridgeState.run) ∧
      (((atLoop13.mc.convert (0) ([0x2000#14, 0x2000#14, 0x2000#14] : List (BitVec 14)) 0x0000#14 (none : Option (BitVec 14))).motor 0).vdc < ↑(atLoop13.MC_VDCMIN 0)) ∧
      (∀ (j : Nat), j < 3 → absInt (((atLoop13.mc.convert (0) ([0x2000#14, 0x2000#14, 0x2000#14] : List (BitVec 14)) 0x0000#14 (none : Option (BitVec 14))).motor 0).icur.get 0 j) ≤ ↑(atLoop13.MC_OCLIM 0))) ∧
    ((atLoop0.motorRuns 0 = true) ∧
      ((atLoop0.motors.get Motor.reset 0).bridge ≠ BridgeState.fault) ∧
      (BitVec.toNat 0x00000000#32 < 10500)) ∧
    ((atLoop0.motorRuns 0 = true) ∧
      (10500 ≤ BitVec.toNat 0x00002904#32)) ∧
    ((atLoop0.padUsed (380 + 26 * 0) = true) ∧
      (atLoop0.motorRuns 0 = true) ∧
      ((atLoop0.motors.get Motor.reset 0).bridge ≠ BridgeState.fault)) ∧
    ((atLoop0.padUsed (380 + 26 * 2) = false)) ∧
    ((atLoop16.motorRuns 0 = true) ∧
      ((atLoop16.motors.get Motor.reset 0).bridge = BridgeState.align)) ∧
    ((atLoop0.motorRuns 0 = false ∨ (atLoop0.motors.get Motor.reset 0).bridge ≠ BridgeState.align)) ∧
    ((atLoop0.motorMode 0 = 1) ∧
      ((atLoop0.motors.get Motor.reset 0).aligned = false) ∧
      ((atLoop0.motors.get Motor.reset 0).calst = 0 ∨ (atLoop0.motors.get Motor.reset 0).calst = 3) ∧
      ((atLoop0.motors.get Motor.reset 0).bridge = BridgeState.idle) ∧
      (BitVec.getLsbD 0x00000001#32 0 = true) ∧
      (getBits 0x00000001#32 2 1 = 0)) ∧
    (((atLoop0.motors.get Motor.reset 2).calst = 0 ∨ (atLoop0.motors.get Motor.reset 2).calst = 3) ∧
      ((atLoop0.motors.get Motor.reset 2).bridge = BridgeState.idle) ∧
      (atLoop0.motorMode 2 = 2 ∨ atLoop0.motorMode 2 = 1 ∧ (atLoop0.motors.get Motor.reset 2).aligned = true) ∧
      (BitVec.getLsbD 0x00000001#32 0 = true) ∧
      (getBits 0x00000001#32 2 1 = 0)) ∧
    ((atLoop11.motorMode 0 ≠ 0) ∧
      ((atLoop11.motors.get Motor.reset 0).calst = 0 ∨ (atLoop11.motors.get Motor.reset 0).calst = 3) ∧
      ((atLoop11.motors.get Motor.reset 0).bridge = BridgeState.run ∨ (atLoop11.motors.get Motor.reset 0).bridge = BridgeState.align) ∧
      (getBits 0x00000000#32 2 0 = 0)) ∧
    ((atLoop18.motorMode 0 ≠ 0) ∧
      ((atLoop18.motors.get Motor.reset 0).calst = 0 ∨ (atLoop18.motors.get Motor.reset 0).calst = 3) ∧
      ((atLoop18.motors.get Motor.reset 0).causePresent = false) ∧
      ((atLoop18.motors.get Motor.reset 0).bridge = BridgeState.fault) ∧
      (BitVec.getLsbD 0x00000000#32 1 = false) ∧
      (BitVec.getLsbD 0x00000000#32 0 = false)) ∧
    ((atLoop18.motorMode 0 ≠ 0) ∧
      ((atLoop18.motors.get Motor.reset 0).bridge = BridgeState.fault) ∧
      ((atLoop18.motors.get Motor.reset 0).causePresent = true ∨ BitVec.getLsbD 0x00000001#32 0 = true) ∧
      (BitVec.getLsbD 0x00000001#32 1 = false)) := by
  and_intros
  all_goals decide +kernel

theorem witness_MotorMeasurementsAreTaken :
    ((atLoop0.motorMode 0 ≠ 0) ∧
      ((atLoop0.motors.get Motor.reset 0).calst = 0 ∨ (atLoop0.motors.get Motor.reset 0).calst = 3) ∧
      ((atLoop0.motors.get Motor.reset 0).bridge = BridgeState.idle) ∧
      (BitVec.getLsbD 0x00000000#32 2 = false)) ∧
    ((atLoop11.motorMode 0 ≠ 0) ∧
      ((atLoop11.motors.get Motor.reset 0).calst = 0 ∨ (atLoop11.motors.get Motor.reset 0).calst = 3) ∧
      ((atLoop11.motors.get Motor.reset 0).bridge = BridgeState.run) ∧
      (BitVec.getLsbD 0x00000001#32 0 = true) ∧
      (BitVec.getLsbD 0x00000001#32 2 = false)) ∧
    ((atLoop20.MC_CTL_ENABLE 0 = 0) ∧
      (atLoop20.motorRuns 0 = true) ∧
      ((atLoop20.motors.get Motor.reset 0).bridge = BridgeState.idle) ∧
      ((atLoop20.motors.get Motor.reset 0).calst = 1) ∧
      (∀ (v : Int), v ∈ [(0 : Int), (0 : Int), (0 : Int), (0 : Int)] → absInt (rnDiv v 256) ≤ 400)) ∧
    ((atLoop20.motorRuns 0 = true) ∧
      ((atLoop20.motors.get Motor.reset 0).startCal ≠ 1) ∧
      ((atLoop20.motors.get Motor.reset 0).calst = 1) ∧
      (400 < absInt (rnDiv (102528 : Int) 256))) ∧
    ((atLoop23.motorRuns 0 = true) ∧
      ((atLoop23.motors.get Motor.reset 0).startCal = 2) ∧
      ((atLoop23.motors.get Motor.reset 0).startCal ≠ 1) ∧
      ((atLoop23.motors.get Motor.reset 0).calst = 1) ∧
      (400 < absInt (rnDiv (102528 : Int) 256))) ∧
    ((atLoop22.motorRuns 0 = true) ∧
      ((atLoop22.motors.get Motor.reset 0).startCal = 1) ∧
      ((atLoop22.motors.get Motor.reset 0).calst = 1) ∧
      (400 < absInt (rnDiv (102528 : Int) 256))) ∧
    ((atLoop0.motorRuns 0 = false ∨ (atLoop0.motors.get Motor.reset 0).calst ≠ 1)) ∧
    ((atLoop26.LEHOLD_HOLD 2 = 1) ∧
      (atLoop26.motorMode 2 = 2) ∧
      (atLoop26.motorRuns 2 = true)) ∧
    ((atLoop10.noneWaits [(6 + 0) * 256 + 2]) ∧
      (atLoop10.routedTo ((6 + 0) * 256) = false) ∧
      (atLoop10.LEHOLD_HOLD 0 = 1) ∧
      (atLoop10.isDoor 0 = false) ∧
      (atLoop10.motorMode 0 = 1) ∧
      (atLoop10.motorRuns 0 = true) ∧
      ((atLoop10.motors.get Motor.reset 0).bridge ≠ BridgeState.run)) ∧
    ((atLoop0.motorRuns 3 = false)) ∧
    ((atLoop0.motorRuns 0 = true)) := by
  and_intros
  all_goals decide +kernel

theorem witness_DoorCommandsAreAcceptedOrRefused :
    ((atDoor0.MC_DSTATION_SESSREQ 0 = 1) ∧
      ((atDoor0.doors.get Door.reset 0).jobs = []) ∧
      ((atDoor0.doors.get Door.reset 0).session = true) ∧
      ((atDoor0.doors.get Door.reset 0).permit = true) ∧
      ((atDoor0.doors.get Door.reset 0).stat = DoorState.closed ∨ (atDoor0.doors.get Door.reset 0).stat = DoorState.stopped) ∧
      (atDoor0.isDoor 0 = true ∧ atDoor0.runs (motorIsland 0) = true ∧ atDoor0.switching = false ∧ getBits 0x00000000#32 31 12 = 0) ∧
      ((atDoor0.doors.get Door.reset 0).homed = true ∧ (atDoor0.doors.get Door.reset 0).learned = true ∧ (atDoor0.motors.get Motor.reset 0).bridge = BridgeState.run)) ∧
    (((atDoor1.doors.get Door.reset 0).jobs = []) ∧
      ((atDoor1.doors.get Door.reset 0).curtain = false) ∧
      ((atDoor1.doors.get Door.reset 0).edge = false) ∧
      ((atDoor1.doors.get Door.reset 0).stat = DoorState.open_ ∨ (atDoor1.doors.get Door.reset 0).stat = DoorState.stopped) ∧
      (atDoor1.isDoor 0 = true ∧ atDoor1.runs (motorIsland 0) = true ∧ atDoor1.switching = false ∧ getBits 0x00000000#32 31 12 = 0) ∧
      ((atDoor1.doors.get Door.reset 0).homed = true ∧ (atDoor1.doors.get Door.reset 0).learned = true ∧ (atDoor1.motors.get Motor.reset 0).bridge = BridgeState.run)) ∧
    (((atDoor1.doors.get Door.reset 0).jobs = []) ∧
      ((atDoor1.doors.get Door.reset 0).goal = DoorGoal.none) ∧
      ((atDoor1.doors.get Door.reset 0).edge = false) ∧
      ((atDoor1.doors.get Door.reset 0).stat = DoorState.open_ ∨ (atDoor1.doors.get Door.reset 0).stat = DoorState.stopped) ∧
      (atDoor1.isDoor 0 = true ∧ atDoor1.runs (motorIsland 0) = true ∧ atDoor1.switching = false ∧ getBits 0x00000000#32 31 12 = 0) ∧
      ((atDoor1.doors.get Door.reset 0).homed = true ∧ (atDoor1.doors.get Door.reset 0).learned = true ∧ (atDoor1.motors.get Motor.reset 0).bridge = BridgeState.run)) ∧
    (((atDoor6.doors.get Door.reset 0).goal ≠ DoorGoal.none) ∧
      ((atDoor6.doors.get Door.reset 0).jobs = []) ∧
      ((atDoor6.doors.get Door.reset 0).stat = DoorState.opening ∨ (atDoor6.doors.get Door.reset 0).stat = DoorState.closing) ∧
      (atDoor6.isDoor 0 = true ∧ atDoor6.runs (motorIsland 0) = true ∧ atDoor6.switching = false ∧ getBits 0x00000000#32 31 12 = 0)) ∧
    (((atDoor0.doors.get Door.reset 0).stat = DoorState.closed ∨ (atDoor0.doors.get Door.reset 0).stat = DoorState.open_ ∨ (atDoor0.doors.get Door.reset 0).stat = DoorState.stopped ∨ (atDoor0.doors.get Door.reset 0).stat = DoorState.unhomed) ∧
      (atDoor0.isDoor 0 = true ∧ atDoor0.runs (motorIsland 0) = true ∧ atDoor0.switching = false ∧ getBits 0x00000000#32 31 12 = 0)) ∧
    (((atDoor0.motors.get Motor.reset 0).bridge = BridgeState.run) ∧
      ((atDoor0.doors.get Door.reset 0).jobs = []) ∧
      ((atDoor0.doors.get Door.reset 0).stat = DoorState.unhomed ∨ (atDoor0.doors.get Door.reset 0).stat = DoorState.closed ∨ (atDoor0.doors.get Door.reset 0).stat = DoorState.open_ ∨ (atDoor0.doors.get Door.reset 0).stat = DoorState.stopped) ∧
      (atDoor0.isDoor 0 = true ∧ atDoor0.runs (motorIsland 0) = true ∧ atDoor0.switching = false ∧ getBits 0x00000000#32 31 12 = 0)) ∧
    ((atDoor8.MC_DSTATION_SESSREQ 0 = 0) ∧
      ((atDoor8.motors.get Motor.reset 0).bridge = BridgeState.run) ∧
      ((atDoor8.doors.get Door.reset 0).jobs = []) ∧
      ((atDoor8.doors.get Door.reset 0).permit = true) ∧
      ((atDoor8.doors.get Door.reset 0).homed = true) ∧
      ((atDoor8.doors.get Door.reset 0).stat = DoorState.closed) ∧
      (atDoor8.isDoor 0 = true ∧ atDoor8.runs (motorIsland 0) = true ∧ atDoor8.switching = false ∧ getBits 0x00000000#32 31 12 = 0)) ∧
    (((atDoor10.doors.get Door.reset 0).stat = DoorState.unhomed) ∧
      (atDoor10.isDoor 0 = true ∧ atDoor10.runs (motorIsland 0) = true ∧ atDoor10.switching = false ∧ getBits 0x00000000#32 31 12 = 0)) ∧
    (((atDoor9.doors.get Door.reset 0).permit = false) ∧
      ((atDoor9.doors.get Door.reset 0).stat = DoorState.closed) ∧
      (atDoor9.isDoor 0 = true ∧ atDoor9.runs (motorIsland 0) = true ∧ atDoor9.switching = false ∧ getBits 0x00000000#32 31 12 = 0) ∧
      ((atDoor9.doors.get Door.reset 0).homed = true ∧ (atDoor9.doors.get Door.reset 0).learned = true ∧ (atDoor9.motors.get Motor.reset 0).bridge = BridgeState.run)) ∧
    (((atDoor11.doors.get Door.reset 0).edge = true) ∧
      ((atDoor11.doors.get Door.reset 0).stat = DoorState.open_) ∧
      (atDoor11.isDoor 0 = true ∧ atDoor11.runs (motorIsland 0) = true ∧ atDoor11.switching = false ∧ getBits 0x00000000#32 31 12 = 0) ∧
      ((atDoor11.doors.get Door.reset 0).homed = true ∧ (atDoor11.doors.get Door.reset 0).learned = true ∧ (atDoor11.motors.get Motor.reset 0).bridge = BridgeState.run)) ∧
    ((atDoor0.switching = false) ∧
      (atDoor0.runs (motorIsland 0) = true) ∧
      (atDoor0.isDoor 0 = true)) ∧
    ((atDoor0.isDoor 1 = false ∨ atDoor0.runs (motorIsland 1) = false ∨ atDoor0.switching = true)) := by
  and_intros
  all_goals decide +kernel

theorem witness_DoorInputsAndEventsAreFollowed :
    ((atDoor4.runs (motorIsland 0) = true) ∧
      (atDoor4.isDoor 0 = true) ∧
      ((atDoor4.doors.get Door.reset 0).closePend = none) ∧
      ((atDoor4.doors.get Door.reset 0).closeLim = false) ∧
      ((atDoor4.doors.get Door.reset 0).hasCloseLim = false) ∧
      ((atDoor4.doors.get Door.reset 0).permit = false ∨ mappedCode (getBits (atDoor4.doors.get Door.reset 0).map 29 24) = true ∧ BitVec.getLsbD 0x0000001f#32 4 = true) ∧
      (getBits 0x0000001f#32 4 0 &&& getBits 0x0000001f#32 20 16 = 0) ∧
      (getBits 0x0000001f#32 4 0 + getBits 0x0000001f#32 20 16 = 31)) ∧
    ((atDoor0.runs (motorIsland 0) = true) ∧
      (atDoor0.isDoor 0 = true) ∧
      (({ words := [0x00010200#32, 0x00000000#32, 0x00000000#32, 0x00000000#32], poison := true } : Item).poison = true ∨ ({ words := [0x00010200#32, 0x00000000#32, 0x00000000#32, 0x00000000#32], poison := true } : Item).words.length ≠ 2)) ∧
    ((atDoor4.runs (motorIsland 0) = true) ∧
      (atDoor4.isDoor 0 = true) ∧
      ((atDoor4.doors.get Door.reset 0).permit = false) ∧
      ((atDoor4.doors.get Door.reset 0).stale = false)) ∧
    ((atDoor13.runs (motorIsland 0) = true) ∧
      (atDoor13.isDoor 0 = true) ∧
      ((atDoor13.doors.get Door.reset 0).stale = true)) ∧
    ((atDoor16.runs (motorIsland 0) = true) ∧
      (atDoor16.isDoor 0 = true) ∧
      ((atDoor16.doors.get Door.reset 0).goal = DoorGoal.travel) ∧
      ((atDoor16.doors.get Door.reset 0).stopping = none) ∧
      ((atDoor16.doors.get Door.reset 0).oldMoves = 0) ∧
      (getBits 0x00010201#32 19 16 = 1) ∧
      (getBits 0x00010201#32 15 8 = 2) ∧
      ((atDoor16.doors.get Door.reset 0).jobs = [({ tag := 0x03#8, id := 0x00000004#32 } : DoorJob)])) ∧
    (((atDoor17.motors.get Motor.reset 0).fbpos ≤ ↑(atDoor17.MC_DCLOSETOL 0)) ∧
      (atDoor17.runs (motorIsland 0) = true) ∧
      (atDoor17.isDoor 0 = true) ∧
      ((atDoor17.doors.get Door.reset 0).closeLim = true) ∧
      ((atDoor17.doors.get Door.reset 0).hasCloseLim = true) ∧
      ((atDoor17.doors.get Door.reset 0).stat = DoorState.closing) ∧
      ((atDoor17.doors.get Door.reset 0).goal = DoorGoal.close) ∧
      ((atDoor17.doors.get Door.reset 0).stopping = none) ∧
      ((atDoor17.doors.get Door.reset 0).oldMoves = 0) ∧
      (getBits 0x00010201#32 19 16 = 1) ∧
      (getBits 0x00010201#32 15 8 = 2)) ∧
    ((atDoor0.runs (motorIsland 0) = true) ∧
      (atDoor0.isDoor 0 = true) ∧
      (({ words := [0x00010200#32, 0x00000000#32, 0x00000000#32, 0x00000000#32], poison := true } : Item).poison = true ∨ ({ words := [0x00010200#32, 0x00000000#32, 0x00000000#32, 0x00000000#32], poison := true } : Item).words.length ≠ 4)) ∧
    ((atDoor4.runs (motorIsland 0) = true) ∧
      (atDoor4.isDoor 0 = true) ∧
      (getBits 0x00000001#32 15 8 = atDoor4.MC_DSTATION_STATION 0) ∧
      (BitVec.getLsbD 0x00000001#32 0 = true) ∧
      (0 < sDiff 0x80000000#32 (lowWord atDoor4.dev))) ∧
    ((atDoor0.runs (motorIsland 0) = true) ∧
      (atDoor0.isDoor 0 = true) ∧
      ((atDoor0.doors.get Door.reset 0).stat ≠ DoorState.opening) ∧
      (BitVec.getLsbD 0x00000000#32 0 = false)) ∧
    ((atDoor13.runs (motorIsland 0) = true) ∧
      (atDoor13.isDoor 0 = true) ∧
      ((atDoor13.doors.get Door.reset 0).completed = false) ∧
      ((atDoor13.doors.get Door.reset 0).closePend = some (true : Bool))) ∧
    ((↑(atDoor19.MC_DCLOSETOL 0) < (atDoor19.motors.get Motor.reset 0).fbpos) ∧
      (atDoor19.runs (motorIsland 0) = true) ∧
      (atDoor19.isDoor 0 = true) ∧
      ((atDoor19.doors.get Door.reset 0).stat = DoorState.closing) ∧
      ((atDoor19.doors.get Door.reset 0).completed = true) ∧
      ((atDoor19.doors.get Door.reset 0).jobs = [({ tag := 0x01#8, id := 0x00000002#32 } : DoorJob)])) ∧
    ((atDoor0.runs (motorIsland 0) = true) ∧
      (atDoor0.isDoor 0 = true) ∧
      ((atDoor0.doors.get Door.reset 0).completed = false)) ∧
    ((atDoor20.runs (motorIsland 0) = true) ∧
      (atDoor20.isDoor 0 = true) ∧
      ((atDoor20.doors.get Door.reset 0).stat = DoorState.homing) ∧
      ((atDoor20.doors.get Door.reset 0).jobs = [({ tag := 0x03#8, id := 0x00000004#32 } : DoorJob)])) ∧
    ((atDoor0.runs (motorIsland 0) = true) ∧
      (atDoor0.isDoor 0 = true) ∧
      ((atDoor0.doors.get Door.reset 0).stat ≠ DoorState.homing)) ∧
    ((atDoor2.MC_DSTATION_SESSREQ 0 = 1) ∧
      (atDoor2.runs (motorIsland 0) = true) ∧
      (atDoor2.isDoor 0 = true) ∧
      ((atDoor2.doors.get Door.reset 0).jobs = []) ∧
      ((atDoor2.doors.get Door.reset 0).goal = DoorGoal.none) ∧
      ((atDoor2.doors.get Door.reset 0).stat = DoorState.open_ ∨ (atDoor2.doors.get Door.reset 0).stat = DoorState.stopped) ∧
      ((atDoor2.doors.get Door.reset 0).session = false)) ∧
    ((atDoor0.runs (motorIsland 0) = true) ∧
      (atDoor0.isDoor 0 = true) ∧
      ((atDoor0.doors.get Door.reset 0).session = true)) := by
  and_intros
  all_goals decide +kernel

theorem witness_AnObstructedDoorReverses :
    ((0 < atDoor23.MC_DOBSRUN 0) ∧
      (atDoor23.LEHOLD_HOLD 0 = 1) ∧
      (atDoor23.motorRuns 0 = true) ∧
      (atDoor23.isDoor 0 = true) ∧
      ((atDoor23.doors.get Door.reset 0).permit = false ∨ atDoor23.MC_DSTATION_SESSREQ 0 = 0) ∧
      (atDoor23.MC_DCOUPLEPOS 0 = 0 ∨ (atDoor23.doors.get Door.reset 0).hasCoupled = false ∨ (atDoor23.doors.get Door.reset 0).coupled = true) ∧
      ((atDoor23.doors.get Door.reset 0).ekRun + 1 < atDoor23.MC_DEORUN 0) ∧
      ((atDoor23.doors.get Door.reset 0).completed = false) ∧
      ((atDoor23.doors.get Door.reset 0).edge = true) ∧
      ((atDoor23.doors.get Door.reset 0).stat = DoorState.closing) ∧
      ((atDoor23.motors.get Motor.reset 0).bridge = BridgeState.run) ∧
      (atDoor23.noneWaits [(6 + 0) * 256, (6 + 0) * 256 + 2, (6 + 0) * 256 + 5, (6 + 0) * 256 + 6, (6 + 0) * 256 + 7, (6 + 0) * 256 + 8])) ∧
    ((atDoor25.fabric.stopped = false) ∧
      (0 < atDoor25.MC_DOBSRUN 0) ∧
      (atDoor25.LEHOLD_HOLD 0 = 1) ∧
      (atDoor25.motorRuns 0 = true) ∧
      (atDoor25.isDoor 0 = true) ∧
      ((atDoor25.doors.get Door.reset 0).permit = false ∨ atDoor25.MC_DSTATION_SESSREQ 0 = 0) ∧
      (atDoor25.MC_DCOUPLEPOS 0 = 0 ∨ (atDoor25.doors.get Door.reset 0).hasCoupled = false ∨ (atDoor25.doors.get Door.reset 0).coupled = true) ∧
      ((atDoor25.doors.get Door.reset 0).ekRun + 1 < atDoor25.MC_DEORUN 0) ∧
      ((atDoor25.doors.get Door.reset 0).completed = false) ∧
      ((atDoor25.doors.get Door.reset 0).edge = true) ∧
      ((atDoor25.doors.get Door.reset 0).stat = DoorState.closing) ∧
      ((atDoor25.motors.get Motor.reset 0).bridge = BridgeState.run) ∧
      (atDoor25.noneWaits [(6 + 0) * 256, (6 + 0) * 256 + 2, (6 + 0) * 256 + 5, (6 + 0) * 256 + 6, (6 + 0) * 256 + 7, (6 + 0) * 256 + 8]) ∧
      (({ route := { queue := 0, capacity := 2, producer := 0x0604#16, consumer := 0x0515#16, flag := false, cmdq := false, timeout := 0 }, items := [], opened := none, wcnt := 0, sent := 0, skipping := false, lost := 0x00000000#32, flushDrop := 0x00000000#32, lossNotedAt := none, broken := false, underrun := false, poison := false, last := false, lastWord := 0x00000000#32, wlen := 1, hostLeft := 0 } : Queue).wcnt % 8 = 0) ∧
      (2 ≤ ({ route := { queue := 0, capacity := 2, producer := 0x0604#16, consumer := 0x0515#16, flag := false, cmdq := false, timeout := 0 }, items := [], opened := none, wcnt := 0, sent := 0, skipping := false, lost := 0x00000000#32, flushDrop := 0x00000000#32, lossNotedAt := none, broken := false, underrun := false, poison := false, last := false, lastWord := 0x00000000#32, wlen := 1, hostLeft := 0 } : Queue).route.capacity) ∧
      (({ route := { queue := 0, capacity := 2, producer := 0x0604#16, consumer := 0x0515#16, flag := false, cmdq := false, timeout := 0 }, items := [], opened := none, wcnt := 0, sent := 0, skipping := false, lost := 0x00000000#32, flushDrop := 0x00000000#32, lossNotedAt := none, broken := false, underrun := false, poison := false, last := false, lastWord := 0x00000000#32, wlen := 1, hostLeft := 0 } : Queue).items = []) ∧
      (({ route := { queue := 0, capacity := 2, producer := 0x0604#16, consumer := 0x0515#16, flag := false, cmdq := false, timeout := 0 }, items := [], opened := none, wcnt := 0, sent := 0, skipping := false, lost := 0x00000000#32, flushDrop := 0x00000000#32, lossNotedAt := none, broken := false, underrun := false, poison := false, last := false, lastWord := 0x00000000#32, wlen := 1, hostLeft := 0 } : Queue).opened = none) ∧
      (({ route := { queue := 0, capacity := 2, producer := 0x0604#16, consumer := 0x0515#16, flag := false, cmdq := false, timeout := 0 }, items := [], opened := none, wcnt := 0, sent := 0, skipping := false, lost := 0x00000000#32, flushDrop := 0x00000000#32, lossNotedAt := none, broken := false, underrun := false, poison := false, last := false, lastWord := 0x00000000#32, wlen := 1, hostLeft := 0 } : Queue).route.cmdq = false) ∧
      (({ route := { queue := 0, capacity := 2, producer := 0x0604#16, consumer := 0x0515#16, flag := false, cmdq := false, timeout := 0 }, items := [], opened := none, wcnt := 0, sent := 0, skipping := false, lost := 0x00000000#32, flushDrop := 0x00000000#32, lossNotedAt := none, broken := false, underrun := false, poison := false, last := false, lastWord := 0x00000000#32, wlen := 1, hostLeft := 0 } : Queue).broken = false) ∧
      (List.filter (fun e => e.snd.route.producer.toNat == (6 + 0) * 256 + 4) atDoor25.fabric.built = [(0, ({ route := { queue := 0, capacity := 2, producer := 0x0604#16, consumer := 0x0515#16, flag := false, cmdq := false, timeout := 0 }, items := [], opened := none, wcnt := 0, sent := 0, skipping := false, lost := 0x00000000#32, flushDrop := 0x00000000#32, lossNotedAt := none, broken := false, underrun := false, poison := false, last := false, lastWord := 0x00000000#32, wlen := 1, hostLeft := 0 } : Queue))]) ∧
      (atDoor25.fabric.queue 0 = some ({ route := { queue := 0, capacity := 2, producer := 0x0604#16, consumer := 0x0515#16, flag := false, cmdq := false, timeout := 0 }, items := [], opened := none, wcnt := 0, sent := 0, skipping := false, lost := 0x00000000#32, flushDrop := 0x00000000#32, lossNotedAt := none, broken := false, underrun := false, poison := false, last := false, lastWord := 0x00000000#32, wlen := 1, hostLeft := 0 } : Queue))) := by
  and_intros
  all_goals decide +kernel

theorem witness_CallItemsOpenMergeAndCancelContexts :
    ((atSched0.schMember = false) ∧
      (∃ car, car ∈ atSched0.carList ∧ atSched0.served car (getBits 0x00000000#32 23 16) = true) ∧
      (atSched0.schRuns = true ∧ atSched0.schMode ≠ 3 ∧ atSched0.sched.stat ≠ SchedState.standby) ∧
      (getBits 0x00000000#32 15 12 = 0 ∧ getBits 0x00000000#32 31 28 = 0 ∧ getBits 0x00000000#32 31 16 = 0) ∧
      (List.find? (fun e => e.snd.kind == (CtxKind.hallUp : CtxKind) && e.snd.floor == getBits 0x00000000#32 23 16) atSched0.sched.open_ = none) ∧
      (List.find? (fun i => (atSched0.sched.ctxs.get none i).isNone) (List.range 1024) = some 0)) ∧
    ((atSched0.schMode = 1) ∧
      (List.find? (fun e => e.snd.kind == CtxKind.car && e.snd.floor == getBits 0x00000000#32 23 16 && e.snd.car == some atSched0.SCH_CTL_OWNCAR) atSched0.sched.open_ = none) ∧
      (atSched0.served atSched0.SCH_CTL_OWNCAR (getBits 0x00000000#32 23 16) = true) ∧
      (atSched0.schRuns = true ∧ atSched0.schMode ≠ 3 ∧ atSched0.sched.stat ≠ SchedState.standby) ∧
      (getBits 0x00000000#32 15 12 = 0 ∧ getBits 0x00000000#32 31 28 = 0 ∧ getBits 0x00000000#32 31 16 = 0) ∧
      (List.find? (fun i => (atSched0.sched.ctxs.get none i).isNone) (List.range 1024) = some 0)) ∧
    ((atSched1.schMember = false) ∧
      (∃ car, car ∈ atSched1.carList ∧ atSched1.served car (getBits 0x00000000#32 23 16) = true) ∧
      (atSched1.schRuns = true ∧ atSched1.schMode ≠ 3 ∧ atSched1.sched.stat ≠ SchedState.standby) ∧
      (getBits 0x00000000#32 15 12 = 0 ∧ getBits 0x00000000#32 31 28 = 0 ∧ getBits 0x00000000#32 31 16 = 0) ∧
      (List.find? (fun e => e.snd.kind == (CtxKind.hallUp : CtxKind) && e.snd.floor == getBits 0x00000000#32 23 16) atSched1.sched.open_ = some ((0, { stat := CtxState.registered, kind := CtxKind.hallUp, floor := 0, car := none, tag := 0x00#8, source := 0x0000#16, station := 0, token := 0x0000000000000000#64, time := 1000, order := 0, life := 0, expiry := 0, cost := 0x00000000#32, tts := 0x00000000#32, moves := 0x00#8, phase := 0, oldCar := none, group := none, ended := false, restored := false }) : Nat × Ctx))) ∧
    ((atSched5.schMember = true) ∧
      (atSched5.schRuns = true ∧ atSched5.schMode ≠ 3 ∧ atSched5.sched.stat ≠ SchedState.standby) ∧
      (getBits 0x00000000#32 15 12 = 0 ∧ getBits 0x00000000#32 31 28 = 0 ∧ getBits 0x00000000#32 31 16 = 0)) ∧
    ((atSched0.schMember = false) ∧
      (∀ (car : Nat), car ∈ atSched0.carList → atSched0.served car (getBits 0x00010500#32 23 16) = false) ∧
      (atSched0.schRuns = true ∧ atSched0.schMode ≠ 3 ∧ atSched0.sched.stat ≠ SchedState.standby) ∧
      (getBits 0x00010500#32 15 12 = 0 ∧ getBits 0x00010500#32 31 28 = 0 ∧ getBits 0x00000000#32 31 16 = 0)) ∧
    ((∃ car, car ∈ atSched1.carList ∧ atSched1.served car (getBits 0x00000000#32 23 16) = true) ∧
      (atSched1.schRuns = true ∧ atSched1.schMode ≠ 3 ∧ atSched1.sched.stat ≠ SchedState.standby) ∧
      (getBits 0x00000000#32 15 12 = 0 ∧ getBits 0x00000000#32 31 28 = 0 ∧ getBits 0x00000000#32 31 16 = 0) ∧
      ((CtxKind.hallUp : CtxKind) ∈ [CtxKind.hallUp, CtxKind.hallDn]) ∧
      (({ stat := CtxState.registered, kind := CtxKind.hallUp, floor := 0, car := none, tag := 0x00#8, source := 0x0000#16, station := 0, token := 0x0000000000000000#64, time := 1000, order := 0, life := 0, expiry := 0, cost := 0x00000000#32, tts := 0x00000000#32, moves := 0x00#8, phase := 0, oldCar := none, group := none, ended := false, restored := false } : Ctx).car = none) ∧
      (({ stat := CtxState.registered, kind := CtxKind.hallUp, floor := 0, car := none, tag := 0x00#8, source := 0x0000#16, station := 0, token := 0x0000000000000000#64, time := 1000, order := 0, life := 0, expiry := 0, cost := 0x00000000#32, tts := 0x00000000#32, moves := 0x00#8, phase := 0, oldCar := none, group := none, ended := false, restored := false } : Ctx).stat = CtxState.registered) ∧
      (List.find? (fun e => e.snd.kind == (CtxKind.hallUp : CtxKind) && e.snd.floor == getBits 0x00000000#32 23 16) atSched1.sched.open_ = some (0, ({ stat := CtxState.registered, kind := CtxKind.hallUp, floor := 0, car := none, tag := 0x00#8, source := 0x0000#16, station := 0, token := 0x0000000000000000#64, time := 1000, order := 0, life := 0, expiry := 0, cost := 0x00000000#32, tts := 0x00000000#32, moves := 0x00#8, phase := 0, oldCar := none, group := none, ended := false, restored := false } : Ctx))) ∧
      (1 ≠ 0)) ∧
    ((∃ car, car ∈ atSched1.carList ∧ atSched1.served car (getBits 0x00050007#32 23 16) = true) ∧
      (atSched1.schRuns = true ∧ atSched1.schMode ≠ 3 ∧ atSched1.sched.stat ≠ SchedState.standby) ∧
      (getBits 0x00050007#32 15 12 = 0 ∧ getBits 0x00050007#32 31 28 = 0 ∧ getBits 0x00000000#32 31 16 = 0) ∧
      ((CtxKind.hallDn : CtxKind) ∈ [CtxKind.hallUp, CtxKind.hallDn]) ∧
      (({ stat := CtxState.serving, kind := CtxKind.hallDn, floor := 5, car := some 0, tag := 0x00#8, source := 0x0000#16, station := 0, token := 0x0000000000000000#64, time := 1000, order := 0, life := 0, expiry := 0, cost := 0x00000000#32, tts := 0x00000000#32, moves := 0x00#8, phase := 0, oldCar := none, group := none, ended := false, restored := false } : Ctx).stat = CtxState.serving) ∧
      (List.find? (fun e => e.snd.kind == (CtxKind.hallDn : CtxKind) && e.snd.floor == getBits 0x00050007#32 23 16) atSched1.sched.open_ = some (1, ({ stat := CtxState.serving, kind := CtxKind.hallDn, floor := 5, car := some 0, tag := 0x00#8, source := 0x0000#16, station := 0, token := 0x0000000000000000#64, time := 1000, order := 0, life := 0, expiry := 0, cost := 0x00000000#32, tts := 0x00000000#32, moves := 0x00#8, phase := 0, oldCar := none, group := none, ended := false, restored := false } : Ctx)))) ∧
    ((atSched7.sched.stat = SchedState.standby) ∧
      (atSched7.schMode ≠ 3) ∧
      (atSched7.schRuns = true)) ∧
    ((atSched6.schRuns = false ∨ atSched6.schMode = 3)) := by
  and_intros
  all_goals decide +kernel

theorem witness_SessionsOpenLiveAndEnd :
    ((atSched10.schRuns = true ∧ atSched10.schMode ≠ 3 ∧ atSched10.sched.stat ≠ SchedState.standby) ∧
      (∃ car, car ∈ atSched10.carList ∧ atSched10.served car (getBits 0x00000000#32 23 16) = true ∧ (atSched10.sc.car car).inServ = true) ∧
      (getBits 0x00000000#32 31 28 = 0) ∧
      (getBits 0x00000000#32 15 12 = 0) ∧
      (getBits 0x00000000#32 31 16 = 0) ∧
      (BitVec.toNat 0x000007d0#32 ≤ atSched10.SCH_SESSMAX) ∧
      (1000 ≤ BitVec.toNat 0x000007d0#32) ∧
      (atSched10.sc.sessionOf (BitVec.toNat 0x00000001#32) = none) ∧
      (atSched10.stationAt (BitVec.toNat 0x00000001#32) (getBits 0x00000000#32 23 16) = true) ∧
      (getBits 0x00000001#32 31 8 = 0) ∧
      (¬(0x00000000#32 = 0 ∧ 0x00000001#32 = 0)) ∧
      (List.find? (fun i => (atSched10.sched.ctxs.get none i).isNone) (List.range 1024) = some 0) ∧
      (1 ≠ 0)) ∧
    ((atSched11.schRuns = true ∧ atSched11.schMode ≠ 3 ∧ atSched11.sched.stat ≠ SchedState.standby) ∧
      (∃ car, car ∈ atSched11.carList ∧ atSched11.served car (getBits 0x00000000#32 23 16) = true) ∧
      (getBits 0x00000000#32 31 28 = 0) ∧
      (getBits 0x00000000#32 15 12 = 0) ∧
      (getBits 0x00000000#32 31 16 = 0) ∧
      (getBits 0x00000001#32 31 8 = 0) ∧
      (¬(0x00000001#32 = 0 ∧ 0x00000000#32 = 0)) ∧
      (({ stat := CtxState.live, kind := CtxKind.session, floor := 0, car := some 0, tag := 0x00#8, source := 0x0000#16, station := 1, token := 0x0000000000000001#64, time := 1000, order := 0, life := 0, expiry := 9000000, cost := 0x00000000#32, tts := 0x00000000#32, moves := 0x00#8, phase := 0, oldCar := none, group := none, ended := false, restored := false } : Ctx).overdue atSched11.dev = false) ∧
      (({ stat := CtxState.live, kind := CtxKind.session, floor := 0, car := some 0, tag := 0x00#8, source := 0x0000#16, station := 1, token := 0x0000000000000001#64, time := 1000, order := 0, life := 0, expiry := 9000000, cost := 0x00000000#32, tts := 0x00000000#32, moves := 0x00#8, phase := 0, oldCar := none, group := none, ended := false, restored := false } : Ctx).stat = CtxState.live) ∧
      (({ stat := CtxState.live, kind := CtxKind.session, floor := 0, car := some 0, tag := 0x00#8, source := 0x0000#16, station := 1, token := 0x0000000000000001#64, time := 1000, order := 0, life := 0, expiry := 9000000, cost := 0x00000000#32, tts := 0x00000000#32, moves := 0x00#8, phase := 0, oldCar := none, group := none, ended := false, restored := false } : Ctx).token = BitVec.setWidth 64 0x00000000#32 <<< 32 ||| BitVec.setWidth 64 0x00000001#32) ∧
      (atSched11.sc.sessionOf (BitVec.toNat 0x00000001#32) = some (0, ({ stat := CtxState.live, kind := CtxKind.session, floor := 0, car := some 0, tag := 0x00#8, source := 0x0000#16, station := 1, token := 0x0000000000000001#64, time := 1000, order := 0, life := 0, expiry := 9000000, cost := 0x00000000#32, tts := 0x00000000#32, moves := 0x00#8, phase := 0, oldCar := none, group := none, ended := false, restored := false } : Ctx))) ∧
      (1 ≠ 0)) ∧
    ((atSched12.schRuns = true ∧ atSched12.schMode ≠ 3 ∧ atSched12.sched.stat ≠ SchedState.standby) ∧
      (∃ car, car ∈ atSched12.carList ∧ atSched12.served car (getBits 0x00000000#32 23 16) = true) ∧
      (getBits 0x00000000#32 31 28 = 0) ∧
      (getBits 0x00000000#32 15 12 = 0) ∧
      (getBits 0x00000000#32 31 16 = 0) ∧
      (getBits 0x00000001#32 31 8 = 0) ∧
      (¬(0x00000001#32 = 0 ∧ 0x00000000#32 = 0)) ∧
      (({ stat := CtxState.registered, kind := CtxKind.session, floor := 0, car := some 0, tag := 0x00#8, source := 0x0000#16, station := 1, token := 0x0000000000000001#64, time := 1000, order := 0, life := 0, expiry := 0, cost := 0x00000000#32, tts := 0x00000000#32, moves := 0x00#8, phase := 0, oldCar := none, group := none, ended := false, restored := false } : Ctx).stat ≠ CtxState.live) ∧
      (({ stat := CtxState.registered, kind := CtxKind.session, floor := 0, car := some 0, tag := 0x00#8, source := 0x0000#16, station := 1, token := 0x0000000000000001#64, time := 1000, order := 0, life := 0, expiry := 0, cost := 0x00000000#32, tts := 0x00000000#32, moves := 0x00#8, phase := 0, oldCar := none, group := none, ended := false, restored := false } : Ctx).token = BitVec.setWidth 64 0x00000000#32 <<< 32 ||| BitVec.setWidth 64 0x00000001#32) ∧
      (atSched12.sc.sessionOf (BitVec.toNat 0x00000001#32) = some (0, ({ stat := CtxState.registered, kind := CtxKind.session, floor := 0, car := some 0, tag := 0x00#8, source := 0x0000#16, station := 1, token := 0x0000000000000001#64, time := 1000, order := 0, life := 0, expiry := 0, cost := 0x00000000#32, tts := 0x00000000#32, moves := 0x00#8, phase := 0, oldCar := none, group := none, ended := false, restored := false } : Ctx))) ∧
      (1 ≠ 0)) ∧
    ((atSched13.schRuns = true ∧ atSched13.schMode ≠ 3 ∧ atSched13.sched.stat ≠ SchedState.standby) ∧
      (∃ car, car ∈ atSched13.carList ∧ atSched13.served car (getBits 0x00000000#32 23 16) = true) ∧
      (getBits 0x00000000#32 31 28 = 0) ∧
      (getBits 0x00000000#32 15 12 = 0) ∧
      (getBits 0x00000000#32 31 16 = 0) ∧
      (getBits 0x00000001#32 31 8 = 0) ∧
      (¬(0x00000000#32 = 0 ∧ 0x00000001#32 = 0)) ∧
      (({ stat := CtxState.live, kind := CtxKind.session, floor := 0, car := some 0, tag := 0x00#8, source := 0x0000#16, station := 1, token := 0x0000000000000005#64, time := 1000, order := 0, life := 0, expiry := 0, cost := 0x00000000#32, tts := 0x00000000#32, moves := 0x00#8, phase := 0, oldCar := none, group := none, ended := false, restored := false } : Ctx).overdue atSched13.dev = true) ∧
      (atSched13.sc.sessionOf (BitVec.toNat 0x00000001#32) = some (0, ({ stat := CtxState.live, kind := CtxKind.session, floor := 0, car := some 0, tag := 0x00#8, source := 0x0000#16, station := 1, token := 0x0000000000000005#64, time := 1000, order := 0, life := 0, expiry := 0, cost := 0x00000000#32, tts := 0x00000000#32, moves := 0x00#8, phase := 0, oldCar := none, group := none, ended := false, restored := false } : Ctx))) ∧
      (1 ≠ 0)) ∧
    ((atSched11.schRuns = true ∧ atSched11.schMode ≠ 3 ∧ atSched11.sched.stat ≠ SchedState.standby) ∧
      (∃ car, car ∈ atSched11.carList ∧ atSched11.served car (getBits 0x00000000#32 23 16) = true) ∧
      (getBits 0x00000000#32 31 28 = 0) ∧
      (getBits 0x00000000#32 15 12 = 0) ∧
      (getBits 0x00000000#32 31 16 = 0) ∧
      (getBits 0x00000001#32 31 8 = 0) ∧
      (¬(0x00000000#32 = 0 ∧ 0x00000001#32 = 0)) ∧
      (({ stat := CtxState.live, kind := CtxKind.session, floor := 0, car := some 0, tag := 0x00#8, source := 0x0000#16, station := 1, token := 0x0000000000000001#64, time := 1000, order := 0, life := 0, expiry := 9000000, cost := 0x00000000#32, tts := 0x00000000#32, moves := 0x00#8, phase := 0, oldCar := none, group := none, ended := false, restored := false } : Ctx).overdue atSched11.dev = false) ∧
      (({ stat := CtxState.live, kind := CtxKind.session, floor := 0, car := some 0, tag := 0x00#8, source := 0x0000#16, station := 1, token := 0x0000000000000001#64, time := 1000, order := 0, life := 0, expiry := 9000000, cost := 0x00000000#32, tts := 0x00000000#32, moves := 0x00#8, phase := 0, oldCar := none, group := none, ended := false, restored := false } : Ctx).token ≠ BitVec.setWidth 64 0x00000001#32 <<< 32 ||| BitVec.setWidth 64 0x00000000#32) ∧
      (atSched11.sc.sessionOf (BitVec.toNat 0x00000001#32) = some (0, ({ stat := CtxState.live, kind := CtxKind.session, floor := 0, car := some 0, tag := 0x00#8, source := 0x0000#16, station := 1, token := 0x0000000000000001#64, time := 1000, order := 0, life := 0, expiry := 9000000, cost := 0x00000000#32, tts := 0x00000000#32, moves := 0x00#8, phase := 0, oldCar := none, group := none, ended := false, restored := false } : Ctx)))) ∧
    ((atSched12.schRuns = true ∧ atSched12.schMode ≠ 3 ∧ atSched12.sched.stat ≠ SchedState.standby) ∧
      (∃ car, car ∈ atSched12.carList ∧ atSched12.served car (getBits 0x00000000#32 23 16) = true) ∧
      (getBits 0x00000000#32 31 28 = 0) ∧
      (getBits 0x00000000#32 15 12 = 0) ∧
      (getBits 0x00000000#32 31 16 = 0) ∧
      (getBits 0x00000001#32 31 8 = 0) ∧
      (¬(0x00000001#32 = 0 ∧ 0x00000000#32 = 0)) ∧
      (({ stat := CtxState.registered, kind := CtxKind.session, floor := 0, car := some 0, tag := 0x00#8, source := 0x0000#16, station := 1, token := 0x0000000000000001#64, time := 1000, order := 0, life := 0, expiry := 0, cost := 0x00000000#32, tts := 0x00000000#32, moves := 0x00#8, phase := 0, oldCar := none, group := none, ended := false, restored := false } : Ctx).stat = CtxState.registered) ∧
      (({ stat := CtxState.registered, kind := CtxKind.session, floor := 0, car := some 0, tag := 0x00#8, source := 0x0000#16, station := 1, token := 0x0000000000000001#64, time := 1000, order := 0, life := 0, expiry := 0, cost := 0x00000000#32, tts := 0x00000000#32, moves := 0x00#8, phase := 0, oldCar := none, group := none, ended := false, restored := false } : Ctx).token = BitVec.setWidth 64 0x00000000#32 <<< 32 ||| BitVec.setWidth 64 0x00000001#32) ∧
      (atSched12.sc.sessionOf (BitVec.toNat 0x00000001#32) = some (0, ({ stat := CtxState.registered, kind := CtxKind.session, floor := 0, car := some 0, tag := 0x00#8, source := 0x0000#16, station := 1, token := 0x0000000000000001#64, time := 1000, order := 0, life := 0, expiry := 0, cost := 0x00000000#32, tts := 0x00000000#32, moves := 0x00#8, phase := 0, oldCar := none, group := none, ended := false, restored := false } : Ctx))) ∧
      (1 ≠ 0)) ∧
    ((atSched11.schWorks = true) ∧
      (({ stat := CtxState.live, kind := CtxKind.session, floor := 0, car := some 0, tag := 0x00#8, source := 0x0000#16, station := 1, token := 0x0000000000000001#64, time := 1000, order := 0, life := 0, expiry := 9000000, cost := 0x00000000#32, tts := 0x00000000#32, moves := 0x00#8, phase := 0, oldCar := none, group := none, ended := false, restored := false } : Ctx).group = none) ∧
      (({ stat := CtxState.live, kind := CtxKind.session, floor := 0, car := some 0, tag := 0x00#8, source := 0x0000#16, station := 1, token := 0x0000000000000001#64, time := 1000, order := 0, life := 0, expiry := 9000000, cost := 0x00000000#32, tts := 0x00000000#32, moves := 0x00#8, phase := 0, oldCar := none, group := none, ended := false, restored := false } : Ctx).ended = false) ∧
      (({ stat := CtxState.live, kind := CtxKind.session, floor := 0, car := some 0, tag := 0x00#8, source := 0x0000#16, station := 1, token := 0x0000000000000001#64, time := 1000, order := 0, life := 0, expiry := 9000000, cost := 0x00000000#32, tts := 0x00000000#32, moves := 0x00#8, phase := 0, oldCar := none, group := none, ended := false, restored := false } : Ctx).stat = CtxState.live) ∧
      (({ stat := CtxState.live, kind := CtxKind.session, floor := 0, car := some 0, tag := 0x00#8, source := 0x0000#16, station := 1, token := 0x0000000000000001#64, time := 1000, order := 0, life := 0, expiry := 9000000, cost := 0x00000000#32, tts := 0x00000000#32, moves := 0x00#8, phase := 0, oldCar := none, group := none, ended := false, restored := false } : Ctx).kind = CtxKind.session) ∧
      (atSched11.sched.ctxs.get none 0 = some ({ stat := CtxState.live, kind := CtxKind.session, floor := 0, car := some 0, tag := 0x00#8, source := 0x0000#16, station := 1, token := 0x0000000000000001#64, time := 1000, order := 0, life := 0, expiry := 9000000, cost := 0x00000000#32, tts := 0x00000000#32, moves := 0x00#8, phase := 0, oldCar := none, group := none, ended := false, restored := false } : Ctx)) ∧
      (1 ≠ 0)) ∧
    ((atSched0.schWorks = false ∨ atSched0.sched.ctxs.get none 0 = none)) ∧
    ((atSched12.schWorks = true) ∧
      (({ stat := CtxState.registered, kind := CtxKind.session, floor := 0, car := some 0, tag := 0x00#8, source := 0x0000#16, station := 1, token := 0x0000000000000001#64, time := 1000, order := 0, life := 0, expiry := 0, cost := 0x00000000#32, tts := 0x00000000#32, moves := 0x00#8, phase := 0, oldCar := none, group := none, ended := false, restored := false } : Ctx).group = none) ∧
      (({ stat := CtxState.registered, kind := CtxKind.session, floor := 0, car := some 0, tag := 0x00#8, source := 0x0000#16, station := 1, token := 0x0000000000000001#64, time := 1000, order := 0, life := 0, expiry := 0, cost := 0x00000000#32, tts := 0x00000000#32, moves := 0x00#8, phase := 0, oldCar := none, group := none, ended := false, restored := false } : Ctx).stat ≠ CtxState.live) ∧
      (({ stat := CtxState.registered, kind := CtxKind.session, floor := 0, car := some 0, tag := 0x00#8, source := 0x0000#16, station := 1, token := 0x0000000000000001#64, time := 1000, order := 0, life := 0, expiry := 0, cost := 0x00000000#32, tts := 0x00000000#32, moves := 0x00#8, phase := 0, oldCar := none, group := none, ended := false, restored := false } : Ctx).kind = CtxKind.session) ∧
      (atSched12.sched.ctxs.get none 0 = some ({ stat := CtxState.registered, kind := CtxKind.session, floor := 0, car := some 0, tag := 0x00#8, source := 0x0000#16, station := 1, token := 0x0000000000000001#64, time := 1000, order := 0, life := 0, expiry := 0, cost := 0x00000000#32, tts := 0x00000000#32, moves := 0x00#8, phase := 0, oldCar := none, group := none, ended := false, restored := false } : Ctx)) ∧
      (1 ≠ 0)) ∧
    ((atSched11.schWorks = true) ∧
      (({ stat := CtxState.live, kind := CtxKind.session, floor := 0, car := some 0, tag := 0x00#8, source := 0x0000#16, station := 1, token := 0x0000000000000001#64, time := 1000, order := 0, life := 0, expiry := 9000000, cost := 0x00000000#32, tts := 0x00000000#32, moves := 0x00#8, phase := 0, oldCar := none, group := none, ended := false, restored := false } : Ctx).group = none) ∧
      (({ stat := CtxState.live, kind := CtxKind.session, floor := 0, car := some 0, tag := 0x00#8, source := 0x0000#16, station := 1, token := 0x0000000000000001#64, time := 1000, order := 0, life := 0, expiry := 9000000, cost := 0x00000000#32, tts := 0x00000000#32, moves := 0x00#8, phase := 0, oldCar := none, group := none, ended := false, restored := false } : Ctx).ended = false) ∧
      (({ stat := CtxState.live, kind := CtxKind.session, floor := 0, car := some 0, tag := 0x00#8, source := 0x0000#16, station := 1, token := 0x0000000000000001#64, time := 1000, order := 0, life := 0, expiry := 9000000, cost := 0x00000000#32, tts := 0x00000000#32, moves := 0x00#8, phase := 0, oldCar := none, group := none, ended := false, restored := false } : Ctx).stat = CtxState.live) ∧
      (({ stat := CtxState.live, kind := CtxKind.session, floor := 0, car := some 0, tag := 0x00#8, source := 0x0000#16, station := 1, token := 0x0000000000000001#64, time := 1000, order := 0, life := 0, expiry := 9000000, cost := 0x00000000#32, tts := 0x00000000#32, moves := 0x00#8, phase := 0, oldCar := none, group := none, ended := false, restored := false } : Ctx).kind = CtxKind.session) ∧
      (atSched11.sched.open_ = [(0, ({ stat := CtxState.live, kind := CtxKind.session, floor := 0, car := some 0, tag := 0x00#8, source := 0x0000#16, station := 1, token := 0x0000000000000001#64, time := 1000, order := 0, life := 0, expiry := 9000000, cost := 0x00000000#32, tts := 0x00000000#32, moves := 0x00#8, phase := 0, oldCar := none, group := none, ended := false, restored := false } : Ctx))])) ∧
    ((atSched6.schWorks = false)) ∧
    ((atSched6.schMode = 3) ∧
      (atSched6.schRuns = true)) ∧
    ((atSched0.schMode ≠ 3 ∨ ({ words := [0x00000007#32, 0x00000007#32, 0x00000007#32, 0x00000007#32, 0x00000007#32, 0x00000007#32, 0x00000007#32, 0x00000007#32, 0x00000007#32, 0x00000007#32, 0x00000007#32, 0x00000007#32, 0x00000007#32, 0x00000007#32, 0x00000007#32, 0x00000007#32], poison := false } : Item).poison = true)) ∧
    ((atSched14.schMode = 3) ∧
      (atSched14.schRuns = true) ∧
      (atSched14.sessionDoors = [(0, 5)]) ∧
      (atSched14.sched.grants.get none 5 = some ({ live := true, remain := 0x000007d0#32, at_ := 4000000 } : Grant))) ∧
    ((atSched0.schMode ≠ 3)) := by
  and_intros
  all_goals decide +kernel

theorem witness_SchedulerFollowsItsCars :
    ((atSched5.sched.stat ≠ SchedState.standby) ∧
      (atSched5.schMember = true) ∧
      (atSched5.schRuns = true) ∧
      (getBits 0x00010500#32 19 16 = 1) ∧
      (atSched5.sc.ofGroup 0x00000000#32 = none) ∧
      (List.find? (fun i => (atSched5.sched.ctxs.get none i).isNone) (List.range 1024) = some 0) ∧
      (1 ≠ 0)) ∧
    ((atSched16.sched.stat ≠ SchedState.standby) ∧
      (atSched16.schMember = true) ∧
      (atSched16.schRuns = true) ∧
      (atSched16.sc.commits atSched16.sc.ownCar ({ stat := CtxState.assigned, kind := CtxKind.hallUp, floor := 0, car := some 0, tag := 0x00#8, source := 0x0000#16, station := 0, token := 0x0000000000000000#64, time := 1000, order := 0, life := 0, expiry := 0, cost := 0x00000000#32, tts := 0x00000000#32, moves := 0x00#8, phase := 0, oldCar := none, group := some 0x00000001#32, ended := false, restored := false } : Ctx) = false) ∧
      (({ stat := CtxState.assigned, kind := CtxKind.hallUp, floor := 0, car := some 0, tag := 0x00#8, source := 0x0000#16, station := 0, token := 0x0000000000000000#64, time := 1000, order := 0, life := 0, expiry := 0, cost := 0x00000000#32, tts := 0x00000000#32, moves := 0x00#8, phase := 0, oldCar := none, group := some 0x00000001#32, ended := false, restored := false } : Ctx).stat = CtxState.assigned) ∧
      (atSched16.sc.ofGroup 0x00000001#32 = some (0, ({ stat := CtxState.assigned, kind := CtxKind.hallUp, floor := 0, car := some 0, tag := 0x00#8, source := 0x0000#16, station := 0, token := 0x0000000000000000#64, time := 1000, order := 0, life := 0, expiry := 0, cost := 0x00000000#32, tts := 0x00000000#32, moves := 0x00#8, phase := 0, oldCar := none, group := some 0x00000001#32, ended := false, restored := false } : Ctx))) ∧
      (1 ≠ 0)) ∧
    ((atSched17.sched.stat ≠ SchedState.standby) ∧
      (atSched17.schMember = true) ∧
      (atSched17.schRuns = true) ∧
      (({ stat := CtxState.committed, kind := CtxKind.hallUp, floor := 0, car := some 0, tag := 0x00#8, source := 0x0000#16, station := 0, token := 0x0000000000000000#64, time := 1000, order := 0, life := 0, expiry := 0, cost := 0x00000000#32, tts := 0x00000000#32, moves := 0x00#8, phase := 0, oldCar := none, group := some 0x00000001#32, ended := false, restored := false } : Ctx).stat = CtxState.committed) ∧
      (atSched17.sc.ofGroup 0x00000001#32 = some (0, ({ stat := CtxState.committed, kind := CtxKind.hallUp, floor := 0, car := some 0, tag := 0x00#8, source := 0x0000#16, station := 0, token := 0x0000000000000000#64, time := 1000, order := 0, life := 0, expiry := 0, cost := 0x00000000#32, tts := 0x00000000#32, moves := 0x00#8, phase := 0, oldCar := none, group := some 0x00000001#32, ended := false, restored := false } : Ctx)))) ∧
    ((atSched15.sched.drive.stat = DriveState.moving) ∧
      (atSched15.sched.stat ≠ SchedState.standby) ∧
      (atSched15.schMember = true) ∧
      (atSched15.schRuns = true) ∧
      (atSched15.sc.ofGroup 0x00000001#32 = some (0, ({ stat := CtxState.live, kind := CtxKind.session, floor := 0, car := some 0, tag := 0x00#8, source := 0x0000#16, station := 0, token := 0x0000000000000000#64, time := 1000, order := 0, life := 0, expiry := 0, cost := 0x00000000#32, tts := 0x00000000#32, moves := 0x00#8, phase := 0, oldCar := none, group := some 0x00000001#32, ended := false, restored := false } : Ctx))) ∧
      (1 ≠ 0)) ∧
    ((atSched16.sched.drive.stat = DriveState.moving) ∧
      (atSched16.sched.stat ≠ SchedState.standby) ∧
      (atSched16.schMember = true) ∧
      (atSched16.schRuns = true) ∧
      (({ stat := CtxState.assigned, kind := CtxKind.hallUp, floor := 0, car := some 0, tag := 0x00#8, source := 0x0000#16, station := 0, token := 0x0000000000000000#64, time := 1000, order := 0, life := 0, expiry := 0, cost := 0x00000000#32, tts := 0x00000000#32, moves := 0x00#8, phase := 0, oldCar := none, group := some 0x00000001#32, ended := false, restored := false } : Ctx).stat ≠ CtxState.live) ∧
      (atSched16.sc.ofGroup 0x00000001#32 = some (0, ({ stat := CtxState.assigned, kind := CtxKind.hallUp, floor := 0, car := some 0, tag := 0x00#8, source := 0x0000#16, station := 0, token := 0x0000000000000000#64, time := 1000, order := 0, life := 0, expiry := 0, cost := 0x00000000#32, tts := 0x00000000#32, moves := 0x00#8, phase := 0, oldCar := none, group := some 0x00000001#32, ended := false, restored := false } : Ctx)))) ∧
    ((atSched15.sched.drive.stat = DriveState.moving) ∧
      (atSched15.sched.stat ≠ SchedState.standby) ∧
      (atSched15.schMember = true) ∧
      (atSched15.schRuns = true) ∧
      (({ stat := CtxState.live, kind := CtxKind.session, floor := 0, car := some 0, tag := 0x00#8, source := 0x0000#16, station := 0, token := 0x0000000000000000#64, time := 1000, order := 0, life := 0, expiry := 0, cost := 0x00000000#32, tts := 0x00000000#32, moves := 0x00#8, phase := 0, oldCar := none, group := some 0x00000001#32, ended := false, restored := false } : Ctx).floor < 64) ∧
      (({ stat := CtxState.live, kind := CtxKind.session, floor := 0, car := some 0, tag := 0x00#8, source := 0x0000#16, station := 0, token := 0x0000000000000000#64, time := 1000, order := 0, life := 0, expiry := 0, cost := 0x00000000#32, tts := 0x00000000#32, moves := 0x00#8, phase := 0, oldCar := none, group := some 0x00000001#32, ended := false, restored := false } : Ctx).stat = CtxState.live) ∧
      (atSched15.sc.ofGroup 0x00000001#32 = some (0, ({ stat := CtxState.live, kind := CtxKind.session, floor := 0, car := some 0, tag := 0x00#8, source := 0x0000#16, station := 0, token := 0x0000000000000000#64, time := 1000, order := 0, life := 0, expiry := 0, cost := 0x00000000#32, tts := 0x00000000#32, moves := 0x00#8, phase := 0, oldCar := none, group := some 0x00000001#32, ended := false, restored := false } : Ctx)))) ∧
    ((atSched0.schMember = false)) ∧
    ((atSched4.schMode = 2) ∧
      (atSched4.schRuns = true) ∧
      (0 < atSched4.schCars) ∧
      (BitVec.getLsbD (({ words := [0x00000007#32, 0x00000007#32, 0x00000007#32, 0x00000007#32, 0x00000007#32, 0x00000007#32, 0x00000007#32, 0x00000007#32, 0x00000007#32, 0x00000007#32, 0x00000007#32, 0x00000007#32, 0x00000007#32, 0x00000007#32, 0x00000007#32, 0x00000007#32], poison := false } : Item).words.getD 6 0) 15 = false) ∧
      (({ words := [0x00000007#32, 0x00000007#32, 0x00000007#32, 0x00000007#32, 0x00000007#32, 0x00000007#32, 0x00000007#32, 0x00000007#32, 0x00000007#32, 0x00000007#32, 0x00000007#32, 0x00000007#32, 0x00000007#32, 0x00000007#32, 0x00000007#32, 0x00000007#32], poison := false } : Item).words.length = 16) ∧
      (({ words := [0x00000007#32, 0x00000007#32, 0x00000007#32, 0x00000007#32, 0x00000007#32, 0x00000007#32, 0x00000007#32, 0x00000007#32, 0x00000007#32, 0x00000007#32, 0x00000007#32, 0x00000007#32, 0x00000007#32, 0x00000007#32, 0x00000007#32, 0x00000007#32], poison := false } : Item).poison = false)) ∧
    ((atSched28.sched.stat ≠ SchedState.standby) ∧
      (atSched28.schMode = 2) ∧
      (atSched28.schRuns = true) ∧
      (0 < atSched28.schCars) ∧
      (({ words := [0x00000007#32, 0x00000007#32, 0x00000007#32, 0x00000007#32, 0x00000007#32, 0x00000007#32, 0x00008000#32, 0x00000007#32, 0x00000007#32, 0x00000007#32, 0x00000007#32, 0x00000007#32, 0x00000007#32, 0x00000007#32, 0x00000007#32, 0x00000007#32], poison := false } : Item).words.getD 6 0 ≠ (atSched28.sched.cars.get CarView.reset 0).words.getD 6 0) ∧
      (BitVec.getLsbD (({ words := [0x00000007#32, 0x00000007#32, 0x00000007#32, 0x00000007#32, 0x00000007#32, 0x00000007#32, 0x00008000#32, 0x00000007#32, 0x00000007#32, 0x00000007#32, 0x00000007#32, 0x00000007#32, 0x00000007#32, 0x00000007#32, 0x00000007#32, 0x00000007#32], poison := false } : Item).words.getD 6 0) 15 = true) ∧
      (({ words := [0x00000007#32, 0x00000007#32, 0x00000007#32, 0x00000007#32, 0x00000007#32, 0x00000007#32, 0x00008000#32, 0x00000007#32, 0x00000007#32, 0x00000007#32, 0x00000007#32, 0x00000007#32, 0x00000007#32, 0x00000007#32, 0x00000007#32, 0x00000007#32], poison := false } : Item).words.length = 16) ∧
      (({ words := [0x00000007#32, 0x00000007#32, 0x00000007#32, 0x00000007#32, 0x00000007#32, 0x00000007#32, 0x00008000#32, 0x00000007#32, 0x00000007#32, 0x00000007#32, 0x00000007#32, 0x00000007#32, 0x00000007#32, 0x00000007#32, 0x00000007#32, 0x00000007#32], poison := false } : Item).poison = false) ∧
      (({ stat := CtxState.registered, kind := CtxKind.hallUp, floor := 0, car := none, tag := 0x00#8, source := 0x0000#16, station := 0, token := 0x0000000000000000#64, time := 1000, order := 0, life := 0, expiry := 0, cost := 0x00000000#32, tts := 0x00000000#32, moves := 0x00#8, phase := 0, oldCar := none, group := none, ended := false, restored := false } : Ctx).car = none) ∧
      (({ stat := CtxState.registered, kind := CtxKind.hallUp, floor := 0, car := none, tag := 0x00#8, source := 0x0000#16, station := 0, token := 0x0000000000000000#64, time := 1000, order := 0, life := 0, expiry := 0, cost := 0x00000000#32, tts := 0x00000000#32, moves := 0x00#8, phase := 0, oldCar := none, group := none, ended := false, restored := false } : Ctx).stat = CtxState.registered) ∧
      (atSched28.sched.ctxs.get none (getBits (({ words := [0x00000007#32, 0x00000007#32, 0x00000007#32, 0x00000007#32, 0x00000007#32, 0x00000007#32, 0x00008000#32, 0x00000007#32, 0x00000007#32, 0x00000007#32, 0x00000007#32, 0x00000007#32, 0x00000007#32, 0x00000007#32, 0x00000007#32, 0x00000007#32], poison := false } : Item).words.getD 6 0) 9 0) = some ({ stat := CtxState.registered, kind := CtxKind.hallUp, floor := 0, car := none, tag := 0x00#8, source := 0x0000#16, station := 0, token := 0x0000000000000000#64, time := 1000, order := 0, life := 0, expiry := 0, cost := 0x00000000#32, tts := 0x00000000#32, moves := 0x00#8, phase := 0, oldCar := none, group := none, ended := false, restored := false } : Ctx))) ∧
    ((atSched0.schMode ≠ 2 ∨ ({ words := [0x00000007#32, 0x00000007#32, 0x00000007#32, 0x00000007#32, 0x00000007#32, 0x00000007#32, 0x00000007#32, 0x00000007#32, 0x00000007#32, 0x00000007#32, 0x00000007#32, 0x00000007#32, 0x00000007#32, 0x00000007#32, 0x00000007#32, 0x00000007#32], poison := false } : Item).poison = true ∨ ({ words := [0x00000007#32, 0x00000007#32, 0x00000007#32, 0x00000007#32, 0x00000007#32, 0x00000007#32, 0x00000007#32, 0x00000007#32, 0x00000007#32, 0x00000007#32, 0x00000007#32, 0x00000007#32, 0x00000007#32, 0x00000007#32, 0x00000007#32, 0x00000007#32], poison := false } : Item).words.length ≠ 16)) ∧
    ((atSched29.sched.open_ = []) ∧
      (atSched29.sched.resyncStop = none) ∧
      (atSched29.sched.drive.stat = DriveState.atFloor) ∧
      (atSched29.schDrives = true) ∧
      (atSched29.schWorks = true) ∧
      (atSched29.sc.liveAt 0 = none) ∧
      (atSched29.sched.drive.at_ = some 0)) ∧
    ((atSched19.sched.drive.stat = DriveState.atFloor) ∧
      (atSched19.schDrives = true) ∧
      (atSched19.schWorks = true) ∧
      (atSched19.sc.liveAt 0 ≠ none) ∧
      (atSched19.sched.drive.at_ = some 0)) ∧
    ((atSched0.schDrives = true) ∧
      (atSched0.schWorks = true)) ∧
    ((atSched4.schWorks = false ∨ atSched4.schDrives = false)) ∧
    ((atSched6.noneWaits ([2566, 2567, 2568, 2571, 2609, 2560, 2561, 2562, 2563] ++ List.map (fun x => 2576 + x) (List.range atSched6.schCars))) ∧
      (atSched6.schMode = 3 ∨ atSched6.sched.stat = SchedState.standby) ∧
      (atSched6.schRuns = true)) ∧
    ((atSched10.noneWaits [2566, 2567, 2568, 2576, 2571, 2609, 2560, 2561, 2562, 2563]) ∧
      (atSched10.sc.ownCar.inServ = true) ∧
      (atSched10.sched.drive.stat = DriveState.idle) ∧
      (atSched10.sched.ctxs = []) ∧
      (atSched10.schMember = false) ∧
      (atSched10.sched.stat = SchedState.running) ∧
      (atSched10.schMode = 1) ∧
      (atSched10.schRuns = true)) ∧
    (((satInc atSched0.sched.run).toNat ≠ max 1 atSched0.SCH_CTL_MISSRUN) ∧
      (atSched0.schRuns = true)) ∧
    (((satInc atSched21.sched.run).toNat = max 1 atSched21.SCH_CTL_MISSRUN) ∧
      (atSched21.schRuns = true)) ∧
    ((atSched8.schRuns = false)) ∧
    ((atSched22.sched.resyncLeft = true) ∧
      (atSched22.sched.stat = SchedState.resync) ∧
      (atSched22.schRuns = true)) ∧
    ((atSched0.sched.stat ≠ SchedState.resync ∨ atSched0.sched.resyncLeft = false)) ∧
    ((atSched24.schDrives = false) ∧
      (atSched24.persist.newestEpoch = none) ∧
      (atSched24.sched.stat ≠ SchedState.off) ∧
      (atSched24.gate.takeover = true)) ∧
    ((atSched25.sched.stat ≠ SchedState.off) ∧
      (atSched25.gate.takeover = true) ∧
      (atSched25.dev - leAt ({ content := [], marker := [0x45#8, 0x50#8, 0x4f#8, 0x43#8, 0x03#8, 0x00#8, 0x00#8, 0x00#8, 0x00#8, 0x00#8, 0x00#8, 0x00#8, 0x00#8, 0x00#8, 0x00#8, 0x00#8, 0x00#8, 0x00#8, 0x00#8, 0x00#8, 0x00#8, 0x00#8, 0x00#8, 0x00#8, 0x00#8, 0x00#8, 0x00#8, 0x00#8, 0xbb#8, 0x8c#8, 0x54#8, 0x89#8] } : EpochBuf).marker 20 6 ≤ BitVec.toNat (atSched25.reg Reg.BUS_EPMAXAGE) * 1000000) ∧
      (atSched25.persist.newestEpoch = some (0, ({ content := [], marker := [0x45#8, 0x50#8, 0x4f#8, 0x43#8, 0x03#8, 0x00#8, 0x00#8, 0x00#8, 0x00#8, 0x00#8, 0x00#8, 0x00#8, 0x00#8, 0x00#8, 0x00#8, 0x00#8, 0x00#8, 0x00#8, 0x00#8, 0x00#8, 0x00#8, 0x00#8, 0x00#8, 0x00#8, 0x00#8, 0x00#8, 0x00#8, 0x00#8, 0xbb#8, 0x8c#8, 0x54#8, 0x89#8] } : EpochBuf)))) ∧
    ((atSched0.gate.takeover = false)) := by
  and_intros
  all_goals decide +kernel

theorem witness_FigureStepsComputeAndBranch :
    ((atFig0.figRuns 0 = true) ∧
      ((atFig0.seqr.figs.get Figure.reset 0).step = some FigStep.nop) ∧
      ((atFig0.seqr.figs.get Figure.reset 0).since + 1 < atFig0.SEQ_FSTEPMAX 0) ∧
      ((atFig0.seqr.figs.get Figure.reset 0).executes = true)) ∧
    ((atFig1.figRuns 0 = true) ∧
      ((atFig1.seqr.figs.get Figure.reset 0).since + 1 < atFig1.SEQ_FSTEPMAX 0) ∧
      ((atFig1.seqr.figs.get Figure.reset 0).executes = true) ∧
      ((atFig1.seqr.figs.get Figure.reset 0).step = some (FigStep.ldi 0x3#4 0x400000#23))) ∧
    ((atFig3.figRuns 0 = true) ∧
      ((atFig3.seqr.figs.get Figure.reset 0).since + 1 < atFig3.SEQ_FSTEPMAX 0) ∧
      ((atFig3.seqr.figs.get Figure.reset 0).executes = true) ∧
      ((atFig3.seqr.figs.get Figure.reset 0).step = some (FigStep.ldw 0x2#4 0x00000005#32))) ∧
    ((atFig4.figRuns 0 = true) ∧
      ((atFig4.seqr.figs.get Figure.reset 0).since + 1 < atFig4.SEQ_FSTEPMAX 0) ∧
      ((atFig4.seqr.figs.get Figure.reset 0).executes = true) ∧
      ((atFig4.seqr.figs.get Figure.reset 0).step = some (FigStep.mov 0x3#4 0x1#4))) ∧
    ((atFig5.figRuns 0 = true) ∧
      ((atFig5.seqr.figs.get Figure.reset 0).since + 1 < atFig5.SEQ_FSTEPMAX 0) ∧
      ((atFig5.seqr.figs.get Figure.reset 0).executes = true) ∧
      ((atFig5.seqr.figs.get Figure.reset 0).step = some (FigStep.add 0x0#4 0x0#4 0x1#4))) ∧
    ((atFig6.figRuns 0 = true) ∧
      ((atFig6.seqr.figs.get Figure.reset 0).since + 1 < atFig6.SEQ_FSTEPMAX 0) ∧
      ((atFig6.seqr.figs.get Figure.reset 0).executes = true) ∧
      ((atFig6.seqr.figs.get Figure.reset 0).step = some (FigStep.sub 0x3#4 0x2#4 0x0#4))) ∧
    ((atFig7.figRuns 0 = true) ∧
      ((atFig7.seqr.figs.get Figure.reset 0).since + 1 < atFig7.SEQ_FSTEPMAX 0) ∧
      ((atFig7.seqr.figs.get Figure.reset 0).executes = true) ∧
      ((atFig7.seqr.figs.get Figure.reset 0).step = some (FigStep.addi 0x3#4 0x2#4 0x4000#15))) ∧
    ((atFig8.figRuns 0 = true) ∧
      ((atFig8.seqr.figs.get Figure.reset 0).since + 1 < atFig8.SEQ_FSTEPMAX 0) ∧
      ((atFig8.seqr.figs.get Figure.reset 0).executes = true) ∧
      ((atFig8.seqr.figs.get Figure.reset 0).step = some (FigStep.and 0x3#4 0x1#4 0x2#4))) ∧
    ((atFig9.figRuns 0 = true) ∧
      ((atFig9.seqr.figs.get Figure.reset 0).since + 1 < atFig9.SEQ_FSTEPMAX 0) ∧
      ((atFig9.seqr.figs.get Figure.reset 0).executes = true) ∧
      ((atFig9.seqr.figs.get Figure.reset 0).step = some (FigStep.or 0x3#4 0x1#4 0x2#4))) ∧
    ((atFig10.figRuns 0 = true) ∧
      ((atFig10.seqr.figs.get Figure.reset 0).since + 1 < atFig10.SEQ_FSTEPMAX 0) ∧
      ((atFig10.seqr.figs.get Figure.reset 0).executes = true) ∧
      ((atFig10.seqr.figs.get Figure.reset 0).step = some (FigStep.xor 0x3#4 0x1#4 0x2#4))) ∧
    ((atFig11.figRuns 0 = true) ∧
      ((atFig11.seqr.figs.get Figure.reset 0).since + 1 < atFig11.SEQ_FSTEPMAX 0) ∧
      ((atFig11.seqr.figs.get Figure.reset 0).executes = true) ∧
      ((atFig11.seqr.figs.get Figure.reset 0).step = some (FigStep.shl 0x3#4 0x1#4 0x03#5))) ∧
    ((atFig12.figRuns 0 = true) ∧
      ((atFig12.seqr.figs.get Figure.reset 0).since + 1 < atFig12.SEQ_FSTEPMAX 0) ∧
      ((atFig12.seqr.figs.get Figure.reset 0).executes = true) ∧
      ((atFig12.seqr.figs.get Figure.reset 0).step = some (FigStep.shr 0x3#4 0x2#4 true 0x03#5))) ∧
    ((atFig13.figRuns 0 = true) ∧
      ((atFig13.seqr.figs.get Figure.reset 0).since + 1 < atFig13.SEQ_FSTEPMAX 0) ∧
      ((atFig13.seqr.figs.get Figure.reset 0).executes = true) ∧
      ((atFig13.seqr.figs.get Figure.reset 0).step = some (FigStep.shr 0x3#4 0x2#4 false 0x03#5))) ∧
    ((atFig14.figRuns 0 = true) ∧
      ((atFig14.seqr.figs.get Figure.reset 0).since + 1 < atFig14.SEQ_FSTEPMAX 0) ∧
      ((atFig14.seqr.figs.get Figure.reset 0).executes = true) ∧
      ((atFig14.seqr.figs.get Figure.reset 0).step = some (FigStep.br 0x0#3 0x1#4 0x2#4 0x003#12))) ∧
    ((atFig15.figRuns 0 = true) ∧
      ((atFig15.seqr.figs.get Figure.reset 0).since + 1 < atFig15.SEQ_FSTEPMAX 0) ∧
      ((atFig15.seqr.figs.get Figure.reset 0).executes = true) ∧
      ((atFig15.seqr.figs.get Figure.reset 0).step = some (FigStep.bri 0x0#3 0x1#4 0x03#8 0x003#12))) ∧
    ((atFig16.figRuns 0 = true) ∧
      ((atFig16.seqr.figs.get Figure.reset 0).since + 1 < atFig16.SEQ_FSTEPMAX 0) ∧
      ((atFig16.seqr.figs.get Figure.reset 0).executes = true) ∧
      ((atFig16.seqr.figs.get Figure.reset 0).step = some (FigStep.jmp 0x003#12))) ∧
    ((atFig17.figRuns 0 = true) ∧
      ((atFig17.seqr.figs.get Figure.reset 0).stack.length < 8) ∧
      ((atFig17.seqr.figs.get Figure.reset 0).since + 1 < atFig17.SEQ_FSTEPMAX 0) ∧
      ((atFig17.seqr.figs.get Figure.reset 0).executes = true) ∧
      ((atFig17.seqr.figs.get Figure.reset 0).step = some (FigStep.call 0x003#12))) ∧
    ((atFig39.figRuns 0 = true) ∧
      ((atFig39.seqr.figs.get Figure.reset 0).stack.length = 8) ∧
      ((atFig39.seqr.figs.get Figure.reset 0).since + 1 < atFig39.SEQ_FSTEPMAX 0) ∧
      ((atFig39.seqr.figs.get Figure.reset 0).executes = true) ∧
      ((atFig39.seqr.figs.get Figure.reset 0).step = some (FigStep.call 0x003#12))) ∧
    ((atFig18.figRuns 0 = true) ∧
      ((atFig18.seqr.figs.get Figure.reset 0).step = some FigStep.ret) ∧
      ((atFig18.seqr.figs.get Figure.reset 0).since + 1 < atFig18.SEQ_FSTEPMAX 0) ∧
      ((atFig18.seqr.figs.get Figure.reset 0).executes = true) ∧
      ((atFig18.seqr.figs.get Figure.reset 0).stack = 0x005#12 :: (atFig18.seqr.figs.get Figure.reset 0).stack.tail)) ∧
    ((atFig40.figRuns 0 = true) ∧
      ((atFig40.seqr.figs.get Figure.reset 0).stack = []) ∧
      ((atFig40.seqr.figs.get Figure.reset 0).step = some FigStep.ret) ∧
      ((atFig40.seqr.figs.get Figure.reset 0).since + 1 < atFig40.SEQ_FSTEPMAX 0) ∧
      ((atFig40.seqr.figs.get Figure.reset 0).executes = true)) ∧
    ((atFig37.figRuns 0 = true) ∧
      ((atFig37.seqr.figs.get Figure.reset 0).since + 1 < atFig37.SEQ_FSTEPMAX 0) ∧
      ((atFig37.seqr.figs.get Figure.reset 0).executes = true) ∧
      ((atFig37.seqr.figs.get Figure.reset 0).step = some (FigStep.devt 0x3#4))) ∧
    ((atFig41.figRuns 0 = true) ∧
      ((atFig41.seqr.figs.get Figure.reset 0).since + 1 < atFig41.SEQ_FSTEPMAX 0) ∧
      ((atFig41.seqr.figs.get Figure.reset 0).executes = true) ∧
      ((atFig41.seqr.figs.get Figure.reset 0).step = some (FigStep.trd 0x3#4 0x1#3)) ∧
      ((atFig41.seqr.figs.get Figure.reset 0).timers.get FigTimer.stopped (0x1#3 : BitVec 3).toNat = FigTimer.running 5000100)) ∧
    ((atFig38.figRuns 0 = true) ∧
      ((atFig38.seqr.figs.get Figure.reset 0).since + 1 < atFig38.SEQ_FSTEPMAX 0) ∧
      ((atFig38.seqr.figs.get Figure.reset 0).executes = true) ∧
      (∀ (u : Nat), (atFig38.seqr.figs.get Figure.reset 0).timers.get FigTimer.stopped (0x1#3 : BitVec 3).toNat ≠ FigTimer.running u) ∧
      ((atFig38.seqr.figs.get Figure.reset 0).step = some (FigStep.trd 0x3#4 0x1#3))) ∧
    ((atFig42.figRuns 0 = true) ∧
      (atFig42.SEQ_FSTEPMAX 0 ≤ (atFig42.seqr.figs.get Figure.reset 0).since + 1) ∧
      ((atFig42.seqr.figs.get Figure.reset 0).step = some FigStep.nop) ∧
      ((atFig42.seqr.figs.get Figure.reset 0).executes = true)) ∧
    ((atFig0.figRuns 1 = false ∨ (atFig0.seqr.figs.get Figure.reset 1).executes = false)) := by
  and_intros
  all_goals first | decide +kernel | exact fun _ h => FigTimer.noConfusion h

theorem witness_FigureStepsReachTheDevice :
    ((atFig19.figRuns 0 = true) ∧
      ((atFig19.seqr.figs.get Figure.reset 0).stat = FigState.running) ∧
      ((atFig19.seqr.figs.get Figure.reset 0).since + 1 < atFig19.SEQ_FSTEPMAX 0) ∧
      ((atFig19.seqr.figs.get Figure.reset 0).executes = true) ∧
      ((atFig19.seqr.figs.get Figure.reset 0).step = some (FigStep.end_ 0x03#8))) ∧
    ((atFig45.figRuns 0 = true) ∧
      ((atFig45.seqr.figs.get Figure.reset 0).stat = FigState.aborting) ∧
      ((atFig45.seqr.figs.get Figure.reset 0).since + 1 < atFig45.SEQ_FSTEPMAX 0) ∧
      ((atFig45.seqr.figs.get Figure.reset 0).executes = true) ∧
      ((atFig45.seqr.figs.get Figure.reset 0).step = some (FigStep.end_ 0x03#8))) ∧
    ((atFig22.figRuns 0 = true) ∧
      ((atFig22.seqr.figs.get Figure.reset 0).since + 1 < atFig22.SEQ_FSTEPMAX 0) ∧
      ((atFig22.seqr.figs.get Figure.reset 0).executes = true) ∧
      ((atFig22.seqr.figs.get Figure.reset 0).step = some (FigStep.post 0x1#4 0x2#4 0x3#4))) ∧
    ((atFig25.figRuns 0 = true) ∧
      ((atFig25.seqr.figs.get Figure.reset 0).since + 1 < atFig25.SEQ_FSTEPMAX 0) ∧
      ((atFig25.seqr.figs.get Figure.reset 0).executes = true) ∧
      ((atFig25.seqr.figs.get Figure.reset 0).step = some (FigStep.move 0x1#4 0x2#4 0x3#4 (true : Bool) (true : Bool) (true : Bool) false 0x03#5))) ∧
    ((atFig46.figRuns 0 = true) ∧
      ((atFig46.seqr.figs.get Figure.reset 0).stat = FigState.running) ∧
      ((atFig46.seqr.figs.get Figure.reset 0).since + 1 < atFig46.SEQ_FSTEPMAX 0) ∧
      ((atFig46.seqr.figs.get Figure.reset 0).executes = true) ∧
      ((atFig46.seqr.figs.get Figure.reset 0).step = some (FigStep.recv 0x1#4 0x2#4 0x0#4)) ∧
      (atFig46.qf.takeItem (2816 + 0 * 32 + (0x1#4 : BitVec 4).toNat) = (some { words := [0x00000007#32], poison := false : Item }, (atFig46.qf.takeItem (2816 + 0 * 32 + (0x1#4 : BitVec 4).toNat)).snd))) ∧
    ((atFig23.figRuns 0 = true) ∧
      ((atFig23.seqr.figs.get Figure.reset 0).stat = FigState.running) ∧
      ((atFig23.seqr.figs.get Figure.reset 0).since + 1 < atFig23.SEQ_FSTEPMAX 0) ∧
      ((atFig23.seqr.figs.get Figure.reset 0).executes = true) ∧
      (atFig23.noneWaits [2816 + 0 * 32 + (0x1#4 : BitVec 4).toNat]) ∧
      ((atFig23.seqr.figs.get Figure.reset 0).step = some (FigStep.recv 0x1#4 0x2#4 0x0#4))) ∧
    ((atFig60.figRuns 0 = true) ∧
      ((atFig60.seqr.figs.get Figure.reset 0).since + 1 < atFig60.SEQ_FSTEPMAX 0) ∧
      ((atFig60.seqr.figs.get Figure.reset 0).executes = true) ∧
      ((atFig60.seqr.figs.get Figure.reset 0).step = some (FigStep.flush 0x1#4 false)) ∧
      (List.filter (fun e => e.snd.route.consumer.toNat == 2816 + 0 * 32 + (0x1#4 : BitVec 4).toNat) atFig60.fabric.built = [(0, ({ route := { queue := 0, capacity := 2, producer := 0x0530#16, consumer := 0x0b01#16, flag := false, cmdq := false, timeout := 0 }, items := [], opened := none, wcnt := 0, sent := 0, skipping := false, lost := 0x00000000#32, flushDrop := 0x00000000#32, lossNotedAt := none, broken := false, underrun := false, poison := false, last := false, lastWord := 0x00000000#32, wlen := 1, hostLeft := 0 } : Queue))])) ∧
    ((atFig20.figRuns 0 = true) ∧
      ((atFig20.seqr.figs.get Figure.reset 0).stat = FigState.running) ∧
      ((atFig20.seqr.figs.get Figure.reset 0).since + 1 < atFig20.SEQ_FSTEPMAX 0) ∧
      ((atFig20.seqr.figs.get Figure.reset 0).executes = true) ∧
      ((atFig20.seqr.figs.get Figure.reset 0).step = some (FigStep.rdreg 0x0#4 0x000c4000#32)) ∧
      (5 ≠ 11) ∧
      (islandAt (BitVec.toNat 0x000c4000#32) = some 5)) ∧
    ((atFig21.figRuns 0 = true) ∧
      ((atFig21.seqr.figs.get Figure.reset 0).stat = FigState.running) ∧
      ((atFig21.seqr.figs.get Figure.reset 0).since + 1 < atFig21.SEQ_FSTEPMAX 0) ∧
      ((atFig21.seqr.figs.get Figure.reset 0).executes = true) ∧
      ((atFig21.seqr.figs.get Figure.reset 0).step = some (FigStep.wrreg 0x0#4 0x00040000#32)) ∧
      (3 ≠ 11) ∧
      (islandAt (BitVec.toNat 0x00040000#32) = some 3)) ∧
    ((atFig0.figRuns 0 = true) ∧
      ((atFig0.seqr.figs.get Figure.reset 0).since + 1 < atFig0.SEQ_FSTEPMAX 0) ∧
      ((atFig0.seqr.figs.get Figure.reset 0).executes = true) ∧
      ((WaitKind.qroom : WaitKind) ≠ WaitKind.qready)) ∧
    ((atFig55.figRuns 0 = true) ∧
      ((atFig55.seqr.figs.get Figure.reset 0).stat = FigState.running) ∧
      ((atFig55.seqr.figs.get Figure.reset 0).since + 1 < atFig55.SEQ_FSTEPMAX 0) ∧
      ((atFig55.seqr.figs.get Figure.reset 0).executes = true) ∧
      (atFig55.fabric.stage (2816 + 0 * 32 + (0x01#8 : BitVec 8).toNat % 16) ≠ []) ∧
      ((atFig55.seqr.figs.get Figure.reset 0).step = some (FigStep.wait WaitKind.qready 0x01#8 0x8#4 0x000#12))) ∧
    ((atFig47.figRuns 0 = true) ∧
      ((atFig47.seqr.figs.get Figure.reset 0).stat = FigState.running) ∧
      ((atFig47.seqr.figs.get Figure.reset 0).since + 1 < atFig47.SEQ_FSTEPMAX 0) ∧
      ((atFig47.seqr.figs.get Figure.reset 0).executes = true) ∧
      (((atFig47.seePads 0x0000000000000000#64).withFc ((atFig47.seePads 0x0000000000000000#64).fc.waitView (0) (WaitKind.evAny : WaitKind) 0x01#8)).fc.waitHolds (0) (atFig47.seqr.figs.get Figure.reset 0) (WaitKind.evAny : WaitKind) 0x01#8 = true) ∧
      ((atFig47.seqr.figs.get Figure.reset 0).step = some (FigStep.wait (WaitKind.evAny : WaitKind) 0x01#8 0x8#4 0x000#12))) ∧
    ((atFig26.figRuns 0 = true) ∧
      ((atFig26.seqr.figs.get Figure.reset 0).stat = FigState.running) ∧
      ((atFig26.seqr.figs.get Figure.reset 0).since + 1 < atFig26.SEQ_FSTEPMAX 0) ∧
      ((atFig26.seqr.figs.get Figure.reset 0).executes = true) ∧
      (((atFig26.seePads 0x0000000000000000#64).withFc ((atFig26.seePads 0x0000000000000000#64).fc.waitView (0) (WaitKind.evAny : WaitKind) 0x01#8)).fc.waitHolds (0) (atFig26.seqr.figs.get Figure.reset 0) (WaitKind.evAny : WaitKind) 0x01#8 = false) ∧
      (8 ≤ (0x8#4 : BitVec 4).toNat) ∧
      ((atFig26.seqr.figs.get Figure.reset 0).step = some (FigStep.wait (WaitKind.evAny : WaitKind) 0x01#8 0x8#4 0x000#12))) ∧
    ((atFig30.figRuns 0 = true) ∧
      ((atFig30.seqr.figs.get Figure.reset 0).since + 1 < atFig30.SEQ_FSTEPMAX 0) ∧
      ((atFig30.seqr.figs.get Figure.reset 0).executes = true) ∧
      (0x00003#17 ≠ 0) ∧
      ((atFig30.seqr.figs.get Figure.reset 0).step = some (FigStep.tset 0x1#3 0x0#2 false 0x0#4 0x00003#17))) ∧
    ((atFig32.figRuns 0 = true) ∧
      ((atFig32.seqr.figs.get Figure.reset 0).since + 1 < atFig32.SEQ_FSTEPMAX 0) ∧
      ((atFig32.seqr.figs.get Figure.reset 0).executes = true) ∧
      ((atFig32.seqr.figs.get Figure.reset 0).step = some (FigStep.raise 0x1#4 0x80#8))) ∧
    ((atFig34.figRuns 0 = true) ∧
      ((atFig34.seqr.figs.get Figure.reset 0).since + 1 < atFig34.SEQ_FSTEPMAX 0) ∧
      ((atFig34.seqr.figs.get Figure.reset 0).executes = true) ∧
      (atFig34.figTile (0x1#2 : BitVec 2).toNat = true) ∧
      ((0x1#2 : BitVec 2).toNat ≠ 0) ∧
      ((atFig34.seqr.figs.get Figure.reset 0).step = some (FigStep.sig 0x1#2 0x03#8))) ∧
    ((atFig35.figRuns 0 = true) ∧
      ((atFig35.seqr.figs.get Figure.reset 0).since + 1 < atFig35.SEQ_FSTEPMAX 0) ∧
      ((atFig35.seqr.figs.get Figure.reset 0).executes = true) ∧
      ((atFig35.seqr.figs.get Figure.reset 0).step = some (FigStep.outl 0x03#6 (true : Bool))) ∧
      (0 ≠ (0x03#6 : BitVec 6).toNat)) ∧
    ((atFig36.figRuns 0 = true) ∧
      ((atFig36.seqr.figs.get Figure.reset 0).since + 1 < atFig36.SEQ_FSTEPMAX 0) ∧
      ((atFig36.seqr.figs.get Figure.reset 0).executes = true) ∧
      ((atFig36.seqr.figs.get Figure.reset 0).step = some (FigStep.inl 0x3#4 0x00#6))) := by
  and_intros
  all_goals decide +kernel

theorem witness_FigureEnginesAreControlled :
    ((atFig0.quarantined (6 + 1) = false) ∧
      (atFig0.figTile 1 = true) ∧
      ((atFig0.seqr.figs.get Figure.reset 1).stat = FigState.idle) ∧
      (BitVec.getLsbD 0x00000000#32 2 = false) ∧
      (BitVec.getLsbD 0x00000000#32 1 = false)) ∧
    ((atFig0.figTile 0 = true) ∧
      ((atFig0.seqr.figs.get Figure.reset 0).stat ≠ FigState.idle) ∧
      (BitVec.getLsbD 0x00000000#32 2 = false) ∧
      (BitVec.getLsbD 0x00000000#32 1 = false)) ∧
    ((atFig59.SEQ_FCFG_ABORTEN 0 = 1) ∧
      (atFig59.figTile 0 = true) ∧
      ((atFig59.seqr.figs.get Figure.reset 0).waiting = FigWait.none) ∧
      ((atFig59.seqr.figs.get Figure.reset 0).stat = FigState.running) ∧
      (BitVec.getLsbD 0x00000000#32 2 = false) ∧
      (BitVec.getLsbD 0x00000000#32 0 = false)) ∧
    ((atFig0.SEQ_FCFG_ABORTEN 0 = 0) ∧
      (atFig0.figTile 0 = true) ∧
      ((atFig0.seqr.figs.get Figure.reset 0).waiting = FigWait.none) ∧
      ((atFig0.seqr.figs.get Figure.reset 0).stat = FigState.running) ∧
      (BitVec.getLsbD 0x00000000#32 2 = false) ∧
      (BitVec.getLsbD 0x00000000#32 0 = false)) ∧
    ((atFig0.figTile 1 = true) ∧
      ((atFig0.seqr.figs.get Figure.reset 1).stat = FigState.idle) ∧
      (BitVec.getLsbD 0x00000000#32 2 = false) ∧
      (BitVec.getLsbD 0x00000000#32 0 = false)) ∧
    ((atFig44.figTile 0 = true) ∧
      ((atFig44.seqr.figs.get Figure.reset 0).stat = FigState.fault) ∧
      (BitVec.getLsbD 0x00000000#32 1 = false) ∧
      (BitVec.getLsbD 0x00000000#32 0 = false)) ∧
    ((atFig0.figTile 2 = false)) ∧
    ((atFig48.figRuns 0 = true) ∧
      ((atFig48.seqr.figs.get Figure.reset 0).stat = FigState.waiting) ∧
      ((atFig48.seqr.figs.get Figure.reset 0).waiting = FigWait.wait) ∧
      (((atFig48.seePads 0x0000000000000000#64).withFc ((atFig48.seePads 0x0000000000000000#64).fc.waitView (0) (WaitKind.evAny : WaitKind) 0x01#8)).fc.waitHolds (0) (atFig48.seqr.figs.get Figure.reset 0) (WaitKind.evAny : WaitKind) 0x01#8 = true) ∧
      ((atFig48.seqr.figs.get Figure.reset 0).step = some (FigStep.wait (WaitKind.evAny : WaitKind) 0x01#8 0x8#4 0x000#12))) ∧
    (((atFig0.seqr.figs.get Figure.reset 0).waiting ≠ FigWait.wait)) ∧
    (((atFig41.seqr.figs.get Figure.reset 0).waiting = FigWait.none) ∧
      ((atFig41.seqr.figs.get Figure.reset 0).timers.get FigTimer.stopped 1 = FigTimer.running 5000100)) ∧
    ((atFig49.figRuns 0 = true) ∧
      ((atFig49.seqr.figs.get Figure.reset 0).since < atFig49.SEQ_FSTEPMAX 0) ∧
      ((atFig49.seqr.figs.get Figure.reset 0).stat = FigState.waiting) ∧
      ((atFig49.seqr.figs.get Figure.reset 0).waiting = FigWait.wait) ∧
      ((atFig49.seqr.figs.get Figure.reset 0).timers.get FigTimer.stopped 1 = FigTimer.running 5000100) ∧
      ((WaitKind.in1 : WaitKind) = WaitKind.in1) ∧
      ((atFig49.inputLines 0x0000000000000000#64).getLsbD ((0x01#8 : BitVec 8).toNat % 64) = false) ∧
      ((0x1#4 : BitVec 4).toNat = 1) ∧
      ((atFig49.seqr.figs.get Figure.reset 0).step = some (FigStep.wait (WaitKind.in1 : WaitKind) 0x01#8 0x1#4 0x000#12))) ∧
    ((atFig51.figRuns 0 = true) ∧
      ((atFig51.seqr.figs.get Figure.reset 0).since < atFig51.SEQ_FSTEPMAX 0) ∧
      ((atFig51.seqr.figs.get Figure.reset 0).stat = FigState.waiting) ∧
      ((atFig51.seqr.figs.get Figure.reset 0).waiting = FigWait.reg) ∧
      ((atFig51.seqr.figs.get Figure.reset 0).stale.get 0 (islandNum (Island.mpi : Island)) = 0) ∧
      (islandAt (BitVec.toNat 0x000c4000#32) = some (islandNum (Island.mpi : Island))) ∧
      ((atFig51.seqr.figs.get Figure.reset 0).step = some (FigStep.rdreg 0x0#4 0x000c4000#32)) ∧
      (atFig51.qf.takeItem (3008 + 0 * 16 + islandNum (Island.mpi : Island)) = (some { words := [0, 0x00000007#32], poison := false : Item }, (atFig51.qf.takeItem (3008 + 0 * 16 + islandNum (Island.mpi : Island))).snd))) ∧
    ((atFig0.noneWaits [3008 + 0 * 16 + islandNum (Island.pwr : Island)])) ∧
    ((atFig0.figRuns 0 = false ∨ (atFig0.seqr.figs.get Figure.reset 0).waiting ≠ FigWait.reg)) ∧
    ((atFig53.runs (Island.mpi : Island) = true) ∧
      (figReadable (BitVec.toNat 0x000c4000#32) = true) ∧
      (islandAt (BitVec.toNat 0x000c4000#32) = some (islandNum (Island.mpi : Island))) ∧
      (locate (BitVec.toNat 0x000c4000#32) = some ((Reg.MPI_PLCFG : Reg), ([0] : List Nat))) ∧
      ((atFig53.withQf (atFig53.qf.takeItem (islandNum (Island.mpi : Island) * 256 + 248 + 0)).snd).queueSide (Reg.MPI_PLCFG : Reg) ([0] : List Nat) false = true) ∧
      ((atFig53.withQf (atFig53.qf.takeItem (islandNum (Island.mpi : Island) * 256 + 248 + 0)).snd).there (BitVec.toNat 0x000c4000#32) = true) ∧
      (atFig53.qf.takeItem (islandNum (Island.mpi : Island) * 256 + 248 + 0) = (some { words := [1, 0x000c4000#32, 0], poison := false : Item }, (atFig53.qf.takeItem (islandNum (Island.mpi : Island) * 256 + 248 + 0)).snd))) ∧
    ((atFig54.runs (Island.mpi : Island) = true) ∧
      (islandAt (BitVec.toNat 0x00080010#32) ≠ some (islandNum (Island.mpi : Island))) ∧
      (atFig54.qf.takeItem (islandNum (Island.mpi : Island) * 256 + 248 + 0) = (some { words := [0x00000001#32, 0x00080010#32, 0x00000000#32], poison := false : Item }, (atFig54.qf.takeItem (islandNum (Island.mpi : Island) * 256 + 248 + 0)).snd))) ∧
    ((atFig56.runs (Island.qf : Island) = true) ∧
      (figWritable (BitVec.toNat 0x00042004#32) = true) ∧
      (islandAt (BitVec.toNat 0x00042004#32) = some (islandNum (Island.qf : Island))) ∧
      (locate (BitVec.toNat 0x00042004#32) = some ((Reg.QF_GIRQEN : Reg), ([] : List Nat))) ∧
      ((atFig56.withQf (atFig56.qf.takeItem (islandNum (Island.qf : Island) * 256 + 248 + 0)).snd).queueSide (Reg.QF_GIRQEN : Reg) ([] : List Nat) true = true) ∧
      ((atFig56.withQf (atFig56.qf.takeItem (islandNum (Island.qf : Island) * 256 + 248 + 0)).snd).there (BitVec.toNat 0x00042004#32) = true) ∧
      (atFig56.qf.takeItem (islandNum (Island.qf : Island) * 256 + 248 + 0) = (some { words := [2, 0x00042004#32, 0x00000005#32], poison := false : Item }, (atFig56.qf.takeItem (islandNum (Island.qf : Island) * 256 + 248 + 0)).snd)) ∧
      ((atFig56.withQf (atFig56.qf.takeItem (islandNum (Island.qf : Island) * 256 + 248 + 0)).snd).portWrite Port.host (Reg.QF_GIRQEN : Reg) ([] : List Nat) 0x00000005#32 = (Status.ok, ((atFig56.withQf (atFig56.qf.takeItem (islandNum (Island.qf : Island) * 256 + 248 + 0)).snd).portWrite Port.host (Reg.QF_GIRQEN : Reg) ([] : List Nat) 0x00000005#32).snd))) ∧
    ((atFig0.noneWaits [islandNum (Island.pwr : Island) * 256 + 248 + 0])) := by
  and_intros
  all_goals decide +kernel

theorem witness_LatticePassesAndReloads :
    ((atSafe0.latticeRuns = true) ∧
      (0 < 6)) ∧
    ((atSafe10.react.ackOwed = none) ∧
      (atSafe10.lattice.unapplied = false) ∧
      (atSafe10.lattice.stat = LatState.running) ∧
      (atSafe10.quarantined 1 = false) ∧
      (atSafe10.latticeRuns = true)) ∧
    ((atSafe1.latticeRuns = false)) ∧
    ((atSafe13.latticeRuns = true) ∧
      (1000 < 2 ^ 28) ∧
      (atSafe13.lattice.timerPreset 0 = some 1000) ∧
      (1000 ≤ (atSafe13.lattice.tru.timerAt false 0).snd.toNat + atSafe13.passUs) ∧
      (atSafe13.lattice.cmp.timerAt true 0 = (true, (atSafe13.lattice.tru.timerAt false 0).snd)) ∧
      (atSafe13.lattice.tru.timerAt false 0 = (true, (atSafe13.lattice.tru.timerAt false 0).snd))) ∧
    ((atSafe0.latticeRuns = false ∨ atSafe0.lattice.timerPreset 0 = none)) ∧
    ((atSafe2.sf.reloadReason = 0) ∧
      (atSafe2.quarantined 1 = false) ∧
      (atSafe2.react.underTest 1 = false) ∧
      (atSafe2.lattice.reloadReq = false) ∧
      (atSafe2.lattice.stat = LatState.running) ∧
      (atSafe2.rwlOpen Reg.SFI_LATCTL []) ∧
      (BitVec.getLsbD 0x00000000#32 1 = false) ∧
      (0 < 6)) ∧
    ((atSafe0.sf.reloadReason ≠ 0) ∧
      (atSafe0.quarantined 1 = false) ∧
      (atSafe0.react.underTest 1 = false) ∧
      (atSafe0.lattice.reloadReq = false) ∧
      (atSafe0.lattice.stat = LatState.running) ∧
      (atSafe0.rwlOpen Reg.SFI_LATCTL []) ∧
      (BitVec.getLsbD 0x00000000#32 1 = false)) ∧
    ((atSafe15.sf.reloadReason = 0) ∧
      (atSafe15.lattice.stat = LatState.deferred) ∧
      (atSafe15.lattice.reloadReq = true) ∧
      (0 < 6)) ∧
    ((atSafe0.lattice.reloadReq = false ∨ atSafe0.sf.reloadReason ≠ 0)) ∧
    ((atSafe17.lattice.stat = LatState.reloading) ∧
      (atSafe17.sfiUp = true)) ∧
    ((atSafe0.lattice.stat ≠ LatState.reloading)) ∧
    ((atSafe0.rwlOpen Reg.SFI_LATCTL []) ∧
      (BitVec.getLsbD 0x00000000#32 0 = false) ∧
      (0 < 6)) ∧
    (∀ k ∈ [0, 1, 2, 3, 4, 5, 6], 0 < 1 ∧
      (({ cells := [(0, { w0 := 0, w1 := 0, w2 := BitVec.ofNat 32 k, w3 := 0 })], out := [], fp := [], timers := [] } : Channel).plain false 0).mode = k) := by
  and_intros
  all_goals decide +kernel

theorem witness_SafetyInputsAreFiltered :
    ((atSafe19.sfiUp = true) ∧
      ((atSafe19.lattice.inputs.get SafetyIn.reset 0).a = false) ∧
      (atSafe19.lattice.siMode 0 = 3) ∧
      (atSafe19.padUsed (sensePad 0) = true) ∧
      (0 = 2 * 0) ∧
      (1 ≠ 0)) ∧
    ((atSafe20.sfiUp = true) ∧
      ((atSafe20.lattice.inputs.get SafetyIn.reset 0).b = false) ∧
      ((atSafe20.lattice.inputs.get SafetyIn.reset 0).a = false) ∧
      (atSafe20.lattice.siMode 0 = 1) ∧
      (atSafe20.padUsed (sensePad 0) = true) ∧
      (0 = 2 * 0) ∧
      (1 ≠ 0)) ∧
    ((atSafe26.react.ackSeen = true) ∧
      (atSafe26.lattice.ackEn = true) ∧
      (atSafe26.sfiUp = true) ∧
      (atSafe26.padUsed (sensePad 48) = true) ∧
      (48 = 48)) ∧
    ((atSafe0.sfiUp = false ∨ atSafe0.padUsed (sensePad 1) = false)) ∧
    ((atSafe21.sfiUp = true) ∧
      ((atSafe21.lattice.inputs.get SafetyIn.reset 0).mixed (atSafe21.lattice.siMode 0) = true) ∧
      ((atSafe21.lattice.inputs.get SafetyIn.reset 0).pending.isSome = true) ∧
      (1 ≠ 0)) ∧
    ((atSafe0.sfiUp = false ∨ (atSafe0.lattice.inputs.get SafetyIn.reset 0).pending = none)) ∧
    ((atSafe22.quarantined 22 = false) ∧
      (atSafe22.fieldUp = true) ∧
      (atSafe22.sfiUp = true) ∧
      (getBits (atSafe22.reg Reg.SFI_LEPCFG [0]) 2 0 = 1) ∧
      ((atSafe22.lattice.inputs.get SafetyIn.reset 0).shortA = false) ∧
      (∀ (k : Nat), k < 24 → k ≠ 0 → atSafe22.lattice.siMode k = 0) ∧
      (atSafe22.lattice.siSrcA 0 = 0) ∧
      (atSafe22.lattice.siMode 0 = 3) ∧
      (atSafe22.padUsed (sensePad (2 * 0)) = true) ∧
      ((0x0000000000001#49 : BitVec 49).getLsbD (2 * 0) = true) ∧
      (1 ≠ 0)) ∧
    ((atSafe0.sfiUp = false ∨ atSafe0.fieldUp = false ∨ atSafe0.quarantined 22 = true ∨ getBits (atSafe0.reg Reg.SFI_LEPCFG [0]) 2 0 ≠ 1)) ∧
    ((atSafe0.sfiUp = true) ∧
      ((atSafe0.lattice.taps.get Tap.reset 0).level = false) ∧
      (atSafe0.padUsed (319 + 0) = true) ∧
      (10 * atSafe0.tapTlo 0 < BitVec.toInt 0x0000ffff#32)) ∧
    ((atSafe25.sfiUp = true) ∧
      ((atSafe25.lattice.taps.get Tap.reset 0).level = true) ∧
      (atSafe25.padUsed (319 + 0) = true) ∧
      (BitVec.toInt 0x00000000#32 < 10 * atSafe25.tapThi 0)) ∧
    ((atSafe0.sfiUp = false ∨ atSafe0.padUsed (319 + 1) = false)) ∧
    ((atSafe0.sfiUp = true) ∧
      (BitVec.setWidth 16 0xf0f00f0f#32 = ~~~BitVec.setWidth 16 (0xf0f00f0f#32 >>> 16))) ∧
    ((atSafe0.lattice.nviStale = false) ∧
      (atSafe0.sfiUp = true)) ∧
    ((atSafe0.lattice.pviStale = false) ∧
      (atSafe0.sfiUp = true)) ∧
    ((atSafe9.sfiUp = false)) := by
  and_intros
  all_goals decide +kernel

theorem witness_FaultsAreTestedAndLatched :
    ((atSafe0.react.waiting = []) ∧
      (atSafe0.sfiUp = true)) ∧
    ((atSafe9.sfiUp = false)) ∧
    ((atSafe0.sfiUp = true) ∧
      (0 ≠ 1) ∧
      (atSafe0.react.underTest 0 = false) ∧
      (atSafe0.quarantined 0 = false)) ∧
    ((atSafe6.sfiUp = false ∨ atSafe6.quarantined 0 = true ∨ atSafe6.react.underTest 0 = true)) ∧
    (((atSafe32.persist.blocks.get BlockStat.reset 2).quar = false) ∧
      ((atSafe32.persist.blocks.get BlockStat.reset 2).times = []) ∧
      (2 ≠ 10) ∧
      (2 ≠ 1) ∧
      (2 ≠ 0) ∧
      (atSafe32.react.testing = [(2, 0, 0x0007#16)])) ∧
    ((atSafe6.react.testing = [(0, 1, 0x0007#16)])) ∧
    ((atSafe5.sfiUp = true) ∧
      ((atSafe5.lattice.outs.get SafetyOut.reset 0).sof = false) ∧
      ((atSafe5.lattice.outs.get SafetyOut.reset 0).hsCmd = true)) ∧
    ((atSafe0.sfiUp = true) ∧
      ((atSafe0.lattice.outs.get SafetyOut.reset 0).sof = false) ∧
      ((atSafe0.lattice.outs.get SafetyOut.reset 0).lsCmd = false) ∧
      ((atSafe0.lattice.outs.get SafetyOut.reset 0).hsCmd = false)) ∧
    ((atSafe3.sfiUp = true) ∧
      ((atSafe3.lattice.outs.get SafetyOut.reset 0).on = true) ∧
      (1 ≠ 0)) ∧
    ((atSafe3.sfiUp = true) ∧
      ((atSafe3.lattice.outs.get SafetyOut.reset 0).sof = false) ∧
      ((atSafe3.lattice.outs.get SafetyOut.reset 0).on = true)) ∧
    ((atSafe0.sfiUp = false ∨ (atSafe0.lattice.outs.get SafetyOut.reset 0).on = false)) ∧
    ((atSafe2.react.testStat ≠ 2) ∧
      (atSafe2.sfiUp = true) ∧
      (atSafe2.rwlOpen Reg.SFI_TESTCTL []) ∧
      (atSafe2.sf.switchReason (atSafe2.react.testPend ||| BitVec.setWidth 6 0x00000001#32) = 0) ∧
      (BitVec.setWidth 6 0x00000001#32 ≠ 0)) ∧
    ((atSafe0.react.testStat ≠ 2) ∧
      (atSafe0.sfiUp = true) ∧
      (atSafe0.rwlOpen Reg.SFI_TESTCTL []) ∧
      (atSafe0.sf.switchReason (atSafe0.react.testPend ||| BitVec.setWidth 6 0x00000001#32) ≠ 0) ∧
      (BitVec.setWidth 6 0x00000001#32 ≠ 0)) ∧
    ((atSafe4.react.testStat = 2) ∧
      (atSafe4.sfiUp = true) ∧
      (atSafe4.rwlOpen Reg.SFI_TESTCTL [])) ∧
    ((atSafe0.rwlOpen Reg.SFI_TESTCTL []) ∧
      (atSafe0.sfiUp = false ∨ BitVec.setWidth 6 0x00000000#32 = 0)) ∧
    ((atSafe36.sf.switchReason atSafe36.react.testPend = 0) ∧
      (atSafe36.react.testStat = 1) ∧
      (atSafe36.sfiUp = true)) ∧
    ((atSafe0.react.testStat ≠ 1)) ∧
    ((atSafe1.sf.switchReason atSafe1.react.testPend ≠ 0) ∧
      (atSafe1.react.testPend ≠ 0) ∧
      (atSafe1.react.testStat = 2)) ∧
    ((atSafe4.react.testPend = 0) ∧
      (atSafe4.react.testStat = 2) ∧
      ((atSafe4.lattice.outs.get SafetyOut.reset 0).sof = false) ∧
      (atSafe4.react.underTest (16 + 0) = false) ∧
      (atSafe4.react.testRun.getLsbD 0 = true)) := by
  and_intros
  all_goals decide +kernel

theorem witness_AcknowledgementAndLockout :
    ((atSafe26.lattice.ackShort = false) ∧
      (atSafe26.react.armed = true) ∧
      (atSafe26.react.stuck = false) ∧
      (atSafe26.sfiUp = true ∧ atSafe26.lattice.ackEn = true ∧ atSafe26.lattice.ackLevel = true ∧ atSafe26.react.ackSeen = true) ∧
      ((0x0064#16 : BitVec 16).toNat ≤ 3000) ∧
      (100 ≤ (0x0064#16 : BitVec 16).toNat)) ∧
    ((atSafe26.react.stuck = false) ∧
      (atSafe26.sfiUp = true ∧ atSafe26.lattice.ackEn = true ∧ atSafe26.lattice.ackLevel = true ∧ atSafe26.react.ackSeen = true) ∧
      ((0x0000#16 : BitVec 16).toNat < 100)) ∧
    ((atSafe26.sfiUp = true ∧ atSafe26.lattice.ackEn = true ∧ atSafe26.lattice.ackLevel = true ∧ atSafe26.react.ackSeen = true) ∧
      (atSafe26.react.stuck = true ∨ 3000 < (0x0bb9#16 : BitVec 16).toNat)) ∧
    ((atSafe28.lattice.ackShort = true) ∧
      (atSafe28.react.stuck = false) ∧
      (atSafe28.sfiUp = true ∧ atSafe28.lattice.ackEn = true ∧ atSafe28.lattice.ackLevel = true ∧ atSafe28.react.ackSeen = true) ∧
      ((0x0064#16 : BitVec 16).toNat ≤ 3000) ∧
      (100 ≤ (0x0064#16 : BitVec 16).toNat)) ∧
    ((¬(atSafe0.sfiUp = true ∧ atSafe0.lattice.ackEn = true ∧ atSafe0.lattice.ackLevel = true ∧ atSafe0.react.ackSeen = true))) ∧
    ((atSafe0.sfiUp = false ∨ atSafe0.lattice.ackLevel = false ∨ atSafe0.react.stuck = true)) ∧
    ((atSafe30.fusion.degStat = 2)) ∧
    ((atSafe29.fusion.degStat = 1)) ∧
    ((atSafe0.fusion.degStat = 0 ∨ atSafe0.fusion.degStat = 3)) ∧
    ((atSafe0.rwlOpen Reg.MGT_QCLR [])) := by
  and_intros
  all_goals decide +kernel

theorem witness_CanFramesAreQueuedAndSent :
    ((atCan8.canUp 0 = true) ∧
      ((atCan8.cans.get Can.reset 0).queue.length < 32) ∧
      ((atCan8.cans.get Can.reset 0).mode = 1) ∧
      (atCan8.BUS_CANTXPCFG_WRAP 0 0 = 0) ∧
      (BitVec.getLsbD 0x00000001#32 29 = true ∨ getBits 0x00000001#32 28 11 = 0) ∧
      (getBits 0x00000001#32 31 30 = 0) ∧
      (getBits 0x00050002#32 31 24 = 0) ∧
      (getBits 0x00050002#32 15 9 = 0) ∧
      (getBits 0x00050002#32 6 0 ≤ 4) ∧
      (atCan8.qf.takeItem (3264 + 4 * 0 + 0) = (some { words := [0x00000001#32, 0x00050002#32, 0x01020304#32], poison := false : Item }, (atCan8.qf.takeItem (3264 + 4 * 0 + 0)).snd))) ∧
    ((atCan0.canUp 0 = true) ∧
      ((atCan0.cans.get Can.reset 0).queue.length = 32 ∨ atCan0.noneWaits [3264 + 4 * 0 + 0])) ∧
    ((atCan0.canUp 0 = true) ∧
      ((atCan0.cans.get Can.reset 0).queue.length < 32) ∧
      ((atCan0.cans.get Can.reset 0).mode = 1) ∧
      (badRequest (atCan0.cans.get Can.reset 0).fden false 64 (List.map (fun k => atCan0.reg Reg.BUS_CANTXW [0, k]) (List.range 18)) = false) ∧
      (List.map (fun k => atCan0.reg Reg.BUS_CANTXW [0, k]) (List.range 18) = List.map (fun k => atCan0.reg Reg.BUS_CANTXW [0, k]) (List.range 18))) ∧
    ((atCan2.canUp 0 = true) ∧
      ((atCan2.cans.get Can.reset 0).mode = 2)) ∧
    ((atCan3.BUS_CANCTL_ONESHOT 0 = 0) ∧
      (atCan3.canTalks 0 = true) ∧
      (atCan3.canUp 0 = true) ∧
      (({ src := TxSrc.host, tag := 0x00#8, wrap := false, head := 0x00000000#32, rtr := false, oneshot := false, data := [], attempts := 0, cancel := false, tooLate := false } : TxEntry).oneshot = false) ∧
      (({ src := TxSrc.host, tag := 0x00#8, wrap := false, head := 0x00000000#32, rtr := false, oneshot := false, data := [], attempts := 0, cancel := false, tooLate := false } : TxEntry).cancel = false) ∧
      ((atCan3.cans.get Can.reset 0).queue = ({ src := TxSrc.host, tag := 0x00#8, wrap := false, head := 0x00000000#32, rtr := false, oneshot := false, data := [], attempts := 0, cancel := false, tooLate := false } : TxEntry) :: (atCan3.cans.get Can.reset 0).queue.tail)) ∧
    ((atCan4.copy.run = none) ∧
      (atCan4.canTalks 0 = true) ∧
      (atCan4.canUp 0 = true) ∧
      ((atCan4.cans.get Can.reset 0).mode = 1) ∧
      (({ src := TxSrc.host, tag := 0x01#8, wrap := false, head := 0x00000000#32, rtr := false, oneshot := false, data := [], attempts := 0, cancel := false, tooLate := false } : TxEntry).src = TxSrc.host) ∧
      ((atCan4.cans.get Can.reset 0).queue = ({ src := TxSrc.host, tag := 0x01#8, wrap := false, head := 0x00000000#32, rtr := false, oneshot := false, data := [], attempts := 0, cancel := false, tooLate := false } : TxEntry) :: (atCan4.cans.get Can.reset 0).queue.tail)) ∧
    ((atCan0.canUp 0 = true) ∧
      (atCan0.canTalks 0 = false ∨ (atCan0.cans.get Can.reset 0).queue = [] ∧ (atCan0.cans.get Can.reset 0).won = false)) ∧
    ((atCan4.copy.run = none) ∧
      (atCan4.canUp 0 = true) ∧
      (getBits 0x00000401#32 10 8 = 4) ∧
      (({ src := TxSrc.host, tag := 0x01#8, wrap := false, head := 0x00000000#32, rtr := false, oneshot := false, data := [], attempts := 0, cancel := false, tooLate := false } : TxEntry).tooLate = false) ∧
      (({ src := TxSrc.host, tag := 0x01#8, wrap := false, head := 0x00000000#32, rtr := false, oneshot := false, data := [], attempts := 0, cancel := false, tooLate := false } : TxEntry).cancel = false) ∧
      (({ src := TxSrc.host, tag := 0x01#8, wrap := false, head := 0x00000000#32, rtr := false, oneshot := false, data := [], attempts := 0, cancel := false, tooLate := false } : TxEntry).tag = BitVec.setWidth 8 0x00000401#32) ∧
      (({ src := TxSrc.host, tag := 0x01#8, wrap := false, head := 0x00000000#32, rtr := false, oneshot := false, data := [], attempts := 0, cancel := false, tooLate := false } : TxEntry).src = TxSrc.host) ∧
      ((atCan4.cans.get Can.reset 0).queue = ({ src := TxSrc.host, tag := 0x01#8, wrap := false, head := 0x00000000#32, rtr := false, oneshot := false, data := [], attempts := 0, cancel := false, tooLate := false } : TxEntry) :: (atCan4.cans.get Can.reset 0).queue.tail)) ∧
    ((atCan0.canUp 0 = true) ∧
      ((atCan0.cans.get Can.reset 0).queue = []) ∧
      (getBits 0x00000401#32 10 8 = 4)) ∧
    ((atCan6.canTalks 0 = true) ∧
      (atCan6.canUp 0 = true) ∧
      (({ src := TxSrc.host, tag := 0x01#8, wrap := false, head := 0x00000000#32, rtr := false, oneshot := false, data := [], attempts := 0, cancel := true, tooLate := false } : TxEntry).cancel = true) ∧
      ((atCan6.cans.get Can.reset 0).queue = ({ src := TxSrc.host, tag := 0x01#8, wrap := false, head := 0x00000000#32, rtr := false, oneshot := false, data := [], attempts := 0, cancel := true, tooLate := false } : TxEntry) :: (atCan6.cans.get Can.reset 0).queue.tail)) ∧
    ((atCan0.canUp 0 = true) ∧
      (atCan0.canTalks 0 = false ∨ (atCan0.cans.get Can.reset 0).queue = [])) ∧
    ((atCan0.canUp 2 = false)) := by
  and_intros
  all_goals decide +kernel

theorem witness_CanFramesAreReceived :
    ((atCan10.canHears 0 = true) ∧
      (atCan10.canUp 0 = true) ∧
      ((atCan10.cans.get Can.reset 0).recCnt ≤ 127) ∧
      ((atCan10.cans.get Can.reset 0).mode = 1) ∧
      ((atCan10.cans.get Can.reset 0).receives = true) ∧
      (atCan10.bc.isCopy (0) 1 ({ id := 0x00000005#29, ide := false, fdf := false, brs := false, rtr := false, data := [0x01#8, 0x02#8, 0x03#8, 0x04#8, 0x05#8] } : CanFrame) = false) ∧
      (atCan10.bc.isCopy (0) 0 ({ id := 0x00000005#29, ide := false, fdf := false, brs := false, rtr := false, data := [0x01#8, 0x02#8, 0x03#8, 0x04#8, 0x05#8] } : CanFrame) = false) ∧
      (atCan10.bc.isReference (0) ({ id := 0x00000005#29, ide := false, fdf := false, brs := false, rtr := false, data := [0x01#8, 0x02#8, 0x03#8, 0x04#8, 0x05#8] } : CanFrame) = false) ∧
      (({ id := 0x00000005#29, ide := false, fdf := false, brs := false, rtr := false, data := [0x01#8, 0x02#8, 0x03#8, 0x04#8, 0x05#8] } : CanFrame).fdf = false ∨ (atCan10.cans.get Can.reset 0).fden = true) ∧
      (((atCan10.cans.get Can.reset 0).bufs.get RxBuf.reset 0).new = false) ∧
      (((atCan10.cans.get Can.reset 0).bufs.get RxBuf.reset 0).lock = false) ∧
      (atCan10.hostMode (0) 0 = true) ∧
      (List.find? (fun b => atCan10.bufferTakes (0) b ({ id := 0x00000005#29, ide := false, fdf := false, brs := false, rtr := false, data := [0x01#8, 0x02#8, 0x03#8, 0x04#8, 0x05#8] } : CanFrame)) (List.range 64) = some 0) ∧
      (1 ≠ 0)) ∧
    ((atCan0.canHears 0 = true) ∧
      (atCan0.canUp 0 = true) ∧
      ((atCan0.cans.get Can.reset 0).recCnt ≤ 127) ∧
      ((atCan0.cans.get Can.reset 0).mode = 1) ∧
      ((atCan0.cans.get Can.reset 0).receives = true) ∧
      (∀ (b : Nat), b < 64 → atCan0.bufferTakes (0) b ({ id := 0x00000005#29, ide := false, fdf := false, brs := false, rtr := false, data := [0x01#8, 0x02#8, 0x03#8, 0x04#8, 0x05#8] } : CanFrame) = false) ∧
      (atCan0.bc.isCopy (0) 1 ({ id := 0x00000005#29, ide := false, fdf := false, brs := false, rtr := false, data := [0x01#8, 0x02#8, 0x03#8, 0x04#8, 0x05#8] } : CanFrame) = false) ∧
      (atCan0.bc.isCopy (0) 0 ({ id := 0x00000005#29, ide := false, fdf := false, brs := false, rtr := false, data := [0x01#8, 0x02#8, 0x03#8, 0x04#8, 0x05#8] } : CanFrame) = false) ∧
      (atCan0.bc.isReference (0) ({ id := 0x00000005#29, ide := false, fdf := false, brs := false, rtr := false, data := [0x01#8, 0x02#8, 0x03#8, 0x04#8, 0x05#8] } : CanFrame) = false) ∧
      (({ id := 0x00000005#29, ide := false, fdf := false, brs := false, rtr := false, data := [0x01#8, 0x02#8, 0x03#8, 0x04#8, 0x05#8] } : CanFrame).fdf = false ∨ (atCan0.cans.get Can.reset 0).fden = true)) ∧
    ((atCan0.canUp 0 = true) ∧
      (atCan0.canHears 0 = false ∨ (atCan0.cans.get Can.reset 0).receives = false ∨ ({ id := 0x00000005#29, ide := true, fdf := true, brs := false, rtr := false, data := [0x01#8, 0x02#8, 0x03#8, 0x04#8, 0x05#8] } : CanFrame).fdf = true ∧ (atCan0.cans.get Can.reset 0).fden = false)) ∧
    ((atCan0.canUp 0 = true) ∧
      (((atCan0.cans.get Can.reset 0).bufs.get RxBuf.reset 0).pending = none) ∧
      (atCan0.hostMode 0 0 = true)) ∧
    ((atCan13.canUp 0 = true) ∧
      (atCan13.hostMode 0 0 = true) ∧
      (((atCan13.cans.get Can.reset 0).bufs.get RxBuf.reset 0).pending = some ([0x00000001#32, 0x00000002#32] : List (BitVec 32)))) ∧
    ((atCan12.canUp 0 = true) ∧
      (((atCan12.cans.get Can.reset 0).bufs.get RxBuf.reset 0).pending = none) ∧
      (((atCan12.cans.get Can.reset 0).bufs.get RxBuf.reset 0).lock = true) ∧
      (atCan12.hostMode 0 0 = true)) ∧
    ((atCan0.canUp 0 = true) ∧
      (((atCan0.cans.get Can.reset 0).bufs.get RxBuf.reset 0).lock = false) ∧
      (atCan0.hostMode 0 0 = true)) ∧
    ((atCan0.canHears 0 = true) ∧
      (atCan0.canUp 0 = true) ∧
      ((atCan0.cans.get Can.reset 0).tec + 8 ≤ 255) ∧
      ((atCan0.cans.get Can.reset 0).mode = 1) ∧
      ((atCan0.cans.get Can.reset 0).receives = true)) ∧
    ((atCan14.canHears 0 = true) ∧
      (atCan14.canUp 0 = true) ∧
      ((atCan14.cans.get Can.reset 0).queue = []) ∧
      (255 < (atCan14.cans.get Can.reset 0).tec + 8) ∧
      ((atCan14.cans.get Can.reset 0).mode = 1) ∧
      ((atCan14.cans.get Can.reset 0).receives = true)) ∧
    ((atCan0.canHears 0 = true) ∧
      (atCan0.canUp 0 = true) ∧
      ((atCan0.cans.get Can.reset 0).tec ≤ 255) ∧
      ((atCan0.cans.get Can.reset 0).mode = 1) ∧
      ((atCan0.cans.get Can.reset 0).receives = true)) ∧
    ((atCan0.canUp 1 = true) ∧
      (atCan0.canHears 1 = false ∨ (atCan0.cans.get Can.reset 1).receives = false ∨ (atCan0.cans.get Can.reset 1).mode ≠ 1)) ∧
    ((atCan16.canHears 0 = true) ∧
      (atCan16.canUp 0 = true) ∧
      ((atCan16.cans.get Can.reset 0).estate = 2)) ∧
    ((atCan0.canUp 0 = true) ∧
      (atCan0.canHears 0 = false ∨ (atCan0.cans.get Can.reset 0).estate ≠ 2)) ∧
    ((atCan17.canHears 0 = true) ∧
      (atCan17.canUp 0 = true) ∧
      ((atCan17.cans.get Can.reset 0).estate ≠ 2) ∧
      ((atCan17.cans.get Can.reset 0).onBus = false) ∧
      ((atCan17.cans.get Can.reset 0).mode = 1 ∨ (atCan17.cans.get Can.reset 0).mode = 2)) ∧
    ((atCan0.canUp 0 = true) ∧
      (atCan0.canHears 0 = false ∨ (atCan0.cans.get Can.reset 0).onBus = true)) ∧
    ((atCan0.canUp 2 = false)) := by
  and_intros
  all_goals decide +kernel

theorem witness_NetworkTimeIsKept :
    (((atCan20.cans.get Can.reset atCan20.timeCtrl).queue.length < 32) ∧
      ((atCan20.cans.get Can.reset atCan20.timeCtrl).fden = true) ∧
      ((atCan20.cans.get Can.reset atCan20.timeCtrl).mode ≠ 2) ∧
      (atCan20.time.stat = TimeState.master) ∧
      (atCan20.canUp atCan20.timeCtrl = true)) ∧
    (((atCan21.cans.get Can.reset atCan21.timeCtrl).fden = false) ∧
      (atCan21.time.stat = TimeState.master) ∧
      (atCan21.canUp atCan21.timeCtrl = true)) ∧
    ((atCan0.time.stat ≠ TimeState.master)) ∧
    ((atCan22.time.prev = none) ∧
      (atCan22.time.stat ≠ TimeState.off) ∧
      (atCan22.timeRole = 2) ∧
      (atCan22.runs Island.bus = true) ∧
      (atCan22.time.inbox = (([0x05#8, 0x00#8, 0x00#8, 0x01#8, 0x15#8, 0xcd#8, 0x5b#8, 0x07#8, 0x00#8, 0x00#8, 0x00#8, 0x00#8] : List (BitVec 8)), 5000) :: atCan22.time.inbox.tail)) ∧
    ((atCan23.time.stat = TimeState.unsync) ∧
      (atCan23.timeRole = 2) ∧
      (atCan23.runs Island.bus = true) ∧
      ((([0x05#8, 0x00#8, 0x00#8, 0x01#8, 0x15#8, 0xcd#8, 0x5b#8, 0x07#8, 0x00#8, 0x00#8, 0x00#8, 0x00#8] : List (BitVec 8)).getD 3 0).getLsbD 0 = true) ∧
      (atCan23.time.inbox = (([0x05#8, 0x00#8, 0x00#8, 0x01#8, 0x15#8, 0xcd#8, 0x5b#8, 0x07#8, 0x00#8, 0x00#8, 0x00#8, 0x00#8] : List (BitVec 8)), 5000) :: atCan23.time.inbox.tail) ∧
      (atCan23.time.prev = some (BitVec.ofNat 16 (leAt ([0x05#8, 0x00#8, 0x00#8, 0x01#8, 0x15#8, 0xcd#8, 0x5b#8, 0x07#8, 0x00#8, 0x00#8, 0x00#8, 0x00#8] : List (BitVec 8)) 0 2) - 1, 4000))) ∧
    ((atCan0.time.inbox = [])) ∧
    ((atCan24.time.stat = TimeState.locked ∨ atCan24.time.stat = TimeState.acquiring) ∧
      (atCan24.runs Island.bus = true)) ∧
    ((atCan0.time.stat = TimeState.off ∨ atCan0.time.stat = TimeState.unsync ∨ atCan0.time.stat = TimeState.holdover ∨ atCan0.time.stat = TimeState.master)) ∧
    ((atCan25.time.stat = TimeState.holdover) ∧
      (atCan25.runs Island.bus = true)) ∧
    ((atCan0.time.stat ≠ TimeState.holdover)) ∧
    ((atCan0.timeRole ≠ 0) ∧
      (atCan0.runs Island.bus = true)) ∧
    ((atCan27.runs Island.bus = false ∨ atCan27.timeRole = 0)) := by
  and_intros
  all_goals decide +kernel

theorem witness_PorluxFramesAreBuiltAndChecked :
    ((atLease10.porlux.nvo = none) ∧
      (atLease10.noneWaits [3305]) ∧
      (atLease10.tile 11 0 = none) ∧
      (atLease10.pxUp = true) ∧
      ((atLease10.cans.get Can.reset (atLease10.porlux.conns.get Conn.reset 0).ctrl).queue.length < 32 ∧ (atLease10.cans.get Can.reset (atLease10.porlux.conns.get Conn.reset 0).ctrl).mode ≠ 2 ∧ (atLease10.cans.get Can.reset (atLease10.porlux.conns.get Conn.reset 0).ctrl).fden = true) ∧
      (atLease10.bc.halts (atLease10.porlux.conns.get Conn.reset 0) = false) ∧
      ((atLease10.porlux.conns.get Conn.reset 0).kind = 0) ∧
      ((atLease10.porlux.conns.get Conn.reset 0).transmits = true)) ∧
    ((atLease2.noneWaits [3305]) ∧
      (atLease2.pxUp = true) ∧
      ((atLease2.porlux.conns.get Conn.reset 0).transmits = false)) ∧
    ((atLease12.pxUp = true) ∧
      ((atLease12.porlux.conns.get Conn.reset 0).tm = 0) ∧
      ((atLease12.porlux.conns.get Conn.reset 0).plen = 8) ∧
      ((atLease12.cans.get Can.reset (atLease12.porlux.conns.get Conn.reset 0).ctrl).queue.length < 32 ∧ (atLease12.cans.get Can.reset (atLease12.porlux.conns.get Conn.reset 0).ctrl).mode ≠ 2 ∧ (atLease12.cans.get Can.reset (atLease12.porlux.conns.get Conn.reset 0).ctrl).fden = true) ∧
      (atLease12.bc.halts (atLease12.porlux.conns.get Conn.reset 0) = false) ∧
      ((atLease12.porlux.conns.get Conn.reset 0).kind = 1) ∧
      ((atLease12.porlux.conns.get Conn.reset 0).transmits = true) ∧
      (atLease12.qf.takeItem (3288 + (atLease12.porlux.conns.get Conn.reset 0).dport) = (some { words := [0x00000009#32], poison := false : Item }, (atLease12.qf.takeItem (3288 + (atLease12.porlux.conns.get Conn.reset 0).dport)).snd))) ∧
    ((atLease2.pxUp = true) ∧
      ((atLease2.porlux.conns.get Conn.reset 0).transmits = false ∨ (atLease2.porlux.conns.get Conn.reset 0).kind ≠ 1)) ∧
    ((atLease13.pxUp = true) ∧
      ((atLease13.porlux.conns.get Conn.reset 0).plen = 4) ∧
      ((atLease13.cans.get Can.reset (atLease13.porlux.conns.get Conn.reset 0).ctrl).queue.length < 32 ∧ (atLease13.cans.get Can.reset (atLease13.porlux.conns.get Conn.reset 0).ctrl).mode ≠ 2 ∧ (atLease13.cans.get Can.reset (atLease13.porlux.conns.get Conn.reset 0).ctrl).fden = true) ∧
      (atLease13.bc.halts (atLease13.porlux.conns.get Conn.reset 0) = false) ∧
      ((atLease13.porlux.conns.get Conn.reset 0).kind = 1) ∧
      ((atLease13.porlux.conns.get Conn.reset 0).transmits = true)) ∧
    ((atLease14.porlux.intFlt = false) ∧
      (atLease14.pxUp = true) ∧
      (({ frame := { id := 0x00000000#29, ide := false, fdf := true, brs := false, rtr := false, data := [0x05#8, 0x00#8, 0x01#8, 0x00#8, 0x40#8, 0x4b#8, 0x4c#8, 0x00#8, 0x0f#8, 0x00#8, 0xf0#8, 0xff#8, 0x07#8, 0x00#8, 0x00#8, 0x00#8, 0xe9#8, 0xd5#8, 0xff#8, 0x96#8] }, at_ := 5000000 } : PxRecord).frame.fdf = true) ∧
      (atLease14.porlux.inbox = ({ frame := { id := 0x00000000#29, ide := false, fdf := true, brs := false, rtr := false, data := [0x05#8, 0x00#8, 0x01#8, 0x00#8, 0x40#8, 0x4b#8, 0x4c#8, 0x00#8, 0x0f#8, 0x00#8, 0xf0#8, 0xff#8, 0x07#8, 0x00#8, 0x00#8, 0x00#8, 0xe9#8, 0xd5#8, 0xff#8, 0x96#8] }, at_ := 5000000 } : PxRecord) :: atLease14.porlux.inbox.tail) ∧
      (atLease14.bc.checks 0 ({ frame := { id := 0x00000000#29, ide := false, fdf := true, brs := false, rtr := false, data := [0x05#8, 0x00#8, 0x01#8, 0x00#8, 0x40#8, 0x4b#8, 0x4c#8, 0x00#8, 0x0f#8, 0x00#8, 0xf0#8, 0xff#8, 0x07#8, 0x00#8, 0x00#8, 0x00#8, 0xe9#8, 0xd5#8, 0xff#8, 0x96#8] }, at_ := 5000000 } : PxRecord) = 0) ∧
      ((atLease14.porlux.conns.get Conn.reset 0).state = ConnState.run) ∧
      ((atLease14.porlux.conns.get Conn.reset 0).kind = 0) ∧
      ((atLease14.porlux.conns.get Conn.reset 0).accAt = none) ∧
      ((atLease14.porlux.conns.get Conn.reset 0).len = ({ frame := { id := 0x00000000#29, ide := false, fdf := true, brs := false, rtr := false, data := [0x05#8, 0x00#8, 0x01#8, 0x00#8, 0x40#8, 0x4b#8, 0x4c#8, 0x00#8, 0x0f#8, 0x00#8, 0xf0#8, 0xff#8, 0x07#8, 0x00#8, 0x00#8, 0x00#8, 0xe9#8, 0xd5#8, 0xff#8, 0x96#8] }, at_ := 5000000 } : PxRecord).frame.data.length) ∧
      (atLease14.bc.owner ({ frame := { id := 0x00000000#29, ide := false, fdf := true, brs := false, rtr := false, data := [0x05#8, 0x00#8, 0x01#8, 0x00#8, 0x40#8, 0x4b#8, 0x4c#8, 0x00#8, 0x0f#8, 0x00#8, 0xf0#8, 0xff#8, 0x07#8, 0x00#8, 0x00#8, 0x00#8, 0xe9#8, 0xd5#8, 0xff#8, 0x96#8] }, at_ := 5000000 } : PxRecord).frame = some 0)) ∧
    ((atLease15.porlux.intFlt = false) ∧
      (atLease15.pxUp = true) ∧
      (({ frame := { id := 0x00000000#29, ide := false, fdf := true, brs := false, rtr := false, data := [0x05#8, 0x00#8, 0x00#8, 0x00#8, 0x40#8, 0x4b#8, 0x4c#8, 0x00#8, 0x0f#8, 0x00#8, 0xf0#8, 0xff#8, 0x07#8, 0x00#8, 0x00#8, 0x00#8, 0xaf#8, 0x80#8, 0xf8#8, 0xc2#8] }, at_ := 5000000 } : PxRecord).frame.fdf = true) ∧
      (atLease15.porlux.inbox = ({ frame := { id := 0x00000000#29, ide := false, fdf := true, brs := false, rtr := false, data := [0x05#8, 0x00#8, 0x00#8, 0x00#8, 0x40#8, 0x4b#8, 0x4c#8, 0x00#8, 0x0f#8, 0x00#8, 0xf0#8, 0xff#8, 0x07#8, 0x00#8, 0x00#8, 0x00#8, 0xaf#8, 0x80#8, 0xf8#8, 0xc2#8] }, at_ := 5000000 } : PxRecord) :: atLease15.porlux.inbox.tail) ∧
      (atLease15.bc.checks 0 ({ frame := { id := 0x00000000#29, ide := false, fdf := true, brs := false, rtr := false, data := [0x05#8, 0x00#8, 0x00#8, 0x00#8, 0x40#8, 0x4b#8, 0x4c#8, 0x00#8, 0x0f#8, 0x00#8, 0xf0#8, 0xff#8, 0x07#8, 0x00#8, 0x00#8, 0x00#8, 0xaf#8, 0x80#8, 0xf8#8, 0xc2#8] }, at_ := 5000000 } : PxRecord) = 4) ∧
      ((atLease15.porlux.conns.get Conn.reset 0).accAt = none) ∧
      ((atLease15.porlux.conns.get Conn.reset 0).len = ({ frame := { id := 0x00000000#29, ide := false, fdf := true, brs := false, rtr := false, data := [0x05#8, 0x00#8, 0x00#8, 0x00#8, 0x40#8, 0x4b#8, 0x4c#8, 0x00#8, 0x0f#8, 0x00#8, 0xf0#8, 0xff#8, 0x07#8, 0x00#8, 0x00#8, 0x00#8, 0xaf#8, 0x80#8, 0xf8#8, 0xc2#8] }, at_ := 5000000 } : PxRecord).frame.data.length) ∧
      (atLease15.bc.owner ({ frame := { id := 0x00000000#29, ide := false, fdf := true, brs := false, rtr := false, data := [0x05#8, 0x00#8, 0x00#8, 0x00#8, 0x40#8, 0x4b#8, 0x4c#8, 0x00#8, 0x0f#8, 0x00#8, 0xf0#8, 0xff#8, 0x07#8, 0x00#8, 0x00#8, 0x00#8, 0xaf#8, 0x80#8, 0xf8#8, 0xc2#8] }, at_ := 5000000 } : PxRecord).frame = some 0)) ∧
    ((atLease2.porlux.inbox = []) ∧
      (atLease2.pxUp = true)) ∧
    ((atLease14.pxUp = true) ∧
      ((atLease14.porlux.conns.get Conn.reset 0).state = ConnState.run) ∧
      ((atLease14.porlux.conns.get Conn.reset 0).receives = true)) ∧
    ((atLease2.pxUp = true) ∧
      ((atLease2.porlux.conns.get Conn.reset 0).state ≠ ConnState.run)) ∧
    (((atLease2.recorder.taps.get RecTap.reset 12).recs.length < 4) ∧
      (atLease2.pxUp = true)) ∧
    ((atLease2.pxUp = true) ∧
      (0 < 64)) ∧
    ((atLease0.pxUp = false)) := by
  and_intros
  all_goals decide +kernel

theorem witness_LeasesAreIssuedHeldAndLost :
    ((atLease0.start.phase ≠ 8) ∧
      (atLease0.leaseImage = true) ∧
      (atLease0.sfiUp = true) ∧
      (atLease0.gate.stat = LeaseState.active) ∧
      (atLease0.gate.seen = false ∨ 0 ≤ sDiff 0x00000000#32 atLease0.gate.high) ∧
      (BitVec.getLsbD 0x00000000#32 8 = false) ∧
      (getBits 0x00000000#32 7 0 = bit atLease0.gate.unit)) ∧
    ((atLease21.start.phase ≠ 8) ∧
      (atLease21.leaseImage = true) ∧
      (atLease21.sfiUp = true) ∧
      (atLease21.gate.seen = true) ∧
      (sDiff 0x00000000#32 atLease21.gate.high < 0)) ∧
    ((atLease0.leaseImage = true) ∧
      (atLease0.sfiUp = true) ∧
      (atLease0.gate.stat = LeaseState.active) ∧
      (atLease0.gate.seen = false ∨ 0 ≤ sDiff 0x00000000#32 atLease0.gate.high) ∧
      (BitVec.getLsbD 0x00000001#32 8 = false) ∧
      (getBits 0x00000001#32 7 0 = 1 - bit atLease0.gate.unit) ∧
      (0 < 6)) ∧
    ((atLease19.leaseImage = true) ∧
      (atLease19.sfiUp = true) ∧
      (atLease19.gate.stat ≠ LeaseState.active) ∧
      (atLease19.gate.seen = false ∨ 0 ≤ sDiff 0x00000000#32 atLease19.gate.high) ∧
      (BitVec.getLsbD 0x00000000#32 8 = false) ∧
      (getBits 0x00000000#32 7 0 = bit atLease19.gate.unit)) ∧
    ((atLease0.start.phase ≠ 8) ∧
      (atLease0.sfiUp = false ∨ atLease0.leaseImage = false ∨ ({ words := [], poison := true } : Item).poison = true)) ∧
    ((atLease1.start.phase ≠ 8) ∧
      (atLease1.sfiUp = false ∨ atLease1.gate.stat ≠ LeaseState.active)) ∧
    ((atLease0.runs Island.bus = true) ∧
      (atLease0.leaseImage = true)) ∧
    ((atLease1.leaseImage = false ∨ atLease1.runs Island.bus = false)) ∧
    ((atLease5.issuerUp = true) ∧
      (atLease5.issuer.stat ≠ IssuerState.starting) ∧
      (atLease5.issuer.holder = none)) ∧
    ((atLease4.issuerUp = true) ∧
      (({ words := [], poison := true } : Item).poison = true)) ∧
    ((atLease4.issuerUp = true) ∧
      (atLease4.noneWaits [3312 + bit (true : Bool)]) ∧
      (atLease4.issuer.holder = some (true : Bool))) ∧
    ((atLease4.rwlOpen Reg.BUS_LICTL []) ∧
      (atLease4.issuerUp = true) ∧
      (atLease4.issuer.holder = some (true : Bool))) ∧
    ((atLease5.rwlOpen Reg.BUS_LICTL []) ∧
      (atLease5.issuerUp = true) ∧
      (atLease5.issuer.holder = none)) ∧
    ((atLease27.connCount = 1) ∧
      (atLease27.noneWaits [3312, 3313]) ∧
      (atLease27.issuerUp = true) ∧
      (atLease27.issuer.repB = none) ∧
      (atLease27.issuer.repA = none) ∧
      (atLease27.issuer.holder = some (true : Bool)) ∧
      ((atLease27.cans.get Can.reset (atLease27.porlux.conns.get Conn.reset 0).ctrl).fden = true) ∧
      ((atLease27.cans.get Can.reset (atLease27.porlux.conns.get Conn.reset 0).ctrl).mode ≠ 2) ∧
      (atLease27.bc.halts (atLease27.porlux.conns.get Conn.reset 0) = false) ∧
      ((atLease27.porlux.conns.get Conn.reset 0).plen = 16) ∧
      ((atLease27.porlux.conns.get Conn.reset 0).transmits = true) ∧
      ((atLease27.porlux.conns.get Conn.reset 0).kind = 2) ∧
      ((atLease27.cans.get Can.reset (atLease27.porlux.conns.get Conn.reset 0).ctrl).queue.length < 32)) ∧
    ((atLease25.connCount = 0) ∧
      (atLease25.noneWaits [3312, 3313]) ∧
      (atLease25.issuerUp = true) ∧
      (atLease25.issuer.repB = none) ∧
      (atLease25.issuer.repA = none)) ∧
    ((atLease28.noneWaits [3312, 3313]) ∧
      (atLease28.issuerUp = true) ∧
      (atLease28.issuer.repB = none) ∧
      (atLease28.issuer.named = none) ∧
      (atLease28.issuer.lastHolder = none) ∧
      (atLease28.issuer.holder = none) ∧
      (atLease28.issuer.stat = IssuerState.waiting) ∧
      (({ word0 := 0x00000008#32, held := 0x00000000#32, epoch := 0x00000000#32, at_ := 4999999 } : Report).word0.getLsbD 3 = true) ∧
      (atLease28.dev ≤ ({ word0 := 0x00000008#32, held := 0x00000000#32, epoch := 0x00000000#32, at_ := 4999999 } : Report).at_ + atLease28.BUS_LICFG_REPLOSS * 1000) ∧
      (atLease28.issuer.repA = some ({ word0 := 0x00000008#32, held := 0x00000000#32, epoch := 0x00000000#32, at_ := 4999999 } : Report))) ∧
    ((atLease4.noneWaits [3312, 3313]) ∧
      (atLease4.issuerUp = true) ∧
      (atLease4.issuer.repB = none) ∧
      (atLease4.issuer.repA = none) ∧
      (atLease4.issuer.holder = some (true : Bool))) ∧
    ((atLease0.issuerUp = false)) ∧
    ((atLease1.rwlOpen Reg.BUS_LICTL []) ∧
      (atLease1.issuerUp = false)) := by
  and_intros
  all_goals decide +kernel

theorem witness_EpochsAreCopiedAndHandedOver :
    ((atLease0.gate.stat = LeaseState.active) ∧
      (atLease0.leaseImage = true) ∧
      (atLease0.runs Island.bus = true) ∧
      (atLease0.copy.run = none) ∧
      (atLease0.gate.hstate ≠ HandState.deferred ∧ atLease0.gate.hstate ≠ HandState.finalEpoch)) ∧
    ((atLease29.gate.stat = LeaseState.active) ∧
      (atLease29.leaseImage = true) ∧
      (atLease29.runs Island.bus = true) ∧
      (atLease29.gate.hstate ≠ HandState.deferred ∧ atLease29.gate.hstate ≠ HandState.finalEpoch) ∧
      (({ epoch := 0x00000003#32, final := false, todo := [], commitAt := none, acked := false } : EpochRun).acked = false) ∧
      (({ epoch := 0x00000003#32, final := false, todo := [], commitAt := none, acked := false } : EpochRun).commitAt = none) ∧
      (atLease29.copy.run = some ({ epoch := 0x00000003#32, final := false, todo := [], commitAt := none, acked := false } : EpochRun))) ∧
    ((atLease30.gate.stat = LeaseState.standby) ∧
      (atLease30.leaseImage = true) ∧
      (atLease30.runs Island.bus = true) ∧
      (atLease30.copy.assembly = none) ∧
      (atLease30.copy.linkOk = true) ∧
      (leAt ([0x03#8, 0x00#8, 0x00#8, 0x00#8, 0x00#8, 0x00#8, 0x04#8, 0x00#8, 0x00#8, 0x00#8, 0x00#8, 0x00#8, 0x00#8, 0x00#8, 0x00#8, 0x00#8, 0x00#8, 0x00#8, 0x00#8, 0x00#8, 0x00#8, 0x00#8, 0x00#8, 0x00#8, 0x00#8, 0x00#8, 0x00#8, 0x00#8, 0x00#8, 0x00#8, 0x00#8, 0x00#8, 0x00#8, 0x00#8, 0x00#8, 0x00#8, 0x00#8, 0x00#8, 0x00#8, 0x00#8, 0x00#8, 0x00#8, 0x00#8, 0x00#8, 0x00#8, 0x00#8, 0x00#8, 0x00#8, 0x00#8, 0x00#8, 0x00#8, 0x00#8, 0x00#8, 0x00#8, 0x00#8, 0x00#8, 0x00#8, 0x00#8, 0x00#8, 0x00#8, 0x00#8, 0x00#8, 0x00#8, 0x00#8] : List (BitVec 8)) 4 2 ≠ 65535) ∧
      (atLease30.copy.frames = ([0x03#8, 0x00#8, 0x00#8, 0x00#8, 0x00#8, 0x00#8, 0x04#8, 0x00#8, 0x00#8, 0x00#8, 0x00#8, 0x00#8, 0x00#8, 0x00#8, 0x00#8, 0x00#8, 0x00#8, 0x00#8, 0x00#8, 0x00#8, 0x00#8, 0x00#8, 0x00#8, 0x00#8, 0x00#8, 0x00#8, 0x00#8, 0x00#8, 0x00#8, 0x00#8, 0x00#8, 0x00#8, 0x00#8, 0x00#8, 0x00#8, 0x00#8, 0x00#8, 0x00#8, 0x00#8, 0x00#8, 0x00#8, 0x00#8, 0x00#8, 0x00#8, 0x00#8, 0x00#8, 0x00#8, 0x00#8, 0x00#8, 0x00#8, 0x00#8, 0x00#8, 0x00#8, 0x00#8, 0x00#8, 0x00#8, 0x00#8, 0x00#8, 0x00#8, 0x00#8, 0x00#8, 0x00#8, 0x00#8, 0x00#8] : List (BitVec 8)) :: atLease30.copy.frames.tail)) ∧
    ((atLease20.gate.stat = LeaseState.standby) ∧
      (atLease20.leaseImage = true) ∧
      (atLease20.runs Island.bus = true) ∧
      (atLease20.copy.frames = [])) ∧
    ((atLease31.gate.stat = LeaseState.active) ∧
      (atLease31.leaseImage = true) ∧
      (atLease31.runs Island.bus = true) ∧
      (atLease31.copy.linkOk = true) ∧
      (atLease31.gate.hstate ≠ HandState.deferred ∧ atLease31.gate.hstate ≠ HandState.finalEpoch) ∧
      (leAt ([0x03#8, 0x00#8, 0x00#8, 0x00#8, 0x00#8, 0x01#8, 0x00#8, 0x00#8] : List (BitVec 8)) 4 1 = 0) ∧
      (atLease31.copy.acks = ([0x03#8, 0x00#8, 0x00#8, 0x00#8, 0x00#8, 0x01#8, 0x00#8, 0x00#8] : List (BitVec 8)) :: atLease31.copy.acks.tail) ∧
      (BitVec.ofNat 32 (leAt ([0x03#8, 0x00#8, 0x00#8, 0x00#8, 0x00#8, 0x01#8, 0x00#8, 0x00#8] : List (BitVec 8)) 0 4) = ({ epoch := 0x00000003#32, final := false, todo := [], commitAt := none, acked := false } : EpochRun).epoch) ∧
      (({ epoch := 0x00000003#32, final := false, todo := [], commitAt := none, acked := false } : EpochRun).final = false) ∧
      (({ epoch := 0x00000003#32, final := false, todo := [], commitAt := none, acked := false } : EpochRun).acked = false) ∧
      (atLease31.copy.run = some ({ epoch := 0x00000003#32, final := false, todo := [], commitAt := none, acked := false } : EpochRun))) ∧
    ((atLease32.gate.stat = LeaseState.active) ∧
      (atLease32.leaseImage = true) ∧
      (atLease32.runs Island.bus = true) ∧
      (atLease32.copy.linkOk = true) ∧
      (atLease32.gate.hstate ≠ HandState.deferred ∧ atLease32.gate.hstate ≠ HandState.finalEpoch) ∧
      (leAt ([0x03#8, 0x00#8, 0x00#8, 0x00#8, 0x01#8, 0x01#8, 0x00#8, 0x00#8] : List (BitVec 8)) 4 1 ≠ 0) ∧
      (atLease32.copy.acks = ([0x03#8, 0x00#8, 0x00#8, 0x00#8, 0x01#8, 0x01#8, 0x00#8, 0x00#8] : List (BitVec 8)) :: atLease32.copy.acks.tail) ∧
      (BitVec.ofNat 32 (leAt ([0x03#8, 0x00#8, 0x00#8, 0x00#8, 0x01#8, 0x01#8, 0x00#8, 0x00#8] : List (BitVec 8)) 0 4) = ({ epoch := 0x00000003#32, final := false, todo := [], commitAt := none, acked := false } : EpochRun).epoch) ∧
      (({ epoch := 0x00000003#32, final := false, todo := [], commitAt := none, acked := false } : EpochRun).final = false) ∧
      (({ epoch := 0x00000003#32, final := false, todo := [], commitAt := none, acked := false } : EpochRun).acked = false) ∧
      (atLease32.copy.run = some ({ epoch := 0x00000003#32, final := false, todo := [], commitAt := none, acked := false } : EpochRun))) ∧
    ((atLease7.leaseImage = true) ∧
      (atLease7.runs Island.bus = true) ∧
      (atLease7.copy.linkOk = true) ∧
      (atLease7.gate.hstate ≠ HandState.deferred ∧ atLease7.gate.hstate ≠ HandState.finalEpoch)) ∧
    ((atLease33.leaseImage = true) ∧
      (atLease33.runs Island.bus = true) ∧
      (atLease33.copy.linkOk = false) ∧
      (atLease33.gate.hstate ≠ HandState.deferred ∧ atLease33.gate.hstate ≠ HandState.finalEpoch) ∧
      (atLease33.dev ≤ 4999999 + atLease33.BUS_EPCTL_LINKMS * 1000) ∧
      (atLease33.copy.linkAt = some 4999999)) ∧
    ((atLease0.leaseImage = true) ∧
      (atLease0.runs Island.bus = true) ∧
      (atLease0.copy.linkAt = none)) ∧
    ((atLease0.copy.linkOk = false)) ∧
    ((atLease34.copy.ready = some (({ content := [], marker := [0x45#8, 0x50#8, 0x4f#8, 0x43#8, 0x03#8, 0x00#8, 0x00#8, 0x00#8, 0x00#8, 0x00#8, 0x00#8, 0x00#8, 0x00#8, 0x00#8, 0x00#8, 0x00#8, 0x00#8, 0x00#8, 0x00#8, 0x00#8, 0x00#8, 0x00#8, 0x00#8, 0x00#8, 0x00#8, 0x00#8, 0x00#8, 0x00#8, 0xbb#8, 0x8c#8, 0x54#8, 0x89#8] } : EpochBuf), (true : Bool)))) ∧
    ((atLease0.copy.ready = none)) ∧
    ((atLease1.runs Island.bus = false ∨ atLease1.leaseImage = false)) ∧
    ((atLease7.handReason = 0) ∧
      (atLease7.gate.stat = LeaseState.active) ∧
      (atLease7.leaseImage = true) ∧
      (atLease7.sfiUp = true) ∧
      (atLease7.rwlOpen Reg.SFI_LSCTL []) ∧
      (atLease7.gate.hstate ≠ HandState.deferred ∧ atLease7.gate.hstate ≠ HandState.finalEpoch) ∧
      (BitVec.getLsbD 0x00000000#32 1 = false)) ∧
    ((atLease0.handReason ≠ 0) ∧
      (atLease0.gate.stat = LeaseState.active) ∧
      (atLease0.leaseImage = true) ∧
      (atLease0.sfiUp = true) ∧
      (atLease0.rwlOpen Reg.SFI_LSCTL []) ∧
      (atLease0.gate.hstate ≠ HandState.deferred ∧ atLease0.gate.hstate ≠ HandState.finalEpoch) ∧
      (BitVec.getLsbD 0x00000000#32 1 = false)) ∧
    ((atLease3.leaseImage = true) ∧
      (atLease3.sfiUp = true) ∧
      (atLease3.rwlOpen Reg.SFI_LSCTL []) ∧
      (¬(atLease3.gate.hstate ≠ HandState.deferred ∧ atLease3.gate.hstate ≠ HandState.finalEpoch)) ∧
      (BitVec.getLsbD 0x00000000#32 0 = false)) ∧
    ((atLease0.leaseImage = true) ∧
      (atLease0.sfiUp = true) ∧
      (atLease0.rwlOpen Reg.SFI_LSCTL []) ∧
      (atLease0.gate.hstate ≠ HandState.deferred ∧ atLease0.gate.hstate ≠ HandState.finalEpoch) ∧
      (BitVec.getLsbD 0x00000000#32 0 = false)) ∧
    ((atLease1.sfiUp = false ∨ atLease1.leaseImage = false) ∧
      (atLease1.rwlOpen Reg.SFI_LSCTL [])) := by
  and_intros
  all_goals decide +kernel

/-- One word written to MGT_RECSEL, one read of SYS_ID, and both at an address that no access takes. -/
def recsel : BitVec 24 := BitVec.ofNat 24 (Reg.addr .MGT_RECSEL [])
def sysId : BitVec 24 := BitVec.ofNat 24 (Reg.addr .SYS_ID [])
def reqW (a : BitVec 24) : List Byte := requestBytes true false a 1 [1]
def reqR (a : BitVec 24) : List Byte := requestBytes false false a 1 []

/-- The management port in UART mode, and a port in the midst of a transaction. -/
def uartPort : State := { up im with ports := { Ports.reset with mpsel := true } }
def midway (rx : List Byte) (ended : Bool) : State :=
  { up im with ports := { Ports.reset with mgmt := { Xfer.reset with active := true, rx := rx, ended := ended } } }

/-- The device in HIBERNATE with no wake source enabled. -/
def deaf : State := { up im with power := { Power.reset with state := .hibernate }, regs := [(Reg.addr .PWR_WAKEEN [], 0)] }

theorem witness_DeviceKeyIsProvisionedOnce_kept :
    (∃ t, exec .slotdataRead { up im with persist := { Persist.reset with prov := true } } = .next t) ∧
    ({ up im with persist := { Persist.reset with prov := true } } : State).persist.prov = true := ⟨⟨_, rfl⟩, rfl⟩

theorem witness_PortTransactionsPerformTheirAccesses :
    (∀ s ∈ [up im, uartPort], s.mgtUp = true ∧ s.power.hib ≠ .entering ∧
      s.ports.heard .mgmt (framed (s.portUart .mgmt) (reqW recsel)) = Xfer.after (framed (s.portUart .mgmt) (reqW recsel)) 0 [] [] ∧
      (s.accessWrite .mgmt (accessAddr false recsel 0) 1).1 = .ok ∧ (s.accessWrite .mgmt (accessAddr false recsel 0) 1).2.mgtUp = true ∧
      (s.accessWrite .mgmt (accessAddr false recsel 0) 1).2.portUart .mgmt = s.portUart .mgmt) ∧
    (∀ s ∈ [up im, uartPort],
      s.ports.heard .mgmt (framed (s.portUart .mgmt) (reqW 2)) = Xfer.after (framed (s.portUart .mgmt) (reqW 2)) 0 [] [] ∧
      s.accessWrite .mgmt (accessAddr false 2 0) 1 = (.misaligned, s)) ∧
    (∀ s ∈ [up im, uartPort],
      s.ports.heard .mgmt (framed (s.portUart .mgmt) (reqR sysId)) = Xfer.after (framed (s.portUart .mgmt) (reqR sysId)) 0 [] [] ∧
      s.accessRead .mgmt (accessAddr false sysId 0) = (.ok, 0x940000B0, (s.accessRead .mgmt (accessAddr false sysId 0)).2.2) ∧
      (s.accessRead .mgmt (accessAddr false sysId 0)).2.2.mgtUp = true ∧
      (s.accessRead .mgmt (accessAddr false sysId 0)).2.2.portUart .mgmt = s.portUart .mgmt) ∧
    (∀ s ∈ [up im, uartPort],
      s.ports.heard .mgmt (framed (s.portUart .mgmt) (reqR 2)) = Xfer.after (framed (s.portUart .mgmt) (reqR 2)) 0 [] [] ∧
      s.accessRead .mgmt (accessAddr false 2 0) = (.misaligned, 0, s)) ∧
    ((up im).portUart .mgmt = false ∧ (up im).ports.heard .mgmt [5, 1] = Xfer.after [5, 1] 0 [] [] ∧
      (up im).ports.heard .mgmt [2, 1] = Xfer.after [2, 1] 0 [] []) ∧
    (uartPort.uartMode = true ∧ crc16 (reqR sysId) ≠ crc16 (reqR sysId) + 1 ∧
      uartPort.ports.heard .mgmt (0xA5 :: (reqR sysId ++ leBytes 2 (crc16 (reqR sysId) + 1).toNat)) =
        Xfer.after (0xA5 :: (reqR sysId ++ leBytes 2 (crc16 (reqR sysId) + 1).toNat)) 0 [] []) ∧
    (deaf.mgtUp = false ∧ deaf.PWR_WAKEEN_EN = 0) ∧
    ((midway [2] true).mgtUp = true ∧ (midway [2] true).portUart .mgmt = false ∧ ((midway [2] true).ports.xfer .mgmt).active = true ∧
      ((midway [2] true).ports.xfer .mgmt).ended = true) ∧
    (∀ r ∈ [reqW recsel, reqR sysId], (midway r false).mgtUp = true ∧ (midway r false).portUart .mgmt = false ∧
      ((midway r false).ports.xfer .mgmt).active = true ∧ ((midway r false).ports.xfer .mgmt).ended = false ∧
      ((midway r false).ports.xfer .mgmt).status = 0 ∧ ((midway r false).ports.xfer .mgmt).acc = 0 ∧
      ((midway r false).ports.xfer .mgmt).rx = r) ∧
    (((up im).ports.xfer .mgmt).active = false ∧ (up im).uartMode = false) := by
  and_intros
  all_goals decide +kernel

end Sys2Proof.Machine.Fx
end

