-- ==== Sys2Proof/WellFormed.lean ====
section
/-! DEFINITION. Which commands can reach the device at all: operand shapes that no wire, converter or checker can produce are
ill-formed. Every meaning is total all the same. -/

namespace Sys2Proof

/-- No number occurs twice. -/
def distinct : List Nat → Bool
  | [] => true
  | n :: ns => !ns.elem n && distinct ns

/-- Payload lengths of a CAN frame: 0 to 8 bytes, and the longer ones of the FD format (R520). -/
def canLength (fdf : Bool) (n : Nat) : Bool := n ≤ 8 || (fdf && [12, 16, 20, 24, 32, 48, 64].elem n)

/-- A frame as ISO 11898-1 puts it on the wire: an FD frame is never a remote frame, only an FD frame switches its bit rate,
a base frame has an 11-bit identifier. -/
def CanFrame.wellFormed (f : CanFrame) : Bool :=
  canLength f.fdf f.data.length && !(f.fdf && f.rtr) && (f.fdf || !f.brs) && (f.ide || decide (f.id.toNat < 2048)) &&
    (!f.rtr || f.data.isEmpty)

/-- Instances that a test of R130 runs on, by row. -/
def testInstances (row : Nat) : Nat :=
  match row with
  | 4 => 6
  | 5 => 32
  | 6 => 4
  | 7 => 8
  | 8 => 4
  | 9 => 3
  | _ => 1

/-- A failed self-test names a row of R130 and an instance of it. -/
def SelfTestFail.wellFormed (f : SelfTestFail) : Bool := f.row.val ≠ 0 && decide (f.instance_ < testInstances f.row.val)

/-- The command can occur. -/
def Instr.wellFormed : Instr → Bool
  | .defresCheckComplete _ readings => distinct (readings.map fun r => r.pad)
  | .selftestComplete fails => fails.all SelfTestFail.wellFormed && distinct (fails.map fun f => 16 * f.row.val + f.instance_)
  | .stagePush _ bad _ => decide (bad.length ≤ 64)
  | .currentSample _ shunts _ _ => shunts.length == 4
  | .calComplete _ sums => sums.length == 4
  | .swtestEnd fails => distinct (fails.map fun f => f.1.val)
  | .canFrameReceived _ f _ _ => f.wellFormed
  | .recordTapWrite i code data => decide (code.toNat / 256 = Machine.islandNum i) && decide (data.length ≤ 10)
  | .portWrite _ bytes k | .portWriteFixed _ bytes k | .portRead _ bytes k | .portReadFixed _ bytes k =>
    decide (bytes.length ≤ 1032) && decide (k ≤ 256)
  | _ => true

end Sys2Proof
end

