-- ==== Sys2Proof/Tests/Slice0.lean ====
section
/-! SUPPORT. The operand checks refuse an ill-formed command each; the worked examples and check values of spec/ come out; and the
statements about every command meet their hypotheses. -/

namespace Sys2Proof.Machine.Fx

set_option Elab.async false

/-! ### WellFormed: one command each check refuses, and its neighbour that passes -/

def frameOf (id : BitVec 29) (ide fdf brs rtr : Bool) (n : Nat) : CanFrame :=
  { id := id, ide := ide, fdf := fdf, brs := brs, rtr := rtr, data := List.replicate n 0 }

theorem test_wf_readings : (Instr.defresCheckComplete true [pulledUp 41, pulledUp 41]).wellFormed = false ∧
    (Instr.defresCheckComplete true [pulledUp 41, pulledUp 42]).wellFormed = true := by decide

theorem test_wf_selftest_row : (Instr.selftestComplete [{ row := 0, instance_ := 0, repeatPass := false }]).wellFormed = false := by
  decide

theorem test_wf_selftest_instance :
    (Instr.selftestComplete [{ row := 4, instance_ := 6, repeatPass := false }]).wellFormed = false ∧
    (Instr.selftestComplete [{ row := 4, instance_ := 5, repeatPass := false }]).wellFormed = true := by decide

theorem test_wf_selftest_twice :
    (Instr.selftestComplete [{ row := 4, instance_ := 1, repeatPass := false }, { row := 4, instance_ := 1, repeatPass := true }]).wellFormed
      = false := by decide

theorem test_wf_stage_push : (Instr.stagePush (.engine 0x0B00) (List.replicate 65 false) false).wellFormed = false := by decide +kernel

theorem test_wf_shunts : (Instr.currentSample 0 [1, 2] 3 none).wellFormed = false := by decide

theorem test_wf_sums : (Instr.calComplete 0 [1, 2, 3]).wellFormed = false ∧
    (Instr.calComplete 0 [1, 2, 3, 4]).wellFormed = true := by decide

theorem test_wf_switch_test : (Instr.swtestEnd [(1, 1), (1, 2)]).wellFormed = false := by decide

/-- Lengths, remote FD frames, BRS without FDF, wide base identifiers and remote frames with data (R520, R530). -/
theorem test_wf_frames :
    (Instr.canFrameReceived 0 (frameOf 1 false false false false 9) false ⟨0, 0⟩).wellFormed = false ∧
    (Instr.canFrameReceived 0 (frameOf 1 false true false true 0) false ⟨0, 0⟩).wellFormed = false ∧
    (Instr.canFrameReceived 0 (frameOf 1 false false true false 8) false ⟨0, 0⟩).wellFormed = false ∧
    (Instr.canFrameReceived 0 (frameOf 2048 false false false false 8) false ⟨0, 0⟩).wellFormed = false ∧
    (Instr.canFrameReceived 0 (frameOf 1 false false false true 1) false ⟨0, 0⟩).wellFormed = false ∧
    (Instr.canFrameReceived 0 (frameOf 2048 true true true false 64) false ⟨0, 0⟩).wellFormed = true := by decide

theorem test_wf_record_tap : (Instr.recordTapWrite .mpi 0x0500 (List.replicate 11 0)).wellFormed = false ∧
    (Instr.recordTapWrite .mpi 0x0600 []).wellFormed = false ∧ (Instr.recordTapWrite .mpi 0x0500 [1]).wellFormed = true := by decide

theorem test_wf_port_request : (Instr.portWrite .host [] 257).wellFormed = false ∧
    (Instr.portReadFixed .mgmt (List.replicate 1033 0) 1).wellFormed = false ∧
    (Instr.portRead .host [3, 0, 0, 0, 1] 1).wellFormed = true := by decide +kernel

/-- A WRITE of one word to 0x20_0008, byte by byte from R637. -/
theorem test_hear_write : Machine.hear [0x02, 0x20, 0x00, 0x08, 0x01, 0x78, 0x56, 0x34, 0x12] =
    .request { write := true, fixed := false, addr := 0x200008, count := 1, words := [0x12345678] } := by decide

/-- A READ_FIXED of 256 words, and an opcode the table of R637 does not hold. -/
theorem test_hear_read_fixed : Machine.hear [0x0B, 0x05, 0x00, 0x08, 0x00] =
    .request { write := false, fixed := true, addr := 0x50008, count := 256, words := [] } ∧
    Machine.hear [0x04, 0x05] = .unknown := by decide

/-- The regions of R618 fill the array exactly, each behind the one before. -/
theorem test_regions_fill_the_array :
    (Machine.Region.all.foldl (fun o r => if o = r.offset then o + r.size else 0) 0) = Machine.arraySize := by decide

/-! ### Check values and worked examples -/

/-- The ASCII string "123456789". -/
def digits : List Byte := [0x31, 0x32, 0x33, 0x34, 0x35, 0x36, 0x37, 0x38, 0x39]

/-- R158: 0xCBF4_3926. -/
theorem test_crc32 : crc32 digits = 0xCBF43926 := by decide +kernel

/-- R557: 0xE306_9283 with SEED 0xFFFF_FFFF. -/
theorem test_scrc : scrc 0xFFFFFFFF digits = 0xE3069283 := by decide +kernel

/-- R610: 0x29B1. -/
theorem test_crc16 : crc16 digits = 0x29B1 := by decide +kernel

/-- FIPS 180-4's one-block example: the hash of "abc" begins 0xBA7816BF. -/
theorem test_sha256 : (sha256 [0x61, 0x62, 0x63]).take 4 = [0xBA, 0x78, 0x16, 0xBF] := by decide +kernel

/-- Chapter 02's example: SO2_HS is PULLDOWN. -/
theorem test_pad_pulldown : classifyPad { pad := 335, voc := 3, vh := 443, vl := 443 } = (.pulldown, true) := by decide

/-- Chapter 02's example: HIRQ_N is OUT_OF_BAND at step 5. -/
theorem test_pad_out_of_band : classifyPad { pad := 41, voc := 3300, vh := 1300, vl := 3200 } = (.outOfBand, false) := by decide

/-- R544's example: P and ERR at Ls = 5 010 000 400. -/
theorem test_network_time :
    let t : TimeSvc := { TimeSvc.reset with stat := .locked, la := 5000000000, na := 7000000000, rate := 20000,
                                            pair := some (5000000000, 7000000000) }
    t.nt 5010000400 = 7010000600 ∧ (t.pairStep 5010000400 7010000760 10 3 100000 0).1.err = 160 ∧
      (t.pairStep 5010000400 7010000760 10 3 100000 0).1.corr = 16000 ∧
      (t.pairStep 5010000400 7010000760 10 3 100000 0).1.rate = 22000 := by decide +kernel

/-- Chapter 08's example: each change of the move takes 800 000 µs of jerk at 1000 and holds for 777 372 µs. -/
theorem test_velocity_change : change 1261897 8000 1000 = { tj := 800000, th := 777372, j := 1000 } := by decide +kernel

theorem test_velocity_distance : changeDist 0 1261897 8000 1000 = 150000 := by decide +kernel

/-- The words of five steps, written out from R418 and R419. -/
theorem test_step_words :
    figDecode 0x20918001 0 = none ∧
    figDecode 0x20918000 0 = some (.add 1 2 3) ∧
    figDecode 0x12800000 0xDEADBEEF = some (.ldw 5 0xDEADBEEF) ∧
    figDecode 0x6A7FF123 0 = some (.bri 2 7 0xFF 0x123) ∧
    figDecode 0xC5403010 0 = some (.wait .timer 0x40 3 0x010) ∧
    figDecode 0xE3020000 0 = some (.sig 1 0x81) := by decide

/-- R416: ADD saturates at the signed 32-bit range. -/
theorem test_add_saturates : sat32 (2147483647 + 1) = 2147483647 := by decide

set_option maxRecDepth 100000 in
/-- The fixtures' image, checked as R127 checks a slot. -/
theorem test_image_loads :
    (match exec .imageLoad (starting 4 (Fx.imageBytes)) with
     | .next t => t.image.isSome
     | _ => false) = true := by decide +kernel

/-- R5: SYS_ID reads 0x9400_00B0. -/
theorem test_sys_id : State.reset.view .SYS_ID [] = 0x940000B0 := by decide +kernel

/-! ### Hypotheses of the statements about every command -/

/-- A reset device with the RTC's subsecond count and fraction at `sub` and `frac`. -/
def rtcAt (sub : Nat) (frac : BitVec 16) : State :=
  { State.reset with aon := { State.reset.aon with rtcSub := sub, rtcFrac := frac } }

theorem witness_StepRunsTheFrontCommand :
    State.reset.pending = [] ∧ State.reset.power.state ≠ .off ∧ State.reset.aon.rtcSub + 4096 < 125000 ∧
    ({ State.reset with power := { State.reset.power with state := .off } } : State).power.state = .off ∧
    (125000 ≤ (rtcAt 124000 7).aon.rtcSub + 4096 ∧ (rtcAt 124000 7).aon.rtcFrac.toNat < 65534) ∧
    (125000 ≤ (rtcAt 124000 65534).aon.rtcSub + 4096 ∧ 65534 ≤ (rtcAt 124000 65534).aon.rtcFrac.toNat) := by
  decide

theorem witness_FigureStepWordsDecodeToTheStep : (FigStep.add 1 2 3).ok = true ∧ (FigStep.ldw 5 0xDEADBEEF).ok = true := by decide

theorem witness_EveryStepKeepsTheArrayBounds : State.reset.ArrayInv ∧ ∃ t, step State.reset = .next t :=
  ⟨⟨by decide, by decide, by decide, by decide, by decide⟩, _, rfl⟩

/-- A device whose birth log holds a line, commissioned, with its key provisioned. -/
def written : State :=
  { State.reset with persist := { State.reset.persist with bcount := 1, commissioned := true, prov := true } }

theorem witness_NoStepUndoesWrittenHistory :
    (∃ t, step written = .next t) ∧ 0 < written.persist.bcount ∧ written.persist.commissioned = true ∧ written.persist.prov = true :=
  ⟨⟨_, rfl⟩, by decide, rfl, rfl⟩

/-- `c` answers a next state from reset. -/
abbrev Runs (c : Instr) : Prop := ∃ t, exec c State.reset = .next t

theorem witness_MotionAndFigureCommandsChangeOnlyTheirPart :
    (Runs .ltagRead ∧ Instr.ofQueues .ltagRead = true) ∧
    (Runs (.stepNop 0 false) ∧ Instr.ofSeq (.stepNop 0 false) = true ∧ Instr.figureEngine (.stepNop 0 false) = some 0) ∧
    (Runs .runPhaseEnd ∧ Instr.ofMpi .runPhaseEnd = true ∧ State.reset.MPI_NLAND ≤ 256) ∧
    (Runs (.homeTimeout 0) ∧ Instr.ofMc (.homeTimeout 0) = true) ∧
    (Runs .recompute ∧ Instr.ofSch .recompute = true) ∧
    Runs .fposRead ∧ Runs .fusionLearn ∧ Runs .fusionHome ∧ Runs .fusionAbort ∧ Runs (.nlandWrite 1) ∧ Runs (.holdWrite 0 1) :=
  ⟨⟨⟨_, rfl⟩, rfl⟩, ⟨⟨_, rfl⟩, rfl, rfl⟩, ⟨⟨_, rfl⟩, rfl, by decide +kernel⟩, ⟨⟨_, rfl⟩, rfl⟩, ⟨⟨_, rfl⟩, rfl⟩, ⟨_, rfl⟩, ⟨_, rfl⟩, ⟨_, rfl⟩,
    ⟨_, rfl⟩, ⟨_, rfl⟩, ⟨_, rfl⟩⟩

theorem witness_SafetyAndBusCommandsChangeOnlyTheirPart :
    (Runs .fieldOvertemp ∧ Instr.ofSfi .fieldOvertemp = true) ∧ (Runs .leaseExpiry ∧ Instr.ofGate .leaseExpiry = true) ∧
    (Runs .timeRefSend ∧ Instr.ofBus .timeRefSend = true) ∧ (Runs .refGrant ∧ Instr.ofIssuer .refGrant = true) ∧
    (Runs .rescueCarAtRest ∧ Instr.ofRescue .rescueCarAtRest = true) ∧
    (Reg.addr .SYS_TEMPO [] ≠ Reg.addr .BUS_LINUM []) ∧
    Runs (.lepLimiterAct 0) ∧ Runs (.lepLimiterRelease 0) ∧ Runs .vfldBack ∧ Runs .batteryAccountTick ∧ Runs .qremStore ∧
    Runs .fullChargeDetect ∧ Runs (.rescueDoorAnswer { words := [], poison := false }) ∧ Runs .schTakeover ∧
    Runs (.latticePass []) ∧ Runs (.latticeTimerExpire 0) ∧ Runs (.faultSourceRise 0) ∧ Runs (.blockTest 0 true 0) ∧
    Runs (.tsntloRead 0) ∧ Runs .unitReportPost ∧ Runs .epochBegin ∧ Runs .epochCommit ∧ Runs .linkFault ∧ Runs .linkBack ∧
    Runs (.latticeReload 0) ∧ Runs (.latticeClrcnt 0) ∧ Runs (.swreq 0) ∧ Runs (.handover 0) ∧ Runs (.handoverCancel 0) ∧
    Runs (.lictlWithdraw 0) ∧ Runs (.qclr 0) :=
  ⟨⟨⟨_, rfl⟩, rfl⟩, ⟨⟨_, rfl⟩, rfl⟩, ⟨⟨_, rfl⟩, rfl⟩, ⟨⟨_, rfl⟩, rfl⟩, ⟨⟨_, rfl⟩, rfl⟩, by decide, ⟨_, rfl⟩, ⟨_, rfl⟩, ⟨_, rfl⟩,
    ⟨_, rfl⟩, ⟨_, rfl⟩, ⟨_, rfl⟩, ⟨_, rfl⟩, ⟨_, rfl⟩, ⟨_, rfl⟩, ⟨_, rfl⟩, ⟨_, rfl⟩, ⟨_, rfl⟩, ⟨_, rfl⟩, ⟨_, rfl⟩, ⟨_, rfl⟩, ⟨_, rfl⟩,
    ⟨_, rfl⟩, ⟨_, rfl⟩, ⟨_, rfl⟩, ⟨_, rfl⟩, ⟨_, rfl⟩, ⟨_, rfl⟩, ⟨_, rfl⟩, ⟨_, rfl⟩, ⟨_, rfl⟩⟩

theorem witness_ManagementCommandsChangeOnlyTheirPart :
    (Runs .slotClose ∧ Instr.ofLoader .slotClose = true) ∧ (Runs .unlockWaitExpire ∧ Instr.ofSession .unlockWaitExpire = true) ∧
    (Runs .wearloRead ∧ Instr.ofHistory .wearloRead = true) ∧ Runs .recordCommit ∧
    Runs (.tempoGo 0) ∧ Runs .tempoSwitchStart ∧ Runs (.tempoQuiesceAck .mpi) ∧ Runs .tempoPllLocked ∧ Runs .defresCheckStart ∧
    Runs .defresWaitVfld ∧ Runs (.defresCheckComplete true []) ∧ Runs .vmainPfail ∧ Runs .pfailClear ∧ Runs .vfldLow ∧
    Runs (.vbatLow 0) ∧ Runs (.vbatAbsentChange true) ∧ Runs (.hibRequest 0) ∧ Runs .resetRelease ∧ Runs .resetHoldAlert ∧
    Runs .railsGood ∧ Runs (.railTimeout 0) ∧ Runs .arrayCheckDone ∧ Runs .leaseAcquisitionTimeout ∧ Runs .startReady ∧
    Runs .slotdataRead ∧ Runs .passwordDerivationDone ∧ Runs .passwordLock ∧ Runs .clearBuffer ∧ Runs .sessionIdleTimeout ∧
    Runs (.keyProvision 0) ∧ Runs .persistLaneWrite ∧ Runs (.aonRtcset 0) ∧ Runs .rtcsecRead ∧ Runs (.tamperSample 0 0) ∧
    Runs (.chipSelectRise .host false) ∧ Runs .uartGapTimeout ∧ Runs (.gtagclr 0) ∧ Runs (.supplyMeasurement 0 0 0 0 0) ∧
    Runs .aonStatToggle ∧ Runs .uartByteOverlap := by
  and_intros
  all_goals first | exact ⟨_, rfl⟩ | rfl

end Sys2Proof.Machine.Fx
end

section
/-! SUPPORT. One access of a port (R682): what refuses it, and what a performed one is. -/

namespace Sys2Proof.Machine

variable (s : State) (p : Port) (a : Nat) (w : Word)

/-! ### Refusals, in the order of R682 -/

theorem State.accessRefusal_of_misaligned (wr : Bool) (h : a % 4 ≠ 0) :
    s.accessRefusal p a wr = .inl .misaligned := by
  simp [State.accessRefusal, h]

theorem State.accessRefusal_of_unmapped (wr : Bool) (h : a % 4 = 0) (hl : locate a = none) :
    s.accessRefusal p a wr = .inl .unmapped := by
  simp [State.accessRefusal, h, hl]

/-- At a register, only its reach and its sub-block can refuse. -/
theorem State.accessRefusal_of_located (wr : Bool) {r : Reg} {idx : List Nat} (h : a % 4 = 0) (hl : locate a = some (r, idx)) :
    s.accessRefusal p a wr =
      if !s.reaches p r idx a wr then .inl .notExposed else if !s.there a then .inl .absent else .inr (r, idx) := by
  simp [State.accessRefusal, h, hl]

theorem State.accessRefusal_of_unreached (wr : Bool) {r : Reg} {idx : List Nat} (h : a % 4 = 0)
    (hl : locate a = some (r, idx)) (hr : s.reaches p r idx a wr = false) :
    s.accessRefusal p a wr = .inl .notExposed := by
  simp [s.accessRefusal_of_located p a wr h hl, hr]

theorem State.accessRefusal_of_absent (wr : Bool) {r : Reg} {idx : List Nat} (h : a % 4 = 0)
    (hl : locate a = some (r, idx)) (hr : s.reaches p r idx a wr = true) (ht : s.there a = false) :
    s.accessRefusal p a wr = .inl .absent := by
  simp [s.accessRefusal_of_located p a wr h hl, hr, ht]

/-- An access that is performed is one of the register at its address. -/
theorem State.locate_of_performed {s : State} {p : Port} {a : Nat} {wr : Bool} {r : Reg} {idx : List Nat}
    (h : s.accessRefusal p a wr = .inr (r, idx)) : locate a = some (r, idx) := by
  unfold State.accessRefusal at h
  split at h
  · cases h
  · split at h
    · cases h
    · next hl =>
      split at h
      · cases h
      · split at h
        · cases h
        · cases h; exact hl

/-- The indexes found are those at which the register lies at the address. -/
theorem indexAt_of_locate {a : Nat} {r : Reg} {idx : List Nat} (h : locate a = some (r, idx)) : r.indexAt a = some idx := by
  obtain ⟨q, -, hq⟩ := List.exists_of_findSome?_eq_some h
  obtain ⟨i, hi, he⟩ := Option.map_eq_some_iff.mp hq
  cases he
  exact hi

/-- A register that stands once has no indexes. -/
theorem index_of_single {a : Nat} {r : Reg} {idx : List Nat} (hl : r.isLoop = false) (hd : r.dims = [])
    (h : locate a = some (r, idx)) : idx = [] := by
  have hi := indexAt_of_locate h
  simp only [Reg.indexAt, hl, hd, dimIndex, Bool.false_eq_true, if_false] at hi
  split at hi
  · cases hi
  · split at hi <;> cases hi
    rfl

theorem isRwl_of_locate {a : Nat} {r : Reg} {idx : List Nat} (h : locate a = some (r, idx)) : isRwl a = r.takesRwl idx := by
  simp [isRwl, h]

/-! ### What a refused and a performed access do -/

theorem State.accessWrite_of_refused {why : Status} (h : s.accessRefusal p a true = .inl why) :
    s.accessWrite p a w = (why, s) := by
  simp [State.accessWrite, h]

theorem State.accessRead_of_refused {why : Status} (h : s.accessRefusal p a false = .inl why) :
    s.accessRead p a = (why, 0, s) := by
  simp [State.accessRead, h]

theorem State.accessWrite_of_performed {r : Reg} {idx : List Nat} (h : s.accessRefusal p a true = .inr (r, idx)) :
    s.accessWrite p a w = s.portWrite p r idx w := by
  simp [State.accessWrite, h]

/-- A performed write of the management port to a register with RWL fields takes the loader's path (R169). -/
theorem State.accessWrite_of_rwl {r : Reg} {idx : List Nat} (h : s.accessRefusal .mgmt a true = .inr (r, idx))
    (ht : r.takesRwl idx = true) : s.accessWrite .mgmt a w = s.writeRwl r idx w := by
  simp [s.accessWrite_of_performed .mgmt a w h, State.portWrite, ht]

theorem State.accessWrite_of_mgtReg {r : Reg} {idx : List Nat} (h : s.accessRefusal .mgmt a true = .inr (r, idx))
    (ht : r.takesRwl idx = false) : s.accessWrite .mgmt a w = s.writeMgtReg r idx w := by
  simp [s.accessWrite_of_performed .mgmt a w h, State.portWrite, ht]

/-! ### Statuses of a write that reached its register -/

/-- The statuses with which R682 refuses an access on its way to a register. -/
abbrev pathRefusals : List Status := [.misaligned, .unmapped, .notExposed, .absent]

/-- A host's write that a queue answers with a refusal of the path changes no queue (R214). -/
theorem Qf.hostWrite_of_pathRefusal (x : Qf) (n : Nat) (h : (x.hostWrite n w).1 ∈ pathRefusals) : (x.hostWrite n w).2 = x := by
  unfold Qf.hostWrite at h ⊢
  split
  · rfl
  · next q hq =>
    rw [hq] at h
    dsimp only at h ⊢
    split
    · rfl
    · next hp =>
      rw [if_neg hp] at h
      split at h
      · simp at h
      · split at h
        · simp at h
        · split at h <;> simp at h

theorem State.writeRwl_status (r : Reg) (idx : List Nat) : (s.writeRwl r idx w).1 ∉ pathRefusals := by
  unfold State.writeRwl
  dsimp only
  split
  · simp
  · split
    · simp
    · split <;> simp

theorem lockedOr_status (x : Bool × State) : (lockedOr x).1 ∉ pathRefusals := by
  unfold lockedOr
  cases x.1 <;> simp

theorem State.pwcmdWrite_status : (s.pwcmdWrite w).1 ∉ pathRefusals := by
  unfold State.pwcmdWrite
  dsimp only
  split <;> simp

theorem State.writeMgtReg_status (r : Reg) (idx : List Nat) : (s.writeMgtReg r idx w).1 ∉ pathRefusals := by
  unfold State.writeMgtReg
  split
  case h_1 | h_7 | h_9 | h_10 => exact lockedOr_status _
  case h_5 => exact s.pwcmdWrite_status w
  all_goals simp

/-- A write that reached its register changes nothing when it answers a refusal of the path. -/
theorem State.portWrite_of_pathRefusal (r : Reg) (idx : List Nat) (h : (s.portWrite p r idx w).1 ∈ pathRefusals) :
    (s.portWrite p r idx w).2 = s := by
  unfold State.portWrite at h ⊢
  cases p with
  | host =>
    dsimp only at h ⊢
    split at h
    · dsimp only at h ⊢
      rw [Qf.hostWrite_of_pathRefusal w s.qf _ h, State.withQf_qf]
    · simp at h
  | mgmt =>
    dsimp only at h
    split at h
    · exact absurd h (s.writeRwl_status w r idx)
    · exact absurd h (s.writeMgtReg_status w r idx)

/-- A write access that answers a refusal of the path changes nothing. -/
theorem State.accessWrite_of_pathRefusal (h : (s.accessWrite p a w).1 ∈ pathRefusals) : (s.accessWrite p a w).2 = s := by
  cases e : s.accessRefusal p a true with
  | inl why => rw [s.accessWrite_of_refused p a w e]
  | inr x =>
    rw [s.accessWrite_of_performed p a w e] at h ⊢
    exact s.portWrite_of_pathRefusal p w x.1 x.2 h

/-! ### The rows that are one access -/

theorem State.atMgt_of_up (f : State → State) (h : s.mgtUp = true) : s.atMgt f = f s := by simp [State.atMgt, h]

theorem State.atMgt_of_down (f : State → State) (h : s.mgtUp = false) : s.atMgt f = s := by simp [State.atMgt, h]

theorem exec_registerWrite (addr : BitVec 24) :
    exec (.registerWrite p addr w) s = .next (s.atMgt fun s => (s.accessWrite p addr.toNat w).2) := rfl

theorem exec_rwlWrite (addr : BitVec 24) :
    exec (.rwlWrite addr w) s =
      .next (s.atMgt fun s => if isRwl addr.toNat then (s.accessWrite .mgmt addr.toNat w).2 else s) := rfl

/-- Settles O20: each refusal of R682 leaves the state, and so does a write row that such a refusal answers. -/
theorem refusedAccessDoesNothing : Obligations.RefusedAccessDoesNothing := by
  unfold Obligations.RefusedAccessDoesNothing
  intro s p a w
  refine ⟨fun h => ?misaligned, fun h hl => ?unmapped, fun r idx h hl hr => ?unreachedWrite, fun r idx h hl hr => ?unreachedRead,
    fun r idx h hl hr ht => ?absentWrite, fun r idx h hl hr ht => ?absentRead, fun addr ha hst => ?row⟩
  case misaligned =>
    exact ⟨s.accessWrite_of_refused p a w (s.accessRefusal_of_misaligned p a true h),
      s.accessRead_of_refused p a (s.accessRefusal_of_misaligned p a false h)⟩
  case unmapped =>
    exact ⟨s.accessWrite_of_refused p a w (s.accessRefusal_of_unmapped p a true h hl),
      s.accessRead_of_refused p a (s.accessRefusal_of_unmapped p a false h hl)⟩
  case unreachedWrite => exact s.accessWrite_of_refused p a w (s.accessRefusal_of_unreached p a true h hl hr)
  case unreachedRead => exact s.accessRead_of_refused p a (s.accessRefusal_of_unreached p a false h hl hr)
  case absentWrite => exact s.accessWrite_of_refused p a w (s.accessRefusal_of_absent p a true h hl hr ht)
  case absentRead => exact s.accessRead_of_refused p a (s.accessRefusal_of_absent p a false h hl hr ht)
  case row =>
    subst ha
    rw [exec_registerWrite, State.atMgt, s.accessWrite_of_pathRefusal p addr.toNat w hst, ite_self]

end Sys2Proof.Machine
end

section
/-! SUPPORT. A performed write: the word a register holds after it, its record and its overlay entry (R14 to R16, R169 to R171). -/

namespace Sys2Proof.Machine

/-! ### Fields -/

/-- A field reads what was stored in it, as far as it fits. -/
theorem getBits_setBits_self (w : Word) (hi lo v : Nat) (hl : lo ≤ hi) (hh : hi < 32) :
    getBits (setBits w hi lo v) hi lo = v % 2 ^ (hi - lo + 1) := by
  refine Nat.eq_of_testBit_eq fun i => ?_
  by_cases hi' : i < hi - lo + 1
  · have h32 : lo + i < 32 := by omega
    rw [getBits, Nat.testBit_mod_two_pow, Nat.testBit_div_two_pow, BitVec.testBit_toNat, setBits, Nat.testBit_mod_two_pow]
    simp only [BitVec.getLsbD_or, BitVec.getLsbD_and, BitVec.getLsbD_not, BitVec.getLsbD_ofNat, Nat.testBit_mul_two_pow,
      Nat.testBit_two_pow_sub_one, Nat.testBit_mod_two_pow]
    simp [hi', show i + lo < 32 by omega]
  · simp [getBits, Nat.testBit_mod_two_pow, hi']

theorem getBits_mod (w : Word) (hi lo : Nat) : getBits w hi lo % 2 ^ (hi - lo + 1) = getBits w hi lo := Nat.mod_mod _ _

/-! ### What a commit leaves: the clocks, and whether records are committed -/

/-- Two histories at one moment: the same device time and wall time, and the same answer to whether MGT commits records. -/
structure Hist.SameMoment (h g : Hist) : Prop where
  dev : g.dev = h.dev
  wsec : g.wsec = h.wsec
  wfrac : g.wfrac = h.wfrac
  up : g.up = h.up

theorem Hist.SameMoment.refl (h : Hist) : h.SameMoment h := ⟨rfl, rfl, rfl, rfl⟩

theorem Hist.SameMoment.trans {a b c : Hist} (h : a.SameMoment b) (g : b.SameMoment c) : a.SameMoment c :=
  ⟨g.dev.trans h.dev, g.wsec.trans h.wsec, g.wfrac.trans h.wfrac, g.up.trans h.up⟩

theorem Hist.commit_sameMoment (h : Hist) (r : TapRec) : h.SameMoment (h.commit r) := ⟨rfl, rfl, rfl, rfl⟩

theorem Hist.hold_sameMoment (h : Hist) (r : TapRec) : h.SameMoment (h.hold r) := by
  unfold Hist.hold
  dsimp only
  split <;> exact ⟨rfl, rfl, rfl, rfl⟩

theorem Hist.submit_sameMoment (h : Hist) (r : TapRec) : h.SameMoment (h.submit r) := by
  have taken (g : Hist) (hg : h.SameMoment g) : h.SameMoment (if g.recorder.frozen then g.hold r else g.commit r) := by
    split
    · exact hg.trans (g.hold_sameMoment r)
    · exact hg.trans (g.commit_sameMoment r)
  refine taken _ ?_
  split <;> exact ⟨rfl, rfl, rfl, rfl⟩

theorem Hist.takeFrom_sameMoment (h : Hist) (i : Nat) (r : TapRec) : h.SameMoment (h.takeFrom i r) := by
  unfold Hist.takeFrom
  dsimp only
  refine .trans ?_ (Hist.submit_sameMoment _ r)
  exact ⟨rfl, rfl, rfl, rfl⟩

theorem Hist.drainDue_sameMoment (h : Hist) (n : Nat) : h.SameMoment (h.drainDue n) := by
  induction n generalizing h with
  | zero => exact .refl h
  | succ n ih =>
    unfold Hist.drainDue
    split
    · exact .refl h
    · split
      · exact (h.takeFrom_sameMoment _ _).trans (ih _)
      · exact .refl h

theorem Hist.place_sameMoment (h : Hist) (r : TapRec) : h.SameMoment (h.place r) := by
  unfold Hist.place
  split
  · exact (h.drainDue_sameMoment 256).trans (Hist.submit_sameMoment _ r)
  · exact ⟨rfl, rfl, rfl, rfl⟩

theorem Hist.wordsWorn_sameMoment (h : Hist) (as : List Nat) : h.SameMoment (as.foldl Hist.wordWorn h) := by
  induction as generalizing h with
  | nil => exact .refl h
  | cons a as ih => exact (h.place_sameMoment _).trans (ih _)

theorem Hist.serveLanes_sameMoment (h : Hist) : h.SameMoment h.serveLanes := by
  unfold Hist.serveLanes
  dsimp only
  refine .trans ?_ (Hist.wordsWorn_sameMoment _ _)
  exact ⟨rfl, rfl, rfl, rfl⟩

theorem Hist.own_sameMoment (h : Hist) (code : Nat) (data : List Byte) : h.SameMoment (h.own code data) :=
  h.serveLanes_sameMoment.trans (Hist.place_sameMoment _ _)

/-- The device holds the history it is given, where that is one of its own moment. -/
theorem State.hist_withHist (s : State) (h : Hist) (hm : s.hist.SameMoment h) : (s.withHist h).hist = h := by
  obtain ⟨hdev, hsec, hfrac, hup⟩ := hm
  obtain ⟨persist, recorder, lanes, dev, wsec, wfrac, up⟩ := h
  cases hdev; cases hsec; cases hfrac; cases hup
  rfl

/-- A record of MGT is in the history of the device that has written it. -/
theorem State.hist_commitNote (s : State) (code : Nat) (data : List Byte) : (s.commitNote code data).hist = s.hist.own code data :=
  s.hist_withHist _ (s.hist.own_sameMoment code data)

/-- A refused write is recorded and changes no register (R15, R186). -/
theorem State.noteRefused_spec (s : State) (a code : Nat) :
    (s.noteRefused a code).regs = s.regs ∧
    (s.noteRefused a code).hist = s.hist.own 0x0246 (leBytes 4 a ++ leBytes 1 code) ∧
    s.noteRefused a code =
      { s with persist := (s.noteRefused a code).persist, recorder := (s.noteRefused a code).recorder,
               lanes := (s.noteRefused a code).lanes } :=
  ⟨rfl, s.hist_commitNote _ _, rfl⟩

/-! ### The overlay (R169, R171) -/

/-- The overlay holds the entry that is put in it. -/
theorem Persist.mem_overlayPut (p : Persist) (crc : Word) (a : Nat) (w : Word) : (a, w) ∈ (p.overlayPut crc a w).overlay := by
  unfold Persist.overlayPut
  dsimp only
  split <;> split
  case isTrue.isTrue h | isFalse.isTrue h =>
    obtain ⟨e, he, ha⟩ := List.any_eq_true.mp h
    exact List.mem_map.mpr ⟨e, he, by rw [if_pos ha]⟩
  all_goals simp

theorem Persist.overlayPut_clogNext (p : Persist) (crc : Word) (a : Nat) (w : Word) :
    (p.overlayPut crc a w).clogNext = p.clogNext := by
  unfold Persist.overlayPut
  dsimp only
  split <;> split <;> rfl

theorem Persist.overlayFull_of_lt (p : Persist) (a : Nat) (h : p.overlay.length < 2048) : p.overlayFull a = false := by
  simp [Persist.overlayFull, Nat.not_le.mpr h]

/-! ### The loader's path of an RWL write (R15, R169) -/

variable (s : State) (r : Reg) (idx : List Nat) (w : Word)

/-- Without a session the write is refused. -/
theorem State.writeRwl_of_locked (h : s.session.unlocked = false) :
    s.writeRwl r idx w = (.locked, s.noteRefused (r.addr idx) 1) := by
  simp [State.writeRwl, h]

/-- A write that nothing refuses, of a register that answers in this mode, is accepted. -/
theorem State.writeRwl_of_open (h : s.session.unlocked = true) (hb : s.rwlBusy r idx = false)
    (hf : s.persist.overlayFull (r.addr idx) = false) (hi : s.inert r idx = false) :
    s.writeRwl r idx w = (.ok, s.acceptRwl r idx w) := by
  simp [State.writeRwl, h, hb, hf, hi]

/-- With no ACCEPT deferred, only a knot or a table entry in use is busy. -/
theorem State.rwlBusy_of_noTable (h : s.slotRuns .deferred = none)
    (hr : r ∉ [Reg.MPI_KNT, .MPI_KNP, .MPI_KNV, .MPI_PLTAB]) : s.rwlBusy r idx = false := by
  simp only [State.rwlBusy, h, Option.isSome_none, Bool.false_or]
  split <;> simp_all

/-- An accepted write adds one change-log record to its effect, and leaves the session as its effect does. -/
theorem State.acceptRwl_logged :
    (s.acceptRwl r idx w).persist.clogNext = (s.applyRwl r idx w).persist.clogNext + 1 ∧
    (s.acceptRwl r idx w).session = (s.applyRwl r idx w).session := by
  unfold State.acceptRwl
  dsimp only
  split
  · exact ⟨rfl, rfl⟩
  · exact ⟨Persist.overlayPut_clogNext _ _ _ _, rfl⟩

/-- An accepted write of a configuration register is in the overlay. -/
theorem State.mem_overlay_acceptRwl (h : rwlCommand r = false) : (r.addr idx, w) ∈ (s.acceptRwl r idx w).persist.overlay := by
  unfold State.acceptRwl
  dsimp only
  rw [if_neg (by simp [h])]
  exact Persist.mem_overlayPut _ _ _ _

/-- An accepted write of a command field makes no overlay entry (R170). -/
theorem State.overlay_acceptRwl_of_command (h : rwlCommand r = true) :
    (s.acceptRwl r idx w).persist.overlay = (s.applyRwl r idx w).persist.overlay := by
  unfold State.acceptRwl
  dsimp only
  rw [if_pos h]
  rfl

/-- An accepted write whose effect is that its fields are stored. -/
theorem State.acceptRwl_of_stored (ha : s.applyRwl r idx w = s.storeFields [.rwl] r idx w) :
    (s.acceptRwl r idx w).regs = (s.storeFields [.rwl] r idx w).regs ∧
    s.acceptRwl r idx w =
      { s with regs := (s.acceptRwl r idx w).regs, persist := (s.acceptRwl r idx w).persist } := by
  unfold State.acceptRwl
  dsimp only
  rw [ha]
  split <;> exact ⟨rfl, rfl⟩

/-- What a register reads after its fields are stored, and that every other register reads what it read. -/
theorem State.reg_storeFields (accs : List Access) :
    (s.storeFields accs r idx w).reg r idx = s.storedWord accs r idx w ∧
    ∀ q i, q.addr i ≠ r.addr idx → (s.storeFields accs r idx w).reg q i = s.reg q i :=
  ⟨s.reg_setReg_self r idx _, fun q i h => s.reg_setReg_ne r q idx i _ h⟩

end Sys2Proof.Machine
end

section
/-! SUPPORT. The rows that are one write of an RWL register, and what a performed write does (R14 to R16, R169, R171). -/

namespace Sys2Proof.Machine

/-! ### Effects that leave the session, the change log and the overlay -/

/-- The session, the count of the change log and the overlay of `t` are those of `s`. -/
structure State.SameLog (s t : State) : Prop where
  session : t.session = s.session
  clogNext : t.persist.clogNext = s.persist.clogNext
  overlay : t.persist.overlay = s.persist.overlay

theorem State.SameLog.refl (s : State) : s.SameLog s := ⟨rfl, rfl, rfl⟩

theorem State.SameLog.trans {a b c : State} (h : a.SameLog b) (g : b.SameLog c) : a.SameLog c :=
  ⟨g.session.trans h.session, g.clogNext.trans h.clogNext, g.overlay.trans h.overlay⟩

theorem State.setReg_sameLog (s : State) (r : Reg) (idx : List Nat) (w : Word) : s.SameLog (s.setReg r idx w) := ⟨rfl, rfl, rfl⟩

theorem State.runMc_sameLog (s : State) (ok : Bool) (f : Mc → Mc) : s.SameLog (s.runMc ok f) := by
  unfold State.runMc
  split <;> exact ⟨rfl, rfl, rfl⟩

theorem State.runMpi_sameLog (s : State) (ok : Bool) (f : Mpi → Mpi) : s.SameLog (s.runMpi ok f) := by
  unfold State.runMpi
  split <;> exact ⟨rfl, rfl, rfl⟩

theorem State.runSf_sameLog (s : State) (ok : Bool) (f : Sf → Sf) : s.SameLog (s.runSf ok f) := by
  unfold State.runSf
  split <;> exact ⟨rfl, rfl, rfl⟩

theorem State.withLi_sameLog (s : State) (m : Li) : s.SameLog (s.withLi m) := by
  unfold State.withLi
  dsimp only
  split <;> exact ⟨rfl, rfl, rfl⟩

theorem State.runLi_sameLog (s : State) (ok : Bool) (f : Li → Li) : s.SameLog (s.runLi ok f) := by
  unfold State.runLi
  split
  · exact s.withLi_sameLog _
  · exact .refl s

theorem State.handAbort_sameLog (s : State) (reason : Nat) : s.SameLog (s.handAbort reason) := s.runSf_sameLog _ _

theorem State.handStep_sameLog (s : State) : s.SameLog s.handStep := by
  unfold State.handStep
  dsimp only
  split
  · exact ⟨rfl, rfl, rfl⟩
  · split
    · exact .refl s
    · exact s.handAbort_sameLog _
  · exact .refl s

theorem State.writeLehold_sameLog (s : State) (e : Nat) (w : Word) : s.SameLog (s.writeLehold e w) := by
  unfold State.writeLehold
  dsimp only
  split
  · exact (s.setReg_sameLog _ _ _).trans (State.runMc_sameLog _ _ _)
  · exact s.setReg_sameLog _ _ _

theorem State.writeFcmd_sameLog (s : State) (w : Word) : s.SameLog (s.writeFcmd w) := by
  unfold State.writeFcmd
  exact (s.setReg_sameLog _ _ _).trans (State.runMpi_sameLog _ _ _)

theorem State.writeNland_sameLog (s : State) (w : Word) : s.SameLog (s.writeNland w) := by
  unfold State.writeNland
  exact (s.setReg_sameLog _ _ _).trans (State.runMpi_sameLog _ _ _)

theorem State.writeLsctl_sameLog (s : State) (w : Word) : s.SameLog (s.writeLsctl w) := by
  unfold State.writeLsctl
  have cancelled : s.SameLog (if w.getLsbD 1 then s.handAbort 6 else s) := by
    split
    · exact s.handAbort_sameLog 6
    · exact .refl s
  split
  · exact .refl s
  · generalize (if w.getLsbD 1 then s.handAbort 6 else s) = u at cancelled ⊢
    dsimp only
    split
    · refine cancelled.trans (.trans ?_ (State.handStep_sameLog _))
      exact ⟨rfl, rfl, rfl⟩
    · exact cancelled

/-! ### The registers of the rows that are one RWL write -/

/-- The registers that such rows write, with their indexes: the command fields of R170, MPI_NLAND, and LEHOLD of an engine. -/
def RowTarget (r : Reg) (idx : List Nat) : Prop :=
  (rwlCommand r = true ∧ idx = []) ∨ (r = .MPI_NLAND ∧ idx = []) ∨ (r = .LEHOLD ∧ ∃ e < 8, idx = [e])

/-- Such a row is a write of its register through the management port. -/
theorem exec_of_rwlTarget {c : Instr} {r : Reg} {idx : List Nat} {v : Word} (h : c.rwlTarget = some (r, idx, v)) (s : State) :
    exec c s = .next (s.mgmtWrite r idx v) := by
  unfold Instr.rwlTarget at h
  split at h <;> cases h <;> rfl

theorem rowTarget_of_rwlTarget {c : Instr} {r : Reg} {idx : List Nat} {v : Word} (h : c.rwlTarget = some (r, idx, v)) :
    RowTarget r idx := by
  unfold Instr.rwlTarget at h
  split at h <;> cases h
  case h_4 => exact .inr (.inl ⟨rfl, rfl⟩)
  case h_5 e => exact .inr (.inr ⟨rfl, e.val, e.isLt, rfl⟩)
  all_goals exact .inl ⟨rfl, rfl⟩

/-- The registers of R170. -/
theorem cases_of_rwlCommand {r : Reg} (h : rwlCommand r = true) :
    r = .MPI_FCMD ∨ r = .SFI_LATCTL ∨ r = .SFI_TESTCTL ∨ r = .SFI_LSCTL ∨ r = .BUS_LICTL ∨ r = .MGT_QCLR := by
  unfold rwlCommand at h
  split at h
  case h_7 => cases h
  all_goals simp only [true_or, or_true]

variable {r : Reg} {idx : List Nat}

theorem RowTarget.takesRwl (h : RowTarget r idx) : r.takesRwl idx = true := by
  obtain ⟨hc, -⟩ | ⟨rfl, -⟩ | ⟨rfl, -⟩ := h
  · obtain rfl | rfl | rfl | rfl | rfl | rfl := cases_of_rwlCommand hc <;> rfl
  · rfl
  · rfl

theorem RowTarget.not_table (h : RowTarget r idx) : r ∉ [Reg.MPI_KNT, .MPI_KNP, .MPI_KNV, .MPI_PLTAB] := by
  obtain ⟨hc, -⟩ | ⟨rfl, -⟩ | ⟨rfl, -⟩ := h
  · obtain rfl | rfl | rfl | rfl | rfl | rfl := cases_of_rwlCommand hc <;> decide
  · decide
  · decide

/-- None of these registers reads 0 in some mode. -/
theorem RowTarget.not_inert (h : RowTarget r idx) (s : State) : s.inert r idx = false := by
  obtain ⟨hc, rfl⟩ | ⟨rfl, rfl⟩ | ⟨rfl, e, he, rfl⟩ := h
  · obtain rfl | rfl | rfl | rfl | rfl | rfl := cases_of_rwlCommand hc <;> rfl
  · rfl
  · have engines : e = 0 ∨ e = 1 ∨ e = 2 ∨ e = 3 ∨ e = 4 ∨ e = 5 ∨ e = 6 ∨ e = 7 := by omega
    obtain rfl | rfl | rfl | rfl | rfl | rfl | rfl | rfl := engines <;> rfl

/-- The effect of a write of such a register leaves the session, the change log and the overlay. -/
theorem RowTarget.applyRwl_sameLog (h : RowTarget r idx) (s : State) (w : Word) : s.SameLog (s.applyRwl r idx w) := by
  obtain ⟨hc, -⟩ | ⟨rfl, -⟩ | ⟨rfl, -⟩ := h
  case inr.inl => exact s.writeNland_sameLog w
  case inr.inr => exact s.writeLehold_sameLog _ w
  obtain rfl | rfl | rfl | rfl | rfl | rfl := cases_of_rwlCommand hc
  · exact s.writeFcmd_sameLog w
  · exact s.runSf_sameLog true fun m => m.writeLatctl w
  · exact s.runSf_sameLog s.sfiUp fun m => m.writeTestctl w
  · exact s.writeLsctl_sameLog w
  · exact s.runLi_sameLog (s.issuerUp && w.getLsbD 0) fun m => m.lose 4
  · exact ⟨rfl, rfl, rfl⟩

theorem State.mgmtWrite_of_reached {s : State} (h : s.mgmtReaches r idx) (hr : r.takesRwl idx = true) (w : Word) :
    s.mgmtWrite r idx w = (s.writeRwl r idx w).2 := by
  obtain ⟨hup, hacc⟩ := h
  rw [State.mgmtWrite, s.atMgt_of_up _ hup, s.accessWrite_of_rwl _ w hacc hr]

end Sys2Proof.Machine
end

section
/-! SUPPORT. The clauses of a performed write, one theorem per form. -/

namespace Sys2Proof.Machine

variable {s : State} {r : Reg} {idx : List Nat} {addr : BitVec 24} (w : Word)

/-! ### RW registers -/

/-- A write of one of MGT's selectors stores its RW fields; a write of MGT_RECSEL selects a record besides (R634). -/
theorem State.writeMgtReg_of_selector (s : State) (hr : r = .MGT_RECSEL ∨ r = .MGT_WEARSEL ∨ r = .MGT_DRCSEL) :
    s.writeMgtReg r [] w =
      (.ok, { s.storeFields [.rw] r [] w with
        recorder := { s.recorder with selected := s.recorder.selected || r == .MGT_RECSEL } }) := by
  obtain rfl | rfl | rfl := hr
  · rw [BEq.rfl, Bool.or_true]
    rfl
  · rw [show (Reg.MGT_WEARSEL == .MGT_RECSEL) = false from rfl, Bool.or_false]
    rfl
  · rw [show (Reg.MGT_DRCSEL == .MGT_RECSEL) = false from rfl, Bool.or_false]
    rfl

theorem selectorWrite_stores (hup : s.mgtUp = true) (hr : r = .MGT_RECSEL ∨ r = .MGT_WEARSEL ∨ r = .MGT_DRCSEL)
    (hacc : s.accessRefusal .mgmt addr.toNat true = .inr (r, idx)) :
    Completes (.registerWrite .mgmt addr w) s fun t =>
      t.reg r idx = s.storedWord [.rw] r idx w ∧ (∀ q i, q.addr i ≠ r.addr idx → t.reg q i = s.reg q i) ∧
      t = { s with regs := t.regs, recorder := { s.recorder with selected := s.recorder.selected || r == .MGT_RECSEL } } := by
  have ht : r.takesRwl idx = false := by obtain rfl | rfl | rfl := hr <;> rfl
  have hidx : idx = [] := by
    have hl := State.locate_of_performed hacc
    obtain rfl | rfl | rfl := hr <;> exact index_of_single rfl rfl hl
  subst hidx
  refine ⟨_, by rw [exec_registerWrite, s.atMgt_of_up _ hup, s.accessWrite_of_mgtReg _ w hacc ht,
    s.writeMgtReg_of_selector w hr], ?_, ?_, rfl⟩
  · exact (s.reg_storeFields r [] w [.rw]).1
  · exact (s.reg_storeFields r [] w [.rw]).2

/-- The host's write of SYS_TEMPO without GO stores TARGET and asks for no switch (R36). -/
theorem State.writeSysTempo_of_noGo (s : State) (h : w.getLsbD 8 = false) :
    getBits ((s.writeSysTempo w).reg .SYS_TEMPO) 5 4 = getBits w 5 4 ∧ (s.writeSysTempo w).tempo = s.tempo := by
  unfold State.writeSysTempo
  rw [h, if_neg Bool.false_ne_true, State.reg_setReg_self, getBits_setBits_self _ 5 4 _ (by decide) (by decide)]
  exact ⟨getBits_mod w 5 4, rfl⟩

theorem tempoWrite_stores (hup : s.mgtUp = true) (hacc : s.accessRefusal .host addr.toNat true = .inr (.SYS_TEMPO, idx))
    (hgo : w.getLsbD 8 = false) :
    Completes (.registerWrite .host addr w) s fun t =>
      getBits (t.reg .SYS_TEMPO) 5 4 = getBits w 5 4 ∧ t.tempo = s.tempo := by
  have hw : (s.portWrite .host .SYS_TEMPO idx w).2 = s.writeSysTempo w := rfl
  exact ⟨_, by rw [exec_registerWrite, s.atMgt_of_up _ hup, s.accessWrite_of_performed _ _ w hacc, hw],
    s.writeSysTempo_of_noGo w hgo⟩

/-! ### RWL registers -/

/-- The row RWL_WRITE of a reached register takes the loader's path. -/
theorem exec_rwlWrite_of_reached (hup : s.mgtUp = true) (hacc : s.accessRefusal .mgmt addr.toNat true = .inr (r, idx))
    (hrwl : isRwl addr.toNat = true) : exec (.rwlWrite addr w) s = .next (s.writeRwl r idx w).2 := by
  have ht : r.takesRwl idx = true := isRwl_of_locate (State.locate_of_performed hacc) ▸ hrwl
  rw [exec_rwlWrite, s.atMgt_of_up _ hup, if_pos hrwl, s.accessWrite_of_rwl _ w hacc ht]

/-- An accepted write of a configuration register whose effect is its fields. -/
theorem acceptRwl_stores (hcmd : rwlCommand r = false) (ha : s.applyRwl r idx w = s.storeFields [.rwl] r idx w) :
    (s.acceptRwl r idx w).reg r idx = s.storedWord [.rwl] r idx w ∧
    (∀ q i, q.addr i ≠ r.addr idx → (s.acceptRwl r idx w).reg q i = s.reg q i) ∧
    (r.addr idx, w) ∈ (s.acceptRwl r idx w).persist.overlay ∧
    (s.acceptRwl r idx w).persist.clogNext = s.persist.clogNext + 1 ∧
    s.acceptRwl r idx w = { s with regs := (s.acceptRwl r idx w).regs, persist := (s.acceptRwl r idx w).persist } := by
  obtain ⟨hregs, hframe⟩ := s.acceptRwl_of_stored r idx w ha
  have hreg (q : Reg) (i : List Nat) : (s.acceptRwl r idx w).reg q i = (s.storeFields [.rwl] r idx w).reg q i := by
    simp only [State.reg, hregs]
  obtain ⟨hself, hother⟩ := s.reg_storeFields r idx w [.rwl]
  refine ⟨(hreg r idx).trans hself, fun q i h => (hreg q i).trans (hother q i h), s.mem_overlay_acceptRwl r idx w hcmd, ?_,
    hframe⟩
  rw [(s.acceptRwl_logged r idx w).1, ha]
  rfl

theorem configWrite_stores (hup : s.mgtUp = true) (hacc : s.accessRefusal .mgmt addr.toNat true = .inr (r, idx))
    (hr : r = .MPI_DZHALF ∨ r = .SFI_SICFG ∨ r = .BUS_RBID ∨ r = .BUS_TSCFG ∨ r = .SFI_CTCFG)
    (hrwl : isRwl addr.toNat = true) (hsess : s.session.unlocked = true) (hdef : s.slotRuns .deferred = none)
    (hfull : s.persist.overlayFull (r.addr idx) = false) (hin : s.inert r idx = false) :
    Completes (.rwlWrite addr w) s fun t =>
      t.reg r idx = s.storedWord [.rwl] r idx w ∧ (∀ q i, q.addr i ≠ r.addr idx → t.reg q i = s.reg q i) ∧
      (r.addr idx, w) ∈ t.persist.overlay ∧ t.persist.clogNext = s.persist.clogNext + 1 ∧
      t = { s with regs := t.regs, persist := t.persist } := by
  have hbusy : s.rwlBusy r idx = false :=
    s.rwlBusy_of_noTable r idx hdef (by obtain rfl | rfl | rfl | rfl | rfl := hr <;> decide)
  have hcmd : rwlCommand r = false := by obtain rfl | rfl | rfl | rfl | rfl := hr <;> rfl
  have ha : s.applyRwl r idx w = s.storeFields [.rwl] r idx w := by obtain rfl | rfl | rfl | rfl | rfl := hr <;> rfl
  exact ⟨_, by rw [exec_rwlWrite_of_reached w hup hacc hrwl, s.writeRwl_of_open r idx w hsess hbusy hfull hin],
    acceptRwl_stores w hcmd ha⟩

/-! ### The rows that are one RWL write -/

theorem rwlRow_locked {c : Instr} {v : Word} (hc : c.rwlTarget = some (r, idx, v)) (hreach : s.mgmtReaches r idx)
    (hlock : s.session.unlocked = false) : exec c s = .next (s.noteRefused (r.addr idx) 1) := by
  rw [exec_of_rwlTarget hc, State.mgmtWrite_of_reached hreach (rowTarget_of_rwlTarget hc).takesRwl,
    s.writeRwl_of_locked r idx v hlock]

theorem rwlRow_accepted {c : Instr} {v : Word} (hc : c.rwlTarget = some (r, idx, v)) (hopen : s.rwlOpen r idx) :
    exec c s = .next (s.acceptRwl r idx v) := by
  have hrow := rowTarget_of_rwlTarget hc
  obtain ⟨hreach, hsess, hdef, hroom⟩ := hopen
  rw [exec_of_rwlTarget hc, State.mgmtWrite_of_reached hreach hrow.takesRwl,
    s.writeRwl_of_open r idx v hsess (s.rwlBusy_of_noTable r idx hdef hrow.not_table)
      (s.persist.overlayFull_of_lt _ hroom) (hrow.not_inert s)]

theorem RowTarget.acceptRwl_spec (h : RowTarget r idx) (s : State) :
    (s.acceptRwl r idx w).persist.clogNext = s.persist.clogNext + 1 ∧ (s.acceptRwl r idx w).session = s.session ∧
    (r = .MPI_NLAND ∨ r = .LEHOLD → (r.addr idx, w) ∈ (s.acceptRwl r idx w).persist.overlay) ∧
    (r ≠ .MPI_NLAND → r ≠ .LEHOLD → (s.acceptRwl r idx w).persist.overlay = s.persist.overlay) := by
  have hkeep := h.applyRwl_sameLog s w
  obtain ⟨hlog, hsess⟩ := s.acceptRwl_logged r idx w
  refine ⟨by rw [hlog, hkeep.clogNext], hsess.trans hkeep.session, fun hr => ?_, fun hn hl => ?_⟩
  · exact s.mem_overlay_acceptRwl r idx w (by obtain rfl | rfl := hr <;> rfl)
  · have hcmd : rwlCommand r = true := by
      obtain ⟨hcmd, -⟩ | ⟨hr, -⟩ | ⟨hr, -⟩ := h
      · exact hcmd
      · exact absurd hr hn
      · exact absurd hr hl
    rw [s.overlay_acceptRwl_of_command r idx w hcmd, hkeep.overlay]

/-- Settles O21: a performed write stores its fields; an RWL write, and each row that is one, passes the loader, which refuses it
with its record outside a session and else applies, records and keeps it. -/
theorem performedWriteTakesEffect : Obligations.PerformedWriteTakesEffect := by
  unfold Obligations.PerformedWriteTakesEffect
  intro s addr w
  refine ⟨fun r idx hup hr hacc => selectorWrite_stores w hup hr hacc, fun idx hup hacc hgo => tempoWrite_stores w hup hacc hgo,
    fun r idx hup hacc _ hrwl hlock => ?locked,
    fun r idx hup hacc hr hrwl hsess hdef hfull hin => configWrite_stores w hup hacc hr hrwl hsess hdef hfull hin,
    fun c r idx v hc => ⟨fun hreach hlock => ?rowLocked, fun hopen => ?rowAccepted, fun hdown => ?rowDown⟩,
    fun hdown => ?down⟩
  case locked =>
    exact ⟨_, by rw [exec_rwlWrite_of_reached w hup hacc hrwl, s.writeRwl_of_locked r idx w hlock],
      s.noteRefused_spec (r.addr idx) 1⟩
  case rowLocked => exact ⟨_, rwlRow_locked hc hreach hlock, (s.noteRefused_spec (r.addr idx) 1).2⟩
  case rowAccepted => exact ⟨_, rwlRow_accepted hc hopen, (rowTarget_of_rwlTarget hc).acceptRwl_spec v s⟩
  case rowDown => rw [exec_of_rwlTarget hc, State.mgmtWrite, s.atMgt_of_down _ hdown]
  case down =>
    exact ⟨by rw [exec_rwlWrite, s.atMgt_of_down _ hdown], fun p => by rw [exec_registerWrite, s.atMgt_of_down _ hdown]⟩

end Sys2Proof.Machine
end

section
/-! SUPPORT. Fields of a word: what a bit and a field read after a field is written. -/

namespace Sys2Proof.Machine

variable (w : Word) {hi lo v i : Nat}

theorem testBit_getBits : (getBits w hi lo).testBit i = (decide (i < hi - lo + 1) && w.getLsbD (lo + i)) := by
  rw [getBits, Nat.testBit_mod_two_pow, Nat.testBit_div_two_pow, BitVec.testBit_toNat, Nat.add_comm i]

/-- A field shows its own bits only. -/
theorem getBits_congr {u : Word} (h : ∀ j, lo ≤ j → j ≤ hi → u.getLsbD j = w.getLsbD j) (hle : lo ≤ hi) :
    getBits u hi lo = getBits w hi lo := by
  refine Nat.eq_of_testBit_eq fun i => ?_
  rw [testBit_getBits, testBit_getBits]
  by_cases hi' : i < hi - lo + 1
  · rw [h (lo + i) (by omega) (by omega)]
  · simp [hi']

/-- A bit outside the written field stays. -/
theorem getLsbD_setBits_of_outside (hle : lo ≤ hi) (h : i < lo ∨ hi < i) : (setBits w hi lo v).getLsbD i = w.getLsbD i := by
  by_cases h32 : i < 32
  · rw [setBits]
    simp only [BitVec.getLsbD_or, BitVec.getLsbD_and, BitVec.getLsbD_not, BitVec.getLsbD_ofNat, Nat.testBit_mul_two_pow,
      Nat.testBit_two_pow_sub_one, Nat.testBit_mod_two_pow, h32]
    obtain h | h := h
    · simp [show ¬ lo ≤ i by omega]
    · simp [show ¬ i - lo < hi - lo + 1 by omega]
  · rw [BitVec.getLsbD_of_ge _ _ (by omega), BitVec.getLsbD_of_ge _ _ (by omega)]

/-- A field that does not meet the written one stays. -/
theorem getBits_setBits_of_disjoint {hi' lo' : Nat} (hle : lo ≤ hi) (hle' : lo' ≤ hi') (h : hi' < lo ∨ hi < lo') :
    getBits (setBits w hi lo v) hi' lo' = getBits w hi' lo' :=
  getBits_congr w (fun _ _ _ => getLsbD_setBits_of_outside w hle (by omega)) hle'

end Sys2Proof.Machine
end

section
/-! SUPPORT. The tempo request: what a write of SYS_TEMPO with GO stores and answers (R36, R39, R43). -/

namespace Sys2Proof.Machine

variable (s : State) (w : Word) (target : Nat)

/-! ### The answers of R39 -/

/-- While a switch runs, and in quarantine, a GO does nothing. -/
theorem State.tempoGo_of_held (h : s.tempo.stat = .switching ∨ s.quarantined 3 = true) : s.tempoGo target = s := if_pos h

section

variable {s} {target} (hs : s.tempo.stat ≠ .switching) (hq : s.quarantined 3 = false)
include hs hq

/-- A GO that is looked at is answered by its target. -/
theorem State.tempoGo_of_heard :
    s.tempoGo target =
      if target = s.tempo.mode.toNat then { s with tempo := { s.tempo with stat := .done, reason := 0 } }
      else if target = 3 then s.tempoRefuse target 1
      else if !s.permits target then s.tempoRefuse target 2
      else { s with tempo := { s.tempo with stat := .deferred, reason := BitVec.ofNat 8 s.restReason,
                                            pendingTarget := BitVec.ofNat 2 target } } := by
  have hheld : ¬ (s.tempo.stat = .switching ∨ s.quarantined 3 = true) := by simp [hs, hq]
  exact if_neg hheld

theorem State.tempoGo_of_same (hm : target = s.tempo.mode.toNat) :
    s.tempoGo target = { s with tempo := { s.tempo with stat := .done, reason := 0 } } := by
  rw [State.tempoGo_of_heard hs hq, if_pos hm]

variable (hm : target ≠ s.tempo.mode.toNat)
include hm

theorem State.tempoGo_of_three (h3 : target = 3) : s.tempoGo target = s.tempoRefuse target 1 := by
  rw [State.tempoGo_of_heard hs hq, if_neg hm, if_pos h3]

variable (h3 : target ≠ 3)
include h3

theorem State.tempoGo_of_notPermitted (hp : s.permits target = false) : s.tempoGo target = s.tempoRefuse target 2 := by
  rw [State.tempoGo_of_heard hs hq, if_neg hm, if_neg h3, hp]
  rfl

theorem State.tempoGo_of_permitted (hp : s.permits target = true) :
    s.tempoGo target = { s with tempo := { s.tempo with stat := .deferred, reason := BitVec.ofNat 8 s.restReason,
                                                        pendingTarget := BitVec.ofNat 2 target } } := by
  rw [State.tempoGo_of_heard hs hq, if_neg hm, if_neg h3, hp]
  rfl

end

/-- A GO changes the tempo state and PWR's tap only. -/
theorem State.tempoGo_frame :
    s.tempoGo target = { s with tempo := (s.tempoGo target).tempo, recorder := (s.tempoGo target).recorder } := by
  by_cases hheld : s.tempo.stat = .switching ∨ s.quarantined 3 = true
  · rw [s.tempoGo_of_held target hheld]
  · rw [not_or, Bool.not_eq_true] at hheld
    rw [State.tempoGo_of_heard hheld.1 hheld.2]
    split
    · rfl
    · split
      · rfl
      · split <;> rfl

/-! ### The write -/

/-- SYS_TEMPO holds the TARGET written. -/
def State.withTarget (s : State) (w : Word) : State :=
  s.setReg .SYS_TEMPO [] (setBits (s.reg .SYS_TEMPO) 5 4 (getBits w 5 4))

theorem State.target_withTarget : getBits ((s.withTarget w).reg .SYS_TEMPO) 5 4 = getBits w 5 4 := by
  rw [State.withTarget, State.reg_setReg_self, getBits_setBits_self _ 5 4 _ (by decide) (by decide)]
  exact getBits_mod w 5 4

/-- The row is a write of SYS_TEMPO with its GO bit set. -/
theorem exec_tempoGo : exec (.tempoGo w) s = .next ((s.withTarget w).tempoGo (getBits w 5 4)) := by
  have hgo : (w ||| 0x100#32).getLsbD 8 = true := by simp
  have htarget : getBits (w ||| 0x100#32) 5 4 = getBits w 5 4 := by
    refine getBits_congr w (fun j h4 h5 => ?_) (by decide)
    have hj : j = 4 ∨ j = 5 := by omega
    obtain rfl | rfl := hj <;> simp
  change Host.Outcome.next (s.writeSysTempo (w ||| 0x100#32)) = _
  rw [State.writeSysTempo, hgo, htarget]
  rfl

/-- Settles O1: the write stores TARGET, and the request is answered by the cases of R39. -/
theorem tempoRequestIsAnswered : Obligations.TempoRequestIsAnswered := by
  unfold Obligations.TempoRequestIsAnswered
  intro s w
  have hframe := (s.withTarget w).tempoGo_frame (getBits w 5 4)
  have hreg (r : Reg) (idx : List Nat) :
      ((s.withTarget w).tempoGo (getBits w 5 4)).reg r idx = (s.withTarget w).reg r idx := by rw [hframe]; rfl
  refine ⟨_, exec_tempoGo s w, ?target, fun r idx h => ?others, ?frame, fun h => ?held, fun hs hq hm => ?same,
    fun hs hq hm h3 => ?unknown, fun hs hq hm h3 hp => ?notPermitted, fun hs hq hm h3 hp => ?deferred⟩
  case target => rw [hreg, s.target_withTarget w]
  case others => rw [hreg, State.withTarget, s.reg_setReg_ne _ _ _ _ _ h]
  case frame => rw [hframe]; rfl
  case held => rw [(s.withTarget w).tempoGo_of_held _ h]; exact ⟨rfl, rfl⟩
  case same => rw [State.tempoGo_of_same (s := s.withTarget w) hs hq hm]; exact ⟨rfl, rfl⟩
  case unknown => rw [State.tempoGo_of_three (s := s.withTarget w) hs hq hm h3, h3]; exact ⟨rfl, rfl⟩
  case notPermitted => rw [State.tempoGo_of_notPermitted (s := s.withTarget w) hs hq hm h3 hp]; exact ⟨rfl, rfl⟩
  case deferred =>
    have hfits : (BitVec.ofNat 2 (getBits w 5 4)).toNat = getBits w 5 4 := getBits_mod w 5 4
    rw [State.tempoGo_of_permitted (s := s.withTarget w) hs hq hm h3 hp]
    exact ⟨rfl, hfits, rfl, rfl, rfl, rfl⟩

end Sys2Proof.Machine
end

section
/-! SUPPORT. A tempo switch over a table of queues that is not in its canonical form (R41, R228). -/

namespace Sys2Proof.Machine

/-- A queue from planner 0's reference to MC0's reference port, with these items visible. -/
def referenceQueue (items : List PoolItem) : Queue :=
  { Queue.build { queue := 0, capacity := 2, producer := 0x0518, consumer := 0x0600, flag := false, cmdq := false, timeout := 0 }
    with items := items }

/-- A switch whose islands are all quiet, one reference item waiting for MC0 in queue 0, and queue 1 listed before queue 0: the
keys of the table fall. -/
def switchOverFallingKeys : State :=
  { State.reset with
    tempo := { Tempo.reset with stat := .switching }
    fabric := { Fabric.reset with
      queues := [(1, some (referenceQueue [])),
                 (0, some (referenceQueue [{ start := 0, words := [1], endSeq := 0, at_ := 0, flaws := [] }]))] } }

/-- Taking the item writes queue 0 before the entry of queue 1 and leaves the entry that stands behind it: the item is still in
the pool, and QF has pushed it again when the switch is done. -/
theorem stage_tempoDone_fallingKeys : switchOverFallingKeys.tempoDone.fabric.stage 0x0600 ≠ [] := by decide

theorem exec_tempoPllLocked_of_quiet {s : State} (hs : s.tempo.stat = .switching) (hq : s.allQuiet = true) :
    exec .tempoPllLocked s = .next s.tempoDone := by
  change Host.Outcome.next (if s.tempo.stat == .switching && s.allQuiet then s.tempoDone else s) = _
  rw [hs, hq]
  rfl

/-- Refutes O2: its clause on the dropped reference items asks nothing of the table of queues. Where the keys of that table fall,
which its canonical form excludes, taking an item from a queue leaves the item in the pool, and it is staged again after the drop. -/
theorem not_tempoSwitchRuns : ¬ Obligations.TempoSwitchRuns := by
  unfold Obligations.TempoSwitchRuns
  intro h
  obtain ⟨-, -, -, -, -, hdone, -⟩ := h switchOverFallingKeys
  have hquiet : switchOverFallingKeys.allQuiet = true := by decide
  obtain ⟨t, hexec, -, hempty⟩ := hdone rfl hquiet
  obtain rfl : switchOverFallingKeys.tempoDone = t :=
    Host.Outcome.next.inj ((exec_tempoPllLocked_of_quiet rfl hquiet).symm.trans hexec)
  exact stage_tempoDone_fallingKeys (hempty rfl 0 (by decide))

end Sys2Proof.Machine
end

section
/-! SUPPORT. RWK cells and the persistence lanes: what a stored value, a record and a served lane leave of a cell (R25, R629,
R630). -/

namespace Sys2Proof.Machine

variable (p : Persist) {a b : Nat} {w : Word}

/-! ### One cell -/

/-- An equal value is acknowledged without a write (R629). -/
theorem Persist.store_of_eq (h : (p.cell a).value = w) : p.store a w = p := if_pos h

theorem Persist.store_of_ne (h : (p.cell a).value ≠ w) :
    p.store a w =
      { p with rwk := p.rwk.set (rwkDefault a) a { value := w, wear := min ((p.cell a).wear + 1) (2 ^ 40 - 1) } } := if_neg h

/-- A value that differs is stored and counts one write (R629). -/
theorem Persist.cell_store_self (h : (p.cell a).value ≠ w) :
    (p.store a w).cell a = { value := w, wear := min ((p.cell a).wear + 1) (2 ^ 40 - 1) } := by
  rw [p.store_of_ne h]
  exact Tbl.get_set_self ..

theorem Persist.cell_store_ne (h : b ≠ a) : (p.store a w).cell b = p.cell b := by
  by_cases hv : (p.cell a).value = w
  · rw [p.store_of_eq hv]
  · rw [p.store_of_ne hv]
    exact get_set_default _ _ _ _ _ _ (Ne.symm h)

theorem Persist.store_frame : p.store a w = { p with rwk := (p.store a w).rwk } := by
  by_cases hv : (p.cell a).value = w
  · rw [p.store_of_eq hv]
  · rw [p.store_of_ne hv]

theorem RwkCell.worn_iff (c : RwkCell) : c.worn = true ↔ 10000000000 < c.wear := decide_eq_true_iff

/-- A worn cell stays worn. -/
theorem Persist.worn_store (h : (p.cell b).worn = true) : ((p.store a w).cell b).worn = true := by
  by_cases hb : b = a
  · subst hb
    by_cases hv : (p.cell b).value = w
    · rwa [p.store_of_eq hv]
    · rw [RwkCell.worn_iff] at h
      rw [p.cell_store_self hv, RwkCell.worn_iff]
      dsimp only
      omega
  · rwa [p.cell_store_ne hb]

theorem Persist.worn_storeLane (x : LaneItem) (h : (p.cell b).worn = true) : ((p.storeLane x).cell b).worn = true := by
  cases x with
  | rwk a w => exact p.worn_store h
  | held outs src => exact h

/-! ### Records leave the cells and the change log -/

/-- Two histories with the same RWK cells and the same count of change-log records. -/
structure Hist.SameCells (h g : Hist) : Prop where
  rwk : g.persist.rwk = h.persist.rwk
  clogNext : g.persist.clogNext = h.persist.clogNext

theorem Hist.SameCells.refl (h : Hist) : h.SameCells h := ⟨rfl, rfl⟩

theorem Hist.SameCells.trans {a b c : Hist} (h : a.SameCells b) (g : b.SameCells c) : a.SameCells c :=
  ⟨g.rwk.trans h.rwk, g.clogNext.trans h.clogNext⟩

theorem Hist.SameCells.cell {h g : Hist} (hs : h.SameCells g) (a : Nat) : g.persist.cell a = h.persist.cell a := by
  rw [Persist.cell, hs.rwk]
  rfl

theorem Hist.commit_sameCells (h : Hist) (r : TapRec) : h.SameCells (h.commit r) := ⟨rfl, rfl⟩

theorem Hist.hold_sameCells (h : Hist) (r : TapRec) : h.SameCells (h.hold r) := by
  unfold Hist.hold
  dsimp only
  split <;> exact ⟨rfl, rfl⟩

theorem Hist.submit_sameCells (h : Hist) (r : TapRec) : h.SameCells (h.submit r) := by
  have taken (g : Hist) (hg : h.SameCells g) : h.SameCells (if g.recorder.frozen then g.hold r else g.commit r) := by
    split
    · exact hg.trans (g.hold_sameCells r)
    · exact hg.trans (g.commit_sameCells r)
  refine taken _ ?_
  split <;> exact ⟨rfl, rfl⟩

theorem Hist.takeFrom_sameCells (h : Hist) (i : Nat) (r : TapRec) : h.SameCells (h.takeFrom i r) := by
  unfold Hist.takeFrom
  dsimp only
  refine .trans ?_ (Hist.submit_sameCells _ r)
  exact ⟨rfl, rfl⟩

theorem Hist.drainDue_sameCells (h : Hist) (n : Nat) : h.SameCells (h.drainDue n) := by
  induction n generalizing h with
  | zero => exact .refl h
  | succ n ih =>
    unfold Hist.drainDue
    split
    · exact .refl h
    · split
      · exact (h.takeFrom_sameCells _ _).trans (ih _)
      · exact .refl h

theorem Hist.place_sameCells (h : Hist) (r : TapRec) : h.SameCells (h.place r) := by
  unfold Hist.place
  split
  · exact (h.drainDue_sameCells 256).trans (Hist.submit_sameCells _ r)
  · exact ⟨rfl, rfl⟩

theorem Hist.wordsWorn_sameCells (h : Hist) (as : List Nat) : h.SameCells (as.foldl Hist.wordWorn h) := by
  induction as generalizing h with
  | nil => exact .refl h
  | cons a as ih => exact (h.place_sameCells _).trans (ih _)

/-- Serving the lanes leaves a worn cell worn. -/
theorem Hist.worn_serveLanes (h : Hist) (hw : (h.persist.cell a).worn = true) : (h.serveLanes.persist.cell a).worn = true := by
  have served (xs : List LaneItem) (r : Persist × List Nat) (hr : (r.1.cell a).worn = true) :
      ((xs.foldl (fun (r : Persist × List Nat) x => (r.1.storeLane x, r.2 ++ (r.1.wears x).toList)) r).1.cell a).worn = true := by
    induction xs generalizing r with
    | nil => exact hr
    | cons x xs ih => exact ih _ (r.1.worn_storeLane x hr)
  unfold Hist.serveLanes
  dsimp only
  rw [(Hist.wordsWorn_sameCells _ _).cell]
  exact served h.lanes (h.persist, []) hw

theorem Hist.worn_own (h : Hist) (code : Nat) (data : List Byte) (hw : (h.persist.cell a).worn = true) :
    ((h.own code data).persist.cell a).worn = true := by
  unfold Hist.own
  rw [(Hist.place_sameCells _ _).cell]
  exact h.worn_serveLanes hw

end Sys2Proof.Machine
end

section
/-! SUPPORT. The rows of the persistent array and of the wall clock (R25, R625, R629). -/

namespace Sys2Proof.Machine

variable {s : State} {a : Nat} {w : Word} {rest : List LaneItem}

/-! ### The oldest value on the lanes -/

theorem exec_persistLaneWrite (s : State) : exec .persistLaneWrite s = .next (s.withHist s.hist.storeOldest) := rfl

/-- A lane value that wears no cell out is stored without a record. -/
theorem Hist.storeOldest_of_unworn {h : Hist} {x : LaneItem} (hl : h.lanes = x :: rest) (hw : h.persist.wears x = none) :
    h.storeOldest = { h with persist := h.persist.storeLane x, lanes := rest } := by
  simp only [Hist.storeOldest, hl, hw]

/-- A lane value that wears its cell out is stored, and WORD_WORN follows (R630). -/
theorem Hist.storeOldest_of_worn {h : Hist} {x : LaneItem} (hl : h.lanes = x :: rest) (hw : h.persist.wears x = some a) :
    h.storeOldest = ({ h with persist := h.persist.storeLane x, lanes := rest } : Hist).own 0x0264 (leBytes 4 a) := by
  simp only [Hist.storeOldest, hl, hw]

theorem Persist.wears_rwk (p : Persist) (a : Nat) (w : Word) :
    p.wears (.rwk a w) = if ((p.store a w).cell a).worn && !(p.cell a).worn then some a else none := rfl

theorem laneWrite_of_equal (hl : s.lanes = .rwk a w :: rest) (hv : (s.persist.cell a).value = w) :
    exec .persistLaneWrite s = .next { s with lanes := rest } := by
  have hstore := s.persist.store_of_eq hv
  have hwears : s.persist.wears (.rwk a w) = none := by
    rw [Persist.wears_rwk, hstore, Bool.and_not_self, if_neg Bool.false_ne_true]
  rw [exec_persistLaneWrite, Hist.storeOldest_of_unworn (h := s.hist) hl hwears]
  change Host.Outcome.next { s with persist := s.persist.store a w, lanes := rest } = _
  rw [hstore]

theorem laneWrite_of_new (hl : s.lanes = .rwk a w :: rest) (hv : (s.persist.cell a).value ≠ w)
    (hwear : (s.persist.cell a).wear < 10000000000) :
    Completes .persistLaneWrite s fun t =>
      t.persist.cell a = { value := w, wear := (s.persist.cell a).wear + 1 } ∧
      (∀ b, b ≠ a → t.persist.cell b = s.persist.cell b) ∧ t.lanes = rest ∧ t.recorder = s.recorder ∧
      t = { s with lanes := t.lanes, persist := { s.persist with rwk := t.persist.rwk } } := by
  have hcell : (s.persist.store a w).cell a = { value := w, wear := (s.persist.cell a).wear + 1 } := by
    rw [s.persist.cell_store_self hv, Nat.min_eq_left (by omega)]
  have hunworn : ((s.persist.store a w).cell a).worn = false := by
    rw [hcell, Bool.eq_false_iff, ne_eq, RwkCell.worn_iff]
    exact Nat.not_lt.mpr hwear
  have hwears : s.persist.wears (.rwk a w) = none := by
    rw [Persist.wears_rwk, hunworn, Bool.false_and, if_neg Bool.false_ne_true]
  refine ⟨{ s with persist := s.persist.store a w, lanes := rest }, ?_, hcell, fun b hb => s.persist.cell_store_ne hb, rfl, rfl, ?_⟩
  · rw [exec_persistLaneWrite, Hist.storeOldest_of_unworn (h := s.hist) hl hwears]
    rfl
  · rw [s.persist.store_frame]

theorem laneWrite_of_wearing (hl : s.lanes = .rwk a w :: rest) (hv : (s.persist.cell a).value ≠ w)
    (hwear : (s.persist.cell a).wear = 10000000000) :
    Completes .persistLaneWrite s fun t =>
      (t.persist.cell a).worn = true ∧
      t.hist = ({ s.hist with persist := s.persist.store a w, lanes := rest } : Hist).own 0x0264 (leBytes 4 a) := by
  have hworn : ((s.persist.store a w).cell a).worn = true := by
    rw [s.persist.cell_store_self hv, RwkCell.worn_iff, hwear]
    dsimp only
    omega
  have hunworn : (s.persist.cell a).worn = false := by
    rw [Bool.eq_false_iff, ne_eq, RwkCell.worn_iff, hwear]
    exact Nat.lt_irrefl _
  have hwears : s.persist.wears (.rwk a w) = some a := by
    rw [Persist.wears_rwk, hworn, hunworn]
    rfl
  have hmoment := Hist.own_sameMoment { s.hist with persist := s.persist.store a w, lanes := rest } 0x0264 (leBytes 4 a)
  refine ⟨_, by rw [exec_persistLaneWrite, Hist.storeOldest_of_worn (h := s.hist) hl hwears], ?_, ?_⟩
  · exact Hist.worn_own _ _ _ hworn
  · exact s.hist_withHist _ ⟨hmoment.dev, hmoment.wsec, hmoment.wfrac, hmoment.up⟩

theorem laneWrite_of_held {o : BitVec 6} {src : List (FaultSrc × BitVec 6)} (hl : s.lanes = .held o src :: rest) :
    exec .persistLaneWrite s = .next { s with lanes := rest, persist := { s.persist with held := o, heldBy := src } } := by
  rw [exec_persistLaneWrite, Hist.storeOldest_of_unworn (h := s.hist) hl rfl]
  rfl

theorem laneWrite_of_none (hl : s.lanes = []) : exec .persistLaneWrite s = .next s := by
  have hnone : s.hist.storeOldest = s.hist := by
    have hl' : s.hist.lanes = [] := hl
    simp only [Hist.storeOldest, hl']
  rw [exec_persistLaneWrite, hnone]
  rfl

/-! ### The wall clock (R625) -/

theorem exec_aonRtcset (s : State) (w : Word) : exec (.aonRtcset w) s = .next (s.atMgt fun s => (s.writeRtcset w).2) := rfl

/-- The clock takes its new time with one change-log record. -/
theorem State.setClock_spec (s : State) (w : Word) :
    (s.setClock w).aon = { s.aon with rtcSec := w, rtcFrac := 0, rtcSub := 0, rtcInvalid := false } ∧
    (s.setClock w).persist.clogNext = s.persist.clogNext + 1 :=
  ⟨rfl, (Hist.submit_sameCells _ _).clogNext⟩

theorem rtcset_of_session (hup : s.mgtUp = true) (hs : s.session.unlocked = true) :
    Completes (.aonRtcset w) s fun t =>
      t.aon = { s.aon with rtcSec := w, rtcFrac := 0, rtcSub := 0, rtcInvalid := false } ∧
      t.persist.clogNext = s.persist.clogNext + 1 :=
  ⟨_, by rw [exec_aonRtcset, s.atMgt_of_up _ hup, State.writeRtcset, if_pos hs], s.setClock_spec w⟩

theorem rtcset_of_locked (hup : s.mgtUp = true) (hs : s.session.unlocked = false) :
    Completes (.aonRtcset w) s fun t => t.aon = s.aon ∧ t.hist = s.hist.own 0x0246 [0x08, 0x00, 0x02, 0x00, 0x01] :=
  ⟨s.noteRefused 0x020008 1, by rw [exec_aonRtcset, s.atMgt_of_up _ hup, State.writeRtcset, hs, if_neg Bool.false_ne_true], rfl,
    (s.noteRefused_spec 0x020008 1).2.1⟩

end Sys2Proof.Machine
end

section
/-! SUPPORT. The tamper watch with input 0 in the normally closed mode alone (R627). -/

namespace Sys2Proof.Machine

variable {s : State} {before pulse : BitVec 5}

theorem exec_tamperSample (before pulse : BitVec 5) (s : State) :
    exec (.tamperSample before pulse) s = .next (if s.tamperRuns then s.tamperSample before pulse else s) := rfl

/-- TAMPOUT's pulse of 61 µs has begun. -/
def State.pulsed (s : State) : State := { s with aon := { s.aon with pulseUs := 61 } }

/-- Tamper input `i` stands as its sample leaves it. -/
def State.withTamper (s : State) (i : Nat) (t : Tamper) : State :=
  { s with aon := { s.aon with tampers := s.aon.tampers.set Tamper.reset i t } }

theorem State.tamper_withTamper (s : State) (i : Nat) (t : Tamper) :
    (s.withTamper i t).aon.tampers.get Tamper.reset i = t := Tbl.get_set_self ..

/-- Without the vault-watch, an enabled input with its pad, or a working AON, no sample is taken. -/
theorem tamperSample_of_idle
    (h : s.aon.vaultWatch = false ∨ s.AON_TAMPCFG_MODE = 0 ∨ s.aon.tampPads = 0 ∨ s.quarantined 23 = true) :
    exec (.tamperSample before pulse) s = .next s := by
  have hoff : s.tamperRuns = false := by
    unfold State.tamperRuns
    obtain h | h | h | h := h
    · simp [h]
    · simp [State.tamperOn, h]
    · simp [State.tamperOn, h]
    · simp [h]
  rw [exec_tamperSample, hoff, if_neg Bool.false_ne_true]

/-- An AON entry leaves the tamper inputs and the pulse. -/
theorem State.aonNote_aon (s : State) (code : Nat) (data : List Byte) :
    (s.aonNote code data).aon.tampers = s.aon.tampers ∧ (s.aonNote code data).aon.pulseUs = s.aon.pulseUs ∧
    (s.aonNote code data).regs = s.regs := by
  unfold State.aonNote
  split
  · exact ⟨rfl, rfl, rfl⟩
  · unfold Aon.logEntry
    dsimp only
    split <;> exact ⟨rfl, rfl, rfl⟩

theorem State.aonNote_of_up (s : State) (code : Nat) (data : List Byte) (h : s.aon.mgtUp = true) :
    s.aonNote code data = s.note code data := if_pos h

/-- The sample of input `i`, and the entry's data when it makes one. -/
def State.tamperLook (s : State) (before pulse : BitVec 5) (i : Nat) : Tamper × Option (List Byte) :=
  (s.aon.tampers.get Tamper.reset i).sample s.aon.rtcSec.toNat i
    (tamperNormal (s.AON_TAMPCFG_MODE / 4 ^ i % 4) (before.getLsbD i) (pulse.getLsbD i))

theorem State.tamperInput_of_quiet {i : Nat} {t : Tamper} (h : s.tamperOn i = true)
    (hlook : s.tamperLook before pulse i = (t, none)) : s.tamperInput before pulse i = s.withTamper i t := by
  unfold State.tamperLook at hlook
  simp only [State.tamperInput, h, Bool.not_true, Bool.false_eq_true, if_false, hlook]
  rfl

theorem State.tamperInput_of_change {i : Nat} {t : Tamper} {data : List Byte} (h : s.tamperOn i = true)
    (hlook : s.tamperLook before pulse i = (t, some data)) :
    s.tamperInput before pulse i = (s.withTamper i t).aonNote 0x0020 data := by
  unfold State.tamperLook at hlook
  simp only [State.tamperInput, h, Bool.not_true, Bool.false_eq_true, if_false, hlook]
  rfl

theorem State.tamperInput_of_off (i : Nat) (h : s.tamperOn i = false) : s.tamperInput before pulse i = s := by
  simp [State.tamperInput, h]

/-- With MODE of input 0 alone set, no other input is sampled. -/
theorem State.tamperOn_of_modeOne {i : Nat} (hmode : s.AON_TAMPCFG_MODE = 1) (hi : i ≠ 0) : s.tamperOn i = false := by
  have hzero : 1 / 4 ^ i = 0 := Nat.div_eq_of_lt (Nat.one_lt_pow hi (by decide))
  simp [State.tamperOn, hmode, hzero]

theorem State.tamperInput_mode (s : State) (before pulse : BitVec 5) (i : Nat) :
    (s.tamperInput before pulse i).AON_TAMPCFG_MODE = s.AON_TAMPCFG_MODE := by
  have hregs : (s.tamperInput before pulse i).regs = s.regs := by
    by_cases h : s.tamperOn i = true
    · obtain ⟨⟨t, data⟩, hlook⟩ : ∃ r, s.tamperLook before pulse i = r := ⟨_, rfl⟩
      cases data with
      | none => rw [State.tamperInput_of_quiet h hlook, State.withTamper]
      | some data => rw [State.tamperInput_of_change h hlook, (State.aonNote_aon _ _ _).2.2, State.withTamper]
    · rw [State.tamperInput_of_off i (Bool.eq_false_iff.mpr h)]
  simp only [State.AON_TAMPCFG_MODE, State.reg, hregs]

/-- A sample in that mode is the pulse and the look at input 0. -/
theorem State.tamperSample_of_modeOne (hmode : s.AON_TAMPCFG_MODE = 1) :
    s.tamperSample before pulse = s.pulsed.tamperInput before pulse 0 := by
  have hother {u : State} (hu : u.AON_TAMPCFG_MODE = 1) (i : Nat) (hi : i ≠ 0) : u.tamperInput before pulse i = u :=
    State.tamperInput_of_off i (State.tamperOn_of_modeOne hu hi)
  have hlook := (s.pulsed.tamperInput_mode before pulse 0).trans hmode
  have hinputs : List.range 5 = [0, 1, 2, 3, 4] := rfl
  simp only [State.tamperSample, hinputs, List.foldl_cons, List.foldl_nil]
  change State.tamperInput (State.tamperInput (State.tamperInput (State.tamperInput
    (s.pulsed.tamperInput before pulse 0) before pulse 1) before pulse 2) before pulse 3) before pulse 4 = _
  rw [hother hlook 1 (by decide), hother hlook 2 (by decide), hother hlook 3 (by decide), hother hlook 4 (by decide)]

/-- The first sample of a state that is not the accepted one. -/
theorem Tamper.sample_of_first {t : Tamper} (ha : t.alarm = false) (hp : t.pend = false) (now i : Nat) :
    t.sample now i false = ({ t with pend := true }, none) := by
  simp [Tamper.sample, ha, hp]

section

variable (hwatch : s.aon.vaultWatch = true) (hq : s.quarantined 23 = false) (hpad : s.aon.tampPads.getLsbD 0 = true)
  (hmode : s.AON_TAMPCFG_MODE = 1) (hpulse : pulse.getLsbD 0 = true)
include hwatch hq hpad hmode hpulse

/-- A sample that looks at input 0 alone. -/
theorem tamperSample_of_watched :
    exec (.tamperSample before pulse) s = .next (s.pulsed.tamperInput before pulse 0) ∧ s.pulsed.tamperOn 0 = true ∧
    s.pulsed.tamperLook before pulse 0 = (s.aon.tampers.get Tamper.reset 0).sample s.aon.rtcSec.toNat 0 false := by
  have hon : s.tamperOn 0 = true := by simp [State.tamperOn, hmode, hpad]
  have hruns : s.tamperRuns = true := by
    simp only [State.tamperRuns, hwatch, hq, Bool.not_false, Bool.true_and, List.any_eq_true]
    exact ⟨0, by decide, hon⟩
  have hnormal : tamperNormal (s.AON_TAMPCFG_MODE / 4 ^ 0 % 4) (before.getLsbD 0) (pulse.getLsbD 0) = false := by
    rw [hmode, hpulse]
    rfl
  refine ⟨by rw [exec_tamperSample, if_pos hruns, State.tamperSample_of_modeOne hmode], hon, ?_⟩
  rw [← hnormal]
  rfl

theorem tamperSample_first (ha : (s.aon.tampers.get Tamper.reset 0).alarm = false)
    (hp : (s.aon.tampers.get Tamper.reset 0).pend = false) :
    Completes (.tamperSample before pulse) s fun t =>
      t.aon.tampers.get Tamper.reset 0 = { s.aon.tampers.get Tamper.reset 0 with pend := true } ∧ t.aon.pulseUs = 61 ∧
      t.recorder = s.recorder := by
  obtain ⟨hexec, hon, hlook⟩ := tamperSample_of_watched (before := before) hwatch hq hpad hmode hpulse
  rw [Tamper.sample_of_first ha hp] at hlook
  exact ⟨_, by rw [hexec, State.tamperInput_of_quiet hon hlook], s.pulsed.tamper_withTamper 0 _, rfl, rfl⟩

theorem tamperSample_second
    (ht : s.aon.tampers.get Tamper.reset 0 = { alarm := false, pend := true, entries := [], excess := 0 }) :
    Completes (.tamperSample before pulse) s fun t =>
      t.aon.tampers.get Tamper.reset 0 = { alarm := true, pend := false, entries := [s.aon.rtcSec.toNat], excess := 0 } ∧
      t.aon.pulseUs = 61 ∧
      (s.aon.mgtUp = true → t.recorder = s.recorder.put s.dev 0 0x0020 [0, 1, 0, 0]) := by
  obtain ⟨hexec, hon, hlook⟩ := tamperSample_of_watched (before := before) hwatch hq hpad hmode hpulse
  have hsample : s.pulsed.tamperLook before pulse 0 =
      ({ alarm := true, pend := false, entries := [s.aon.rtcSec.toNat], excess := 0 }, some [0, 1, 0, 0]) := by
    rw [hlook, ht]
    rfl
  refine ⟨_, by rw [hexec, State.tamperInput_of_change hon hsample], ?_, (State.aonNote_aon _ _ _).2.1, fun hup => ?_⟩
  · rw [(State.aonNote_aon _ _ _).1, State.tamper_withTamper]
  · rw [State.aonNote_of_up (s := s.pulsed.withTamper 0 _) _ _ hup]
    rfl

end

/-- Settles O19: each row of the array, of the clock and of the tamper watch does what its condition allows. -/
theorem persistentStateAndClockAreKept : Obligations.PersistentStateAndClockAreKept := by
  unfold Obligations.PersistentStateAndClockAreKept
  intro s
  refine ⟨fun a w rest => laneWrite_of_equal, fun a w rest => laneWrite_of_new, fun a w rest => laneWrite_of_wearing,
    fun o src rest => laneWrite_of_held, laneWrite_of_none, fun hup => ?dtmark, fun hup => ?dtmarkDown,
    fun hup => ?rtcsec, fun hup => ?wearlo, fun hup => ?down, fun w => rtcset_of_session, fun w => rtcset_of_locked,
    fun before pulse => tamperSample_of_idle, fun before pulse => tamperSample_second, fun before pulse => tamperSample_first⟩
  case dtmark =>
    change Host.Outcome.next s.storeDtmark = _
    rw [State.storeDtmark, if_pos hup]
  case dtmarkDown =>
    change Host.Outcome.next s.storeDtmark = _
    rw [State.storeDtmark, hup, if_neg Bool.false_ne_true]
  case rtcsec =>
    change Host.Outcome.next (s.atMgt State.latchRtc) = _
    rw [s.atMgt_of_up _ hup]
    rfl
  case wearlo =>
    change Host.Outcome.next (s.atMgt State.latchWear) = _
    rw [s.atMgt_of_up _ hup]
    rfl
  case down =>
    exact ⟨congrArg Host.Outcome.next (s.atMgt_of_down State.latchRtc hup),
      congrArg Host.Outcome.next (s.atMgt_of_down State.latchWear hup)⟩

end Sys2Proof.Machine
end

section
/-! SUPPORT. What an event, a stop and a discard leave of a planner's moves. -/

namespace Sys2Proof.Machine

/-- Two pictures of a planner with the same running move, held moves, motion and present state. -/
structure Planner.SameMoves (x y : Planner) : Prop where
  running : y.running = x.running
  held : y.held = x.held
  motion : y.motion = x.motion
  kin : y.kin = x.kin

theorem Planner.SameMoves.refl (x : Planner) : x.SameMoves x := ⟨rfl, rfl, rfl, rfl⟩

theorem Planner.SameMoves.trans {x y z : Planner} (h : x.SameMoves y) (g : y.SameMoves z) : x.SameMoves z :=
  ⟨g.running.trans h.running, g.held.trans h.held, g.motion.trans h.motion, g.kin.trans h.kin⟩

variable (m : Mpi) (p : Nat) (mv : Move) (status : Nat)

/-- An updated planner is what the update makes of it, its STATE following. -/
theorem Mpi.planner_upd (f : Planner → Planner) :
    (m.upd p f).planner p = { f (m.planner p) with stat := (f (m.planner p)).phase } := by
  simp [Mpi.upd, Mpi.planner, Mpi.setPlanner]

theorem Mpi.planner_note (code : Nat) (data : List Byte) : (m.note code data).planner p = m.planner p := rfl

/-- An event shows in LAST, and the time of a recorded refusal is kept (R264, R298). -/
theorem Mpi.planner_event (tag : BitVec 8) (kind : BitVec 4) (id : Word) :
    ∃ at_, (m.event p tag kind status id).planner p =
      { m.planner p with last := BitVec.ofNat 8 status, refusedAt := at_, stat := (m.planner p).phase } := by
  unfold Mpi.event
  rw [apply_ite (Mpi.planner · p), Mpi.planner_note, ite_self, Mpi.planner_upd]
  exact ⟨_, rfl⟩

theorem Mpi.event_spec (tag : BitVec 8) (kind : BitVec 4) (id : Word) :
    (m.planner p).SameMoves ((m.event p tag kind status id).planner p) ∧
    ((m.event p tag kind status id).planner p).last = BitVec.ofNat 8 status := by
  obtain ⟨at_, h⟩ := m.planner_event p status tag kind id
  rw [h]
  exact ⟨⟨rfl, rfl, rfl, rfl⟩, rfl⟩

theorem Mpi.moveEvent_same : (m.planner p).SameMoves ((m.moveEvent p mv status).planner p) := (m.event_spec p status _ _ _).1

theorem Mpi.moveEvent_last : ((m.moveEvent p mv status).planner p).last = BitVec.ofNat 8 status := (m.event_spec p status _ _ _).2

theorem Mpi.moveEvents_same (mvs : List Move) :
    (m.planner p).SameMoves ((mvs.foldl (fun m mv => m.moveEvent p mv status) m).planner p) := by
  induction mvs generalizing m with
  | nil => exact .refl _
  | cons mv mvs ih => exact (m.moveEvent_same p mv status).trans (ih _)

/-- The end of a run of the fusion engine leaves the planners. -/
theorem Mpi.planner_runMoveLost : m.runMoveLost.planner p = m.planner p := by
  unfold Mpi.runMoveLost Mpi.runMoveAborted
  split
  · split <;> rfl
  · rfl

/-- No move is held after a discard, and the motion goes on (R264). -/
theorem Mpi.discardHeld_spec :
    ((m.discardHeld p).planner p).motion = (m.planner p).motion ∧ ((m.discardHeld p).planner p).held = [] := by
  have hevents := Mpi.moveEvents_same (m.upd p fun x => { x with held := [] }) p 0x09 (m.planner p).held
  rw [Mpi.planner_upd] at hevents
  unfold Mpi.discardHeld
  dsimp only
  split
  · rw [Mpi.planner_runMoveLost]
    exact ⟨hevents.motion, hevents.held⟩
  · exact ⟨hevents.motion, hevents.held⟩

/-- A velocity move that is not at rest stops along the pieces of R269, to end with the status (R261, R291). -/
theorem Mpi.stopWith_of_velocity {vt a d j : Int} (hm : (m.planner p).motion = .velocity vt a d j)
    (hv : (m.planner p).kin.vel ≠ 0) :
    m.stopWith p status false = m.upd p fun x =>
      { x with motion := .plan x.kin 0 0 (stopPieces x.kin (m.env.MPI_PLDMAX p) (m.env.MPI_PLJMAX p))
                 (.stopped (BitVec.ofNat 8 status)) } := by
  have hmoves : ¬((m.planner p).kin.vel = 0 ∧ (m.planner p).kin.acc = 0) := fun h => hv h.1
  simp only [Mpi.stopWith, Mpi.stopAfresh, hm, if_neg hmoves, Bool.false_eq_true, if_false]

/-- A stop answered by its command: the stop's plan runs, nothing is held, and LAST shows the status (R261, R264). -/
theorem Mpi.stopped_spec {vt a d j : Int} (hm : (m.planner p).motion = .velocity vt a d j) (hv : (m.planner p).kin.vel ≠ 0)
    (last : Nat) :
    let x := (((m.stopWith p status false).discardHeld p).moveEvent p mv last).planner p
    x.motion = .plan (m.planner p).kin 0 0 (stopPieces (m.planner p).kin (m.env.MPI_PLDMAX p) (m.env.MPI_PLJMAX p))
      (.stopped (BitVec.ofNat 8 status)) ∧ x.held = [] ∧ x.last = BitVec.ofNat 8 last := by
  obtain ⟨hdiscard, hnone⟩ := (m.stopWith p status false).discardHeld_spec p
  have hsame := ((m.stopWith p status false).discardHeld p).moveEvent_same p mv last
  refine ⟨hsame.motion.trans (hdiscard.trans ?_), hsame.held.trans hnone, Mpi.moveEvent_last ..⟩
  rw [m.stopWith_of_velocity p status hm hv, Mpi.planner_upd]

end Sys2Proof.Machine
end

section
/-! SUPPORT. Move commands: what an item of R260 says, which check of R263 refuses it, and what a command does. -/

namespace Sys2Proof.Machine

/-! ### The item (R260) -/

/-- A move command item with no POISON and its reserved last word 0. -/
def moveCmd (w0 w1 w2 w3 w4 w5 w6 : Word) : Item := { words := [w0, w1, w2, w3, w4, w5, w6, 0], poison := false }

/-- The move that the words lay out, of a kind and with a target or speed. -/
def laidOut (w0 w2 w3 w4 w5 w6 : Word) (k : BitVec 4) (arg : Int) : Move :=
  { tag := w0.setWidth 8, kind := k, blend := w0.getLsbD 12, revok := w0.getLsbD 13, quick := w0.getLsbD 14,
    table := getBits w0 20 16, arg := arg, vmax := w2, amax := w3, dmax := w4, jmax := w5, id := w6, fusion := false }

variable (w0 w1 w2 w3 w4 w5 w6 : Word) {k : Nat}

theorem getBits_kind_setBits (hk : k < 16) : getBits (setBits w0 11 8 k) 11 8 = k := by
  rw [getBits_setBits_self w0 11 8 k (by decide) (by decide)]
  omega

/-- The item of a row is laid out with the row's KIND. -/
theorem parseMove_itemWithKind (hk : k < 16) :
    parseMove (itemWithKind (moveCmd w0 w1 w2 w3 w4 w5 w6) k).words =
      laidOut w0 w2 w3 w4 w5 w6 (BitVec.ofNat 4 k) w1.toInt := by
  have htag : BitVec.ofNat 8 (getBits (setBits w0 11 8 k) 7 0) = w0.setWidth 8 := by
    rw [getBits_setBits_of_disjoint w0 (by decide) (by decide) (by decide)]
    apply BitVec.eq_of_toNat_eq
    simp [getBits]
  have hkind := getBits_kind_setBits w0 hk
  have htable : getBits (setBits w0 11 8 k) 20 16 = getBits w0 20 16 :=
    getBits_setBits_of_disjoint w0 (by decide) (by decide) (by decide)
  have hflag (i : Nat) (hi : 11 < i) : (setBits w0 11 8 k).getLsbD i = w0.getLsbD i :=
    getLsbD_setBits_of_outside w0 (by decide) (.inr hi)
  simp only [parseMove, itemWithKind, moveCmd, List.getD_cons_zero, List.getD_cons_succ, laidOut, htag, hkind, htable,
    hflag 12 (by decide), hflag 13 (by decide), hflag 14 (by decide), sInt]

/-- Check 1 of R263 passes the item of a row whose reserved fields are 0. -/
theorem badMove_itemWithKind (h1 : 1 ≤ k) (h6 : k ≤ 6) (hres : getBits w0 31 21 = 0) (h15 : w0.getLsbD 15 = false) :
    badMove (itemWithKind (moveCmd w0 w1 w2 w3 w4 w5 w6) k) = false := by
  have hkind := getBits_kind_setBits w0 (show k < 16 by omega)
  have hres' : getBits (setBits w0 11 8 k) 31 21 = 0 := by
    rw [getBits_setBits_of_disjoint w0 (by decide) (by decide) (by decide), hres]
  have h15' : (setBits w0 11 8 k).getLsbD 15 = false := by
    rw [getLsbD_setBits_of_outside w0 (by decide) (.inr (by decide)), h15]
  have hnone : (k == 0) = false := beq_eq_false_iff_ne.mpr (by omega)
  have hknown : decide (6 < k) = false := decide_eq_false (by omega)
  simp only [badMove, itemWithKind, moveCmd, List.getD_cons_zero, List.getD_cons_succ, hkind, hres', h15', hnone, hknown]
  rfl

/-! ### The checks of R263 -/

variable (m : Mpi) (p : Nat) (mv : Move)

theorem Mpi.checkMove_of_locked (h : (m.planner p).pwrLock = true) : m.checkMove p mv = 0x10 := by
  simp [Mpi.checkMove, h]

section

variable {m p mv} (hp : (m.planner p).pwrLock = false) (hs : (m.planner p).stalled = false)
  (hcar : m.env.planKind p = 1 → m.fusion.stat = .tracking ∧ (m.planner p).degLock = false)
include hp hs hcar

/-- With no lock, and a car axis whose position is TRACKING, only the soft limits and the table can refuse. -/
theorem Mpi.checkMove_of_unlocked :
    m.checkMove p mv =
      if (mv.kind == 1 || mv.kind == 2) &&
          (mv.arg < sInt (m.env.reg .MPI_PLSOFTLO [p]) || sInt (m.env.reg .MPI_PLSOFTHI [p]) < mv.arg) then 0x12
      else if mv.kind == 4 && !m.env.tableValid p mv.table then 0x13
      else 0 := by
  have htrack : (!mv.fusion && m.env.planKind p == 1 && (m.fusion.stat != .tracking || (m.planner p).degLock)) = false := by
    by_cases hk : m.env.planKind p = 1
    · obtain ⟨hst, hdeg⟩ := hcar hk
      simp [hst, hdeg]
    · simp [hk]
  simp only [Mpi.checkMove, hp, hs, htrack, Bool.or_self, Bool.false_eq_true, if_false]

theorem Mpi.checkMove_of_within (hk : mv.kind = 1 ∨ mv.kind = 2) (hlo : (m.env.reg .MPI_PLSOFTLO [p]).toInt ≤ mv.arg)
    (hhi : mv.arg ≤ (m.env.reg .MPI_PLSOFTHI [p]).toInt) : m.checkMove p mv = 0 := by
  rw [Mpi.checkMove_of_unlocked hp hs hcar]
  obtain hk | hk := hk <;> simp [hk, sInt, Int.not_lt.mpr hlo, Int.not_lt.mpr hhi]

theorem Mpi.checkMove_of_outside (hk : mv.kind = 1 ∨ mv.kind = 2)
    (hout : mv.arg < (m.env.reg .MPI_PLSOFTLO [p]).toInt ∨ (m.env.reg .MPI_PLSOFTHI [p]).toInt < mv.arg) :
    m.checkMove p mv = 0x12 := by
  rw [Mpi.checkMove_of_unlocked hp hs hcar, if_pos]
  simp only [Bool.and_eq_true, Bool.or_eq_true, beq_iff_eq, decide_eq_true_eq]
  exact ⟨hk, hout⟩

theorem Mpi.checkMove_of_velocity (hk : mv.kind = 3) : m.checkMove p mv = 0 := by
  rw [Mpi.checkMove_of_unlocked hp hs hcar, hk]
  rfl

theorem Mpi.checkMove_of_table (hk : mv.kind = 4) :
    m.checkMove p mv = if m.env.tableValid p mv.table then 0 else 0x13 := by
  rw [Mpi.checkMove_of_unlocked hp hs hcar, hk]
  cases m.env.tableValid p mv.table <;> rfl

end

/-! ### The command -/

/-- The target or speed of a command of a kind: RELATIVE adds its distance to the last target (R261). -/
def Planner.argOf (x : Planner) (k : Nat) (w1 : Word) : Int := if k = 2 then sat32 (w1.toInt + x.lastTarget) else w1.toInt

section

variable (hres : getBits w0 31 21 = 0) (h15 : w0.getLsbD 15 = false)
include hres h15

/-- A move is held unless a check refuses it (R261, R263). -/
theorem Mpi.command_of_move (h1 : 1 ≤ k) (h4 : k ≤ 4) :
    m.command p (itemWithKind (moveCmd w0 w1 w2 w3 w4 w5 w6) k) =
      let c := laidOut w0 w2 w3 w4 w5 w6 (BitVec.ofNat 4 k) ((m.planner p).argOf k w1)
      if m.checkMove p c ≠ 0 then m.moveEvent p c (m.checkMove p c) else m.upd p fun x => { x with held := x.held ++ [c] } := by
  have hparse := parseMove_itemWithKind w0 w1 w2 w3 w4 w5 w6 (show k < 16 by omega)
  have hgood := badMove_itemWithKind w0 w1 w2 w3 w4 w5 w6 h1 (show k ≤ 6 by omega) hres h15
  have hkinds : k = 1 ∨ k = 2 ∨ k = 3 ∨ k = 4 := by omega
  unfold Mpi.command
  rw [hparse, hgood]
  obtain rfl | rfl | rfl | rfl := hkinds <;> rfl

theorem Mpi.command_of_stop :
    m.command p (itemWithKind (moveCmd w0 w1 w2 w3 w4 w5 w6) 5) =
      ((m.stopWith p 0x04 (w0.getLsbD 14)).discardHeld p).moveEvent p (laidOut w0 w2 w3 w4 w5 w6 5 w1.toInt) 0x09 := by
  have hparse := parseMove_itemWithKind w0 w1 w2 w3 w4 w5 w6 (show 5 < 16 by decide)
  have hgood := badMove_itemWithKind (k := 5) w0 w1 w2 w3 w4 w5 w6 (by decide) (by decide) hres h15
  unfold Mpi.command
  rw [hparse, hgood]
  rfl

theorem Mpi.command_of_abort :
    m.command p (itemWithKind (moveCmd w0 w1 w2 w3 w4 w5 w6) 6) =
      m.abortMove p (laidOut w0 w2 w3 w4 w5 w6 6 w1.toInt) := by
  have hparse := parseMove_itemWithKind w0 w1 w2 w3 w4 w5 w6 (show 6 < 16 by decide)
  have hgood := badMove_itemWithKind (k := 6) w0 w1 w2 w3 w4 w5 w6 (by decide) (by decide) hres h15
  unfold Mpi.command
  rw [hparse, hgood]
  rfl

end

/-! ### ABORT (R261, R264) -/

variable {mv}

/-- An ABORT that names the running move stops it, and the held moves go with it. -/
theorem Mpi.abortMove_of_running {r c : Move} (hr : (m.planner p).running = some r) (hid : r.id = c.id) :
    m.abortMove p c = ((m.stopWith p 0x05 c.quick).discardHeld p).moveEvent p c 0x05 := by
  simp [Mpi.abortMove, hr, hid]

/-- An ABORT that names the oldest held move removes that move alone. -/
theorem Mpi.abortMove_of_head {c : Move} {rest : List Move} (hr : (m.planner p).running = none)
    (hh : (m.planner p).held = mv :: rest) (hid : mv.id = c.id) (hany : c.id ≠ 0xFFFFFFFF) (hf : mv.fusion = false) :
    ((m.abortMove p c).planner p).held = rest ∧ ((m.abortMove p c).planner p).last = 0x05 := by
  have hfind : ((m.planner p).held.find? fun mv => mv.id == c.id && c.id != 0xFFFFFFFF) = some mv := by
    rw [hh]
    exact List.find?_cons_of_pos (by rw [hid, beq_self_eq_true, Bool.true_and]; exact bne_iff_ne.mpr hany)
  have habort : m.abortMove p c =
      ((m.upd p fun x => { x with held := x.held.erase mv }).moveEvent p mv 0x09).moveEvent p c 0x05 := by
    simp only [Mpi.abortMove, hr, hfind, hf, Bool.false_eq_true, if_false]
  rw [habort]
  refine ⟨?_, Mpi.moveEvent_last ..⟩
  rw [(Mpi.moveEvent_same ..).held, (Mpi.moveEvent_same ..).held, Mpi.planner_upd]
  simp [hh]

theorem Mpi.abortMove_of_none {c : Move} (hr : (m.planner p).running = none) (hh : (m.planner p).held = []) :
    m.abortMove p c = m.moveEvent p c 0x06 := by
  simp [Mpi.abortMove, hr, hh]

end Sys2Proof.Machine
end

section
/-! SUPPORT. The rows of the move commands. -/

namespace Sys2Proof.Machine

variable {s : State} {p : Fin 8} {c : Instr} {k : Nat} {it : Item}

theorem Completes.imp {P Q : State → Prop} (h : Completes c s P) (hpq : ∀ t, P t → Q t) : Completes c s Q :=
  Exists.imp (fun t ⟨he, hp⟩ => ⟨he, hpq t hp⟩) h

/-- The row `c` brings an item of a kind to planner `p`. -/
def IsMoveRow (c : Instr) (p : Fin 8) (k : Nat) (it : Item) : Prop := ∀ s, exec c s = .next (s.moveItem p.val k it)

/-- Planner `p` takes a command item (R40, R262). -/
structure State.TakesMove (s : State) (p : Fin 8) : Prop where
  kind : s.planKind p.val ≠ 0
  quiet : s.quiet .mpi = false
  switching : s.switching = false
  depth : (s.mpi.planner p.val).depth < 16

/-- Each of the six rows brings its kind of item. -/
theorem isMoveRow_of_mem
    (h : c ∈ [Instr.movePosition p it, .moveRelative p it, .moveVelocity p it, .moveTable p it, .moveStop p it, .moveAbort p it]) :
    ∃ k, IsMoveRow c p k it := by
  simp only [List.mem_cons, List.not_mem_nil, or_false] at h
  obtain rfl | rfl | rfl | rfl | rfl | rfl := h
  · exact ⟨1, fun _ => rfl⟩
  · exact ⟨2, fun _ => rfl⟩
  · exact ⟨3, fun _ => rfl⟩
  · exact ⟨4, fun _ => rfl⟩
  · exact ⟨5, fun _ => rfl⟩
  · exact ⟨6, fun _ => rfl⟩

/-- The four rows whose command is a move. -/
theorem isMoveRow_of_mem_moves
    (h : c ∈ [Instr.movePosition p it, .moveRelative p it, .moveVelocity p it, .moveTable p it]) :
    ∃ k, 1 ≤ k ∧ k ≤ 4 ∧ IsMoveRow c p k it := by
  simp only [List.mem_cons, List.not_mem_nil, or_false] at h
  obtain rfl | rfl | rfl | rfl := h
  · exact ⟨1, by decide, by decide, fun _ => rfl⟩
  · exact ⟨2, by decide, by decide, fun _ => rfl⟩
  · exact ⟨3, by decide, by decide, fun _ => rfl⟩
  · exact ⟨4, by decide, by decide, fun _ => rfl⟩

/-- A planner that takes no item leaves the row without effect. -/
theorem moveRow_waits (hrow : IsMoveRow c p k it)
    (h : 16 ≤ (s.mpi.planner p.val).depth ∨ s.switching = true ∨ s.quiet .mpi = true ∨ s.planKind p.val = 0) :
    exec c s = .next s := by
  rw [hrow s, State.moveItem, State.runMpi, if_neg]
  intro htakes
  simp only [Bool.and_eq_true, bne_iff_ne, Bool.not_eq_true', decide_eq_true_eq] at htakes
  obtain ⟨⟨⟨hkind, hquiet⟩, hswitch⟩, hdepth⟩ := htakes
  obtain h | h | h | h := h
  · omega
  · rw [hswitch] at h; cases h
  · rw [hquiet] at h; cases h
  · exact hkind h

/-- Planner `p` after a command it takes. -/
theorem moveRow_taken (hrow : IsMoveRow c p k it) (h : s.TakesMove p) :
    exec c s = .next (s.withMpi (s.mpi.command p.val (itemWithKind it k))) := by
  obtain ⟨hkind, hquiet, hswitch, hdepth⟩ := h
  rw [hrow s, State.moveItem, State.runMpi, if_pos]
  simp [hkind, hquiet, hswitch, hdepth]

theorem State.planner_withMpi (s : State) (m : Mpi) (p : Nat) : (s.withMpi m).planners.get Planner.reset p = m.planner p := rfl

/-! ### What a taken command leaves, row by row -/

/-- A poisoned item is answered and holds nothing (R263). -/
theorem moveRow_poisoned (hrow : IsMoveRow c p k it) (h : s.TakesMove p) (hp : it.poison = true) :
    Completes c s fun t =>
      (t.planners.get Planner.reset p.val).held = (s.mpi.planner p.val).held ∧
      (t.planners.get Planner.reset p.val).last = 0x14 := by
  have hpoison : (itemWithKind it k).poison = true := by
    unfold itemWithKind
    split <;> exact hp
  have hcommand : s.mpi.command p.val (itemWithKind it k) = s.mpi.event p.val 0 0 0x14 0 := by
    unfold Mpi.command
    exact if_pos hpoison
  obtain ⟨hsame, hlast⟩ := s.mpi.event_spec p.val 0x14 0 0 0
  refine ⟨_, moveRow_taken hrow h, ?_⟩
  rw [hcommand]
  exact ⟨hsame.held, hlast⟩

variable {w0 w1 w2 w3 w4 w5 w6 : Word}

section

variable (h : s.TakesMove p) (hres : getBits w0 31 21 = 0) (h15 : w0.getLsbD 15 = false)
include h hres h15

/-- A move that no check refuses is held behind the others. -/
theorem moveRow_held (hrow : IsMoveRow c p k (moveCmd w0 w1 w2 w3 w4 w5 w6)) (h1 : 1 ≤ k) (h4 : k ≤ 4)
    (hc : s.mpi.checkMove p.val (laidOut w0 w2 w3 w4 w5 w6 (BitVec.ofNat 4 k) ((s.mpi.planner p.val).argOf k w1)) = 0) :
    Completes c s fun t =>
      (t.planners.get Planner.reset p.val).held =
        (s.mpi.planner p.val).held ++ [laidOut w0 w2 w3 w4 w5 w6 (BitVec.ofNat 4 k) ((s.mpi.planner p.val).argOf k w1)] ∧
      (t.planners.get Planner.reset p.val).running = (s.mpi.planner p.val).running ∧ t = { s with planners := t.planners } := by
  refine ⟨_, moveRow_taken hrow h, ?_⟩
  rw [Mpi.command_of_move w0 w1 w2 w3 w4 w5 w6 s.mpi p.val hres h15 h1 h4]
  dsimp only
  rw [if_neg (not_not_intro hc)]
  rw [State.planner_withMpi, Mpi.planner_upd]
  exact ⟨rfl, rfl, rfl⟩

/-- A refused move is answered with its status and not held. -/
theorem moveRow_refused {status : Nat} (hrow : IsMoveRow c p k (moveCmd w0 w1 w2 w3 w4 w5 w6)) (h1 : 1 ≤ k) (h4 : k ≤ 4)
    (hs : status ≠ 0)
    (hc : s.mpi.checkMove p.val (laidOut w0 w2 w3 w4 w5 w6 (BitVec.ofNat 4 k) ((s.mpi.planner p.val).argOf k w1)) = status) :
    Completes c s fun t =>
      (t.planners.get Planner.reset p.val).held = (s.mpi.planner p.val).held ∧
      (t.planners.get Planner.reset p.val).last = BitVec.ofNat 8 status := by
  refine ⟨_, moveRow_taken hrow h, ?_⟩
  rw [Mpi.command_of_move w0 w1 w2 w3 w4 w5 w6 s.mpi p.val hres h15 h1 h4]
  dsimp only
  rw [hc, if_pos hs]
  exact ⟨(Mpi.moveEvent_same ..).held, Mpi.moveEvent_last ..⟩

/-- STOP of a velocity move (R261, R269). -/
theorem stopRow_of_velocity {vt a d j : Int} (hm : (s.mpi.planner p.val).motion = .velocity vt a d j)
    (hv : (s.mpi.planner p.val).kin.vel ≠ 0) (hquick : w0.getLsbD 14 = false) :
    Completes (.moveStop p (moveCmd w0 w1 w2 w3 w4 w5 w6)) s fun t =>
      (t.planners.get Planner.reset p.val).motion =
        .plan (s.mpi.planner p.val).kin 0 0
          (stopPieces (s.mpi.planner p.val).kin (s.MPI_PLDMAX p.val) (s.MPI_PLJMAX p.val)) (.stopped 4) ∧
      (t.planners.get Planner.reset p.val).held = [] ∧ (t.planners.get Planner.reset p.val).last = 0x09 := by
  refine ⟨_, moveRow_taken (k := 5) (fun _ => rfl) h, ?_⟩
  rw [Mpi.command_of_stop w0 w1 w2 w3 w4 w5 w6 s.mpi p.val hres h15, hquick]
  exact s.mpi.stopped_spec p.val _ 0x04 hm hv 0x09

/-- ABORT of the velocity move that runs (R261, R291). -/
theorem abortRow_of_velocity {vt a d j : Int} {r : Move} (hm : (s.mpi.planner p.val).motion = .velocity vt a d j)
    (hr : (s.mpi.planner p.val).running = some r) (hv : (s.mpi.planner p.val).kin.vel ≠ 0) (hquick : w0.getLsbD 14 = false)
    (hid : r.id = w6) :
    Completes (.moveAbort p (moveCmd w0 w1 w2 w3 w4 w5 w6)) s fun t =>
      (t.planners.get Planner.reset p.val).motion =
        .plan (s.mpi.planner p.val).kin 0 0
          (stopPieces (s.mpi.planner p.val).kin (s.MPI_PLDMAX p.val) (s.MPI_PLJMAX p.val)) (.stopped 5) ∧
      (t.planners.get Planner.reset p.val).held = [] ∧ (t.planners.get Planner.reset p.val).last = 0x05 := by
  refine ⟨_, moveRow_taken (k := 6) (fun _ => rfl) h, ?_⟩
  rw [Mpi.command_of_abort w0 w1 w2 w3 w4 w5 w6 s.mpi p.val hres h15, Mpi.abortMove_of_running _ _ hr hid,
    show (laidOut w0 w2 w3 w4 w5 w6 6 w1.toInt).quick = false from hquick]
  exact s.mpi.stopped_spec p.val _ 0x05 hm hv 0x05

/-- ABORT of the oldest held move, with no move running (R261, R264). -/
theorem abortRow_of_head {mv : Move} {rest : List Move} (hr : (s.mpi.planner p.val).running = none)
    (hh : (s.mpi.planner p.val).held = mv :: rest) (hid : mv.id = w6) (hany : w6 ≠ 0xFFFFFFFF) (hf : mv.fusion = false) :
    Completes (.moveAbort p (moveCmd w0 w1 w2 w3 w4 w5 w6)) s fun t =>
      (t.planners.get Planner.reset p.val).held = rest ∧ (t.planners.get Planner.reset p.val).last = 0x05 := by
  refine ⟨_, moveRow_taken (k := 6) (fun _ => rfl) h, ?_⟩
  rw [Mpi.command_of_abort w0 w1 w2 w3 w4 w5 w6 s.mpi p.val hres h15]
  exact s.mpi.abortMove_of_head p.val hr hh hid hany hf

/-- ABORT with nothing to abort (R264). -/
theorem abortRow_of_none (hr : (s.mpi.planner p.val).running = none) (hh : (s.mpi.planner p.val).held = []) :
    Completes (.moveAbort p (moveCmd w0 w1 w2 w3 w4 w5 w6)) s fun t =>
      (t.planners.get Planner.reset p.val).held = [] ∧ (t.planners.get Planner.reset p.val).last = 0x06 := by
  refine ⟨_, moveRow_taken (k := 6) (fun _ => rfl) h, ?_⟩
  rw [Mpi.command_of_abort w0 w1 w2 w3 w4 w5 w6 s.mpi p.val hres h15, s.mpi.abortMove_of_none p.val hr hh]
  exact ⟨(Mpi.moveEvent_same ..).held.trans hh, Mpi.moveEvent_last ..⟩

end

/-- Settles O28: a row that its planner takes is held, acts or is answered with the refusal of R263; any other waits. -/
theorem moveCommandsAreHeldOrRefused : Obligations.MoveCommandsAreHeldOrRefused := by
  unfold Obligations.MoveCommandsAreHeldOrRefused
  intro s p w0 w1 w2 w3 w4 w5 w6
  refine ⟨fun i c hc hwait => ?waits, fun hkind hquiet hswitch hdepth hres h15 => ?taken⟩
  case waits =>
    obtain ⟨k, hrow⟩ := isMoveRow_of_mem hc
    exact moveRow_waits hrow hwait
  have ht : s.TakesMove p := ⟨hkind, hquiet, hswitch, hdepth⟩
  refine ⟨fun hpwr hstall hcar => ?unlocked, fun c hc hlock => ?locked,
    fun vt ad dd jd r hm hr hv hquick =>
      ⟨stopRow_of_velocity ht hres h15 hm hv hquick, fun hid => abortRow_of_velocity ht hres h15 hm hr hv hquick hid⟩,
    fun m rest hr hh hid hany hf => abortRow_of_head ht hres h15 hr hh hid hany hf,
    fun hr hh => abortRow_of_none ht hres h15 hr hh, fun c hc => ?poisoned⟩
  case unlocked =>
    have hcheck {mv : Move} := Mpi.checkMove_of_table (m := s.mpi) (p := p.val) (mv := mv) hpwr hstall hcar
    refine ⟨fun hlo hhi => ?position, fun hlo hhi => ?relative, fun hout => ?outside, ?velocity, fun hv => ?table,
      fun hv => ?noTable⟩
    case position =>
      exact moveRow_held (k := 1) ht hres h15 (fun _ => rfl) (by decide) (by decide)
        (Mpi.checkMove_of_within hpwr hstall hcar (.inl rfl) hlo hhi)
    case relative =>
      exact .imp (moveRow_held (k := 2) ht hres h15 (fun _ => rfl) (by decide) (by decide)
        (Mpi.checkMove_of_within hpwr hstall hcar (.inr rfl) hlo hhi)) fun t ⟨hheld, _, hframe⟩ => ⟨hheld, hframe⟩
    case outside =>
      exact moveRow_refused (k := 1) ht hres h15 (fun _ => rfl) (by decide) (by decide) (by decide)
        (Mpi.checkMove_of_outside hpwr hstall hcar (.inl rfl) hout)
    case velocity =>
      exact .imp (moveRow_held (k := 3) ht hres h15 (fun _ => rfl) (by decide) (by decide)
        (Mpi.checkMove_of_velocity hpwr hstall hcar rfl)) fun t ⟨hheld, _, hframe⟩ => ⟨hheld, hframe⟩
    case table =>
      exact .imp (moveRow_held (k := 4) ht hres h15 (fun _ => rfl) (by decide) (by decide)
        ((hcheck rfl).trans (if_pos hv))) fun t ⟨hheld, _, hframe⟩ => ⟨hheld, hframe⟩
    case noTable =>
      exact moveRow_refused (k := 4) ht hres h15 (fun _ => rfl) (by decide) (by decide) (by decide)
        ((hcheck rfl).trans (if_neg (Bool.eq_false_iff.mp hv)))
  case locked =>
    obtain ⟨k, h1, h4, hrow⟩ := isMoveRow_of_mem_moves hc
    exact moveRow_refused ht hres h15 hrow h1 h4 (by decide) (s.mpi.checkMove_of_locked p.val _ hlock)
  case poisoned =>
    obtain ⟨k, hrow⟩ := isMoveRow_of_mem hc
    exact moveRow_poisoned hrow ht rfl

end Sys2Proof.Machine
end

section
/-! SUPPORT. Limiters, latched causes and the temperature shutdown of the field die (R67, R73, R74, R470 to R472, R678, R680). -/

namespace Sys2Proof.Machine

/-- A key that reads something else than the default is listed with what it reads. -/
theorem mem_of_get_ne_default {α : Type} {t : Tbl α} {d : α} {k : Nat} (h : t.get d k ≠ d) : (k, t.get d k) ∈ t := by
  induction t with
  | nil => exact absurd rfl h
  | cons e t ih =>
    obtain ⟨j, v⟩ := e
    by_cases hj : j = k
    · subst hj
      simp [Tbl.get]
    · simp only [Tbl.get, if_neg hj] at h ⊢
      exact .tail _ (ih h)

theorem leBytes_one_toNat (b : Byte) : leBytes 1 b.toNat = [b] := by rw [leBytes, leBytes, BitVec.ofNat_toNat, BitVec.setWidth_eq]

/-! ### LE ports (R67, R73) -/

section

variable (f : Field) {p q : Nat} (x : LePort)

theorem Field.port_setPort_self : (f.setPort p x).port p = x := Tbl.get_set_self ..

theorem Field.port_setPort_ne (h : q ≠ p) : (f.setPort p x).port q = f.port q := Tbl.get_set_of_ne _ _ _ h.symm

variable {f}

/-- A limiter that acts shows in the field die's fault line. -/
theorem Field.limiting_of_acting (h : (f.port p).acting = true) : f.limiting = true := by
  have hlisted : f.port p ≠ LePort.reset := fun hr => by rw [hr] at h; cases h
  exact List.any_eq_true.mpr ⟨_, mem_of_get_ne_default hlisted, h⟩

end

variable {s : State}

theorem exec_lepLimiterAct (p : Fin 32) (s : State) : exec (.lepLimiterAct p) s =
    .next (if s.sfiUp then { s with field := s.field.setPort p.val { fault := true, acting := true } } else s) := rfl

theorem limiterAct_of_up (p : Fin 32) (hup : s.sfiUp = true) :
    Completes (.lepLimiterAct p) s fun t =>
      (t.field.port p.val).fault = true ∧ (t.field.port p.val).acting = true ∧ t.field.limiting = true ∧
      (∀ q, q ≠ p.val → t.field.port q = s.field.port q) ∧ t = { s with field := t.field } := by
  have hport := s.field.port_setPort_self (p := p.val) { fault := true, acting := true }
  refine ⟨_, by rw [exec_lepLimiterAct, if_pos hup], congrArg LePort.fault hport, congrArg LePort.acting hport, ?_,
    fun q hq => s.field.port_setPort_ne _ hq, rfl⟩
  exact Field.limiting_of_acting (congrArg LePort.acting hport)

theorem limiterRelease_ends (p : Fin 32) :
    Completes (.lepLimiterRelease p) s fun t =>
      (t.field.port p.val).fault = (s.field.port p.val).fault ∧ (t.field.port p.val).acting = false ∧
      (∀ q, q ≠ p.val → t.field.port q = s.field.port q) ∧ t = { s with field := t.field } := by
  have hport := s.field.port_setPort_self (p := p.val) { s.field.port p.val with acting := false }
  exact ⟨_, rfl, (congrArg LePort.fault hport).trans rfl, congrArg LePort.acting hport,
    fun q hq => s.field.port_setPort_ne _ hq, rfl⟩

/-! ### Commanding an output (R470 to R472) -/

/-- An output with a cause latched: FCAUSE keeps the first (R472). -/
def SafetyOut.latch (o : SafetyOut) (cause : BitVec 4) : SafetyOut :=
  if o.sof then o else { o with sof := true, fcause := cause }

theorem SafetyOut.latch_sof (o : SafetyOut) (cause : BitVec 4) : (o.latch cause).sof = true := by
  unfold SafetyOut.latch
  split
  · assumption
  · rfl

theorem SafetyOut.latch_fcause {o : SafetyOut} (cause : BitVec 4) (h : o.sof = false) : (o.latch cause).fcause = cause := by
  simp [SafetyOut.latch, h]

section

variable {m : Sf} {k : Nat}

/-- A cause that is none was not found by its condition. -/
theorem not_and_of_ite_eq_zero {c : Prop} [Decidable c] {n x : Nat} (hn : n ≠ 0) (h : (if c then n else x) = 0) :
    ¬ c ∧ x = 0 := by
  by_cases hc : c
  · exact absurd ((if_pos hc).symm.trans h) hn
  · exact ⟨hc, (if_neg hc).symm.trans h⟩

/-- An output that no condition of R470 keeps open has its field die on and no cause latched. -/
theorem Sf.fieldUp_and_noCause_of_offCause (h : m.offCause k = 0) : m.fieldUp = true ∧ (m.out k).sof = false := by
  unfold Sf.offCause at h
  obtain ⟨-, h⟩ := not_and_of_ite_eq_zero (by decide) h
  obtain ⟨-, h⟩ := not_and_of_ite_eq_zero (by split <;> decide) h
  obtain ⟨-, h⟩ := not_and_of_ite_eq_zero (by decide) h
  obtain ⟨-, h⟩ := not_and_of_ite_eq_zero (by decide) h
  obtain ⟨-, h⟩ := not_and_of_ite_eq_zero (by decide) h
  obtain ⟨hfield, h⟩ := not_and_of_ite_eq_zero (by decide) h
  obtain ⟨hsof, -⟩ := not_and_of_ite_eq_zero (by decide) h
  rw [Bool.not_eq_true', Bool.not_eq_false] at hfield
  rw [Bool.not_eq_true, Bool.or_eq_false_iff] at hsof
  exact ⟨hfield, hsof.1⟩

variable (m k) (cause : BitVec 4)

theorem Sf.out_updOut_self (f : SafetyOut → SafetyOut) : (m.updOut k f).out k = f (m.out k) := Tbl.get_modify_self ..

/-- A cause is latched and then the output is commanded. -/
theorem Sf.latchCause_eq_settleOut :
    ∃ n : Sf, m.latchCause k cause = n.settleOut k ∧ n.field = m.field ∧ n.out k = (m.out k).latch cause :=
  ⟨_, rfl, rfl, m.out_updOut_self k (SafetyOut.latch · cause)⟩

/-- An output with a cause latched is open and shows the first cause. -/
theorem Sf.latchCause_spec : (m.latchCause k cause).field = m.field ∧ ((m.latchCause k cause).out k).sof = true ∧
    ((m.latchCause k cause).out k).on = false ∧
    ((m.out k).sof = false → ((m.latchCause k cause).out k).fcause = cause) := by
  obtain ⟨n, hlatch, hfield, hout⟩ := m.latchCause_eq_settleOut k cause
  have hsame := n.settleOut_same k
  have hcause := hsame.outs k
  have hsof : (n.out k).sof = true := (congrArg SafetyOut.sof hout).trans (SafetyOut.latch_sof _ cause)
  rw [hlatch]
  refine ⟨hsame.field.trans hfield, (congrArg SafetyOut.sof hcause).trans hsof, ?_, fun hclear => ?_⟩
  · rw [n.settleOut_on, if_pos rfl, beq_eq_false_iff_ne]
    intro hzero
    rw [(Sf.fieldUp_and_noCause_of_offCause hzero).2] at hsof
    cases hsof
  · exact (congrArg SafetyOut.fcause (hcause.trans (congrArg SafetyOut.cause hout))).trans (SafetyOut.latch_fcause cause hclear)

/-- Commanding the outputs writes in SFI's tap only (R17, R473). -/
theorem Sf.settleOut_tap {j : Nat} (h : j ≠ 4) :
    (m.settleOut k).qf.recorder.taps.get RecTap.reset j = m.qf.recorder.taps.get RecTap.reset j := by
  unfold Sf.settleOut
  dsimp only
  split
  · rfl
  · exact Recorder.put_taps_of_ne _ _ _ _ _ h.symm

theorem Sf.settle_tap {j : Nat} (h : j ≠ 4) :
    m.settle.qf.recorder.taps.get RecTap.reset j = m.qf.recorder.taps.get RecTap.reset j := by
  have outputs (ks : List Nat) (m : Sf) :
      (ks.foldl Sf.settleOut m).qf.recorder.taps.get RecTap.reset j = m.qf.recorder.taps.get RecTap.reset j := by
    induction ks generalizing m with
    | nil => rfl
    | cons k ks ih => exact (ih _).trans (m.settleOut_tap k h)
  exact outputs (List.range 6) m

end

/-! ### Trip currents (R74, R472) -/

theorem exec_soOvercurrentTrip (k : Fin 6) (s : State) :
    exec (.soOvercurrentTrip k) s = .next (s.runSf s.sfiUp fun m => m.overcurrent k.val) := rfl

theorem State.runSf_of_up (f : Sf → Sf) {ok : Bool} (h : ok = true) : s.runSf ok f = s.withSf (f s.sf) := if_pos h

theorem State.runSf_of_down (f : Sf → Sf) {ok : Bool} (h : ok = false) : s.runSf ok f = s :=
  if_neg (Bool.eq_false_iff.mp h)

theorem getLsbD_or_shiftLeft_self (w : BitVec 6) (k : Fin 6) : (w ||| 1#6 <<< k.val).getLsbD k.val = true := by
  simp

theorem overcurrentTrip_of_up (k : Fin 6) (hup : s.sfiUp = true) :
    Completes (.soOvercurrentTrip k) s fun t =>
      t.field.overcurrent.getLsbD k.val = true ∧ (t.lattice.outs.get SafetyOut.reset k.val).sof = true ∧
      (t.lattice.outs.get SafetyOut.reset k.val).on = false ∧
      ((s.lattice.outs.get SafetyOut.reset k.val).sof = false → (t.lattice.outs.get SafetyOut.reset k.val).fcause = 5) := by
  refine ⟨_, by rw [exec_soOvercurrentTrip, State.runSf_of_up _ hup], ?_⟩
  obtain ⟨hfield, hout⟩ := Sf.latchCause_spec
    { s.sf with field := { s.field with overcurrent := s.field.overcurrent ||| (1#6 <<< k.val) } } k.val 5
  exact ⟨(congrArg (fun f : Field => f.overcurrent.getLsbD k.val) hfield).trans (getLsbD_or_shiftLeft_self _ k), hout⟩

/-! ### The temperature shutdown (R678, R680) -/

theorem State.settleOutputs_of_up (hup : s.sfiUp = true) : s.settleOutputs = s.withSf s.sf.settle :=
  State.runSf_of_up _ hup

/-- Without SFI, no output is commanded. -/
theorem State.settleOutputs_of_down (hdown : s.sfiUp = false) : s.settleOutputs = s := State.runSf_of_down _ hdown

/-- The outputs follow the field die's supply, and SFI's tap alone takes their records. -/
theorem State.settleOutputs_spec (s : State) : s.settleOutputs.field = s.field ∧
    ∀ j ≠ 4, s.settleOutputs.recorder.taps.get RecTap.reset j = s.recorder.taps.get RecTap.reset j := by
  cases hup : s.sfiUp with
  | true =>
    rw [State.settleOutputs_of_up hup]
    exact ⟨s.sf.settle_same.field, fun j hj => s.sf.settle_tap hj⟩
  | false =>
    rw [State.settleOutputs_of_down hup]
    exact ⟨rfl, fun _ _ => rfl⟩

/-- With the field die off, no output is on. -/
theorem State.settleOutputs_off (hup : s.sfiUp = true) (hdown : s.fieldUp = false) (k : Fin 6) :
    (s.settleOutputs.lattice.outs.get SafetyOut.reset k.val).on = false := by
  rw [State.settleOutputs_of_up hup]
  refine (s.sf.settle_on k.val k.isLt).trans (beq_eq_false_iff_ne.mpr fun hzero => ?_)
  exact Bool.eq_false_iff.mp hdown (Sf.fieldUp_and_noCause_of_offCause hzero).1

/-- The shutdown begins or ends, with its record of FIELDT in PWR's tap. -/
def State.noteShutdown (s : State) (on : Bool) (code : Nat) : State :=
  { s with field := { s.field with shutdown := on }, recorder := s.recorder.put s.dev 1 code [s.supplies.fieldT] }

theorem exec_fieldOvertemp_of_on (h : s.field.shutdown = true) : exec .fieldOvertemp s = .next s :=
  congrArg Host.Outcome.next (if_pos h)

theorem exec_fieldTempOk_of_off (h : s.field.shutdown = false) : exec .fieldTempOk s = .next s :=
  congrArg Host.Outcome.next (if_neg (Bool.eq_false_iff.mp h))

theorem exec_fieldOvertemp_of_off (h : s.field.shutdown = false) :
    exec .fieldOvertemp s = .next (s.noteShutdown true 0x0109).settleOutputs := by
  rw [State.noteShutdown, ← leBytes_one_toNat]
  exact congrArg Host.Outcome.next (if_neg (Bool.eq_false_iff.mp h))

theorem exec_fieldTempOk_of_on (h : s.field.shutdown = true) :
    exec .fieldTempOk s = .next (s.noteShutdown false 0x010A).settleOutputs := by
  rw [State.noteShutdown, ← leBytes_one_toNat]
  exact congrArg Host.Outcome.next (if_pos h)

theorem fieldOvertemp_opens (h : s.field.shutdown = false) :
    Completes .fieldOvertemp s fun t =>
      t.field.shutdown = true ∧ (s.sfiUp = true → ∀ k : Fin 6, (t.lattice.outs.get SafetyOut.reset k.val).on = false) ∧
      t.recorder.taps.get RecTap.reset 1 = (s.recorder.put s.dev 1 0x0109 [s.supplies.fieldT]).taps.get RecTap.reset 1 := by
  obtain ⟨hfield, htaps⟩ := (s.noteShutdown true 0x0109).settleOutputs_spec
  have hoff : (s.noteShutdown true 0x0109).fieldUp = false := Bool.and_false _
  exact ⟨_, exec_fieldOvertemp_of_off h, congrArg Field.shutdown hfield,
    fun hup => State.settleOutputs_off (s := s.noteShutdown true 0x0109) hup hoff, htaps 1 (by decide)⟩

theorem fieldTempOk_ends (h : s.field.shutdown = true) :
    Completes .fieldTempOk s fun t =>
      t.field.shutdown = false ∧ t.recorder.taps.get RecTap.reset 1 =
        (s.recorder.put s.dev 1 0x010A [s.supplies.fieldT]).taps.get RecTap.reset 1 := by
  obtain ⟨hfield, htaps⟩ := (s.noteShutdown false 0x010A).settleOutputs_spec
  exact ⟨_, exec_fieldTempOk_of_on h, congrArg Field.shutdown hfield, htaps 1 (by decide)⟩

/-- Settles O4: a limiter shows until it stops acting, a trip current latches cause 5 and opens its output, and the shutdown opens
every output and is recorded as it begins and as it ends. -/
theorem fieldDieProtectsItself : Obligations.FieldDieProtectsItself := by
  unfold Obligations.FieldDieProtectsItself
  intro s
  refine ⟨fun p hup => limiterAct_of_up p hup, fun p hdown => ?limiterDown, fun p => limiterRelease_ends p,
    fun k hup => overcurrentTrip_of_up k hup, fun k hdown => ?tripDown, fun hoff => fieldOvertemp_opens hoff,
    fun hoff hdown => ?beginsDown, fun hon => exec_fieldOvertemp_of_on hon, fun hon => fieldTempOk_ends hon,
    fun hon hdown => ?endsDown, fun hoff => exec_fieldTempOk_of_off hoff⟩
  case limiterDown => rw [exec_lepLimiterAct, if_neg (Bool.eq_false_iff.mp hdown)]
  case tripDown => rw [exec_soOvercurrentTrip, State.runSf_of_down _ hdown]
  case beginsDown =>
    rw [exec_fieldOvertemp_of_off hoff, State.settleOutputs_of_down (s := s.noteShutdown true 0x0109) hdown]
    rfl
  case endsDown =>
    rw [exec_fieldTempOk_of_on hon, State.settleOutputs_of_down (s := s.noteShutdown false 0x010A) hdown]
    rfl

end Sys2Proof.Machine
end

section
/-! SUPPORT. The resistor check of the default states: its wait, its ends and the records of a failed one (R56 to R61, R678). -/

namespace Sys2Proof.Machine

variable {s : State}

/-! ### The start and the wait (R56, R678) -/

/-- The start is at step 5 and its check has not begun. -/
def State.checkDue (s : State) : Prop := s.start.phase = 5 ∧ (s.defres.stat = .notRun ∨ s.defres.stat = .waitingVfld)

theorem exec_defresCheckStart_of_due (h : s.checkDue) :
    exec .defresCheckStart s =
      .next { s with defres := { s.defres with stat := if s.fieldUp then .running else .waitingVfld } } := by
  obtain ⟨hphase, hstat⟩ := h
  exact congrArg Host.Outcome.next (if_pos (by simpa [hphase] using hstat))

theorem exec_defresCheckStart_of_otherPhase (h : s.start.phase ≠ 5) : exec .defresCheckStart s = .next s :=
  congrArg Host.Outcome.next (if_neg fun hc => h (beq_iff_eq.mp (Bool.and_eq_true_iff.mp hc).1))

theorem exec_defresWaitVfld_of_waiting (hw : s.defres.stat = .waitingVfld) (hn : s.defres.waitNoted = false) :
    exec .defresWaitVfld s = .next ({ s with defres := { s.defres with waitNoted := true } }.commitNote 0x0233) :=
  congrArg Host.Outcome.next (if_pos (by simp [hw, hn]))

theorem exec_defresWaitVfld_of_idle (h : s.defres.stat ≠ .waitingVfld ∨ s.defres.waitNoted = true) :
    exec .defresWaitVfld s = .next s := by
  refine congrArg Host.Outcome.next (if_neg ?_)
  obtain h | h := h <;> simp [h]

/-! ### The end of the check (R58 to R61) -/

variable {im : Image} {rs : List PadReading}

theorem exec_defresCheckComplete_of_running (hr : s.defres.stat = .running) (him : s.image = some im) (ok : Bool) :
    exec (.defresCheckComplete ok rs) s =
      .next (if ok then s.checkPads im rs
        else ({ s with defres := { s.defres with stat := .probeError } }.commitNote 0x0232).block 2) := by
  change Host.Outcome.next _ = _
  rw [if_pos (beq_iff_eq.mpr hr), him]

/-- The checked pads whose class is not the declared one, lowest first (R59). -/
def Image.mismatches (im : Image) (rs : List PadReading) : List PinRec :=
  im.checkedPads.filter fun p => (classifyPad (readingOf rs p.pad)).1 != p.declared

theorem Image.mismatches_eq_nil (h : ∀ p ∈ im.checkedPads, (classifyPad (readingOf rs p.pad)).1 = p.declared) :
    im.mismatches rs = [] :=
  List.filter_eq_nil_iff.mpr fun p hp => by simp [h p hp]

theorem State.driveReady_eq (s : State) (d : PadDrive) :
    s.driveReady d =
      { s with start := { s.start with readyPad := if s.padUsed 25 then d else s.start.readyPad } } := by
  unfold State.driveReady
  split <;> rfl

/-- Every class as declared: the check passes and the start goes on (R59). -/
theorem State.checkPads_of_match (h : im.mismatches rs = []) :
    s.checkPads im rs =
      { s with defres := { s.defres with stat := .pass, results := padResults rs im.checkedPads, firstPad := 0, fails := 0 },
               start := { s.start with phase := 6 } }.driveReady .low := by
  change im.checkedPads.filter _ = [] at h
  simp only [State.checkPads, h]
  rfl

/-- The results of a failed check (R60). -/
def DefRes.failed (d : DefRes) (im : Image) (rs : List PadReading) (p : PinRec) (n : Nat) : DefRes :=
  { d with stat := .fail, results := padResults rs im.checkedPads, firstPad := BitVec.ofNat 9 p.pad, fails := satAdd 0 n }

/-- Some class not as declared: the check fails with its records and blocks the start (R60, R61). -/
theorem State.checkPads_of_mismatch {p : PinRec} {ps : List PinRec} (h : im.mismatches rs = p :: ps) :
    s.checkPads im rs =
      ((((p :: ps).take 16).foldl (fun (s : State) q => s.commitNote 0x0230 (mismatchData rs q))
        { s with defres := s.defres.failed im rs p (p :: ps).length }).commitNote 0x0231
          (leBytes 2 (p :: ps).length)).block 2 := by
  change im.checkedPads.filter _ = p :: ps at h
  simp only [State.checkPads, h]
  rfl

/-- The step that decided a pad gives the difference its record shows. -/
theorem mismatchData_eq (rs : List PadReading) (p : PinRec) :
    mismatchData rs p =
      leBytes 2 p.pad ++ leBytes 1 (padClassCode p.declared) ++ leBytes 1 (padClassCode (classifyPad (readingOf rs p.pad)).1) ++
        wordBytes (satWord (absInt ((if (classifyPad (readingOf rs p.pad)).2 then (readingOf rs p.pad).vh
          else (readingOf rs p.pad).vl) - (readingOf rs p.pad).voc))) ++
        leBytes 1 (if (classifyPad (readingOf rs p.pad)).2 then 4 else 5) := by
  unfold mismatchData
  dsimp only
  cases (classifyPad (readingOf rs p.pad)).2 <;> rfl

/-! ### Several records of MGT -/

section

variable {α : Type} (code : Nat) (data : α → List Byte) (xs : List α) (s : State)

theorem State.hist_commitNotes :
    (xs.foldl (fun s x => s.commitNote code (data x)) s).hist = xs.foldl (fun h x => h.own code (data x)) s.hist :=
  (List.foldl_hom State.hist fun s x => (s.hist_commitNote code (data x)).symm).symm

/-- Records change the history only. -/
theorem State.commitNotes_eq_withHist : ∃ h, xs.foldl (fun s x => s.commitNote code (data x)) s = s.withHist h := by
  induction xs generalizing s with
  | nil => exact ⟨s.hist, rfl⟩
  | cons x xs ih =>
    obtain ⟨h, hh⟩ := ih (s.commitNote code (data x))
    exact ⟨h, hh⟩

end

/-! ### The outcomes of the check, one theorem per class -/

theorem checkComplete_probeError (hr : s.defres.stat = .running) (him : s.image = some im) :
    Completes (.defresCheckComplete false rs) s fun t =>
      t.defres = { s.defres with stat := .probeError } ∧ t.start.phase = 0xE ∧ t.start.block = 2 ∧
      t.hist = s.hist.own 0x0232 [] :=
  ⟨_, exec_defresCheckComplete_of_running hr him false, rfl, rfl, rfl,
    State.hist_commitNote { s with defres := { s.defres with stat := .probeError } } 0x0232 []⟩

theorem checkComplete_pass (hr : s.defres.stat = .running) (him : s.image = some im) (hm : im.mismatches rs = []) :
    Completes (.defresCheckComplete true rs) s fun t =>
      t.defres.stat = .pass ∧ t.defres.fails = 0 ∧ t.defres.firstPad = 0 ∧ t.start.phase = 6 ∧
        t.start.block = s.start.block ∧ t.persist = s.persist ∧ t.recorder = s.recorder := by
  refine ⟨_, exec_defresCheckComplete_of_running hr him true, ?_⟩
  rw [if_pos rfl, State.checkPads_of_match hm, State.driveReady_eq]
  exact ⟨rfl, rfl, rfl, rfl, rfl, rfl, rfl⟩

theorem checkComplete_fail {p : PinRec} {ps : List PinRec} (hr : s.defres.stat = .running) (him : s.image = some im)
    (hm : im.mismatches rs = p :: ps) :
    Completes (.defresCheckComplete true rs) s fun t =>
      t.defres.stat = .fail ∧ t.defres.fails = satAdd 0 (p :: ps).length ∧ t.defres.firstPad = BitVec.ofNat 9 p.pad ∧
      t.start.phase = 0xE ∧ t.start.block = 2 ∧ t.image = s.image ∧
      t.hist = (((p :: ps).take 16).foldl (fun h q => h.own 0x0230 (mismatchData rs q)) s.hist).own 0x0231
        (leBytes 2 (p :: ps).length) := by
  refine ⟨_, exec_defresCheckComplete_of_running hr him true, ?_⟩
  rw [if_pos rfl, State.checkPads_of_mismatch hm]
  have hhist := State.hist_commitNotes 0x0230 (mismatchData rs) ((p :: ps).take 16)
    { s with defres := s.defres.failed im rs p (p :: ps).length }
  obtain ⟨h, hframe⟩ := State.commitNotes_eq_withHist 0x0230 (mismatchData rs) ((p :: ps).take 16)
    { s with defres := s.defres.failed im rs p (p :: ps).length }
  rw [hframe] at hhist ⊢
  exact ⟨rfl, rfl, rfl, rfl, rfl, rfl, (State.hist_commitNote _ _ _).trans (congrArg (Hist.own · 0x0231 _) hhist)⟩

/-- Settles O3: the check starts where the field die is on, notes its wait once, and ends by the probe and the classes of the
checked pads. -/
theorem resistorCheckDecidesTheStart : Obligations.ResistorCheckDecidesTheStart := by
  unfold Obligations.ResistorCheckDecidesTheStart
  intro s
  refine ⟨fun hphase hstat hvfld hcool => ?starts, fun hphase hstat hoff => ?waits,
    fun hphase => exec_defresCheckStart_of_otherPhase hphase, fun hw hn => ?noted, fun hidle => exec_defresWaitVfld_of_idle hidle,
    fun im rs hr him => checkComplete_probeError hr him,
    fun im rs hr him hmatch => checkComplete_pass hr him (Image.mismatches_eq_nil hmatch), fun im rs p ps hr him hm => ?fails⟩
  case starts =>
    have hup : s.fieldUp = true := by rw [State.fieldUp, hvfld, hcool]; rfl
    rw [exec_defresCheckStart_of_due ⟨hphase, hstat⟩, if_pos hup]
  case waits =>
    have hdown : ¬ s.fieldUp = true := by
      obtain h | h := hoff <;> simp [State.fieldUp, h]
    rw [exec_defresCheckStart_of_due ⟨hphase, hstat⟩, if_neg hdown]
  case noted =>
    exact ⟨_, exec_defresWaitVfld_of_waiting hw hn, rfl,
      State.hist_commitNote { s with defres := { s.defres with waitNoted := true } } 0x0233 [], rfl⟩
  case fails =>
    intro cls delta data
    have hdata : mismatchData rs = data := funext (mismatchData_eq rs)
    rw [← hdata]
    exact checkComplete_fail hr him hm

end Sys2Proof.Machine
end

section
/-! SUPPORT. What the acts before a reset and the reset itself leave, and the rows of HIBERNATE (R87 to R92, R116, R148). -/

namespace Sys2Proof.Machine

variable (s : State)

/-! ### Device time runs on through the acts before a reset (R7, R20) -/

@[simp] theorem State.abandonTests_dev (ts : List (Nat × Nat × BitVec 16)) : (ts.foldl State.abandonTest s).dev = s.dev := by
  induction ts generalizing s with
  | nil => rfl
  | cons t ts ih => exact ih (s.abandonTest t)

theorem State.storeDtmark_dev : s.storeDtmark.dev = s.dev := by
  unfold State.storeDtmark
  split <;> rfl

theorem State.pfailChange_dev (on : Bool) : (s.pfailChange on).dev = s.dev := by
  unfold State.pfailChange State.atPwr
  split
  · rfl
  · cases on with
    | false => rfl
    | true => exact State.storeDtmark_dev _

@[simp] theorem State.releasePfail_dev : s.releasePfail.dev = s.dev := by
  have held (changes : List Bool) (s : State) : (changes.foldl State.pfailChange s).dev = s.dev := by
    induction changes generalizing s with
    | nil => rfl
    | cons on changes ih => exact (ih _).trans (s.pfailChange_dev on)
  exact held _ _

theorem State.closeWindow_dev : s.closeWindow.dev = s.dev := by
  unfold State.closeWindow
  split <;> rfl

@[simp] theorem State.shutSession_dev (cause : Nat) : (s.shutSession cause).dev = s.dev := by
  have hended : (s.endSession cause).dev = s.dev := by
    unfold State.endSession
    split
    · exact s.closeWindow_dev
    · rfl
  unfold State.shutSession
  split
  · exact hended
  · rfl

@[simp] theorem State.lockSession_dev (cause : Nat) : (s.lockSession cause).dev = s.dev := by
  unfold State.lockSession
  split
  · exact s.shutSession_dev cause
  · rfl

@[simp] theorem State.flushLanes_dev : s.flushLanes.dev = s.dev := rfl

@[simp] theorem State.commitAll_dev : s.commitAll.dev = s.dev := by rw [State.commitAll, State.withHist_dev]

@[simp] theorem State.beforeReset_dev (reload : Bool) : (s.beforeReset reload).dev = s.dev := by
  unfold State.beforeReset
  dsimp only
  split
  · simp
  · split <;> simp

/-! ### A wake (R91, R116) -/

@[simp] theorem State.wipe_dev (keepMgt : Bool) : (s.wipe true keepMgt).dev = s.dev := by cases keepMgt <;> rfl

theorem State.wake_dev (src : BitVec 4) : (s.wake src).dev = s.dev := by
  change ((s.beforeReset false).wipe true false).dev = s.dev
  rw [State.wipe_dev, State.beforeReset_dev]

/-- A wake is a reset that keeps PWR, with a start at step 4 that knows its source. -/
theorem State.wake_spec (src : BitVec 4) :
    (s.wake src).power.state = .starting ∧ (s.wake src).power.wakeNext = src ∧ (s.wake src).start.phase = 4 ∧
    (s.wake src).start.entry = 4 ∧ (s.wake src).start.cause = .wake ∧ (s.wake src).dev = s.dev :=
  ⟨rfl, rfl, rfl, rfl, rfl, s.wake_dev src⟩

theorem State.fireWake_of_hibernate {s : State} (h : s.power.state = .hibernate) (src : BitVec 4) :
    s.fireWake src = s.wake src := if_pos h

/-! ### The entry (R87, R89) -/

/-- The device in HIBERNATE, its entry complete. -/
def State.hibernated (s : State) : State :=
  let t := ((s.react.testing.foldl State.abandonTest s.releasePfail).lockSession 3).flushLanes.commitAll.wipe true false
  { t with power := { t.power with state := .hibernate, gate := 0x13, wakePin := s.wakeInput, watchPorts := s.contactSources } }

theorem State.hibernated_dev : s.hibernated.dev = s.dev := by simp [State.hibernated]

/-- Without an image no pad but AON_STAT and TAMPOUT is driven (R49, R52). -/
theorem State.padOut_of_noImage {s : State} (h : s.image = none) {pad : Nat} (h24 : pad ≠ 24) (h34 : pad ≠ 34) :
    s.padOut pad = .highZ := by
  simp [State.padOut, State.pin, h, h24, h34]

theorem State.gateOut_of_noImage {s : State} (h : s.image = none) (i o : Nat) : s.gateOut i o = none := by
  simp [State.gateOut, State.padUsed, h]

/-- With SFI in reset only the ports that HIBERNATE leaves on source (R51, R87). -/
theorem State.hibernate_of_leSources {s : State} (h : s.start.rsti.contains .sfi = true) {p : Nat} (hp : s.leSources p = true) :
    s.power.state = .hibernate ∧ s.power.watchPorts.getLsbD p = true := by
  have hdead : s.outputsLive .sfi = false := by simp only [State.outputsLive, h, Bool.not_true, Bool.and_false, Bool.false_and]
  simp only [State.leSources, hdead, Bool.false_or, Bool.and_eq_true, beq_iff_eq] at hp
  exact hp.1.1.1

theorem State.padsReleased_of_reset {s : State} (him : s.image = none) (hsfi : s.start.rsti.contains .sfi = true) :
    s.padsReleased :=
  ⟨fun _ _ h24 h34 => State.padOut_of_noImage him h24 h34, fun i _ o _ => State.gateOut_of_noImage him i o,
    fun _ _ hp => State.hibernate_of_leSources hsfi hp⟩

theorem exec_hibernateEntered (s : State) :
    exec .hibernateEntered s =
      .next (if s.power.state == .run && s.power.hib == .entering then
        match s.aon.wakeWaiting with
        | some src => s.hibernated.wake src
        | none => s.hibernated
      else s) := rfl

theorem exec_hibernateEntered_of_entering {s : State} (hrun : s.power.state = .run) (hhib : s.power.hib = .entering) :
    exec .hibernateEntered s =
      .next (match s.aon.wakeWaiting with
        | some src => s.hibernated.wake src
        | none => s.hibernated) := by
  rw [exec_hibernateEntered, hrun, hhib]
  rfl

theorem exec_hibernateEntered_of_other {s : State} (h : s.power.state ≠ .run ∨ s.power.hib ≠ .entering) :
    exec .hibernateEntered s = .next s := by
  rw [exec_hibernateEntered, if_neg]
  obtain h | h := h <;> simp [h]

/-! ### The request (R88) -/

/-- The row is a write of PWR_STATE with HIB set, which PWR answers in RUN while no entry is under way. -/
theorem exec_hibRequest (w : Word) (s : State) :
    exec (.hibRequest w) s =
      .next (if s.power.state == .run && s.power.hib != .entering && !s.quarantined 3 then
        if s.hibReason = 0 then { s with power := { s.power with hib := .entering, hibReason := 0 } }.note 0x0107
        else { s with power := { s.power with hib := .refused, hibReason := BitVec.ofNat 4 s.hibReason } }
      else s) := by
  have hreq : (w ||| 0x10#32).getLsbD 4 = true := by simp
  change Host.Outcome.next (s.writePwrState (w ||| 0x10#32)) = _
  rw [State.writePwrState, hreq, Bool.true_and]

theorem exec_hibRequest_of_heard (w : Word) {s : State} (hrun : s.power.state = .run) (hq : s.quarantined 3 = false)
    (hhib : s.power.hib ≠ .entering) :
    exec (.hibRequest w) s =
      .next (if s.hibReason = 0 then { s with power := { s.power with hib := .entering, hibReason := 0 } }.note 0x0107
        else { s with power := { s.power with hib := .refused, hibReason := BitVec.ofNat 4 s.hibReason } }) := by
  rw [exec_hibRequest, if_pos (by simp [hrun, hq, hhib])]

theorem exec_hibRequest_of_unheard (w : Word) {s : State}
    (h : s.power.state ≠ .run ∨ s.quarantined 3 = true ∨ s.power.hib = .entering) : exec (.hibRequest w) s = .next s := by
  rw [exec_hibRequest, if_neg]
  obtain h | h | h := h <;> simp [h]

/-! ### The wake sources (R90, R148) -/

/-- A source that may fire: 9 always, an enabled one of 1 to 8, and source 5 at its active level alone. -/
def State.wakeFires (s : State) (src : Fin 10) (level : Bool) : Bool :=
  src.val == 9 || (src.val != 0 && testBit s.PWR_WAKEEN_EN (src.val - 1) && (src.val != 5 || s.wakeInput == some level))

theorem exec_wakeSourceFire (src : Fin 10) (level : Bool) (s : State) :
    exec (.wakeSourceFire src level) s = .next (if s.wakeFires src level then s.fireWake (BitVec.ofNat 4 src.val) else s) := rfl

theorem State.wakeFires_iff (src : Fin 10) (level : Bool) :
    s.wakeFires src level = true ↔ src.val = 9 ∨
      (src.val ≠ 0 ∧ testBit s.PWR_WAKEEN_EN (src.val - 1) = true ∧ (src.val = 5 → s.wakeInput = some level)) := by
  simp only [State.wakeFires, Bool.or_eq_true, Bool.and_eq_true, beq_iff_eq, bne_iff_ne, ne_eq, and_assoc, Decidable.imp_iff_not_or]

/-- Settles O7: the request is answered by the conditions of R88, the entry leaves what R87 says, and a source that fires, or one
that waits for the entry, begins a wake. -/
theorem hibernateIsEnteredAndLeft : Obligations.HibernateIsEnteredAndLeft := by
  unfold Obligations.HibernateIsEnteredAndLeft
  intro s
  refine ⟨fun w hrun hq hhib hwhy => ?accepted, fun w hrun hq hhib hwhy => ?refused,
    fun w h => exec_hibRequest_of_unheard w h, fun hrun hhib hnone => ?entered, fun src hrun hhib hsrc => ?woken,
    fun h => exec_hibernateEntered_of_other h, fun src lvl hstate hfires => ?fires, fun src lvl h9 hquiet => ?quiet⟩
  case accepted => rw [exec_hibRequest_of_heard w hrun hq hhib, if_pos hwhy]; rfl
  case refused => rw [exec_hibRequest_of_heard w hrun hq hhib, if_neg hwhy]
  case entered =>
    refine ⟨s.hibernated, ?_, rfl, rfl, rfl, rfl, rfl, rfl, s.hibernated_dev, State.padsReleased_of_reset rfl rfl⟩
    rw [exec_hibernateEntered_of_entering hrun hhib, hnone]
  case woken =>
    obtain ⟨hstate, hsource, hphase, -, hcause, -⟩ := s.hibernated.wake_spec src
    refine ⟨s.hibernated.wake src, ?_, hstate, hsource, hphase, hcause⟩
    rw [exec_hibernateEntered_of_entering hrun hhib, hsrc]
  case fires =>
    refine ⟨s.wake (BitVec.ofNat 4 src.val), ?_, s.wake_spec _⟩
    rw [exec_wakeSourceFire, if_pos ((s.wakeFires_iff src lvl).mpr hfires), State.fireWake_of_hibernate hstate]
  case quiet =>
    rw [exec_wakeSourceFire, if_neg]
    rw [s.wakeFires_iff src lvl]
    rintro (h | ⟨h0, hen, h5⟩)
    · exact h9 h
    · obtain h | h | ⟨hfive, h⟩ := hquiet
      · exact h0 h
      · rw [h] at hen
        cases hen
      · exact h (h5 hfive)

end Sys2Proof.Machine
end

section
/-! SUPPORT. Properties of the persistent array that every record and every served lane keeps, and among them what the image check
reads (R25, R127, R611, R628). -/

namespace Sys2Proof.Machine

/-! ### One induction over what MGT does to the array -/

/-- Neither a committed record nor a value from the lanes takes `P` from the array. -/
structure Persist.KeptByHistory (P : Persist → Prop) : Prop where
  commit : ∀ (h : Hist) (r : TapRec), P h.persist → P (h.commit r).persist
  lane : ∀ (p : Persist) (x : LaneItem), P p → P (p.storeLane x)

section

variable {P : Persist → Prop} (kept : Persist.KeptByHistory P) {h : Hist}
include kept

theorem Persist.KeptByHistory.submit (r : TapRec) (hp : P h.persist) : P (h.submit r).persist := by
  have taken (g : Hist) (hg : P g.persist) : P (if g.recorder.frozen then g.hold r else g.commit r).persist := by
    split
    · unfold Hist.hold
      dsimp only
      split <;> exact hg
    · exact kept.commit g r hg
  refine taken _ ?_
  split <;> exact hp

theorem Persist.KeptByHistory.drainDue (n : Nat) (hp : P h.persist) : P (h.drainDue n).persist := by
  induction n generalizing h with
  | zero => exact hp
  | succ n ih =>
    unfold Hist.drainDue
    split
    · exact hp
    · split
      · exact ih (kept.submit _ hp)
      · exact hp

theorem Persist.KeptByHistory.place (r : TapRec) (hp : P h.persist) : P (h.place r).persist := by
  unfold Hist.place
  split
  · exact kept.submit r (kept.drainDue 256 hp)
  · exact hp

theorem Persist.KeptByHistory.serveLanes (hp : P h.persist) : P h.serveLanes.persist := by
  have served (xs : List LaneItem) (r : Persist × List Nat) (hr : P r.1) :
      P (xs.foldl (fun (r : Persist × List Nat) x => (r.1.storeLane x, r.2 ++ (r.1.wears x).toList)) r).1 := by
    induction xs generalizing r with
    | nil => exact hr
    | cons x xs ih => exact ih _ (kept.lane r.1 x hr)
  have noted (as : List Nat) (g : Hist) (hg : P g.persist) : P (as.foldl Hist.wordWorn g).persist := by
    induction as generalizing g with
    | nil => exact hg
    | cons a as ih => exact ih _ (kept.place _ hg)
  exact noted _ _ (served h.lanes (h.persist, []) hp)

theorem Persist.KeptByHistory.own (code : Nat) (data : List Byte) (hp : P h.persist) : P (h.own code data).persist :=
  kept.place _ (kept.serveLanes hp)

theorem Persist.KeptByHistory.copyAon (es : List (AonEntry × Nat)) (hp : P h.persist) : P (h.copyAon es).persist := by
  unfold Hist.copyAon
  induction es generalizing h with
  | nil => exact hp
  | cons e es ih =>
    refine ih ?_
    dsimp only
    split
    · exact kept.submit _ hp
    · exact hp

end

/-! ### What the image check reads -/

/-- Two arrays with the same slots and the same key. -/
structure Persist.SameImages (p q : Persist) : Prop where
  slotA : q.slotA = p.slotA
  slotB : q.slotB = p.slotB
  key : q.key = p.key
  prov : q.prov = p.prov
  reqTag : q.reqTag = p.reqTag

theorem Persist.SameImages.refl (p : Persist) : p.SameImages p := ⟨rfl, rfl, rfl, rfl, rfl⟩

theorem Persist.SameImages.trans {a b c : Persist} (h : a.SameImages b) (g : b.SameImages c) : a.SameImages c :=
  ⟨g.slotA.trans h.slotA, g.slotB.trans h.slotB, g.key.trans h.key, g.prov.trans h.prov, g.reqTag.trans h.reqTag⟩

theorem Persist.storeLane_sameImages (p : Persist) (x : LaneItem) : p.SameImages (p.storeLane x) := by
  cases x with
  | rwk a w =>
    change p.SameImages (p.store a w)
    rw [p.store_frame]
    exact ⟨rfl, rfl, rfl, rfl, rfl⟩
  | held outs src => exact ⟨rfl, rfl, rfl, rfl, rfl⟩

/-- No record and no lane touches a slot or the key. -/
theorem Persist.sameImages_kept (p : Persist) : Persist.KeptByHistory p.SameImages where
  commit _ _ hp := hp.trans ⟨rfl, rfl, rfl, rfl, rfl⟩
  lane q x hp := hp.trans (q.storeLane_sameImages x)

/-- The check of R127 reads the slot, the key and whether a tag is required. -/
theorem Persist.SameImages.checkSlot_eq {p q : Persist} (h : p.SameImages q) (slot : List Host.Cell) :
    checkSlot q slot = checkSlot p slot := by
  have htag : tagOk q = tagOk p := by
    unfold tagOk
    rw [h.key, h.prov, h.reqTag]
  unfold checkSlot checkFormat
  rw [htag]

theorem State.commitNote_sameImages (s : State) (code : Nat) (data : List Byte) :
    s.persist.SameImages (s.commitNote code data).persist :=
  (Persist.sameImages_kept s.persist).own (h := s.hist) code data (.refl _)

end Sys2Proof.Machine
end

section
/-! SUPPORT. Steps 2 to 6 of the start (R83, R84, R123 to R129, R141, R161, R615, R628). -/

namespace Sys2Proof.Machine

variable {s : State}

theorem State.atStep_of_phase {n : BitVec 4} (hp : s.power.state = .starting) (hn : s.start.phase = n) : s.atStep n = true := by
  simp [State.atStep, hp, hn]

theorem State.atStep_of_otherPhase {n : BitVec 4} (hn : s.start.phase ≠ n) : s.atStep n = false := by
  simp [State.atStep, hn]

/-! ### Step 2 (R83) -/

theorem exec_railsGood (s : State) : exec .railsGood s =
    .next (if s.atStep 2 && s.power.railFails != 2 then { s with start := { s.start with phase := 3 } } else s) := rfl

theorem exec_railsGood_of_other (h : s.start.phase ≠ 2 ∨ s.power.railFails = 2) : exec .railsGood s = .next s := by
  rw [exec_railsGood, if_neg]
  obtain h | h := h
  · rw [State.atStep_of_otherPhase h, Bool.false_and]
    exact Bool.false_ne_true
  · simp [h]

/-- A rail that fails is counted, and the second failure is an entry of AON. -/
theorem exec_railTimeout (rail : Fin 4) (s : State) : exec (.railTimeout rail) s =
    .next (if s.atStep 2 && s.power.railFails != 2 then
        let t := { s with power := { s.power with railFails := s.power.railFails + 1 } }
        if t.power.railFails = 2 then t.aonNote 0x0002 (leBytes 1 rail.val) else t
      else s) := rfl

theorem exec_railTimeout_of_first (rail : Fin 4) (hp : s.power.state = .starting) (hn : s.start.phase = 2)
    (hf : s.power.railFails = 0) :
    exec (.railTimeout rail) s = .next { s with power := { s.power with railFails := 1 } } := by
  rw [exec_railTimeout, State.atStep_of_phase hp hn, hf]
  rfl

theorem exec_railTimeout_of_second (rail : Fin 4) (hp : s.power.state = .starting) (hn : s.start.phase = 2)
    (hf : s.power.railFails = 1) (hdown : s.aon.mgtUp = false) :
    exec (.railTimeout rail) s = .next { s with
      power := { s.power with railFails := 2 }, aon := s.aon.logEntry 0x0002 [BitVec.ofNat 8 rail.val] } := by
  rw [exec_railTimeout, State.atStep_of_phase hp hn, hf]
  exact congrArg Host.Outcome.next (if_neg (Bool.eq_false_iff.mp hdown))

/-! ### Step 3 (R141, R615, R628) -/

/-- MGT runs and AON has handed over what it kept. -/
structure Aon.Taken (a : Aon) : Prop where
  mgtUp : a.mgtUp = true
  log : a.log = []
  heldOwed : a.heldOwed = false

theorem State.copyAonLog_spec (s : State) :
    s.persist.SameImages s.copyAonLog.persist ∧ s.copyAonLog.aon.mgtUp = true ∧ s.copyAonLog.aon.log = [] := by
  have kept := Persist.sameImages_kept s.persist
  have hcopied := kept.copyAon (h := { s.hist with up := true }) s.aon.log.zipIdx (.refl _)
  refine ⟨?_, rfl, rfl⟩
  unfold State.copyAonLog
  dsimp only
  split
  · exact hcopied
  · exact kept.own 0x0021 _ hcopied

/-- A RESET_HELD owed goes to AON's tap, as MGT runs by then (R122). -/
theorem State.takeAon_of_owed (h : s.copyAonLog.aon.heldOwed = true) :
    s.takeAon = State.note { s.copyAonLog with aon := { s.copyAonLog.aon with heldOwed := false } } 0x0010
      (leBytes 4 s.copyAonLog.aon.lastHold.toNat) :=
  (if_pos h).trans (State.aonNote_of_up _ _ _ rfl)

theorem State.takeAon_of_notOwed (h : s.copyAonLog.aon.heldOwed = false) : s.takeAon = s.copyAonLog :=
  if_neg (Bool.eq_false_iff.mp h)

/-- The hand-over changes AON and the history alone, and leaves the slots. -/
theorem State.takeAon_spec (s : State) :
    s.takeAon.aon.Taken ∧ s.persist.SameImages s.takeAon.persist ∧
    s.takeAon = { s with persist := s.takeAon.persist, recorder := s.takeAon.recorder, lanes := s.takeAon.lanes,
                         aon := s.takeAon.aon } := by
  obtain ⟨himages, hup, hlog⟩ := s.copyAonLog_spec
  cases howed : s.copyAonLog.aon.heldOwed with
  | true =>
    rw [State.takeAon_of_owed howed]
    exact ⟨⟨hup, hlog, rfl⟩, himages, rfl⟩
  | false =>
    rw [State.takeAon_of_notOwed howed]
    exact ⟨⟨hup, hlog, howed⟩, himages, rfl⟩

theorem Persist.scanLogs_dtMark (p : Persist) : p.scanLogs.dtMark = p.dtMark := by
  unfold Persist.scanLogs
  dsimp only
  split <;> rfl

/-- The device as MGT starts: its logs looked at and device time seeded (R615, R620). -/
def State.scanned (s : State) : State := { s with persist := s.persist.scanLogs }.seedTime

theorem exec_arrayCheckDone (s : State) : exec .arrayCheckDone s =
    .next (if s.atStep 3 then
      let t := s.scanned.takeAon
      let t := t.commitNote 0x0201
        (leBytes 1 (causeCode t.start.cause) ++ leBytes 1 t.start.entry.toNat ++ leBytes 1 (bit t.aon.rtcInvalid))
      { t with start := { t.start with phase := 4 } }
    else s) := rfl

theorem arrayCheckDone_spec (hp : s.power.state = .starting) (hn : s.start.phase = 3) :
    Completes .arrayCheckDone s fun t =>
      t.start = { s.start with phase := 4 } ∧ t.dev = max s.recorder.lastDt s.persist.dtMark + 1000 ∧ t.aon.Taken := by
  obtain ⟨htaken, -, hframe⟩ := s.scanned.takeAon_spec
  refine ⟨_, (exec_arrayCheckDone s).trans (congrArg Host.Outcome.next (if_pos (State.atStep_of_phase hp hn))), ?_, ?_,
    htaken⟩
  · change { s.scanned.takeAon.start with phase := 4 } = { s.start with phase := 4 }
    rw [hframe]
    rfl
  · change s.scanned.takeAon.dev = _
    rw [hframe, ← s.persist.scanLogs_dtMark]
    rfl

/-! ### What applying an image leaves (R161, R171, R172) -/

/-- The start, the tempo, AON and the image in force of `t` are those of `s`. -/
structure State.SameBoot (s t : State) : Prop where
  start : t.start = s.start
  tempo : t.tempo = s.tempo
  aon : t.aon = s.aon
  image : t.image = s.image

theorem State.SameBoot.refl (s : State) : s.SameBoot s := ⟨rfl, rfl, rfl, rfl⟩

theorem State.SameBoot.trans {a b c : State} (h : a.SameBoot b) (g : b.SameBoot c) : a.SameBoot c :=
  ⟨g.start.trans h.start, g.tempo.trans h.tempo, g.aon.trans h.aon, g.image.trans h.image⟩

theorem State.SameBoot.foldl {α : Type} {f : State → α → State} (hf : ∀ (s : State) x, s.SameBoot (f s x)) (xs : List α)
    (s : State) : s.SameBoot (xs.foldl f s) := by
  induction xs generalizing s with
  | nil => exact .refl s
  | cons x xs ih => exact (hf s x).trans (ih _)

theorem State.loadParam_sameBoot (s : State) (p : Nat × Word) : s.SameBoot (s.loadParam p) := by
  unfold State.loadParam
  split
  · exact .refl s
  · split <;> exact ⟨rfl, rfl, rfl, rfl⟩

theorem State.setReg_sameBoot (s : State) (r : Reg) (idx : List Nat) (w : Word) : s.SameBoot (s.setReg r idx w) :=
  ⟨rfl, rfl, rfl, rfl⟩

theorem State.loadLepModes_sameBoot (s : State) (im : Image) : s.SameBoot (s.loadLepModes im) :=
  .foldl (fun t (p : PinRec) => t.setReg_sameBoot .SFI_LEPCFG [p.pad - 231] (p.func.setWidth 32)) _ s

theorem State.loadOverlay_sameBoot (s : State) (im : Image) (slotB : Bool) : s.SameBoot (s.loadOverlay im slotB) := by
  unfold State.loadOverlay
  dsimp only
  split
  · exact ⟨rfl, rfl, rfl, rfl⟩
  · split
    · exact ⟨rfl, rfl, rfl, rfl⟩
    · split
      · refine .trans ?_ (State.SameBoot.foldl State.loadParam_sameBoot _ _)
        exact ⟨rfl, rfl, rfl, rfl⟩
      · exact ⟨rfl, rfl, rfl, rfl⟩

/-- The device with an image in force, before its parameters. -/
def State.withImage (s : State) (im : Image) (slotB : Bool) : State :=
  { s with
    image := some im
    start := { s.start with slot := if slotB then 2 else 1, fallback := slotB, phase := 5 }
    tempo := { s.tempo with mode := im.tempo, pendingTarget := im.tempo }
    aon := { s.aon with vaultWatch := im.hasTile 0x0A [0], tampPads := im.tampPads } }

theorem State.applyImage_sameBoot (s : State) (im : Image) (slotB : Bool) :
    (s.withImage im slotB).SameBoot (s.applyImage im slotB) := by
  have hparams := State.SameBoot.foldl State.loadParam_sameBoot im.params
  have hend (t : State) (x : DefRes) : t.SameBoot { t.adoptBaud with defres := x } := ⟨rfl, rfl, rfl, rfl⟩
  exact (State.setReg_sameBoot _ .SYS_TEMPO [] _).trans (.trans (State.loadLepModes_sameBoot _ im)
    ((hparams _).trans ((State.loadOverlay_sameBoot _ im slotB).trans (hend _ _))))

/-! ### Step 4 (R127 to R129, R628) -/

/-- The device once MGT has AON's log. -/
def State.aonTaken (s : State) : State := if s.aon.mgtUp then s else s.takeAon

theorem exec_imageLoad_of_step (hp : s.power.state = .starting) (hn : s.start.phase = 4) :
    exec .imageLoad s = .next s.aonTaken.loadImage :=
  congrArg Host.Outcome.next (if_pos (State.atStep_of_phase hp hn))

theorem State.aonTaken_spec (s : State) :
    s.persist.SameImages s.aonTaken.persist ∧ s.aonTaken.start = s.start ∧ s.aonTaken.image = s.image := by
  unfold State.aonTaken
  split
  · exact ⟨.refl _, rfl, rfl⟩
  · obtain ⟨-, himages, hframe⟩ := s.takeAon_spec
    exact ⟨himages, by rw [hframe], by rw [hframe]⟩

/-- The device as the load begins: SKIPPED speaks of this start (R185). -/
def State.loadBegun (s : State) : State := { s with loader := { s.loader with skipped := false } }

theorem State.loadImage_eq (s : State) :
    s.loadImage =
      match checkSlot s.persist s.persist.slotA with
      | .inr im => s.loadBegun.applyImage im false
      | .inl a =>
        let t := s.loadBegun.slotFail false a
        match checkSlot t.persist t.persist.slotB with
        | .inr im => (t.commitNote 0x0211).applyImage im true
        | .inl b => ((t.slotFail true b).commitNote 0x0212).block 1 := rfl

theorem State.loadImage_of_slotA {im : Image} (ha : checkSlot s.persist s.persist.slotA = .inr im) :
    s.loadImage = s.loadBegun.applyImage im false := by
  rw [State.loadImage_eq, ha]

/-- Slot B is checked as it stood before the record of slot A's failure. -/
theorem State.checkSlotB_slotFail (s : State) (a : Nat) :
    checkSlot (s.loadBegun.slotFail false a).persist (s.loadBegun.slotFail false a).persist.slotB =
      checkSlot s.persist s.persist.slotB := by
  have hsame : s.persist.SameImages (s.loadBegun.slotFail false a).persist := State.commitNote_sameImages _ _ _
  rw [hsame.checkSlot_eq, hsame.slotB]

theorem State.loadImage_of_slotB {im : Image} {a : Nat} (ha : checkSlot s.persist s.persist.slotA = .inl a)
    (hb : checkSlot s.persist s.persist.slotB = .inr im) :
    s.loadImage = ((s.loadBegun.slotFail false a).commitNote 0x0211).applyImage im true := by
  rw [State.loadImage_eq, ha]
  dsimp only
  rw [s.checkSlotB_slotFail, hb]

theorem State.loadImage_of_none {a b : Nat} (ha : checkSlot s.persist s.persist.slotA = .inl a)
    (hb : checkSlot s.persist s.persist.slotB = .inl b) :
    s.loadImage = (((s.loadBegun.slotFail false a).slotFail true b).commitNote 0x0212).block 1 := by
  rw [State.loadImage_eq, ha]
  dsimp only
  rw [s.checkSlotB_slotFail, hb]

/-- The start at step 5, its image from slot A or slot B (R137, R161). -/
def Start.loaded (x : Start) (slotB : Bool) : Start := { x with slot := if slotB then 2 else 1, fallback := slotB, phase := 5 }

/-- Start `x` has gone on to step 5 with an image from a slot. -/
structure State.Loaded (t : State) (x : Start) (im : Image) (slotB : Bool) : Prop where
  image : t.image = some im
  start : t.start = x.loaded slotB
  tempo : t.tempo.mode = im.tempo
  vaultWatch : t.aon.vaultWatch = im.hasTile 0x0A [0]

theorem State.applyImage_loaded (s : State) (im : Image) (slotB : Bool) : (s.applyImage im slotB).Loaded s.start im slotB :=
  have hsame := s.applyImage_sameBoot im slotB
  ⟨hsame.image, hsame.start, congrArg Tempo.mode hsame.tempo, congrArg Aon.vaultWatch hsame.aon⟩

theorem imageLoad_of_slotA {im : Image} (hp : s.power.state = .starting) (hn : s.start.phase = 4)
    (ha : checkSlot s.persist s.persist.slotA = .inr im) : Completes .imageLoad s fun t => t.Loaded s.start im false := by
  obtain ⟨himages, hstart, -⟩ := s.aonTaken_spec
  rw [← himages.checkSlot_eq, ← himages.slotA] at ha
  obtain ⟨himage, hload, htempo, hwatch⟩ := s.aonTaken.loadBegun.applyImage_loaded im false
  exact ⟨_, by rw [exec_imageLoad_of_step hp hn, State.loadImage_of_slotA ha], himage,
    hload.trans (congrArg (Start.loaded · false) hstart), htempo, hwatch⟩

theorem imageLoad_of_slotB {im : Image} {a : Nat} (hp : s.power.state = .starting) (hn : s.start.phase = 4)
    (ha : checkSlot s.persist s.persist.slotA = .inl a) (hb : checkSlot s.persist s.persist.slotB = .inr im) :
    Completes .imageLoad s fun t => t.Loaded { s.start with failA := BitVec.ofNat 4 a } im true := by
  obtain ⟨himages, hstart, -⟩ := s.aonTaken_spec
  rw [← himages.checkSlot_eq, ← himages.slotA] at ha
  rw [← himages.checkSlot_eq, ← himages.slotB] at hb
  obtain ⟨himage, hload, htempo, hwatch⟩ :=
    ((s.aonTaken.loadBegun.slotFail false a).commitNote 0x0211).applyImage_loaded im true
  exact ⟨_, by rw [exec_imageLoad_of_step hp hn, State.loadImage_of_slotB ha hb], himage,
    hload.trans (congrArg (fun x : Start => Start.loaded { x with failA := BitVec.ofNat 4 a } true) hstart), htempo, hwatch⟩

/-- A failed slot shows its code in SYS_BOOT (R137). -/
theorem State.slotFail_spec (s : State) (slotB : Bool) (code : Nat) :
    (s.slotFail slotB code).image = s.image ∧ (s.slotFail slotB code).start =
      if slotB then { s.start with failB := BitVec.ofNat 4 code } else { s.start with failA := BitVec.ofNat 4 code } :=
  ⟨rfl, rfl⟩

/-- Both slots failed: BLOCK 1 with both codes, and the image in force as before (R129). -/
theorem State.slotFails_spec (s : State) (a b : Nat) :
    (((s.slotFail false a).slotFail true b).commitNote 0x0212).image = s.image ∧
    (((s.slotFail false a).slotFail true b).commitNote 0x0212).start =
      { s.start with failA := BitVec.ofNat 4 a, failB := BitVec.ofNat 4 b } := by
  obtain ⟨himageA, hstartA⟩ := s.slotFail_spec false a
  obtain ⟨himageB, hstartB⟩ := (s.slotFail false a).slotFail_spec true b
  refine ⟨himageB.trans himageA, hstartB.trans ?_⟩
  rw [if_pos rfl, hstartA]
  rfl

theorem imageLoad_of_none {a b : Nat} (hp : s.power.state = .starting) (hn : s.start.phase = 4)
    (ha : checkSlot s.persist s.persist.slotA = .inl a) (hb : checkSlot s.persist s.persist.slotB = .inl b) :
    Completes .imageLoad s fun t =>
      t.image = s.image ∧ t.start.phase = 0xE ∧ t.start.block = 1 ∧ t.start.failA = BitVec.ofNat 4 a ∧
      t.start.failB = BitVec.ofNat 4 b ∧ t.aon.timeouts = 0 := by
  obtain ⟨himages, -, himage⟩ := s.aonTaken_spec
  rw [← himages.checkSlot_eq, ← himages.slotA] at ha
  rw [← himages.checkSlot_eq, ← himages.slotB] at hb
  obtain ⟨hkept, hcodes⟩ := s.aonTaken.loadBegun.slotFails_spec a b
  exact ⟨_, (exec_imageLoad_of_step hp hn).trans (congrArg Host.Outcome.next (State.loadImage_of_none ha hb)),
    hkept.trans himage, rfl, rfl, congrArg Start.failA hcodes, congrArg Start.failB hcodes, rfl⟩

/-! ### Step 6 (R84, R123, R161) -/

theorem exec_islandStart (s : State) : exec .islandStart s =
    .next (if s.atStep 6 then match s.image with
      | some im => s.startIslands im
      | none => s
    else s) := rfl

theorem State.rescueMode_frame (s : State) : s.rescueMode = { s with rescue := s.rescueMode.rescue } := by
  unfold State.rescueMode
  split
  · split <;> rfl
  · rfl

/-- Every island starts under the gate of the image, with the clearances of R490 in effect. -/
theorem State.startIslands_spec (s : State) (im : Image) :
    (s.startIslands im).start = { s.start with rsti := [], phase := 7 } ∧
    (s.startIslands im).power = { s.power with gate := im.gateBits } ∧ (s.startIslands im).image = s.image ∧
    (s.startIslands im).persist = s.persist.clearQuarantine ∧ (s.startIslands im).aon = s.aon := by
  unfold State.startIslands State.startMotion
  dsimp only
  rw [State.rescueMode_frame]
  split <;> exact ⟨rfl, rfl, rfl, rfl, rfl⟩

/-- Settles O11: the rails, the array check and the image load take the start from step to step, and step 6 starts the islands. -/
theorem startLoadsTheImageAndStartsIslands : Obligations.StartLoadsTheImageAndStartsIslands := by
  unfold Obligations.StartLoadsTheImageAndStartsIslands
  intro s
  refine ⟨fun hp hn hf => ?rails, fun h => exec_railsGood_of_other h,
    fun rail hp hn hf => exec_railTimeout_of_first rail hp hn hf,
    fun rail hp hn hf hdown => exec_railTimeout_of_second rail hp hn hf hdown, fun hp hn => ?array, fun hn => ?otherArray,
    fun im hp hn ha => ?slotA, fun im a hp hn ha hb => ?slotB, fun a b hp hn ha hb => imageLoad_of_none hp hn ha hb,
    fun im hp hn him => ?islands, fun hn => ?otherIslands⟩
  case rails => rw [exec_railsGood, State.atStep_of_phase hp hn, Bool.true_and, if_pos (bne_iff_ne.mpr hf)]
  case array =>
    obtain ⟨t, hexec, hstart, hdev, hup, hlog, howed⟩ := arrayCheckDone_spec hp hn
    exact ⟨t, hexec, hstart, hdev, hup, hlog, howed⟩
  case otherArray => rw [exec_arrayCheckDone, State.atStep_of_otherPhase hn, if_neg Bool.false_ne_true]
  case slotA =>
    obtain ⟨t, hexec, himage, hstart, htempo, hwatch⟩ := imageLoad_of_slotA hp hn ha
    refine ⟨t, hexec, himage, ?_⟩
    rw [hstart]
    exact ⟨rfl, rfl, rfl, rfl, htempo, hwatch⟩
  case slotB =>
    obtain ⟨t, hexec, himage, hstart, htempo, -⟩ := imageLoad_of_slotB hp hn ha hb
    refine ⟨t, hexec, himage, ?_⟩
    rw [hstart]
    exact ⟨rfl, rfl, rfl, rfl, htempo⟩
  case islands =>
    obtain ⟨hstart, hpower, himage, hpersist, haon⟩ := s.startIslands_spec im
    refine ⟨s.startIslands im, ?_, hstart, hpower, himage.trans him, hpersist, haon⟩
    rw [exec_islandStart, State.atStep_of_phase hp hn, him, if_pos rfl]
  case otherIslands => rw [exec_islandStart, State.atStep_of_otherPhase hn, if_neg Bool.false_ne_true]

end Sys2Proof.Machine
end

section
/-! SUPPORT. The targeted test of a block of PWR, whose BLOCK_TEST record goes to PWR's own tap (R488, R512). -/

namespace Sys2Proof.Machine

/-- A device with SFI started and nothing under test. -/
def sfiStarted : State := { State.reset with start := { Start.reset with rsti := [] } }

/-- The same device with the block of PWR under its targeted self-test. -/
def pwrUnderTest : State :=
  { sfiStarted with react := { FaultReact.reset with testing := [(3, 0, 0x55)] } }

/-- A block error of PWR begins that test. -/
theorem exec_blockError_sfiStarted : exec (.blockError 3 0x55) sfiStarted = .next pwrUnderTest := rfl

theorem exec_blockTest (b : Fin 24) (pass : Bool) (us : BitVec 16) (s : State) :
    exec (.blockTest b pass us) s = .next (s.blockTest b.val pass us) := rfl

/-- Block 3 is of island 1, so the record of its test stands in PWR's tap (R17, R512). -/
theorem pwrTap_blockTest_pwrUnderTest :
    (pwrUnderTest.blockTest 3 true 20).recorder.taps.get RecTap.reset 1 ≠
      pwrUnderTest.recorder.taps.get RecTap.reset 1 := by decide

/-- Refutes O56: its clause on BLOCK_TEST leaves out the taps of islands 0, 1, 2 and 10, but the record of R488 goes to the tap of
the block's own island, and blocks 23, 3, 11 and 5 are of these. A passed test of PWR's block writes in tap 1. -/
theorem not_safetyAndBusCommandsChangeOnlyTheirPart : ¬ Obligations.SafetyAndBusCommandsChangeOnlyTheirPart := by
  unfold Obligations.SafetyAndBusCommandsChangeOnlyTheirPart
  intro h
  obtain ⟨-, -, -, -, -, -, -, -, -, -, -, -, -, -, -, -, -, -, -, -, -, -, -, hblockTest, -⟩ :=
    h (.blockTest 3 true 20) pwrUnderTest _ (exec_blockTest 3 true 20 pwrUnderTest)
  obtain ⟨-, -, htaps⟩ := hblockTest 3 true 20 rfl
  exact pwrTap_blockTest_pwrUnderTest (htaps 1 (by decide))

end Sys2Proof.Machine
end

section
/-! SUPPORT. What the acts before a reset change, and a reset with cause START_TIMEOUT (R116 to R118, R133, R134). -/

namespace Sys2Proof.Machine

/-- `t` is `s` but for what MGT and PWR keep in store: the array, the records, the lanes and registers, PWR's held changes, the
session and the loader. -/
def State.Archived (s t : State) : Prop :=
  t = { s with persist := t.persist, recorder := t.recorder, lanes := t.lanes, regs := t.regs, supplies := t.supplies,
               session := t.session, loader := t.loader }

variable (s : State)

theorem State.Archived.refl : s.Archived s := rfl

theorem State.Archived.trans {a b c : State} (h : a.Archived b) (g : b.Archived c) : a.Archived c :=
  Eq.trans g (by rw [h])

theorem State.Archived.foldl {α : Type} {f : State → α → State} (hf : ∀ (s : State) x, s.Archived (f s x))
    (xs : List α) : s.Archived (xs.foldl f s) := by
  induction xs generalizing s with
  | nil => exact .refl s
  | cons x xs ih => exact (hf s x).trans (ih _)

theorem State.Archived.aon {s t : State} (h : s.Archived t) : t.aon = s.aon := by rw [h]

theorem State.withHist_archived (h : Hist) : s.Archived (s.withHist h) := rfl

/-! ### The acts before a reset (R98, R116, R176, R510, R623) -/

theorem State.abandonTest_archived (t : Nat × Nat × BitVec 16) : s.Archived (s.abandonTest t) := rfl

theorem State.storeDtmark_archived : s.Archived s.storeDtmark := by
  unfold State.storeDtmark
  split
  · exact rfl
  · exact .refl s

theorem State.pfailChange_archived (on : Bool) : s.Archived (s.pfailChange on) := by
  unfold State.pfailChange State.atPwr
  split
  · exact .refl s
  · cases on with
    | false => exact rfl
    | true => exact .trans (rfl : s.Archived ((s.note 0x0101).withHist _).storeQrem) (State.storeDtmark_archived _)

theorem State.releasePfail_archived : s.Archived s.releasePfail :=
  .trans (rfl : s.Archived { s with supplies := { s.supplies with pfailHeld := [] } })
    (State.Archived.foldl _ State.pfailChange_archived _)

theorem State.closeWindow_archived : s.Archived s.closeWindow := by
  unfold State.closeWindow
  split
  · exact .refl s
  · exact rfl

theorem State.endSession_archived (cause : Nat) : s.Archived (s.endSession cause) := by
  unfold State.endSession
  split
  · exact s.closeWindow_archived.trans rfl
  · exact .refl s

theorem State.shutSession_archived (cause : Nat) : s.Archived (s.shutSession cause) := by
  unfold State.shutSession
  split
  · exact (s.endSession_archived cause).trans rfl
  · exact .refl s

theorem State.lockSession_archived (cause : Nat) : s.Archived (s.lockSession cause) := by
  unfold State.lockSession
  split
  · exact (s.shutSession_archived cause).trans rfl
  · exact .refl s

theorem State.beforeReset_archived (reload : Bool) : s.Archived (s.beforeReset reload) := by
  have hopen : s.Archived (s.react.testing.foldl State.abandonTest s).releasePfail :=
    (State.Archived.foldl _ State.abandonTest_archived _).trans (State.releasePfail_archived _)
  unfold State.beforeReset
  dsimp only
  split
  · exact hopen.trans ((State.shutSession_archived _ 2).trans rfl)
  · have hlocked := hopen.trans ((State.lockSession_archived _ 2).trans (c := State.flushLanes _) rfl)
    split
    · exact hlocked.trans (State.withHist_archived _ _)
    · exact hlocked

/-! ### The reset and the start that follows -/

/-- AON after a reset of MGT, with its start counters as they were. -/
theorem State.wipe_aon (keepPwr : Bool) : (s.wipe keepPwr false).aon = { s.aon with mgtUp := false } := by
  cases keepPwr <;> rfl

/-- A reset with cause START_TIMEOUT keeps the count of timeouts and of starts, and lets go of step 1 (R134). -/
theorem State.toReset_startTimeout_aon :
    (s.toReset .startTimeout).aon = { s.aon with mgtUp := false, loopHeld := false, wakeWaiting := none } := by
  change { ((s.beforeReset false).wipe false false).aon with
    timeouts := ((s.beforeReset false).wipe false false).aon.timeouts, loopHeld := false, wakeWaiting := none } = _
  rw [State.wipe_aon, (s.beforeReset_archived false).aon]

end Sys2Proof.Machine
end

section
/-! SUPPORT. Steps 7 to 9 of the start and its supervision (R123, R126, R130 to R134, R138). -/

namespace Sys2Proof.Machine

variable {s : State}

/-! ### Step 7 (R130, R131) -/

/-- The failures that count: those named and the calibrations', of tests that apply to a block that is not quarantined. -/
def State.failuresRun (s : State) (fails : List SelfTestFail) : List SelfTestFail :=
  (fails ++ s.calFails).filter fun f =>
    s.testApplies f.row.val f.instance_ && !s.quarantined (testBlock f.row.val f.instance_)

/-- The device with the outcomes of its start calibrations taken. -/
def State.calibrationsTaken (s : State) : State :=
  { s with motors := s.motors.map fun e => (e.1, { e.2 with startCal := 0 }) }

/-- The device with the tests that passed on their repeat counted. -/
def State.repeatsCounted (s : State) (fails : List SelfTestFail) : State :=
  ((s.failuresRun fails).filter (·.repeatPass)).foldl State.startTransient s.calibrationsTaken

/-- The tests that failed twice. -/
def State.lastingFailures (s : State) (fails : List SelfTestFail) : List SelfTestFail :=
  (s.failuresRun fails).filter fun f => !f.repeatPass

theorem exec_selftestComplete (fails : List SelfTestFail) (s : State) : exec (.selftestComplete fails) s =
    .next (if s.atStep 7 && !s.calibrating then
      if (s.lastingFailures fails).isEmpty then (s.repeatsCounted fails).testsPassed
      else ((s.lastingFailures fails).foldl State.selftestFail (s.repeatsCounted fails)).blockTests
    else s) := rfl

theorem exec_selftestComplete_of_idle (fails : List SelfTestFail) (h : s.start.phase ≠ 7 ∨ s.calibrating = true) :
    exec (.selftestComplete fails) s = .next s := by
  rw [exec_selftestComplete, if_neg]
  obtain h | h := h
  · rw [State.atStep_of_otherPhase h, Bool.false_and]
    exact Bool.false_ne_true
  · simp [h]

theorem State.failuresRun_nil (h : s.calFails = []) : s.failuresRun [] = [] := by
  rw [State.failuresRun, h]
  rfl

/-- A test that applies, of a block that is not quarantined, counts its failure (R130). -/
theorem State.failuresRun_of_applied (h : s.calFails = []) {f : SelfTestFail}
    (happ : s.testApplies f.row.val f.instance_ = true) (hq : s.quarantined (testBlock f.row.val f.instance_) = false) :
    s.failuresRun [f] = [f] := by
  rw [State.failuresRun, h, List.append_nil]
  refine List.filter_eq_self.mpr fun g hg => ?_
  rw [List.mem_singleton.mp hg, happ, hq]
  rfl

/-- A test of what is absent or quarantined counts nothing (R130, R489). -/
theorem State.failuresRun_of_unapplied (h : s.calFails = []) {f : SelfTestFail}
    (hno : s.testApplies f.row.val f.instance_ = false ∨ s.quarantined (testBlock f.row.val f.instance_) = true) :
    s.failuresRun [f] = [] := by
  rw [State.failuresRun, h, List.append_nil]
  refine List.filter_eq_nil_iff.mpr fun g hg => ?_
  rw [List.mem_singleton.mp hg]
  obtain hno | hno := hno <;> simp [hno]

/-- A calibration that failed twice is a failure of row 6 (R130, R131). -/
theorem State.mem_calFails {i : Nat} (hi : i < 4) (h : (s.mc.motor i).startCal = 3) :
    { row := 6, instance_ := i, repeatPass := false } ∈ s.calFails :=
  List.mem_map.mpr ⟨i, List.mem_filter.mpr ⟨List.mem_range.mpr hi, by simp [h]⟩, by simp [h]⟩

theorem State.mem_failuresRun_of_calibration {i : Fin 4} (h : (s.mc.motor i.val).startCal = 3)
    (htile : (s.tile 3 i.val).isSome = true) (hq : s.quarantined (12 + i.val) = false) :
    { row := 6, instance_ := i.val, repeatPass := false } ∈ s.failuresRun [] := by
  have hblock : testBlock 6 i.val = 12 + i.val := congrArg (12 + ·) (Nat.mod_eq_of_lt i.isLt)
  refine List.mem_filter.mpr ⟨State.mem_calFails i.isLt h, ?_⟩
  change ((s.tile 3 i.val).isSome && !s.quarantined (testBlock 6 i.val)) = true
  rw [htile, hblock, hq]
  rfl

theorem State.runSf_frame (s : State) (ok : Bool) (f : Sf → Sf) :
    (s.runSf ok f).start = s.start ∧ (s.runSf ok f).image = s.image := by
  unfold State.runSf
  split <;> exact ⟨rfl, rfl⟩

theorem State.leaseImage_congr {t : State} (h : t.image = s.image) : t.leaseImage = s.leaseImage := by
  unfold State.leaseImage State.tile
  rw [h]

/-- Without a lease gate step 7 leads to step 9 (R123). -/
theorem State.testsPassed_of_noLease (h : s.leaseImage = false) :
    s.testsPassed.start = { s.start with phase := 9 } ∧ s.testsPassed.image = s.image := by
  obtain ⟨hstart, himage⟩ := s.runSf_frame (!s.quarantined 1 && !s.quarantined 2) Sf.startPasses
  have hno : ¬ State.leaseImage _ = true := Bool.eq_false_iff.mp ((State.leaseImage_congr himage).trans h)
  unfold State.testsPassed
  rw [if_neg hno]
  exact ⟨congrArg (fun x : Start => { x with phase := 9 }) hstart, himage⟩

/-- BLOCK 3: the islands are in reset again and READY is released, with the records as they stand (R51, R131). -/
theorem State.blockTests_spec (s : State) :
    s.blockTests.start.phase = 0xE ∧ s.blockTests.start.block = 3 ∧ s.blockTests.start.readyPad = .highZ ∧
    s.blockTests.start.rsti = Start.reset.rsti ∧ s.blockTests.lattice = Lattice.reset ∧ s.blockTests.hist = s.hist :=
  ⟨rfl, rfl, rfl, rfl, rfl, rfl⟩

theorem State.hist_selftestFail (s : State) (f : SelfTestFail) :
    (s.selftestFail f).hist = s.hist.own 0x0220
      [BitVec.ofNat 8 (blockIsland (testBlock f.row.val f.instance_)), BitVec.ofNat 8 f.row.val] :=
  s.hist_commitNote 0x0220 _

section

variable (hp : s.power.state = .starting) (hn : s.start.phase = 7) (hcal : s.calibrating = false)
include hp hn hcal

theorem exec_selftestComplete_of_due (fails : List SelfTestFail) : exec (.selftestComplete fails) s =
    .next (if (s.lastingFailures fails).isEmpty then (s.repeatsCounted fails).testsPassed
      else ((s.lastingFailures fails).foldl State.selftestFail (s.repeatsCounted fails)).blockTests) := by
  rw [exec_selftestComplete, State.atStep_of_phase hp hn, hcal]
  exact congrArg Host.Outcome.next (if_pos rfl)

theorem exec_selftestComplete_of_noFailure {fails : List SelfTestFail} (hrun : s.failuresRun fails = []) :
    exec (.selftestComplete fails) s = .next s.calibrationsTaken.testsPassed := by
  rw [exec_selftestComplete_of_due hp hn hcal, State.lastingFailures, State.repeatsCounted, hrun]
  rfl

theorem exec_selftestComplete_of_oneFailure {fails : List SelfTestFail} {f : SelfTestFail}
    (hrun : s.failuresRun fails = [f]) (hf : f.repeatPass = false) :
    exec (.selftestComplete fails) s = .next (s.calibrationsTaken.selftestFail f).blockTests := by
  have hlasting : s.lastingFailures fails = [f] := by simp [State.lastingFailures, hrun, hf]
  have hcounted : s.repeatsCounted fails = s.calibrationsTaken := by simp [State.repeatsCounted, hrun, hf]
  rw [exec_selftestComplete_of_due hp hn hcal, hlasting, hcounted]
  rfl

theorem exec_selftestComplete_of_failure {fails : List SelfTestFail} {f : SelfTestFail}
    (hrun : f ∈ s.failuresRun fails) (hf : f.repeatPass = false) :
    ∃ t, exec (.selftestComplete fails) s = .next (State.blockTests t) := by
  have hlasting : f ∈ s.lastingFailures fails := List.mem_filter.mpr ⟨hrun, by simp [hf]⟩
  rw [exec_selftestComplete_of_due hp hn hcal, if_neg fun hnone => List.ne_nil_of_mem hlasting (List.isEmpty_iff.mp hnone)]
  exact ⟨_, rfl⟩

theorem selftestComplete_passes {fails : List SelfTestFail} (hrun : s.failuresRun fails = []) (hlease : s.leaseImage = false) :
    Completes (.selftestComplete fails) s fun t => t.start = { s.start with phase := 9 } ∧ t.image = s.image :=
  ⟨_, exec_selftestComplete_of_noFailure hp hn hcal hrun, State.testsPassed_of_noLease (s := s.calibrationsTaken) hlease⟩

theorem selftestComplete_fails {f : SelfTestFail} (hrun : s.failuresRun [f] = [f]) (hf : f.repeatPass = false) :
    Completes (.selftestComplete [f]) s fun t =>
      t.start.phase = 0xE ∧ t.start.block = 3 ∧ t.start.readyPad = .highZ ∧ t.start.rsti = Start.reset.rsti ∧
      t.lattice = Lattice.reset ∧ t.hist = s.hist.own 0x0220
        [BitVec.ofNat 8 (blockIsland (testBlock f.row.val f.instance_)), BitVec.ofNat 8 f.row.val] := by
  obtain ⟨hphase, hblock, hpad, hrsti, hlattice, hhist⟩ := (s.calibrationsTaken.selftestFail f).blockTests_spec
  exact ⟨_, exec_selftestComplete_of_oneFailure hp hn hcal hrun hf, hphase, hblock, hpad, hrsti, hlattice,
    hhist.trans (State.hist_selftestFail _ f)⟩

theorem selftestComplete_calibrationFails {i : Fin 4} (h3 : (s.mc.motor i.val).startCal = 3)
    (htile : (s.tile 3 i.val).isSome = true) (hq : s.quarantined (12 + i.val) = false) :
    Completes (.selftestComplete []) s fun t => t.start.phase = 0xE ∧ t.start.block = 3 := by
  obtain ⟨t, hexec⟩ := exec_selftestComplete_of_failure hp hn hcal (State.mem_failuresRun_of_calibration h3 htile hq) rfl
  exact ⟨_, hexec, rfl, rfl⟩

end

/-! ### Steps 8 and 9 (R91, R126, R132, R138) -/

theorem exec_leaseAcquisitionTimeout (s : State) : exec .leaseAcquisitionTimeout s =
    .next (if s.atStep 8 then { s with start := { s.start with phase := 9 } } else s) := rfl

/-- The device in RUN, before its READY line and its records. -/
def State.madeReady (s : State) : State :=
  { s with
    start := { s.start with ready := true, startUs := satWordU s.start.elapsed }
    power := { s.power with state := .run }
    aon := { s.aon with timeouts := 0 }
    ports := { s.ports with irqReady := true } }

theorem exec_startReady (s : State) : exec .startReady s =
    .next (if s.atStep 9 && !s.start.ready then
      let t := (s.madeReady.driveReady .high).recordWake
      let t := t.commitNote 0x0202
        (wordBytes (satWordU s.start.elapsed) ++ leBytes 1 t.start.slot.toNat ++ leBytes 1 t.startTempo)
      t.withFc t.fc.autostart
    else s) := rfl

theorem exec_startReady_of_other (h : s.start.phase ≠ 9 ∨ s.start.ready = true) : exec .startReady s = .next s := by
  rw [exec_startReady, if_neg]
  obtain h | h := h
  · rw [State.atStep_of_otherPhase h, Bool.false_and]
    exact Bool.false_ne_true
  · simp [h]

/-- WAKESRC takes the source of the wake, and nothing else of the power, the start or AON changes (R91). -/
theorem State.recordWake_spec (s : State) :
    s.recordWake.start = s.start ∧ s.recordWake.aon = s.aon ∧
    s.recordWake.power = { s.power with wakeSrc := if s.start.cause = .wake then s.power.wakeNext else s.power.wakeSrc } := by
  unfold State.recordWake
  split <;> exact ⟨rfl, rfl, rfl⟩

theorem startReady_spec (hp : s.power.state = .starting) (hn : s.start.phase = 9) (hr : s.start.ready = false) :
    Completes .startReady s fun t =>
      t.start = { s.start with ready := true, startUs := satWordU s.start.elapsed,
                               readyPad := if s.padUsed 25 then .high else s.start.readyPad } ∧
      t.power = { s.power with state := .run,
                               wakeSrc := if s.start.cause = .wake then s.power.wakeNext else s.power.wakeSrc } ∧
      t.aon = { s.aon with timeouts := 0 } := by
  obtain ⟨hstart, haon, hpower⟩ := (s.madeReady.driveReady .high).recordWake_spec
  rw [State.driveReady_eq] at hstart haon hpower
  refine ⟨_, (exec_startReady s).trans (congrArg Host.Outcome.next (if_pos ?_)), ?_⟩
  · rw [State.atStep_of_phase hp hn, hr]
    rfl
  · rw [State.driveReady_eq]
    exact ⟨hstart, hpower, haon⟩

/-! ### Start supervision (R133, R134) -/

/-- The device with one more timeout in a row counted. -/
def State.timeoutCounted (s : State) : State := { s with aon := { s.aon with timeouts := s.aon.timeouts + 1 } }

/-- The device held at step 1 after the fourth timeout. -/
def State.heldAtStep1 (s : State) : State :=
  let t := s.toReset .startTimeout
  { t with aon := { t.aon with loopHeld := true } }

theorem exec_startTimeout (s : State) : exec .startTimeout s =
    .next (if s.supervised then
      if s.aon.timeouts + 1 < 4 then s.timeoutCounted.restart .startTimeout
      else s.timeoutCounted.heldAtStep1.aonNote 0x0011 (leBytes 1 (s.aon.timeouts + 1))
    else s) := rfl

theorem State.restart_startTimeout_aon (s : State) :
    (s.restart .startTimeout).aon =
      { s.aon with mgtUp := false, loopHeld := false, wakeWaiting := none, starts := satInc s.aon.starts } := by
  change { (s.toReset .startTimeout).aon with starts := satInc (s.toReset .startTimeout).aon.starts } = _
  rw [State.toReset_startTimeout_aon]

theorem State.heldAtStep1_aon (s : State) :
    s.heldAtStep1.aon = { s.aon with mgtUp := false, loopHeld := true, wakeWaiting := none } := by
  change { (s.toReset .startTimeout).aon with loopHeld := true } = _
  rw [State.toReset_startTimeout_aon]

/-- While MGT is down an entry goes to AON's log and changes nothing else. -/
theorem State.aonNote_of_down (s : State) (code : Nat) (data : List Byte) (h : s.aon.mgtUp = false) :
    s.aonNote code data = { s with aon := s.aon.logEntry code data } :=
  if_neg (Bool.eq_false_iff.mp h)

theorem Aon.logEntry_spec (a : Aon) (code : Nat) (data : List Byte) :
    (a.logEntry code data).loopHeld = a.loopHeld ∧ (a.logEntry code data).starts = a.starts := by
  unfold Aon.logEntry
  dsimp only
  split <;> exact ⟨rfl, rfl⟩

/-- The hold stands, with its entry in AON's log, and no start is counted. -/
theorem State.heldAtStep1_noted (s : State) (code : Nat) (data : List Byte) :
    (s.heldAtStep1.aonNote code data).start = { Start.reset with phase := 1, entry := 1, cause := .startTimeout } ∧
    (s.heldAtStep1.aonNote code data).image = none ∧ (s.heldAtStep1.aonNote code data).aon.loopHeld = true ∧
    (s.heldAtStep1.aonNote code data).aon.starts = s.aon.starts := by
  have haon := s.heldAtStep1_aon
  obtain ⟨hheld, hstarts⟩ := s.heldAtStep1.aon.logEntry_spec code data
  rw [State.aonNote_of_down _ _ _ (congrArg Aon.mgtUp haon)]
  exact ⟨rfl, rfl, hheld.trans (congrArg Aon.loopHeld haon), hstarts.trans (by rw [haon])⟩

theorem startTimeout_restarts (hsup : s.supervised = true) (hfew : s.aon.timeouts < 3) :
    Completes .startTimeout s fun t =>
      t.start.phase = 1 ∧ t.start.cause = .startTimeout ∧ t.aon.timeouts = s.aon.timeouts + 1 ∧ t.aon.loopHeld = false ∧
      t.aon.starts = satInc s.aon.starts ∧ t.image = none := by
  refine ⟨s.timeoutCounted.restart .startTimeout, ?_, rfl, rfl, ?_⟩
  · rw [exec_startTimeout, if_pos hsup, if_pos (by omega)]
  · rw [State.restart_startTimeout_aon]
    exact ⟨rfl, rfl, rfl, rfl⟩

theorem startTimeout_holds (hsup : s.supervised = true) (hmany : 3 ≤ s.aon.timeouts) :
    Completes .startTimeout s fun t =>
      t.start.phase = 1 ∧ t.start.cause = .startTimeout ∧ t.aon.loopHeld = true ∧ t.aon.starts = s.aon.starts ∧
      t.image = none := by
  obtain ⟨hstart, himage, hheld, hstarts⟩ := s.timeoutCounted.heldAtStep1_noted 0x0011 (leBytes 1 (s.aon.timeouts + 1))
  refine ⟨_, ?_, congrArg Start.phase hstart, congrArg Start.cause hstart, hheld, hstarts, himage⟩
  rw [exec_startTimeout, if_pos hsup, if_neg (by omega)]

/-- Settles O12: the self-tests pass, fail or are not due; the lease wait and READY end the start; the supervision restarts it or
holds it at step 1. -/
theorem startEndsInReadyOrStartsAgain : Obligations.StartEndsInReadyOrStartsAgain := by
  unfold Obligations.StartEndsInReadyOrStartsAgain
  intro s
  refine ⟨fun hp hn hcal hfails hlease => selftestComplete_passes hp hn hcal (State.failuresRun_nil hfails) hlease,
    fun f hp hn hcal hfails hf happ hq =>
      selftestComplete_fails hp hn hcal (State.failuresRun_of_applied hfails happ hq) hf,
    fun f hp hn hcal hfails hlease hno =>
      selftestComplete_passes hp hn hcal (State.failuresRun_of_unapplied hfails hno) hlease,
    fun i hp hn hcal h3 htile hq => selftestComplete_calibrationFails hp hn hcal h3 htile hq,
    fun fails hidle => exec_selftestComplete_of_idle fails hidle, fun hp hn => ?leaseWait, fun hn => ?otherLeaseWait,
    fun hp hn hr => ?ready, fun hother => exec_startReady_of_other hother,
    fun hsup hfew => startTimeout_restarts hsup hfew, fun hsup hmany => startTimeout_holds hsup hmany,
    fun hunsup => ?unsupervised⟩
  case leaseWait => rw [exec_leaseAcquisitionTimeout, State.atStep_of_phase hp hn, if_pos rfl]
  case otherLeaseWait => rw [exec_leaseAcquisitionTimeout, State.atStep_of_otherPhase hn, if_neg Bool.false_ne_true]
  case ready =>
    refine (startReady_spec hp hn hr).imp fun t ⟨hstart, hpower, haon⟩ => ?_
    rw [hstart, hpower, haon]
    exact ⟨rfl, hn, rfl, rfl, rfl, fun hused => if_pos hused, fun hfree => if_neg (Bool.eq_false_iff.mp hfree),
      fun hwake => if_pos hwake⟩
  case unsupervised => rw [exec_startTimeout, if_neg (Bool.eq_false_iff.mp hunsup)]

end Sys2Proof.Machine
end

section
/-! SUPPORT. The state after reset (R118, R136, R177, R616). -/

namespace Sys2Proof.Machine

/-- An empty array is within its bounds. -/
theorem State.reset_arrayInv : State.reset.ArrayInv where
  slotA := rfl
  slotB := rfl
  overlay := Nat.zero_le _
  birth := Nat.zero_le _
  circ := ⟨Nat.zero_le _, Nat.zero_lt_succ _⟩

/-- No word has been stored, so every register reads its reset word. -/
theorem State.reset_reg (r : Reg) (idx : List Nat) : State.reset.reg r idx = r.resetWord := Tbl.get_nil _ _

/-- No safety output has been commanded, so none conducts. -/
theorem State.reset_out (k : Nat) : State.reset.sf.out k = SafetyOut.reset := Tbl.get_nil _ _

/-- Settles O53: the parts of the reset state are empty or at their reset values, and the registers that show a state read as at
step 3 of the start. -/
theorem resetStateHolds : Obligations.ResetStateHolds := by
  unfold Obligations.ResetStateHolds
  exact ⟨rfl, State.reset_arrayInv, rfl, rfl, rfl, fun i => Tbl.get_nil _ i, rfl, rfl, rfl, rfl, rfl, State.reset_reg,
    rfl, rfl, rfl, rfl, rfl, fun k _ => congrArg SafetyOut.on (State.reset_out k)⟩

end Sys2Proof.Machine
end

section
/-! SUPPORT. A word of a producer port on its way into a queue (R189, R193, R200, R207). -/

namespace Sys2Proof.Machine

theorem exec_queueProducerWord (p : BitVec 16) (first last : Bool) (w : Word) (s : State) :
    exec (.queueProducerWord p first last w) s = .next (s.withQf (s.qf.portWord p.toNat first last w)) := rfl

@[simp] theorem Qf.note_fabric (x : Qf) (code : Nat) (data : List Byte) : (x.note code data).fabric = x.fabric := rfl

/-! ### The table of queues -/

@[simp] theorem Fabric.queue_setQueue_self (f : Fabric) (n : Nat) (q : Queue) : (f.setQueue n q).queue n = some q := by
  simp only [Fabric.queue, Fabric.setQueue, Tbl.get_set_self]

theorem Fabric.queue_setQueue_of_ne (f : Fabric) (q : Queue) {n m : Nat} (h : m ≠ n) :
    (f.setQueue n q).queue m = f.queue m := by
  simp only [Fabric.queue, Fabric.setQueue, Tbl.get_set_of_ne _ _ _ h.symm]

/-! ### One word in one queue -/

/-- Whether a queue is full does not turn on its credit (R192, R200). -/
theorem Queue.full_sent (q : Queue) (m : Nat) : Queue.full { q with sent := m } = q.full := rfl

/-- The first word of an item takes the next word place and opens the item (R189). -/
theorem Queue.put_first (q : Queue) (w : Word) (endSeq now : Nat) :
    q.put true false w endSeq now =
      { q with wcnt := q.wcnt + 1, opened := some { start := q.wcnt, words := [w], endSeq := 0, at_ := 0, flaws := [] } } := rfl

/-- A word with both markers is a whole item (R189). -/
theorem Queue.put_whole (q : Queue) (w : Word) (endSeq now : Nat) :
    q.put true true w endSeq now =
      { q with wcnt := q.wcnt + 1, opened := none
               items := q.items ++ [{ start := q.wcnt, words := [w], endSeq := endSeq, at_ := now, flaws := [] }] } := rfl

/-- The word with the end marker makes the open item visible (R189). -/
theorem Queue.put_end {q : Queue} {o : PoolItem} (ho : q.opened = some o) (w : Word) (endSeq now : Nat) :
    q.put false true w endSeq now =
      { q with wcnt := q.wcnt + 1, opened := none
               items := q.items ++ [{ o with words := o.words ++ [w], endSeq := endSeq, at_ := now }] } := by
  simp only [Queue.put, ho, if_true]

/-- Where the oldest item's cell is enough, it alone makes room (R200). -/
theorem Queue.makeRoom_oldest (q : Queue) {it : PoolItem} {rest : List PoolItem}
    (hfull : Queue.full { q with items := it :: rest } = true) (hroom : Queue.full { q with items := rest } = false) :
    q.makeRoom (it :: rest) = ({ q with items := rest }, [it]) := by
  have hrest : q.makeRoom rest = ({ q with items := rest }, []) := by
    cases rest with
    | nil => rfl
    | cons b l => simp only [Queue.makeRoom, hroom, Bool.false_eq_true, if_false]
  simp only [Queue.makeRoom, hfull, if_true, hrest]

/-- One item dropped from a queue without tags adds one to LOST (R200, R204). -/
theorem Qf.countDrops_one (x : Qf) (n : Nat) {q : Queue} (it : PoolItem) (hc : q.route.cmdq = false) :
    ∃ noted, (x.countDrops n q [it]).fabric =
      x.fabric.setQueue n { q with lost := satAdd q.lost 1, lossNotedAt := noted } := by
  simp only [Qf.countDrops, hc, Bool.false_eq_true, if_false, List.length_singleton, apply_ite Qf.fabric, Qf.note_fabric,
    ite_self]
  exact ⟨_, rfl⟩

section
variable {x : Qf} {n : Nat} {q : Queue} {first last : Bool} {w : Word} {seq : Nat}

/-- A BROKEN queue drops the word and counts it in FLUSHDROP (R207). -/
theorem Qf.putWord_of_broken (hq : x.fabric.queue n = some q) (hb : q.broken = true) :
    x.putWord n first last w seq =
      { x with fabric := x.fabric.setQueue n { q with sent := q.sent + 1, flushDrop := satInc q.flushDrop } } := by
  simp only [Qf.putWord, hq, hb, Bool.true_or, if_true]

/-- A queue with a free word place takes the word (R193). -/
theorem Qf.putWord_of_room (hq : x.fabric.queue n = some q) (hb : q.broken = false)
    (hs : (q.skipping && !first) = false) (hf : q.full = false) :
    x.putWord n first last w seq =
      { x with fabric := x.fabric.setQueue n
                ({ q with sent := q.sent + 1, skipping := false : Queue }.put first last w seq x.dev) } := by
  have hkept : (q.broken || q.skipping && !first) = false := by rw [hb, hs, Bool.or_false]
  simp only [Qf.putWord, hq, hkept, Queue.full_sent, hf, Bool.false_eq_true, if_false, Qf.countDrops]

/-- A full queue drops its oldest item, whose cell is enough, and takes the word (R200). -/
theorem Qf.putWord_of_full {it : PoolItem} {rest : List PoolItem} (hq : x.fabric.queue n = some q)
    (hb : q.broken = false) (hs : (q.skipping && !first) = false) (hf : q.full = true) (hi : q.items = it :: rest)
    (hroom : Queue.full { q with items := rest } = false) :
    x.putWord n first last w seq =
      x.countDrops n
        ({ q with sent := q.sent + 1, skipping := false, items := rest : Queue }.put first last w seq x.dev) [it] := by
  have hkept : (q.broken || q.skipping && !first) = false := by rw [hb, hs, Bool.or_false]
  have hroomMade : Queue.makeRoom { q with sent := q.sent + 1, skipping := false } q.items =
      ({ q with sent := q.sent + 1, skipping := false, items := rest }, [it]) := by
    rw [hi]
    exact Queue.makeRoom_oldest _ (hi ▸ hf) hroom
  simp only [Qf.putWord, hq, hkept, Queue.full_sent, hf, hroomMade, Bool.false_eq_true, if_false, if_true]

end

/-! ### A port that feeds one queue -/

section
variable {x : Qf} {port n : Nat} {q : Queue}
  (hs : x.fabric.stopped = false) (hf : x.fabric.built.filter (fun e => e.2.route.producer.toNat == port) = [(n, q)])
include hs hf

/-- A word without the end marker reaches the one queue that the port feeds. -/
theorem Qf.portWord_of_feeds_one (first : Bool) (w : Word) :
    x.portWord port first false w = x.putWord n first false w x.fabric.endSeq := by
  simp only [Qf.portWord, hs, hf, List.foldl_cons, List.foldl_nil, Bool.false_eq_true, if_false]

/-- A word with the end marker also takes the next place in the order of R197. -/
theorem Qf.portWord_end_of_feeds_one (first : Bool) (w : Word) :
    x.portWord port first true w =
      { x.putWord n first true w x.fabric.endSeq with
        fabric := { (x.putWord n first true w x.fabric.endSeq).fabric with endSeq := x.fabric.endSeq + 1 } } := by
  simp only [Qf.portWord, hs, hf, List.foldl_cons, List.foldl_nil, Bool.false_eq_true, if_false, if_true]

end

/-! ### The row, for a port that feeds one queue -/

section
variable {s : State} {p : BitVec 16} {n : Nat} {q : Queue}
  (hs : s.fabric.stopped = false) (hq : s.fabric.queue n = some q)
  (hf : s.fabric.built.filter (fun e => e.2.route.producer.toNat == p.toNat) = [(n, q)])
include hs hq hf

/-- A word with both markers is a whole visible item (R189, R193). -/
theorem completes_producerWord_whole (w : Word) (hb : q.broken = false) (hfull : q.full = false) :
    Completes (.queueProducerWord p true true w) s fun t =>
      t.fabric.queue n = some { q with
        wcnt := q.wcnt + 1, sent := q.sent + 1, skipping := false, opened := none
        items := q.items ++ [{ start := q.wcnt, words := [w], endSeq := s.fabric.endSeq, at_ := s.dev, flaws := [] }] } ∧
      (∀ m, m ≠ n → t.fabric.queue m = s.fabric.queue m) ∧ t.fabric.endSeq = s.fabric.endSeq + 1 ∧
        t.recorder = s.recorder := by
  refine ⟨_, exec_queueProducerWord .., ?_⟩
  rw [Qf.portWord_end_of_feeds_one (x := s.qf) hs hf,
    Qf.putWord_of_room (x := s.qf) hq hb (Bool.and_false _) hfull, Queue.put_whole]
  exact ⟨Fabric.queue_setQueue_self .., fun m hm => Fabric.queue_setQueue_of_ne _ _ hm, rfl, rfl⟩

/-- A word with the start marker alone opens an item (R189, R193). -/
theorem completes_producerWord_first (w : Word) (hb : q.broken = false) (hfull : q.full = false) :
    Completes (.queueProducerWord p true false w) s fun t =>
      t.fabric.queue n = some { q with
        wcnt := q.wcnt + 1, sent := q.sent + 1, skipping := false
        opened := some { start := q.wcnt, words := [w], endSeq := 0, at_ := 0, flaws := [] } } ∧
      (∀ m, m ≠ n → t.fabric.queue m = s.fabric.queue m) ∧ t.recorder = s.recorder := by
  refine ⟨_, exec_queueProducerWord .., ?_⟩
  rw [Qf.portWord_of_feeds_one (x := s.qf) hs hf,
    Qf.putWord_of_room (x := s.qf) hq hb (Bool.and_false _) hfull, Queue.put_first]
  exact ⟨Fabric.queue_setQueue_self .., fun m hm => Fabric.queue_setQueue_of_ne _ _ hm, rfl⟩

/-- A word with the end marker completes the open item (R189, R193). -/
theorem completes_producerWord_end (w : Word) {o : PoolItem} (hb : q.broken = false) (hk : q.skipping = false)
    (hfull : q.full = false) (ho : q.opened = some o) :
    Completes (.queueProducerWord p false true w) s fun t =>
      t.fabric.queue n = some { q with
        wcnt := q.wcnt + 1, sent := q.sent + 1, opened := none
        items := q.items ++ [{ o with words := o.words ++ [w], endSeq := s.fabric.endSeq, at_ := s.dev }] } ∧
      (∀ m, m ≠ n → t.fabric.queue m = s.fabric.queue m) := by
  refine ⟨_, exec_queueProducerWord .., ?_⟩
  rw [Qf.portWord_end_of_feeds_one (x := s.qf) hs hf,
    Qf.putWord_of_room (x := s.qf) hq hb (by rw [hk]; rfl) hfull,
    Queue.put_end (q := { q with sent := q.sent + 1, skipping := false }) ho, hk]
  exact ⟨Fabric.queue_setQueue_self .., fun m hm => Fabric.queue_setQueue_of_ne _ _ hm⟩

/-- A whole item of one word in a full queue costs the oldest item, which LOST counts (R200). -/
theorem completes_producerWord_overwrites (w : Word) {it : PoolItem} {rest : List PoolItem} (hb : q.broken = false)
    (hfull : q.full = true) (hi : q.items = it :: rest) (hroom : Queue.full { q with items := rest } = false)
    (hc : q.route.cmdq = false) :
    Completes (.queueProducerWord p true true w) s fun t =>
      (∃ q', t.fabric.queue n = some q' ∧ q'.lost = satAdd q.lost 1 ∧ q'.wcnt = q.wcnt + 1 ∧ q'.sent = q.sent + 1 ∧
        q'.items = rest ++ [{ start := q.wcnt, words := [w], endSeq := s.fabric.endSeq, at_ := s.dev, flaws := [] }]) ∧
      (∀ m, m ≠ n → t.fabric.queue m = s.fabric.queue m) := by
  refine ⟨_, exec_queueProducerWord .., ?_⟩
  rw [Qf.portWord_end_of_feeds_one (x := s.qf) hs hf,
    Qf.putWord_of_full (x := s.qf) hq hb (Bool.and_false _) hfull hi hroom, Queue.put_whole]
  obtain ⟨noted, hdrop⟩ := Qf.countDrops_one s.qf n (q := { q with
    wcnt := q.wcnt + 1, sent := q.sent + 1, skipping := false, opened := none
    items := rest ++ [{ start := q.wcnt, words := [w], endSeq := s.fabric.endSeq, at_ := s.dev, flaws := [] }] }) it hc
  exact ⟨⟨_, (congrArg (Fabric.queue · n) hdrop).trans (Fabric.queue_setQueue_self ..), rfl, rfl, rfl, rfl⟩,
    fun m hm => (congrArg (Fabric.queue · m) hdrop).trans (Fabric.queue_setQueue_of_ne _ _ hm)⟩

/-- A BROKEN queue keeps what it is and counts the word in FLUSHDROP (R207). -/
theorem completes_producerWord_broken (first last : Bool) (w : Word) (hb : q.broken = true) :
    Completes (.queueProducerWord p first last w) s fun t =>
      t.fabric.queue n = some { q with sent := q.sent + 1, flushDrop := satInc q.flushDrop } ∧
      (∀ m, m ≠ n → t.fabric.queue m = s.fabric.queue m) ∧ t.recorder = s.recorder := by
  refine ⟨_, exec_queueProducerWord .., ?_⟩
  cases last with
  | false =>
    rw [Qf.portWord_of_feeds_one (x := s.qf) hs hf, Qf.putWord_of_broken (x := s.qf) hq hb]
    exact ⟨Fabric.queue_setQueue_self .., fun m hm => Fabric.queue_setQueue_of_ne _ _ hm, rfl⟩
  | true =>
    rw [Qf.portWord_end_of_feeds_one (x := s.qf) hs hf, Qf.putWord_of_broken (x := s.qf) hq hb]
    exact ⟨Fabric.queue_setQueue_self .., fun m hm => Fabric.queue_setQueue_of_ne _ _ hm, rfl⟩

end

/-- Settles O23: a word of a port that feeds one queue opens, grows or completes its item there, makes the oldest item of a full
queue go, and is only counted where the queue is BROKEN. -/
theorem producerWordJoinsItsQueue : Obligations.ProducerWordJoinsItsQueue := by
  unfold Obligations.ProducerWordJoinsItsQueue
  intro s p n q w hs hq hf
  exact ⟨completes_producerWord_whole hs hq hf w, completes_producerWord_first hs hq hf w,
    fun o => completes_producerWord_end hs hq hf w,
    fun it rest hb _ hfull hi hroom hc _ => completes_producerWord_overwrites hs hq hf w hb hfull hi hroom hc,
    fun first last => completes_producerWord_broken hs hq hf first last w⟩

end Sys2Proof.Machine
end

section
/-! SUPPORT. Rows of the queue fabric over a table of queues that is not in its canonical form (R194, R213, R427). -/

namespace Sys2Proof.Machine

/-- An item of one word. -/
def oneWordItem : PoolItem := { start := 0, words := [5], endSeq := 0, at_ := 0, flaws := [] }

/-- Queues 0 and 1 listed in this order, the later number first: the keys of the table fall. -/
def fallingKeys (q : Queue) : Tbl (Option Queue) := [(1, some Fx.hostQ), (0, some q)]

/-! ### STAGE_PUSH at a figure's RECV (R194, R427) -/

/-- A queue to port 0 of figure engine 0, with the item visible. -/
def visibleQueue : Queue := { Queue.build (Fx.route 0x0530 0x0B00) with items := [oneWordItem], wcnt := 1, sent := 1 }

/-- The RECV of figure engine 0 waits at its port 0. -/
def recvOverFallingKeys : State := Fx.recving (fallingKeys visibleQueue)

/-- The device after QF has pushed and the RECV has looked again. -/
def pushedOverFallingKeys : State :=
  let s := recvOverFallingKeys.withQf ((recvOverFallingKeys.qf.disturb (.engine 0x0B00) []).push (.engine 0x0B00) false)
  s.withFc (s.fc.recvAgain 0x0B00 false)

theorem exec_stagePush_fallingKeys :
    exec (.stagePush (.engine 0x0B00) [] false) recvOverFallingKeys = .next pushedOverFallingKeys := rfl

/-- The push writes queue 0 before the entry of queue 1 and leaves the entry that stands behind it, so QF stages the item once
more when the RECV has taken it. -/
theorem stage_pushedOverFallingKeys : pushedOverFallingKeys.fabric.stage 0x0B00 ≠ [] := by decide

/-- Refutes O24: its clause on a figure's RECV asks nothing of the table of queues. Where the keys of that table fall, which its
canonical form excludes, the item that the RECV takes stays in the pool and is staged again, so the stage is not empty. -/
theorem not_consumerStageFillsAndEmpties : ¬ Obligations.ConsumerStageFillsAndEmpties := by
  unfold Obligations.ConsumerStageFillsAndEmpties
  intro h
  obtain ⟨-, -, -, hrecv, -⟩ := h recvOverFallingKeys (.engine 0x0B00)
  have hstep : (recvOverFallingKeys.fc.fig 0).step = some (.recv (BitVec.ofNat 4 0) 1 0) := by decide
  have hsources : recvOverFallingKeys.fabric.sources (.engine 0x0B00) = [(0, visibleQueue)] := by decide
  obtain ⟨t, hexec, hstage, -⟩ := hrecv 0 (by decide) 0 (by decide) 0 visibleQueue oneWordItem 1 0 rfl rfl rfl hstep rfl
    (by decide) rfl rfl hsources rfl rfl rfl (by decide) (by decide) (by decide)
  obtain rfl : pushedOverFallingKeys = t := Host.Outcome.next.inj (exec_stagePush_fallingKeys.symm.trans hexec)
  exact stage_pushedOverFallingKeys hstage

/-! ### FLUSH in the cycle of an end word (R213) -/

/-- A queue from planner 0's events with an open item. -/
def openQueue : Queue := { Fx.inQ with opened := some oneWordItem, wcnt := 1, sent := 1 }

def flushOverFallingKeys : State :=
  { State.reset with fabric := { Fabric.reset with queues := fallingKeys openQueue } }

/-- The device after a FLUSH of queue 0 in whose cycle the end word 9 comes. -/
def flushedOverFallingKeys : State := flushOverFallingKeys.withQf (flushOverFallingKeys.qf.flushWith 0 0 (some 9))

theorem exec_queueFlush_fallingKeys :
    exec (.queueFlush 0 0 (some 9)) flushOverFallingKeys = .next flushedOverFallingKeys := rfl

/-- The flush writes queue 0 before the entry of queue 1 and leaves the entry that stands behind it, so the producer port feeds
queue 0 twice and the one end word takes two word places. -/
theorem wcnt_flushedOverFallingKeys : (flushedOverFallingKeys.fabric.queue 0).map (·.wcnt) = some 3 := by decide

/-- Refutes O25: its clause on the end word that comes in the cycle of a FLUSH asks nothing of the table of queues. Where the keys
of that table fall, which its canonical form excludes, the end word is stored twice. -/
theorem not_queueRegistersActOnTheirQueue : ¬ Obligations.QueueRegistersActOnTheirQueue := by
  unfold Obligations.QueueRegistersActOnTheirQueue
  intro h
  obtain ⟨-, -, -, hqueue⟩ := h flushOverFallingKeys
  obtain ⟨-, hflush, -⟩ := hqueue 0 openQueue rfl
  have hfed : flushOverFallingKeys.fabric.built.filter
      (fun x => x.2.route.producer.toNat == openQueue.route.producer.toNat) = [(0, openQueue)] := by decide
  obtain ⟨t, hexec, hq, -⟩ := hflush 0 9 oneWordItem rfl rfl rfl rfl rfl rfl (by decide) hfed
  obtain rfl : flushedOverFallingKeys = t := Host.Outcome.next.inj (exec_queueFlush_fallingKeys.symm.trans hexec)
  have hwcnt : (flushedOverFallingKeys.fabric.queue 0).map (·.wcnt) = some 2 := congrArg (Option.map (·.wcnt)) hq
  exact absurd (wcnt_flushedOverFallingKeys.symm.trans hwcnt) (by decide)

end Sys2Proof.Machine
end

section
/-! SUPPORT. Single operations of position fusion: a reader's code, quadrature, items, vane channels and terminal switches
(R222 to R226, R242). -/

namespace Sys2Proof.Machine

theorem State.runMpi_of_on {s : State} (f : Mpi → Mpi) {ok : Bool} (h : ok = true) : s.runMpi ok f = s.withMpi (f s.mpi) :=
  if_pos h

theorem State.runMpi_of_off {s : State} (f : Mpi → Mpi) {ok : Bool} (h : ok = false) : s.runMpi ok f = s :=
  if_neg (Bool.eq_false_iff.mp h)

@[simp] theorem State.withMpi_mpi (s : State) : s.withMpi s.mpi = s := rfl

/-- An operation of MPI that does nothing leaves the device, whether its engine runs or not. -/
theorem State.runMpi_of_idle {s : State} {f : Mpi → Mpi} (ok : Bool) (h : f s.mpi = s.mpi) : s.runMpi ok f = s := by
  unfold State.runMpi
  rw [h, State.withMpi_mpi, ite_self]

variable (m : Mpi)

/-! ### The reader (R224) -/

theorem testBit_toNat (w : Word) (k : Nat) : testBit w.toNat k = w.getLsbD k := by
  rw [BitVec.getLsbD, Nat.testBit_eq_decide_div_mod_eq]
  rfl

/-- A selected reader's code is the sample, which the error bit in use or a failed monoflop takes away. -/
theorem Mpi.ssiRead_of_selected (h : m.fusion.ssiSel = 1 ∨ m.fusion.ssiSel = 2) (code : Word) (err high : Bool) :
    m.ssiRead code err high = { m with fusion := { m.fusion with
      sample := if (m.fusion.cfg.getLsbD 15 = true ∧ err = true) ∨ high = false then none
                else some { tc := m.env.dev, code := code } } } := by
  have hsel : ¬((m.fusion.ssiSel != 1 && m.fusion.ssiSel != 2) = true) := by
    obtain h | h := h <;> simp [h]
  unfold Mpi.ssiRead
  dsimp only
  rw [if_neg hsel, testBit_toNat]
  simp only [Bool.or_eq_true, Bool.and_eq_true, Bool.not_eq_true']
  split <;> rfl

/-! ### Quadrature (R223) -/

/-- The four transitions of a pair's levels, before and after, in which A leads. -/
def aLeads : List (Bool × Bool × Bool × Bool) :=
  [(false, false, true, false), (true, false, true, true), (true, true, false, true), (false, true, false, false)]

/-- A transition with A leading changes one level and counts up. -/
theorem quadStep_of_aLeads : ∀ a b a' b' : Bool, (a, b, a', b') ∈ aLeads →
    (a != a' && b != b') = false ∧ quadStep a b a' b' = 1 := by decide

/-- The reverse of such a transition counts down. -/
theorem quadStep_of_bLeads : ∀ a b a' b' : Bool, (a', b', a, b) ∈ aLeads →
    (a != a' && b != b') = false ∧ quadStep a b a' b' = -1 := by decide

theorem toWord_sInt_add (w : Word) (d : Int) : toWord (sInt w + d) = w + BitVec.ofInt 32 d := by
  rw [toWord, sInt, BitVec.ofInt_add, BitVec.ofInt_toInt]

/-- Pad pair `pad` holds these levels and this count. -/
def Mpi.putQuad (pad : Nat) (q : Quad) : Mpi :=
  { m with fusion := { m.fusion with quads := m.fusion.quads.set Quad.reset pad q } }

variable {pad : Nat} {q : Quad} (hq : m.fusion.quads.get Quad.reset pad = q) {a b : Bool}
include hq

/-- A change of one level counts its step. -/
theorem Mpi.encTransition_of_single (hone : (q.a != a && q.b != b) = false) :
    m.encTransition pad a b =
      m.putQuad pad { a := a, b := b, count := q.count + BitVec.ofInt 32 (quadStep q.a q.b a b) } := by
  subst hq
  simp only [Mpi.encTransition, hone, Bool.false_and, Bool.false_eq_true, if_false, toWord_sInt_add]
  rfl

/-- A change of both levels counts nothing, and loses the encoder that the pair feeds. -/
theorem Mpi.encTransition_of_both (ha : q.a ≠ a) (hb : q.b ≠ b) (hkind : m.env.fusionKind = 1) (hsel : m.fusion.encSel = 1)
    (hpad : m.fusion.encPad = pad) :
    m.encTransition pad a b = (m.putQuad pad { a := a, b := b, count := q.count }).encIllegal := by
  have hboth : (q.a != a && q.b != b) = true := by simp [ha, hb]
  subst hq
  simp only [Mpi.encTransition, hboth, hkind, if_true]
  exact if_pos (by simp [show ∀ t, Fusion.encSel { m.fusion with quads := t } = 1 from fun _ => hsel,
    show ∀ t, Fusion.encPad { m.fusion with quads := t } = pad from fun _ => hpad])

omit hq

/-- An encoder that is not yet LOST becomes LOST, with its record. -/
theorem Mpi.encIllegal_of_present (h : m.fusion.enc.lost = false) :
    m.encIllegal =
      Mpi.note { m with fusion := { m.fusion with enc := { m.fusion.enc with lost := true, status := 4 } } } 0x0502 [0, 3] :=
  if_neg (Bool.eq_false_iff.mp h)

/-! ### Items (R226) -/

theorem Mpi.encItemIn_of_malformed {it : Item} (h : it.poison = true ∨ it.words.length ≠ 3) : m.encItemIn it = m :=
  if_pos (by obtain h | h := h <;> simp [h])

theorem Mpi.captureIn_of_malformed {it : Item} (h : it.poison = true ∨ it.words.length ≠ 9) : m.captureIn it = m :=
  if_pos (by obtain h | h := h <;> simp [h])

theorem Mpi.switchItem_of_malformed {it : Item} (h : it.poison = true ∨ it.words.length ≠ 2) : m.switchItem it = m :=
  if_pos (by obtain h | h := h <;> simp [h])

theorem Mpi.encItemIn_of_present (w0 w1 : Word) {w2 : Word} (h : w2.getLsbD 0 = true) :
    m.encItemIn { words := [w0, w1, w2], poison := false } =
      { m with fusion := { m.fusion with encItem := some (w0, captureTime m.env.dev w1) } } :=
  if_neg (by simp [h])

/-- A remote capture's reader part is the sample of a remote reader. -/
theorem Mpi.captureIn_of_reader (w0 w1 w2 : Word) {w3 : Word} (w4 w5 w6 w7 w8 : Word) (hssi : m.fusion.ssiSel = 3)
    (hvane : m.fusion.vaneSel ≠ 2) (h : w3.getLsbD 0 = true) :
    m.captureIn { words := [w0, w1, w2, w3, w4, w5, w6, w7, w8], poison := false } =
      { m with fusion := { m.fusion with sample := some { tc := captureTime m.env.dev w1, code := w2 } } } := by
  have hreader : (m.fusion.ssiSel == 3 && (List.getD [w0, w1, w2, w3, w4, w5, w6, w7, w8] 3 0).getLsbD 0) = true := by
    simp [hssi, h]
  have hlocal : ¬((m.fusion.vaneSel == 2) = true) := by simpa using hvane
  unfold Mpi.captureIn
  rw [if_neg (by simp)]
  dsimp only
  rw [if_pos hreader]
  exact if_neg hlocal

/-! ### Vane channels (R225) -/

/-- Pair `v` as its channels stand. -/
def Mpi.pair (v : Nat) : VanePair := m.fusion.pairs.get VanePair.reset v

def Mpi.putPair (v : Nat) (p : VanePair) : Mpi :=
  { m with fusion := { m.fusion with pairs := m.fusion.pairs.set VanePair.reset v p } }

@[simp] theorem Mpi.pair_putPair (v : Nat) (p : VanePair) : (m.putPair v p).pair v = p := Tbl.get_set_self ..

variable {v : Nat} {level : Bool}

/-- The first channel to leave the common level waits for the other. -/
theorem Mpi.vaneChannel_of_first (chB : Bool) (hpend : (m.pair v).pend = none) (ha : (m.pair v).levelA ≠ level)
    (hb : (m.pair v).levelB ≠ level) :
    m.vaneChannel v chB level = m.putPair v
      (if chB then { m.pair v with levelB := level, pend := some (false, m.env.dev) }
       else { m.pair v with levelA := level, pend := some (true, m.env.dev) }) := by
  unfold Mpi.pair at hpend ha hb
  cases chB with
  | false => simp [Mpi.vaneChannel, Mpi.putPair, Mpi.pair, hpend, ha, hb.symm]
  | true => simp [Mpi.vaneChannel, Mpi.putPair, Mpi.pair, hpend, ha, hb]

/-- Channel B follows channel A within VANEDISC: the edge is accepted. -/
theorem Mpi.vaneChannel_of_following {at_ : Nat} (hpend : (m.pair v).pend = some (true, at_)) (hb : (m.pair v).levelB ≠ level)
    (hin : m.env.dev - at_ ≤ m.inForce.MPI_VANEDISC) :
    m.vaneChannel v true level =
      (m.putPair v { m.pair v with levelB := level }).vaneAccept v level ((at_ + m.env.dev) / 2) (m.env.dev - at_) := by
  unfold Mpi.pair at hpend hb
  simp [Mpi.vaneChannel, Mpi.putPair, Mpi.pair, hpend, hb, hin]

theorem Mpi.vaneAccept_of_present (on : Bool) (te d : Nat) (h : (m.pair v).lost = false) :
    (m.vaneAccept v on te d).pair v = { m.pair v with pend := none, misses := 0 } ∧
    (m.vaneAccept v on te d).fusion.edges = m.fusion.edges ++ [{ pair := v, on := on, te := te, d := d }] := by
  rw [show m.vaneAccept v on te d = _ from if_neg (Bool.eq_false_iff.mp h)]
  exact ⟨Tbl.get_set_self .., rfl⟩

/-- A missed window counts, and the third in a row loses the pair. -/
theorem Mpi.vaneMiss_of_present (d : Nat) (h : (m.pair v).lost = false) :
    (m.vaneMiss v d).pair v =
      { m.pair v with pend := none, misses := (m.pair v).misses + 1, lost := decide (2 ≤ (m.pair v).misses) } ∧
    (m.vaneMiss v d).fusion.discs = m.fusion.discs ||| (1#4 <<< v) := by
  have hthird : decide (3 ≤ (m.pair v).misses + 1) = decide (2 ≤ (m.pair v).misses) := by simp
  rw [show m.vaneMiss v d = _ from if_neg (Bool.eq_false_iff.mp h), ← hthird]
  dsimp only
  split <;> exact ⟨Tbl.get_set_self .., rfl⟩

/-! ### Terminal switches (R242) -/

variable {n : Nat}

/-- A change to another level, the first one remembered, waits to hold. -/
theorem Mpi.switchChange_of_first {w : TermSwitch} (hw : m.fusion.switches.get TermSwitch.reset n = w) (hnone : w.changes = [])
    (hl : w.level ≠ level) (t : Nat) :
    (m.switchChange n level t).fusion.switches.get TermSwitch.reset n =
      { w with changes := [t], burst := false, pending := some (level, t) } := by
  subst hw
  simp [Mpi.switchChange, hnone, hl]

theorem Mpi.countEdge_of_none (h : (m.fusion.switches.get TermSwitch.reset n).pending = none) : m.countEdge n = m := by
  simp only [Mpi.countEdge, h]

theorem Mpi.postFusion_fusion (mv : Move) : (m.postFusion mv).fusion = m.fusion := by
  unfold Mpi.postFusion
  split <;> rfl

/-- A level that has held is the switch's level, and ends the phase of the run that it belongs to. -/
theorem Mpi.countEdge_of_pending {w : TermSwitch} (hw : m.fusion.switches.get TermSwitch.reset n = w) {t : Nat}
    (h : w.pending = some (level, t)) :
    (m.countEdge n).fusion = { m.fusion with
      switches := m.fusion.switches.set TermSwitch.reset n { w with level := level, pending := none }
      runState := if m.fusion.runState.run ≠ .none ∧ m.fusion.runState.edge = none ∧ m.fusion.runState.switch = n
                  then { m.fusion.runState with edge := some t } else m.fusion.runState } := by
  subst hw
  simp only [Mpi.countEdge, h, Bool.and_eq_true, bne_iff_ne, Option.isNone_iff_eq_none, beq_iff_eq, and_assoc]
  split
  · rw [Mpi.postFusion_fusion]
  · rfl

end Sys2Proof.Machine
end

section
/-! SUPPORT. The rows of fusion's inputs (R222 to R226, R242, R248). -/

namespace Sys2Proof.Machine

variable (s : State)

/-! ### What each row runs -/

theorem exec_ssiRead (code : Word) (err high : Bool) : exec (.ssiRead code err high) s =
    .next (s.runMpi (s.fusion.stat != .off && !s.quiet .mpi && s.ssiWired) fun m => m.ssiRead code err high) := rfl

theorem exec_encoderTransition (pad : Fin 4) (a b : Bool) : exec (.encoderTransition pad a b) s =
    .next (s.runMpi (s.padUsed (64 + 3 * pad.val) && s.padUsed (65 + 3 * pad.val)) fun m => m.encTransition pad.val a b) := rfl

theorem exec_encoderItem (it : Item) :
    exec (.encoderItem it) s = .next (s.runMpi s.fullFusion fun m => m.encItemIn it) := rfl

theorem exec_captureItem (it : Item) :
    exec (.captureItem it) s = .next (s.runMpi s.fullFusion fun m => m.captureIn it) := rfl

theorem exec_vaneChannelEdge (v : Fin 4) (chB level : Bool) : exec (.vaneChannelEdge v chB level) s =
    .next (s.runMpi (s.padUsed (311 + 2 * v.val + bit chB)) fun m =>
      if s.fusion.stat != .off && m.vaneLocal v.val then m.vaneChannel v.val chB level
      else m.vaneLevel v.val chB level) := rfl

theorem exec_switchChangeItem (it : Item) :
    exec (.switchChangeItem it) s = .next (s.runMpi (s.fusion.stat != .off) fun m => m.switchItem it) := rfl

theorem exec_switchEdgeCount (n : Fin 4) : exec (.switchEdgeCount n) s = .next (s.withMpi (s.mpi.countEdge n.val)) := rfl

variable {s}

/-! ### The rows where their engine runs -/

/-- A vane channel of the vane source in use. -/
theorem exec_vaneChannelEdge_of_local {v : Fin 4} {chB : Bool} (level : Bool) (hstat : s.fusion.stat ≠ .off)
    (hlocal : s.mpi.vaneLocal v.val = true) (hpad : s.padUsed (311 + 2 * v.val + bit chB) = true) :
    exec (.vaneChannelEdge v chB level) s = .next (s.withMpi (s.mpi.vaneChannel v.val chB level)) := by
  rw [exec_vaneChannelEdge, State.runMpi_of_on _ hpad, if_pos (by simp [hstat, hlocal])]

theorem exec_vaneWindowExpire_of_pending {v : Fin 4} {b : Bool} {at_ : Nat}
    (h : (s.fusion.pairs.get VanePair.reset v.val).pend = some (b, at_)) :
    exec (.vaneWindowExpire v) s = .next (s.withMpi (s.mpi.vaneMiss v.val (s.dev - at_))) := by
  change execVaneWindowExpire v s = _
  unfold execVaneWindowExpire
  rw [h]

theorem exec_vaneWindowExpire_of_none {v : Fin 4} (h : (s.fusion.pairs.get VanePair.reset v.val).pend = none) :
    exec (.vaneWindowExpire v) s = .next s := by
  change execVaneWindowExpire v s = _
  unfold execVaneWindowExpire
  rw [h]

section

variable {pad : Fin 4} {q : Quad} {a b : Bool} (h64 : s.padUsed (64 + 3 * pad.val) = true)
  (h65 : s.padUsed (65 + 3 * pad.val) = true) (hq : s.fusion.quads.get Quad.reset pad.val = q)
include h64 h65

theorem exec_encoderTransition_of_used :
    exec (.encoderTransition pad a b) s = .next (s.withMpi (s.mpi.encTransition pad.val a b)) := by
  rw [exec_encoderTransition, State.runMpi_of_on _ (Bool.and_eq_true_iff.mpr ⟨h64, h65⟩)]

include hq

/-- A transition of one level counts, and touches nothing but the pair (R223). -/
theorem encoderTransition_of_single (hone : (q.a != a && q.b != b) = false) :
    Completes (.encoderTransition pad a b) s fun t =>
      t.fusion.quads.get Quad.reset pad.val =
        { a := a, b := b, count := q.count + BitVec.ofInt 32 (quadStep q.a q.b a b) } ∧
      t = { s with fusion := { s.fusion with quads := t.fusion.quads } } := by
  refine ⟨_, exec_encoderTransition_of_used h64 h65, ?_⟩
  rw [Mpi.encTransition_of_single s.mpi hq hone]
  exact ⟨Tbl.get_set_self .., rfl⟩

theorem encoderTransition_of_aLeads (h : (q.a, q.b, a, b) ∈ aLeads) :
    Completes (.encoderTransition pad a b) s fun t =>
      t.fusion.quads.get Quad.reset pad.val = { a := a, b := b, count := q.count + 1 } ∧
      t = { s with fusion := { s.fusion with quads := t.fusion.quads } } := by
  obtain ⟨hone, hup⟩ := quadStep_of_aLeads _ _ _ _ h
  have hcount := encoderTransition_of_single h64 h65 hq hone
  rwa [hup] at hcount

theorem encoderTransition_of_bLeads (h : (a, b, q.a, q.b) ∈ aLeads) :
    Completes (.encoderTransition pad a b) s fun t =>
      t.fusion.quads.get Quad.reset pad.val = { a := a, b := b, count := q.count - 1 } ∧
      t = { s with fusion := { s.fusion with quads := t.fusion.quads } } := by
  obtain ⟨hone, hdown⟩ := quadStep_of_bLeads _ _ _ _ h
  have hcount := encoderTransition_of_single h64 h65 hq hone
  rwa [hdown, show BitVec.ofInt 32 (-1) = -(1 : Word) from rfl, ← BitVec.sub_eq_add_neg] at hcount

/-- Both levels change at once: the encoder in use is LOST (R223). -/
theorem encoderTransition_of_both (ha : q.a ≠ a) (hb : q.b ≠ b) (hkind : s.fusionKind = 1) (hsel : s.fusion.encSel = 1)
    (hpad : s.fusion.encPad = pad.val) (hlost : s.fusion.enc.lost = false) :
    Completes (.encoderTransition pad a b) s fun t =>
      t.fusion.enc = { s.fusion.enc with lost := true, status := 4 } ∧
      t.fusion.quads.get Quad.reset pad.val = { a := a, b := b, count := q.count } ∧
      t.recorder = s.recorder.put s.dev 5 0x0502 [0, 3] := by
  refine ⟨_, exec_encoderTransition_of_used h64 h65, ?_⟩
  rw [Mpi.encTransition_of_both s.mpi hq ha hb hkind hsel hpad, Mpi.encIllegal_of_present (s.mpi.putQuad pad.val _) hlost]
  exact ⟨rfl, Tbl.get_set_self .., rfl⟩

end

/-- The reader's code while fusion runs (R224). -/
theorem exec_ssiRead_of_wired (code : Word) (err high : Bool) (hstat : s.fusion.stat ≠ .off) (hquiet : s.quiet .mpi = false)
    (hsel : s.fusion.ssiSel = 1 ∨ s.fusion.ssiSel = 2) (hwired : s.ssiWired = true) :
    exec (.ssiRead code err high) s = .next { s with fusion := { s.fusion with
      sample := if (s.fusion.cfg.getLsbD 15 = true ∧ err = true) ∨ high = false then none
                else some { tc := s.dev, code := code } } } := by
  rw [exec_ssiRead, State.runMpi_of_on _ (by simp [hstat, hquiet, hwired]), Mpi.ssiRead_of_selected s.mpi hsel]
  rfl

/-- The second channel follows within VANEDISC (R225). -/
theorem vaneChannelEdge_of_following {v : Fin 4} {at_ : Nat} {level : Bool} (hstat : s.fusion.stat ≠ .off)
    (hlocal : s.mpi.vaneLocal v.val = true) (hpad : s.padUsed (312 + 2 * v.val) = true)
    (hpend : (s.mpi.pair v.val).pend = some (true, at_)) (hb : (s.mpi.pair v.val).levelB ≠ level)
    (hlost : (s.mpi.pair v.val).lost = false) (hin : s.dev - at_ ≤ s.mpi.inForce.MPI_VANEDISC) :
    Completes (.vaneChannelEdge v true level) s fun t =>
      t.fusion.edges = s.fusion.edges ++ [{ pair := v.val, on := level, te := (at_ + s.dev) / 2, d := s.dev - at_ }] ∧
      t.fusion.pairs.get VanePair.reset v.val = { s.mpi.pair v.val with levelB := level, pend := none, misses := 0 } := by
  have hpadB : s.padUsed (311 + 2 * v.val + bit true) = true := by
    rw [show 311 + 2 * v.val + bit true = 312 + 2 * v.val from Nat.add_right_comm ..]
    exact hpad
  refine ⟨_, exec_vaneChannelEdge_of_local level hstat hlocal hpadB, ?_⟩
  rw [Mpi.vaneChannel_of_following s.mpi hpend hb hin]
  obtain ⟨hpair, hedges⟩ := Mpi.vaneAccept_of_present (s.mpi.putPair v.val { s.mpi.pair v.val with levelB := level })
    level ((at_ + s.dev) / 2) (s.dev - at_) (by rw [Mpi.pair_putPair]; exact hlost)
  rw [Mpi.pair_putPair] at hpair
  exact ⟨hedges, hpair⟩

theorem vaneWindowExpire_of_pending {v : Fin 4} {b : Bool} {at_ : Nat} (hpend : (s.mpi.pair v.val).pend = some (b, at_))
    (hlost : (s.mpi.pair v.val).lost = false) :
    Completes (.vaneWindowExpire v) s fun t =>
      t.fusion.pairs.get VanePair.reset v.val = { s.mpi.pair v.val with
        pend := none, misses := (s.mpi.pair v.val).misses + 1, lost := decide (2 ≤ (s.mpi.pair v.val).misses) } ∧
      t.fusion.discs.getLsbD v.val = true := by
  obtain ⟨hpair, hdiscs⟩ := s.mpi.vaneMiss_of_present (s.dev - at_) hlost
  refine ⟨_, exec_vaneWindowExpire_of_pending hpend, hpair, ?_⟩
  change (s.mpi.vaneMiss v.val (s.dev - at_)).fusion.discs.getLsbD v.val = true
  rw [hdiscs]
  simp

/-- The item of an input that one switch is mapped to (R242). -/
theorem switchChangeItem_of_mapped {w0 w1 : Word} {n : Nat} {w : TermSwitch} (hstat : s.fusion.stat ≠ .off)
    (hmap : [0, 1, 2, 3].filter (fun n => s.mpi.inForce.switchInput n == some (getBits w0 4 0)) = [n])
    (hw : s.fusion.switches.get TermSwitch.reset n = w) (hnone : w.changes = []) (hl : w.level ≠ w0.getLsbD 8) :
    Completes (.switchChangeItem { words := [w0, w1], poison := false }) s fun t =>
      t.fusion.switches.get TermSwitch.reset n =
        { w with changes := [captureTime s.dev w1], burst := false, pending := some (w0.getLsbD 8, captureTime s.dev w1) } := by
  have hitem : s.mpi.switchItem { words := [w0, w1], poison := false } =
      s.mpi.switchChange n (w0.getLsbD 8) (captureTime s.dev w1) := by
    unfold Mpi.switchItem
    rw [if_neg (by simp)]
    exact congrArg (List.foldl _ s.mpi) hmap
  refine ⟨_, by rw [exec_switchChangeItem, State.runMpi_of_on _ (by simp [hstat]), hitem], ?_⟩
  exact s.mpi.switchChange_of_first hw hnone hl _

/-- A switch whose level has held (R242, R244, R245). -/
theorem switchEdgeCount_of_pending {n : Fin 4} {w : TermSwitch} {l : Bool} {at_ : Nat}
    (hw : s.fusion.switches.get TermSwitch.reset n.val = w) (hpend : w.pending = some (l, at_)) :
    Completes (.switchEdgeCount n) s fun t =>
      t.fusion.switches.get TermSwitch.reset n.val = { w with level := l, pending := none } ∧
      (s.fusion.runState.run = .none → t.fusion.runState = s.fusion.runState) ∧
      (s.fusion.runState.run = .home → s.fusion.runState.phase = 1 → s.fusion.runState.edge = none → n.val = 0 →
        t.fusion.runState = { s.fusion.runState with edge := some at_ }) := by
  refine ⟨_, exec_switchEdgeCount s n, ?_⟩
  dsimp only
  rw [State.withMpi_fusion, Mpi.countEdge_of_pending s.mpi hw hpend]
  refine ⟨Tbl.get_set_self .., fun hrun => if_neg fun h => h.1 hrun, fun hrun hphase hedge hn => if_pos ?_⟩
  exact ⟨by rw [show s.mpi.fusion.runState.run = _ from hrun]; decide, hedge,
    by rw [hn, FusionRun.switch, show s.mpi.fusion.runState.phase = _ from hphase]; rfl⟩

/-- Settles O26: each input of fusion, row by row, where its engine and its pads are there and where they are not. -/
theorem fusionTakesItsInputs : Obligations.FusionTakesItsInputs := by
  unfold Obligations.FusionTakesItsInputs
  intro s
  refine ⟨fun code err high hstat hquiet hsel hwired => exec_ssiRead_of_wired code err high hstat hquiet hsel hwired,
    fun code err high hno => ?readerOff, fun pad q a b h64 h65 hq h => encoderTransition_of_aLeads h64 h65 hq h,
    fun pad q a b h64 h65 hq h => encoderTransition_of_bLeads h64 h65 hq h,
    fun pad q a b h64 h65 hq ha hb hkind hsel hpad hlost =>
      encoderTransition_of_both h64 h65 hq ha hb hkind hsel hpad hlost,
    fun pad a b hno => ?padsUnused, fun w0 w1 w2 hfull h => ?encoderItem, fun it hbad => ?encoderMalformed,
    fun w0 w1 w2 w3 w4 w5 w6 w7 w8 hfull hssi hvane h => ?captureItem, fun it hbad => ?captureMalformed,
    fun v p chB level hstat hlocal hpad hp hpend ha hb => ?firstEdge,
    fun v p at_ level hstat hlocal hpad hp hpend hb hlost hin => ?secondEdge, fun v chB level hpad => ?vaneUnused,
    fun v p b at_ hp hpend hlost => ?missed, fun v hpend => exec_vaneWindowExpire_of_none hpend,
    fun w0 w1 n w hstat hmap hw hnone hl => switchChangeItem_of_mapped hstat hmap hw hnone hl,
    fun it hbad => ?switchMalformed, fun n w l at_ hw hpend => switchEdgeCount_of_pending hw hpend, fun n hpend => ?noEdge⟩
  case readerOff =>
    rw [exec_ssiRead, State.runMpi_of_off _ (by obtain hno | hno := hno <;> simp [hno])]
  case padsUnused =>
    rw [exec_encoderTransition, State.runMpi_of_off _ (by obtain hno | hno := hno <;> simp [hno])]
  case encoderItem =>
    rw [exec_encoderItem, State.runMpi_of_on _ hfull, Mpi.encItemIn_of_present s.mpi w0 w1 h]
    rfl
  case encoderMalformed => rw [exec_encoderItem, State.runMpi_of_idle _ (s.mpi.encItemIn_of_malformed hbad)]
  case captureItem =>
    rw [exec_captureItem, State.runMpi_of_on _ hfull,
      Mpi.captureIn_of_reader s.mpi w0 w1 w2 w4 w5 w6 w7 w8 hssi hvane h]
    rfl
  case captureMalformed => rw [exec_captureItem, State.runMpi_of_idle _ (s.mpi.captureIn_of_malformed hbad)]
  case firstEdge =>
    subst hp
    refine ⟨_, exec_vaneChannelEdge_of_local level hstat hlocal hpad, ?_⟩
    rw [Mpi.vaneChannel_of_first s.mpi chB hpend ha hb]
    exact ⟨Tbl.get_set_self .., rfl⟩
  case secondEdge =>
    subst hp
    exact vaneChannelEdge_of_following hstat hlocal hpad hpend hb hlost hin
  case vaneUnused => rw [exec_vaneChannelEdge, State.runMpi_of_off _ hpad]
  case missed =>
    subst hp
    exact vaneWindowExpire_of_pending hpend hlost
  case switchMalformed => rw [exec_switchChangeItem, State.runMpi_of_idle _ (s.mpi.switchItem_of_malformed hbad)]
  case noEdge => rw [exec_switchEdgeCount, s.mpi.countEdge_of_none hpend, State.withMpi_mpi]

end Sys2Proof.Machine
end

section
/-! SUPPORT. The cycle of a capture-only engine takes the parameters up (R226, R248). -/

namespace Sys2Proof.Machine

/-- A port where nothing waits brings fusion nothing. -/
theorem Mpi.drain_of_not_ready (m : Mpi) {port : Nat} (f : Mpi → Item → Mpi) (h : m.qf.fabric.ready port = false) :
    m.drain port f = m := by
  unfold Mpi.drain
  rw [Qf.takeItems_of_not_ready m.qf port 64 h]
  rfl

/-- With no switch item waiting, the cycle of a capture-only engine clears its captures, and its boundary takes the parameters
up. -/
theorem State.fusionCycle_of_captureOnly {s : State} (hstat : s.fusion.stat ≠ .off) (hquiet : s.quiet .mpi = false)
    (hkind : s.fusionKind = 2) (hnone : s.fabric.ready 0x0504 = false) :
    s.mpi.fusionCycle.fusion =
      { s.fusion with parms := s.mpi.takeParms.fusion.parms, sample := none, edges := [], discs := 0 } := by
  have hruns : ¬((s.quiet .mpi || s.fusion.stat == .off) = true) := by simp [hquiet, hstat]
  have hcycle : s.mpi.fusionCycle = (s.mpi.takeParms.drain 0x0504 Mpi.switchItem).captureCycle (s.dev / s.cycleUs) :=
    (if_neg hruns).trans (if_pos hkind)
  rw [hcycle, s.mpi.takeParms.drain_of_not_ready _ hnone]
  rfl

theorem exec_fusionCycle (s : State) : exec .fusionCycle s = .next (s.withMpi s.mpi.fusionCycle) := rfl

/-- A capture-only unit in which VANEDISC was written since the last cycle boundary. -/
def captureUnitWithNewVanedisc : State := Fx.atFuse15.setReg .MPI_VANEDISC [] 500

/-- The next boundary takes the written word up. -/
theorem parms_captureUnitWithNewVanedisc :
    captureUnitWithNewVanedisc.mpi.takeParms.fusion.parms ≠ captureUnitWithNewVanedisc.fusion.parms := by decide

/-- Refutes O27: its clause on the cycle of a capture-only engine keeps the whole of fusion but the captures, and the boundary of
that cycle takes up the parameters (R248), here a VANEDISC written since the last one. -/
theorem not_fusionCycleAndRunsProceed : ¬ Obligations.FusionCycleAndRunsProceed := by
  unfold Obligations.FusionCycleAndRunsProceed
  intro h
  obtain ⟨-, hcapture, -⟩ := h captureUnitWithNewVanedisc
  have hstat : captureUnitWithNewVanedisc.fusion.stat ≠ .off := by decide
  have hquiet : captureUnitWithNewVanedisc.quiet .mpi = false := by decide
  have hkind : captureUnitWithNewVanedisc.fusionKind = 2 := by decide
  have hnone : captureUnitWithNewVanedisc.noneWaits [0x0504] := by decide
  obtain ⟨t, hexec, hfusion, -⟩ := hcapture hstat hquiet hkind hnone
  obtain rfl : _ = t := Host.Outcome.next.inj ((exec_fusionCycle _).symm.trans hexec)
  rw [State.withMpi_fusion, State.fusionCycle_of_captureOnly hstat hquiet hkind (hnone _ (.head _))] at hfusion
  exact parms_captureUnitWithNewVanedisc (congrArg Fusion.parms hfusion)

end Sys2Proof.Machine
end

section
/-! SUPPORT. Single operations on SFI's inputs: contacts, discrepancy, test pulses, chain taps and virtual inputs (R238, R459 to
R466, R495). -/

namespace Sys2Proof.Machine

/-- Two states of SFI with the same safety inputs in the same configuration. -/
structure Sf.SameInputs (m n : Sf) : Prop where
  inputs : n.lattice.inputs = m.lattice.inputs
  sicfg : n.lattice.sicfg = m.lattice.sicfg

theorem Sf.SameInputs.refl (m : Sf) : m.SameInputs m := ⟨rfl, rfl⟩

theorem Sf.SameInputs.trans {a b c : Sf} (h : a.SameInputs b) (g : b.SameInputs c) : a.SameInputs c :=
  ⟨g.inputs.trans h.inputs, g.sicfg.trans h.sicfg⟩

/-- Input `n` as an update leaves it, and the other inputs untouched. -/
theorem Sf.SameInputs.of_updInput {m u : Sf} {n : Nat} {f : SafetyIn → SafetyIn} (h : (m.updInput n f).SameInputs u) :
    u.input n = f (m.input n) ∧ u.si n = (f (m.input n)).value (m.lattice.siMode n) ∧
    ∀ k, k ≠ n → u.input k = m.input k := by
  have hinput : u.input n = f (m.input n) := by
    rw [Sf.input, h.inputs]
    exact Tbl.get_modify_self ..
  have hmode : u.lattice.siMode n = m.lattice.siMode n := by
    rw [Lattice.siMode, h.sicfg]
    rfl
  refine ⟨hinput, by rw [Sf.si, hinput, hmode], fun k hk => ?_⟩
  rw [Sf.input, h.inputs]
  exact Tbl.get_modify_of_ne _ _ _ hk.symm

variable (m : Sf)

/-- The change of one terminal-switch input goes to the fusion engine (R468). -/
def Sf.forwardSwitch (n : Nat) : Sf :=
  if m.si n == m.lattice.termLast.getLsbD n then m
  else
    let m' := m.updL fun l => { l with
      termLast := if m.si n then l.termLast ||| (1#24 <<< n) else l.termLast &&& ~~~(1#24 <<< n) }
    m'.post 0x0404 [BitVec.ofNat 32 (n + bit (m.si n) * 2 ^ 8), lowWord m'.env.dev]

theorem Sf.forwardSwitches_eq :
    m.forwardSwitches = ([0, 1, 2, 3].filterMap m.env.switchInput).eraseDups.foldl Sf.forwardSwitch m := rfl

theorem Sf.forwardSwitch_sameInputs (n : Nat) : m.SameInputs (m.forwardSwitch n) := by
  unfold Sf.forwardSwitch
  split
  · exact .refl m
  · exact ⟨rfl, rfl⟩

theorem Sf.forwardSwitches_sameInputs : m.SameInputs m.forwardSwitches := by
  rw [Sf.forwardSwitches_eq]
  generalize ([0, 1, 2, 3].filterMap m.env.switchInput).eraseDups = ns
  induction ns generalizing m with
  | nil => exact .refl m
  | cons n ns ih => exact (m.forwardSwitch_sameInputs n).trans (ih _)

/-! ### Contacts (R459 to R461) -/

/-- An input whose contact A closes at device time `now`. -/
def SafetyIn.closeA (x : SafetyIn) (mode now : Nat) : SafetyIn :=
  let y := { x with a := true }
  { y with
    pending := if y.mixed mode then (if x.mixed mode then x.pending else some now) else none
    firstB := if y.mixed mode && !x.mixed mode then false else x.firstB
    disc := x.disc && !y.offPattern mode
    offOwed := x.offOwed && !y.offPattern mode }

theorem Sf.contact_of_open {n : Nat} (ha : (m.input n).a = false) :
    (m.updInput n fun _ => (m.input n).closeA (m.lattice.siMode n) m.env.dev).SameInputs (m.contact n false true) := by
  have hchange : ¬(((if false = true then (m.input n).b else (m.input n).a) == true) = true) := by simp [ha]
  rw [show m.contact n false true = _ from if_neg hchange]
  exact Sf.forwardSwitches_sameInputs _

/-- A single contact has no discrepancy to wait for (R460). -/
theorem SafetyIn.closeA_single (x : SafetyIn) (now : Nat) : x.closeA 3 now = { x with a := true, pending := none } := by
  simp [SafetyIn.closeA, SafetyIn.mixed, SafetyIn.offPattern]

/-- Of two contacts that close together, the first one to close waits for the other (R461). -/
theorem SafetyIn.closeA_dual {x : SafetyIn} (ha : x.a = false) (hb : x.b = false) (now : Nat) :
    x.closeA 1 now = { x with a := true, pending := some now, firstB := false } := by
  simp [SafetyIn.closeA, SafetyIn.mixed, SafetyIn.onPattern, SafetyIn.offPattern, ha, hb]

/-- An input that does not show its ON pattern, or has a fault, reads 0 (R460 to R462). -/
theorem SafetyIn.value_of_pattern {x : SafetyIn} {mode : Nat} (h : x.onPattern mode = false) : x.value mode = false := by
  simp [SafetyIn.value, h]

theorem SafetyIn.value_of_disc {x : SafetyIn} (mode : Nat) (h : x.disc = true) : x.value mode = false := by
  simp [SafetyIn.value, h]

theorem SafetyIn.value_of_shortA {x : SafetyIn} (mode : Nat) (h : x.shortA = true) : x.value mode = false := by
  simp [SafetyIn.value, h]

/-- A discrepancy that lasts is latched and counted (R461). -/
theorem Sf.discrepancy_of_mixed {n : Nat} (hpend : (m.input n).pending.isSome = true)
    (hmixed : (m.input n).mixed (m.lattice.siMode n) = true) :
    (m.updInput n fun x => { x with disc := true, pending := none, faults := satInc x.faults }).SameInputs
      (m.discrepancy n) := by
  rw [show m.discrepancy n = _ from if_pos (Bool.and_eq_true_iff.mpr ⟨hpend, hmixed⟩)]
  refine .trans ?_ (Sf.forwardSwitches_sameInputs _)
  exact ⟨rfl, rfl⟩

theorem Sf.discrepancy_of_none {n : Nat} (h : (m.input n).pending = none) : m.discrepancy n = m :=
  if_neg (by simp [h])

/-- ACK_IN closes after its first settled level (R495). -/
theorem Sf.ackLevelIn_of_closed (hen : m.lattice.ackEn = true) (hseen : m.react.ackSeen = true) :
    m.ackLevelIn true = m.updL fun l => { l with ackLevel := true } := by
  simp [Sf.ackLevelIn, hen, hseen]

/-! ### Test pulses (R462, R464) -/

/-- What a pulse of port `p` does at both contacts of input `n`. -/
def Sf.pulseInput (p : Nat) (before last : BitVec 49) (m : Sf) (n : Nat) : Sf :=
  (m.pulseContact p n false (before.getLsbD (2 * n)) (last.getLsbD (2 * n))).pulseContact p n true
    (before.getLsbD (2 * n + 1)) (last.getLsbD (2 * n + 1))

theorem Sf.pulse_eq (p : Nat) (before last : BitVec 49) :
    m.pulse p before last = (((List.range 24).foldl (Sf.pulseInput p before last) m).pulseAck p (before.getLsbD 48)
      (last.getLsbD 48)).forwardSwitches := rfl

variable {m} {p n : Nat} {before last : BitVec 49}

/-- An input that is not in use feeds from no port. -/
theorem Sf.pulseInput_of_unused (h : m.lattice.siMode n = 0) : m.pulseInput p before last n = m := by
  have hunfed (b c d : Bool) : m.pulseContact p n b c d = m := by
    unfold Sf.pulseContact
    dsimp only
    rw [h]
    exact if_pos (by cases b <;> rfl)
  rw [Sf.pulseInput, hunfed, hunfed]

theorem Sf.foldl_pulseInput_of_unused {ns : List Nat} (h : ∀ k ∈ ns, m.lattice.siMode k = 0) :
    ns.foldl (Sf.pulseInput p before last) m = m := by
  induction ns with
  | nil => rfl
  | cons k ns ih =>
    rw [List.foldl_cons, Sf.pulseInput_of_unused (h k (.head _)), ih fun j hj => h j (.tail _ hj)]

/-- A single contact that was closed and reads closed in the pulse is shorted: the fault is latched, counted and recorded. -/
theorem Sf.pulseInput_of_shorted (hmode : m.lattice.siMode n = 3) (hsrc : m.lattice.siSrcA n = p)
    (hbefore : before.getLsbD (2 * n) = true) (hlast : last.getLsbD (2 * n) = true) (hshort : (m.input n).shortA = false) :
    m.pulseInput p before last n =
      (m.updInput n fun x => { x with shortA := true, faults := satInc x.faults }).note 0x0406
        (leBytes 1 n ++ leBytes 1 0 ++ leBytes 1 p) := by
  have hB (c d : Bool) (m' : Sf) (h : m'.lattice.siMode n = 3) : m'.pulseContact p n true c d = m' := by
    unfold Sf.pulseContact
    dsimp only
    rw [h]
    rfl
  have hA : m.pulseContact p n false true true =
      (m.updInput n fun x => { x with shortA := true, faults := satInc x.faults }).note 0x0406
        (leBytes 1 n ++ leBytes 1 0 ++ leBytes 1 p) := by
    simp [Sf.pulseContact, hmode, hsrc, hshort, bit]
  rw [Sf.pulseInput, hbefore, hlast, hA]
  exact hB _ _ _ hmode

theorem Sf.pulseAck_sameInputs (m : Sf) (b l : Bool) : m.SameInputs (m.pulseAck p b l) := by
  unfold Sf.pulseAck
  split
  · exact .refl m
  · split
    · split
      · exact .refl m
      · exact ⟨rfl, rfl⟩
    · split
      · exact ⟨rfl, rfl⟩
      · exact .refl m

/-- A pulse of the port that feeds the one input in use. -/
theorem Sf.pulse_of_shorted (hn : n < 24) (hmode : m.lattice.siMode n = 3) (hsrc : m.lattice.siSrcA n = p)
    (hothers : ∀ k < 24, k ≠ n → m.lattice.siMode k = 0) (hbefore : before.getLsbD (2 * n) = true)
    (hlast : last.getLsbD (2 * n) = true) (hshort : (m.input n).shortA = false) :
    (m.updInput n fun x => { x with shortA := true, faults := satInc x.faults }).SameInputs (m.pulse p before last) := by
  obtain ⟨as, bs, hrange⟩ := List.append_of_mem (List.mem_range.mpr hn)
  have hnodup : (as ++ n :: bs).Nodup := hrange ▸ List.nodup_range
  have hunused (k : Nat) (hk : k ∈ as ++ bs) : m.lattice.siMode k = 0 := by
    have hne : k ≠ n := fun h => (List.nodup_cons.mp (List.perm_middle.nodup_iff.mp hnodup)).1 (h ▸ hk)
    have hmem : k ∈ List.range 24 := by
      rw [hrange, List.mem_append, List.mem_cons]
      exact (List.mem_append.mp hk).imp_right .inr
    exact hothers k (List.mem_range.mp hmem) hne
  have hinputs : (List.range 24).foldl (Sf.pulseInput p before last) m = m.pulseInput p before last n := by
    rw [hrange, List.foldl_append, List.foldl_cons,
      Sf.foldl_pulseInput_of_unused fun k hk => hunused k (List.mem_append_left bs hk),
      Sf.pulseInput_of_shorted hmode hsrc hbefore hlast hshort]
    exact Sf.foldl_pulseInput_of_unused fun k hk => hunused k (List.mem_append_right as hk)
  rw [Sf.pulse_eq, hinputs, Sf.pulseInput_of_shorted hmode hsrc hbefore hlast hshort]
  refine .trans ?_ ((Sf.pulseAck_sameInputs _ _ _).trans (Sf.forwardSwitches_sameInputs _))
  exact ⟨rfl, rfl⟩

/-- A terminal whose pad the image uses is among the used ones (R49). -/
theorem State.getLsbD_usedTerminals {s : State} {t : Nat} (ht : t < 49) (hpad : s.padUsed (sensePad t) = true) :
    s.usedTerminals.getLsbD t = true := by
  have kept (ts : List Nat) (w : BitVec 49) (hw : w.getLsbD t = true ∨ t ∈ ts) :
      (ts.foldl (fun w t => if s.padUsed (sensePad t) then w ||| (1#49 <<< t) else w) w).getLsbD t = true := by
    induction ts generalizing w with
    | nil => exact hw.resolve_right List.not_mem_nil
    | cons u ts ih =>
      refine ih _ ?_
      dsimp only
      obtain hset | hmem := hw
      · left
        split
        · rw [BitVec.getLsbD_or, hset, Bool.true_or]
        · exact hset
      · obtain rfl | htail := List.mem_cons.mp hmem
        · left
          rw [if_pos hpad]
          simp [ht]
        · exact .inr htail
  exact kept (List.range 49) 0 (.inr (List.mem_range.mpr ht))

/-! ### Chain taps (R465) -/

/-- A tap takes the level that its measured value allows. -/
theorem Sf.tapChange_of_fits {c : Nat} {level : Bool} {mv : Word} (hother : (m.lattice.taps.get Tap.reset c).level ≠ level)
    (hfits : if level then 10 * m.env.tapTlo c < sInt mv else sInt mv < 10 * m.env.tapThi c) :
    ((m.tapChange c level mv).lattice.taps.get Tap.reset c).level = level ∧
    ((m.tapChange c level mv).lattice.taps.get Tap.reset c).mv = mv := by
  unfold Sf.tapChange
  dsimp only
  rw [if_neg (by simp [hother, hfits])]
  split <;> exact ⟨congrArg Tap.level (Tbl.get_set_self ..), congrArg Tap.mv (Tbl.get_set_self ..)⟩

/-! ### Virtual inputs (R238, R466) -/

/-- The inputs of position (false) or of the network (true) are taken as 0. -/
def Lattice.staleVi (l : Lattice) (nvi : Bool) : Bool := if nvi then l.nviStale else l.pviStale

theorem State.vi_of_stale {s : State} {nvi : Bool} (h : s.lattice.staleVi nvi = true) : s.sf.vi nvi = 0 := if_pos h

/-- A period of stale inputs begins with its record (R466). -/
theorem Sf.viStale_of_fresh {nvi : Bool} (h : m.lattice.staleVi nvi = false) :
    m.viStale nvi = (m.updL fun l => if nvi then { l with nviStale := true } else { l with pviStale := true }).note 0x040B
      [if nvi then 1 else 0] := if_neg (Bool.eq_false_iff.mp h)

theorem Sf.staleVi_viStale (m : Sf) (nvi : Bool) : (m.viStale nvi).lattice.staleVi nvi = true := by
  cases hs : m.lattice.staleVi nvi with
  | true =>
    rw [show m.viStale nvi = m from if_pos hs]
    exact hs
  | false =>
    rw [Sf.viStale_of_fresh hs]
    cases nvi <;> rfl

/-- A poisoned item makes its source stale. -/
theorem Sf.viItem_of_poison (m : Sf) (nvi : Bool) (ws : List Word) (at_ : Nat) :
    (m.viItem nvi { words := ws, poison := true } at_).lattice.staleVi nvi = true := Sf.staleVi_viStale _ nvi

/-- An item whose halves complement each other is in force from now on. -/
theorem Sf.viItem_of_good (m : Sf) (nvi : Bool) {w : Word} (x : Word) (at_ : Nat)
    (h : w.setWidth 16 = ~~~((w >>> 16).setWidth 16 : BitVec 16)) :
    m.viItem nvi { words := [w, x], poison := false } at_ =
      (m.updL fun l => if nvi then { l with nviItem := some { word := w, poison := false, at_ := at_ } }
        else { l with pviItem := some { word := w, poison := false, at_ := at_ } }).updL
          fun l => if nvi then { l with nviStale := false } else { l with pviStale := false } :=
  if_pos (show VItem.good { word := w, poison := false, at_ := at_ } = true from by simp [VItem.good, ← h])

end Sys2Proof.Machine
end

section
/-! SUPPORT. The rows of SFI's inputs (R238, R459 to R466, R495). -/

namespace Sys2Proof.Machine

/-! ### What each row runs -/

section

variable (s : State)

theorem exec_siLevelChange (t : Fin 49) (closed : Bool) : exec (.siLevelChange t closed) s =
    .next (s.runSf (s.sfiUp && s.padUsed (sensePad t.val)) fun m =>
      if t.val = 48 then m.ackLevelIn closed else m.contact (t.val / 2) (t.val % 2 == 1) closed) := rfl

theorem exec_siDiscrepancy (n : Fin 24) :
    exec (.siDiscrepancy n) s = .next (s.runSf s.sfiUp fun m => m.discrepancy n.val) := rfl

theorem exec_lepTestPulse (p : Fin 32) (before last : BitVec 49) : exec (.lepTestPulse p before last) s =
    .next (s.runSf (s.sfiUp && s.fieldUp && !s.quarantined 22 && getBits (s.reg .SFI_LEPCFG [p.val]) 2 0 == 1) fun m =>
      m.pulse p.val (before &&& s.usedTerminals) (last &&& s.usedTerminals)) := rfl

theorem exec_chainTapChange (c : Fin 8) (level : Bool) (mv : Word) : exec (.chainTapChange c level mv) s =
    .next (s.runSf (s.sfiUp && s.padUsed (319 + c.val)) fun m => m.tapChange c.val level mv) := rfl

theorem exec_pviItem (it : Item) : exec (.pviItem it) s = .next (s.runSf s.sfiUp fun m => m.viItem false it s.dev) := rfl

theorem exec_nviItem (it : Item) : exec (.nviItem it) s = .next (s.runSf s.sfiUp fun m => m.viItem true it s.dev) := rfl

theorem exec_viStale (nvi : Bool) : exec (.viStale nvi) s = .next (s.runSf s.sfiUp fun m => m.viStale nvi) := rfl

@[simp] theorem State.withSf_sf : s.withSf s.sf = s := rfl

end

/-! ### The rows where SFI runs -/

variable {s : State}

/-- A row of SFI that updates input `n` gives what the update makes of it. -/
theorem completes_of_updInput {c : Instr} {u : Sf} {n : Nat} {f : SafetyIn → SafetyIn} {y : SafetyIn}
    (hexec : exec c s = .next (s.withSf u)) (h : (s.sf.updInput n f).SameInputs u) (hy : f (s.sf.input n) = y) :
    Completes c s fun t =>
      t.lattice.inputs.get SafetyIn.reset n = y ∧ t.sf.si n = y.value (s.lattice.siMode n) ∧
      ∀ k, k ≠ n → t.lattice.inputs.get SafetyIn.reset k = s.lattice.inputs.get SafetyIn.reset k := by
  subst hy
  exact ⟨_, hexec, h.of_updInput⟩

/-- Contact A of an input closes. -/
theorem siLevelChange_of_openA {n : Fin 24} {t : Fin 49} (ht : t.val = 2 * n.val) (hup : s.sfiUp = true)
    (hpad : s.padUsed (sensePad t.val) = true) (ha : (s.sf.input n.val).a = false) {y : SafetyIn}
    (hy : (s.sf.input n.val).closeA (s.lattice.siMode n.val) s.dev = y) :
    Completes (.siLevelChange t true) s fun u =>
      u.lattice.inputs.get SafetyIn.reset n.val = y ∧ u.sf.si n.val = y.value (s.lattice.siMode n.val) ∧
      ∀ k, k ≠ n.val → u.lattice.inputs.get SafetyIn.reset k = s.lattice.inputs.get SafetyIn.reset k := by
  have hcontact : t.val ≠ 48 := by omega
  have hinput : t.val / 2 = n.val := by omega
  have hfirst : (t.val % 2 == 1) = false := by simp [ht]
  refine completes_of_updInput ?_ (s.sf.contact_of_open ha) hy
  rw [exec_siLevelChange, State.runSf_of_up _ (Bool.and_eq_true_iff.mpr ⟨hup, hpad⟩), if_neg hcontact, hinput, hfirst]

/-- A test pulse of the port that feeds the one input in use finds its contact shorted (R462). -/
theorem lepTestPulse_of_shorted {p : Fin 32} {n : Fin 24} {before last : BitVec 49} (hup : s.sfiUp = true)
    (hfield : s.fieldUp = true) (hq : s.quarantined 22 = false) (hpad : s.padUsed (sensePad (2 * n.val)) = true)
    (hport : getBits (s.reg .SFI_LEPCFG [p.val]) 2 0 = 1) (hmode : s.lattice.siMode n.val = 3)
    (hsrc : s.lattice.siSrcA n.val = p.val) (hothers : ∀ k < 24, k ≠ n.val → s.lattice.siMode k = 0)
    (hbefore : before.getLsbD (2 * n.val) = true) (hlast : last.getLsbD (2 * n.val) = true)
    (hshort : (s.sf.input n.val).shortA = false) :
    Completes (.lepTestPulse p before last) s fun u =>
      let y := { s.sf.input n.val with shortA := true, faults := satInc (s.sf.input n.val).faults }
      u.lattice.inputs.get SafetyIn.reset n.val = y ∧ u.sf.si n.val = y.value (s.lattice.siMode n.val) ∧
      ∀ k, k ≠ n.val → u.lattice.inputs.get SafetyIn.reset k = s.lattice.inputs.get SafetyIn.reset k := by
  have hused : s.usedTerminals.getLsbD (2 * n.val) = true := State.getLsbD_usedTerminals (by omega) hpad
  have hmask {w : BitVec 49} (hw : w.getLsbD (2 * n.val) = true) : (w &&& s.usedTerminals).getLsbD (2 * n.val) = true := by
    rw [BitVec.getLsbD_and, hw, hused]
    rfl
  refine completes_of_updInput ?_
    (Sf.pulse_of_shorted n.isLt hmode hsrc hothers (hmask hbefore) (hmask hlast) hshort) rfl
  rw [exec_lepTestPulse, State.runSf_of_up _ (by simp [hup, hfield, hq, hport])]

theorem chainTapChange_of_fits {c : Fin 8} {level : Bool} {mv : Word} (hup : s.sfiUp = true)
    (hpad : s.padUsed (319 + c.val) = true) (hother : (s.lattice.taps.get Tap.reset c.val).level ≠ level)
    (hfits : if level then 10 * s.tapTlo c.val < mv.toInt else mv.toInt < 10 * s.tapThi c.val) :
    Completes (.chainTapChange c level mv) s fun u =>
      (u.lattice.taps.get Tap.reset c.val).level = level ∧ (u.lattice.taps.get Tap.reset c.val).mv = mv := by
  refine ⟨_, by rw [exec_chainTapChange, State.runSf_of_up _ (Bool.and_eq_true_iff.mpr ⟨hup, hpad⟩)], ?_⟩
  exact Sf.tapChange_of_fits hother hfits

/-- A stale source shows all its inputs as 0 (R466). -/
theorem viStale_of_fresh {nvi : Bool} (hup : s.sfiUp = true) (hfresh : s.lattice.staleVi nvi = false) :
    Completes (.viStale nvi) s fun u =>
      u.lattice = (if nvi then { s.lattice with nviStale := true } else { s.lattice with pviStale := true }) ∧
      u.sf.vi nvi = 0 ∧ u.recorder = s.recorder.put s.dev 4 0x040B [if nvi then 1 else 0] := by
  have hstale := s.sf.staleVi_viStale nvi
  refine ⟨_, by rw [exec_viStale, State.runSf_of_up _ hup], ?_, State.vi_of_stale hstale, ?_⟩
  · rw [Sf.viStale_of_fresh (m := s.sf) hfresh]
    rfl
  · rw [Sf.viStale_of_fresh (m := s.sf) hfresh]
    rfl

/-- Settles O43: each input of SFI, row by row, where SFI runs and the image uses the pads, and where not. -/
theorem safetyInputsAreFiltered : Obligations.SafetyInputsAreFiltered := by
  unfold Obligations.SafetyInputsAreFiltered
  intro s
  refine ⟨fun n t ht hup hpad hmode ha => ?single, fun n t ht hup hpad hmode ha hb => ?dual,
    fun t ht hup hpad hen hseen => ?ack, fun t closed hno => ?levelOff, fun n hup hpend hmixed => ?discrepancy,
    fun n hno => ?noDiscrepancy,
    fun p n before last hup hfield hq hpad hport hmode hsrc hothers hbefore hlast hshort => ?shorted,
    fun p before last hno => ?pulseOff,
    fun c mv hup hpad hlow hfits => chainTapChange_of_fits hup hpad (by simp [hlow]) hfits,
    fun c mv hup hpad hhigh hfits => chainTapChange_of_fits hup hpad (by simp [hhigh]) (by simpa using hfits),
    fun c level mv hno => ?tapOff, fun w x hup hgood => ⟨?pvi, ?nvi⟩, fun ws hup => ⟨?pviPoison, ?nviPoison⟩,
    fun hup hfresh => viStale_of_fresh (nvi := true) hup hfresh,
    fun hup hfresh => viStale_of_fresh (nvi := false) hup hfresh, fun it nvi hdown => ⟨?pviDown, ?nviDown, ?staleDown⟩⟩
  case single =>
    exact .imp (siLevelChange_of_openA ht hup hpad ha (by rw [hmode]; exact SafetyIn.closeA_single ..))
      fun u ⟨hinput, _, hothers⟩ => ⟨hinput, hothers⟩
  case dual =>
    refine .imp (siLevelChange_of_openA ht hup hpad ha (by rw [hmode]; exact SafetyIn.closeA_dual ha hb ..))
      fun u ⟨hinput, hsi, hothers⟩ => ⟨hinput, hsi.trans ?_, hothers⟩
    rw [hmode]
    exact SafetyIn.value_of_pattern ((Bool.true_and _).trans hb)
  case ack =>
    rw [exec_siLevelChange, State.runSf_of_up _ (Bool.and_eq_true_iff.mpr ⟨hup, hpad⟩), if_pos ht,
      s.sf.ackLevelIn_of_closed hen hseen]
    rfl
  case levelOff =>
    rw [exec_siLevelChange, State.runSf_of_down _ (by obtain hno | hno := hno <;> simp [hno])]
  case discrepancy =>
    refine .imp (completes_of_updInput ?_ (s.sf.discrepancy_of_mixed hpend hmixed) rfl)
      fun u ⟨hinput, hsi, hothers⟩ => ⟨hinput, hsi.trans (SafetyIn.value_of_disc _ rfl), hothers⟩
    rw [exec_siDiscrepancy, State.runSf_of_up _ hup]
  case noDiscrepancy =>
    obtain hdown | hnone := hno
    · rw [exec_siDiscrepancy, State.runSf_of_down _ hdown]
    · rw [exec_siDiscrepancy, State.runSf, s.sf.discrepancy_of_none hnone, State.withSf_sf, ite_self]
  case shorted =>
    exact .imp (lepTestPulse_of_shorted hup hfield hq hpad hport hmode hsrc hothers hbefore hlast hshort)
      fun u ⟨hinput, hsi, hothers⟩ => ⟨hinput, hsi.trans (SafetyIn.value_of_shortA _ rfl), hothers⟩
  case pulseOff =>
    rw [exec_lepTestPulse, State.runSf_of_down _ (by obtain hno | hno | hno | hno := hno <;> simp [hno])]
  case tapOff =>
    rw [exec_chainTapChange, State.runSf_of_down _ (by obtain hno | hno := hno <;> simp [hno])]
  case pvi =>
    rw [exec_pviItem, State.runSf_of_up _ hup, s.sf.viItem_of_good false x s.dev hgood]
    rfl
  case nvi =>
    rw [exec_nviItem, State.runSf_of_up _ hup, s.sf.viItem_of_good true x s.dev hgood]
    rfl
  case pviPoison =>
    have hstale := s.sf.viItem_of_poison false ws s.dev
    exact ⟨_, by rw [exec_pviItem, State.runSf_of_up _ hup], hstale, State.vi_of_stale hstale⟩
  case nviPoison =>
    have hstale := s.sf.viItem_of_poison true ws s.dev
    exact ⟨_, by rw [exec_nviItem, State.runSf_of_up _ hup], hstale, State.vi_of_stale hstale⟩
  case pviDown => rw [exec_pviItem, State.runSf_of_down _ hdown]
  case nviDown => rw [exec_nviItem, State.runSf_of_down _ hdown]
  case staleDown => rw [exec_viStale, State.runSf_of_down _ hdown]

end Sys2Proof.Machine
end

section
/-! SUPPORT. ESYNC, and an axis whose encoder position lies outside 32 bits (R289, R290). -/

namespace Sys2Proof.Machine

/-- The registers that select and scale an encoder stand at other addresses than MPI_PLCTL. -/
theorem Reg.addr_ne_plctl (p : Nat) :
    Reg.addr .MPI_PLSTEP [p] ≠ Reg.addr .MPI_PLCTL [p] ∧ Reg.addr .MPI_PLESCALE [p] ≠ Reg.addr .MPI_PLCTL [p] :=
  ⟨fun h => absurd (Nat.add_right_cancel (m := dimOffset [(8, 0x800)] [p]) h) (by decide),
    fun h => absurd (Nat.add_right_cancel (m := dimOffset [(8, 0x800)] [p]) h) (by decide)⟩

/-- A write of MPI_PLCTL leaves the scaled count of the encoder. -/
theorem State.encScaled_setReg_plctl (s : State) (p : Nat) (w : Word) :
    (s.setReg .MPI_PLCTL [p] w).mpi.encScaled p = s.mpi.encScaled p := by
  obtain ⟨hstep, hscale⟩ := Reg.addr_ne_plctl p
  have hpad : (s.setReg .MPI_PLCTL [p] w).mpi.env.MPI_PLSTEP_ENC p = s.mpi.env.MPI_PLSTEP_ENC p :=
    congrArg (getBits · 5 4) (s.reg_setReg_ne (h := hstep) ..)
  have hfactor : (s.setReg .MPI_PLCTL [p] w).mpi.env.reg .MPI_PLESCALE [p] = s.mpi.env.reg .MPI_PLESCALE [p] :=
    s.reg_setReg_ne (h := hscale) ..
  rw [Mpi.encScaled, hpad, hfactor]
  rfl

theorem exec_esync (p : Fin 8) (w : Word) (s : State) : exec (.esync p w) s = .next (s.writePlctl p.val (w ||| 4)) := rfl

/-- ESYNC sets EORG so that EORG and the scaled count, which make the encoder position of R289, sum to the reference position
(R290). -/
theorem State.eorg_writePlctl_esync {s : State} {p : Nat} {w : Word} (hkind : s.planKind p ≠ 0) (hclr : w.getLsbD 1 = false) :
    ((s.writePlctl p (w ||| 4)).planners.get Planner.reset p).eorg =
      (s.mpi.planner p).kin.lsb - s.mpi.encScaled p := by
  have hkeep : (w ||| 4).getLsbD 1 = false := by rw [BitVec.getLsbD_or, hclr]; rfl
  have hsync : (w ||| 4).getLsbD 2 = true := by rw [BitVec.getLsbD_or]; exact Bool.or_true _
  have hon : ((s.setReg .MPI_PLCTL [p] (BitVec.ofNat 32 (getBits (w ||| 4) 0 0))).planKind p != 0) = true :=
    bne_iff_ne.mpr hkind
  rw [State.writePlctl, State.runMpi_of_on _ hon, hkeep, hsync, State.planner_withMpi, if_neg Bool.false_ne_true, if_pos rfl,
    Mpi.planner_upd, State.encScaled_setReg_plctl]
  rfl

/-- A stepper axis at the reference position 0, with EORG 0 and ESCALE 2.0, whose encoder has counted 2^30: its encoder position
is 2^31. -/
def axisBeyondRange : State :=
  { Fx.steps.setReg .MPI_PLESCALE [2] 0x20000 with
    fusion := { Fusion.reset with quads := [(0, { Quad.reset with count := 0x40000000 })] } }

/-- The encoder position of that axis, saturated to 32 bits, is not the sum of EORG and the scaled count. -/
theorem encPos_axisBeyondRange :
    axisBeyondRange.mpi.encPos 2 ≠ (axisBeyondRange.mpi.planner 2).eorg + axisBeyondRange.mpi.encScaled 2 := by decide

/-- Refutes O29: its clause on ESYNC moves EORG by the reference position's distance from the encoder position saturated to 32
bits. Where EORG and the scaled count sum to more than 32 bits hold, that is not the EORG that R290 asks for and ESYNC sets. -/
theorem not_plannerCyclesAndWaitsProceed : ¬ Obligations.PlannerCyclesAndWaitsProceed := by
  unfold Obligations.PlannerCyclesAndWaitsProceed
  intro h
  obtain ⟨-, -, -, -, -, -, -, -, hesync, -⟩ := h axisBeyondRange 2
  have hkind : axisBeyondRange.planKind 2 ≠ 0 := by decide
  obtain ⟨t, hexec, -, hclause, -⟩ := hesync 0 hkind rfl
  obtain rfl : axisBeyondRange.writePlctl 2 (0 ||| 4) = t := Host.Outcome.next.inj ((exec_esync 2 0 _).symm.trans hexec)
  have hset : (axisBeyondRange.mpi.planner 2).kin.lsb - axisBeyondRange.mpi.encScaled 2 =
      (axisBeyondRange.mpi.planner 2).eorg + ((axisBeyondRange.mpi.planner 2).kin.lsb - axisBeyondRange.mpi.encPos 2) :=
    (State.eorg_writePlctl_esync hkind rfl).symm.trans hclause
  exact encPos_axisBeyondRange (by omega)

end Sys2Proof.Machine
end

section
/-! SUPPORT. Single operations on loop and motor engines: what each leaves of an engine and of the rest (R302, R312 to R314). -/

namespace Sys2Proof.Machine

/-! ### A step where its condition holds -/

section

variable {s : State}

theorem State.runMc_of_on (f : Mc → Mc) {ok : Bool} (h : ok = true) : s.runMc ok f = s.withMc (f s.mc) := if_pos h

theorem State.runMc_of_off (f : Mc → Mc) {ok : Bool} (h : ok = false) : s.runMc ok f = s := if_neg (Bool.eq_false_iff.mp h)

@[simp] theorem State.withMc_mc : s.withMc s.mc = s := rfl

/-- A step that changes nothing may run or not. -/
theorem State.runMc_of_idle {f : Mc → Mc} (ok : Bool) (h : f s.mc = s.mc) : s.runMc ok f = s := by
  rw [State.runMc, h, State.withMc_mc, ite_self]

theorem State.loop_withMc (m : Mc) (e : Nat) : (s.withMc m).loops.get Loop.reset e = m.loop e := rfl

theorem State.motor_withMc (m : Mc) (i : Nat) : (s.withMc m).motors.get Motor.reset i = m.motor i := rfl

/-- An engine's step that leaves the registers leaves what each reads. -/
theorem State.reg_withMc {m : Mc} (h : m.regs = s.regs) (r : Reg) (idx : List Nat) : (s.withMc m).reg r idx = s.reg r idx := by
  rw [State.reg, State.reg, State.withMc_regs, h]

end

/-! ### Bit 0 of a word -/

theorem and_one_eq (w : Word) : w &&& 1 = if w.getLsbD 0 then 1 else 0 := by
  refine BitVec.and_one_eq_setWidth_ofBool_getLsbD.trans ?_
  cases w.getLsbD 0 <;> rfl

/-! ### One engine -/

section

variable (m : Mc) (i k : Nat)

@[simp] theorem Mc.loop_updLoop_self (f : Loop → Loop) : (m.updLoop i f).loop i = f (m.loop i) := Tbl.get_modify_self ..

theorem Mc.loop_updLoop_ne (f : Loop → Loop) (h : k ≠ i) : (m.updLoop i f).loop k = m.loop k :=
  Tbl.get_modify_of_ne _ _ _ h.symm

@[simp] theorem Mc.motor_updMotor_self (f : Motor → Motor) : (m.updMotor i f).motor i = f (m.motor i) := Tbl.get_modify_self ..

@[simp] theorem Mc.loop_updMotor (f : Motor → Motor) : (m.updMotor i f).loop k = m.loop k := rfl
@[simp] theorem Mc.motor_updLoop (f : Loop → Loop) : (m.updLoop i f).motor k = m.motor k := rfl
@[simp] theorem Mc.loop_note (code : Nat) (data : List Byte) : (m.note i code data).loop k = m.loop k := rfl
@[simp] theorem Mc.motor_note (code : Nat) (data : List Byte) : (m.note i code data).motor k = m.motor k := rfl
@[simp] theorem Mc.loop_post (port : Nat) (ws : List Word) : (m.post port ws).loop k = m.loop k := rfl

end

/-! ### Items at a port (R194, R302) -/

/-- A port where nothing waits gives no item, and nothing changes. -/
theorem Qf.takeItem_of_not_ready (x : Qf) {code : Nat} (h : x.fabric.ready code = false) : x.takeItem code = (none, x) := by
  have hstage : x.fabric.stage code = [] := by
    rw [Fabric.ready, Bool.or_eq_false_iff, Bool.not_eq_false', List.isEmpty_iff] at h
    exact h.1
  have hpush : x.stagePort code = x := by
    rw [Fabric.ready, hstage] at h
    exact Qf.push_of_none x _ _ (Option.isSome_eq_false_iff.mp h |> Option.isNone_iff_eq_none.mp)
  rw [Qf.takeItem, Qf.takeStaged, hpush, hstage]
  rfl

section

variable {m : Mc} {i : Nat}

/-- The working copies stay while HOLD is 1 (R312). -/
theorem Mc.takeCopies_of_hold {e : Nat} (h : m.env.LEHOLD_HOLD e = 1) : m.takeCopies e = m := if_pos h

/-- An unrouted reference port has no item to wait for (R302). -/
theorem Mc.readRef_of_unrouted (sn : Nat) (h : m.env.routedTo ((6 + i) * 0x100) = false) : m.readRef i sn = (true, m) := by
  rw [Mc.readRef, h]
  rfl

/-- With no auxiliary item waiting, the held one ages (R302, R313). -/
theorem Mc.readAux_of_none (h : m.qf.fabric.ready ((6 + i) * 0x100 + 2) = false) :
    m.readAux i = m.updLoop i fun l => { l with auxAge := l.auxAge + 1 } := by
  rw [Mc.readAux, Qf.takeItems_of_not_ready m.qf _ 64 h]
  rfl

end

/-! ### A miss (R313, R314) -/

/-- The loop engine with one more miss counted. -/
def Loop.missed (l : Loop) : Loop := { l with miss := true, missCount := satInc l.missCount, run := satInc l.run }

/-- The run of misses has reached MISSRUN. -/
def Loop.runsOut (l : Loop) (e : Nat) : Bool := decide (l.run.toNat = max 1 (getBits (l.copy .LECTL [e]) 15 12))

/-- A miss is counted, and sets LOOPFLT where the run of misses has reached MISSRUN. -/
theorem Mc.loop_miss (m : Mc) (e : Nat) :
    (m.miss e).loop e = { (m.loop e).missed with fault := (m.loop e).fault || (m.loop e).missed.runsOut e } := by
  have hmissed : (m.updLoop e Loop.missed).loop e = (m.loop e).missed := m.loop_updLoop_self e _
  by_cases hrun : (m.loop e).missed.run.toNat = max 1 (getBits ((m.loop e).missed.copy .LECTL [e]) 15 12)
  · have hmiss : (m.miss e).loop e = ((m.updLoop e Loop.missed).updLoop e fun l => { l with fault := true }).loop e :=
      (congrArg (Mc.loop · e) (if_pos (hmissed.symm ▸ hrun))).trans rfl
    rw [hmiss, Mc.loop_updLoop_self, hmissed, Loop.runsOut, decide_eq_true hrun, Bool.or_true]
  · have hmiss : m.miss e = m.updLoop e Loop.missed := if_neg (hmissed.symm ▸ hrun)
    rw [hmiss, hmissed, Loop.runsOut, decide_eq_false hrun, Bool.or_false]
    rfl

end Sys2Proof.Machine
end

section
/-! SUPPORT. A completed sample with no slot, or one proportional slot, enabled (R303, R306, R307). -/

namespace Sys2Proof

/-- A fold that writes each of its keys once, with a value that does not depend on the fold, leaves that value at each key. -/
theorem Tbl.get_foldl_set {α β : Type} [DecidableEq α] {d : α} {f : Tbl α × β → Nat → Tbl α × β} (g : Nat → α)
    (hf : ∀ r j, (f r j).1 = r.1.set d j (g j)) (js : List Nat) (r : Tbl α × β) (k : Nat) :
    (js.foldl f r).1.get d k = if k ∈ js then g k else r.1.get d k := by
  induction js generalizing r with
  | nil => rfl
  | cons j js ih =>
    rw [List.foldl_cons, ih, hf, Tbl.get_set]
    by_cases hk : k ∈ js
    · rw [if_pos hk, if_pos (List.mem_cons_of_mem j hk)]
    · rw [if_neg hk]
      by_cases hj : j = k
      · rw [if_pos hj, if_pos (hj ▸ List.mem_cons_self), hj]
      · rw [if_neg hj, if_neg (List.not_mem_cons_of_ne_of_not_mem (Ne.symm hj) hk)]

end Sys2Proof

namespace Sys2Proof.Machine

variable (s : State) (l : Loop) (e n : Nat) (x : LoopIn)

/-- With no slot enabled the output is 0 and WIN reads 7 (R307). -/
theorem Loop.sample_of_none (h : ∀ j < 6, (l.cfg s e j).en = false) :
    (l.sample s e n x).out = 0 ∧ (l.sample s e n x).win = 7 ∧ (l.sample s e n x).n = BitVec.ofNat 32 n ∧
    (l.sample s e n x).run = 0 ∧ (l.sample s e n x).copies = l.copies := by
  have hen : (List.range 6).filter (fun j => (l.cfg s e j).en) = [] :=
    List.filter_eq_nil_iff.mpr fun j hj => Bool.eq_false_iff.mp (h j (List.mem_range.mp hj))
  unfold Loop.sample
  simp only [hen, lowestSlot, List.foldl_nil, List.getLast?_nil, ite_self, and_self]

/-- In native mode a slot that is enabled runs on its own source (R303). -/
theorem Loop.get_runSlots_native (cfg : Nat → SlotCfg) (dir ff : Int) {j : Nat} (hj : j < 6) (hen : (cfg j).en = true) :
    (l.runSlots cfg x n dir ff false).1.get Slot.reset j =
      (l.slots.get Slot.reset j).run (cfg j) (x.src (cfg j).ssrc (cfg j).setp) (x.src (cfg j).msrc 0) dir ff
        ((l.slots.get Slot.reset j).fresh || l.fresh || l.resetI) l.resetI := by
  unfold Loop.runSlots
  rw [Tbl.get_foldl_set (fun j =>
    let sl := l.slots.get Slot.reset j
    let anew := sl.fresh || l.fresh || l.resetI
    if (cfg j).en then sl.run (cfg j) (x.src (cfg j).ssrc (cfg j).setp) (x.src (cfg j).msrc 0) dir ff anew l.resetI
    else { sl with i := 0, fresh := anew }), if_pos (List.mem_range.mpr hj)]
  · exact if_pos hen
  · intro r j
    cases hj : (cfg j).en <;> simp [hj]

theorem rnDiv_zero (b : Int) : rnDiv 0 b = 0 := by
  have hnone : (if b < 0 then -0 else 0 : Int) = 0 := by rw [Int.neg_zero, ite_self]
  unfold rnDiv
  rw [hnone]
  by_cases hb : b.natAbs = 0
  · exact if_pos hb
  · have hless : (2 * (0 : Int).natAbs + b.natAbs) / (2 * b.natAbs) = 0 := Nat.div_eq_of_lt (by omega)
    rw [if_neg hb, hless]
    rfl

/-- A slot with KP alone gives its proportional term, clamped (R303). -/
theorem Slot.run_of_proportional (y : Slot) {c : SlotCfg} (t meas dir ff : Int) (anew zero : Bool) (hsdir : c.sdir = false)
    (hmdir : c.mdir = false) (hmneg : c.mneg = false) (hff : c.ffen = false) (hrate : c.rate = 0) (hki : c.ki = 0)
    (hkd : c.kd = 0) (hmin : c.outmin ≤ 0) (hmax : 0 ≤ c.outmax) (hi : y.i = 0) :
    (y.run c t meas dir ff anew zero).v = rnDiv (sat64 (c.kp * (t - meas))) s16 ∧
    (y.run c t meas dir ff anew zero).u = min (max (rnDiv (sat64 (c.kp * (t - meas))) s16) c.outmin) c.outmax := by
  have hslew : (if anew then (t, 0) else slewStep y.sp y.d t c.rate c.jerk) = (t, 0) := by
    rw [slewStep, if_pos hrate, ite_self]
  have hint : min (max (0 : Int) (c.outmin * s16)) (c.outmax * s16) = 0 := by
    unfold s16
    omega
  have hsat : sat64 0 = 0 := rfl
  simp only [Slot.run, hsdir, hmdir, hmneg, hff, hki, hkd, hi, hslew, hint, hsat, rnDiv_zero, Bool.false_eq_true, if_false,
    ite_self, Int.zero_mul, Int.add_zero, true_and]

/-- One slot enabled in native mode wins with its own output, `u` for every direction and feed-forward (R307). -/
theorem Loop.sample_of_one {w : Nat} {u v : Int} (hw : w < 6) (hen : ∀ j < 6, (l.cfg s e j).en = decide (j = w))
    (hnative : (l.copy .LECTL [e]).getLsbD 8 = false)
    (hslot : ∀ dir ff anew,
      let c := l.cfg s e w
      let y := (l.slots.get Slot.reset w).run c (x.src c.ssrc c.setp) (x.src c.msrc 0) dir ff anew l.resetI
      y.v = v ∧ y.u = u) :
    (l.sample s e n x).out = u ∧ (l.sample s e n x).win = BitVec.ofNat 3 w ∧
    (l.sample s e n x).limited = decide (v ≠ u) := by
  have hone : (List.range 6).filter (fun j => (l.cfg s e j).en) = [w] := by
    have hfilter : (List.range 6).filter (fun j => (l.cfg s e j).en) = (List.range 6).filter fun j => decide (j = w) :=
      List.filter_congr fun j hj => hen j (List.mem_range.mp hj)
    rw [hfilter]
    have slots : w = 0 ∨ w = 1 ∨ w = 2 ∨ w = 3 ∨ w = 4 ∨ w = 5 := by omega
    obtain rfl | rfl | rfl | rfl | rfl | rfl := slots <;> rfl
  have hself : (l.cfg s e w).en = true := (hen w hw).trans (decide_eq_true rfl)
  unfold Loop.sample
  simp only [hone, hnative, Bool.false_eq_true, if_false, lowestSlot, List.foldl_cons, List.foldl_nil, true_and]
  rw [Loop.get_runSlots_native _ _ _ _ _ _ hw hself]
  obtain ⟨hv, hu⟩ := hslot _ _ _
  exact ⟨hu, by rw [hv, hu]⟩

end Sys2Proof.Machine
end

section
/-! SUPPORT. The rows of the loop engines (R299 to R303, R312 to R314, R318, R328). -/

namespace Sys2Proof.Machine

/-! ### A sample of a free engine (R299, R302) -/

/-- The inputs of a sample of a free engine: the words of its input item (R302). -/
def LoopIn.ofItem (ws : List Word) : LoopIn :=
  { vel := 0, fbpos := 0, iq := 0, fobs := 0, ekin := 0, vadm := 0, flim := 0, ohm := 0, vdc := 0, rvel := 0, rpos := 0,
    racc := 0, aux := ws }

section

variable {m : Mc} {e : Nat}

/-- An item without POISON completes the sample (R303). -/
theorem Mc.freeSample_of_item {it : Item} {q : Qf} (hold : m.env.LEHOLD_HOLD e = 1)
    (hitem : m.qf.takeItem (0x0530 + 2 * (e - 4)) = (some it, q)) (hgood : it.poison = false) :
    (m.freeSample e false).loop e = (m.loop e).sample m.env e ((m.loop e).n.toNat + 1) (.ofItem it.words) ∧
    ∀ k, k ≠ e → (m.freeSample e false).loop k = m.loop k := by
  let u : Mc := { m with qf := q }
  have hsample : ∃ port ws, m.freeSample e false =
      (u.updLoop e fun _ => (m.loop e).sample m.env e ((m.loop e).n.toNat + 1) (.ofItem it.words)).post port ws := by
    unfold Mc.freeSample
    rw [Mc.takeCopies_of_hold hold]
    dsimp only
    rw [hitem]
    exact ⟨_, _, if_neg (by simp [hgood])⟩
  obtain ⟨port, ws, hsample⟩ := hsample
  rw [hsample, Mc.loop_post]
  exact ⟨u.loop_updLoop_self e _, fun k hk => (Mc.loop_post ..).trans (u.loop_updLoop_ne e k _ hk)⟩

/-- A sample without its item is a miss (R313). -/
theorem Mc.freeSample_of_none (late : Bool) (hold : m.env.LEHOLD_HOLD e = 1)
    (hnone : m.qf.fabric.ready (0x0530 + 2 * (e - 4)) = false) : m.freeSample e late = m.miss e := by
  unfold Mc.freeSample
  rw [Mc.takeCopies_of_hold hold]
  dsimp only
  rw [Qf.takeItem_of_not_ready m.qf hnone]

end

/-! ### A sample of a motor's loop (R301, R302, R318) -/

section

variable {m : Mc} {i : Nat}

/-- The output goes to the current samples, and with no auxiliary item waiting the held one ages (R302, R320). -/
def Mc.boundary (m : Mc) (i : Nat) : Mc :=
  (m.updMotor i fun x => { x with iqd := (m.loop i).out }).updLoop i fun l => { l with auxAge := l.auxAge + 1 }

theorem Mc.motor_boundary : (m.boundary i).motor i = { m.motor i with iqd := (m.loop i).out } := by
  rw [Mc.boundary, Mc.motor_updLoop, Mc.motor_updMotor_self]

@[simp] theorem Mc.env_boundary : (m.boundary i).env = m.env := rfl

theorem Mc.loop_boundary : (m.boundary i).loop i = { m.loop i with auxAge := (m.loop i).auxAge + 1 } :=
  Mc.loop_updLoop_self ..

theorem Mc.readAux_at_boundary (hnone : m.qf.fabric.ready ((6 + i) * 0x100 + 2) = false) :
    (m.updMotor i fun x => { x with iqd := (m.loop i).out }).readAux i = m.boundary i := Mc.readAux_of_none hnone

/-- Outside RUN the loop is not evaluated (R301). -/
theorem Mc.motorSample_of_stopped (sn : Nat) (refOk late : Bool)
    (hnone : m.qf.fabric.ready ((6 + i) * 0x100 + 2) = false) (hstop : (m.motor i).bridge ≠ .run) :
    m.motorSample i sn refOk late = m.boundary i := by
  have hbridge : ((m.boundary i).motor i).bridge ≠ .run := by rwa [Mc.motor_boundary]
  unfold Mc.motorSample
  dsimp only
  rw [Mc.readAux_at_boundary hnone, bne_iff_ne.mpr hbridge]
  rfl

/-- In RUN, with its reference read and no auxiliary word used, the sample completes (R301, R303). -/
theorem Mc.loop_motorSample_of_run (sn : Nat) (hmode : m.env.motorMode i = 1)
    (hnone : m.qf.fabric.ready ((6 + i) * 0x100 + 2) = false) (hrun : (m.motor i).bridge = .run) (haux : (m.loop i).aux = none)
    (huses : (m.loop i).usesAux m.env i (sn * m.env.speedHz / 1000000) = false) :
    ∃ x, (m.motorSample i sn true false).loop i =
      ((m.boundary i).loop i).sample m.env i (sn * m.env.speedHz / 1000000) x := by
  have hbridge : ((m.boundary i).motor i).bridge = .run := (congrArg Motor.bridge Mc.motor_boundary).trans hrun
  have hok : (m.boundary i).auxOk i (sn * m.env.speedHz / 1000000) = true := by
    rw [Mc.auxOk, Mc.loop_boundary, haux]
    exact congrArg (!·) huses
  have hsample : ∃ x port ws, m.motorSample i sn true false =
      ((m.boundary i).updLoop i fun _ => ((m.boundary i).loop i).sample m.env i (sn * m.env.speedHz / 1000000) x).post port ws := by
    unfold Mc.motorSample
    dsimp only
    rw [Mc.readAux_at_boundary hnone]
    exact ⟨_, _, _, (if_neg (by simp [hbridge, hmode])).trans (if_neg (by simp [hok]))⟩
  obtain ⟨x, port, ws, hsample⟩ := hsample
  exact ⟨x, by rw [hsample, Mc.loop_post, Mc.loop_updLoop_self]⟩

end

/-! ### LOOP_SAMPLE -/

section

variable {m : Mc} {e : Nat} (late : Bool)

theorem Mc.loopSample_of_due (hfree : 4 ≤ e) (hdue : m.freeDue e = true) : m.loopSample e late = m.freeSample e late :=
  (if_neg (Nat.not_lt.mpr hfree)).trans (if_pos hdue)

/-- Between the cycles of RATEDIV a free engine takes no sample (R299). -/
theorem Mc.loopSample_of_notDue (hfree : 4 ≤ e) (hdue : m.freeDue e = false) : m.loopSample e late = m :=
  (if_neg (Nat.not_lt.mpr hfree)).trans (if_neg (Bool.eq_false_iff.mp hdue))

/-- In stepper mode a motor's loop is never evaluated (R318). -/
theorem Mc.loopSample_of_stepper (hmotor : e < 4) (hmode : m.env.motorMode e = 2) (hold : m.env.LEHOLD_HOLD e = 1) :
    m.loopSample e late = m :=
  (if_pos hmotor).trans ((if_pos hmode).trans (Mc.takeCopies_of_hold hold))

theorem Mc.loopSample_of_unrouted (hmotor : e < 4) (hmode : m.env.motorMode e ≠ 2) (hold : m.env.LEHOLD_HOLD e = 1)
    (hroute : m.env.routedTo ((6 + e) * 0x100) = false) :
    m.loopSample e late = m.motorSample e m.env.speedTime true late := by
  rw [Mc.loopSample, if_pos hmotor, if_neg hmode]
  dsimp only
  rw [Mc.takeCopies_of_hold hold, Mc.readRef_of_unrouted _ hroute]

end

/-! ### The rows -/

section

variable {s : State} {e : Fin 8}

theorem exec_loopSample (late : Bool) :
    exec (.loopSample e late) s = .next (s.runMc (s.loopRuns e.val) fun m => m.loopSample e.val late) := rfl

/-- A row of a loop engine that runs gives what the sample leaves. -/
theorem completes_loopSample {late : Bool} {P : State → Prop} {m : Mc} (hruns : s.loopRuns e.val = true)
    (hsample : s.mc.loopSample e.val late = m) (h : P (s.withMc m)) : Completes (.loopSample e late) s P :=
  ⟨_, by rw [exec_loopSample, State.runMc_of_on _ hruns, hsample], h⟩

theorem exec_loopSample_of_idle {late : Bool} (h : s.mc.loopSample e.val late = s.mc) : exec (.loopSample e late) s = .next s := by
  rw [exec_loopSample, State.runMc_of_idle _ h]

theorem exec_reseti (w : Word) : exec (.reseti e w) s = .next (s.writeLecmd e.val (w ||| 2)) := rfl

theorem exec_loopClrcnt (w : Word) : exec (.loopClrcnt e w) s = .next (s.writeLecmd e.val (w ||| 1)) := rfl

theorem State.loop_writeLecmd (e : Nat) (w : Word) :
    (s.writeLecmd e w).loops.get Loop.reset e =
      { s.mc.loop e with resetI := (s.mc.loop e).resetI || w.getLsbD 1,
                         missCount := if w.getLsbD 0 then 0 else (s.mc.loop e).missCount } := by
  rw [State.writeLecmd, State.runMc_of_on _ rfl, State.loop_withMc, Mc.loop_updLoop_self]

/-! ### HOLD (R312) -/

theorem State.reg_writeLehold (e : Nat) (w : Word) : (s.writeLehold e w).reg .LEHOLD [e] = w &&& 1 := by
  unfold State.writeLehold
  dsimp only
  split
  · exact (State.reg_withMc rfl ..).trans (s.reg_setReg_self ..)
  · exact s.reg_setReg_self ..

/-- An accepted write of LEHOLD shows its HOLD, and adds to its effect its change-log record and its overlay entry. -/
theorem State.hold_acceptRwl (e : Nat) (w : Word) :
    (s.acceptRwl .LEHOLD [e] w).LEHOLD_HOLD e = (w.getLsbD 0).toNat ∧
    s.acceptRwl .LEHOLD [e] w = { s.writeLehold e w with persist := (s.acceptRwl .LEHOLD [e] w).persist } := by
  refine ⟨?_, rfl⟩
  have hreg : (s.acceptRwl .LEHOLD [e] w).reg .LEHOLD [e] = w &&& 1 := s.reg_writeLehold e w
  rw [State.LEHOLD_HOLD, hreg, and_one_eq]
  cases w.getLsbD 0 <;> rfl

/-- HOLD 1 freezes the working copies. -/
theorem State.writeLehold_of_hold (e : Nat) {w : Word} (h : w.getLsbD 0 = true) :
    (s.writeLehold e w).loops.get Loop.reset e = { s.mc.loop e with held := true } ∧
    s.writeLehold e w = { s with regs := (s.writeLehold e w).regs, loops := (s.writeLehold e w).loops } := by
  rw [State.writeLehold, if_pos h, State.runMc_of_on _ rfl, State.loop_withMc, Mc.loop_updLoop_self]
  exact ⟨rfl, rfl⟩

theorem State.writeLehold_of_release (e : Nat) {w : Word} (h : w.getLsbD 0 = false) :
    s.writeLehold e w = s.setReg .LEHOLD [e] (w &&& 1) := if_neg (Bool.eq_false_iff.mp h)

end

/-- Settles O30: the samples of the loop engines, row by row, with their misses, HOLD and resets. -/
theorem loopEnginesSample : Obligations.LoopEnginesSample := by
  unfold Obligations.LoopEnginesSample
  intro s e l
  refine ⟨fun it q hfree hruns hdue hold hitem hgood hen => ?noSlot,
    fun it q w m hfree hruns hdue hold hitem hgood hwords hnative hw hen hssrc hmsrc hsdir hmdir hmneg hff hrate hki hkd hmin
      hmax hi => ?oneSlot,
    fun hfree hruns hdue hold hnone => ?missed, fun hfree hdue late => ?notDue, fun late hmotor hmode _ hold => ?stepper,
    fun hmotor hmode hruns hold hroute hnone hstop => ?stopped,
    fun hmotor hruns hold hroute hmode hnone haux hrun hen huses => ?running, fun late hstop => ?off, fun w => ?reseti,
    fun w => ?clrcnt, fun w hopen hbit => ?hold, fun w hopen hbit => ?release⟩
  case noSlot =>
    obtain ⟨hloop, hothers⟩ := Mc.freeSample_of_item (m := s.mc) hold hitem hgood
    refine completes_loopSample hruns (Mc.loopSample_of_due _ hfree hdue) ?_
    obtain ⟨hout, hwin, hn, hrun, hcopies⟩ := Loop.sample_of_none s l e.val (l.n.toNat + 1) (.ofItem it.words) hen
    simp only [State.loop_withMc, hloop]
    exact ⟨hout, hwin, hn, hrun, hcopies, hothers⟩
  case oneSlot =>
    obtain ⟨hloop, -⟩ := Mc.freeSample_of_item (m := s.mc) hold hitem hgood
    refine completes_loopSample hruns (Mc.loopSample_of_due _ hfree hdue) ?_
    obtain ⟨hout, hwin, hlim⟩ := Loop.sample_of_one s l e.val (l.n.toNat + 1) (.ofItem it.words) hw hen hnative
      fun dir ff anew => Slot.run_of_proportional _ _ _ dir ff anew _ hsdir hmdir hmneg hff hrate hki hkd hmin hmax hi
    have hsetp : (LoopIn.ofItem it.words).src (l.cfg s e.val w).ssrc (l.cfg s e.val w).setp = (l.cfg s e.val w).setp := by
      rw [hssrc]
      rfl
    have hmeas : (LoopIn.ofItem it.words).src (l.cfg s e.val w).msrc 0 = m.toInt := by
      rw [hmsrc, hwords]
      rfl
    rw [hsetp, hmeas] at hout hlim
    rw [← hout] at hlim
    simp only [State.loop_withMc, hloop]
    exact ⟨hout, hwin, hlim.trans (decide_not.trans rfl)⟩
  case missed =>
    refine completes_loopSample hruns ((Mc.loopSample_of_due _ hfree hdue).trans
      (Mc.freeSample_of_none _ hold (hnone _ (List.mem_singleton_self _)))) ?_
    simp only [State.loop_withMc, Mc.loop_miss]
    exact ⟨rfl, rfl, rfl, rfl, rfl⟩
  case notDue => exact exec_loopSample_of_idle (Mc.loopSample_of_notDue late hfree hdue)
  case stepper => exact exec_loopSample_of_idle (Mc.loopSample_of_stepper late hmotor hmode hold)
  case stopped =>
    refine completes_loopSample hruns ((Mc.loopSample_of_unrouted _ hmotor hmode hold hroute).trans
      (Mc.motorSample_of_stopped _ _ _ (hnone _ (List.mem_singleton_self _)) hstop)) ?_
    exact ⟨Mc.loop_boundary, Mc.motor_boundary⟩
  case running =>
    have hmode2 : s.mc.env.motorMode e.val ≠ 2 := fun h => absurd (hmode.symm.trans h) (by decide)
    obtain ⟨x, hloop⟩ := Mc.loop_motorSample_of_run (m := s.mc) s.mc.env.speedTime hmode
      (hnone _ (List.mem_singleton_self _)) hrun haux huses
    refine completes_loopSample hruns (Mc.loopSample_of_unrouted _ hmotor hmode2 hold hroute) ?_
    obtain ⟨hout, hwin, hn, -⟩ := Loop.sample_of_none s (s.mc.boundary e.val |>.loop e.val) e.val
      (s.speedTime * s.speedHz / 1000000) x (by rw [Mc.loop_boundary]; exact hen)
    rw [State.loop_withMc, hloop]
    exact ⟨hout, hwin, hn⟩
  case off => rw [exec_loopSample, State.runMc_of_off _ hstop]
  case reseti =>
    refine ⟨_, exec_reseti w, ?_, rfl⟩
    have hreset : (w ||| 2).getLsbD 1 = true := by rw [BitVec.getLsbD_or]; exact Bool.or_true _
    have hclear : (w ||| 2).getLsbD 0 = w.getLsbD 0 := by rw [BitVec.getLsbD_or]; exact Bool.or_false _
    rw [State.loop_writeLecmd, hreset, hclear, Bool.or_true]
    rfl
  case clrcnt =>
    refine ⟨_, exec_loopClrcnt w, ?_, rfl⟩
    have hreset : (w ||| 1).getLsbD 1 = w.getLsbD 1 := by rw [BitVec.getLsbD_or]; exact Bool.or_false _
    have hclear : (w ||| 1).getLsbD 0 = true := by rw [BitVec.getLsbD_or]; exact Bool.or_true _
    rw [State.loop_writeLecmd, hreset, hclear]
    rfl
  case hold =>
    obtain ⟨hreg, hframe⟩ := State.hold_acceptRwl e.val w (s := s)
    refine ⟨_, rwlRow_accepted rfl hopen, hreg.trans (congrArg Bool.toNat hbit), ?_⟩
    obtain ⟨hheld, hrest⟩ := State.writeLehold_of_hold e.val hbit (s := s)
    rw [hframe, hrest]
    exact ⟨hheld, rfl⟩
  case release =>
    obtain ⟨hreg, hframe⟩ := State.hold_acceptRwl e.val w (s := s)
    refine ⟨_, rwlRow_accepted rfl hopen, hreg.trans (congrArg Bool.toNat hbit), ?_⟩
    rw [hframe, s.writeLehold_of_release e.val hbit]
    rfl

end Sys2Proof.Machine
end

section
/-! SUPPORT. What each operation on a bridge leaves of its motor engine and of its loop engine (R315 to R319). -/

namespace Sys2Proof.Machine

variable (m : Mc) (i : Nat)

/-! ### Leaving RUN (R316, R319) -/

theorem Mc.motor_stopBridge (b : BridgeState) :
    (m.stopBridge i b).motor i = { m.motor i with bridge := b, gates := .low, iqd := 0 } := by
  rw [Mc.stopBridge, Mc.motor_updLoop, Mc.motor_updMotor_self]

theorem Mc.loop_stopBridge (b : BridgeState) : (m.stopBridge i b).loop i = { m.loop i with out := 0 } := by
  rw [Mc.stopBridge, Mc.loop_updLoop_self, Mc.loop_updMotor]

/-- A motor engine stopped in FAULT with one more cause (R319, R333). -/
def Motor.faulted (x : Motor) (cause : Nat) : Motor :=
  { x with bridge := .fault, gates := .low, iqd := 0, oc := x.oc || cause == 1, gduv := x.gduv || cause == 2,
           extf := x.extf || cause == 3, adcf := x.adcf || cause == 4 }

theorem Mc.bridgeFault_spec (cause : Nat) (val : Int) :
    (m.bridgeFault i cause val).motor i = (m.motor i).faulted cause ∧
    (m.bridgeFault i cause val).loop i = { m.loop i with out := 0 } := by
  unfold Mc.bridgeFault
  dsimp only
  split <;>
    simp only [Mc.motor_note, Mc.loop_note, Mc.motor_updMotor_self, Mc.loop_updMotor, Mc.motor_stopBridge, Mc.loop_stopBridge,
      Motor.faulted, and_self]

/-- A calibration that waited for IDLE runs (R324). -/
theorem Mc.motor_toIdle : (m.toIdle i).motor i =
    { m.motor i with bridge := .idle, gates := .low, iqd := 0,
                     calst := if (m.motor i).calst = 2 then 1 else (m.motor i).calst } := by
  rw [Mc.toIdle, Mc.motor_updMotor_self, Mc.motor_stopBridge]

theorem Mc.loop_toIdle : (m.toIdle i).loop i = { m.loop i with out := 0 } := by
  rw [Mc.toIdle, Mc.loop_updMotor, Mc.loop_stopBridge]

theorem Mc.motor_dcLow : (m.dcLow i).motor i = { (m.toIdle i).motor i with dclow := true } := by
  unfold Mc.dcLow
  dsimp only
  split <;> simp only [Mc.motor_note, Mc.motor_updMotor_self]

@[simp] theorem Mc.motor_updDoor (f : Door → Door) (k : Nat) : (m.updDoor i f).motor k = m.motor k := rfl
@[simp] theorem Mc.loop_updDoor (f : Door → Door) (k : Nat) : (m.updDoor i f).loop k = m.loop k := rfl

/-! ### Entering RUN and ALIGN (R315, R316) -/

theorem Mc.enterRun_spec :
    (m.enterRun i).motor i = { m.motor i with bridge := .run, jd := 0, jq := 0, iqd := 0 } ∧
    ((m.enterRun i).loop i).out = 0 ∧ ((m.enterRun i).loop i).fresh = true ∧ (m.enterRun i).regs = m.regs := by
  unfold Mc.enterRun
  dsimp only
  split
  all_goals
    refine ⟨?_, ?_, ?_, rfl⟩ <;>
      simp only [Mc.motor_updDoor, Mc.loop_updDoor, Mc.motor_updLoop, Mc.motor_updMotor_self, Mc.loop_updLoop_self]

def Mc.enterAlign : Mc := m.updMotor i fun x => { x with bridge := .align, jd := 0, jq := 0 }

theorem Mc.motor_enterAlign : (m.enterAlign i).motor i = { m.motor i with bridge := .align, jd := 0, jq := 0 } := by
  rw [Mc.enterAlign, Mc.motor_updMotor_self]

/-- ENABLE as MCm_CTL holds it (R331). -/
def Mc.enableBit : Nat := getBits (m.regs.get Reg.MC_CTL.resetWord (Reg.MC_CTL.addr [i])) 0 0

section

variable {m : Mc} {i : Nat}

theorem Mc.tryStart_of_notIdle (h : (m.motor i).bridge ≠ .idle) : m.tryStart i = m :=
  if_pos (by rw [bne_iff_ne.mpr h]; rfl)

theorem Mc.tryStart_of_disabled (h : m.enableBit i = 0) : m.tryStart i = m :=
  if_pos (by simp [show getBits _ 0 0 = 0 from h])

theorem Mc.tryStart_of_calibrating (h : (m.motor i).calst = 1) : m.tryStart i = m := if_pos (by simp [h])

theorem Mc.tryStart_of_ready (hidle : (m.motor i).bridge = .idle) (hen : m.enableBit i = 1)
    (hcal : (m.motor i).calst = 0 ∨ (m.motor i).calst = 3) :
    m.tryStart i = if m.env.motorMode i = 2 ∨ (m.motor i).aligned = true then m.enterRun i
      else m.enterAlign i := by
  have hbit : getBits (m.regs.get Reg.MC_CTL.resetWord (Reg.MC_CTL.addr [i])) 0 0 = 1 := hen
  refine (if_neg ?_).trans ?_
  · obtain h | h := hcal <;> simp [hidle, hbit, h]
  · simp only [Bool.or_eq_true, decide_eq_true_eq]
    rfl

end

/-! ### The current sample of field-oriented mode (R317, R320) -/

theorem clampInt_mem {lo hi : Int} (x : Int) (h : lo ≤ hi) : lo ≤ clampInt lo hi x ∧ clampInt lo hi x ≤ hi := by
  unfold clampInt
  split
  · exact ⟨Int.le_refl _, h⟩
  · split <;> omega

/-- Gates that drive three legs within 0 and 32 767 (R317). -/
def Gates.InRange (g : Gates) : Prop :=
  ∃ a b c : Int, g = .duty a b c 0 ∧ 0 ≤ a ∧ a ≤ 32767 ∧ 0 ≤ b ∧ b ≤ 32767 ∧ 0 ≤ c ∧ c ≤ 32767

theorem Mc.fieldDrive_spec : ((m.fieldDrive i).motor i).bridge = (m.motor i).bridge ∧
    ((m.fieldDrive i).motor i).gates.InRange := by
  unfold Mc.fieldDrive
  rw [Mc.motor_updMotor_self]
  have hduty (x : Int) := clampInt_mem (lo := 0) (hi := 32767) x (by decide)
  exact ⟨rfl, _, _, _, rfl, (hduty _).1, (hduty _).2, (hduty _).1, (hduty _).2, (hduty _).1, (hduty _).2⟩

section

variable (shunts : List (BitVec 14)) (vdc : BitVec 14) (ohm : Option (BitVec 14))

/-- The iq demand of a sample touches nothing else (R320). -/
theorem Mc.takeDemand_spec : (m.takeDemand i).env = m.env ∧ ∃ q, (m.takeDemand i).motor i = { m.motor i with iqd := q } := by
  unfold Mc.takeDemand
  dsimp only
  split
  · exact ⟨rfl, _, rfl⟩
  · exact ⟨rfl, _, Mc.motor_updMotor_self ..⟩

theorem Mc.bridge_converted : (((m.takeDemand i).convert i shunts vdc ohm).motor i).bridge = (m.motor i).bridge := by
  obtain ⟨-, q, hmotor⟩ := m.takeDemand_spec i
  rw [Mc.convert, Mc.motor_updMotor_self, hmotor]

/-- The engine with its conversions and its id and iq, before the currents are checked (steps 1 to 4 of R317). -/
def Mc.measured : Mc := ((m.takeDemand i).convert i shunts vdc ohm).measure i

/-- The conversions do not read the iq demand. -/
theorem Mc.measured_spec :
    (m.measured i shunts vdc ohm).env = m.env ∧
    ((m.measured i shunts vdc ohm).motor i).bridge = (m.motor i).bridge ∧
    ((m.measured i shunts vdc ohm).motor i).icur = ((m.convert i shunts vdc ohm).motor i).icur ∧
    ((m.measured i shunts vdc ohm).motor i).vdc = ((m.convert i shunts vdc ohm).motor i).vdc := by
  obtain ⟨henv, q, hmotor⟩ := m.takeDemand_spec i
  refine ⟨henv, ?_⟩
  unfold Mc.measured Mc.measure Mc.convert Mc.countPos Mc.encCount
  simp only [Mc.motor_updMotor_self, hmotor, henv, and_self]

/-- The first current above OCLIM (R319). -/
def Mc.overcurrent : Option Int := (m.checked i).find? fun c => decide ((m.env.MC_OCLIM i : Int) < absInt c)

/-- The engine with the outcome of the check. -/
def Mc.ocChecked : Mc := m.updMotor i fun x => { x with ocNow := (m.overcurrent i).isSome }

theorem Mc.motor_ocChecked : (m.ocChecked i).motor i = { m.motor i with ocNow := (m.overcurrent i).isSome } :=
  (m.motor_updMotor_self i _).trans rfl

section

variable {m i} (hmode : m.env.motorMode i = 1) (hrun : (m.motor i).bridge = .run)

include hmode hrun

/-- In RUN a current above OCLIM stops the bridge, and else the sample goes on to VDC and the drive (R317, R319, R325). -/
theorem Mc.currentSample_of_run :
    (∀ c, (m.measured i shunts vdc ohm).overcurrent i = some c →
      m.currentSample i shunts vdc ohm = ((m.measured i shunts vdc ohm).ocChecked i).bridgeFault i 1 c) ∧
    ((m.measured i shunts vdc ohm).overcurrent i = none → m.currentSample i shunts vdc ohm =
      let u := (m.measured i shunts vdc ohm).ocChecked i
      if (u.motor i).vdc < u.env.MC_VDCMIN i then u.dcLow i else u.fieldDrive i) := by
  let c := (m.takeDemand i).convert i shunts vdc ohm
  have henv : c.env = m.env := (m.takeDemand_spec i).1
  have hbridge : (c.motor i).bridge = .run := (m.bridge_converted i shunts vdc ohm).trans hrun
  have hstart : c.tryStart i = c := Mc.tryStart_of_notIdle (by rw [hbridge]; decide)
  have hfield : (c.env.motorMode i == 2) = false := by rw [henv, hmode]; rfl
  have hdrives : (((m.measured i shunts vdc ohm).ocChecked i).motor i).bridge = .run := by
    rw [Mc.motor_ocChecked]
    exact (m.measured_spec i shunts vdc ohm).2.1.trans hrun
  unfold Mc.currentSample
  dsimp only
  rw [hstart, hfield, if_neg Bool.false_ne_true]
  split
  next found hfound =>
    refine ⟨fun c hc => ?_, fun hnone => absurd (hfound.symm.trans hnone) (by simp)⟩
    obtain rfl : found = c := Option.some.inj (hfound.symm.trans hc)
    rfl
  next hnone =>
    refine ⟨fun c hc => absurd (hnone.symm.trans hc) (by simp), fun _ => ?_⟩
    exact (if_pos (Bool.or_eq_true_iff.mpr (.inl (beq_iff_eq.mpr hdrives)))).trans rfl

end

theorem Mc.checked_of_field {m : Mc} {i : Nat} (hmode : m.env.motorMode i = 1) :
    m.checked i = [(m.motor i).icur.get 0 0, (m.motor i).icur.get 0 1, (m.motor i).icur.get 0 2] :=
  if_neg (by rw [hmode]; decide)

section

variable {m i} (hmode : m.env.motorMode i = 1)

include hmode

theorem Mc.overcurrent_of_above
    (h : (m.env.MC_OCLIM i : Int) < absInt (((m.convert i shunts vdc ohm).motor i).icur.get 0 0)) :
    ∃ c, (m.measured i shunts vdc ohm).overcurrent i = some c := by
  obtain ⟨henv, -, hicur, -⟩ := m.measured_spec i shunts vdc ohm
  refine ⟨((m.convert i shunts vdc ohm).motor i).icur.get 0 0, ?_⟩
  rw [Mc.overcurrent, Mc.checked_of_field (by rw [henv, hmode]), henv, hicur]
  exact List.find?_cons_of_pos (decide_eq_true h)

theorem Mc.overcurrent_of_within
    (h : ∀ j < 3, absInt (((m.convert i shunts vdc ohm).motor i).icur.get 0 j) ≤ m.env.MC_OCLIM i) :
    (m.measured i shunts vdc ohm).overcurrent i = none := by
  obtain ⟨henv, -, hicur, -⟩ := m.measured_spec i shunts vdc ohm
  rw [Mc.overcurrent, Mc.checked_of_field (by rw [henv, hmode]), henv, hicur, List.find?_eq_none]
  simp [h 0 (by decide), h 1 (by decide), h 2 (by decide)]

end

end

/-! ### MCm_CTL (R315, R324, R331) -/

/-- What a write of MCm_CTL makes the bridge do: CLRFLT, then CAL, then ENABLE. -/
def Mc.ctlActs (w : Word) : Mc :=
  let on := w.getLsbD 0
  let u := if w.getLsbD 2 then m.clearFault i on else m
  let v := if w.getLsbD 1 then u.calRequest i else u
  v.enable i on

section

variable {m i} {w : Word}

theorem Mc.ctlActs_of_enable (h1 : w.getLsbD 1 = false) (h2 : w.getLsbD 2 = false) :
    m.ctlActs i w = m.enable i (w.getLsbD 0) := by
  rw [Mc.ctlActs, h1, h2]
  rfl

theorem Mc.ctlActs_of_clear (h1 : w.getLsbD 1 = false) (h2 : w.getLsbD 2 = true) :
    m.ctlActs i w = (m.clearFault i (w.getLsbD 0)).enable i (w.getLsbD 0) := by
  rw [Mc.ctlActs, h1, h2]
  rfl

theorem Mc.ctlActs_of_cal (h1 : w.getLsbD 1 = true) (h2 : w.getLsbD 2 = false) :
    m.ctlActs i w = (m.calRequest i).enable i (w.getLsbD 0) := by
  rw [Mc.ctlActs, h1, h2]
  rfl

/-- Outside ALIGN and RUN, ENABLE 0 changes nothing. -/
theorem Mc.enable_off_of_stopped (h : (m.motor i).bridge = .idle ∨ (m.motor i).bridge = .fault) : m.enable i false = m := by
  refine if_neg (Bool.eq_false_iff.mp ?_)
  obtain h | h := h <;> simp [h]

theorem Mc.enable_off_of_driving (h : (m.motor i).bridge = .run ∨ (m.motor i).bridge = .align) :
    m.enable i false = m.toIdle i := by
  refine if_pos ?_
  obtain h | h := h <;> simp [h]

/-- In FAULT ENABLE starts nothing. -/
theorem Mc.enable_of_fault (on : Bool) (h : (m.motor i).bridge = .fault) : m.enable i on = m := by
  cases on with
  | false => exact Mc.enable_off_of_stopped (.inr h)
  | true => exact Mc.tryStart_of_notIdle (by rw [h]; decide)

theorem Mc.clearFault_of_cleared (hfault : (m.motor i).bridge = .fault) (hcause : (m.motor i).causePresent = false) :
    m.clearFault i false = m.toIdle i := if_pos (by simp [hfault, hcause])

theorem Mc.clearFault_of_held {on : Bool} (h : (m.motor i).causePresent = true ∨ on = true) : m.clearFault i on = m :=
  if_neg (by obtain h | h := h <;> simp [h])

end

variable {s : State} {i : Nat}

/-- The device with ENABLE stored, before MCm acts (R331). -/
def State.ctlStored (s : State) (i : Nat) (w : Word) : State := s.setReg .MC_CTL [i] (w &&& 1)

theorem State.writeMcCtl_of_present (w : Word) (h : s.motorMode i ≠ 0) :
    s.writeMcCtl i w = (s.ctlStored i w).withMc ((s.ctlStored i w).mc.ctlActs i w) :=
  State.runMc_of_on (s := s.ctlStored i w) (Mc.ctlActs · i w) (bne_iff_ne.mpr h)

theorem State.reg_ctlStored (w : Word) : (s.ctlStored i w).reg .MC_CTL [i] = w &&& 1 := s.reg_setReg_self ..

theorem State.enableBit_ctlStored (w : Word) : (s.ctlStored i w).mc.enableBit i = (w.getLsbD 0).toNat := by
  have hbit : (s.ctlStored i w).mc.enableBit i = getBits ((s.ctlStored i w).reg .MC_CTL [i]) 0 0 := rfl
  rw [hbit, State.reg_ctlStored, and_one_eq]
  cases w.getLsbD 0 <;> rfl

end Sys2Proof.Machine
end

section
/-! SUPPORT. The rows of the bridge (R315 to R319). -/

namespace Sys2Proof.Machine

variable {s : State} {m : Fin 4}

/-! ### What each row runs -/

theorem exec_currentSample (shunts : List (BitVec 14)) (vdc : BitVec 14) (ohm : Option (BitVec 14)) :
    exec (.currentSample m shunts vdc ohm) s =
      .next (s.runMc (s.motorRuns m.val) fun x => x.currentSample m.val shunts vdc ohm) := rfl

/-- VGD as the bridge finds it: the cause is present below 10.5 V (R319). -/
def Mc.gduvSeen (x : Mc) (i : Nat) (mv : Word) : Mc := x.updMotor i fun a => { a with gduvNow := decide (mv.toNat < 10500) }

/-- BRFLT_N as the bridge finds it (R319). -/
def Mc.extfSeen (x : Mc) (i : Nat) (low : Bool) : Mc := x.updMotor i fun a => { a with extfNow := low }

theorem exec_bridgeGduv (mv : Word) : exec (.bridgeGduv m mv) s = .next (s.runMc (s.motorRuns m.val) fun x =>
    if decide (mv.toNat < 10500) then (x.gduvSeen m.val mv).bridgeFault m.val 2 mv.toNat else x.gduvSeen m.val mv) := rfl

theorem exec_bridgeExtf (low : Bool) : exec (.bridgeExtf m low) s =
    .next (s.runMc (s.motorRuns m.val && s.padUsed (380 + 26 * m.val)) fun x =>
      if low then (x.extfSeen m.val low).bridgeFault m.val 3 0 else x.extfSeen m.val low) := rfl

theorem exec_alignDone : exec (.alignDone m) s = .next (s.runMc (s.motorRuns m.val) fun x => x.alignDone m.val) := rfl

theorem exec_enableWrite (w : Word) : exec (.enableWrite m w) s = .next (s.writeMcCtl m.val w) := rfl

theorem exec_mcClrflt (w : Word) : exec (.mcClrflt m w) s = .next (s.writeMcCtl m.val (w ||| 4)) := rfl

theorem Mc.motor_gduvSeen (x : Mc) (i : Nat) (mv : Word) :
    (x.gduvSeen i mv).motor i = { x.motor i with gduvNow := decide (mv.toNat < 10500) } := by
  rw [Mc.gduvSeen, Mc.motor_updMotor_self]

theorem Mc.motor_extfSeen (x : Mc) (i : Nat) (low : Bool) : (x.extfSeen i low).motor i = { x.motor i with extfNow := low } := by
  rw [Mc.extfSeen, Mc.motor_updMotor_self]

/-! ### Current samples in RUN (R317, R319, R325) -/

section

variable {shunts : List (BitVec 14)} {vdc : BitVec 14} {ohm : Option (BitVec 14)} (hruns : s.motorRuns m.val = true)
  (hmode : s.motorMode m.val = 1) (hrun : (s.mc.motor m.val).bridge = .run)

include hruns hmode hrun

theorem currentSample_of_above
    (h : (s.MC_OCLIM m.val : Int) < absInt (((s.mc.convert m.val shunts vdc ohm).motor m.val).icur.get 0 0)) :
    Completes (.currentSample m shunts vdc ohm) s fun t =>
      let y := t.motors.get Motor.reset m.val
      y.bridge = .fault ∧ y.oc = true ∧ y.gates = .low ∧ y.ocNow = true ∧ (t.loops.get Loop.reset m.val).out = 0 := by
  obtain ⟨c, hc⟩ := Mc.overcurrent_of_above (m := s.mc) shunts vdc ohm hmode h
  have hsample := (Mc.currentSample_of_run (m := s.mc) shunts vdc ohm hmode hrun).1 c hc
  obtain ⟨hmotor, hloop⟩ := ((s.mc.measured m.val shunts vdc ohm).ocChecked m.val).bridgeFault_spec m.val 1 c
  refine ⟨_, by rw [exec_currentSample, State.runMc_of_on _ hruns, hsample], ?_⟩
  simp only [State.motor_withMc, State.loop_withMc, hmotor, hloop, Motor.faulted, Mc.motor_ocChecked, hc,
    Option.isSome_some, BEq.rfl, Bool.or_true, and_self]

section

variable (hin : ∀ j < 3, absInt (((s.mc.convert m.val shunts vdc ohm).motor m.val).icur.get 0 j) ≤ s.MC_OCLIM m.val)

include hin

/-- With no current above OCLIM the sample goes on to VDC and the drive. -/
theorem exec_currentSample_of_within : ∃ u : Mc,
    (u.motor m.val).bridge = .run ∧ exec (.currentSample m shunts vdc ohm) s = .next (s.withMc
      (if ((s.mc.convert m.val shunts vdc ohm).motor m.val).vdc < s.MC_VDCMIN m.val then u.dcLow m.val
        else u.fieldDrive m.val)) := by
  let u := (s.mc.measured m.val shunts vdc ohm).ocChecked m.val
  obtain ⟨henv, hbridge, -, hvdc⟩ := s.mc.measured_spec m.val shunts vdc ohm
  have hmotor : u.motor m.val = _ := Mc.motor_ocChecked ..
  have hsample := (Mc.currentSample_of_run (m := s.mc) shunts vdc ohm hmode hrun).2
    (Mc.overcurrent_of_within shunts vdc ohm hmode hin)
  refine ⟨u, ?_, ?_⟩
  · rw [hmotor]
    exact hbridge.trans hrun
  · rw [exec_currentSample, State.runMc_of_on _ hruns, hsample, ← hvdc]
    have hlimit : u.env = s := henv
    dsimp only
    rw [hmotor, hlimit]

theorem currentSample_of_driving (hvdc : (s.MC_VDCMIN m.val : Int) ≤ ((s.mc.convert m.val shunts vdc ohm).motor m.val).vdc) :
    Completes (.currentSample m shunts vdc ohm) s fun t =>
      (t.motors.get Motor.reset m.val).bridge = .run ∧ (t.motors.get Motor.reset m.val).gates.InRange := by
  obtain ⟨u, hbridge, hexec⟩ := exec_currentSample_of_within hruns hmode hrun hin
  obtain ⟨hkeep, hgates⟩ := u.fieldDrive_spec m.val
  rw [if_neg (Int.not_lt.mpr hvdc)] at hexec
  exact ⟨_, hexec, hkeep.trans hbridge, hgates⟩

theorem currentSample_of_low (hvdc : ((s.mc.convert m.val shunts vdc ohm).motor m.val).vdc < s.MC_VDCMIN m.val) :
    Completes (.currentSample m shunts vdc ohm) s fun t =>
      let y := t.motors.get Motor.reset m.val
      y.bridge = .idle ∧ y.dclow = true ∧ y.gates = .low := by
  obtain ⟨u, -, hexec⟩ := exec_currentSample_of_within hruns hmode hrun hin
  rw [if_pos hvdc] at hexec
  refine ⟨_, hexec, ?_⟩
  simp only [State.motor_withMc, Mc.motor_dcLow, Mc.motor_toIdle, and_self]

end

end

/-! ### Writes of MCm_CTL (R315, R331) -/

theorem getLsbD_of_getBits_zero {w : Word} {hi lo i : Nat} (h : getBits w hi lo = 0) (hlo : lo ≤ i) (hhi : i ≤ hi) :
    w.getLsbD i = false := by
  have hbit := testBit_getBits w (hi := hi) (lo := lo) (i := i - lo)
  rw [h, Nat.zero_testBit, decide_eq_true (by omega), Bool.true_and, Nat.add_sub_cancel' hlo] at hbit
  exact hbit.symm

theorem completes_enableWrite {w : Word} {P : State → Prop} {u : Mc} (hmode : s.motorMode m.val ≠ 0)
    (hbits : ∀ j, 1 ≤ j → j ≤ 2 → w.getLsbD j = false)
    (hacts : (s.ctlStored m.val w).mc.enable m.val (w.getLsbD 0) = u) (h : P ((s.ctlStored m.val w).withMc u)) :
    Completes (.enableWrite m w) s P := by
  have h1 : w.getLsbD 1 = false := hbits 1 (by decide) (by decide)
  have h2 : w.getLsbD 2 = false := hbits 2 (by decide) (by decide)
  exact ⟨_, by rw [exec_enableWrite, State.writeMcCtl_of_present w hmode, Mc.ctlActs_of_enable h1 h2, hacts], h⟩

/-- ENABLE 1 in IDLE, with no calibration running, tries to start. -/
theorem State.enable_ctlStored_of_ready {w : Word} {i : Nat} (hon : w.getLsbD 0 = true) (hidle : (s.mc.motor i).bridge = .idle)
    (hcal : (s.mc.motor i).calst = 0 ∨ (s.mc.motor i).calst = 3) :
    (s.ctlStored i w).mc.enable i (w.getLsbD 0) =
      if s.motorMode i = 2 ∨ (s.mc.motor i).aligned = true then (s.ctlStored i w).mc.enterRun i
      else (s.ctlStored i w).mc.enterAlign i := by
  have hbit : (s.ctlStored i w).mc.enableBit i = 1 := by
    rw [State.enableBit_ctlStored, hon]
    rfl
  rw [hon]
  exact Mc.tryStart_of_ready (m := (s.ctlStored i w).mc) hidle hbit hcal

/-- MCm_CTL reads the ENABLE written, whatever the engine does after it. -/
theorem State.reg_withMc_ctlStored {w : Word} {i : Nat} {u : Mc} (h : u.regs = (s.ctlStored i w).regs) :
    ((s.ctlStored i w).withMc u).reg .MC_CTL [i] = if w.getLsbD 0 then 1 else 0 := by
  rw [State.reg_withMc h, State.reg_ctlStored, and_one_eq]

theorem completes_mcClrflt {w : Word} {P : State → Prop} {u : Mc} (hmode : s.motorMode m.val ≠ 0) (h1 : w.getLsbD 1 = false)
    (hacts : ((s.ctlStored m.val (w ||| 4)).mc.clearFault m.val (w.getLsbD 0)).enable m.val (w.getLsbD 0) = u)
    (h : P ((s.ctlStored m.val (w ||| 4)).withMc u)) : Completes (.mcClrflt m w) s P := by
  have hor (j : Nat) : (w ||| 4).getLsbD j = (w.getLsbD j || (4 : Word).getLsbD j) := BitVec.getLsbD_or
  have hcal : (w ||| 4).getLsbD 1 = false := by rw [hor, h1]; rfl
  have hclear : (w ||| 4).getLsbD 2 = true := by rw [hor]; exact Bool.or_true _
  have hon : (w ||| 4).getLsbD 0 = w.getLsbD 0 := by rw [hor]; exact Bool.or_false _
  exact ⟨_, by rw [exec_mcClrflt, State.writeMcCtl_of_present _ hmode, Mc.ctlActs_of_clear hcal hclear, hon, hacts], h⟩

/-- With no calibration waiting, the bridge's stop in IDLE leaves the calibration's state. -/
theorem Mc.motor_toIdle_of_notWaiting (x : Mc) (i : Nat) (hcal : (x.motor i).calst = 0 ∨ (x.motor i).calst = 3) :
    (x.toIdle i).motor i = { x.motor i with bridge := .idle, gates := .low, iqd := 0 } := by
  have hwait : (x.motor i).calst ≠ 2 := by obtain h | h := hcal <;> rw [h] <;> decide
  rw [Mc.motor_toIdle, if_neg hwait]

/-! ### ALIGN_DONE (R315, R317) -/

theorem Mc.alignDone_of_align {x : Mc} {i : Nat} (h : (x.motor i).bridge = .align) :
    (x.alignDone i).motor i = { x.motor i with bridge := .run, jd := 0, jq := 0, iqd := 0, aligned := true,
                                               angofs := BitVec.ofInt 16 (-(x.encAngle i)) } ∧
    ((x.alignDone i).loop i).out = 0 := by
  let a := BitVec.ofInt 16 (-(x.encAngle i))
  let u := (x.updMotor i fun y => { y with angofs := a, aligned := true }).note i 0x03 (leBytes 2 a.toNat)
  have hdone : x.alignDone i = u.enterRun i := if_neg (by rw [h]; decide)
  obtain ⟨hmotor, hout, -⟩ := u.enterRun_spec i
  have hu : u.motor i = { x.motor i with angofs := a, aligned := true } := by rw [Mc.motor_note, Mc.motor_updMotor_self]
  rw [hdone, hmotor, hu]
  exact ⟨rfl, hout⟩

theorem Mc.alignDone_of_other {x : Mc} {i : Nat} (h : (x.motor i).bridge ≠ .align) : x.alignDone i = x :=
  if_pos (bne_iff_ne.mpr h)

/-- Settles O31: the current sample, the gate supply and the fault input, ALIGN's end, and the writes of MCm_CTL. -/
theorem bridgeStartsAndStops : Obligations.BridgeStartsAndStops := by
  unfold Obligations.BridgeStartsAndStops
  intro s m x mot
  refine ⟨fun shunts vdc ohm hruns hmode hrun habove => currentSample_of_above hruns hmode hrun habove,
    fun shunts vdc ohm hruns hmode hrun hin hvdc => ?driving,
    fun shunts vdc ohm hruns hmode hrun hin hvdc => currentSample_of_low hruns hmode hrun hin hvdc,
    fun mv hruns hlow hbridge => ?gduv, fun mv hruns hhigh => ?gduvGone, fun hruns hpad hbridge => ?extf, fun on hpad => ?noPad,
    fun hruns hpad => ?extfGone, fun hruns halign => ?aligned, fun hidle => ?notAligning,
    fun w hmode hbits hon hidle hcal haligned => ?align, fun w hmode hbits hon hidle hcal => ?start,
    fun w hmode hbits hdrives hcal => ?stop, fun w hmode hon h1 hfault hcause hcal => ?clear,
    fun w hmode h1 hfault hheld => ?held⟩
  case driving =>
    refine .imp (currentSample_of_driving hruns hmode hrun hin hvdc)
      fun t ⟨hbridge, a, b, c, hgates, hbounds⟩ => ⟨hbridge, ?_⟩
    rw [show (mot t).gates = .duty a b c 0 from hgates]
    exact decide_eq_true ⟨rfl, hbounds⟩
  case gduv =>
    obtain ⟨hmotor, hloop⟩ := (s.mc.gduvSeen m.val mv).bridgeFault_spec m.val 2 mv.toNat
    refine ⟨_, by rw [exec_bridgeGduv, State.runMc_of_on _ hruns, decide_eq_true hlow, if_pos rfl], ?_⟩
    simp only [mot, State.motor_withMc, State.loop_withMc, hmotor, hloop, Motor.faulted, Mc.motor_gduvSeen, decide_eq_true hlow,
      BEq.rfl, Bool.or_true, and_self]
  case gduvGone =>
    have hnot : decide (mv.toNat < 10500) = false := decide_eq_false (Nat.not_lt.mpr hhigh)
    refine ⟨_, by rw [exec_bridgeGduv, State.runMc_of_on _ hruns, hnot, if_neg Bool.false_ne_true], ?_, rfl⟩
    refine (Mc.motor_gduvSeen ..).trans ?_
    rw [hnot]
    rfl
  case extf =>
    obtain ⟨hmotor, -⟩ := (s.mc.extfSeen m.val true).bridgeFault_spec m.val 3 0
    refine ⟨_, by rw [exec_bridgeExtf, State.runMc_of_on _ (Bool.and_eq_true_iff.mpr ⟨hruns, hpad⟩), if_pos rfl], ?_⟩
    simp only [mot, State.motor_withMc, hmotor, Motor.faulted, Mc.motor_extfSeen, BEq.rfl, Bool.or_true, and_self]
  case noPad => rw [exec_bridgeExtf, State.runMc_of_off _ (by rw [hpad, Bool.and_false])]
  case extfGone =>
    refine ⟨_, by rw [exec_bridgeExtf, State.runMc_of_on _ (Bool.and_eq_true_iff.mpr ⟨hruns, hpad⟩),
      if_neg Bool.false_ne_true], ?_, rfl⟩
    exact Mc.motor_extfSeen ..
  case aligned =>
    obtain ⟨hmotor, hout⟩ := Mc.alignDone_of_align (x := s.mc) halign
    refine ⟨_, by rw [exec_alignDone, State.runMc_of_on _ hruns], ?_⟩
    simp only [mot, State.motor_withMc, State.loop_withMc, hmotor, hout, and_self]
  case notAligning =>
    obtain hstop | hother := hidle
    · rw [exec_alignDone, State.runMc_of_off _ hstop]
    · rw [exec_alignDone, State.runMc_of_idle _ (Mc.alignDone_of_other (x := s.mc) hother)]
  case align =>
    have hnot : ¬(s.motorMode m.val = 2 ∨ (s.mc.motor m.val).aligned = true) := by
      rw [hmode, show (s.mc.motor m.val).aligned = false from haligned]
      decide
    refine completes_enableWrite (by rw [hmode]; decide) (fun _ => getLsbD_of_getBits_zero hbits)
      ((State.enable_ctlStored_of_ready hon hidle hcal).trans (if_neg hnot)) ⟨Mc.motor_enterAlign .., ?_, rfl⟩
    rw [State.reg_withMc_ctlStored rfl, hon]
    rfl
  case start =>
    have hready : s.motorMode m.val = 2 ∨ (s.mc.motor m.val).aligned = true := hmode.imp_right And.right
    have hpresent : s.motorMode m.val ≠ 0 := by obtain h | ⟨h, -⟩ := hmode <;> rw [h] <;> decide
    obtain ⟨hmotor, hout, hfresh, hregs⟩ := (s.ctlStored m.val w).mc.enterRun_spec m.val
    refine completes_enableWrite hpresent (fun _ => getLsbD_of_getBits_zero hbits)
      ((State.enable_ctlStored_of_ready hon hidle hcal).trans (if_pos hready)) ⟨hmotor, hout, hfresh, ?_⟩
    rw [State.reg_withMc_ctlStored hregs, hon]
    rfl
  case stop =>
    have hoff : w.getLsbD 0 = false := getLsbD_of_getBits_zero hbits (by decide) (by decide)
    let u : Mc := (s.ctlStored m.val w).mc
    have hacts : u.enable m.val (w.getLsbD 0) = u.toIdle m.val := by
      rw [hoff]
      exact Mc.enable_off_of_driving (m := u) hdrives
    refine completes_enableWrite hmode (fun j _ => getLsbD_of_getBits_zero hbits (Nat.zero_le j)) hacts
      ⟨u.motor_toIdle_of_notWaiting m.val hcal, congrArg Loop.out (u.loop_toIdle m.val), ?_⟩
    rw [State.reg_withMc_ctlStored rfl, hoff]
    rfl
  case clear =>
    let u : Mc := (s.ctlStored m.val (w ||| 4)).mc
    have hidle : ((u.toIdle m.val).motor m.val).bridge = .idle := by rw [Mc.motor_toIdle]
    have hacts : (u.clearFault m.val (w.getLsbD 0)).enable m.val (w.getLsbD 0) = u.toIdle m.val := by
      rw [hon, Mc.clearFault_of_cleared (m := u) hfault hcause, Mc.enable_off_of_stopped (.inl hidle)]
    refine completes_mcClrflt hmode h1 hacts ⟨u.motor_toIdle_of_notWaiting m.val hcal, ?_⟩
    rw [State.reg_withMc_ctlStored rfl, BitVec.getLsbD_or, hon]
    rfl
  case held =>
    let u : Mc := (s.ctlStored m.val (w ||| 4)).mc
    have hacts : (u.clearFault m.val (w.getLsbD 0)).enable m.val (w.getLsbD 0) = u := by
      rw [Mc.clearFault_of_held (m := u) hheld, Mc.enable_of_fault (m := u) _ hfault]
    exact completes_mcClrflt hmode h1 hacts rfl

end Sys2Proof.Machine
end

section
/-! SUPPORT. Calibrations and speed boundaries (R301, R320, R324). -/

namespace Sys2Proof.Machine

/-! ### CAL (R324) -/

section

variable {m : Mc} {i : Nat} (hcal : (m.motor i).calst = 0 ∨ (m.motor i).calst = 3)

include hcal

theorem Mc.calRequest_of_idle (h : (m.motor i).bridge = .idle) :
    (m.calRequest i).motor i = { m.motor i with calst := 1 } ∧ (m.calRequest i).regs = m.regs ∧
    (m.calRequest i).loops = m.loops := by
  have hrequest : m.calRequest i = m.updMotor i fun x => { x with calst := 1 } :=
    (if_neg (by obtain h | h := hcal <;> simp [h])).trans (if_pos (beq_iff_eq.mpr h))
  rw [hrequest, Mc.motor_updMotor_self]
  exact ⟨rfl, rfl, rfl⟩

theorem Mc.calRequest_of_busy (h : (m.motor i).bridge ≠ .idle) :
    (m.calRequest i).motor i = { m.motor i with calst := 2 } := by
  have hrequest : m.calRequest i = (m.updMotor i fun x => { x with calst := 2 }).note i 0x06 :=
    (if_neg (by obtain h | h := hcal <;> simp [h])).trans (if_neg (mt beq_iff_eq.mp h))
  rw [hrequest, Mc.motor_note, Mc.motor_updMotor_self]

end

/-! ### The end of a calibration (R131, R324) -/

/-- The means of a calibration's four channels. -/
def calMeans (sums : List Int) : List Int := (List.range 4).map fun j => rnDiv (sums.getD j 0) 256

/-- The motor engine with a calibration's means as its offsets. -/
def Motor.calibrated (x : Motor) (sums : List Int) : Motor :=
  { x with calst := 3, iofs := (calMeans sums).zipIdx.foldl (fun t e => t.set 0 e.2 e.1) x.iofs }

theorem Motor.iofs_calibrated (x : Motor) (a b c d : Int) :
    let t := (x.calibrated [a, b, c, d]).iofs
    t.get 0 0 = rnDiv a 256 ∧ t.get 0 1 = rnDiv b 256 ∧ t.get 0 2 = rnDiv c 256 ∧ t.get 0 3 = rnDiv d 256 := by
  have hiofs : (x.calibrated [a, b, c, d]).iofs =
      (((x.iofs.set 0 0 (rnDiv a 256)).set 0 1 (rnDiv b 256)).set 0 2 (rnDiv c 256)).set 0 3 (rnDiv d 256) := rfl
  rw [hiofs]
  simp [Tbl.get_set]

section

variable (m : Mc) (i : Nat) {a b c d : Int}

/-- A mean above 400 fails the calibration: the first failure of the start's is repeated, any other stops the bridge. -/
theorem Mc.motor_calDone_of_failure (hcal : (m.motor i).calst = 1) (ha : 400 < absInt (rnDiv a 256)) :
    (m.calDone i [a, b, c, d]).motor i =
      let x := (m.motor i).calibrated [a, b, c, d]
      if (m.motor i).startCal = 1 then { x with calst := 1, startCal := 2 }
      else { x with startCal := if x.startCal = 2 then 3 else x.startCal }.faulted 4 := by
  have hfails : ((calMeans [a, b, c, d]).zipIdx.find? fun e => decide (400 < absInt e.1)) = some (rnDiv a 256, 0) :=
    List.find?_cons_of_pos (decide_eq_true ha)
  unfold Mc.calDone
  rw [if_neg (by rw [hcal]; decide)]
  dsimp only
  split
  next =>
    by_cases hfirst : (m.motor i).startCal = 1
    · rw [if_pos hfirst, if_pos (beq_iff_eq.mpr hfirst), Mc.motor_updMotor_self, Mc.motor_note, Mc.motor_updMotor_self]
      rfl
    · rw [if_neg hfirst, if_neg (mt beq_iff_eq.mp hfirst), (Mc.bridgeFault_spec ..).1, Mc.motor_updMotor_self, Mc.motor_note,
        Mc.motor_updMotor_self]
      rfl
  next hpass => exact absurd (hfails.symm.trans hpass) (Option.some_ne_none _)

theorem Mc.motor_calDone_of_pass (hcal : (m.motor i).calst = 1) (h : ∀ v ∈ [a, b, c, d], absInt (rnDiv v 256) ≤ 400)
    (hen : m.enableBit i = 0) :
    (m.calDone i [a, b, c, d]).motor i =
      { (m.motor i).calibrated [a, b, c, d] with startCal := if (m.motor i).startCal = 1 then 0 else (m.motor i).startCal } := by
  have hpasses : ((calMeans [a, b, c, d]).zipIdx.find? fun e => decide (400 < absInt e.1)) = none := by
    simp only [List.forall_mem_cons] at h
    obtain ⟨ha, hb, hc, hd, -⟩ := h
    have hmeans : (calMeans [a, b, c, d]).zipIdx = [(rnDiv a 256, 0), (rnDiv b 256, 1), (rnDiv c 256, 2), (rnDiv d 256, 3)] :=
      rfl
    rw [hmeans, List.find?_eq_none]
    simp [ha, hb, hc, hd]
  unfold Mc.calDone
  rw [if_neg (by rw [hcal]; decide)]
  dsimp only
  split
  next hfail => exact absurd (hpasses.symm.trans hfail) (Option.some_ne_none _).symm
  next =>
    rw [Mc.tryStart_of_disabled, Mc.motor_note, Mc.motor_updMotor_self, Mc.motor_updMotor_self]
    · simp only [beq_iff_eq]
      rfl
    · exact hen

theorem Mc.calDone_of_idle (sums : List Int) (h : (m.motor i).calst ≠ 1) : m.calDone i sums = m :=
  if_pos (bne_iff_ne.mpr h)

end

/-! ### The speed boundary (R301, R320) -/

section

variable {m : Mc} {i : Nat} (late : Bool)

/-- VEL from the count's advance and FBPOS from the count (R320). -/
def Motor.atSpeed (x : Motor) (s : State) (i : Nat) (c : Word) : Motor :=
  { x with
    vel := sat32 (x.vel + rnDiv (rnDiv (sDiff c x.speedCount * s.fbScale i * 10 * s.speedHz) (2 ^ 16) - x.vel)
      (2 ^ s.MC_VFILT i)),
    speedCount := c,
    fbpos := sat32 (x.fborg + downDiv (c.toInt * s.fbScale i) (2 ^ 16)) }

theorem Mc.motor_speedUpdate : (m.speedUpdate i).motor i = (m.motor i).atSpeed m.env i (m.encCount i) := by
  rw [Mc.speedUpdate, Mc.motor_updMotor_self]
  rfl

/-- In stepper mode a speed boundary measures only (R318, R320). -/
theorem Mc.speedSample_of_stepper (hmode : m.env.motorMode i = 2) (hold : m.env.LEHOLD_HOLD i = 1) :
    m.speedSample i late = m.speedUpdate i := by
  have hcopies : (m.speedUpdate i).takeCopies i = m.speedUpdate i := Mc.takeCopies_of_hold hold
  rw [Mc.speedSample, hcopies]
  exact if_pos hmode

/-- Outside RUN the speed sample of an engine without the door function measures, and evaluates no loop (R301, R320). -/
theorem Mc.speedSample_of_stopped (hmode : m.env.motorMode i = 1) (hdoor : m.env.isDoor i = false)
    (hold : m.env.LEHOLD_HOLD i = 1) (hroute : m.env.routedTo ((6 + i) * 0x100) = false)
    (hnone : m.qf.fabric.ready ((6 + i) * 0x100 + 2) = false) (hstop : (m.motor i).bridge ≠ .run) :
    m.speedSample i late = (m.speedUpdate i).boundary i := by
  have hcopies : (m.speedUpdate i).takeCopies i = m.speedUpdate i := Mc.takeCopies_of_hold hold
  have hfield : (m.speedUpdate i).env.motorMode i ≠ 2 := fun h => absurd (hmode.symm.trans h) (by decide)
  have hbridge : ((m.speedUpdate i).motor i).bridge ≠ .run := by rwa [Mc.motor_speedUpdate]
  have hnoDoor : (m.speedUpdate i).env.isDoor i = false := hdoor
  have href : (m.speedUpdate i).readRef i m.env.speedTime = (true, m.speedUpdate i) := Mc.readRef_of_unrouted _ hroute
  rw [Mc.speedSample, hcopies]
  dsimp only
  rw [if_neg hfield, href, hnoDoor, if_neg Bool.false_ne_true]
  exact Mc.motorSample_of_stopped _ _ _ hnone hbridge

end

end Sys2Proof.Machine
end

section
/-! SUPPORT. The rows of the motor engines' measurements (R131, R320, R323, R324). -/

namespace Sys2Proof.Machine

section

variable {s : State} {m : Fin 4}

/-! ### What each row runs -/

theorem exec_calStart (w : Word) : exec (.calStart m w) s = .next (s.writeMcCtl m.val (w ||| 2)) := rfl

theorem exec_calComplete (sums : List Int) :
    exec (.calComplete m sums) s = .next (s.runMc (s.motorRuns m.val) fun x => x.calDone m.val sums) := rfl

theorem exec_speedSample (late : Bool) :
    exec (.speedSample m late) s = .next (s.runMc (s.motorRuns m.val) fun x => x.speedSample m.val late) := rfl

theorem exec_fbset (w : Word) : exec (.fbset m w) s = .next (s.writeFbset m.val w) := rfl

theorem exec_batteryItemTick : exec (.batteryItemTick m) s = .next (s.runMc (s.motorRuns m.val) fun x =>
    x.post ((6 + m.val) * 0x100 + 0x0A) [satWord (x.motor m.val).vdc, satWord ((x.motor m.val).icur.get 0 3)]) := rfl

theorem State.motor_writeFbset (i : Nat) (w : Word) : (s.writeFbset i w).motors.get Motor.reset i =
    { s.mc.motor i with fborg := sInt w - s.mc.countPos i } := by
  rw [State.writeFbset, State.runMc_of_on _ rfl, State.motor_withMc, Mc.motor_updMotor_self]

/-! ### A CAL write -/

theorem completes_calStart {w : Word} {P : State → Prop} {u : Mc} (hmode : s.motorMode m.val ≠ 0) (h2 : w.getLsbD 2 = false)
    (hacts : ((s.ctlStored m.val (w ||| 2)).mc.calRequest m.val).enable m.val (w.getLsbD 0) = u)
    (h : P ((s.ctlStored m.val (w ||| 2)).withMc u)) : Completes (.calStart m w) s P := by
  have hor (j : Nat) : (w ||| 2).getLsbD j = (w.getLsbD j || (2 : Word).getLsbD j) := BitVec.getLsbD_or
  have hcal : (w ||| 2).getLsbD 1 = true := by rw [hor]; exact Bool.or_true _
  have hclear : (w ||| 2).getLsbD 2 = false := by rw [hor, h2]; rfl
  have hon : (w ||| 2).getLsbD 0 = w.getLsbD 0 := by rw [hor]; exact Bool.or_false _
  exact ⟨_, by rw [exec_calStart, State.writeMcCtl_of_present _ hmode, Mc.ctlActs_of_cal hcal hclear, hon, hacts], h⟩

theorem completes_calComplete {sums : List Int} {P : State → Prop} (hruns : s.motorRuns m.val = true)
    (h : P (s.withMc (s.mc.calDone m.val sums))) : Completes (.calComplete m sums) s P :=
  ⟨_, by rw [exec_calComplete, State.runMc_of_on _ hruns], h⟩

end

/-- Settles O32: CAL and the end of a calibration, the speed boundary, FBSET and the battery item. -/
theorem motorMeasurementsAreTaken : Obligations.MotorMeasurementsAreTaken := by
  unfold Obligations.MotorMeasurementsAreTaken
  intro s m x mot
  refine ⟨fun w hmode h2 hidle hcal => ?calNow, fun w hmode h2 hon hrun hcal => ?calWaits,
    fun a b c d hruns hcal hidle hen hmeans => ?passes, fun a b c d hruns hcal hstart ha => ?fails,
    fun a b c d hruns hcal hstart ha => ?repeats, fun sums hno => ?noCal, fun late hruns hmode hold => ?stepper,
    fun late hruns hmode hdoor hold hroute hnone hstop => ?stopped, fun late hstop => ?off, fun w => ?fbset,
    fun hruns => ?battery, fun hstop => ?noBattery⟩
  case calNow =>
    let u : Mc := (s.ctlStored m.val (w ||| 2)).mc
    obtain ⟨hmotor, hregs, hloops⟩ := Mc.calRequest_of_idle (m := u) hcal hidle
    have hacts : (u.calRequest m.val).enable m.val (w.getLsbD 0) = u.calRequest m.val := by
      cases w.getLsbD 0 with
      | false => exact Mc.enable_off_of_stopped (.inl (by rw [hmotor]; exact hidle))
      | true => exact Mc.tryStart_of_calibrating (by rw [hmotor])
    refine completes_calStart hmode h2 hacts ⟨hmotor, ?_, hloops⟩
    rw [State.reg_withMc_ctlStored hregs, BitVec.getLsbD_or, and_one_eq]
    exact congrArg (fun b : Bool => if b then (1 : Word) else 0) (Bool.or_false _)
  case calWaits =>
    let u : Mc := (s.ctlStored m.val (w ||| 2)).mc
    have hbusy : (u.motor m.val).bridge ≠ .idle := fun h => absurd (hrun.symm.trans h) (by decide)
    have hmotor := Mc.calRequest_of_busy (m := u) hcal hbusy
    have hacts : (u.calRequest m.val).enable m.val (w.getLsbD 0) = u.calRequest m.val := by
      rw [hon]
      exact Mc.tryStart_of_notIdle (by rw [hmotor]; exact hbusy)
    exact completes_calStart hmode h2 hacts hmotor
  case passes =>
    have hmotor := s.mc.motor_calDone_of_pass m.val hcal hmeans hen
    obtain ⟨h0, h1, h2, h3⟩ := x.iofs_calibrated a b c d
    refine completes_calComplete hruns ?_
    simp only [mot, State.motor_withMc, hmotor]
    exact ⟨rfl, h0, h1, h2, h3, hidle⟩
  case fails =>
    have hmotor := (s.mc.motor_calDone_of_failure m.val (b := b) (c := c) (d := d) hcal ha).trans (if_neg hstart)
    obtain ⟨h0, h1, h2, h3⟩ := x.iofs_calibrated a b c d
    refine completes_calComplete hruns ?_
    simp only [mot, State.motor_withMc, hmotor]
    exact ⟨rfl, rfl, Bool.or_true _, h0, h1, h2, h3, fun h => if_pos h⟩
  case repeats =>
    have hmotor := (s.mc.motor_calDone_of_failure m.val (b := b) (c := c) (d := d) hcal ha).trans (if_pos hstart)
    obtain ⟨h0, -⟩ := x.iofs_calibrated a b c d
    refine completes_calComplete hruns ?_
    simp only [mot, State.motor_withMc, hmotor, true_and]
    exact ⟨rfl, h0⟩
  case noCal =>
    obtain hstop | hidle := hno
    · rw [exec_calComplete, State.runMc_of_off _ hstop]
    · rw [exec_calComplete, State.runMc_of_idle _ (s.mc.calDone_of_idle m.val sums hidle)]
  case stepper =>
    intro c
    refine ⟨_, by rw [exec_speedSample, State.runMc_of_on _ hruns, Mc.speedSample_of_stepper late hmode hold], ?_, rfl⟩
    exact Mc.motor_speedUpdate
  case stopped =>
    have hsample := Mc.speedSample_of_stopped (m := s.mc) late hmode hdoor hold hroute
      (hnone _ (List.mem_singleton_self _)) hstop
    refine ⟨_, by rw [exec_speedSample, State.runMc_of_on _ hruns, hsample], ?_⟩
    simp only [mot, State.motor_withMc, Mc.motor_boundary, Mc.motor_speedUpdate]
    exact ⟨rfl, rfl, rfl⟩
  case off => rw [exec_speedSample, State.runMc_of_off _ hstop]
  case fbset => exact ⟨_, exec_fbset w, State.motor_writeFbset .., rfl⟩
  case battery =>
    rw [exec_batteryItemTick, State.runMc_of_on _ hruns]
    rfl
  case noBattery => rw [exec_batteryItemTick, State.runMc_of_off _ hstop]

end Sys2Proof.Machine
end

section
/-! SUPPORT. A post leaves the device time (R193, R200). -/

namespace Sys2Proof.Machine

theorem Qf.foldl_dev {α : Type} {f : Qf → α → Qf} (hf : ∀ x a, (f x a).dev = x.dev) (l : List α) (x : Qf) :
    (l.foldl f x).dev = x.dev := by
  induction l generalizing x with
  | nil => rfl
  | cons a l ih => exact (ih (f x a)).trans (hf x a)

theorem Qf.loseTag_dev (x : Qf) (n : Nat) (ws : List Word) : (x.loseTag n ws).dev = x.dev := by
  unfold Qf.loseTag
  dsimp only
  split
  · rfl
  · split <;> rfl

theorem Qf.countDrops_dev (x : Qf) (n : Nat) (q : Queue) (dropped : List PoolItem) : (x.countDrops n q dropped).dev = x.dev := by
  cases dropped with
  | nil => rfl
  | cons it rest =>
    have hlost (l : List PoolItem) (u : Qf) : (l.foldl (fun x it => x.loseTag n it.words) u).dev = u.dev :=
      Qf.foldl_dev (fun y e => y.loseTag_dev n (PoolItem.words e)) l u
    simp only [Qf.countDrops, apply_ite Qf.dev, Qf.note_dev, hlost, ite_self]

theorem Qf.putWord_dev (x : Qf) (n : Nat) (first last : Bool) (w : Word) (seq : Nat) :
    (x.putWord n first last w seq).dev = x.dev := by
  unfold Qf.putWord
  split
  · rfl
  · dsimp only
    split
    · rfl
    · exact Qf.countDrops_dev ..

theorem Qf.portWord_dev (x : Qf) (port : Nat) (first last : Bool) (w : Word) : (x.portWord port first last w).dev = x.dev := by
  have hput (seq : Nat) (l : List (Nat × Queue)) : (l.foldl (fun x e => x.putWord e.1 first last w seq) x).dev = x.dev :=
    Qf.foldl_dev (fun y e => y.putWord_dev e.1 first last w seq) l x
  unfold Qf.portWord
  dsimp only
  split
  · rfl
  · split
    · exact hput ..
    · exact hput ..

@[simp] theorem Qf.post_dev (x : Qf) (port : Nat) (ws : List Word) : (x.post port ws).dev = x.dev := by
  have hwords (first : Bool) : (x.portWords port first ws).dev = x.dev := by
    induction ws generalizing x first with
    | nil => rfl
    | cons w ws ih =>
      cases ws with
      | nil => exact Qf.portWord_dev ..
      | cons v ws => exact (ih _ _).trans (Qf.portWord_dev ..)
  exact hwords true

/-- The queue part of the device after an engine's step that leaves the device time. -/
theorem State.qf_withMc {s : State} {m : Mc} (h : m.qf.dev = s.dev) : (s.withMc m).qf = m.qf := by
  have hqf : (s.withMc m).qf = { m.qf with dev := s.dev } := rfl
  rw [hqf, ← h]

end Sys2Proof.Machine
end

section
/-! SUPPORT. What each operation of the door function leaves of its door (R342, R343, R347 to R350, R358, R360). -/

namespace Sys2Proof.Machine

variable (m : Mc) (i : Nat)

@[simp] theorem Mc.door_updDoor_self (f : Door → Door) : (m.updDoor i f).door i = f (m.door i) := Tbl.get_modify_self ..

@[simp] theorem Mc.door_note (code : Nat) (data : List Byte) : (m.note i code data).door i = m.door i := rfl

@[simp] theorem Mc.door_post (port : Nat) (ws : List Word) : (m.post port ws).door i = m.door i := rfl

@[simp] theorem Mc.env_updDoor (f : Door → Door) : (m.updDoor i f).env = m.env := rfl

@[simp] theorem Mc.door_plan (job : DoorJob) (kind : Nat) (quick blend : Bool) (arg vmax amax dmax : Int) (id : Word) :
    (m.plan i job kind quick blend arg vmax amax dmax id).door i = m.door i := rfl

/-! ### Events and the ends of commands (R347, R348) -/

/-- The door after an event, which EVENT and DETAIL show. -/
def Door.answered (d : Door) (ev detail : Nat) : Door :=
  { d with lastEv := BitVec.ofNat 8 ev, detail := BitVec.ofNat 8 detail }

/-- The door with its commands ended. -/
def Door.ended (d : Door) : Door := { d with jobs := [], stopping := none, completed := false }

@[simp] theorem Mc.door_doorEvent (job : DoorJob) (ev detail : Nat) :
    (m.doorEvent i job ev detail).door i = (m.door i).answered ev detail :=
  (Mc.door_post ..).trans (m.door_updDoor_self i _)

theorem Mc.qf_doorEvent (job : DoorJob) (ev detail : Nat) :
    (m.doorEvent i job ev detail).qf = m.qf.post ((6 + i) * 0x100 + 9)
      [BitVec.ofNat 32 (job.tag.toNat + ev * 2 ^ 8 + doorCode (m.door i).stat * 2 ^ 16 + detail * 2 ^ 20), job.id,
       satWord (m.motor i).fbpos, lowWord m.env.dev] := rfl

/-- Several events of one kind leave the door as one does. -/
theorem Mc.door_foldl_doorEvent (jobs : List DoorJob) (job : DoorJob) (ev detail : Nat) :
    (jobs.foldl (fun m j => m.doorEvent i j ev detail) (m.doorEvent i job ev detail)).door i =
      (m.door i).answered ev detail := by
  induction jobs generalizing m job with
  | nil => exact m.door_doorEvent i job ev detail
  | cons j jobs ih =>
    rw [List.foldl_cons, ih, Mc.door_doorEvent]
    rfl

/-- The commands end alike, however many there are; without one the event is the door's own. -/
@[simp] theorem Mc.door_endJobs (ev detail : Nat) :
    (m.endJobs i ev detail).door i = (m.door i).ended.answered ev detail := by
  have hended : (m.updDoor i Door.ended).door i = (m.door i).ended := m.door_updDoor_self i _
  rw [← hended]
  unfold Mc.endJobs
  dsimp only
  cases (m.door i).jobs with
  | nil => exact Mc.door_doorEvent ..
  | cons j jobs => exact Mc.door_foldl_doorEvent ..

@[simp] theorem Mc.door_endIn (st : DoorState) (ev detail : Nat) :
    (m.endIn i st ev detail).door i = { (m.door i).ended.answered ev detail with stat := st } := by
  rw [Mc.endIn, Mc.door_endJobs, Mc.door_updDoor_self]
  rfl

section

variable {m i}

/-- The event that ends the one command of a door. -/
theorem Mc.qf_endIn_of_one {j : DoorJob} (h : (m.door i).jobs = [j]) (st : DoorState) (ev detail : Nat) :
    (m.endIn i st ev detail).qf = m.qf.post ((6 + i) * 0x100 + 9)
      [BitVec.ofNat 32 (j.tag.toNat + ev * 2 ^ 8 + doorCode st * 2 ^ 16 + detail * 2 ^ 20), j.id, satWord (m.motor i).fbpos,
       lowWord m.env.dev] := by
  let u := m.updDoor i fun d => { d with stat := st }
  have hdoor : u.door i = { m.door i with stat := st } := m.door_updDoor_self i _
  have hjobs : (u.door i).jobs = [j] := by rw [hdoor]; exact h
  have hstat : ((u.updDoor i Door.ended).door i).stat = st := by rw [Mc.door_updDoor_self, hdoor]; rfl
  have hend : u.endJobs i ev detail = (u.updDoor i Door.ended).doorEvent i j ev detail := by
    unfold Mc.endJobs
    rw [hjobs]
    rfl
  rw [Mc.endIn, hend, Mc.qf_doorEvent, hstat]
  rfl

/-! ### Inputs (R341 to R343) -/

/-- A CLOSELIM level that is no change leaves the door (R343). -/
theorem Mc.closeLimChange_of_same {lvl : Bool} (h : lvl = (m.door i).closePend.getD (m.door i).closeLim) :
    m.closeLimChange i lvl = m := if_pos (beq_iff_eq.mpr h)

/-- Levels with which PERMIT does not fall are taken and nothing else happens (R342, R356). -/
theorem Mc.takeLevels_of_permit_kept {edge curtain coupled permit : Bool} (h : (m.door i).permit = false ∨ permit = true) :
    m.takeLevels i edge curtain coupled permit =
      m.updDoor i fun d => { d with edge := edge, curtain := curtain, coupled := coupled, permit := permit } :=
  if_neg (by obtain h | h := h <;> simp [h])

/-- A good item clears STALE and gives its levels (R341, R342). -/
theorem Mc.doorInput_of_good {w x : Word} (hsum : getBits w 4 0 + getBits w 20 16 = 31)
    (hand : getBits w 4 0 &&& getBits w 20 16 = 0) :
    m.doorInput i { words := [w, x], poison := false } =
      let map := (m.door i).map
      let u := m.updDoor i fun d => { d with stale := false }
      (u.closeLimChange i ((u.door i).hasCloseLim && w.getLsbD 2)).takeLevels i
        (mappedCode (getBits map 5 0) && !w.getLsbD 0) (mappedCode (getBits map 11 6) && !w.getLsbD 1)
        (mappedCode (getBits map 23 18) && w.getLsbD 3) (mappedCode (getBits map 29 24) && w.getLsbD 4) :=
  if_neg (by simp [hsum, hand])

/-- The door with the levels of a good item (R341, R342). -/
def Door.withInput (d : Door) (w : Word) : Door :=
  { d with
    stale := false,
    edge := mappedCode (getBits d.map 5 0) && !w.getLsbD 0,
    curtain := mappedCode (getBits d.map 11 6) && !w.getLsbD 1,
    coupled := mappedCode (getBits d.map 23 18) && w.getLsbD 3,
    permit := mappedCode (getBits d.map 29 24) && w.getLsbD 4 }

/-- Where CLOSELIM is not mapped and PERMIT does not fall, a good item changes the door's levels alone. -/
theorem Mc.doorInput_spec {w x : Word} (hsum : getBits w 4 0 + getBits w 20 16 = 31)
    (hand : getBits w 4 0 &&& getBits w 20 16 = 0) (hmap : (m.door i).hasCloseLim = false)
    (hlim : (m.door i).closeLim = false) (hpend : (m.door i).closePend = none)
    (hpermit : (m.door i).permit = false ∨ mappedCode (getBits (m.door i).map 29 24) = true ∧ w.getLsbD 4 = true) :
    (m.doorInput i { words := [w, x], poison := false }).door i = (m.door i).withInput w ∧
    ∃ t, m.doorInput i { words := [w, x], poison := false } = { m with doors := t } := by
  let u := m.updDoor i fun d => { d with stale := false }
  have hu : u.door i = { m.door i with stale := false } := m.door_updDoor_self i _
  have hlevel : ((u.door i).hasCloseLim && w.getLsbD 2) = false := by
    rw [hu]
    exact congrArg (· && w.getLsbD 2) hmap
  have hsame : u.closeLimChange i ((u.door i).hasCloseLim && w.getLsbD 2) = u := by
    refine Mc.closeLimChange_of_same ?_
    rw [hlevel, hu]
    simp only [hpend, hlim, Option.getD_none]
  have hkept : (u.door i).permit = false ∨ (mappedCode (getBits (m.door i).map 29 24) && w.getLsbD 4) = true := by
    rw [hu, Bool.and_eq_true]
    exact hpermit
  rw [Mc.doorInput_of_good hsum hand]
  dsimp only
  rw [hsame, Mc.takeLevels_of_permit_kept hkept, Mc.door_updDoor_self, hu]
  exact ⟨rfl, _, rfl⟩

/-- A poisoned item, or one of a wrong length, is no input (R342). -/
theorem Mc.doorInput_of_bad {it : Item} (h : it.poison = true ∨ it.words.length ≠ 2) : m.doorInput i it = m :=
  if_pos (by obtain h | h := h <;> simp [h])

/-- Inputs that go stale without a fall of PERMIT take their safe values, with one record (R342, R370). -/
theorem Mc.inputStale_spec (hstale : (m.door i).stale = false) (hpermit : (m.door i).permit = false) :
    (m.inputStale i).door i =
      { m.door i with stale := true, closeLim := false, closePend := none, edge := true, curtain := true, coupled := false,
                      permit := false } ∧
    (m.inputStale i).qf.recorder = m.qf.recorder.put m.qf.dev (6 + i) ((6 + i) * 0x100 + 0x2A)
      [BitVec.ofNat 8 i, BitVec.ofNat 8 (doorCode (m.door i).stat)] := by
  let u := m.updDoor i fun d => { d with stale := true, closeLim := false, closePend := none }
  have hu : u.door i = { m.door i with stale := true, closeLim := false, closePend := none } := m.door_updDoor_self i _
  let v := u.note i 0x2A [BitVec.ofNat 8 (doorCode (u.door i).stat)]
  have hstep : m.inputStale i = v.updDoor i fun d =>
      { d with edge := true, curtain := true, coupled := false, permit := false } :=
    (if_neg (by rw [hstale]; decide)).trans (Mc.takeLevels_of_permit_kept (.inl (by rw [Mc.door_note, hu]; exact hpermit)))
  have hisland : ((6 + i) * 0x100 + 0x2A) / 256 = 6 + i := by omega
  refine ⟨by rw [hstep, Mc.door_updDoor_self, Mc.door_note, hu], ?_⟩
  have hrec : (m.inputStale i).qf.recorder = m.qf.recorder.put m.qf.dev (((6 + i) * 0x100 + 0x2A) / 256)
      ((6 + i) * 0x100 + 0x2A) [BitVec.ofNat 8 i, BitVec.ofNat 8 (doorCode (u.door i).stat)] := by
    rw [hstep]
    rfl
  rw [hrec, hisland, hu]

theorem Mc.inputStale_of_stale (h : (m.door i).stale = true) : m.inputStale i = m := if_pos h

/-! ### Sessions (R358, R359) -/

theorem Mc.sessionItem_of_good (w x : Word) (at_ : Nat) :
    m.sessionItem i { words := [w, x], poison := false } at_ = m.updDoor i fun d =>
      { d with sessLive := w.getLsbD 0, sessStation := BitVec.ofNat 8 (getBits w 15 8), sessExpiry := x, sessAt := some at_ } :=
  if_neg (by simp)

/-- SESSION is taken, and nothing else happens where it holds or the door does not open (R359). -/
theorem Mc.updateSession_of_kept {now : Bool} (hnow : m.sessionNow i = now) (hkept : now = true ∨ (m.door i).stat ≠ .opening) :
    m.updateSession i = m.updDoor i fun d => { d with session := now } := by
  unfold Mc.updateSession
  dsimp only
  rw [hnow, Mc.door_updDoor_self]
  exact if_neg (by obtain hkept | hkept := hkept <;> simp [hkept])

/-- The row of a session item whose SESSION holds, or that reaches a door which does not open, changes doors alone. -/
theorem Mc.sessionItem_spec {w x : Word} {at_ : Nat} {now : Bool}
    (hnow : (m.sessionItem i { words := [w, x], poison := false } at_).sessionNow i = now)
    (hkept : now = true ∨ (m.door i).stat ≠ .opening) :
    ((m.sessionItem i { words := [w, x], poison := false } at_).updateSession i).door i =
      { m.door i with sessLive := w.getLsbD 0, sessStation := BitVec.ofNat 8 (getBits w 15 8), sessExpiry := x,
                      sessAt := some at_, session := now } ∧
    ∃ t, (m.sessionItem i { words := [w, x], poison := false } at_).updateSession i = { m with doors := t } := by
  rw [Mc.sessionItem_of_good] at hnow ⊢
  rw [Mc.updateSession_of_kept hnow (by rw [Mc.door_updDoor_self]; exact hkept), Mc.door_updDoor_self, Mc.door_updDoor_self]
  exact ⟨rfl, _, rfl⟩

/-! ### Completed moves and timers (R349, R350, R360) -/

/-- A COMPLETED of the present POSITION move ends that move (R349). -/
theorem Mc.plannerEvent_of_completed {w a b c : Word} (hstatus : getBits w 15 8 = 2) (hkind : getBits w 19 16 = 1)
    (hold : (m.door i).oldMoves = 0) :
    m.plannerEvent i { words := [w, a, b, c], poison := false } = m.moveEnded i 2 := by
  simp [Mc.plannerEvent, hstatus, hkind, hold]

theorem Mc.plannerEvent_of_bad {it : Item} (h : it.poison = true ∨ it.words.length ≠ 4) : m.plannerEvent i it = m :=
  if_pos (by obtain h | h := h <;> simp [h])

/-- A completed move to TRAVEL ends in OPEN (R349). -/
theorem Mc.moveEnded_of_travel (hstop : (m.door i).stopping = none) (hgoal : (m.door i).goal = .travel) :
    m.moveEnded i 2 = (m.updDoor i fun d => { d with goal := .none }).endIn i .open_ 0x01 0 := by
  unfold Mc.moveEnded
  dsimp only
  rw [hstop, hgoal]
  rfl

/-- A completed move to 0 awaits the conditions of CLOSED (R349). -/
theorem Mc.moveEnded_of_close (hstop : (m.door i).stopping = none) (hgoal : (m.door i).goal = .close) :
    m.moveEnded i 2 =
      ((m.updDoor i fun d => { d with goal := .none }).updDoor i fun d => { d with completed := true }).closeEnds i := by
  unfold Mc.moveEnded
  dsimp only
  rw [hstop, hgoal]
  rfl

theorem Mc.closeEnds_of_closed (hdone : (m.door i).completed = true) (hok : m.closedOk i = true)
    (hstat : (m.door i).stat ≠ .learning) : m.closeEnds i = m.endIn i .closed 0x02 0 :=
  (if_neg (by simp [hdone, hok])).trans (if_neg (mt beq_iff_eq.mp hstat))

theorem Mc.closeEnds_of_moving (h : (m.door i).completed = false) : m.closeEnds i = m := if_pos (by simp [h])

/-- CLOSEWAIT ends a closing door whose position is not yet that of CLOSED (R349). -/
theorem Mc.closeWait_of_open (hdone : (m.door i).completed = true)
    (hpos : (m.env.MC_DCLOSETOL i : Int) < (m.motor i).fbpos) (hstat : (m.door i).stat ≠ .learning) :
    ∃ data, m.closeWait i = (m.note i 0x29 data).endIn i .stopped 0x03 0x18 := by
  have hopen : m.closedOk i = false := by simp [Mc.closedOk, hpos]
  exact ⟨_, (if_neg (by simp [hdone, hopen])).trans (if_neg (mt beq_iff_eq.mp hstat))⟩

theorem Mc.closeWait_of_moving (h : (m.door i).completed = false) : m.closeWait i = m := if_pos (by simp [h])

/-- A quick stop of a home run ends it in UNHOMED (R350, R360). -/
theorem Mc.door_halt_of_homing (h : (m.door i).stat = .homing) (detail : Nat) :
    (m.halt i detail).door i =
      { (m.door i).ended.answered 0x09 detail with
        stat := .unhomed, homed := false, goal := .none,
        oldMoves := (m.door i).oldMoves + bit ((m.door i).goal != .none) } := by
  have hhalt : m.halt i detail = (m.abortMoves i (m.door i).owner true).failHome i detail := by
    unfold Mc.halt
    rw [h]
  rw [hhalt, Mc.failHome, Mc.door_endIn, Mc.door_updDoor_self, Mc.abortMoves, Mc.door_plan]
  rfl

/-! ### Moves (R346, R359) -/

@[simp] theorem Mc.door_closeMove (job : DoorJob) (nudging : Bool) :
    (m.closeMove i job nudging).door i = (m.door i).replace .close := by
  rw [Mc.closeMove, Mc.door_updDoor_self, Mc.door_plan]

/-- A door at rest without a command nudges closed on its own (R359). -/
theorem Mc.door_sessGrace_of_rest (hreq : m.env.sessReq i = true) (hsession : (m.door i).session = false)
    (hstat : (m.door i).stat = .open_ ∨ (m.door i).stat = .stopped) (hgoal : (m.door i).goal = .none)
    (hjobs : (m.door i).jobs = []) :
    (m.sessGrace i).door i = Door.replace
      { (m.door i).answered 0x0C 0x17 with stat := .nudging, jobs := [{ tag := 0, id := ownId }] } .close := by
  let own : DoorJob := { tag := 0, id := ownId }
  let u := ((m.doorEvent i own 0x0C 0x17).note i 0x28 (leBytes 1 (m.env.MC_DSTATION_STATION i))).updDoor i
    fun d => { d with stat := .nudging, jobs := [own] }
  have hdoor : u.door i = { (m.door i).answered 0x0C 0x17 with stat := .nudging, jobs := [own] } := by
    rw [Mc.door_updDoor_self, Mc.door_note, Mc.door_doorEvent]
  have hrest : (u.door i).goal = .none := by rw [hdoor]; exact hgoal
  have hgrace : m.sessGrace i = u.nudgeMoves i own := by
    unfold Mc.sessGrace
    dsimp only
    rw [hjobs]
    exact if_neg (by obtain h | h := hstat <;> simp [hreq, hsession, h])
  rw [hgrace, Mc.nudgeMoves, if_pos hrest, Mc.door_closeMove, hdoor]

theorem Mc.sessGrace_of_session (h : (m.door i).session = true) : m.sessGrace i = m := if_pos (by simp [h])

end

end Sys2Proof.Machine
end

section
/-! SUPPORT. The rows of the door inputs, planner events and timers (R341 to R343, R349, R358 to R360). -/

namespace Sys2Proof.Machine

section

variable {s : State} {m : Fin 4} {c : Instr} {f : Mc → Mc}

/-! ### A door row on an engine that carries the door function -/

theorem State.door_withMc (u : Mc) (i : Nat) : (s.withMc u).doors.get Door.reset i = u.door i := rfl

theorem State.runDoor_of_on {i : Nat} (hdoor : s.isDoor i = true) (hruns : s.runs (motorIsland i) = true) :
    s.runDoor i f = s.withMc (f s.mc) := State.runMc_of_on f (by rw [hdoor, hruns]; rfl)

section

variable (hdoor : s.isDoor m.val = true) (hruns : s.runs (motorIsland m.val) = true)
  (hexec : exec c s = .next (s.runDoor m.val f))

include hdoor hruns hexec

theorem completes_runDoor {P : State → Prop} (h : P (s.withMc (f s.mc))) : Completes c s P :=
  ⟨_, by rw [hexec, State.runDoor_of_on hdoor hruns], h⟩

/-- A row that changes doors alone. -/
theorem completes_runDoor_of_doors {d : Door} (h : (f s.mc).door m.val = d ∧ ∃ doors, f s.mc = { s.mc with doors := doors }) :
    Completes c s fun t => t.doors.get Door.reset m.val = d ∧ t = { s with doors := t.doors } := by
  obtain ⟨hd, doors, hmc⟩ := h
  exact completes_runDoor hdoor hruns hexec ⟨hd, by rw [hmc]; rfl⟩

end

/-- A row whose step changes nothing. -/
theorem exec_of_runDoor_idle (hexec : exec c s = .next (s.runDoor m.val f)) (h : f s.mc = s.mc) : exec c s = .next s :=
  hexec.trans (congrArg Host.Outcome.next (State.runMc_of_idle _ h))

/-! ### What each row runs -/

theorem exec_doorInputItem (it : Item) :
    exec (.doorInputItem m it) s = .next (s.runDoor m.val fun x => x.doorInput m.val it) := rfl

theorem exec_doorInputStale : exec (.doorInputStale m) s = .next (s.runDoor m.val fun x => x.inputStale m.val) := rfl

theorem exec_doorPlannerEvent (it : Item) :
    exec (.doorPlannerEvent m it) s = .next (s.runDoor m.val fun x => x.plannerEvent m.val it) := rfl

theorem exec_sessionItem (it : Item) : exec (.sessionItem m it) s =
    .next (s.runDoor m.val fun x => (x.sessionItem m.val it s.dev).updateSession m.val) := rfl

theorem exec_closelimEdge : exec (.closelimEdge m) s =
    .next (s.runDoor m.val fun x => (x.updDoor m.val Door.countCloseLim).closeEnds m.val) := rfl

theorem exec_closewaitExpire : exec (.closewaitExpire m) s = .next (s.runDoor m.val fun x => x.closeWait m.val) := rfl

theorem exec_homeTimeout : exec (.homeTimeout m) s = .next (s.runDoor m.val fun x =>
    if (x.door m.val).stat == .homing then (x.halt m.val 0x21).noteHomeFailed m.val 0x21 else x) := rfl

theorem exec_sessgraceExpire : exec (.sessgraceExpire m) s = .next (s.runDoor m.val fun x => x.sessGrace m.val) := rfl

end

section

variable {m : Mc} {i : Nat} {w x : Word}

/-- A live item of the door's station, present and not yet expired, gives SESSION (R358). -/
theorem Mc.sessionNow_of_live (hlive : w.getLsbD 0 = true) (hstation : getBits w 15 8 = m.env.MC_DSTATION_STATION i)
    (hexpiry : 0 < sDiff x (lowWord m.env.dev)) :
    (m.sessionItem i { words := [w, x], poison := false } m.env.dev).sessionNow i = true := by
  have hbyte : (BitVec.ofNat 8 (getBits w 15 8)).toNat = m.env.MC_DSTATION_STATION i :=
    (BitVec.toNat_ofNat ..).trans ((getBits_mod w 15 8).trans hstation)
  rw [Mc.sessionItem_of_good, Mc.sessionNow, Mc.door_updDoor_self]
  simp only [Mc.env_updDoor, hlive, hbyte, hexpiry]
  simp

theorem Mc.sessionNow_of_dead (hlive : w.getLsbD 0 = false) (at_ : Nat) :
    (m.sessionItem i { words := [w, x], poison := false } at_).sessionNow i = false := by
  rw [Mc.sessionItem_of_good, Mc.sessionNow, Mc.door_updDoor_self]
  simp only [hlive, Bool.false_and]

end

/-- Settles O34: input items and their staleness, CLOSELIM, planner events, session items and the three timers. -/
theorem doorInputsAndEventsAreFollowed : Obligations.DoorInputsAndEventsAreFollowed := by
  unfold Obligations.DoorInputsAndEventsAreFollowed
  intro s m d dr port hdoor hruns
  refine ⟨fun w x hsum hand hlim hclose hpend hpermit => ?input, fun it hbad => ?badInput, fun hstale hpermit => ?stale,
    fun hstale => ?stillStale, fun w a b c j hstatus hkind hold hstop hgoal hjobs => ?opened,
    fun w a b c hstatus hkind hold hstop hgoal hstat hpos hmapped hlim => ?closed, fun it hbad => ?badEvent,
    fun w x hlive hstation hexpiry => ?session, fun w x hlive hstat => ?noSession, fun l hpend hdone => ?closeLim,
    fun j hdone hstat hpos hjobs => ?closeWait, fun hdone => ?noCloseWait, fun j hstat hjobs => ?homeTimeout,
    fun hstat => ?noHomeTimeout, fun hreq hsession hstat hgoal hjobs => ?grace, fun hsession => ?noGrace⟩
  case input =>
    exact completes_runDoor_of_doors hdoor hruns (exec_doorInputItem _)
      (Mc.doorInput_spec (m := s.mc) hsum hand hlim hclose hpend hpermit)
  case badInput => exact exec_of_runDoor_idle (exec_doorInputItem it) (Mc.doorInput_of_bad hbad)
  case stale => exact completes_runDoor hdoor hruns exec_doorInputStale (Mc.inputStale_spec (m := s.mc) hstale hpermit)
  case stillStale => exact exec_of_runDoor_idle exec_doorInputStale (Mc.inputStale_of_stale hstale)
  case opened =>
    let u := s.mc.updDoor m.val fun d => { d with goal := .none }
    have hu : u.door m.val = { d with goal := .none } := Mc.door_updDoor_self ..
    have hstep : s.mc.plannerEvent m.val { words := [w, a, b, c], poison := false } = u.endIn m.val .open_ 0x01 0 :=
      (Mc.plannerEvent_of_completed (m := s.mc) hstatus hkind hold).trans (Mc.moveEnded_of_travel hstop hgoal)
    have hqf := Mc.qf_endIn_of_one (m := u) (i := m.val) (j := j) (by rw [hu]; exact hjobs) .open_ 0x01 0
    refine completes_runDoor hdoor hruns (exec_doorPlannerEvent _) ?_
    rw [hstep]
    have hd := u.door_endIn m.val .open_ 0x01 0
    rw [hu] at hd
    refine ⟨congrArg Door.stat hd, congrArg Door.jobs hd, congrArg Door.goal hd, congrArg Door.lastEv hd, ?_⟩
    rw [State.qf_withMc (by rw [hqf, Qf.post_dev]; rfl), hqf]
    simp only [doorCode, Nat.one_mul, Nat.zero_mul, Nat.add_zero]
    rfl
  case closed =>
    let u := (s.mc.updDoor m.val fun d => { d with goal := .none }).updDoor m.val fun d => { d with completed := true }
    have hu : u.door m.val = { d with goal := .none, completed := true } := by
      rw [Mc.door_updDoor_self, Mc.door_updDoor_self]
      rfl
    have hok : u.closedOk m.val = true := by
      have hmotor : (u.motor m.val).fbpos ≤ u.env.MC_DCLOSETOL m.val := hpos
      simp only [Mc.closedOk, hu, hlim, hmotor, decide_true, Bool.or_true, Bool.true_or, Bool.true_and]
    have hmoves : (u.door m.val).stat ≠ .learning := by
      rw [hu]
      exact fun h => absurd (hstat.symm.trans h) (by decide)
    have hstep : s.mc.plannerEvent m.val { words := [w, a, b, c], poison := false } = u.endIn m.val .closed 0x02 0 :=
      (Mc.plannerEvent_of_completed (m := s.mc) hstatus hkind hold).trans
        ((Mc.moveEnded_of_close (m := s.mc) hstop hgoal).trans (Mc.closeEnds_of_closed (by rw [hu]) hok hmoves))
    refine completes_runDoor hdoor hruns (exec_doorPlannerEvent _) ?_
    rw [hstep]
    have hd := u.door_endIn m.val .closed 0x02 0
    rw [hu] at hd
    exact ⟨congrArg Door.stat hd, congrArg Door.jobs hd, congrArg Door.goal hd, congrArg Door.completed hd⟩
  case badEvent => exact exec_of_runDoor_idle (exec_doorPlannerEvent it) (Mc.plannerEvent_of_bad hbad)
  case session =>
    have hspec := Mc.sessionItem_spec (Mc.sessionNow_of_live (m := s.mc) (i := m.val) hlive hstation hexpiry) (.inl rfl)
    rw [hlive] at hspec
    exact completes_runDoor_of_doors hdoor hruns (exec_sessionItem _) hspec
  case noSession =>
    obtain ⟨t, hexec, hd, hframe⟩ := completes_runDoor_of_doors hdoor hruns (exec_sessionItem _)
      (Mc.sessionItem_spec (Mc.sessionNow_of_dead (m := s.mc) (i := m.val) (x := x) hlive s.dev) (.inr hstat))
    exact ⟨t, hexec, congrArg Door.session hd, (congrArg Door.stat hd :), hframe⟩
  case closeLim =>
    let u := s.mc.updDoor m.val Door.countCloseLim
    have hu : u.door m.val = { d with closeLim := l, closePend := none } := by
      rw [Mc.door_updDoor_self, Door.countCloseLim, show (s.mc.door m.val).closePend = some l from hpend]
      rfl
    have hstep : u.closeEnds m.val = u := Mc.closeEnds_of_moving (by rw [hu]; exact hdone)
    exact completes_runDoor_of_doors hdoor hruns exec_closelimEdge ⟨by rw [hstep, hu], _, hstep⟩
  case closeWait =>
    obtain ⟨data, hstep⟩ := Mc.closeWait_of_open (m := s.mc) (i := m.val) hdone hpos
      fun h => absurd (hstat.symm.trans h) (by decide)
    have hd := (s.mc.note m.val 0x29 data).door_endIn m.val .stopped 0x03 0x18
    rw [← hstep] at hd
    exact completes_runDoor hdoor hruns exec_closewaitExpire ⟨congrArg Door.stat hd, congrArg Door.jobs hd,
      congrArg Door.completed hd, congrArg Door.lastEv hd, congrArg Door.detail hd⟩
  case noCloseWait => exact exec_of_runDoor_idle exec_closewaitExpire (Mc.closeWait_of_moving hdone)
  case homeTimeout =>
    have hd := Mc.door_halt_of_homing (m := s.mc) (i := m.val) hstat 0x21
    refine completes_runDoor hdoor hruns exec_homeTimeout ?_
    rw [if_pos (show ((s.mc.door m.val).stat == .homing) = true from beq_iff_eq.mpr hstat)]
    exact ⟨congrArg Door.stat hd, congrArg Door.homed hd, congrArg Door.jobs hd, congrArg Door.lastEv hd,
      congrArg Door.detail hd⟩
  case noHomeTimeout => exact exec_of_runDoor_idle exec_homeTimeout (if_neg (mt beq_iff_eq.mp hstat))
  case grace =>
    have hd := Mc.door_sessGrace_of_rest (m := s.mc) (beq_iff_eq.mpr hreq) hsession hstat hgoal hjobs
    exact completes_runDoor hdoor hruns exec_sessgraceExpire ⟨congrArg Door.stat hd, congrArg Door.jobs hd,
      congrArg Door.goal hd, congrArg Door.lastEv hd, congrArg Door.detail hd⟩
  case noGrace => exact exec_of_runDoor_idle exec_sessgraceExpire (Mc.sessGrace_of_session hsession)

end Sys2Proof.Machine
end

section
/-! SUPPORT. Door rows over a register beyond its range and over a route that R335 leaves to Craop (R14, R335, R346, R352, R369). -/

namespace Sys2Proof.Machine

/-! ### HOME with a HOMEV beyond its range (R346, R369) -/

/-- The second words of the items in queue 0: the arguments of the commands posted there (R260). -/
def Qf.postedArgs (x : Qf) : Option (List Word) := (x.fabric.queue 0).map fun q => q.items.map fun it => it.words.getD 1 0

/-- A CLOSED door whose moves go to queue 0, with a HOMEV that no write stores: R369 keeps it at 200 000 or below. -/
def homeBeyondRange : State := (Fx.wq Fx.atDoor8).setReg .MC_DHOMEV [0] 0xFFFFFFFF

/-- The home run's VELOCITY saturates at the least signed word (R9). -/
theorem postedArgs_homeBeyondRange : ∀ t, exec (.doorHome 0 { words := [0, 0], poison := false }) homeBeyondRange = .next t →
    t.qf.postedArgs = some [0x80000000] := by
  intro t h
  obtain rfl := Host.Outcome.next.inj h
  decide +kernel

/-- Refutes O33: its clause on HOME asks nothing of the range of HOMEV. Where the register holds 0xFFFFFFFF, which R369 excludes,
the model posts -HOMEV saturated, 0x80000000, and the statement wants it modulo 2^32, which is 1. -/
theorem not_doorCommandsAreAcceptedOrRefused : ¬ Obligations.DoorCommandsAreAcceptedOrRefused := by
  unfold Obligations.DoorCommandsAreAcceptedOrRefused
  intro h
  obtain ⟨-, -, -, -, -, hhome, -⟩ := h homeBeyondRange 0 0 0
  obtain ⟨t, hexec, -, -, -, hqf⟩ := hhome (by decide +kernel) (.inr (.inl (by decide))) (by decide) (by decide)
  have hargs := (congrArg Qf.postedArgs hqf).symm.trans (postedArgs_homeBeyondRange t hexec)
  exact absurd hargs (by decide +kernel)

/-! ### A reversal whose event comes back as a command (R335, R352) -/

/-- A route from the events of door 0 to its commands. -/
def eventsToCommandsRoute : RouteRec :=
  { queue := 0, capacity := 3, producer := 0x0609, consumer := 0x0605, flag := false, cmdq := false, timeout := 1 }

/-- A closing door with its edge contact pressed, whose events feed its own command port. -/
def eventsToCommands : State :=
  { Fx.atDoor23 with fabric := { Fabric.reset with queues := [(0, some (Queue.build eventsToCommandsRoute))] } }

/-- The check of R127 takes the route: the rule that excludes it, R335, binds Craop. -/
theorem routeOk_eventsToCommandsRoute :
    eventsToCommands.image.map (fun im => im.routeOk eventsToCommandsRoute) = some true := by decide

/-- The sample's command step finds the REVERSED event at the command port and refuses it for its length (R346). -/
theorem lastEv_eventsToCommands : ∀ t, exec (.speedSample 0 false) eventsToCommands = .next t →
    (t.doors.get Door.reset 0).lastEv = 0x07 := by
  intro t h
  obtain rfl := Host.Outcome.next.inj h
  decide +kernel

/-- Refutes O35: it asks nothing of the routes of the door's own ports. Where the door's events feed its command port, which R335
leaves to Craop to exclude, the REVERSED event is refused as a command in the same sample and EVENT shows REFUSED. -/
theorem not_anObstructedDoorReverses : ¬ Obligations.AnObstructedDoorReverses := by
  unfold Obligations.AnObstructedDoorReverses
  intro h
  obtain ⟨t, hexec, -, -, -, hev, -⟩ := h eventsToCommands 0 false (by decide) (by decide) (by decide) (by decide) (by decide)
    (by decide) (by decide) (by decide) (by decide) (by decide) (.inl (by decide)) (.inr (by decide))
  exact absurd (hev.symm.trans (lastEv_eventsToCommands t hexec)) (by decide)

end Sys2Proof.Machine
end

section
/-! SUPPORT. Fields of a figure's step words: what a field reads of the fields placed beside it (R418, R419). -/

namespace Sys2Proof.Machine

section
variable {n : Nat} (b : BitVec n) {hi lo k : Nat}

@[simp] theorem getElem_at_ (h : k < 32) : (at_ b lo)[k] = (decide (lo ≤ k) && b.getLsbD (k - lo)) := by
  rw [← BitVec.getLsbD_eq_getElem, at_, BitVec.getLsbD_shiftLeft, BitVec.getLsbD_setWidth]
  by_cases hlo : lo ≤ k
  · simp [h, hlo, show ¬ k < lo by omega, show k - lo < 32 by omega]
  · simp [hlo, show k < lo by omega]

/-- A field placed at bit `lo` reads back there. -/
theorem fld_at_self (hn : hi - lo + 1 = n) (hle : lo ≤ hi) (h32 : hi < 32) : fld (at_ b lo) hi lo = b.cast hn.symm := by
  refine BitVec.eq_of_getLsbD_eq fun i hi' => ?_
  rw [fld, BitVec.getLsbD_extractLsb, BitVec.getLsbD_eq_getElem (show lo + i < 32 by omega), getElem_at_]
  simp [show i ≤ hi - lo by omega, BitVec.getLsbD_eq_getElem (hn ▸ hi')]

/-- A field shows nothing of one placed apart from it. -/
theorem fld_at_of_apart (hle : lo ≤ hi) (h32 : hi < 32) (h : hi < k ∨ k + n ≤ lo) : fld (at_ b k) hi lo = 0 := by
  refine BitVec.eq_of_getLsbD_eq fun i hi' => ?_
  rw [fld, BitVec.getLsbD_extractLsb, BitVec.getLsbD_eq_getElem (show lo + i < 32 by omega), getElem_at_]
  obtain h | h := h
  · simp [show ¬ k ≤ lo + i by omega]
  · simp [BitVec.getLsbD_of_ge b (lo + i - k) (by omega)]

@[simp] theorem fld_or (u v : Word) (hi lo : Nat) : fld (u ||| v) hi lo = fld u hi lo ||| fld v hi lo := by
  refine BitVec.eq_of_getLsbD_eq fun i hi' => ?_
  simp [fld, Bool.and_or_distrib_left]

@[simp] theorem fld_zero (hi lo : Nat) : fld 0#32 hi lo = 0#(hi - lo + 1) := by
  refine BitVec.eq_of_getLsbD_eq fun i hi' => ?_
  simp [fld]

@[simp] theorem at_zero (n lo : Nat) : at_ (0#n) lo = 0 := by simp [at_]

@[simp] theorem getElem_bit1 (v : Bool) : (bit1 v)[0] = v := by cases v <;> rfl

@[simp] theorem waitKindOf_waitKindBits (kind : WaitKind) : waitKindOf (waitKindBits kind) = some kind := by
  cases kind <;> rfl

end

/-- Settles O58: every field of a step word reads back the operand placed there, and the bits that R419 wants 0 are those where
nothing stands; the limits of WAIT, TSET and RAISE are the hypothesis on the step. -/
theorem figureStepWordsDecodeToTheStep : Obligations.FigureStepWordsDecodeToTheStep := by
  unfold Obligations.FigureStepWordsDecodeToTheStep
  intro st next hok
  cases st with
  | wait kind arg timer else_ =>
    have htimer : timer.toNat < 8 ∨ else_ = 0#12 := by simpa [FigStep.ok] using hok
    simp (disch := decide) [figDecode, FigStep.word, fld_at_self, fld_at_of_apart, htimer]
  | tset timer unit src ra imm =>
    have hunit : unit ≠ 3#2 := by simpa [FigStep.ok] using hok
    simp (disch := decide) [figDecode, FigStep.word, fld_at_self, fld_at_of_apart, hunit]
  | raise ra code =>
    have hcode : code[7] = true := hok
    simp (disch := decide) [figDecode, FigStep.word, fld_at_self, fld_at_of_apart, hcode]
  | _ => simp (disch := decide) [figDecode, FigStep.word, FigStep.lit, opWord, fld_at_self, fld_at_of_apart]

end Sys2Proof.Machine
end

section
/-! SUPPORT. One microsecond in which no command waits (R19, R20, R81, R121, R138, R175). -/

namespace Sys2Proof.Machine

variable (a : Aon) (stopped : Bool)

theorem step_of_waiting (s : State) (c : Instr) (rest : List Instr) :
    step { s with pending := c :: rest } = exec c { s with pending := rest } := rfl

theorem step_of_none {s : State} (h : s.pending = []) : step s = .next s.microsecond := by rw [step, h]

/-! ### The RTC -/

theorem Aon.runRtc_of_period (h : 125000 ≤ a.rtcSub + 4096) :
    a.runRtc = { a with rtcSub := a.rtcSub + 4096 - 125000, rtcFrac := a.rtcFrac + 2,
                        rtcSec := if a.rtcFrac.toNat < 65534 then a.rtcSec else a.rtcSec + 1 } := by
  have hcarry : a.rtcFrac + 2 < 2 ↔ ¬ a.rtcFrac.toNat < 65534 := by bv_omega
  simp only [Aon.runRtc, if_neg (show ¬ a.rtcSub + 4096 < 125000 by omega), hcarry, ite_not]

theorem Aon.runRtc_of_between (h : a.rtcSub + 4096 < 125000) : a.runRtc = { a with rtcSub := a.rtcSub + 4096 } := by
  simp [Aon.runRtc, h]

theorem Aon.runRtc_frame :
    a.runRtc = { a with rtcSec := a.runRtc.rtcSec, rtcFrac := a.runRtc.rtcFrac, rtcSub := a.runRtc.rtcSub } := by
  rcases Nat.lt_or_ge (a.rtcSub + 4096) 125000 with h | h
  · rw [a.runRtc_of_between h]
  · rw [a.runRtc_of_period h]

/-- Beside the RTC, AON counts the pulse of TAMPOUT down and the hold of RESET_N up. -/
theorem Aon.run_eq : a.run stopped =
    { (if stopped then a else a.runRtc) with
      pulseUs := a.pulseUs - 1, holdUs := if a.resetLow then a.holdUs + 1 else a.holdUs } := by
  rw [Aon.run]
  cases stopped <;> cases h : a.resetLow <;> simp [h] <;> rw [a.runRtc_frame] <;> simp [h]

theorem Aon.run_frame : a.run stopped = { a with
    rtcSec := (a.run stopped).rtcSec, rtcFrac := (a.run stopped).rtcFrac, rtcSub := (a.run stopped).rtcSub
    pulseUs := a.pulseUs - 1, holdUs := if a.resetLow then a.holdUs + 1 else a.holdUs } := by
  cases stopped
  · rw [Aon.run_eq, if_neg Bool.false_ne_true, Aon.runRtc_frame]
  · rw [Aon.run_eq, if_pos rfl]

/-! ### The state -/

def State.aonAfter (s : State) : Aon := if s.power.state = .off then s.aon else s.aon.run (s.quarantined 23)

theorem State.aonAfter_frame (s : State) : s.aonAfter = { s.aon with
    rtcSec := s.aonAfter.rtcSec, rtcFrac := s.aonAfter.rtcFrac, rtcSub := s.aonAfter.rtcSub
    pulseUs := if s.power.state = .off then s.aon.pulseUs else s.aon.pulseUs - 1
    holdUs := if s.power.state ≠ .off ∧ s.aon.resetLow = true then s.aon.holdUs + 1 else s.aon.holdUs } := by
  rw [State.aonAfter]
  by_cases hoff : s.power.state = .off
  · simp only [ne_eq, hoff, not_true_eq_false, false_and, if_false, if_true]
  · simp only [ne_eq, hoff, not_false_eq_true, true_and]
    exact s.aon.run_frame _

/-- The four parts of a microsecond lie in four fields, and no condition of one reads what another changes. -/
theorem State.microsecond_eq (s : State) : s.microsecond = { s with
    dev := if s.pwrUp then s.dev + 1 else s.dev
    start := { s.start with
      elapsed := if s.supplies.vmainOk = true ∧ s.power.state = .starting then s.start.elapsed + 1 else s.start.elapsed }
    session := { s.session with wait := if s.mgtUp then s.session.wait - 1 else s.session.wait }
    aon := s.aonAfter } := by
  have haon : (if s.power.state == .off then s else { s with aon := s.aon.run (s.quarantined 23) }) =
      { s with aon := s.aonAfter } := by
    rw [State.aonAfter]; by_cases h : s.power.state = .off
    · simp only [h, beq_self_eq_true, if_true]
    · simp only [beq_eq_false_iff_ne.mpr h, if_neg h, Bool.false_eq_true, if_false]
  have hdev (x : State) : (if x.pwrUp then { x with dev := x.dev + 1 } else x) =
      { x with dev := if x.pwrUp then x.dev + 1 else x.dev } := by cases x.pwrUp <;> rfl
  have hstart (x : State) : (if x.supplies.vmainOk && x.power.state == .starting then
        { x with start := { x.start with elapsed := x.start.elapsed + 1 } } else x) =
      { x with start := { x.start with
        elapsed := if x.supplies.vmainOk = true ∧ x.power.state = .starting then x.start.elapsed + 1 else x.start.elapsed } } := by
    have hcond : (x.supplies.vmainOk && x.power.state == .starting) = decide (x.supplies.vmainOk = true ∧ x.power.state = .starting) := by
      rw [Bool.decide_and, Bool.decide_eq_true]; rfl
    rw [hcond]; by_cases h : x.supplies.vmainOk = true ∧ x.power.state = .starting
    · rw [if_pos h, if_pos (decide_eq_true h)]
    · rw [if_neg h, if_neg (by simpa using h)]
  have hwait (x : State) : (if x.mgtUp then { x with session := { x.session with wait := x.session.wait - 1 } } else x) =
      { x with session := { x.session with wait := if x.mgtUp then x.session.wait - 1 else x.session.wait } } := by
    cases x.mgtUp <;> rfl
  rw [State.microsecond, haon, hdev, hstart, hwait]
  rfl

/-- Settles O52: the front command is the dispatch's, and a microsecond's four parts are read off one by one; a second is carried
where the 16-bit fraction wraps. -/
theorem stepRunsTheFrontCommand : Obligations.StepRunsTheFrontCommand := by
  unfold Obligations.StepRunsTheFrontCommand
  refine fun s c rest => ⟨step_of_waiting s c rest, fun hnone => ⟨s.microsecond, step_of_none hnone, ?_, ?_, ?_⟩⟩
  · rw [s.microsecond_eq, s.aonAfter_frame]
  · rw [State.microsecond_eq]
    rintro (hoff | hq)
    · simp [State.aonAfter, hoff]
    · by_cases hoff : s.power.state = .off <;> simp [State.aonAfter, hoff, hq, Aon.run_eq]
  · rw [State.microsecond_eq]
    intro hon hq
    simp only [State.aonAfter, if_neg hon, hq, Aon.run_eq, Bool.false_eq_true, if_false]
    exact ⟨fun h => by rw [s.aon.runRtc_of_between h]; exact ⟨rfl, rfl, rfl⟩,
      fun h => by rw [s.aon.runRtc_of_period h]; exact ⟨rfl, rfl, rfl⟩⟩

end Sys2Proof.Machine
end

section
/-! SUPPORT. The status port of the car that a GROUP scheduler drives itself (R371, R380). -/

namespace Sys2Proof.Machine

/-- A GROUP scheduler of a machine unit that drives car 0, the OWNCAR after reset, of two cars (R371). -/
def groupMachine : State :=
  { Fx.atSched4 with image := Fx.atSched4.image.map fun im => { im with role := .machineGroup } }

/-- A good status item that reports a floor. -/
def statusOfOwnCar : Item := { words := 1 :: List.replicate 15 0, poison := false }

theorem exec_carStatusItem (c : Fin 16) (it : Item) (s : State) : exec (.carStatusItem c it) s =
    .next (s.runSc (s.schRuns && s.statusPort c.val) fun m => m.statusItem c.val it) := rfl

theorem exec_carStatusItem_of_noPort (c : Fin 16) (it : Item) (s : State) (h : s.statusPort c.val = false) :
    exec (.carStatusItem c it) s = .next s := by
  rw [exec_carStatusItem, h, Bool.and_false, State.runSc, if_neg Bool.false_ne_true]

theorem exec_carStatusItem_groupMachine : exec (.carStatusItem 0 statusOfOwnCar) groupMachine = .next groupMachine :=
  exec_carStatusItem_of_noPort 0 statusOfOwnCar groupMachine (by decide)

/-- Refutes O38: its clause on status items asks nothing of the car. The scheduler has no status port for the car it drives (R380), so the
item for car 0 leaves its view as it was, where the statement wants the item's words in it. -/
theorem not_schedulerFollowsItsCars : ¬ Obligations.SchedulerFollowsItsCars := by
  unfold Obligations.SchedulerFollowsItsCars
  intro h
  obtain ⟨-, -, -, hstatus, -⟩ := h groupMachine
  obtain ⟨t, hexec, hview, -⟩ := hstatus 0 statusOfOwnCar (by decide) (by decide) (by decide) rfl rfl (by decide)
  obtain rfl := Host.Outcome.next.inj (exec_carStatusItem_groupMachine.symm.trans hexec)
  exact absurd (congrArg CarView.words hview) (by decide)

end Sys2Proof.Machine
end

section
/-! SUPPORT. A register request of a figure while a late reply is still under way (R429, R439). -/

namespace Sys2Proof.Machine

theorem exec_stepRdreg (f : Fin 4) (bad : Bool) (pads : BitVec 64) (s : State) : exec (.stepRdreg f bad pads) s =
    .next ((s.seePads pads).figStep f.val bad fun
      | .rdreg rd a => some fun x g => x.request f.val g 1 a 0 (some rd)
      | _ => none) := rfl

/-- Figure 0 stands at an RDREG of a register of PWR while the reply of an access it cancelled waits at its reply port. -/
def readingWhileReplyLate : State := Fx.stage (Fx.fig (.rdreg 0 0x100)) 0x0BC1 [0, 7]

theorem stale_readingWhileReplyLate : ∀ t, exec (.stepRdreg 0 false 0) readingWhileReplyLate = .next t →
    (t.seqr.figs.get Figure.reset 0).stale = [(1, 1)] := by
  intro t h
  obtain rfl := Host.Outcome.next.inj ((exec_stepRdreg ..).symm.trans h)
  decide +kernel

/-- Refutes O40: its clause on RDREG leaves out the count of late replies. The engine counts the access whose reply has not come, so that
this reply is discarded when it comes (R439), and the statement wants the count as it was. -/
theorem not_figureStepsReachTheDevice : ¬ Obligations.FigureStepsReachTheDevice := by
  unfold Obligations.FigureStepsReachTheDevice
  intro h
  obtain ⟨-, -, -, -, -, -, -, hrdreg, -⟩ := h readingWhileReplyLate 0 (by decide +kernel) (by decide +kernel) (by decide +kernel)
  have hexec := hrdreg 0 0 0x100 1 (by decide +kernel) (by decide +kernel) (by decide +kernel) (by decide)
  exact absurd (stale_readingWhileReplyLate _ hexec) (by decide +kernel)

end Sys2Proof.Machine
end

section
/-! SUPPORT. A step of a figure engine: where it runs, how it goes on, and the single steps that compute and branch (R416 to R420,
R425, R435). -/

namespace Sys2Proof.Machine

theorem satWord_eq (x : Int) : satWord x = BitVec.ofInt 32 (max (-2 ^ 31) (min (2 ^ 31 - 1) x)) := by
  unfold satWord toWord sat32 clampInt
  congr 1
  split
  · omega
  · split <;> omega

/-! ### One engine -/

/-- The state with figure engine `f` as given. -/
def State.withFigure (s : State) (f : Nat) (g : Figure) : State :=
  { s with seqr := { s.seqr with figs := s.seqr.figs.set Figure.reset f g } }

/-- An engine whose step has been counted (R417, R425). -/
def Figure.counted (g : Figure) : Figure := { g with steps := satInc g.steps, since := g.since + 1 }

theorem State.withFc_fc (s : State) : s.withFc s.fc = s := rfl

theorem State.withFc_setFig (s : State) (f : Nat) (g : Figure) : s.withFc (s.fc.setFig f g) = s.withFigure f g := rfl

@[simp] theorem Fc.fig_setFig_self (x : Fc) (f : Nat) (g : Figure) : (x.setFig f g).fig f = g := Tbl.get_set_self ..

theorem Fc.fig_setFig_of_ne (x : Fc) {f k : Nat} (g : Figure) (h : f ≠ k) : (x.setFig f g).fig k = x.fig k :=
  Tbl.get_set_of_ne _ _ _ h

@[simp] theorem Fc.fig_note (x : Fc) (k code : Nat) (data : List Byte) : (x.note code data).fig k = x.fig k := rfl

@[simp] theorem Fc.fig_post (x : Fc) (k port : Nat) (ws : List Word) : (x.post port ws).fig k = x.fig k := rfl

@[simp] theorem State.fig_withFc (s : State) (x : Fc) (k : Nat) : (s.withFc x).seqr.figs.get Figure.reset k = x.fig k := rfl

/-- An engine in FAULT (R435). -/
def Figure.faulted (g : Figure) (cause : BitVec 4) : Figure :=
  { g.cancel with stat := .fault, timers := [], result := 4, cause := cause }

@[simp] theorem Fc.fig_fault (x : Fc) (f : Nat) (g : Figure) (cause : BitVec 4) : (x.fault f g cause).fig f = g.faulted cause :=
  x.fig_setFig_self f (g.faulted cause)

theorem FigTimer.rem_of_notRunning {t : FigTimer} {dev : Nat} (h : ∀ u, t ≠ .running u) : t.rem dev = 0 := by
  cases t with
  | running u => exact absurd rfl (h u)
  | stopped | expired => rfl

/-! ### Going on (R425) -/

variable {x : Fc} {f : Nat} {g : Figure}

theorem Fc.goto_of_below (h : g.since < x.env.SEQ_FSTEPMAX f) (pc : BitVec 12) : x.goto f g pc = x.setFig f { g with pc := pc } := by
  rw [Fc.goto, Fc.runaway, if_neg (by simpa using h)]

theorem Fc.goto_of_runaway (h : x.env.SEQ_FSTEPMAX f ≤ g.since) (pc : BitVec 12) : x.goto f g pc = x.fault f g 2 := by
  rw [Fc.goto, Fc.runaway, if_pos (by simpa using h)]

/-- Both sides of a branch go on, each at its own place. -/
theorem Fc.goto_ite (b : Bool) (pc pc' : BitVec 12) :
    (if b then x.goto f g pc else x.goto f g pc') = x.goto f g (if b then pc else pc') := by cases b <;> rfl

/-! ### The step at PC -/

section
variable {s : State} {f : Nat} {run : FigStep → Option (Fc → Figure → Fc)} {st : FigStep} {act : Fc → Figure → Fc}

theorem State.figStep_of_idle (bad : Bool) (h : s.figRuns f = false ∨ (s.seqr.figs.get Figure.reset f).executes = false) :
    s.figStep f bad run = s := by
  have hcond : (s.figRuns f && (s.fc.fig f).executes) = false := by
    rw [Bool.and_eq_false_iff]; exact h
  simp only [State.figStep, hcond, Bool.false_eq_true, if_false]

variable (hruns : s.figRuns f = true) (hexecutes : (s.seqr.figs.get Figure.reset f).executes = true)
  (hstep : (s.seqr.figs.get Figure.reset f).step = some st) (hrun : run st = some act)
include hruns hexecutes hstep hrun

theorem State.figStep_of_step :
    s.figStep f false run = s.withFc (act s.fc (s.seqr.figs.get Figure.reset f).counted) := by
  have hstep' : (s.fc.fig f).step = some st := hstep
  have hexecutes' : (s.fc.fig f).executes = true := hexecutes
  simp only [State.figStep, hruns, hexecutes', hstep', hrun, Bool.and_self, if_true, Bool.false_eq_true, if_false]
  rfl

theorem State.figStep_of_badWord :
    s.figStep f true run = s.withFc (s.fc.fault f (s.seqr.figs.get Figure.reset f) 5) := by
  have hstep' : (s.fc.fig f).step = some st := hstep
  have hexecutes' : (s.fc.fig f).executes = true := hexecutes
  simp only [State.figStep, hruns, hexecutes', hstep', hrun, Bool.and_self, if_true]
  rfl

/-- A step that ends goes on where it says. -/
theorem State.figStep_goes {h : Figure} {pc : BitVec 12}
    (hact : act s.fc (s.seqr.figs.get Figure.reset f).counted = s.fc.goto f h pc) (hbelow : h.since < s.SEQ_FSTEPMAX f) :
    s.figStep f false run = s.withFigure f { h with pc := pc } := by
  rw [State.figStep_of_step hruns hexecutes hstep hrun, hact, Fc.goto_of_below hbelow]
  rfl

end

/-- Settles O39: a step that runs ends in `goto`, which sets PC where STEPMAX is not reached (R425); the faults of CALL, RET, RUNAWAY
and STORE are read off the engine's FAULT. -/
theorem figureStepsComputeAndBranch : Obligations.FigureStepsComputeAndBranch := by
  unfold Obligations.FigureStepsComputeAndBranch
  intro s f g c with_ put r sat cond
  have hsat (x : Int) : satWord x = sat x := satWord_eq x
  refine ⟨fun hruns hx hbelow => ?_, fun hruns hx hstep hmax => ?_, fun hruns hx hstep => ?_, fun bad hidle i hi => ?_⟩
  · have goes {run st act h pc t} (hstep : g.step = some st) (hrun : run st = some act)
        (hact : act s.fc c = s.fc.goto f.val h pc) (hsince : h.since = g.since + 1) (ht : with_ { h with pc := pc } = t) :
        Host.Outcome.next (φ := Fault) (ρ := Refusal) (s.figStep f.val false run) = .next t :=
      congrArg _ ((State.figStep_goes hruns hx hstep hrun hact (hsince ▸ hbelow)).trans ht)
    have stops {i run st act P} (hexec : exec i s = .next (s.figStep f.val false run)) (hstep : g.step = some st)
        (hrun : run st = some act) (hP : P (s.withFc (act s.fc c))) : Completes i s P :=
      ⟨_, hexec.trans (congrArg _ (State.figStep_of_step hruns hx hstep hrun)), hP⟩
    refine ⟨fun h => goes h rfl rfl rfl rfl, fun rd imm h => goes h rfl rfl rfl rfl, fun rd lit h => goes h rfl rfl rfl rfl,
      fun rd ra h => goes h rfl rfl rfl rfl, fun rd ra rb h => hsat _ ▸ goes h rfl rfl rfl rfl,
      fun rd ra rb h => hsat _ ▸ goes h rfl rfl rfl rfl, fun rd ra imm h => hsat _ ▸ goes h rfl rfl rfl rfl,
      fun rd ra rb h => goes h rfl rfl rfl rfl, fun rd ra rb h => goes h rfl rfl rfl rfl, fun rd ra rb h => goes h rfl rfl rfl rfl,
      fun rd ra n h => goes h rfl rfl rfl rfl, fun rd ra n h => goes h rfl rfl rfl rfl, fun rd ra n h => goes h rfl rfl rfl rfl,
      fun k ra rb t h => goes h rfl (Fc.goto_ite ..) rfl rfl, fun k ra imm t h => goes h rfl (Fc.goto_ite ..) rfl rfl,
      fun t h => goes h rfl rfl rfl rfl, 
      fun t h hroom => goes h rfl (if_neg (show ¬ 8 ≤ c.stack.length from Nat.not_le.mpr hroom)) rfl rfl, ?_, ?_, ?_,
      fun rd h => goes h rfl rfl rfl rfl, ?_, ?_⟩
    · intro t h hfull
      refine stops rfl h rfl ?_
      rw [if_pos (show 8 ≤ c.stack.length from hfull.ge)]
      simp only [State.fig_withFc, Fc.fig_fault]
      exact ⟨rfl, rfl, rfl, rfl⟩
    · intro a rest h hstack
      exact goes h rfl (by rw [show c.stack = a :: rest from hstack]) rfl rfl
    · intro h hstack
      refine stops rfl h rfl ?_
      rw [show c.stack = [] from hstack]
      simp only [State.fig_withFc, Fc.fig_fault]
      exact ⟨rfl, rfl⟩
    · intro rd t u h htimer
      rw [show put rd (BitVec.ofNat 32 (u - s.dev)) 1 = put rd (BitVec.ofNat 32 ((g.timer t.toNat).rem s.dev)) 1 by
        rw [Figure.timer, htimer, FigTimer.rem]]
      exact goes h rfl rfl rfl rfl
    · intro rd t h htimer
      rw [show put rd 0 1 = put rd (BitVec.ofNat 32 ((g.timer t.toNat).rem s.dev)) 1 by
        rw [Figure.timer, FigTimer.rem_of_notRunning htimer]; rfl]
      exact goes h rfl rfl rfl rfl
  · refine ⟨_, congrArg Host.Outcome.next (State.figStep_of_step hruns hx hstep rfl), ?_⟩
    rw [Fc.next, Fc.goto_of_runaway hmax]
    simp only [State.fig_withFc, Fc.fig_fault]
    exact ⟨rfl, rfl⟩
  · refine ⟨_, congrArg Host.Outcome.next (State.figStep_of_badWord hruns hx hstep rfl), ?_⟩
    simp only [State.fig_withFc, Fc.fig_fault]
    exact ⟨rfl, rfl, rfl⟩
  · simp only [List.mem_cons, List.not_mem_nil, or_false] at hi
    have hkept (run) : s.figStep f.val bad run = s := State.figStep_of_idle bad hidle
    rcases hi with rfl | rfl | rfl | rfl | rfl | rfl | rfl | rfl | rfl | rfl | rfl | rfl | rfl | rfl | rfl | rfl | rfl | rfl |
      rfl | rfl | rfl | rfl | rfl | rfl | rfl | rfl | rfl | rfl | rfl <;> exact congrArg Host.Outcome.next (hkept _)

end Sys2Proof.Machine
end

section
/-! SUPPORT. The queue operations leave the device time (R193, R194). -/

namespace Sys2Proof.Machine

theorem Qf.parityErrors_dev (n k : Nat) (x : Qf) : (x.parityErrors n k).dev = x.dev := by
  induction k generalizing x with
  | zero => rfl
  | succ k ih => exact ih _

theorem Qf.push_dev (x : Qf) (p : StagePort) (broken : Bool) : (x.push p broken).dev = x.dev := by
  unfold Qf.push
  simp only []
  split
  · rfl
  · split
    · rfl
    · split
      · rfl
      · exact Qf.parityErrors_dev ..

theorem Qf.takeStaged_dev (x : Qf) (code : Nat) : (x.takeStaged code).2.dev = x.dev := by
  have hstage (y : Qf) : (y.stagePort code).dev = y.dev := y.push_dev _ _
  unfold Qf.takeStaged
  simp only []
  split
  · exact hstage x
  · exact (hstage _).trans (hstage x)

theorem Qf.takeItem_dev (x : Qf) (code : Nat) : (x.takeItem code).2.dev = x.dev := x.takeStaged_dev code

end Sys2Proof.Machine
end

section
/-! SUPPORT. A table written twice at one key. -/

namespace Sys2Proof

variable {α : Type}

theorem Tbl.insert_insert (t : Tbl α) (k : Nat) (v w : α) : Tbl.insert (Tbl.insert t k v) k w = Tbl.insert t k w := by
  induction t with
  | nil => simp [Tbl.insert]
  | cons e t ih =>
    obtain ⟨i, u⟩ := e
    simp only [Tbl.insert]
    split
    · simp [Tbl.insert]
    · split
      · simp [Tbl.insert, *]
      · simp [Tbl.insert, *]

theorem Tbl.filter_insert (t : Tbl α) (k : Nat) (v : α) :
    (Tbl.insert t k v).filter (fun e => e.1 != k) = t.filter fun e => e.1 != k := by
  induction t with
  | nil => simp [Tbl.insert]
  | cons e t ih =>
    obtain ⟨i, u⟩ := e
    simp only [Tbl.insert]
    split
    · simp
    · split
      · next h => simp [h]
      · simp [List.filter_cons, ih]

/-- The second write stands, whatever table the first one, of a value that is not the default, met. -/
theorem Tbl.set_set [DecidableEq α] (t : Tbl α) (d : α) (k : Nat) {v : α} (w : α) (h : v ≠ d) :
    Tbl.set (Tbl.set t d k v) d k w = Tbl.set t d k w := by
  rw [show Tbl.set t d k v = Tbl.insert t k v from if_neg h]
  by_cases hw : w = d
  · rw [Tbl.set, if_pos hw, Tbl.set, if_pos hw, Tbl.filter_insert]
  · rw [Tbl.set, if_neg hw, Tbl.set, if_neg hw, Tbl.insert_insert]

end Sys2Proof
end

section
/-! SUPPORT. A figure engine is started, aborted, cleared, signalled and resumed, and an island serves its requests (R415, R422 to
R424, R429 to R431, R435 to R439). -/

namespace Sys2Proof.Machine

section
variable {s : State} {f : Nat} {w : Word}

/-! ### Writes of SEQ_FCTL (R415, R436, R437, R440) -/

theorem State.writeSeqFctl_of_tile (h : s.figTile f = true) (w : Word) : s.writeSeqFctl f w = s.withFc (s.fc.writeFctl f w) := if_pos h

theorem State.writeSeqFctl_of_noTile (h : s.figTile f = false) (w : Word) : s.writeSeqFctl f w = s := if_neg (by simp [h])

theorem getLsbD_or_of_clear {v : Word} {i : Nat} (h : v.getLsbD i = false) : (w ||| v).getLsbD i = w.getLsbD i := by
  rw [BitVec.getLsbD_or, h, Bool.or_false]

theorem getLsbD_or_of_set {v : Word} {i : Nat} (h : v.getLsbD i = true) : (w ||| v).getLsbD i = true := by
  rw [BitVec.getLsbD_or, h, Bool.or_true]

theorem Fc.writeFctl_start (x : Fc) (h1 : w.getLsbD 1 = false) (h2 : w.getLsbD 2 = false) : x.writeFctl f (w ||| 1) =
    x.start f (if w.getLsbD 28 then w.extractLsb' 16 12 else BitVec.ofNat 12 (x.env.SEQ_FCFG_ENTRY f)) := by
  have hentry : (w ||| 1).extractLsb' 16 12 = w.extractLsb' 16 12 := by
    refine BitVec.eq_of_getLsbD_eq fun i hi => ?_
    simp [hi]
  simp only [Fc.writeFctl, getLsbD_or_of_clear (show (1 : Word).getLsbD 1 = false from rfl),
    getLsbD_or_of_clear (show (1 : Word).getLsbD 2 = false from rfl), getLsbD_or_of_clear (show (1 : Word).getLsbD 28 = false from rfl),
    getLsbD_or_of_set (show (1 : Word).getLsbD 0 = true from rfl), h1, h2, hentry, Bool.false_eq_true, if_false, if_true]

theorem Fc.writeFctl_abort (x : Fc) (h0 : w.getLsbD 0 = false) (h2 : w.getLsbD 2 = false) : x.writeFctl f (w ||| 2) = x.abort f := by
  simp only [Fc.writeFctl, getLsbD_or_of_set (show (2 : Word).getLsbD 1 = true from rfl),
    getLsbD_or_of_clear (show (2 : Word).getLsbD 2 = false from rfl), getLsbD_or_of_clear (show (2 : Word).getLsbD 0 = false from rfl),
    h0, h2, Bool.false_eq_true, if_false, if_true]

theorem Fc.writeFctl_clrflt (x : Fc) (h0 : w.getLsbD 0 = false) (h1 : w.getLsbD 1 = false) : x.writeFctl f (w ||| 4) = x.clrflt f := by
  simp only [Fc.writeFctl, getLsbD_or_of_set (show (4 : Word).getLsbD 2 = true from rfl),
    getLsbD_or_of_clear (show (4 : Word).getLsbD 1 = false from rfl), getLsbD_or_of_clear (show (4 : Word).getLsbD 0 = false from rfl),
    h0, h1, Bool.false_eq_true, if_false, if_true]

end

/-! ### START, ABORT and CLRFLT of one engine -/

section
variable (x : Fc) {f : Nat}

theorem Fc.fig_start_of_idle (entry : BitVec 12) (hidle : (x.fig f).stat = .idle) (hq : x.env.quarantined (6 + f) = false) :
    (x.start f entry).fig f = { x.fig f with
      stat := .running, pc := entry, stack := [], timers := [], flags := 0, steps := 0, since := 0, cause := 0, waiting := .none } := by
  simp [Fc.start, hidle, hq]

theorem Fc.start_of_busy (entry : BitVec 12) (h : (x.fig f).stat ≠ .idle) :
    x.start f entry = x.setFig f { x.fig f with result := 5 } := by
  simp [Fc.start, h]

theorem Fc.fig_abort_of_handler (h : (x.fig f).stat = .running) (hen : x.env.SEQ_FCFG_ABORTEN f = 1) :
    (x.abort f).fig f = { (x.fig f).cancel with
      stat := .aborting, stack := [], timers := [], pc := BitVec.ofNat 12 (x.env.SEQ_FCFG_ABORTPC f) } := by
  simp [Fc.abort, h, hen]

theorem Fc.fig_abort_of_noHandler (h : (x.fig f).stat = .running) (hen : x.env.SEQ_FCFG_ABORTEN f = 0) :
    (x.abort f).fig f = { (x.fig f).cancel with stat := .idle, result := 2 } := by
  simp [Fc.abort, Fc.noteEnd, h, hen]

theorem Fc.abort_of_idle (h : (x.fig f).stat = .idle) : x.abort f = x.setFig f { x.fig f with result := 3 } := by
  simp [Fc.abort, h]

theorem Fc.clrflt_of_fault (h : (x.fig f).stat = .fault) : x.clrflt f = x.setFig f { x.fig f with stat := .idle } := by
  simp [Fc.clrflt, h]

theorem Fc.setFig_setFig (x : Fc) (f : Nat) {g : Figure} (h : Figure) (hg : g ≠ Figure.reset) :
    (x.setFig f g).setFig f h = x.setFig f h := by
  simp only [Fc.setFig, Tbl.set_set _ _ _ _ hg]

theorem Figure.cancel_of_free {g : Figure} (h : g.waiting = .none) : g.cancel = g := by
  rw [Figure.cancel, ← h]

theorem Figure.resume_of_waiting {g : Figure} (h : g.stat = .waiting) : g.resume = { g with waiting := .none, stat := .running } := by
  simp [Figure.resume, h]

end

/-! ### Waits and timers (R422 to R424) -/

theorem Fc.waitHolds_congr {x y : Fc} (f : Nat) (g : Figure) (k : WaitKind) (arg : BitVec 8) (hfabric : x.qf.fabric = y.qf.fabric)
    (hline : x.seqr.inLvl = y.seqr.inLvl) (hdev : x.env.dev = y.env.dev) : x.waitHolds f g k arg = y.waitHolds f g k arg := by
  cases k <;> simp only [Fc.waitHolds, hfabric, hline, hdev]

theorem Fc.waitAgain_of_wait {x : Fc} {f : Nat} {k arg tm e} (hw : (x.fig f).waiting = .wait)
    (hstep : (x.fig f).step = some (.wait k arg tm e)) : x.waitAgain f = x.waitStep f (x.fig f) k arg tm e := by
  simp only [Fc.waitAgain, hw, hstep]

theorem Fc.waitAgain_of_other {x : Fc} {f : Nat} (h : (x.fig f).waiting ≠ .wait) : x.waitAgain f = x := by
  simp only [Fc.waitAgain]
  split
  · next hw _ => exact absurd hw h
  · rfl

theorem Fc.waitStep_of_holds {x : Fc} {f : Nat} {g : Figure} {k arg} (tm : BitVec 4) (e : BitVec 12)
    (h : (x.waitView f k arg).waitHolds f g k arg = true) : x.waitStep f g k arg tm e = (x.waitView f k arg).waitDone f g k arg := if_pos h

/-- A WAIT whose condition fails leaves through ELSE where its timer has ended. -/
theorem Fc.waitStep_of_timer {x : Fc} {f : Nat} {g : Figure} {k arg} {tm : BitVec 4} (e : BitVec 12)
    (h : (x.waitView f k arg).waitHolds f g k arg = false) (htm : tm.toNat < 8)
    (hdone : (g.timer tm.toNat).done (x.waitView f k arg).env.dev = true) :
    x.waitStep f g k arg tm e = (x.waitView f k arg).goto f g.resume e := by
  simp [Fc.waitStep, h, htm, hdone]

/-- An engine whose timer `t` has ended (R424). -/
def Figure.expired (g : Figure) (t : Nat) : Figure := { g with timers := g.timers.set .stopped t .expired }

theorem Figure.timer_expired (g : Figure) (t : Nat) : (g.expired t).timer t = .expired := by
  simp only [Figure.timer, Figure.expired, Tbl.get_set_self]

theorem State.figExpire_of_running {s : State} {f t u : Nat} (h : (s.fc.fig f).timer t = .running u) : s.figExpire f t =
    s.withFc (if s.figRuns f then (s.fc.setFig f ((s.fc.fig f).expired t)).waitAgain f else s.fc.setFig f ((s.fc.fig f).expired t)) := by
  simp only [State.figExpire, h, Figure.expired]

/-! ### Register accesses (R429, R430) -/

theorem Fc.reply_of_none {x : Fc} {f i : Nat} (h : x.qf.fabric.ready (regRepIn f i) = false) : x.reply f i = x := by
  simp only [Fc.reply, x.qf.takeItem_of_not_ready h]

/-- A reply of OK to an RDREG that waits for it completes the step. -/
theorem Fc.reply_of_read {x : Fc} {f i : Nat} {rd : BitVec 4} {a v : Word} {q : Qf}
    (htake : x.qf.takeItem (regRepIn f i) = (some { words := [0, v], poison := false }, q))
    (hwait : (x.fig f).waiting = .reg) (hstep : (x.fig f).step = some (.rdreg rd a)) (hi : islandAt a.toNat = some i)
    (hstale : (x.fig f).stale.get 0 i = 0) :
    x.reply f i = Fc.next { x with qf := q } f ((x.fig f).resume.setG rd v) 2 := by
  have hfig : Fc.fig { x with qf := q } f = x.fig f := rfl
  have hisland : (x.fig f).regIsland = some i := by simp only [Figure.regIsland, hwait, hstep, hi]
  simp only [Fc.reply, htake, hfig, hstale, Nat.lt_irrefl, if_false, hisland, bne_self_eq_false, Bool.false_eq_true, hstep]
  rfl

section
variable {s : State} {f i : Nat} {it : Item} {q : Qf}

theorem State.regRequest_of_none (h : s.fabric.ready (regReqIn f i) = false) : s.regRequest f i = s := by
  simp only [State.regRequest, s.qf.takeItem_of_not_ready h]
  rfl

theorem State.regRequest_of_item (htake : s.qf.takeItem (regReqIn f i) = (some it, q)) (hpoison : it.poison = false) :
    s.regRequest f i = ((s.withQf q).serveRequest i it.words).2.post (regRepOut f i) ((s.withQf q).serveRequest i it.words).1 := by
  simp only [State.regRequest, htake, hpoison, Bool.false_eq_true, if_false]

end

section
variable {s : State} {i : Nat} {a v : Word} {r : Reg} {idx : List Nat}

theorem State.serveRequest_of_elsewhere (op : Word) (h : islandAt a.toNat ≠ some i) : s.serveRequest i [op, a, v] = ([2, 0], s) := by
  unfold State.serveRequest
  simp only [List.getD_cons_zero, List.getD_cons_succ]
  split
  · rfl
  · rw [if_pos h]

variable (hl : locate a.toNat = some (r, idx)) (hi : islandAt a.toNat = some i) (hthere : s.there a.toNat = true)
include hl hi hthere

theorem State.serveRequest_of_read (v : Word) (hr : figReadable a.toNat = true) (hside : s.queueSide r idx false = true) :
    s.serveRequest i [1, a, v] = ([0, (s.readReg r idx).1], (s.readReg r idx).2) := by
  simp [State.serveRequest, hl, hi, hthere, hr, hside]

theorem State.serveRequest_of_write {u : State} (hw : figWritable a.toNat = true) (hside : s.queueSide r idx true = true)
    (hok : s.portWrite .host r idx v = (.ok, u)) : s.serveRequest i [2, a, v] = ([0, 0], u) := by
  simp [State.serveRequest, hl, hi, hthere, hw, hside, hok]

end

/-! ### The rows of a waiting engine -/

@[simp] theorem State.fig_withFigure_self (s : State) (f : Nat) (g : Figure) :
    (s.withFigure f g).seqr.figs.get Figure.reset f = g := Tbl.get_set_self ..

section
variable {s : State} {f : Fin 4} {pads : BitVec 64}

/-- SEQ's view of a WAIT's port with the pads' levels (R195, R199, R434). -/
def State.waitingView (s : State) (f : Nat) (pads : BitVec 64) (k : WaitKind) (arg : BitVec 8) : State :=
  (s.seePads pads).withFc ((s.seePads pads).fc.waitView f k arg)

theorem exec_waitComplete : exec (.waitComplete f pads) s =
    .next (if s.figRuns f.val then (s.seePads pads).withFc ((s.seePads pads).fc.waitAgain f.val) else s.seePads pads) := rfl

theorem exec_figureTimerExpire (n : Fin 8) :
    exec (.figureTimerExpire f n pads) s = .next ((s.seePads pads).figExpire f.val n.val) := rfl

theorem exec_regReply (i : Island) : exec (.regReply f i) s =
    .next (if s.figRuns f.val then s.withFc (s.fc.reply f.val (islandNum i)) else s) := rfl

theorem exec_regTimeout : exec (.regTimeout f) s =
    .next (if s.figRuns f.val && (s.fc.fig f.val).waiting == .reg then s.withFc (s.fc.fault f.val (s.fc.fig f.val) 3) else s) := rfl

theorem exec_regRequest (i : Island) : exec (.regRequest f i) s =
    .next (if s.runs i then s.regRequest f.val (islandNum i) else s) := rfl

theorem waitComplete_of_holds {k arg tm e} (hruns : s.figRuns f.val = true) (hw : (s.fc.fig f.val).waiting = .wait)
    (hstat : (s.fc.fig f.val).stat = .waiting) (hstep : (s.fc.fig f.val).step = some (.wait k arg tm e))
    (hholds : (s.waitingView f.val pads k arg).fc.waitHolds f.val (s.fc.fig f.val) k arg = true) :
    exec (.waitComplete f pads) s = .next ((s.waitingView f.val pads k arg).withFigure f.val
      { s.fc.fig f.val with
        waiting := .none, stat := .running, since := 0
        flags := if k = .evAny then (s.fc.fig f.val).flags &&& ~~~arg else (s.fc.fig f.val).flags
        pc := (s.fc.fig f.val).pc + 1 }) := by
  have hview : ((s.seePads pads).fc.waitView f.val k arg).waitHolds f.val (s.fc.fig f.val) k arg = true := by
    rw [← hholds]
    exact Fc.waitHolds_congr _ _ _ _ rfl (by cases k <;> rfl) (by cases k <;> rfl)
  have hagain : (s.seePads pads).fc.waitAgain f.val =
      ((s.seePads pads).fc.waitView f.val k arg).waitDone f.val (s.fc.fig f.val) k arg :=
    (Fc.waitAgain_of_wait (x := (s.seePads pads).fc) hw hstep).trans (Fc.waitStep_of_holds tm e hview)
  rw [exec_waitComplete, if_pos hruns, hagain, Fc.waitDone, Figure.resume_of_waiting hstat]
  rfl

theorem waitComplete_of_other (h : (s.fc.fig f.val).waiting ≠ .wait) : exec (.waitComplete f pads) s = .next (s.seePads pads) := by
  have hagain : (s.seePads pads).fc.waitAgain f.val = (s.seePads pads).fc := Fc.waitAgain_of_other h
  rw [exec_waitComplete, hagain, State.withFc_fc, ite_self]

theorem figureTimerExpire_of_free {n : Fin 8} {u : Nat} (htimer : (s.fc.fig f.val).timer n.val = .running u)
    (hfree : (s.fc.fig f.val).waiting = .none) : exec (.figureTimerExpire f n pads) s =
      .next ((s.seePads pads).withFigure f.val ((s.fc.fig f.val).expired n.val)) := by
  rw [exec_figureTimerExpire, State.figExpire_of_running (s := s.seePads pads) htimer, Fc.waitAgain_of_other, ite_self]
  · rfl
  · rw [Fc.fig_setFig_self]
    exact fun h => nomatch hfree.symm.trans h

/-- A WAIT on a line at 0 leaves through ELSE as its timer ends (R423). -/
theorem figureTimerExpire_of_lineWait {n : Fin 8} {u : Nat} {arg tm e} (hruns : s.figRuns f.val = true)
    (htimer : (s.fc.fig f.val).timer n.val = .running u) (hw : (s.fc.fig f.val).waiting = .wait)
    (hstat : (s.fc.fig f.val).stat = .waiting) (hbelow : (s.fc.fig f.val).since < s.SEQ_FSTEPMAX f.val)
    (hstep : (s.fc.fig f.val).step = some (.wait .in1 arg tm e)) (htm : tm.toNat = n.val)
    (hline : (s.inputLines pads).getLsbD (arg.toNat % 64) = false) : exec (.figureTimerExpire f n pads) s =
      .next ((s.seePads pads).withFigure f.val
        { (s.fc.fig f.val).expired n.val with waiting := .none, stat := .running, pc := e }) := by
  let g := (s.fc.fig f.val).expired n.val
  let x : Fc := (s.seePads pads).fc.setFig f.val g
  have hg : x.fig f.val = g := Fc.fig_setFig_self ..
  have hagain : x.waitAgain f.val = x.waitStep f.val g .in1 arg tm e := by
    rw [Fc.waitAgain_of_wait (by rw [hg]; exact hw) (by rw [hg]; exact hstep), hg]
  have hdone : (g.timer tm.toNat).done x.env.dev = true := by rw [htm, Figure.timer_expired]; rfl
  have hleave : x.waitStep f.val g .in1 arg tm e = x.goto f.val g.resume e := Fc.waitStep_of_timer e hline (by omega) hdone
  have hends : x.waitAgain f.val = x.setFig f.val { g with waiting := .none, stat := .running, pc := e } := by
    rw [hagain, hleave, Figure.resume_of_waiting (g := g) hstat, Fc.goto_of_below (by exact hbelow)]
  have hg0 : g ≠ Figure.reset := by
    intro h
    have hreset : g.waiting = .none := by rw [h]; rfl
    exact nomatch hw.symm.trans hreset
  rw [exec_figureTimerExpire, State.figExpire_of_running (s := s.seePads pads) htimer, if_pos (by exact hruns)]
  exact congrArg (fun y => Host.Outcome.next ((s.seePads pads).withFc y)) (hends.trans (Fc.setFig_setFig _ _ _ hg0))

theorem regReply_of_read {i : Island} {rd : BitVec 4} {a v : Word} {q : Qf} (hruns : s.figRuns f.val = true)
    (hw : (s.fc.fig f.val).waiting = .reg) (hstat : (s.fc.fig f.val).stat = .waiting)
    (hstep : (s.fc.fig f.val).step = some (.rdreg rd a)) (hi : islandAt a.toNat = some (islandNum i))
    (hstale : (s.fc.fig f.val).stale.get 0 (islandNum i) = 0) (hbelow : (s.fc.fig f.val).since < s.SEQ_FSTEPMAX f.val)
    (htake : s.qf.takeItem (regRepIn f.val (islandNum i)) = (some { words := [0, v], poison := false }, q)) :
    exec (.regReply f i) s = .next ((s.withQf q).withFigure f.val
      { s.fc.fig f.val with
        waiting := .none, stat := .running, regs := (s.fc.fig f.val).regs.set 0 rd.toNat v, pc := (s.fc.fig f.val).pc + 2 }) := by
  rw [exec_regReply, if_pos hruns, Fc.reply_of_read (x := s.fc) htake hw hstep hi hstale, Figure.resume_of_waiting hstat, Fc.next,
    Fc.goto_of_below (by exact hbelow)]
  rfl

theorem regReply_of_none {i : Island} (h : s.fabric.ready (regRepIn f.val (islandNum i)) = false) :
    exec (.regReply f i) s = .next s := by
  rw [exec_regReply, Fc.reply_of_none (x := s.fc) h, State.withFc_fc, ite_self]

theorem regTimeout_of_waiting (hruns : s.figRuns f.val = true) (hw : (s.fc.fig f.val).waiting = .reg) :
    exec (.regTimeout f) s = .next (s.withFc (s.fc.fault f.val (s.fc.fig f.val) 3)) := by
  rw [exec_regTimeout, if_pos (by rw [hruns, hw]; rfl)]

theorem regTimeout_of_idle (h : s.figRuns f.val = false ∨ (s.fc.fig f.val).waiting ≠ .reg) : exec (.regTimeout f) s = .next s := by
  rw [exec_regTimeout, if_neg]
  rw [Bool.and_eq_true, beq_iff_eq]
  rintro ⟨hruns, hw⟩
  obtain h | h := h
  · exact absurd hruns (by simp [h])
  · exact h hw

theorem State.qf_withQf {q : Qf} (h : q.dev = s.dev) : (s.withQf q).qf = q := by rw [State.qf, State.withQf, ← h]

end

/-- Settles O41: a write of SEQ_FCTL acts by its bits, a waiting engine goes on as its WAIT or its reply says, and an island answers a
request by the register's access. -/
theorem figureEnginesAreControlled : Obligations.FigureEnginesAreControlled := by
  unfold Obligations.FigureEnginesAreControlled
  intro s f fig g with_ view
  have hfig : s.fc.fig f.val = g := rfl
  refine ⟨fun w htile h1 h2 hidle hq => ⟨_, rfl, ?_⟩, fun w htile h1 h2 hbusy => ?_, fun w htile h0 h2 hrun hfree hen => ⟨_, rfl, ?_⟩,
    fun w htile h0 h2 hrun hfree hen => ⟨_, rfl, ?_⟩, fun w htile h0 h2 hidle => ?_, fun w htile h0 h1 hfault => ?_,
    fun w htile c hc => ?_, fun w htile => ?_, fun pads k arg tm e hruns hw hstat hstep hholds => ?_, fun pads hw => ?_,
    fun n pads u htimer hfree => ?_, fun n pads u k arg tm e hruns htimer hw hstat hbelow hstep htm hk hline => ?_,
    fun i rd a v x hruns hw hstat hstep hi hstale hbelow htake => ?_, fun i hnone => ?_, fun hruns hw => ?_, fun hidle => ?_,
    fun i a r idx x hruns htake hl hi hthere hr hside => ?_, fun i op a v x hruns htake hi => ?_,
    fun i a v r idx x u hruns htake hl hi hthere hw hside hok => ?_, fun i hnone => ?_⟩
  · rw [s.writeSeqFctl_of_tile htile, s.fc.writeFctl_start h1 h2]
    exact s.fc.fig_start_of_idle _ hidle hq
  · refine congrArg Host.Outcome.next ?_
    rw [s.writeSeqFctl_of_tile htile, s.fc.writeFctl_start h1 h2, s.fc.start_of_busy (f := f.val) _ hbusy]
    rfl
  · rw [s.writeSeqFctl_of_tile htile, s.fc.writeFctl_abort h0 h2]
    exact (s.fc.fig_abort_of_handler hrun hen).trans (by rw [hfig, Figure.cancel_of_free hfree]; rfl)
  · rw [s.writeSeqFctl_of_tile htile, s.fc.writeFctl_abort h0 h2]
    exact (s.fc.fig_abort_of_noHandler hrun hen).trans (by rw [hfig, Figure.cancel_of_free hfree])
  · refine congrArg Host.Outcome.next ?_
    rw [s.writeSeqFctl_of_tile htile, s.fc.writeFctl_abort h0 h2, s.fc.abort_of_idle (f := f.val) hidle]
    rfl
  · refine congrArg Host.Outcome.next ?_
    rw [s.writeSeqFctl_of_tile htile, s.fc.writeFctl_clrflt h0 h1, s.fc.clrflt_of_fault (f := f.val) hfault]
    rfl
  · simp only [List.mem_cons, List.not_mem_nil, or_false] at hc
    rcases hc with rfl | rfl | rfl | rfl
    · exact congrArg Host.Outcome.next (s.writeSeqFctl_of_noTile htile _)
    · exact congrArg Host.Outcome.next (s.writeSeqFctl_of_noTile htile _)
    · exact congrArg Host.Outcome.next (s.writeSeqFctl_of_noTile htile _)
    · exact congrArg (fun x => Host.Outcome.next (s.withFc x)) (if_neg (ne_true_of_eq_false htile))
  · exact congrArg (fun x => Host.Outcome.next (s.withFc x)) (if_pos htile)
  · exact waitComplete_of_holds hruns hw hstat hstep hholds
  · exact waitComplete_of_other hw
  · exact figureTimerExpire_of_free htimer hfree
  · subst hk
    exact figureTimerExpire_of_lineWait hruns htimer hw hstat hbelow hstep htm hline
  · refine ⟨_, regReply_of_read hruns hw hstat hstep hi hstale hbelow htake, State.fig_withFigure_self .., State.qf_withQf ?_⟩
    exact (congrArg (fun r => r.2.dev) htake).symm.trans (s.qf.takeItem_dev _)
  · exact regReply_of_none (hnone _ (List.mem_singleton_self _))
  · refine ⟨_, regTimeout_of_waiting hruns hw, ?_⟩
    simp only [fig, State.fig_withFc, Fc.fig_fault]
    exact ⟨rfl, rfl, rfl, rfl, rfl⟩
  · exact regTimeout_of_idle hidle
  · rw [exec_regRequest, if_pos hruns, State.regRequest_of_item htake rfl, State.serveRequest_of_read hl hi hthere 0 hr hside]
    rfl
  · rw [exec_regRequest, if_pos hruns, State.regRequest_of_item htake rfl, State.serveRequest_of_elsewhere op hi]
    rfl
  · rw [exec_regRequest, if_pos hruns, State.regRequest_of_item htake rfl, State.serveRequest_of_write hl hi hthere hw hside hok]
    rfl
  · rw [exec_regRequest, State.regRequest_of_none (hnone _ (List.mem_singleton_self _)), ite_self]

end Sys2Proof.Machine
end

section
/-! SUPPORT. The scheduler's contexts: what each operation leaves of them, and where an item is handled (R382 to R387, R400, R405). -/

namespace Sys2Proof.Machine

/-! ### Where a step of the scheduler runs -/

section
variable {s : State}

theorem State.runSc_of_on (f : Sc → Sc) {ok : Bool} (h : ok = true) : s.runSc ok f = s.withSc (f s.sc) := if_pos h

theorem State.runSc_of_off (f : Sc → Sc) {ok : Bool} (h : ok = false) : s.runSc ok f = s := if_neg (ne_true_of_eq_false h)

theorem State.withSc_sc : s.withSc s.sc = s := rfl

theorem State.qf_withSc {m : Sc} (h : m.qf.dev = s.dev) : (s.withSc m).qf = m.qf := by rw [State.qf, State.withSc, ← h]

/-- The scheduler takes calls (R371, R405). -/
structure State.TakesCalls (s : State) : Prop where
  runs : s.schRuns = true
  mode : s.schMode ≠ 3
  active : s.sched.stat ≠ .standby

theorem State.schWorks_iff : s.schWorks = true ↔ s.TakesCalls := by
  simp only [State.schWorks, Bool.and_eq_true, bne_iff_ne]
  exact ⟨fun ⟨⟨hruns, hmode⟩, hactive⟩ => ⟨hruns, hmode, hactive⟩, fun h => ⟨⟨h.runs, h.mode⟩, h.active⟩⟩

/-- The item of row `k` as the scheduler takes it (R382). -/
def itemOfKind (it : Item) (k : Nat) : Item :=
  match it.words with
  | w :: ws => { it with words := setBits w 11 8 k :: ws }
  | [] => it

theorem State.callOf_of_taken (h : s.TakesCalls) (it : Item) (k : Nat) : s.callOf it k = s.withSc (s.sc.call (itemOfKind it k)) := by
  rw [State.callOf, State.runSc_of_on _ (by rw [h.runs, bne_iff_ne.mpr h.mode]; rfl)]
  exact congrArg s.withSc (if_neg (by rw [beq_iff_eq]; exact h.active))

theorem State.callOf_of_standby (hruns : s.schRuns = true) (hmode : s.schMode ≠ 3) (h : s.sched.stat = .standby) (it : Item) (k : Nat) :
    s.callOf it k = { s with sched := { s.sched with ignored := satInc s.sched.ignored } } := by
  rw [State.callOf, State.runSc_of_on _ (by rw [hruns, bne_iff_ne.mpr hmode]; rfl)]
  exact congrArg s.withSc (if_pos (by rw [beq_iff_eq]; exact h))

theorem State.callOf_of_absent (h : s.schRuns = false ∨ s.schMode = 3) (it : Item) (k : Nat) : s.callOf it k = s := by
  refine State.runSc_of_off _ ?_
  obtain h | h := h
  · rw [h, Bool.false_and]
  · simp [h]

end

/-! ### What an operation leaves of the contexts -/

section
variable (m : Sc) (i : Nat) (x : Ctx)

@[simp] theorem Sc.sched_post (port : Nat) (ws : List Word) : (m.post port ws).sched = m.sched := rfl
@[simp] theorem Sc.sched_note (code : Nat) (data : List Byte) : (m.note code data).sched = m.sched := rfl
@[simp] theorem Sc.env_post (port : Nat) (ws : List Word) : (m.post port ws).env = m.env := rfl
@[simp] theorem Sc.env_note (code : Nat) (data : List Byte) : (m.note code data).env = m.env := rfl
@[simp] theorem Sc.sched_event (tag : BitVec 8) (ev detail floor idx : Nat) (car : Option Nat) (w2 : Nat) :
    (m.event tag ev detail floor idx car w2).sched = m.sched := rfl
@[simp] theorem Sc.sched_refuse (tag : BitVec 8) (detail floor : Nat) : (m.refuse tag detail floor).sched = m.sched := rfl
@[simp] theorem Sc.sched_ctxEvent (ev detail w2 : Nat) : (m.ctxEvent i x ev detail w2).sched = m.sched := rfl
@[simp] theorem Sc.sched_stopItem (f count : Nat) : (m.stopItem f count).sched = m.sched := rfl

@[simp] theorem Sc.sched_tell (c op : Nat) (tts : Word) : (m.tell c op i x tts).sched = m.sched := by
  unfold Sc.tell; split <;> rfl

@[simp] theorem Sc.sched_grant (live : Bool) :
    (m.grant i x live).sched = { m.sched with grantCount := m.sched.grantCount + 1 } := rfl

theorem Sc.ctx_congr {m n : Sc} (h : m.sched.ctxs = n.sched.ctxs) (j : Nat) : m.ctx j = n.ctx j := by rw [Sc.ctx, Sc.ctx, h]

@[simp] theorem Sc.ctx_stopItem (f count j : Nat) : (m.stopItem f count).ctx j = m.ctx j := rfl
@[simp] theorem Sc.ctx_note (code : Nat) (data : List Byte) (j : Nat) : (m.note code data).ctx j = m.ctx j := rfl
@[simp] theorem Sc.ctx_event (tag : BitVec 8) (ev detail floor idx : Nat) (car : Option Nat) (w2 j : Nat) :
    (m.event tag ev detail floor idx car w2).ctx j = m.ctx j := rfl
@[simp] theorem Sc.ctx_ctxEvent (ev detail w2 j : Nat) : (m.ctxEvent i x ev detail w2).ctx j = m.ctx j := rfl
@[simp] theorem Sc.ctx_grant (live : Bool) (j : Nat) : (m.grant i x live).ctx j = m.ctx j := rfl
@[simp] theorem Sc.ctx_tell (c op : Nat) (tts : Word) (j : Nat) : (m.tell c op i x tts).ctx j = m.ctx j :=
  Sc.ctx_congr (by rw [Sc.sched_tell]) j

@[simp] theorem Sc.ctx_setCtx_self (c : Option Ctx) : (m.setCtx i c).ctx i = c :=
  (Tbl.get_set m.sched.ctxs none i i c).trans (if_pos rfl)

theorem Sc.ctx_setCtx_of_ne {j : Nat} (c : Option Ctx) (h : j ≠ i) : (m.setCtx i c).ctx j = m.ctx j :=
  Tbl.get_set_of_ne _ _ _ h.symm

/-- A context made in the lowest free place. -/
theorem Sc.create_of_free {i : Nat} (h : (List.range 1024).find? (fun i => (m.ctx i).isNone) = some i) :
    m.create x = some (i, Sc.setCtx { m with sched := { m.sched with nextOrder := m.sched.nextOrder + 1 } } i
      (some { x with order := m.sched.nextOrder + 1 })) := by
  unfold Sc.create
  generalize (List.range 1024).find? (fun i => (m.ctx i).isNone) = o at h ⊢
  subst h
  rfl

/-! ### The end of a session (R400) -/

/-- A LIVE session that ends stays, ended, until its car departs. -/
theorem Sc.ctx_endSession_of_live (detail j : Nat) (h : x.stat = .live) :
    (m.endSession i x detail).ctx j = (m.setCtx i (some { x with ended := true })).ctx j := by
  rw [Sc.endSession, if_pos (by rw [h]; rfl)]
  refine Sc.ctx_congr ?_ j
  split <;> split <;> simp [Sc.setCtx]

/-- A session that is not LIVE frees when it ends. -/
theorem Sc.ctx_endSession_of_not_live (detail j : Nat) (h : x.stat ≠ .live) :
    (m.endSession i x detail).ctx j = (m.setCtx i none).ctx j := by
  rw [Sc.endSession, if_neg (by rwa [beq_iff_eq])]
  refine Sc.ctx_congr ?_ j
  split <;> simp [Sc.setCtx]

end

/-! ### A call item of a kind (R382, R383) -/

/-- The fields that no kind of call item uses are 0 (R382). -/
structure ClearFields (w0 w1 : Word) : Prop where
  low  : getBits w0 15 12 = 0
  high : getBits w0 31 28 = 0
  tail : getBits w1 31 16 = 0

/-- Setting the kind of a call item leaves its other fields. -/
theorem getBits_setKind (w0 : Word) (k : Nat) {hi lo : Nat} (hle : lo ≤ hi) (h : hi < 8 ∨ 11 < lo) :
    getBits (setBits w0 11 8 k) hi lo = getBits w0 hi lo :=
  getBits_setBits_of_disjoint w0 (by decide) hle h

/-- A well-formed item of kind `k` (R382), its words `w0` with that kind and `ws`. -/
structure WellFormed (k : Nat) (w0 : Word) (ws : List Word) : Prop where
  few      : k < 16
  length   : ws.length = 5
  reserved : callReserved k (setBits w0 11 8 k :: ws) = true

/-- The item of kind `k` with the words `w0` and `ws`. -/
def kindItem (k : Nat) (w0 : Word) (ws : List Word) : Item := { words := setBits w0 11 8 k :: ws, poison := false }

/-- The tag of the item. -/
def callTag (w0 : Word) : BitVec 8 := BitVec.ofNat 8 (getBits w0 7 0)

theorem callTag_toNat (w0 : Word) : (callTag w0).toNat = getBits w0 7 0 := by
  rw [callTag, BitVec.toNat_ofNat]
  exact Nat.mod_eq_of_lt (Nat.mod_lt _ (by decide))

theorem callTag_setKind (w0 : Word) (k : Nat) : callTag (setBits w0 11 8 k) = callTag w0 := by
  rw [callTag, getBits_setKind w0 k (by decide) (by decide)]
  rfl

theorem Sc.call_of_poison (m : Sc) (it : Item) (h : it.poison = true) : m.call it = m.refuse 0 0x01 0 := if_pos h

section
variable {m : Sc} {k : Nat} {w0 : Word} {ws : List Word}

/-- A hall call at a car of a group is refused (R383). -/
theorem Sc.call_hall_of_member (h : WellFormed k w0 ws) (hk : k ∈ [1, 2]) (hmem : m.env.schMember = true) :
    m.call (kindItem k w0 ws) = m.refuse (callTag w0) 0x04 (getBits w0 23 16) := by
  have hkind := getBits_kind_setBits (w0 := w0) h.few
  simp only [List.mem_cons, List.not_mem_nil, or_false] at hk
  rcases hk with rfl | rfl <;>
    simp [Sc.call, kindItem, callTag, hkind, h.length, h.reserved, hmem, getBits_setKind]

/-- A hall call at a floor that no car serves is refused (R383). -/
theorem Sc.call_hall_of_unserved (h : WellFormed k w0 ws) (hk : k ∈ [1, 2]) (hmem : m.env.schMember = false)
    (hno : ∀ car ∈ m.env.carList, m.env.served car (getBits w0 23 16) = false) :
    m.call (kindItem k w0 ws) = m.refuse (callTag w0) 0x03 (getBits w0 23 16) := by
  have hkind := getBits_kind_setBits (w0 := w0) h.few
  simp only [List.mem_cons, List.not_mem_nil, or_false] at hk
  rcases hk with rfl | rfl <;>
    simpa [Sc.call, kindItem, callTag, hkind, h.length, h.reserved, hmem, getBits_setKind] using
      fun car hcar hyes => absurd (hno car hcar) (ne_false_of_eq_true hyes)

/-- A hall call that passes the checks. -/
theorem Sc.call_hall_of_served {kind : CtxKind} (h : WellFormed k w0 ws) (hk : (k, kind) ∈ [(1, CtxKind.hallUp), (2, .hallDn)])
    (hmem : m.env.schMember = false) (hyes : ∃ car ∈ m.env.carList, m.env.served car (getBits w0 23 16) = true) :
    m.call (kindItem k w0 ws) = m.callItem kind (getBits w0 23 16) none (setBits w0 11 8 k :: ws) := by
  have hkind := getBits_kind_setBits (w0 := w0) h.few
  simp only [List.mem_cons, List.not_mem_nil, or_false, Prod.mk.injEq] at hk
  obtain ⟨car, hcar, hserved⟩ := hyes
  have hany : (m.env.carList.any fun c => m.env.served c (getBits w0 23 16)) = true := List.any_eq_true.mpr ⟨car, hcar, hserved⟩
  rcases hk with ⟨rfl, rfl⟩ | ⟨rfl, rfl⟩ <;>
    simp [Sc.call, kindItem, hkind, h.length, h.reserved, hmem, hany, getBits_setKind]

/-- A car call of an OWN_CAR scheduler that passes the checks. -/
theorem Sc.call_car_of_served (h : WellFormed 3 w0 ws) (hmode : m.env.schMode = 1)
    (hyes : m.env.served m.env.SCH_CTL_OWNCAR (getBits w0 23 16) = true) :
    m.call (kindItem 3 w0 ws) =
      m.callItem .car (getBits w0 23 16) (some m.env.SCH_CTL_OWNCAR) (setBits w0 11 8 3 :: ws) := by
  have hkind := getBits_kind_setBits (w0 := w0) h.few
  simp [Sc.call, kindItem, hkind, h.length, h.reserved, hmode, hyes, getBits_setKind]

/-- A cancel that passes the checks. -/
theorem Sc.call_cancel_of_served (h : WellFormed 5 w0 ws)
    (hyes : ∃ car ∈ m.env.carList, m.env.served car (getBits w0 23 16) = true) :
    m.call (kindItem 5 w0 ws) = m.cancel (getBits w0 23 16) (setBits w0 11 8 5 :: ws) := by
  have hkind := getBits_kind_setBits (w0 := w0) h.few
  obtain ⟨car, hcar, hserved⟩ := hyes
  have hany : (m.env.carList.any fun c => m.env.served c (getBits w0 23 16)) = true := List.any_eq_true.mpr ⟨car, hcar, hserved⟩
  simp [Sc.call, kindItem, hkind, h.length, h.reserved, hany, getBits_setKind]

/-- A session item that passes the checks: it gives a token, and some car serves its floor. -/
theorem Sc.call_session_of_served {w1 life st a b : Word} (h : WellFormed k w0 [w1, life, st, a, b]) (hk : k ∈ [4, 6, 7])
    (htok : ¬ (a = 0 ∧ b = 0))
    (hyes : ∃ car ∈ m.env.carList, m.env.served car (getBits w0 23 16) = true) :
    m.call (kindItem k w0 [w1, life, st, a, b]) =
      if k = 4 then m.sessionOpen (getBits w0 23 16) [setBits w0 11 8 k, w1, life, st, a, b]
      else m.sessionChange (k == 6) (getBits w0 23 16) [setBits w0 11 8 k, w1, life, st, a, b] := by
  have hkind := getBits_kind_setBits (w0 := w0) h.few
  obtain ⟨car, hcar, hserved⟩ := hyes
  have hany : (m.env.carList.any fun c => m.env.served c (getBits w0 23 16)) = true := List.any_eq_true.mpr ⟨car, hcar, hserved⟩
  simp only [List.mem_cons, List.not_mem_nil, or_false] at hk
  rcases hk with rfl | rfl | rfl <;>
    simpa [Sc.call, kindItem, hkind, h.reserved, hany, getBits_setKind] using fun ha hb => absurd ⟨ha, hb⟩ htok

end

/-! ### What the accepted items do -/

section
variable {m : Sc} {w0 : Word} {ws : List Word}

/-- A hall or car call that an open context answers merges with it (R384). -/
theorem Sc.callItem_of_open {kind : CtxKind} {floor : Nat} {car : Option Nat} {e : Nat × Ctx}
    (h : (m.sched.open_.find? fun e => e.2.kind == kind && e.2.floor == floor && (kind != .car || e.2.car == car)) = some e) :
    m.callItem kind floor car (w0 :: ws) = m.event (callTag w0) 0x02 0 floor e.1 e.2.car 0 := by
  rw [Sc.callItem, h]
  rfl

/-- Any other opens a context in the lowest free place (R384). -/
theorem Sc.callItem_of_new {kind : CtxKind} {floor i : Nat} {car : Option Nat}
    (h : (m.sched.open_.find? fun e => e.2.kind == kind && e.2.floor == floor && (kind != .car || e.2.car == car)) = none)
    (hfree : (List.range 1024).find? (fun i => (m.ctx i).isNone) = some i) :
    m.callItem kind floor car (w0 :: ws) =
      (Sc.setCtx { m with sched := { m.sched with nextOrder := m.sched.nextOrder + 1 } } i
        (some { newCtx m.env.dev kind floor car (w0 :: ws) with order := m.sched.nextOrder + 1 })).event (callTag w0) 0x01 0 floor i
          car 0 := by
  rw [Sc.callItem, h]
  have hcreate := Sc.create_of_free m (newCtx m.env.dev kind floor car (w0 :: ws)) hfree
  generalize m.create (newCtx m.env.dev kind floor car (w0 :: ws)) = o at hcreate ⊢
  subst hcreate
  rfl

end

/-! ### The rows of the call items -/

section
variable {s : State} {w0 w1 : Word}

theorem State.callOf_kindItem (h : s.TakesCalls) (ws : List Word) (k : Nat) :
    s.callOf { words := w0 :: ws, poison := false } k = s.withSc (s.sc.call (kindItem k w0 ws)) :=
  State.callOf_of_taken h _ k

/-- The words of a call event (R387). -/
def State.callEvent (s : State) (w0 : Word) (ev detail idx car : Nat) : List Word :=
  [BitVec.ofNat 32 (getBits w0 7 0 + ev * 2 ^ 8 + detail * 2 ^ 16 + getBits w0 23 16 * 2 ^ 24), BitVec.ofNat 32 (idx + car * 2 ^ 16), 0,
    lowWord s.dev]

theorem Sc.event_eq_post (m : Sc) (ev detail idx : Nat) (car : Option Nat) :
    m.event (callTag w0) ev detail (getBits w0 23 16) idx car 0 = m.post 0x0A04 (m.env.callEvent w0 ev detail idx (car.getD 0x1F)) := by
  rw [Sc.event, callTag_toNat]
  rfl

theorem State.withSc_post (port : Nat) (ws : List Word) : s.withSc (s.sc.post port ws) = s.post port ws := rfl

/-- A row whose item is answered by an event alone posts it. -/
theorem State.withSc_event (ev detail idx : Nat) (car : Option Nat) :
    s.withSc (s.sc.event (callTag w0) ev detail (getBits w0 23 16) idx car 0) =
      s.post 0x0A04 (s.callEvent w0 ev detail idx (car.getD 0x1F)) := by
  rw [Sc.event_eq_post]
  rfl

/-- A call without the fields it does not use is well formed. -/
theorem ClearFields.wellFormed (h : ClearFields w0 w1) {k : Nat} {w2 : Word} (hk : k ∈ [1, 2, 3, 5])
    (h2 : if k = 5 then getBits w2 31 4 = 0 else w2 = 0) : WellFormed k w0 [w1, w2, 0, 0, 0] := by
  obtain ⟨hlow, hhigh, htail⟩ := h
  simp only [List.mem_cons, List.not_mem_nil, or_false] at hk
  rcases hk with rfl | rfl | rfl | rfl <;>
    exact ⟨by decide, rfl, by simp_all [callReserved, getBits_setKind]⟩

/-- A session item without the fields it does not use is well formed. -/
theorem ClearFields.wellFormed_session (h : ClearFields w0 w1) {k : Nat} {life st a b : Word} (hst : getBits st 31 8 = 0)
    (hk : k ∈ [4, 6] ∨ k = 7 ∧ life = 0) : WellFormed k w0 [w1, life, st, a, b] := by
  obtain ⟨hlow, hhigh, htail⟩ := h
  simp only [List.mem_cons, List.not_mem_nil, or_false] at hk
  rcases hk with (rfl | rfl) | ⟨rfl, rfl⟩ <;>
    exact ⟨by decide, rfl, by simp_all [callReserved, getBits_setKind]⟩

/-- A new context stands in its place, registered, and its item is accepted (R384). -/
theorem State.callItem_new {k i : Nat} {kind : CtxKind} {car : Option Nat} (ws : List Word)
    (hnone : (s.sched.open_.find? fun e => e.2.kind == kind && e.2.floor == getBits w0 23 16 && (kind != .car || e.2.car == car)) = none)
    (hfree : (List.range 1024).find? (fun i => (s.sched.ctxs.get none i).isNone) = some i) :
    let t := s.withSc (s.sc.callItem kind (getBits w0 23 16) car (setBits w0 11 8 k :: ws))
    ((∃ x, t.sched.ctxs.get none i = some x ∧ x.stat = .registered ∧ x.kind = kind ∧ x.floor = getBits w0 23 16 ∧ x.car = car ∧
        x.tag = callTag w0 ∧ x.time = s.dev ∧ x.order = s.sched.nextOrder + 1) ∧
      (∀ j, j ≠ i → t.sched.ctxs.get none j = s.sched.ctxs.get none j) ∧ t.sched.nextOrder = s.sched.nextOrder + 1) ∧
      t.qf = s.qf.post 0x0A04 (s.callEvent w0 0x01 0 i (car.getD 0x1F)) := by
  intro t
  have htag := callTag_setKind w0 k
  have ht : t = s.withSc _ := congrArg s.withSc (Sc.callItem_of_new (m := s.sc) (w0 := setBits w0 11 8 k) (ws := ws) hnone hfree)
  rw [htag, Sc.event_eq_post] at ht
  rw [ht]
  refine ⟨⟨⟨_, Sc.ctx_setCtx_self .., rfl, rfl, rfl, rfl, ?_, rfl, rfl⟩, fun j hj => Sc.ctx_setCtx_of_ne _ _ _ hj, rfl⟩, ?_⟩
  · exact htag
  · exact State.qf_withSc (Qf.post_dev ..)

end

/-! ### The settled obligation of the calls -/

section
variable {s : State} {w0 w1 : Word}

/-- The hall kinds with their codes (R382). -/
def hallKinds : List (Nat × CtxKind) := [(1, .hallUp), (2, .hallDn)]

/-- The open context that answers a hall call. -/
def State.answering (s : State) (kind : CtxKind) (floor : Nat) : Option (Nat × Ctx) :=
  s.sched.open_.find? fun e => e.2.kind == kind && e.2.floor == floor

theorem State.answering_hall {k : Nat} {kind : CtxKind} (h : (k, kind) ∈ hallKinds) (floor : Nat) :
    (s.sched.open_.find? fun e => e.2.kind == kind && e.2.floor == floor && (kind != .car || e.2.car == none)) =
      s.answering kind floor := by
  simp only [hallKinds, List.mem_cons, List.not_mem_nil, or_false, Prod.mk.injEq] at h
  rcases h with ⟨rfl, rfl⟩ | ⟨rfl, rfl⟩ <;> exact congrArg (List.find? · _) (funext fun e => Bool.and_true _)

theorem mem_of_hallKinds {k : Nat} {kind : CtxKind} (h : (k, kind) ∈ hallKinds) : k ∈ [1, 2] := List.mem_map_of_mem (f := Prod.fst) h

theorem hallKinds_of_mem {kind : CtxKind} (h : kind ∈ [CtxKind.hallUp, .hallDn]) : ∃ k, (k, kind) ∈ hallKinds := by
  simp only [List.mem_cons, List.not_mem_nil, or_false] at h
  rcases h with rfl | rfl
  · exact ⟨1, by decide⟩
  · exact ⟨2, by decide⟩

/-- The code of a hall kind as word 2 of a cancel. -/
theorem hallKinds_code {k : Nat} {kind : CtxKind} (h : (k, kind) ∈ hallKinds) :
    getBits (BitVec.ofNat 32 (ctxKindCode kind)) 31 4 = 0 ∧ getBits (BitVec.ofNat 32 (ctxKindCode kind)) 3 0 = k := by
  simp only [hallKinds, List.mem_cons, List.not_mem_nil, or_false, Prod.mk.injEq] at h
  rcases h with ⟨rfl, rfl⟩ | ⟨rfl, rfl⟩ <;> decide

theorem ClearFields.wellFormed_hall (h : ClearFields w0 w1) {k : Nat} {kind : CtxKind} (hk : (k, kind) ∈ hallKinds) :
    WellFormed k w0 [w1, 0, 0, 0, 0] :=
  h.wellFormed (List.mem_append_left [3, 5] (mem_of_hallKinds hk)) (by split <;> decide)

theorem ctxKindCode_beq_iff {k : Nat} {kind : CtxKind} (h : (k, kind) ∈ hallKinds) (x : CtxKind) :
    (ctxKindCode x == k) = (x == kind) := by
  simp only [hallKinds, List.mem_cons, List.not_mem_nil, or_false, Prod.mk.injEq] at h
  rcases h with ⟨rfl, rfl⟩ | ⟨rfl, rfl⟩ <;> cases x <;> rfl

/-- The context that a cancel of a hall call names (R385). -/
theorem State.answering_cancel {k : Nat} {kind : CtxKind} (h : (k, kind) ∈ hallKinds) (floor car : Nat) :
    (s.sched.open_.find? fun e => k < 4 && ctxKindCode e.2.kind == k && e.2.floor == floor && (k != 3 || e.2.car == some car)) =
      s.answering kind floor := by
  have hcode := ctxKindCode_beq_iff h
  simp only [hallKinds, List.mem_cons, List.not_mem_nil, or_false, Prod.mk.injEq] at h
  refine congrArg (List.find? · _) (funext fun e => ?_)
  rw [hcode]
  rcases h with ⟨rfl, rfl⟩ | ⟨rfl, rfl⟩ <;> exact Bool.and_true _

/-- A cancel of a hall call: of a context that waits for its car, of one already served (R385). -/
theorem Sc.cancel_hall {k i : Nat} {kind : CtxKind} {x : Ctx} {ws : List Word} (h : (k, kind) ∈ hallKinds)
    (hans : s.answering kind (getBits w0 23 16) = some (i, x)) :
    (x.stat = .registered → x.car = none →
      s.sc.cancel (getBits w0 23 16) (setBits w0 11 8 5 :: w1 :: BitVec.ofNat 32 (ctxKindCode kind) :: ws) =
        (s.sc.setCtx i none).event (callTag w0) 0x09 0 (getBits w0 23 16) i none 0) ∧
    (x.stat = .serving →
      s.sc.cancel (getBits w0 23 16) (setBits w0 11 8 5 :: w1 :: BitVec.ofNat 32 (ctxKindCode kind) :: ws) =
        s.sc.refuse (callTag w0) 0x09 (getBits w0 23 16)) := by
  have hk := (hallKinds_code h).2
  have htag := callTag_setKind w0 5
  have hfind := fun car => (State.answering_cancel (s := s) h (getBits w0 23 16) car).trans hans
  constructor
  · intro hstat hcar
    simp only [Sc.cancel, List.getD_cons_zero, List.getD_cons_succ, hk, show s.sc.sched = s.sched from rfl, hfind, hstat, hcar]
    exact congrArg (fun tag => (s.sc.setCtx i none).event tag 0x09 0 (getBits w0 23 16) i none 0) htag
  · intro hstat
    simp only [Sc.cancel, List.getD_cons_zero, List.getD_cons_succ, hk, show s.sc.sched = s.sched from rfl, hfind, hstat]
    exact congrArg (fun tag => s.sc.refuse tag 0x09 (getBits w0 23 16)) htag

end

/-- Settles O36: of an item with the kind of its row the checks of R383 decide; then `callItem` and `cancel` say the rest. -/
theorem callItemsOpenMergeAndCancelContexts : Obligations.CallItemsOpenMergeAndCancelContexts := by
  unfold Obligations.CallItemsOpenMergeAndCancelContexts
  intro s w0 w1 ctx floor tag it event works fields isNew
  have hcall (w2 : Word) (h : works) (k : Nat) := State.callOf_kindItem (s := s) (w0 := w0) ⟨h.1, h.2.1, h.2.2⟩ [w1, w2, 0, 0, 0] k
  have hclear (h : fields) : ClearFields w0 w1 := ⟨h.1, h.2.1, h.2.2⟩
  have hhall {c : Instr} {kind : CtxKind} (h : (c, kind) ∈ [(Instr.hallUp it, CtxKind.hallUp), (Instr.hallDn it, CtxKind.hallDn)]) :
      ∃ k, (k, kind) ∈ hallKinds ∧ exec c s = .next (s.callOf it k) := by
    simp only [List.mem_cons, List.not_mem_nil, or_false, Prod.mk.injEq] at h
    rcases h with ⟨rfl, rfl⟩ | ⟨rfl, rfl⟩
    · exact ⟨1, by decide, rfl⟩
    · exact ⟨2, by decide, rfl⟩
  have hhall' {c : Instr} (h : c ∈ [Instr.hallUp it, .hallDn it]) : ∃ k kind, (k, kind) ∈ hallKinds ∧ exec c s = .next (s.callOf it k) := by
    simp only [List.mem_cons, List.not_mem_nil, or_false] at h
    rcases h with rfl | rfl
    · exact ⟨1, .hallUp, by decide, rfl⟩
    · exact ⟨2, .hallDn, by decide, rfl⟩
  have hevery {it : Item} {c : Instr} (h : c ∈ [Instr.hallUp it, .hallDn it, .carCall it, .callCancel it, .sessionOpen it,
      .sessionExtend it, .sessionClose it]) : ∃ k, exec c s = .next (s.callOf it k) := by
    simp only [List.mem_cons, List.not_mem_nil, or_false] at h
    rcases h with rfl | rfl | rfl | rfl | rfl | rfl | rfl <;> exact ⟨_, rfl⟩
  refine ⟨?_, ?_, ?_, ?_, ?_, ?_, ?_, ?_, ?_, ?_⟩
  · intro c kind i hc hworks hfields hmem hserved hnone hfree
    obtain ⟨k, hkind, hexec⟩ := hhall hc
    refine ⟨_, hexec, ?_⟩
    rw [hcall 0 hworks k, Sc.call_hall_of_served ((hclear hfields).wellFormed_hall hkind) hkind hmem hserved]
    exact State.callItem_new _ ((State.answering_hall hkind _).trans hnone) hfree
  · intro i hworks hfields hmode hserved hnone hfree
    refine ⟨_, rfl, ?_⟩
    rw [hcall 0 hworks 3, Sc.call_car_of_served ((hclear hfields).wellFormed (by decide) rfl) hmode hserved]
    exact State.callItem_new _ hnone hfree
  · intro c kind e hc hworks hfields hmem hserved hfind
    obtain ⟨k, hkind, hexec⟩ := hhall hc
    rw [hexec, hcall 0 hworks k, Sc.call_hall_of_served ((hclear hfields).wellFormed_hall hkind) hkind hmem hserved,
      Sc.callItem_of_open ((State.answering_hall hkind _).trans hfind), callTag_setKind, State.withSc_event]
    rfl
  · intro c hc hworks hfields hmem
    obtain ⟨k, kind, hkind, hexec⟩ := hhall' hc
    rw [hexec, hcall 0 hworks k, Sc.call_hall_of_member ((hclear hfields).wellFormed_hall hkind) (mem_of_hallKinds hkind) hmem]
    exact congrArg Host.Outcome.next (State.withSc_event ..)
  · intro c hc hworks hfields hmem hserved
    obtain ⟨k, kind, hkind, hexec⟩ := hhall' hc
    rw [hexec, hcall 0 hworks k, Sc.call_hall_of_unserved ((hclear hfields).wellFormed_hall hkind) (mem_of_hallKinds hkind) hmem hserved]
    exact congrArg Host.Outcome.next (State.withSc_event ..)
  · intro c hc hworks
    obtain ⟨k, hexec⟩ := hevery hc
    rw [hexec, State.callOf_of_taken ⟨hworks.1, hworks.2.1, hworks.2.2⟩, Sc.call_of_poison _ _ rfl]
    rfl
  · intro k i x hworks hfields hk hserved hfind hstat hcar
    obtain ⟨n, hkind⟩ := hallKinds_of_mem hk
    refine ⟨_, rfl, ?_⟩
    rw [hcall _ hworks 5, Sc.call_cancel_of_served ((hclear hfields).wellFormed (by decide) ((if_pos rfl).mpr (hallKinds_code hkind).1)) hserved,
      (Sc.cancel_hall hkind hfind).1 hstat hcar, Sc.event_eq_post]
    exact ⟨Sc.ctx_setCtx_self .., fun j hj => Sc.ctx_setCtx_of_ne _ _ _ hj, State.qf_withSc (Qf.post_dev ..)⟩
  · intro k i x hworks hfields hk hserved hfind hstat
    obtain ⟨n, hkind⟩ := hallKinds_of_mem hk
    show Host.Outcome.next _ = _
    rw [hcall _ hworks 5, Sc.call_cancel_of_served ((hclear hfields).wellFormed (by decide) ((if_pos rfl).mpr (hallKinds_code hkind).1)) hserved,
      (Sc.cancel_hall hkind hfind).2 hstat]
    exact congrArg Host.Outcome.next (State.withSc_event ..)
  · intro c hc hruns hmode hstandby
    obtain ⟨k, hexec⟩ := hevery hc
    rw [hexec, State.callOf_of_standby hruns hmode hstandby]
  · intro c hc h
    obtain ⟨k, hexec⟩ := hevery hc
    rw [hexec, State.callOf_of_absent h]

end Sys2Proof.Machine
end

section
/-! SUPPORT. Vault access sessions: what the items and the rows of a session leave of its context (R399 to R402, R406). -/

namespace Sys2Proof.Machine

section
variable {m : Sc} {floor i : Nat} {x : Ctx} {w0 w1 w2 st a b : Word}

/-- The token of a session item (R399). -/
def tokenOf (a b : Word) : BitVec 64 := b.setWidth 64 <<< 32 ||| a.setWidth 64

/-- SESSION_OPEN of a station that is free, exists at the floor and is in service, with an admitted life (R399). -/
theorem Sc.sessionOpen_of_free (hst : m.env.stationAt (getBits st 7 0) floor = true) (hnone : m.sessionOf (getBits st 7 0) = none)
    (hlow : 1000 ≤ w2.toNat) (hhigh : w2.toNat ≤ m.env.SCH_SESSMAX)
    (hcar : ∃ car ∈ m.env.carList, m.env.served car floor = true ∧ (m.car car).inServ = true)
    (hfree : (List.range 1024).find? (fun i => (m.ctx i).isNone) = some i) :
    (m.sessionOpen floor [w0, w1, w2, st, a, b]).sched.ctxs = (m.setCtx i
      (some { newCtx m.env.dev .session floor none [w0, w1, w2, st, a, b] with order := m.sched.nextOrder + 1 })).sched.ctxs := by
  obtain ⟨car, hmem, hserved, hserv⟩ := hcar
  have hany : (m.env.carList.any fun c => m.env.served c floor && (m.car c).inServ) = true :=
    List.any_eq_true.mpr ⟨car, hmem, by rw [hserved, hserv]; rfl⟩
  have hcreate := Sc.create_of_free m (newCtx m.env.dev .session floor none [w0, w1, w2, st, a, b]) hfree
  simp only [Sc.sessionOpen, List.getD_cons_zero, List.getD_cons_succ, hst, hnone, hany, Nat.not_lt.mpr hlow, Nat.not_lt.mpr hhigh]
  generalize m.create (newCtx m.env.dev .session floor none [w0, w1, w2, st, a, b]) = o at hcreate ⊢
  subst hcreate
  rfl

variable (h : m.sessionOf (getBits st 7 0) = some (i, x))
include h

/-- An expiry that has passed is decided before the item (R406). -/
theorem Sc.sessionChange_of_overdue (extend : Bool) (hdue : x.overdue m.env.dev = true) :
    m.sessionChange extend floor [w0, w1, w2, st, a, b] = (m.endSession i x 0x11).refuse (callTag w0) 0x0B floor := by
  simp only [Sc.sessionChange, List.getD_cons_zero, List.getD_cons_succ, h]
  exact if_pos hdue

variable (hdue : x.overdue m.env.dev = false)
include hdue

/-- A wrong token changes nothing; it is recorded (R400). -/
theorem Sc.sessionChange_of_wrong_token (extend : Bool) (htok : x.token ≠ tokenOf a b) :
    m.sessionChange extend floor [w0, w1, w2, st, a, b] =
      (m.note 0x0A13 (leBytes 1 (getBits st 7 0) ++ leBytes 2 (getBits w1 15 0))).refuse (callTag w0) 0x06 floor := by
  simp only [Sc.sessionChange, List.getD_cons_zero, List.getD_cons_succ, h]
  exact (if_neg (ne_true_of_eq_false hdue)).trans (if_pos (bne_iff_ne.mpr htok))

/-- SESSION_EXTEND sets the expiry of a LIVE session and the life of any other (R399). -/
theorem Sc.sessionChange_extend (htok : x.token = tokenOf a b) :
    m.sessionChange true floor [w0, w1, w2, st, a, b] =
      (m.setCtx i (some { x with
        life := if x.stat == .live then x.life else min w2.toNat m.env.SCH_SESSMAX,
        expiry := if x.stat == .live then m.env.dev + min w2.toNat m.env.SCH_SESSMAX * 1000 else x.expiry })).event (callTag w0) 0x0D 0
          floor i x.car (min w2.toNat m.env.SCH_SESSMAX) := by
  simp only [Sc.sessionChange, List.getD_cons_zero, List.getD_cons_succ, h]
  exact (if_neg (ne_true_of_eq_false hdue)).trans (if_neg fun hne => bne_iff_ne.mp hne htok)

/-- SESSION_CLOSE ends it (R400). -/
theorem Sc.sessionChange_close (htok : x.token = tokenOf a b) :
    m.sessionChange false floor [w0, w1, w2, st, a, b] = m.endSession i x 0x10 := by
  simp only [Sc.sessionChange, List.getD_cons_zero, List.getD_cons_succ, h]
  exact (if_neg (ne_true_of_eq_false hdue)).trans (if_neg fun hne => bne_iff_ne.mp hne htok)

end

/-- A word whose upper part is 0 is its lower part. -/
theorem getBits_low_of_clear {w : Word} {k : Nat} (hk : k < 32) (h : getBits w 31 k = 0) (hpos : 0 < k) : getBits w (k - 1) 0 = w.toNat := by
  have hlt : w.toNat < 2 ^ k := by
    by_contra hge
    have hdiv : 0 < w.toNat / 2 ^ k := Nat.div_pos (Nat.le_of_not_lt hge) (Nat.two_pow_pos k)
    have hsmall : w.toNat / 2 ^ k < 2 ^ (31 - k + 1) := by
      rw [Nat.div_lt_iff_lt_mul (Nat.two_pow_pos k), ← Nat.pow_add,
        show 31 - k + 1 + k = 32 by omega]
      exact w.isLt
    exact absurd (Nat.mod_eq_of_lt hsmall ▸ h) (Nat.ne_of_gt hdiv)
  rw [getBits, Nat.pow_zero, Nat.div_one, show k - 1 - 0 + 1 = k by omega, Nat.mod_eq_of_lt hlt]

/-! ### The rows of a session's items -/

section
variable {s : State} {w0 w1 life st a b : Word} {i : Nat} {x : Ctx}

/-- The checks that a session item passes before its session is looked up (R383, R399). -/
structure State.AdmitsSession (s : State) (w0 w1 st a b : Word) : Prop where
  calls   : s.TakesCalls
  clear   : ClearFields w0 w1
  station : getBits st 31 8 = 0
  token   : ¬ (a = 0 ∧ b = 0)
  served  : ∃ car ∈ s.carList, s.served car (getBits w0 23 16) = true

theorem State.AdmitsSession.open_eq (h : s.AdmitsSession w0 w1 st a b) :
    exec (.sessionOpen { words := [w0, w1, life, st, a, b], poison := false }) s =
      .next (s.withSc (s.sc.sessionOpen (getBits w0 23 16) [setBits w0 11 8 4, w1, life, st, a, b])) := by
  refine congrArg Host.Outcome.next ((State.callOf_kindItem h.calls _ 4).trans (congrArg s.withSc ?_))
  rw [Sc.call_session_of_served (h.clear.wellFormed_session h.station (.inl (by decide))) (by decide) h.token h.served]
  rfl

theorem State.AdmitsSession.extend_eq (h : s.AdmitsSession w0 w1 st a b) :
    exec (.sessionExtend { words := [w0, w1, life, st, a, b], poison := false }) s =
      .next (s.withSc (s.sc.sessionChange true (getBits w0 23 16) [setBits w0 11 8 6, w1, life, st, a, b])) := by
  refine congrArg Host.Outcome.next ((State.callOf_kindItem h.calls _ 6).trans (congrArg s.withSc ?_))
  rw [Sc.call_session_of_served (h.clear.wellFormed_session h.station (.inl (by decide))) (by decide) h.token h.served]
  rfl

theorem State.AdmitsSession.close_eq (h : s.AdmitsSession w0 w1 st a b) :
    exec (.sessionClose { words := [w0, w1, 0, st, a, b], poison := false }) s =
      .next (s.withSc (s.sc.sessionChange false (getBits w0 23 16) [setBits w0 11 8 7, w1, 0, st, a, b])) := by
  refine congrArg Host.Outcome.next ((State.callOf_kindItem h.calls _ 7).trans (congrArg s.withSc ?_))
  rw [Sc.call_session_of_served (h.clear.wellFormed_session h.station (.inr ⟨rfl, rfl⟩)) (by decide) h.token h.served]
  rfl

/-- Both changes of a session, with what decides them. -/
theorem State.AdmitsSession.change_eq (h : s.AdmitsSession w0 w1 st a b) {c : Instr}
    (hc : c ∈ [Instr.sessionExtend { words := [w0, w1, life, st, a, b], poison := false },
      .sessionClose { words := [w0, w1, 0, st, a, b], poison := false }]) :
    ∃ extend k life, exec c s =
      .next (s.withSc (s.sc.sessionChange extend (getBits w0 23 16) [setBits w0 11 8 k, w1, life, st, a, b])) := by
  simp only [List.mem_cons, List.not_mem_nil, or_false] at hc
  rcases hc with rfl | rfl
  · exact ⟨_, _, _, h.extend_eq⟩
  · exact ⟨_, _, _, h.close_eq⟩

/-- Of the contexts only context `i` changed, to `c`. -/
def State.ChangesCtx (s t : State) (i : Nat) (c : Option Ctx) : Prop :=
  t.sched.ctxs.get none i = c ∧ ∀ j, j ≠ i → t.sched.ctxs.get none j = s.sched.ctxs.get none j

theorem State.changesCtx_of_ctx {n : Sc} {c : Option Ctx} (h : ∀ j, n.ctx j = (s.sc.setCtx i c).ctx j) :
    s.ChangesCtx (s.withSc n) i c :=
  ⟨(h i).trans (Sc.ctx_setCtx_self ..), fun j hj => (h j).trans (Sc.ctx_setCtx_of_ne _ _ _ hj)⟩

/-- A session that ends while LIVE stays, ended; any other frees (R400). -/
theorem State.changesCtx_endSession_of_live (detail : Nat) (h : x.stat = .live) :
    s.ChangesCtx (s.withSc (s.sc.endSession i x detail)) i (some { x with ended := true }) :=
  State.changesCtx_of_ctx fun j => Sc.ctx_endSession_of_live _ _ _ _ j h

theorem State.changesCtx_endSession_of_not_live (detail : Nat) (h : x.stat ≠ .live) :
    s.ChangesCtx (s.withSc (s.sc.endSession i x detail)) i none :=
  State.changesCtx_of_ctx fun j => Sc.ctx_endSession_of_not_live _ _ _ _ j h

theorem Ctx.stat_of_overdue {now : Nat} (h : x.overdue now = true) : x.stat = .live := by
  simp only [Ctx.overdue, Bool.and_eq_true, beq_iff_eq] at h
  exact h.1.1.1.2

theorem Ctx.overdue_of_not_live {now : Nat} (h : x.stat ≠ .live) : x.overdue now = false :=
  Bool.eq_false_iff.mpr fun hdue => h (Ctx.stat_of_overdue hdue)

/-! ### The rows of time and of grants -/

theorem Sc.expire_of_live {m : Sc} (hctx : m.ctx i = some x) (hkind : x.kind = .session) (hlive : x.stat = .live)
    (hended : x.ended = false) (hgroup : x.group = none) : m.expire i = m.endSession i x 0x11 := by
  simp only [Sc.expire, hctx]
  exact if_pos (by rw [hkind, hlive, hended, hgroup]; rfl)

theorem Sc.pendmax_of_waiting {m : Sc} (hctx : m.ctx i = some x) (hkind : x.kind = .session) (hlive : x.stat ≠ .live)
    (hgroup : x.group = none) : m.pendmax i = m.endSession i x 0x12 := by
  simp only [Sc.pendmax, hctx]
  exact if_pos (by rw [hkind, bne_iff_ne.mpr hlive, hgroup]; rfl)

/-- Neither row finds a session where the scheduler does not work or the context is free. -/
theorem State.expire_of_idle {n : Nat} (h : s.schWorks = false ∨ s.sched.ctxs.get none n = none) :
    s.runSc s.schWorks (·.expire n) = s := by
  obtain hoff | hfree := h
  · exact State.runSc_of_off _ hoff
  · have hkeep : s.sc.expire n = s.sc := by simp only [Sc.expire, show s.sc.ctx n = none from hfree]
    rw [State.runSc, hkeep]
    exact ite_self _

theorem State.pendmax_of_idle {n : Nat} (h : s.schWorks = false ∨ s.sched.ctxs.get none n = none) :
    s.runSc s.schWorks (·.pendmax n) = s := by
  obtain hoff | hfree := h
  · exact State.runSc_of_off _ hoff
  · have hkeep : s.sc.pendmax n = s.sc := by simp only [Sc.pendmax, show s.sc.ctx n = none from hfree]
    rw [State.runSc, hkeep]
    exact ite_self _

theorem Sc.grantAll_of_one {m : Sc} (hopen : m.sched.open_ = [(i, x)]) (hkind : x.kind = .session) (hlive : x.stat = .live)
    (hended : x.ended = false) (hgroup : x.group = none) : m.grantAll = m.grant i x true := by
  rw [Sc.grantAll, hopen]
  exact if_pos (by rw [hkind, hlive, hended, hgroup]; rfl)

/-- A repeated session item posts only. -/
theorem Sc.sched_sessionItem (m : Sc) (n station : Nat) : (m.sessionItem n station).sched = m.sched := by
  unfold Sc.sessionItem
  split <;> rfl

theorem Sc.sched_sessionItems (ds : List (Nat × Nat)) (m : Sc) :
    (ds.foldl (fun m d => m.sessionItem d.1 d.2) m).sched = m.sched := by
  induction ds generalizing m with
  | nil => rfl
  | cons d ds ih => rw [List.foldl_cons, ih, Sc.sched_sessionItem]

/-- A grant is kept under its station (R402). -/
theorem Sc.sched_grantItem (m : Sc) (w0 remain w2 w3 : Word) :
    (m.grantItem { words := [w0, remain, w2, w3], poison := false } m.env.dev).sched =
      { m.sched with grants :=
          m.sched.grants.set none (getBits w0 15 8) (some { live := w0.getLsbD 0, remain := remain, at_ := m.env.dev }) } :=
  Sc.sched_sessionItems _ _

theorem State.grantItem_of_not_taken {it : Item} (h : s.schMode ≠ 3 ∨ it.poison = true) :
    s.runSc (s.schRuns && s.schMode == 3) (fun m => m.grantItem it m.env.dev) = s := by
  obtain hmode | hpoison := h
  · exact State.runSc_of_off _ (by rw [beq_false_of_ne hmode, Bool.and_false])
  · have hkeep : s.sc.grantItem it s.sc.env.dev = s.sc := if_pos (by rw [hpoison]; rfl)
    rw [State.runSc, hkeep]
    exact ite_self _

theorem Sc.sessionItems_of_one {m : Sc} {g : Grant} {n station : Nat} (hdoors : m.env.sessionDoors = [(n, station)])
    (hgrant : m.sched.grants.get none station = some g) :
    m.env.sessionDoors.foldl (fun m d => m.sessionItem d.1 d.2) m =
      m.post (0x0A32 + n)
        [BitVec.ofNat 32 (bit (g.live && decide (m.env.dev ≤ g.at_ + m.env.SCH_GRANTAGE * 1000)) + station * 2 ^ 8),
          lowWord (g.at_ + g.remain.toNat * 1000)] := by
  rw [hdoors]
  show m.sessionItem n station = _
  simp only [Sc.sessionItem, hgrant]

end

/-- Settles O37: an item is decided on the session found at its station; the end of a session changes its context alone. -/
theorem sessionsOpenLiveAndEnd : Obligations.SessionsOpenLiveAndEnd := by
  unfold Obligations.SessionsOpenLiveAndEnd
  intro s ctx works
  have hadmits {w0 w1 st a b : Word} (hworks : works) (hlow : getBits w0 15 12 = 0) (hhigh : getBits w0 31 28 = 0)
      (htail : getBits w1 31 16 = 0) (hst : getBits st 31 8 = 0) (htok : ¬ (a = 0 ∧ b = 0))
      (hserved : ∃ car ∈ s.carList, s.served car (getBits w0 23 16) = true) : s.AdmitsSession w0 w1 st a b :=
    ⟨⟨hworks.1, hworks.2.1, hworks.2.2⟩, ⟨hlow, hhigh, htail⟩, hst, htok, hserved⟩
  refine ⟨?_, ?_, ?_, ?_, ?_, ?_, ?_, ?_, ?_, ?_, ?_⟩
  · intro w0 w1 life st a b i hworks hlow hhigh htail hst htok hcar hstation hnone hmin hmax hfree
    obtain ⟨car, hmem, hserved, hserv⟩ := hcar
    have h := hadmits hworks hlow hhigh htail hst htok ⟨car, hmem, hserved⟩
    rw [← getBits_low_of_clear (k := 8) (by decide) hst (by decide)] at hstation hnone ⊢
    have hctxs := Sc.sessionOpen_of_free (w0 := setBits w0 11 8 4) (w1 := w1) (a := a) (b := b) hstation hnone hmin hmax
      ⟨car, hmem, hserved, hserv⟩ hfree
    obtain ⟨hself, hother⟩ := State.changesCtx_of_ctx (s := s) (Sc.ctx_congr hctxs)
    exact ⟨_, h.open_eq, ⟨_, hself, rfl, rfl, rfl, rfl, rfl, rfl, rfl, rfl⟩, hother⟩
  · intro w0 w1 life st a b i x hworks hlow hhigh htail hst htok hserved hfound
    have h := hadmits hworks hlow hhigh htail hst htok hserved
    have hst' := getBits_low_of_clear (k := 8) (by decide) hst (by decide)
    rw [← hst'] at hfound
    refine ⟨?_, ?_, ?_, ?_, ?_, ?_⟩
    · intro hx hlive hdue
      refine ⟨_, h.extend_eq, ?_⟩
      rw [Sc.sessionChange_extend hfound hdue hx, hlive]
      exact State.changesCtx_of_ctx fun j => rfl
    · intro hx hlive
      refine ⟨_, h.extend_eq, ?_⟩
      rw [Sc.sessionChange_extend hfound (Ctx.overdue_of_not_live hlive) hx, beq_false_of_ne hlive]
      exact State.changesCtx_of_ctx fun j => rfl
    · intro hdue c hc
      obtain ⟨extend, k, life', hexec⟩ := h.change_eq hc
      refine ⟨_, hexec, ?_⟩
      rw [Sc.sessionChange_of_overdue hfound extend hdue]
      exact State.changesCtx_endSession_of_live 0x11 (Ctx.stat_of_overdue hdue)
    · intro hx hdue c hc
      obtain ⟨extend, k, life', hexec⟩ := h.change_eq hc
      refine ⟨_, hexec, ?_⟩
      rw [Sc.sessionChange_of_wrong_token hfound hdue extend hx, callTag_setKind, hst',
        getBits_low_of_clear (k := 16) (by decide) htail (by decide),
        Sc.refuse, Sc.event_eq_post]
      exact ⟨rfl, State.qf_withSc ((Qf.post_dev ..).trans (Qf.note_dev ..))⟩
    · intro hx hlive hdue
      refine ⟨_, h.close_eq, ?_⟩
      rw [Sc.sessionChange_close hfound hdue hx]
      exact State.changesCtx_endSession_of_live 0x10 hlive
    · intro hx hreg
      have hlive : x.stat ≠ .live := by rw [hreg]; decide
      refine ⟨_, h.close_eq, ?_⟩
      rw [Sc.sessionChange_close hfound (Ctx.overdue_of_not_live hlive) hx]
      exact State.changesCtx_endSession_of_not_live 0x10 hlive
  · intro n x hworks hctx hkind hlive hended hgroup
    refine ⟨_, congrArg Host.Outcome.next (State.runSc_of_on _ hworks), ?_⟩
    rw [Sc.expire_of_live (m := s.sc) hctx hkind hlive hended hgroup]
    exact State.changesCtx_endSession_of_live 0x11 hlive
  · intro n h
    exact ⟨congrArg Host.Outcome.next (State.expire_of_idle h), congrArg Host.Outcome.next (State.pendmax_of_idle h)⟩
  · intro n x hworks hctx hkind hlive hgroup
    refine ⟨_, congrArg Host.Outcome.next (State.runSc_of_on _ hworks), ?_⟩
    rw [Sc.pendmax_of_waiting (m := s.sc) hctx hkind hlive hgroup]
    exact State.changesCtx_endSession_of_not_live 0x12 hlive
  · intro i x hworks hopen hkind hlive hended hgroup
    refine ⟨_, congrArg Host.Outcome.next (State.runSc_of_on _ hworks), ?_⟩
    rw [Sc.grantAll_of_one (m := s.sc) hopen hkind hlive hended hgroup]
    refine ⟨rfl, (State.qf_withSc (Qf.post_dev ..)).trans ?_⟩
    rw [Sc.grant, Ctx.remaining, hlive, hended]
    rfl
  · intro h
    exact congrArg Host.Outcome.next (State.runSc_of_off _ h)
  · intro w0 remain w2 w3 hruns hmode
    refine ⟨_, congrArg Host.Outcome.next (State.runSc_of_on _ (by rw [hruns, hmode]; rfl)), ?_⟩
    exact Sc.sched_grantItem s.sc w0 remain w2 w3
  · intro it h
    exact congrArg Host.Outcome.next (State.grantItem_of_not_taken h)
  · intro i st g hruns hmode hdoors hgrant
    refine congrArg Host.Outcome.next ((State.runSc_of_on _ (by rw [hruns, hmode]; rfl)).trans ?_)
    exact congrArg s.withSc (Sc.sessionItems_of_one (m := s.sc) hdoors hgrant)
  · intro h
    exact congrArg Host.Outcome.next (State.runSc_of_off _ (by simp [h]))

end Sys2Proof.Machine
end

section
/-! SUPPORT. A switch test asked for an output whose targeted test runs (R487, R502, R506). -/

namespace Sys2Proof.Machine

/-- A switch test of output 0 runs, and so does the targeted test of the same output's block. -/
def testingOutput : State := { Fx.atSafe4 with react := { Fx.atSafe4.react with testing := [(16, 0, 0)] } }

theorem exec_swreq_testingOutput : exec (.swreq 1) testingOutput = .next (testingOutput.acceptRwl .SFI_TESTCTL [] 1) :=
  rwlRow_accepted rfl (by decide +kernel)

/-- Refutes O44: its clause on SWREQ during a switch test leaves out the outputs under their targeted test, into which the request is merged
(R506). Output 0 is under such a test, so nothing becomes pending, where the statement wants output 0 pending. -/
theorem not_faultsAreTestedAndLatched : ¬ Obligations.FaultsAreTestedAndLatched := by
  unfold Obligations.FaultsAreTestedAndLatched
  intro h
  obtain ⟨-, -, -, -, -, -, -, -, -, -, -, -, -, -, -, -, -, hpending, -⟩ := h testingOutput
  obtain ⟨t, hexec, hreact⟩ := hpending 1 (by decide +kernel) (by decide +kernel) (by decide +kernel)
  obtain rfl := Host.Outcome.next.inj (exec_swreq_testingOutput.symm.trans hexec)
  exact absurd (congrArg FaultReact.testPend hreact) (by decide +kernel)

end Sys2Proof.Machine
end

section
/-! SUPPORT. ACK_IN's presses, degraded lockout and MGT_QCLR: one equation for each way a row ends (R490, R494, R495, R498, R510). -/

namespace Sys2Proof.Machine

/-! ### What each row runs -/

section
variable (s : State)

theorem exec_ackPressRelease (ms : BitVec 16) : exec (.ackPressRelease ms) s = .next (s.runSf s.sfiUp fun m => m.ackRelease ms) := rfl

theorem exec_ackStuck : exec .ackStuck s = .next (s.runSf s.sfiUp Sf.ackStuck) := rfl

theorem exec_degtimeExpire : exec .degtimeExpire s =
    .next (if s.fusion.degStat == 1 || s.fusion.degStat == 2 then s.withMpi (s.mpi.degradedExpire 1) else s) := rfl

theorem exec_degopenExpire : exec .degopenExpire s =
    .next (if s.fusion.degStat == 2 then s.withMpi (s.mpi.degradedExpire 2) else s) := rfl

end

/-! ### A press of ACK_IN (R494, R495) -/

/-- ACK_IN is pressed, its first settled level having been seen (R495). -/
structure Sf.Pressed (m : Sf) : Prop where
  used   : m.lattice.ackEn = true
  closed : m.lattice.ackLevel = true
  seen   : m.react.ackSeen = true

section
variable {m : Sf} {ms : BitVec 16}

/-- SFI with ACK_IN open again. -/
def Sf.openAck (m : Sf) : Sf := m.updL fun l => { l with ackLevel := false }

theorem Sf.ackRelease_of_not_pressed (h : ¬ m.Pressed) : m.ackRelease ms = m := by
  refine if_pos ?_
  by_contra hall
  simp only [Bool.not_eq_true', Bool.not_eq_false, Bool.and_eq_true] at hall
  exact h ⟨hall.1.1, hall.1.2, hall.2⟩

theorem Sf.ackRelease_of_pressed (h : m.Pressed) : m.ackRelease ms =
    if m.react.stuck || decide (3000 < ms.toNat) then
      (m.openAck.updR fun r => { r with stuck := false, armed := true }).refuseAck 4 ms
    else if ms.toNat < 100 then m.openAck.refuseAck 3 ms
    else if m.lattice.ackShort then m.openAck.refuseAck 5 ms
    else m.openAck.updR fun r => { r with ackOwed := some ms.toNat, accepted := satInc r.accepted } :=
  if_neg (by rw [h.used, h.closed, h.seen]; decide)

theorem Sf.ackStuck_of_pressed (h : m.Pressed) (hstuck : m.react.stuck = false) :
    m.ackStuck = (m.updR fun r => { r with stuck := true, armed := false }).note 0x0412 [1] :=
  if_pos (by rw [h.used, h.closed, hstuck]; rfl)

theorem Sf.ackStuck_of_open (h : m.lattice.ackLevel = false ∨ m.react.stuck = true) : m.ackStuck = m :=
  if_neg (by obtain h | h := h <;> simp [h])

end

/-- A row of SFI that leaves SFI as it was. -/
theorem State.runSf_of_same {s : State} {ok : Bool} {f : Sf → Sf} (h : f s.sf = s.sf) : s.runSf ok f = s := by
  rw [State.runSf, h, State.withSf_sf, ite_self]

section
variable {s : State} {ms : BitVec 16}

theorem exec_ackPressRelease_of_pressed (hup : s.sfiUp = true) (h : s.sf.Pressed) : exec (.ackPressRelease ms) s =
    .next (s.withSf (if s.react.stuck || decide (3000 < ms.toNat) then
        (s.sf.openAck.updR fun r => { r with stuck := false, armed := true }).refuseAck 4 ms
      else if ms.toNat < 100 then s.sf.openAck.refuseAck 3 ms
      else if s.lattice.ackShort then s.sf.openAck.refuseAck 5 ms
      else s.sf.openAck.updR fun r => { r with ackOwed := some ms.toNat, accepted := satInc r.accepted })) := by
  rw [exec_ackPressRelease, State.runSf_of_up _ hup, Sf.ackRelease_of_pressed h]
  rfl

theorem exec_ackPressRelease_of_idle (h : ¬ (s.sfiUp = true ∧ s.sf.Pressed)) : exec (.ackPressRelease ms) s = .next s := by
  rw [exec_ackPressRelease]
  by_cases hup : s.sfiUp = true
  · rw [State.runSf_of_same (Sf.ackRelease_of_not_pressed fun hp => h ⟨hup, hp⟩)]
  · rw [State.runSf_of_down _ (Bool.eq_false_iff.mpr hup)]

theorem exec_ackStuck_of_pressed (hup : s.sfiUp = true) (h : s.sf.Pressed) (hstuck : s.react.stuck = false) :
    exec .ackStuck s = .next (s.withSf ((s.sf.updR fun r => { r with stuck := true, armed := false }).note 0x0412 [1])) := by
  rw [exec_ackStuck, State.runSf_of_up _ hup, Sf.ackStuck_of_pressed h hstuck]

theorem exec_ackStuck_of_idle (h : s.sfiUp = false ∨ s.lattice.ackLevel = false ∨ s.react.stuck = true) :
    exec .ackStuck s = .next s := by
  rw [exec_ackStuck]
  obtain hdown | hopen := h
  · rw [State.runSf_of_down _ hdown]
  · rw [State.runSf_of_same (Sf.ackStuck_of_open hopen)]

end

/-- Settles O45: a press is decided by its length and by what the block found before; a degraded lockout and QCLR are one step each. -/
theorem acknowledgementAndLockout : Obligations.AcknowledgementAndLockout := by
  unfold Obligations.AcknowledgementAndLockout
  intro s pressed released
  have hp (h : pressed) : s.sf.Pressed := ⟨h.2.1, h.2.2.1, h.2.2.2⟩
  have hrelease (ms : BitVec 16) (h : pressed) := exec_ackPressRelease_of_pressed (ms := ms) h.1 (hp h)
  refine ⟨fun ms h hstuck harmed hlow hhigh hshort => ?accepted, fun ms h hstuck hlow => ?short, fun ms h hlong => ?long,
    fun ms h hstuck hlow hhigh hshort => ?shorted,
    fun ms h => exec_ackPressRelease_of_idle fun ⟨hup, hp⟩ => h ⟨hup, hp.used, hp.closed, hp.seen⟩,
    fun h hstuck => ⟨_, exec_ackStuck_of_pressed h.1 (hp h) hstuck, rfl, rfl, rfl⟩, exec_ackStuck_of_idle,
    fun c hc hdeg => ?degraded, fun hdeg => ?degtime, fun c hc hdeg => ?notDegraded, fun hdeg => ?degopen, fun w hopen => ?qclr⟩
  case accepted =>
    rw [hrelease ms h, if_neg (by simp [hstuck, hhigh]), if_neg (Nat.not_lt.mpr hlow), if_neg (by rw [hshort]; decide)]
    rfl
  case short =>
    have hlimit : ¬ 3000 < ms.toNat := by omega
    refine ⟨_, hrelease ms h, ?_⟩
    rw [if_neg (by simp [hstuck, hlimit]), if_pos hlow]
    exact ⟨rfl, rfl, rfl⟩
  case long =>
    refine ⟨_, hrelease ms h, ?_⟩
    rw [if_pos (by simpa using hlong)]
    exact ⟨rfl, rfl⟩
  case shorted =>
    refine ⟨_, hrelease ms h, ?_⟩
    rw [if_neg (by simp [hstuck, hhigh]), if_neg (Nat.not_lt.mpr hlow), if_pos hshort]
    exact ⟨rfl, rfl⟩
  case degraded =>
    simp only [List.mem_cons, List.not_mem_nil, or_false] at hc
    obtain rfl | rfl := hc
    · exact ⟨_, (exec_degtimeExpire s).trans (congrArg Host.Outcome.next (if_pos (by rw [hdeg]; rfl))), rfl⟩
    · exact ⟨_, (exec_degopenExpire s).trans (congrArg Host.Outcome.next (if_pos (by rw [hdeg]; rfl))), rfl⟩
  case degtime =>
    exact ⟨_, (exec_degtimeExpire s).trans (congrArg Host.Outcome.next (if_pos (by rw [hdeg]; rfl))), rfl⟩
  case notDegraded =>
    simp only [List.mem_cons, List.not_mem_nil, or_false] at hc
    obtain rfl | rfl := hc
    · rw [exec_degtimeExpire, if_neg (by obtain h | h := hdeg <;> rw [h] <;> decide)]
    · rw [exec_degopenExpire, if_neg (by obtain h | h := hdeg <;> rw [h] <;> decide)]
  case degopen => rw [exec_degopenExpire, if_neg (by rw [hdeg]; decide)]
  case qclr => exact ⟨_, rwlRow_accepted rfl hopen, rfl, rfl, rfl⟩

end Sys2Proof.Machine
end

section
/-! SUPPORT. The cell law of the lattice: what an evaluation makes of each cell (R447 to R451, R454). -/

namespace Sys2Proof.Machine

variable (c : Channel) (neg first : Bool) (snap : Nat → Bool) (per n : Nat)

/-! ### A channel in its plain form (R454) -/

/-- Output and previous function value of cell `n` in plain form. -/
def Channel.value (n : Nat) : Bool := xor (c.out.get neg n) neg
def Channel.before (n : Nat) : Bool := xor (c.fp.get neg n) neg

/-- A signal in plain form. -/
def Channel.plainSignal (a : Nat) : Bool := if a < 0x400 then c.value neg a else snap a

theorem Channel.signal_xor (a : Nat) : xor (c.signal neg snap a) neg = c.plainSignal neg snap a := by
  unfold Channel.signal Channel.plainSignal Channel.value
  split
  · rfl
  · rw [Bool.xor_assoc, Bool.xor_self, Bool.xor_false]

/-- The function value of a cell in plain form: its LUT on the plain signals (R448). -/
def Cell.lookup (x : Cell) (sig : Nat → Bool) : Bool :=
  testBit x.lut (bit (sig x.srcA) + 2 * bit (sig x.srcB) + 4 * bit (sig x.srcC) + 8 * bit (sig x.srcD))

theorem Channel.func_xor (x : Cell) : xor (c.func neg snap x) neg = x.lookup (c.plainSignal neg snap) := by
  unfold Channel.func Cell.lookup
  cases neg with
  | false => simp [← Channel.signal_xor]
  | true =>
    simp only [← Channel.signal_xor, Bool.xor_true, if_true]
    cases c.signal true snap x.srcA <;> cases c.signal true snap x.srcB <;> cases c.signal true snap x.srcC <;>
      cases c.signal true snap x.srcD <;> simp [bit]

/-! ### One cell (R449, R451) -/

/-- The cell's timer works (R449, R450). -/
def Cell.timed (x : Cell) : Bool := x.mode == 3 || x.mode == 4 || x.mode == 5

/-- Output and timer of cell `n` as its evaluation leaves them, in plain form. -/
def Channel.stage (n : Nat) : Bool × (Bool × BitVec 28) :=
  let x := c.plain neg n
  cellStage x first (x.lookup (c.plainSignal neg snap)) (c.before neg n) (c.value neg n) (c.plainSignal neg snap x.rst)
    (c.timerAt neg x.timer) per

/-- A cell's evaluation through its plain form. -/
theorem Channel.evalCell_eq : c.evalCell neg first snap per n =
    if (c.plain neg n).timed then
      Channel.setTimer { c with out := c.out.set neg n (xor (c.stage neg first snap per n).1 neg),
                                fp := c.fp.set neg n (c.func neg snap (c.plain neg n)) }
        neg (c.plain neg n).timer (c.stage neg first snap per n).2
    else { c with out := c.out.set neg n (xor (c.stage neg first snap per n).1 neg),
                  fp := c.fp.set neg n (c.func neg snap (c.plain neg n)) } := by
  rw [Channel.stage, ← Channel.func_xor, ← Channel.signal_xor]
  rfl

theorem Channel.evalCell_cells : (c.evalCell neg first snap per n).cells = c.cells := by
  rw [Channel.evalCell_eq]
  split <;> rfl

theorem Channel.evalCell_out :
    (c.evalCell neg first snap per n).out = c.out.set neg n (xor (c.stage neg first snap per n).1 neg) := by
  rw [Channel.evalCell_eq]
  split <;> rfl

theorem Channel.evalCell_fp : (c.evalCell neg first snap per n).fp = c.fp.set neg n (c.func neg snap (c.plain neg n)) := by
  rw [Channel.evalCell_eq]
  split <;> rfl

theorem Channel.plain_evalCell (j : Nat) : (c.evalCell neg first snap per n).plain neg j = c.plain neg j := by
  rw [Channel.plain, Channel.cell, Channel.evalCell_cells]
  rfl

theorem Channel.value_evalCell_self : (c.evalCell neg first snap per n).value neg n = (c.stage neg first snap per n).1 := by
  rw [Channel.value, Channel.evalCell_out, Tbl.get_set_self, Bool.xor_assoc, Bool.xor_self, Bool.xor_false]

theorem Channel.value_evalCell_of_ne {j : Nat} (h : j ≠ n) : (c.evalCell neg first snap per n).value neg j = c.value neg j := by
  rw [Channel.value, Channel.evalCell_out, Tbl.get_set_of_ne _ _ _ h.symm, Channel.value]

theorem Channel.before_evalCell_self :
    (c.evalCell neg first snap per n).before neg n = (c.plain neg n).lookup (c.plainSignal neg snap) := by
  rw [Channel.before, Channel.evalCell_fp, Tbl.get_set_self, Channel.func_xor]

theorem Channel.before_evalCell_of_ne {j : Nat} (h : j ≠ n) : (c.evalCell neg first snap per n).before neg j = c.before neg j := by
  rw [Channel.before, Channel.evalCell_fp, Tbl.get_set_of_ne _ _ _ h.symm, Channel.before]

theorem Channel.timerAt_setTimer_self (t : Nat) (e : Bool × BitVec 28) : (c.setTimer neg t e).timerAt neg t = e := by
  rw [Channel.timerAt, Channel.setTimer, Tbl.get_set_self]
  cases neg <;> simp

theorem Channel.timerAt_setTimer_of_ne {t j : Nat} (e : Bool × BitVec 28) (h : j ≠ t) :
    (c.setTimer neg t e).timerAt neg j = c.timerAt neg j := by
  rw [Channel.timerAt, Channel.setTimer, Tbl.get_set_of_ne _ _ _ h.symm, Channel.timerAt]

/-- A cell moves no timer but its own, and that only in a mode that has one. -/
theorem Channel.timerAt_evalCell_of_other {t : Nat} (h : (c.plain neg n).timer = t → (c.plain neg n).timed = false) :
    (c.evalCell neg first snap per n).timerAt neg t = c.timerAt neg t := by
  rw [Channel.evalCell_eq]
  split
  next htimed =>
    have hne : t ≠ (c.plain neg n).timer := fun heq => absurd htimed (by rw [h heq.symm]; decide)
    rw [Channel.timerAt_setTimer_of_ne _ _ _ hne]
    rfl
  next => rfl

/-! ### All cells in ascending order (R451) -/

theorem Channel.eval_zero : c.eval neg first snap per 0 = c := rfl

theorem Channel.eval_succ (k : Nat) :
    c.eval neg first snap per (k + 1) = (c.eval neg first snap per k).evalCell neg first snap per k := by
  rw [Channel.eval, List.range_succ, List.foldl_append]
  rfl

theorem Channel.plain_eval (k j : Nat) : (c.eval neg first snap per k).plain neg j = c.plain neg j := by
  induction k with
  | zero => rfl
  | succ k ih => rw [Channel.eval_succ, Channel.plain_evalCell, ih]

/-- Before its turn a cell stands as it stood. -/
theorem Channel.value_eval_of_ge {k j : Nat} (h : k ≤ j) : (c.eval neg first snap per k).value neg j = c.value neg j := by
  induction k with
  | zero => rfl
  | succ k ih => rw [Channel.eval_succ, Channel.value_evalCell_of_ne _ _ _ _ _ _ (by omega), ih (by omega)]

theorem Channel.before_eval_of_ge {k j : Nat} (h : k ≤ j) : (c.eval neg first snap per k).before neg j = c.before neg j := by
  induction k with
  | zero => rfl
  | succ k ih => rw [Channel.eval_succ, Channel.before_evalCell_of_ne _ _ _ _ _ _ (by omega), ih (by omega)]

/-- After its turn a cell stands as its own evaluation left it. -/
theorem Channel.value_eval_of_lt {k j : Nat} (h : j < k) :
    (c.eval neg first snap per k).value neg j = ((c.eval neg first snap per j).stage neg first snap per j).1 := by
  induction k with
  | zero => exact absurd h (Nat.not_lt_zero _)
  | succ k ih =>
    rw [Channel.eval_succ]
    obtain heq | hlt := Nat.eq_or_lt_of_le (Nat.le_of_lt_succ h)
    · subst heq
      exact Channel.value_evalCell_self ..
    · rw [Channel.value_evalCell_of_ne _ _ _ _ _ _ (by omega), ih hlt]

theorem Channel.before_eval_of_lt {k j : Nat} (h : j < k) : (c.eval neg first snap per k).before neg j =
    (c.plain neg j).lookup ((c.eval neg first snap per j).plainSignal neg snap) := by
  induction k with
  | zero => exact absurd h (Nat.not_lt_zero _)
  | succ k ih =>
    rw [Channel.eval_succ]
    obtain heq | hlt := Nat.eq_or_lt_of_le (Nat.le_of_lt_succ h)
    · subst heq
      rw [Channel.before_evalCell_self, Channel.plain_eval]
    · rw [Channel.before_evalCell_of_ne _ _ _ _ _ _ (by omega), ih hlt]

/-- A timer that no cell before `k` moves stands as it stood. -/
theorem Channel.timerAt_eval_of_unmoved {k t : Nat} (h : ∀ m < k, (c.plain neg m).timer = t → (c.plain neg m).timed = false) :
    (c.eval neg first snap per k).timerAt neg t = c.timerAt neg t := by
  induction k with
  | zero => rfl
  | succ k ih =>
    rw [Channel.eval_succ, Channel.timerAt_evalCell_of_other, ih fun m hm => h m (by omega)]
    rw [Channel.plain_eval]
    exact h k (Nat.lt_succ_self k)

/-- The signals a cell sees: cells before it as this pass leaves them, itself and cells behind it as they stood (R451). -/
theorem Channel.plainSignal_eval {count : Nat} (hn : n ≤ count) (a : Nat) :
    (c.eval neg first snap per n).plainSignal neg snap a =
      if a < 0x400 then (if a < n then (c.eval neg first snap per count).value neg a else c.value neg a) else snap a := by
  rw [Channel.plainSignal]
  split
  · split
    next hlt => rw [Channel.value_eval_of_lt _ _ _ _ _ hlt, Channel.value_eval_of_lt _ _ _ _ _ (Nat.lt_of_lt_of_le hlt hn)]
    next hge => rw [Channel.value_eval_of_ge _ _ _ _ _ (Nat.le_of_not_lt hge)]
  · rfl

/-! ### The output stage of R449 -/

section
variable {x : Cell} {f fp q r : Bool} {tm : Bool × BitVec 28}

/-- E one pass later, not above PRESET (R450). -/
theorem Cell.toNat_timerGrow (x : Cell) (e : BitVec 28) : (timerGrow e per x.preset).toNat = min (e.toNat + per) x.preset := by
  have hpreset : x.preset < 2 ^ 28 := Nat.mod_lt _ (by decide)
  rw [timerGrow, BitVec.toNat_ofNat, Nat.mod_eq_of_lt (by omega)]

theorem cellStage_comb (h : x.mode = 0) : (cellStage x first f fp q r tm per).1 = f := by
  simp only [cellStage, h]

theorem cellStage_setLatch (h : x.mode = 1) : (cellStage x first f fp q r tm per).1 = ((q || f) && !r) := by
  simp only [cellStage, h]

theorem cellStage_resetLatch (h : x.mode = 2) : (cellStage x first f fp q r tm per).1 = (f || (q && !r)) := by
  simp only [cellStage, h]

theorem cellStage_edge (h : x.mode = 6) : (cellStage x first f fp q r tm per).1 = (f && !fp && !first) := by
  simp only [cellStage, h]

theorem cellStage_delayOn (h : x.mode = 3) : (cellStage x first f fp q r tm per).1 =
    (f && decide (x.preset ≤ if fp then min (tm.2.toNat + per) x.preset else 0)) := by
  simp only [cellStage, h, ← Cell.toNat_timerGrow]
  cases f <;> cases fp <;> rfl

theorem cellStage_delayOff (h : x.mode = 4) : (cellStage x first f fp q r tm per).1 =
    (f || decide ((if fp then 0 else if tm.1 then min (tm.2.toNat + per) x.preset else tm.2.toNat) < x.preset)) := by
  simp only [cellStage, h, ← Cell.toNat_timerGrow]
  cases f
  · cases fp
    · obtain ⟨run, e⟩ := tm
      cases run <;> rfl
    · rfl
  · rfl

theorem cellStage_pulse (h : x.mode = 5) : (cellStage x first f fp q r tm per).1 =
    if tm.1 && decide (tm.2.toNat < x.preset) then decide (min (tm.2.toNat + per) x.preset < x.preset)
    else (f && !fp && !q && decide (0 < x.preset)) := by
  simp only [cellStage, h, ← Cell.toNat_timerGrow]
  split
  · rfl
  next hrest =>
    split
    next hstart =>
      rw [hstart]
      rfl
    next hidle =>
      rw [Bool.not_eq_true] at hrest hidle
      rw [hrest, hidle]
      rfl

end

/-- What an evaluation makes of cell `n` (R447 to R451). -/
theorem Channel.value_eval_cell {count : Nat} (hn : n < count) {sig : Nat → Bool}
    (hsig : sig = fun a => if a < 0x400 then (if a < n then (c.eval neg first snap per count).value neg a else c.value neg a) else snap a) :
    (c.eval neg first snap per count).before neg n = (c.plain neg n).lookup sig ∧
    (c.eval neg first snap per count).value neg n =
      (cellStage (c.plain neg n) first ((c.plain neg n).lookup sig) (c.before neg n) (c.value neg n) (sig (c.plain neg n).rst)
        ((c.eval neg first snap per n).timerAt neg (c.plain neg n).timer) per).1 := by
  have hseen : (c.eval neg first snap per n).plainSignal neg snap = sig :=
    hsig ▸ funext fun a => c.plainSignal_eval neg first snap per n (Nat.le_of_lt hn) a
  constructor
  · rw [Channel.before_eval_of_lt _ _ _ _ _ hn, hseen]
  · rw [Channel.value_eval_of_lt _ _ _ _ _ hn, Channel.stage, Channel.plain_eval, hseen,
      Channel.before_eval_of_ge _ _ _ _ _ (Nat.le_refl n), Channel.value_eval_of_ge _ _ _ _ _ (Nat.le_refl n)]

/-- A mode outside 3 to 5 has no timer. -/
theorem Cell.timed_of_mode {x : Cell} (h : x.mode < 3 ∨ 5 < x.mode) : x.timed = false := by
  rw [Cell.timed, beq_false_of_ne (by omega), beq_false_of_ne (by omega), beq_false_of_ne (by omega)]
  rfl

end Sys2Proof.Machine
end

section
/-! SUPPORT. What the steps of a lattice pass leave as it was, and that each output follows R470 at its end (R453 to R458). -/

namespace Sys2Proof.Machine

/-- A fold keeps what each of its steps keeps. -/
theorem foldl_keeps {σ α β : Type} {p : σ → β} {f : σ → α → σ} (h : ∀ m a, p (f m a) = p m) (l : List α) (m : σ) :
    p (l.foldl f m) = p m := by
  induction l generalizing m with
  | nil => rfl
  | cons a l ih => rw [List.foldl_cons, ih, h]

/-! ### What a pass does not change before it evaluates -/

/-- A lattice without its output commands and virtual inputs, which the boundary of a pass changes. -/
def Lattice.front (l : Lattice) : Lattice :=
  { l with outs := [], pviItem := none, nviItem := none, pviStale := false, nviStale := false }

/-- What the boundary of a pass leaves as it was up to the accepted press. -/
def Sf.front (m : Sf) : State × Lattice × Option Nat := (m.env, m.lattice.front, m.react.ackOwed)

variable (m : Sf)

theorem Sf.front_updOut (k : Nat) (f : SafetyOut → SafetyOut) : (m.updOut k f).front = m.front := rfl

theorem Sf.front_of_sameBut {n : Sf} (h : m.SameBut n) : n.front = m.front := by
  rw [Sf.front, h.env, h.react, h.lattice]
  rfl

@[simp] theorem Sf.front_settle : m.settle.front = m.front := m.front_of_sameBut m.settle_same

@[simp] theorem Sf.front_handEnd (st : HandState) (reason : BitVec 4) : (m.handEnd st reason).front = m.front := rfl

@[simp] theorem Sf.front_handAbort (reason : BitVec 4) : (m.handAbort reason).front = m.front := by
  unfold Sf.handAbort
  split <;> rfl

@[simp] theorem Sf.front_note (code : Nat) (data : List Byte) : (m.note code data).front = m.front := rfl

@[simp] theorem Sf.front_loseLease (loss : BitVec 2) (stat : LeaseState) : (m.loseLease loss stat).front = m.front := by
  simp only [Sf.loseLease, Sf.front_handAbort, Sf.front_note, Sf.front_settle]
  rfl

@[simp] theorem Sf.front_gainLease : m.gainLease.front = m.front := by
  simp only [Sf.gainLease, Sf.front_settle, Sf.front_note]
  rfl

theorem Sf.front_gate (g : Gate) : Sf.front { m with gate := g } = m.front := rfl

theorem Sf.front_leaseCheck : m.leaseCheck.front = m.front := by
  unfold Sf.leaseCheck
  split <;> simp only [Sf.front_loseLease]

theorem Sf.front_closeHs : m.closeHs.front = m.front := foldl_keeps (fun m k => m.front_updOut k _) _ m

theorem Sf.front_lsWait : m.lsWait.front = m.front := foldl_keeps (fun m k => m.front_updOut k _) _ m

theorem Sf.front_viStale (nvi : Bool) : (m.viStale nvi).front = m.front := by
  have hset : ((m.updL fun l => if nvi then { l with nviStale := true } else { l with pviStale := true }).note 0x040B
      [if nvi then 1 else 0]).front = m.front := by cases nvi <;> rfl
  rw [Sf.viStale, apply_ite Sf.front, hset, ite_self]

theorem Sf.front_viItem (nvi : Bool) (it : Item) (at_ : Nat) : (m.viItem nvi it at_).front = m.front := by
  simp only [Sf.viItem, apply_ite Sf.front, Sf.front_viStale]
  cases nvi <;> exact ite_self _

theorem Sf.front_viDrain (nvi : Bool) : (m.viDrain nvi).front = m.front :=
  (foldl_keeps (fun m e => m.front_viItem nvi e.1 e.2) _ _).trans rfl

theorem Sf.front_viCheck (nvi : Bool) : (m.viCheck nvi).front = m.front := by
  unfold Sf.viCheck
  split <;> split <;> simp only [Sf.front_viStale]

theorem Sf.front_setLockout (b : Bool) : (m.setLockout b).front = m.front := by
  unfold Sf.setLockout
  split <;> rfl

theorem Sf.front_storeHolds (old : List (FaultSrc × BitVec 6)) : (m.storeHolds old).front = m.front := by
  unfold Sf.storeHolds
  split <;> rfl

theorem FaultReact.ackOwed_addHold (r : FaultReact) (x : FaultSrc) (mask : BitVec 6) : (r.addHold x mask).ackOwed = r.ackOwed := by
  unfold FaultReact.addHold
  split
  · rfl
  · split <;> rfl

theorem Sf.front_holdFrom (x : FaultSrc) (mask : BitVec 6) : (m.holdFrom x mask).front = m.front := by
  simp only [Sf.holdFrom, Sf.front_note, Sf.front_storeHolds, Sf.front_setLockout]
  rw [Sf.front, Sf.front, Sf.updR, FaultReact.ackOwed_addHold]

theorem Sf.front_restore : m.restore.front = m.front := by
  unfold Sf.restore
  dsimp only
  split
  · rfl
  · split
    · rfl
    · rw [Sf.front_setLockout]
      rfl

theorem Sf.front_raise : m.raise.front = m.front := by
  have hup (l now : List FaultSrc) :
      ((l.foldl (fun m x => m.holdFrom x (m.mask x)) m).updR fun r => { r with waiting := [], rising := now }).front = m.front :=
    Eq.trans rfl (foldl_keeps (fun m x => m.front_holdFrom x _) l m)
  unfold Sf.raise
  dsimp only
  split
  · exact Eq.trans rfl ((Sf.front_holdFrom ..).trans (hup _ _))
  · exact hup _ _

theorem Sf.front_takeLease (no : Word) (holder : Nat) (withdraw : Bool) (exp : Word) :
    (m.takeLease no holder withdraw exp).front = m.front := by
  simp only [Sf.takeLease, Sf.front_gate, apply_ite Sf.front, Sf.front_gainLease, Sf.front_loseLease, Sf.front_handEnd, ite_self]

theorem Sf.front_leaseItem (it : Item) : (m.leaseItem it).front = m.front := by
  unfold Sf.leaseItem
  dsimp only
  split
  · rfl
  · split
    · rfl
    · exact Sf.front_takeLease ..

theorem Sf.front_leaseDrain : m.leaseDrain.front = m.front := (foldl_keeps Sf.front_leaseItem _ _).trans rfl

/-- The boundary of a pass up to the accepted press. -/
def Sf.boundary : Sf :=
  (((((m.updL fun l => { l with pass := l.pass + 1 }).leaseDrain.leaseCheck.viDrain false).viDrain true).viCheck false).viCheck
    true).closeHs.restore.raise

theorem Sf.front_boundary : m.boundary.front = (m.updL fun l => { l with pass := l.pass + 1 }).front := by
  simp only [Sf.boundary, Sf.front_raise, Sf.front_restore, Sf.front_closeHs, Sf.front_viCheck, Sf.front_viDrain, Sf.front_leaseCheck,
    Sf.front_leaseDrain]

/-- What follows the boundary of a pass: the accepted press, and the outputs as they then stand (R470, R497). -/
def Sf.answered (m : Sf) : Sf := m.acceptAck.settle

theorem Sf.pass_of_still (ups : List Upset)
    (h : (m.boundary.answered.lattice.stat == .reloading || m.boundary.answered.env.quarantined 1) = true) :
    m.pass ups = m.boundary.answered.lsWait := by
  rw [Sf.pass]
  exact if_pos h

theorem Sf.pass_of_evaluating (ups : List Upset)
    (h : (m.boundary.answered.lattice.stat == .reloading || m.boundary.answered.env.quarantined 1) = false) :
    m.pass ups = (m.boundary.answered.evaluate ups m.boundary.react.ackOwed.isSome).endPass := by
  unfold Sf.answered Sf.boundary at h ⊢
  exact if_neg (ne_true_of_eq_false h)

end Sys2Proof.Machine
end

section
/-! SUPPORT. What a pass leaves of its evaluations, and that each output follows R470 at its end (R453 to R458). -/

namespace Sys2Proof.Machine

/-! ### What the steps after an evaluation leave of it -/

/-- The evaluations of a pass with their counts. -/
def Lattice.evals (l : Lattice) : Word × BitVec 16 × Channel × Channel := (l.pass, l.mismatches, l.tru, l.cmp)

def Sf.evals (m : Sf) : State × Word × BitVec 16 × Channel × Channel := (m.env, m.lattice.evals)

/-- What a choice between two steps keeps when each of them does. -/
theorem ite_keeps {σ β : Type} {p : σ → β} {c : Prop} [Decidable c] {a b : σ} {x : β} (ha : p a = x) (hb : p b = x) :
    p (if c then a else b) = x := by
  split
  · exact ha
  · exact hb

variable (m : Sf)

theorem Sf.evals_of_front {n : Sf} (h : n.front = m.front) : n.evals = m.evals := by
  have hl : n.lattice.front = m.lattice.front := congrArg (fun p => p.2.1) h
  exact Prod.ext (show n.front.1 = m.front.1 by rw [h]) (show n.lattice.front.evals = m.lattice.front.evals by rw [hl])

@[simp] theorem Sf.evals_note (code : Nat) (data : List Byte) : (m.note code data).evals = m.evals := rfl
@[simp] theorem Sf.evals_post (port : Nat) (ws : List Word) : (m.post port ws).evals = m.evals := rfl
@[simp] theorem Sf.evals_updR (f : FaultReact → FaultReact) : (m.updR f).evals = m.evals := rfl
@[simp] theorem Sf.evals_updOut (k : Nat) (f : SafetyOut → SafetyOut) : (m.updOut k f).evals = m.evals := rfl
theorem Sf.evals_updL {f : Lattice → Lattice} (h : ∀ l, (f l).evals = l.evals) : (m.updL f).evals = m.evals :=
  Prod.ext rfl (h m.lattice)

@[simp] theorem Sf.evals_settle : m.settle.evals = m.evals := m.evals_of_front m.front_settle
@[simp] theorem Sf.evals_lsWait : m.lsWait.evals = m.evals := m.evals_of_front m.front_lsWait
@[simp] theorem Sf.evals_setLockout (b : Bool) : (m.setLockout b).evals = m.evals := m.evals_of_front (m.front_setLockout b)
@[simp] theorem Sf.evals_storeHolds (old : List (FaultSrc × BitVec 6)) : (m.storeHolds old).evals = m.evals :=
  m.evals_of_front (m.front_storeHolds old)

@[simp] theorem Sf.evals_latticeFault (cause : BitVec 3) : (m.latticeFault cause).evals = m.evals := by
  simp only [Sf.latticeFault, Sf.evals_settle, Sf.evals_updR]
  rfl

theorem Sf.evals_clearFaults : m.clearFaults.evals = m.evals := by
  refine foldl_keeps (fun m k => ?_) _ m
  split
  · exact m.evals_updOut k _
  · rfl

theorem Sf.evals_clearLattice : m.clearLattice.evals = m.evals := by
  unfold Sf.clearLattice
  dsimp only
  split <;> rfl

@[simp] theorem Sf.evals_acceptAck : m.acceptAck.evals = m.evals := by
  unfold Sf.acceptAck
  split
  · rfl
  · simp only [Sf.evals_note, apply_ite Sf.evals, Sf.evals_setLockout, ite_self, Sf.evals_updR, Sf.evals_storeHolds,
      Sf.evals_clearLattice, Sf.evals_clearFaults]

theorem Sf.evals_applyPass (snap : Nat → Bool) : (m.applyPass snap).evals = m.evals := by
  rw [Sf.applyPass, Sf.evals_settle, Sf.evals_updL]
  · exact foldl_keeps (fun m k => m.evals_updOut k _) _ m
  · exact fun l => rfl

/-! ### Posts change nothing but what they have last posted -/

/-- SFI without its posts and what it has last posted. -/
def Sf.core (m : Sf) : State × Lattice × FaultReact × Gate × Field :=
  (m.env, { m.lattice with doorLast := [], termLast := 0 }, m.react, m.gate, m.field)

theorem Sf.core_forwardSwitch (n : Nat) : (m.forwardSwitch n).core = m.core := ite_keeps rfl rfl

theorem Sf.core_forwardSwitches : m.forwardSwitches.core = m.core := by
  rw [Sf.forwardSwitches_eq]
  exact foldl_keeps Sf.core_forwardSwitch _ m

theorem Sf.core_postDoor (snap : Nat → Bool) (i : Nat) : (m.postDoor snap i).core = m.core := ite_keeps rfl (ite_keeps rfl rfl)

theorem Sf.evals_of_core {n : Sf} (h : n.core = m.core) : n.evals = m.evals := by
  have hl := congrArg (fun p => p.2.1.evals) h
  exact Prod.ext (show n.core.1 = m.core.1 by rw [h]) hl

/-! ### Outputs that follow R470 -/

/-- Each output is commanded exactly as R470 says. -/
def Sf.Settled (m : Sf) : Prop := ∀ k < 6, (m.out k).on = (m.offCause k == 0)

theorem Sf.settled_settle : m.settle.Settled := fun k hk => by rw [m.settle_on k hk, m.settle_same.offCause]

/-- What R470 looks at, with the commands. -/
def Sf.guards (m : Sf) : State × FaultReact × Gate × Field × LatState × Tbl Word × Tbl SafetyOut :=
  (m.env, m.react, m.gate, m.field, m.lattice.stat, m.lattice.socfg, m.lattice.outs)

variable {m}

theorem Sf.Settled.congr {n : Sf} (hm : m.Settled) (h : n.guards = m.guards) : n.Settled := by
  simp only [Sf.guards, Prod.mk.injEq] at h
  obtain ⟨henv, hreact, hgate, hfield, hstat, hsocfg, houts⟩ := h
  intro k hk
  have hout : n.out k = m.out k := by rw [Sf.out, houts, Sf.out]
  have hcause : n.offCause k = m.offCause k := by
    simp only [Sf.offCause, Lattice.outEn, Sf.gatePasses, Sf.fieldUp, hout, henv, hreact, hgate, hfield, hstat, hsocfg]
    rfl
  rw [hout, hcause, hm k hk]

theorem Sf.Settled.of_core {n : Sf} (hm : m.Settled) (h : n.core = m.core) : n.Settled := by
  simp only [Sf.core, Prod.mk.injEq] at h
  obtain ⟨henv, hlattice, hreact, hgate, hfield⟩ := h
  have hparts := congrArg (fun l : Lattice => (l.stat, l.socfg, l.outs)) hlattice
  refine hm.congr ?_
  rw [Sf.guards, henv, hreact, hgate, hfield]
  exact congrArg (fun p => (m.env, m.react, m.gate, m.field, p)) hparts

theorem Sf.settled_latticeFault (cause : BitVec 3) : (m.latticeFault cause).Settled := Sf.settled_settle _

theorem Sf.settled_applyPass (snap : Nat → Bool) : (m.applyPass snap).Settled := Sf.settled_settle _


theorem Sf.guards_updL {f : Lattice → Lattice} (h : ∀ l, ((f l).stat, (f l).socfg, (f l).outs) = (l.stat, l.socfg, l.outs)) :
    (m.updL f).guards = m.guards :=
  congrArg (fun p => (m.env, m.react, m.gate, m.field, p)) (h m.lattice)

/-! ### The background scan (R456) -/

variable (m)

/-- The scan of a chunk of cells. -/
def Sf.scanChunk (m : Sf) : Sf :=
  let l := m.lattice
  let n := m.updL fun l => { l with scan := (m.lattice.scan + 1) % 32 }
  match l.badCells l.scan with
  | [] => n.updL fun x => { x with scanNoted := x.scanNoted.filter (· != l.scan) }
  | (i, cmp) :: _ =>
    if l.scanNoted.contains l.scan then n
    else
      ((n.updL fun x => { x with scanNoted := l.scan :: x.scanNoted, cellErrs := satInc x.cellErrs }).latticeFault 2).note
        0x0402 (leBytes 2 i ++ leBytes 1 (bit cmp) ++ leBytes 1 (l.badCells l.scan).length)

/-- The check of the master copy after a full round. -/
def Sf.scanMaster (l : Lattice) (m : Sf) : Sf :=
  let crc := crc32 l.masterBytes
  if crc = l.mcrc then m.updL fun l => { l with scanNoted := l.scanNoted.filter (· != 32) }
  else if m.lattice.scanNoted.contains 32 then m
  else
    ((m.updL fun l => { l with scanNoted := 32 :: l.scanNoted }).latticeFault 3).note 0x0403 (wordBytes crc ++ wordBytes l.mcrc)

theorem Sf.scanPass_eq : m.scanPass = if m.lattice.scan ≠ 31 then m.scanChunk else m.scanChunk.scanMaster m.lattice := rfl

/-- A lattice in FAULT stays there. -/
theorem Sf.stat_latticeFault (cause : BitVec 3) (h : m.lattice.stat ≠ .reloading) : (m.latticeFault cause).lattice.stat = .fault := by
  rw [Sf.latticeFault, Sf.settle_lattice]
  exact if_neg (by rwa [beq_iff_eq])

/-- What the scan keeps: the evaluations, outputs that follow R470, and FAULT. -/
structure Sf.Scanned (m n : Sf) : Prop where
  evals   : n.evals = m.evals
  settled : m.Settled → n.Settled
  fault   : m.lattice.stat = .fault → n.lattice.stat = .fault

theorem Sf.Scanned.refl : m.Scanned m := ⟨rfl, id, id⟩

theorem Sf.Scanned.trans {a b c : Sf} (h : a.Scanned b) (g : b.Scanned c) : a.Scanned c :=
  ⟨g.evals.trans h.evals, g.settled ∘ h.settled, g.fault ∘ h.fault⟩

theorem Sf.scanned_updL {f : Lattice → Lattice}
    (h : ∀ l, ((f l).evals, (f l).stat, (f l).socfg, (f l).outs) = (l.evals, l.stat, l.socfg, l.outs)) : m.Scanned (m.updL f) where
  evals := Sf.evals_updL _ fun l => congrArg Prod.fst (h l)
  settled hm := hm.congr (Sf.guards_updL fun l => congrArg Prod.snd (h l))
  fault hm := (congrArg (fun p => p.2.1) (h m.lattice)).trans hm

theorem Sf.scanned_fault (cause : BitVec 3) (code : Nat) (data : List Byte) : m.Scanned ((m.latticeFault cause).note code data) where
  evals := m.evals_latticeFault cause
  settled _ := Sf.settled_latticeFault cause
  fault hm := m.stat_latticeFault cause (by rw [hm]; decide)

theorem Sf.scanned_scanChunk : m.Scanned m.scanChunk := by
  have hscan : m.Scanned (m.updL fun l => { l with scan := (m.lattice.scan + 1) % 32 }) := m.scanned_updL fun _ => rfl
  unfold Sf.scanChunk
  dsimp only
  split
  · exact hscan.trans (Sf.scanned_updL _ fun _ => rfl)
  · split
    · exact hscan
    · refine hscan.trans (.trans ?_ (Sf.scanned_fault _ 2 0x0402 _))
      exact Sf.scanned_updL _ fun _ => rfl

theorem Sf.scanned_scanMaster (l : Lattice) : m.Scanned (m.scanMaster l) := by
  unfold Sf.scanMaster
  dsimp only
  split
  · exact Sf.scanned_updL _ fun _ => rfl
  · split
    · exact .refl m
    · refine .trans ?_ (Sf.scanned_fault _ 3 0x0403 _)
      exact Sf.scanned_updL m fun _ => rfl

theorem Sf.scanned_scanPass : m.Scanned m.scanPass := by
  rw [Sf.scanPass_eq]
  split
  · exact m.scanned_scanChunk
  · exact m.scanned_scanChunk.trans (Sf.scanned_scanMaster ..)

end Sys2Proof.Machine
end

section
/-! SUPPORT. One evaluation of the lattice: what it computes, and when its demands apply (R446, R451 to R458). -/

namespace Sys2Proof.Machine

/-! ### What a pass finds as it begins -/

section
variable (l : Lattice)

/-- A lattice without its memories. -/
def Lattice.frame (l : Lattice) : Lattice := { l with tru := Channel.reset, cmp := Channel.reset, master := [] }

/-- A disturbance changes the memories alone. -/
theorem Lattice.frame_upset (u : Upset) : (l.upset u).frame = l.frame := by
  cases u with
  | cell mem n w b => cases mem <;> rfl
  | out neg n => cases neg <;> rfl
  | timer neg t b => cases neg <;> rfl
  | signal c x => rfl

theorem Lattice.frame_upsets (ups : List Upset) : (ups.foldl Lattice.upset l).frame = l.frame :=
  foldl_keeps (fun l u => l.frame_upset u) ups l

/-- A lattice whose start has ended (R458). -/
def Lattice.entered (ready : Bool) : Lattice := if l.stat == .started && ready then { l with stat := l.service } else l

/-- A lattice that is to apply its demands (R445, R452). -/
def Lattice.applying : Lattice :=
  if l.unapplied then
    { l with first := l.first || l.firstDue, tru := l.tru.restart false l.count, cmp := l.cmp.restart true l.count, initPass := true }
  else { l with first := l.first || l.firstDue }

theorem Lattice.beginPass_eq (ready : Bool) :
    l.beginPass ready = if (l.entered ready).applies then (l.entered ready).applying else l.entered ready := by
  rw [Lattice.beginPass, ← Lattice.entered]
  dsimp only
  cases (l.entered ready).applies <;> rfl

/-- What the beginning of a pass leaves as it stood. -/
def Lattice.counts (l : Lattice) : Word × BitVec 16 × Tbl Word × Tbl SafetyOut := (l.pass, l.mismatches, l.socfg, l.outs)

theorem Lattice.counts_beginPass (ready : Bool) : (l.beginPass ready).counts = l.counts := by
  have hentered : (l.entered ready).counts = l.counts := ite_keeps rfl rfl
  rw [Lattice.beginPass_eq]
  exact ite_keeps ((show (Lattice.applying _).counts = _ from ite_keeps rfl rfl).trans hentered) hentered

theorem Lattice.stat_applying : l.applying.stat = l.stat := ite_keeps rfl rfl

theorem Lattice.applies_of_service : ({ l with stat := l.service } : Lattice).applies = true := by
  rw [Lattice.applies, Lattice.service]
  cases l.reloadReq <;> rfl

/-- Where no demands apply, a pass begins with the lattice as it stands. -/
theorem Lattice.beginPass_of_not_applies {ready : Bool} (h : (l.beginPass ready).applies = false) : l.beginPass ready = l := by
  rw [Lattice.beginPass_eq] at h ⊢
  have hoff : (l.entered ready).applies = false := by
    cases happly : (l.entered ready).applies with
    | false => rfl
    | true =>
      rw [if_pos happly, Lattice.applies, Lattice.stat_applying] at h
      exact happly.symm.trans h
  rw [if_neg (ne_true_of_eq_false hoff)]
  refine if_neg fun hstart => ?_
  rw [Lattice.entered, if_pos hstart, Lattice.applies_of_service] at hoff
  cases hoff

theorem Lattice.stat_beginPass {ready : Bool} (h : l.stat ≠ .reloading) : (l.beginPass ready).stat ≠ .reloading := by
  have hentered : (l.entered ready).stat ≠ .reloading := by
    unfold Lattice.entered
    split
    · show l.service ≠ .reloading
      rw [Lattice.service]
      cases l.reloadReq <;> decide
    · exact h
  rw [Lattice.beginPass_eq]
  split
  · rw [Lattice.stat_applying]
    exact hentered
  · exact hentered

/-- A running lattice that has applied demands goes on as it stands. -/
theorem Lattice.beginPass_of_running {ready : Bool} (hrun : l.stat = .running) (h : l.unapplied = false) :
    l.beginPass ready = { l with first := l.first || l.firstDue } := by
  simp [Lattice.beginPass, Lattice.applies, hrun, h]

end


/-! ### The evaluation of both channels -/

section
variable (m : Sf) (ups : List Upset) (ackp : Bool)

/-- SFI as its evaluation begins. -/
def Sf.begun : Sf := m.updL fun l => ups.foldl Lattice.upset (l.beginPass m.env.start.ready)

/-- SFI with both channels evaluated on the snapshot. -/
def Sf.computed (m : Sf) (ups : List Upset) (ackp : Bool) : Sf :=
  m.updL fun l =>
    { l with tru := m.lattice.tru.eval false m.lattice.initPass (disturbed ups false (m.snapshot ackp)) m.env.passUs m.lattice.count,
             cmp := m.lattice.cmp.eval true m.lattice.initPass (disturbed ups true (m.snapshot ackp)) m.env.passUs m.lattice.count,
             initPass := false, first := false, lastLockout := m.react.lockout, lastAckp := ackp }

/-- The comparison of both channels, and what follows from it (R453, R455). -/
def Sf.compared (st sc : Nat → Bool) : Sf :=
  match m.lattice.differs st sc with
  | some n =>
    ((m.updL fun l => { l with mismatches := satInc l.mismatches }).latticeFault 1).note 0x0401 (m.passBytes ++ leBytes 2 n)
  | none =>
    let n := if m.lattice.applies then m.applyPass st else m
    if m.lattice.stat == .started then n else n.postNvo st

theorem Sf.evaluate_eq : m.evaluate ups ackp =
    (((List.range 4).foldl (Sf.postDoor ((m.begun ups).snapshot ackp)) (((m.begun ups).computed ups ackp).compared
      (disturbed ups false ((m.begun ups).snapshot ackp)) (disturbed ups true ((m.begun ups).snapshot ackp)))).forwardSwitches).scanPass := by
  rw [Sf.evaluate, Sf.compared]
  rfl

variable {m} {st sc : Nat → Bool}

theorem Sf.compared_of_differs {n : Nat} (h : m.lattice.differs st sc = some n) : m.compared st sc =
    ((m.updL fun l => { l with mismatches := satInc l.mismatches }).latticeFault 1).note 0x0401 (m.passBytes ++ leBytes 2 n) := by
  rw [Sf.compared, h]

/-- Evaluations that agree leave what they computed; where demands apply, they are applied (R453). -/
theorem Sf.compared_of_agree (h : m.lattice.differs st sc = none) :
    (m.compared st sc).core = (if m.lattice.applies then m.applyPass st else m).core := by
  rw [Sf.compared, h]
  exact ite_keeps rfl rfl

theorem Sf.evals_compared_of_agree (h : m.lattice.differs st sc = none) : (m.compared st sc).evals = m.evals := by
  rw [Sf.evals_of_core _ (Sf.compared_of_agree h)]
  exact ite_keeps (m.evals_applyPass st) rfl

theorem Sf.settled_compared (hset : m.lattice.applies = false → m.Settled) : (m.compared st sc).Settled := by
  cases h : m.lattice.differs st sc with
  | some n =>
    rw [Sf.compared_of_differs h]
    exact Sf.settled_latticeFault 1
  | none =>
    refine Sf.Settled.of_core ?_ (Sf.compared_of_agree h)
    split
    · exact Sf.settled_applyPass st
    next hoff => exact hset (Bool.eq_false_iff.mpr hoff)

/-- A comparison counts a mismatch, and then the lattice is in FAULT; it leaves the pass and both channels. -/
theorem Sf.compared_spec (hstat : m.lattice.stat ≠ .reloading) :
    (m.compared st sc).env = m.env ∧ (m.compared st sc).lattice.pass = m.lattice.pass ∧ (m.compared st sc).lattice.tru = m.lattice.tru ∧
    (m.compared st sc).lattice.cmp = m.lattice.cmp ∧
    ((m.compared st sc).lattice.mismatches ≠ m.lattice.mismatches → (m.compared st sc).lattice.stat = .fault) := by
  cases h : m.lattice.differs st sc with
  | some n =>
    have hevals := Sf.evals_latticeFault (m.updL fun l => { l with mismatches := satInc l.mismatches }) 1
    rw [Sf.compared_of_differs h]
    exact ⟨congrArg Prod.fst hevals, congrArg (fun p => p.2.1) hevals, congrArg (fun p => p.2.2.2.1) hevals, congrArg (fun p => p.2.2.2.2) hevals,
      fun _ => Sf.stat_latticeFault _ 1 hstat⟩
  | none =>
    have hevals := Sf.evals_compared_of_agree h
    exact ⟨congrArg Prod.fst hevals, congrArg (fun p => p.2.1) hevals, congrArg (fun p => p.2.2.2.1) hevals, congrArg (fun p => p.2.2.2.2) hevals,
      fun hne => absurd (congrArg (fun p => p.2.2.1) hevals) hne⟩

/-- What follows the comparison posts and scans. -/
theorem Sf.scanned_evaluate : ((((m.begun ups).computed ups ackp).compared (disturbed ups false ((m.begun ups).snapshot ackp))
    (disturbed ups true ((m.begun ups).snapshot ackp)))).Scanned (m.evaluate ups ackp) := by
  have hcore (snap : Nat → Bool) (n : Sf) : (((List.range 4).foldl (Sf.postDoor snap) n).forwardSwitches).core = n.core :=
    (Sf.core_forwardSwitches _).trans (foldl_keeps (fun n i => n.core_postDoor snap i) _ n)
  have hposts (snap : Nat → Bool) (n : Sf) : n.Scanned ((List.range 4).foldl (Sf.postDoor snap) n).forwardSwitches :=
    ⟨Sf.evals_of_core _ (hcore snap n), fun h => h.of_core (hcore snap n),
      fun h => (congrArg (fun p => p.2.1.stat) (hcore snap n)).trans h⟩
  rw [Sf.evaluate_eq]
  exact (hposts _ _).trans (Sf.scanned_scanPass _)

theorem Sf.counts_begun : (m.begun ups).lattice.counts = m.lattice.counts :=
  (congrArg Lattice.counts (Lattice.frame_upsets _ ups) : _).trans (m.lattice.counts_beginPass m.env.start.ready)

theorem Sf.stat_begun : (m.begun ups).lattice.stat = (m.lattice.beginPass m.env.start.ready).stat :=
  (congrArg Lattice.stat (Lattice.frame_upsets _ ups) :)

/-- One evaluation from outputs that follow R470. -/
theorem Sf.evaluate_spec (hset : m.Settled) (hstat : m.lattice.stat ≠ .reloading) :
    (m.evaluate ups ackp).Settled ∧ (m.evaluate ups ackp).env = m.env ∧ (m.evaluate ups ackp).lattice.pass = m.lattice.pass ∧
    ((m.evaluate ups ackp).lattice.mismatches ≠ m.lattice.mismatches → (m.evaluate ups ackp).lattice.stat = .fault) := by
  have hcounts : (m.begun ups).lattice.counts = m.lattice.counts := Sf.counts_begun ups
  have hstat' : ((m.begun ups).computed ups ackp).lattice.stat ≠ .reloading := by
    show (m.begun ups).lattice.stat ≠ .reloading
    rw [Sf.stat_begun]
    exact Lattice.stat_beginPass _ hstat
  have hset' (h : ((m.begun ups).computed ups ackp).lattice.applies = false) : ((m.begun ups).computed ups ackp).Settled := by
    refine Sf.Settled.congr (m := m) hset ?_
    have hoff : (m.lattice.beginPass m.env.start.ready).applies = false := by
      rw [Lattice.applies, ← Sf.stat_begun ups]
      exact h
    have hbegin : (m.begun ups).lattice.stat = m.lattice.stat := by
      rw [Sf.stat_begun, Lattice.beginPass_of_not_applies _ hoff]
    have hparts := congrArg (fun c : Word × BitVec 16 × Tbl Word × Tbl SafetyOut => c.2.2) hcounts
    show ((m.env, m.react, m.gate, m.field, (m.begun ups).lattice.stat, (m.begun ups).lattice.counts.2.2) :
      State × FaultReact × Gate × Field × LatState × Tbl Word × Tbl SafetyOut) = _
    rw [hbegin, hcounts]
    rfl
  have hscan := Sf.scanned_evaluate (m := m) ups ackp
  obtain ⟨henv, hpass, -, -, hmis⟩ := Sf.compared_spec (st := disturbed ups false ((m.begun ups).snapshot ackp))
    (sc := disturbed ups true ((m.begun ups).snapshot ackp)) hstat'
  have hkept := hscan.evals
  simp only [Sf.evals, Lattice.evals, Prod.mk.injEq] at hkept
  simp only [Lattice.counts, Prod.mk.injEq] at hcounts
  refine ⟨hscan.settled (Sf.settled_compared hset'), hkept.1.trans henv, hkept.2.1.trans (hpass.trans hcounts.1), fun hne => hscan.fault (hmis ?_)⟩
  rw [hkept.2.2.1] at hne
  exact fun heq => hne (heq.trans hcounts.2.1)

/-- The evaluation of a running lattice that no disturbance meets (R446, R451). -/
theorem Sf.evaluate_of_running (hrun : m.lattice.stat = .running) (happly : m.lattice.unapplied = false) :
    ∃ snap : Nat → Bool,
      (m.evaluate [] ackp).lattice.tru = m.lattice.tru.eval false m.lattice.initPass snap m.env.passUs m.lattice.count ∧
      (m.evaluate [] ackp).lattice.cmp = m.lattice.cmp.eval true m.lattice.initPass snap m.env.passUs m.lattice.count ∧
      snap 0x4F0 = false ∧ snap 0x4F1 = true ∧ snap 0x4C0 = m.env.fieldUp ∧ (∀ n < 24, snap (0x400 + n) = m.si n) ∧
      (∀ c < 8, snap (0x480 + c) = m.ct c) := by
  have hbegin : m.begun [] = m.updL fun l => { l with first := l.first || l.firstDue } := by
    rw [Sf.begun, Sf.updL, List.foldl_nil, Lattice.beginPass_of_running _ hrun happly]
    rfl
  have hcalm (neg : Bool) (snap : Nat → Bool) : disturbed [] neg snap = snap := funext fun a => Bool.xor_false (snap a)
  have hscan := (Sf.scanned_evaluate (m := m) [] ackp).evals
  simp only [Sf.evals, Lattice.evals, Prod.mk.injEq] at hscan
  obtain ⟨-, -, htru, hcmp, -⟩ := Sf.compared_spec (m := (m.begun []).computed [] ackp)
    (st := disturbed [] false ((m.begun []).snapshot ackp)) (sc := disturbed [] true ((m.begun []).snapshot ackp))
    (by rw [hbegin]; show m.lattice.stat ≠ _; rw [hrun]; decide)
  refine ⟨(m.begun []).snapshot ackp, hscan.2.2.2.1.trans (htru.trans ?_), hscan.2.2.2.2.trans (hcmp.trans ?_), ?_⟩
  · rw [Sf.computed, hcalm false, hbegin]
    rfl
  · rw [Sf.computed, hcalm true, hbegin]
    rfl
  · rw [hbegin]
    refine ⟨rfl, rfl, rfl, fun n hn => ?_, fun c hc => ?_⟩
    · simp only [Sf.snapshot]
      rw [if_pos (by omega), Nat.add_sub_cancel_left]
      rfl
    · simp only [Sf.snapshot]
      iterate 4 rw [if_neg (by omega)]
      rw [if_pos (by omega), Nat.add_sub_cancel_left]
      rfl

end

end Sys2Proof.Machine
end

section
/-! SUPPORT. A whole pass, and the device behind it (R453, R457, R470, R603). -/

namespace Sys2Proof.Machine

/-! ### The pass -/

section
variable (m : Sf)

/-- An update of an output that touches what waits for LS alone. -/
theorem Sf.settled_updOut {k : Nat} {f : SafetyOut → SafetyOut} (hcause : ∀ o, (f o).cause = o.cause) (hon : ∀ o, (f o).on = o.on)
    (h : m.Settled) : (m.updOut k f).Settled := by
  have hout (j : Nat) : (m.updOut k f).out j = if k = j then f (m.out j) else m.out j := Tbl.get_modify ..
  have hsame : m.SameBut (m.updOut k f) := by
    refine ⟨rfl, rfl, rfl, rfl, rfl, rfl, fun j => ?_⟩
    rw [hout]
    exact ite_keeps (p := SafetyOut.cause) (hcause _) rfl
  intro j hj
  rw [hsame.offCause, hout, ← h j hj]
  exact ite_keeps (p := SafetyOut.on) (hon _) rfl

theorem Sf.settled_lsWait (h : m.Settled) : m.lsWait.Settled := by
  have hfold (ks : List Nat) (m : Sf) (h : m.Settled) :
      (ks.foldl (fun m k => m.updOut k fun o => { o with lsDue := o.lsCmd }) m).Settled := by
    induction ks generalizing m with
    | nil => exact h
    | cons k ks ih => exact ih _ (m.settled_updOut (fun _ => rfl) (fun _ => rfl) h)
  exact hfold _ m h

theorem Sf.stat_lsWait : m.lsWait.lattice.stat = m.lattice.stat := (congrArg (fun p => p.2.1.stat) m.front_lsWait :)

theorem Sf.evals_endPass : m.endPass.evals = m.evals := by
  rw [Sf.endPass, Sf.evals_updL]
  · exact m.evals_lsWait
  · exact fun _ => rfl

theorem Sf.settled_endPass (h : m.Settled) : m.endPass.Settled :=
  (m.settled_lsWait h).congr (Sf.guards_updL fun _ => rfl)

theorem Sf.stat_endPass : m.endPass.lattice.stat = m.lattice.stat := m.stat_lsWait

theorem Sf.evals_answered : m.boundary.answered.evals = (m.env, m.lattice.pass + 1, m.lattice.mismatches, m.lattice.tru, m.lattice.cmp) := by
  rw [Sf.answered, Sf.evals_settle, Sf.evals_acceptAck, Sf.evals_of_front _ m.front_boundary]
  rfl

/-- A pass counts, leaves the outputs as R470 says, and a mismatch puts the lattice into FAULT. -/
theorem Sf.pass_spec (ups : List Upset) :
    (m.pass ups).Settled ∧ (m.pass ups).env = m.env ∧ (m.pass ups).lattice.pass = m.lattice.pass + 1 ∧
    ((m.pass ups).lattice.mismatches ≠ m.lattice.mismatches → (m.pass ups).lattice.stat = .fault) := by
  have hset : m.boundary.answered.Settled := Sf.settled_settle _
  have hevals := m.evals_answered
  simp only [Sf.evals, Lattice.evals, Prod.mk.injEq] at hevals
  obtain ⟨henv, hpass, hmis, -⟩ := hevals
  cases hstill : m.boundary.answered.lattice.stat == .reloading || m.boundary.answered.env.quarantined 1 with
  | true =>
    rw [m.pass_of_still ups hstill]
    have hkept := m.boundary.answered.evals_lsWait
    simp only [Sf.evals, Lattice.evals, Prod.mk.injEq] at hkept
    exact ⟨Sf.settled_lsWait _ hset, hkept.1.trans henv, hkept.2.1.trans hpass, fun hne => absurd (hkept.2.2.1.trans hmis) hne⟩
  | false =>
    rw [m.pass_of_evaluating ups hstill]
    have hstat : m.boundary.answered.lattice.stat ≠ .reloading := (by simpa using hstill : _ ∧ _).1
    obtain ⟨hsettled, henv', hcount, hfault⟩ := Sf.evaluate_spec ups m.boundary.react.ackOwed.isSome hset hstat
    have hkept := (m.boundary.answered.evaluate ups m.boundary.react.ackOwed.isSome).evals_endPass
    simp only [Sf.evals, Lattice.evals, Prod.mk.injEq] at hkept
    refine ⟨Sf.settled_endPass _ hsettled, hkept.1.trans (henv'.trans henv), hkept.2.1.trans (hcount.trans hpass), fun hne => ?_⟩
    rw [Sf.stat_endPass]
    exact hfault fun heq => hne (hkept.2.2.1.trans (heq.trans hmis))

/-- What the boundary leaves for the evaluation of a running lattice. -/
theorem Sf.evaluate_of_front {n : Sf} (hfront : n.front = (m.updL fun l => { l with pass := l.pass + 1 }).front)
    (hrun : m.lattice.stat = .running) (happly : m.lattice.unapplied = false) (ackp : Bool) :
    ∃ snap : Nat → Bool,
      (n.evaluate [] ackp).endPass.lattice.tru = m.lattice.tru.eval false m.lattice.initPass snap m.env.passUs m.lattice.count ∧
      (n.evaluate [] ackp).endPass.lattice.cmp = m.lattice.cmp.eval true m.lattice.initPass snap m.env.passUs m.lattice.count ∧
      snap 0x4F0 = false ∧ snap 0x4F1 = true ∧ snap 0x4C0 = m.env.fieldUp ∧ (∀ n < 24, snap (0x400 + n) = m.si n) ∧
      (∀ c < 8, snap (0x480 + c) = m.ct c) := by
  have henv : n.env = m.env := (congrArg Prod.fst hfront :)
  have hlattice := congrArg (fun p => p.2.1) hfront
  have hstat : n.lattice.stat = m.lattice.stat := (congrArg Lattice.stat hlattice :)
  have hunapplied : n.lattice.unapplied = m.lattice.unapplied := (congrArg Lattice.unapplied hlattice :)
  have htru : n.lattice.tru = m.lattice.tru := (congrArg Lattice.tru hlattice :)
  have hcmp : n.lattice.cmp = m.lattice.cmp := (congrArg Lattice.cmp hlattice :)
  have hinit : n.lattice.initPass = m.lattice.initPass := (congrArg Lattice.initPass hlattice :)
  have hcount : n.lattice.count = m.lattice.count := (congrArg Lattice.count hlattice :)
  have htaps : n.lattice.taps = m.lattice.taps := (congrArg Lattice.taps hlattice :)
  have hsi (k : Nat) : n.si k = m.si k :=
    (congrArg (fun l : Lattice => (l.inputs.get SafetyIn.reset k).value (l.siMode k)) hlattice :)
  have hct (c : Nat) : n.ct c = m.ct c := by rw [Sf.ct, Sf.ct, henv, htaps]
  obtain ⟨snap, hevalTru, hevalCmp, hzero, hone, hfield, hin, htap⟩ :=
    Sf.evaluate_of_running (m := n) ackp (hstat.trans hrun) (hunapplied.trans happly)
  have hend := (n.evaluate [] ackp).evals_endPass
  simp only [Sf.evals, Lattice.evals, Prod.mk.injEq] at hend
  obtain ⟨-, -, -, hendTru, hendCmp⟩ := hend
  rw [htru, hinit, henv, hcount] at hevalTru
  rw [hcmp, hinit, henv, hcount] at hevalCmp
  rw [henv] at hfield
  exact ⟨snap, hendTru.trans hevalTru, hendCmp.trans hevalCmp, hzero, hone, hfield, fun k hk => (hin k hk).trans (hsi k),
    fun c hc => (htap c hc).trans (hct c)⟩

theorem Sf.ackOwed_of_front {n n' : Sf} (h : n.front = n'.front) : n.react.ackOwed = n'.react.ackOwed :=
  (congrArg (fun p => p.2.2) h :)

theorem Sf.env_of_front {n n' : Sf} (h : n.front = n'.front) : n.env = n'.env := (congrArg Prod.fst h :)

theorem Sf.stat_of_front {n n' : Sf} (h : n.front = n'.front) : n.lattice.stat = n'.lattice.stat :=
  (congrArg (fun p => p.2.1.stat) h :)

/-- The pass of a running lattice without a press (R446, R451). -/
theorem Sf.pass_of_running (hq : m.env.quarantined 1 = false) (hrun : m.lattice.stat = .running) (happly : m.lattice.unapplied = false)
    (hack : m.react.ackOwed = none) :
    ∃ snap : Nat → Bool,
      (m.pass []).lattice.tru = m.lattice.tru.eval false m.lattice.initPass snap m.env.passUs m.lattice.count ∧
      (m.pass []).lattice.cmp = m.lattice.cmp.eval true m.lattice.initPass snap m.env.passUs m.lattice.count ∧
      snap 0x4F0 = false ∧ snap 0x4F1 = true ∧ snap 0x4C0 = m.env.fieldUp ∧ (∀ n < 24, snap (0x400 + n) = m.si n) ∧
      (∀ c < 8, snap (0x480 + c) = m.ct c) := by
  have hack' : m.boundary.react.ackOwed = none := (Sf.ackOwed_of_front m.front_boundary).trans hack
  have hpress : m.boundary.acceptAck = m.boundary := by rw [Sf.acceptAck, hack']
  have hfront : m.boundary.answered.front = (m.updL fun l => { l with pass := l.pass + 1 }).front := by
    rw [Sf.answered, hpress, Sf.front_settle, Sf.front_boundary]
  have hstill : (m.boundary.answered.lattice.stat == .reloading || m.boundary.answered.env.quarantined 1) = false := by
    rw [Sf.stat_of_front hfront, Sf.env_of_front hfront]
    exact Bool.or_eq_false_iff.mpr ⟨beq_false_of_ne (hrun.trans_ne (by decide)), hq⟩
  rw [m.pass_of_evaluating [] hstill]
  exact m.evaluate_of_front hfront hrun happly _

end

/-! ### What follows a pass in the device -/

/-- What R470 looks at in the device. -/
def State.safety (s : State) : Lattice × FaultReact × LeaseState × Field × Option Image × Persist × Supplies :=
  (s.lattice, s.react, s.gate.stat, s.field, s.image, s.persist, s.supplies)

section
variable (s : State)

theorem State.safety_note (code : Nat) (data : List Byte) : (s.note code data).safety = s.safety := rfl

theorem State.safety_dropEpoch : s.dropEpoch.safety = s.safety := by
  unfold State.dropEpoch
  split
  · rfl
  · exact ite_keeps rfl rfl

theorem State.safety_followLease (was : LeaseState) : (s.followLease was).safety = s.safety := by
  refine ite_keeps ?_ (ite_keeps (ite_keeps (p := fun t : State => State.safety { t with rescue := t.rescue.follow true }) rfl rfl) rfl)
  exact (State.safety_dropEpoch _).trans rfl

theorem State.safety_leaseDecided : s.leaseDecided.safety = s.safety := ite_keeps rfl rfl

theorem State.safety_followGate (was : LeaseState) : (s.followGate was).safety = s.safety :=
  (State.safety_leaseDecided _).trans (s.safety_followLease was)

theorem State.safety_takeNvo : s.takeNvo.safety = s.safety := by
  unfold State.takeNvo
  dsimp only
  split <;> rfl

theorem State.safety_handAbort (reason : Nat) : (s.handAbort reason).safety = s.safety :=
  ite_keeps (p := fun m => (s.withSf m).safety) rfl rfl

theorem State.safety_handStep : s.handStep.safety = s.safety := by
  unfold State.handStep
  dsimp only
  split
  · rfl
  · exact ite_keeps rfl (s.safety_handAbort _)
  · rfl

theorem exec_latticePass (ups : List Upset) : exec (.latticePass ups) s =
    .next (if s.latticeRuns then ((s.runGate true fun m => m.pass ups).takeNvo).handStep else s) := rfl

/-- The device behind a pass. -/
def State.afterPass (ups : List Upset) : State := ((s.runGate true fun m => m.pass ups).takeNvo).handStep

theorem State.safety_afterPass (ups : List Upset) : (s.afterPass ups).safety = (s.withSf (s.sf.pass ups)).safety := by
  rw [State.afterPass, State.safety_handStep, State.safety_takeNvo, State.runGate, State.safety_followGate]
  rfl

theorem State.lattice_afterPass (ups : List Upset) : (s.afterPass ups).lattice = (s.sf.pass ups).lattice :=
  congrArg Prod.fst (s.safety_afterPass ups)

end

/-- R470 looks at nothing of the device but this. -/
theorem State.offCause_of_safety {t : State} {m : Sf} (h : t.safety = (m.env.withSf m).safety) (k : Nat) :
    t.sf.offCause k = m.offCause k := by
  simp only [State.safety, Prod.mk.injEq] at h
  obtain ⟨hlattice, hreact, hgate, hfield, himage, hpersist, hsupplies⟩ := h
  have hpads : t.outPads k = m.env.outPads k := by
    simp only [State.outPads, State.padUsed, himage]
    rfl
  have hblock (b : Nat) : t.quarantined b = m.env.quarantined b := by rw [State.quarantined, hpersist]; rfl
  have hlease : t.leaseImage = m.env.leaseImage := by rw [State.leaseImage, State.tile, himage]; rfl
  simp only [Sf.offCause, Sf.gatePasses, Sf.fieldUp, Sf.out, State.sf, hlattice, hreact, hgate, hfield, hsupplies, hpads, hblock, hlease]
  rfl

/-- A pass of the device (R453, R455, R470). -/
theorem latticePass_spec {s : State} (ups : List Upset) (h : s.latticeRuns = true) :
    Completes (.latticePass ups) s fun t =>
      t.lattice.pass = s.lattice.pass + 1 ∧
      (∀ k < 6, (t.lattice.outs.get SafetyOut.reset k).on = (t.sf.offCause k == 0)) ∧
      (t.lattice.mismatches ≠ s.lattice.mismatches → t.lattice.stat = .fault) := by
  obtain ⟨hset, henv, hpass, hfault⟩ := s.sf.pass_spec ups
  refine ⟨s.afterPass ups, by rw [exec_latticePass, if_pos h]; rfl, ?_⟩
  have hcause (k : Nat) : (s.afterPass ups).sf.offCause k = (s.sf.pass ups).offCause k :=
    State.offCause_of_safety (by rw [henv]; exact s.safety_afterPass ups) k
  beta_reduce
  rw [s.lattice_afterPass ups]
  exact ⟨hpass, fun k hk => by rw [hcause]; exact hset k hk, hfault⟩

end Sys2Proof.Machine
end

section
/-! SUPPORT. Timers, reloads and counters of the lattice: the rows beside the pass (R450, R457, R478, R501). -/

namespace Sys2Proof.Machine

/-! ### What each row runs -/

section
variable (s : State)

theorem exec_latticeTimerExpire (t : Fin 64) : exec (.latticeTimerExpire t) s =
    .next (if s.latticeRuns then { s with lattice := s.lattice.timerExpire s.passUs t.val } else s) := rfl

theorem exec_latticeReloadStart : exec .latticeReloadStart s =
    .next (s.runSf (s.lattice.reloadReq && s.lattice.stat != .reloading && s.sf.reloadReason == 0) fun m => m.startReload) := rfl

theorem exec_latReload : exec .latReload s = .next (s.runSf s.sfiUp Sf.endReload) := rfl

/-- The device behind an accepted write of SFI_LATCTL. -/
def State.afterLatctl (w : Word) : State := s.acceptRwl .SFI_LATCTL [] w

theorem State.afterLatctl_eq (w : Word) :
    s.afterLatctl w = { s.withSf (s.sf.writeLatctl w) with persist := (s.afterLatctl w).persist } := rfl

end

/-! ### Reloads (R457, R501) -/

section
variable {m : Sf}

theorem Sf.writeLatctl_reload {w : Word} (h : w.getLsbD 1 = false) : m.writeLatctl (w ||| 1) = m.requestReload := by
  have hclear : (w ||| 1).getLsbD 1 = false := by rw [BitVec.getLsbD_or, h]; rfl
  have hreload : (w ||| 1).getLsbD 0 = true := by rw [BitVec.getLsbD_or]; exact Bool.or_true _
  simp only [Sf.writeLatctl, hclear, hreload]
  rfl

/-- A reload opens every output as it begins. -/
theorem Sf.startReload_spec (h : m.lattice.stat = .running ∨ m.lattice.stat = .deferred) :
    m.startReload.lattice.stat = .reloading ∧ m.startReload.lattice.reloadFrom = .running ∧
    m.startReload.lattice.reloadReq = false ∧ ∀ k < 6, (m.startReload.lattice.outs.get SafetyOut.reset k).on = false := by
  have hopen (n : Sf) (hn : n.lattice.stat = .reloading) (k : Nat) (hk : k < 6) : (n.settle.out k).on = false := by
    rw [n.settle_on k hk, beq_eq_false_iff_ne, Sf.offCause, hn]
    split
    · decide
    · exact (by decide : (7 : Nat) ≠ 0)
  refine ⟨?_, ?_, ?_, fun k hk => hopen _ rfl k hk⟩
  · rw [Sf.startReload, Sf.settle_lattice]
    rfl
  · rw [Sf.startReload, Sf.settle_lattice]
    obtain h | h := h <;> simp [Sf.updL, h]
  · rw [Sf.startReload, Sf.settle_lattice]
    rfl

variable (hrun : m.lattice.stat = .running) (hreq : m.lattice.reloadReq = false) (htest : m.react.underTest 1 = false)
  (hq : m.env.quarantined 1 = false)
include hrun hreq htest hq

theorem Sf.requestReload_of_ready (hwhy : m.reloadReason = 0) : m.requestReload = m.startReload := by
  simp [Sf.requestReload, hrun, hreq, htest, hq, hwhy]

theorem Sf.requestReload_of_waiting (hwhy : m.reloadReason ≠ 0) : m.requestReload =
    ((m.updL fun l => { l with reloadReq := true, stat := .deferred }).note 0x0404 [1]).note 0x0414 [2, BitVec.ofNat 8 m.reloadReason] := by
  simp [Sf.requestReload, hrun, hreq, htest, hq, hwhy, Sf.updL]

end

/-- A reload ends with both memories from the master (R457). -/
theorem Sf.endReload_spec {m : Sf} (h : m.lattice.stat = .reloading) :
    m.endReload.lattice.stat = m.lattice.reloadFrom ∧ m.endReload.lattice.initPass = true ∧
    m.endReload.lattice.tru.cells = m.lattice.master ∧
    m.endReload.lattice.cmp.cells = m.lattice.master.map (fun e => (e.1, e.2.not)) ∧
    m.endReload.lattice.first = true ∧ m.endReload.lattice.firstDue = true := by
  rw [Sf.endReload, if_pos (by rw [h]; rfl), Sf.settle_lattice]
  exact ⟨rfl, rfl, rfl, rfl, rfl, rfl⟩

/-! ### CLRCNT (R478) -/

section
variable (m : Sf)

theorem Sf.writeLatctl_clear {w : Word} (h : w.getLsbD 0 = false) : m.writeLatctl (w ||| 2) = m.clearCounts := by
  have hclear : (w ||| 2).getLsbD 1 = true := by rw [BitVec.getLsbD_or]; exact Bool.or_true _
  have hreload : (w ||| 2).getLsbD 0 = false := by rw [BitVec.getLsbD_or, h]; rfl
  simp only [Sf.writeLatctl, hclear, hreload]
  rfl

/-- An output with its counts cleared. -/
def SafetyOut.cleared (o : SafetyOut) : SafetyOut := { o with passed := 0, discarded := 0 }

/-- The first outputs are cleared, nothing else. -/
theorem Sf.clearOutputs (k : Nat) (m : Sf) :
    (List.range k).foldl (fun m k => m.updOut k SafetyOut.cleared) m =
      (m.updL fun l => { l with outs := ((List.range k).foldl (fun m k => m.updOut k SafetyOut.cleared) m).lattice.outs }) ∧
    ∀ j, ((List.range k).foldl (fun m k => m.updOut k SafetyOut.cleared) m).out j = if j < k then (m.out j).cleared else m.out j := by
  induction k with
  | zero => exact ⟨rfl, fun j => (if_neg (Nat.not_lt_zero j)).symm⟩
  | succ k ih =>
    obtain ⟨heq, hout⟩ := ih
    rw [List.range_succ, List.foldl_append, List.foldl_cons, List.foldl_nil]
    refine ⟨?_, fun j => ?_⟩
    · rw [heq]
      rfl
    · rw [show (Sf.updOut _ k SafetyOut.cleared).out j = _ from Tbl.get_modify .., ← Sf.out, hout]
      split
      next hkj =>
        subst hkj
        rw [if_neg (Nat.lt_irrefl k), if_pos (Nat.lt_succ_self k)]
      next hne =>
        by_cases hlt : j < k
        · rw [if_pos hlt, if_pos (by omega)]
        · rw [if_neg hlt, if_neg (by omega)]

theorem Sf.clearCounts_spec :
    m.clearCounts = (m.updL fun l => { l with mismatches := 0, cellErrs := 0, outs := m.clearCounts.lattice.outs }) ∧
    ∀ k < 6, m.clearCounts.out k = (m.out k).cleared := by
  obtain ⟨heq, hout⟩ := Sf.clearOutputs 6 (m.updL fun l => { l with mismatches := 0, cellErrs := 0 })
  exact ⟨heq, fun k hk => (hout k).trans (if_pos hk)⟩

end


/-! ### Timers (R450) -/

/-- A timer that ends stands at PRESET on both channels. -/
theorem Lattice.timerExpire_of_due {l : Lattice} {per t p : Nat} {e : BitVec 28} (hp : l.timerPreset t = some p)
    (htru : l.tru.timerAt false t = (true, e)) (hcmp : l.cmp.timerAt true t = (true, e)) (hdue : p ≤ e.toNat + per) :
    l.timerExpire per t = { l with tru := l.tru.setTimer false t (true, BitVec.ofNat 28 p),
                                   cmp := l.cmp.setTimer true t (true, BitVec.ofNat 28 p) } := by
  simp [Lattice.timerExpire, hp, htru, hcmp, hdue]

theorem Lattice.timerExpire_of_none {l : Lattice} {per t : Nat} (h : l.timerPreset t = none) : l.timerExpire per t = l := by
  simp only [Lattice.timerExpire, h]

/-- Settles O42: a pass through what each of its steps keeps, the cells by induction on their order, and the rows beside the pass. -/
theorem latticePassesAndReloads : Obligations.LatticePassesAndReloads := by
  unfold Obligations.LatticePassesAndReloads
  intro s
  refine ⟨fun ups h => latticePass_spec ups h, fun h hq hrun happly hack => ?running,
    fun c neg first snap per count n hn => ?cells, fun ups h => ?noPass, fun t p e h hp hsmall htru hcmp hdue => ?timer,
    fun t h => ?noTimer, fun w hopen hw hrun hreq htest hq hwhy => ?reload, fun w hopen hw hrun hreq htest hq hwhy => ?deferred,
    fun hreq hstat hwhy => ?start, fun h => ?noStart, fun hup hstat => ?ends, fun h => ?noEnd, fun w hopen hw => ?clear⟩
  case running =>
    refine ⟨s.afterPass [], by rw [exec_latticePass, if_pos h]; rfl, ?_⟩
    beta_reduce
    rw [s.lattice_afterPass []]
    exact s.sf.pass_of_running hq hrun happly hack
  case cells =>
    intro x r q sig f fp e grown
    obtain ⟨hbefore, hvalue⟩ := c.value_eval_cell neg first snap per n hn (sig := sig) rfl
    refine ⟨hbefore, fun hm => hvalue.trans (cellStage_comb _ _ hm), fun hm => hvalue.trans (cellStage_setLatch _ _ hm),
      fun hm => hvalue.trans (cellStage_resetLatch _ _ hm), fun hm => hvalue.trans (cellStage_edge _ _ hm), fun hothers => ?_⟩
    rw [Channel.timerAt_eval_of_unmoved _ _ _ _ _ fun m hm ht => Cell.timed_of_mode (hothers m hm ht)] at hvalue
    exact ⟨fun hm => hvalue.trans (cellStage_delayOn _ _ hm), fun hm => hvalue.trans (cellStage_delayOff _ _ hm),
      fun hm => hvalue.trans (cellStage_pulse _ _ hm)⟩
  case noPass => rw [exec_latticePass, if_neg (ne_true_of_eq_false h)]
  case timer =>
    refine ⟨_, by rw [exec_latticeTimerExpire, if_pos h, Lattice.timerExpire_of_due hp htru hcmp hdue], ?_, ?_, rfl⟩
    · exact Channel.timerAt_setTimer_self ..
    · exact Channel.timerAt_setTimer_self ..
  case noTimer =>
    obtain h | h := h
    · rw [exec_latticeTimerExpire, if_neg (ne_true_of_eq_false h)]
    · rw [exec_latticeTimerExpire, Lattice.timerExpire_of_none h, ite_self]
  case reload =>
    refine ⟨s.afterLatctl (w ||| 1), rwlRow_accepted rfl hopen, ?_⟩
    rw [s.afterLatctl_eq, Sf.writeLatctl_reload hw, Sf.requestReload_of_ready hrun hreq htest hq hwhy]
    exact Sf.startReload_spec (.inl hrun)
  case deferred =>
    refine ⟨s.afterLatctl (w ||| 1), rwlRow_accepted rfl hopen, ?_⟩
    rw [s.afterLatctl_eq, Sf.writeLatctl_reload hw, Sf.requestReload_of_waiting hrun hreq htest hq hwhy]
    exact ⟨rfl, rfl, rfl⟩
  case start =>
    refine ⟨_, by rw [exec_latticeReloadStart, State.runSf_of_up _ (by rw [hreq, hstat, hwhy]; rfl)], ?_⟩
    exact Sf.startReload_spec (.inr hstat)
  case noStart =>
    rw [exec_latticeReloadStart, State.runSf_of_down]
    obtain h | h := h
    · rw [h]
      rfl
    · rw [beq_false_of_ne h, Bool.and_false]
  case ends =>
    exact ⟨_, by rw [exec_latReload, State.runSf_of_up _ hup], Sf.endReload_spec hstat⟩
  case noEnd =>
    rw [exec_latReload]
    cases hup : s.sfiUp with
    | false => rw [State.runSf_of_down _ rfl]
    | true =>
      rw [State.runSf_of_up _ rfl, Sf.endReload, if_neg (by rw [beq_iff_eq]; exact h)]
      rfl
  case clear =>
    obtain ⟨heq, hout⟩ := s.sf.clearCounts_spec
    refine ⟨s.afterLatctl (w ||| 2), rwlRow_accepted rfl hopen, ?_⟩
    rw [s.afterLatctl_eq, Sf.writeLatctl_clear _ hw]
    refine ⟨?_, ?_, hout, ?_⟩ <;> rw [heq] <;> rfl

end Sys2Proof.Machine
end

section
/-! SUPPORT. A sent frame that makes room for an acknowledgement of the copy link (R533, R595). -/

namespace Sys2Proof.Machine

/-- CAN controller 0 sends the host's entry while an acknowledgement of the copy link waits for that controller's queue. -/
def ackWaits : State :=
  let s := Fx.can 0x11 [Fx.entry 1]
  { s with copy := { s.copy with ackTodo := [Fx.bytes64 3 0 4] } }

theorem exec_canTxAttemptEnd (n : Fin 3) (out : TxOutcome) (s : State) :
    exec (.canTxAttemptEnd n out) s = .next (s.runBc (s.canTalks n.val) fun m => m.attemptEnd n.val out) := rfl

/-- Refutes O46: its clause on a sent frame leaves out the copy link's frames, which enter the queue of their controller as
soon as that has room (R533, R595). Here the acknowledgement that waits becomes the queue's only entry, where the statement
wants the queue empty. -/
theorem not_canFramesAreQueuedAndSent : ¬ Obligations.CanFramesAreQueuedAndSent := by
  unfold Obligations.CanFramesAreQueuedAndSent
  intro h
  obtain ⟨hup, -⟩ := h ackWaits 0
  obtain ⟨-, -, -, -, -, hsent, -⟩ := hup (by decide +kernel)
  obtain ⟨t, hexec, hqueue, -⟩ :=
    hsent (Fx.entry 1) [] { ago := 0, clk := 0 } (by decide +kernel) (by decide +kernel) (by decide +kernel) rfl rfl
  obtain rfl := Host.Outcome.next.inj ((exec_canTxAttemptEnd 0 _ ackWaits).symm.trans hexec)
  exact absurd (congrArg List.length hqueue) (by decide +kernel)

end Sys2Proof.Machine
end

section
/-! SUPPORT. A lease whose end still lies ahead (R583). -/

namespace Sys2Proof.Machine

/-- The gate holds a lease that ends 10 000 µs after device time. -/
def leaseAhead : State :=
  { Fx.atLease2 with gate := { Fx.atLease2.gate with exp := lowWord Fx.atLease2.dev + 10000 } }

theorem exec_leaseExpiry (s : State) :
    exec .leaseExpiry s = .next (s.runGate s.sfiUp fun m => m.leaseDrain.leaseCheck) := rfl

/-- Refutes O50: its clause on the expiry row leaves out that the held lease has run out (R583). Here the lease ends 10 000 µs
later, so the row leaves the gate ACTIVE, where the statement wants it SEEKING. -/
theorem not_leasesAreIssuedHeldAndLost : ¬ Obligations.LeasesAreIssuedHeldAndLost := by
  unfold Obligations.LeasesAreIssuedHeldAndLost
  intro h
  obtain ⟨-, -, -, -, -, hexpiry, -⟩ := h leaseAhead
  obtain ⟨t, hexec, hseeking, -⟩ := hexpiry (by decide +kernel) (by decide +kernel) (by decide +kernel)
  obtain rfl := Host.Outcome.next.inj ((exec_leaseExpiry leaseAhead).symm.trans hexec)
  exact absurd hseeking (by decide +kernel)

end Sys2Proof.Machine
end

section
/-! SUPPORT. A copy frame that begins an assembly while both epoch buffers of the persistent array hold an epoch (R596). -/

namespace Sys2Proof.Machine

/-- The STANDBY unit with a copy frame staged and an epoch in each buffer of the persistent array. -/
def bothBuffersFull : State :=
  let s := Fx.atLease30
  { s with persist := { s.persist with epochs := [(0, some (Fx.epochBuf 3)), (1, some (Fx.epochBuf 2))] } }

theorem exec_copyFrame (s : State) :
    exec .copyFrame s = .next (if s.runs .bus && s.leaseImage then
      if s.gate.stat == .active then { s with copy := { s.copy with frames := s.copy.frames.tail } } else s.takeCopyFrame
    else s) := rfl

/-- Refutes O51: its clause on a copy frame that begins an assembly leaves out that MGT first invalidates the marker of the
buffer which takes the epoch (R596). Here buffer 1 holds epoch 2; the frame empties it, where the statement wants the
persistent array unchanged. -/
theorem not_epochsAreCopiedAndHandedOver : ¬ Obligations.EpochsAreCopiedAndHandedOver := by
  unfold Obligations.EpochsAreCopiedAndHandedOver
  intro h
  obtain ⟨hrow, -⟩ := h bothBuffersFull
  obtain ⟨-, -, hframe, -⟩ := hrow (by decide +kernel) (by decide +kernel)
  have hkept := Host.Outcome.next.inj ((exec_copyFrame bothBuffersFull).symm.trans
    (hframe (Fx.bytes64 3 0 4) [] (by decide +kernel) rfl (by decide +kernel) (by decide +kernel) rfl))
  exact absurd (congrArg (fun t => (t.persist.epochs.get none 1).isSome) hkept) (by decide +kernel)

end Sys2Proof.Machine
end

section
/-! SUPPORT. A learn run whose NLAND in force lies beyond the landing table (R244). -/

namespace Sys2Proof.Machine

/-! ### What a completed run writes -/

/-- One landing's entry of the table. -/
def Mpi.writeLanding (m : Mpi) (e : Found × Nat) : Mpi :=
  (m.writeRwk .MPI_LVLO [e.2] (satWord (e.1.lo.getD 0))).writeRwk .MPI_LVHI [e.2] (satWord (e.1.hi.getD 0))

/-- The three words behind the table's entries. -/
def Mpi.writeLearned (m : Mpi) (p ntsup : Int) : Mpi :=
  let m := (m.writeRwk .MPI_NTSDN [] (satWord p)).writeRwk .MPI_NTSUP [] (satWord ntsup)
  m.writeRwk .MPI_LTABCRC [] (State.tableCrc { m.env with regs := m.regs })

theorem Mpi.commitTable_eq (m : Mpi) (p u : Int) (l : List Found) :
    m.commitTable p u l = (l.zipIdx.foldl Mpi.writeLanding m).writeLearned p u := rfl

theorem Mpi.fusion_writeLandings (l : List (Found × Nat)) (m : Mpi) : (l.foldl Mpi.writeLanding m).fusion = m.fusion := by
  induction l generalizing m with
  | nil => rfl
  | cons e rest ih => exact ih _

theorem Mpi.fusion_commitTable (m : Mpi) (p u : Int) (l : List Found) : (m.commitTable p u l).fusion = m.fusion :=
  Mpi.fusion_writeLandings l.zipIdx m

/-- The entries of a table end with the last landing's. -/
theorem Mpi.commitTable_append (m : Mpi) (p u : Int) (l : List Found) (x : Found) :
    m.commitTable p u (l ++ [x]) = ((l.zipIdx.foldl Mpi.writeLanding m).writeLanding (x, l.length)).writeLearned p u := by
  rw [Mpi.commitTable_eq, List.zipIdx_append, List.foldl_append, Nat.zero_add]
  rfl

theorem Mpi.get_writeRwk_of_ne (m : Mpi) (r : Reg) (idx : List Nat) (w d : Word) {a : Nat} (h : r.addr idx ≠ a) :
    (m.writeRwk r idx w).regs.get d a = m.regs.get d a :=
  get_set_default _ _ _ _ _ _ h

theorem Mpi.get_writeRwk_self (m : Mpi) (r : Reg) (idx : List Nat) (w d : Word) (h : w ≠ r.resetWord) :
    (m.writeRwk r idx w).regs.get d (r.addr idx) = w := by
  show (m.regs.set r.resetWord (r.addr idx) w).get d (r.addr idx) = w
  rw [Tbl.set, if_neg h, Tbl.get_insert, if_pos rfl]

/-- The entry of landing 16 128 lies at MC0's first register. -/
theorem Mpi.get_writeLanding_beyond (m : Mpi) (x : Found) (p u : Int) (hlo : x.lo = some 1) :
    ((m.writeLanding (x, 16128)).writeLearned p u).regs.get 0 0x100000 = 1 := by
  unfold Mpi.writeLearned Mpi.writeLanding
  rw [Mpi.get_writeRwk_of_ne _ _ _ _ _ (by decide), Mpi.get_writeRwk_of_ne _ _ _ _ _ (by decide),
    Mpi.get_writeRwk_of_ne _ _ _ _ _ (by decide), Mpi.get_writeRwk_of_ne _ .MPI_LVHI [16128] _ _ (by decide), hlo]
  exact Mpi.get_writeRwk_self m .MPI_LVLO [16128] 1 0 (by decide)

/-! ### The run -/

/-- A learn run stands at its end with a list of landings and 16 129 as the NLAND in force, while the register holds 2. -/
def learnRunOver (list : List Found) : State :=
  let s := Fx.up Fx.im
  { s with fusion := { s.fusion with
      stat := .invalid
      parms := [(Reg.addr .MPI_NLAND [], 16129)]
      runState := { s.fusion.runState with
        run := .learn, phase := 2, edge := some 0, p := some 0, ntsup := some 0, list := list } } }

theorem exec_runPhaseEnd (s : State) : exec .runPhaseEnd s = .next (s.withMpi s.mpi.phaseEnd) := rfl

/-- A learn run over a whole table ends with the table written; in INVALID the state stays. -/
theorem Mpi.regs_phaseEnd_of_whole {m : Mpi} {x : FusionRun} {p u : Int} {at_ c : Nat} (hx : m.fusion.runState = x)
    (hstat : m.fusion.stat = .invalid) (hrun : x.run = .learn) (hphase : x.phase = 2) (hedge : x.edge = some at_)
    (hcar : m.env.carPlanner = some c) (hrest : (m.planner c).idle = true) (hp : x.p = some p) (hu : x.ntsup = some u)
    (hwhole : (x.list.length == m.inForce.MPI_NLAND && x.list.all fun l => l.lo.isSome && l.hi.isSome) = true) :
    m.phaseEnd.regs = (m.commitTable p u x.list).regs := by
  have hfusion := m.fusion_commitTable p u x.list
  unfold Mpi.phaseEnd
  simp only [hx, hrun, hphase, hedge, hcar, hrest, hp, hu, hwhole]
  simp [Mpi.finishRun, hfusion, hx, hrun, hstat, Mpi.endRun, Mpi.note]

/-- Both edges of a landing have been found. -/
def Found.whole (l : Found) : Bool := l.lo.isSome && l.hi.isSome

theorem get_phaseEnd_learnRunOver {l : List Found} {x : Found} (hlen : l.length = 16128) (hl : l.all Found.whole = true)
    (hx : x.whole = true) (hlo : x.lo = some 1) : (learnRunOver (l ++ [x])).mpi.phaseEnd.regs.get 0 0x100000 = 1 := by
  have hwhole : ((l ++ [x]).length == (learnRunOver (l ++ [x])).mpi.inForce.MPI_NLAND && (l ++ [x]).all Found.whole) = true := by
    have hforce : (learnRunOver (l ++ [x])).mpi.inForce.MPI_NLAND = 16129 := rfl
    rw [hforce, List.all_append, hl, List.length_append, hlen, List.all_cons, hx]
    rfl
  rw [Mpi.regs_phaseEnd_of_whole (p := 0) (u := 0) (at_ := 0) (c := 0) rfl rfl rfl rfl rfl rfl rfl rfl rfl hwhole]
  show ((learnRunOver (l ++ [x])).mpi.commitTable 0 0 (l ++ [x])).regs.get 0 0x100000 = 1
  rw [Mpi.commitTable_append, hlen]
  exact Mpi.get_writeLanding_beyond _ _ 0 0 hlo

/-- Refutes O55: its clause on a run's end bounds the NLAND that the register holds, where the run goes by the one in force
(R244, R248). Here 16 129 landings are in force while the register holds 2, and the last entry of the table lies at 0x100000,
a register of MC0, which the statement wants unchanged. -/
theorem not_motionAndFigureCommandsChangeOnlyTheirPart : ¬ Obligations.MotionAndFigureCommandsChangeOnlyTheirPart := by
  unfold Obligations.MotionAndFigureCommandsChangeOnlyTheirPart
  intro h
  obtain ⟨l, hlen, hl⟩ : ∃ l : List Found, l.length = 16128 ∧ l.all Found.whole = true :=
    ⟨.replicate 16128 { pair := 0, lo := some 0, hi := some 0 }, List.length_replicate, by rw [List.all_replicate]; rfl⟩
  let s := learnRunOver (l ++ [{ pair := 0, lo := some 1, hi := some 0 }])
  obtain ⟨-, -, hmpi, -⟩ := h .runPhaseEnd s _ (exec_runPhaseEnd s)
  obtain ⟨-, -, hregs⟩ := hmpi rfl
  have hheld : s.MPI_NLAND = 2 := rfl
  have hkept : s.mpi.phaseEnd.regs.get 0 0x100000 = s.regs.get 0 0x100000 :=
    hregs (fun _ => by rw [hheld]; decide) 0x100000 (by decide)
  rw [get_phaseEnd_learnRunOver hlen hl rfl rfl] at hkept
  exact absurd hkept (show (1 : Word) ≠ 0 by decide)

end Sys2Proof.Machine
end

section
/-! SUPPORT. AON loses its last supply with a register of AON written (R81, R116). -/

namespace Sys2Proof.Machine

/-- VMAIN is gone, VBAT still there, and AON_TAMPCFG written. -/
def watchingOnBattery : State := Fx.vmainGone.setReg .AON_TAMPCFG [] 1

theorem exec_vbatAbsentChange (absent : Bool) (s : State) : exec (.vbatAbsentChange absent) s =
    .next (if s.supplies.vbatAbsent = absent then s
      else
        let s := { s with supplies := { s.supplies with vbatAbsent := absent } }
        if s.supplies.vmainOk then s else if absent then s.aonOff else s.vaultWatch) := rfl

/-- Refutes O57: its clause on the loss of VBAT keeps every register but SYS_TEMPO, where AON loses its last supply and with it
the registers of its own block (R81, R116). Here AON_TAMPCFG goes from 1 to its reset value. -/
theorem not_managementCommandsChangeOnlyTheirPart : ¬ Obligations.ManagementCommandsChangeOnlyTheirPart := by
  unfold Obligations.ManagementCommandsChangeOnlyTheirPart
  intro h
  obtain ⟨-, -, -, -, -, -, -, -, -, -, -, -, -, -, hvbat, -⟩ :=
    h (.vbatAbsentChange true) watchingOnBattery _ (exec_vbatAbsentChange true watchingOnBattery)
  obtain ⟨-, -, hregs⟩ := hvbat true rfl
  exact absurd (hregs (Reg.addr .AON_TAMPCFG []) (by decide)) (by decide +kernel)

end Sys2Proof.Machine
end

section
/-! SUPPORT. What taking records leaves of the history: the lanes, the freeze and its stage (R25, R613, R614, R621, R623). -/

namespace Sys2Proof.Machine

/-! ### One induction over what MGT does to take records -/

/-- A property that neither a change of the taps nor a record taken ends. -/
structure Hist.KeptByRecords (P : Hist → Prop) : Prop where
  taps : ∀ {h : Hist} (t : Tbl RecTap), P h → P { h with recorder := { h.recorder with taps := t } }
  submit : ∀ {h : Hist} (r : TapRec), P h → P (h.submit r)

section

variable {P : Hist → Prop} (hk : Hist.KeptByRecords P) {h : Hist}
include hk

theorem Hist.KeptByRecords.takeFrom (i : Nat) (r : TapRec) (hp : P h) : P (h.takeFrom i r) := hk.submit r (hk.taps _ hp)

theorem Hist.KeptByRecords.drainDue (n : Nat) (hp : P h) : P (h.drainDue n) := by
  induction n generalizing h with
  | zero => exact hp
  | succ n ih =>
    unfold Hist.drainDue
    split
    · exact hp
    · split
      · exact ih (hk.takeFrom _ _ hp)
      · exact hp

theorem Hist.KeptByRecords.place (r : TapRec) (hp : P h) : P (h.place r) := by
  unfold Hist.place
  split
  · exact hk.submit r (hk.drainDue 256 hp)
  · exact hk.taps _ hp

theorem Hist.KeptByRecords.wordsWorn (as : List Nat) (hp : P h) : P (as.foldl Hist.wordWorn h) := by
  induction as generalizing h with
  | nil => exact hp
  | cons a as ih => exact ih (hk.place _ hp)

end

/-- A record that MGT takes: one that reports no lost records goes to the stage or to both logs. -/
theorem Hist.submit_of_ne {h : Hist} {r : TapRec} (hr : r.code ≠ 0x0260) :
    h.submit r = if h.recorder.frozen then h.hold r else h.commit r := by
  have hcode : (r.code == 0x0260) = false := beq_eq_false_iff_ne.mpr hr
  unfold Hist.submit
  rw [hcode]
  rfl

/-- A record that MGT takes is held or committed, once the count of lost records has risen. -/
theorem Hist.submit_cases (h : Hist) (r : TapRec) : ∃ n, let g := { h with recorder := { h.recorder with tapDrop := n } };
    h.submit r = g.hold r ∧ h.recorder.frozen = true ∨ h.submit r = g.commit r ∧ h.recorder.frozen = false := by
  have taken (n : BitVec 16) : let g := { h with recorder := { h.recorder with tapDrop := n } };
      (if g.recorder.frozen then g.hold r else g.commit r) = g.hold r ∧ h.recorder.frozen = true ∨
        (if g.recorder.frozen then g.hold r else g.commit r) = g.commit r ∧ h.recorder.frozen = false := by
    by_cases hf : h.recorder.frozen = true
    · exact .inl ⟨if_pos hf, hf⟩
    · exact .inr ⟨if_neg hf, by simpa using hf⟩
  unfold Hist.submit
  split
  · exact ⟨_, taken _⟩
  · exact ⟨_, taken h.recorder.tapDrop⟩

theorem Hist.lanes_hold (h : Hist) (r : TapRec) : (h.hold r).lanes = h.lanes := by
  unfold Hist.hold
  dsimp only
  split <;> rfl

theorem Hist.lanes_submit (h : Hist) (r : TapRec) : (h.submit r).lanes = h.lanes := by
  obtain ⟨n, ⟨hs, -⟩ | ⟨hs, -⟩⟩ := h.submit_cases r
  · rw [hs, Hist.lanes_hold]
  · rw [hs]
    rfl

theorem Hist.emptyLanes_kept : Hist.KeptByRecords fun h => h.lanes = [] where
  taps _ hl := hl
  submit r hl := by rw [Hist.lanes_submit, hl]

/-- No freeze runs and nothing is held for one. -/
structure Hist.Thawed (h : Hist) : Prop where
  frozen : h.recorder.frozen = false
  stage : h.recorder.stage = []

theorem Hist.thawed_commit {h : Hist} (ht : h.Thawed) (r : TapRec) : (h.commit r).Thawed := ⟨ht.frozen, ht.stage⟩

theorem Hist.thawed_kept : Hist.KeptByRecords Hist.Thawed where
  taps _ ht := ⟨ht.frozen, ht.stage⟩
  submit {h} r ht := by
    obtain ⟨n, ⟨-, hf⟩ | ⟨hs, -⟩⟩ := h.submit_cases r
    · exact absurd hf (by simp [ht.frozen])
    · rw [hs]
      exact ⟨ht.frozen, ht.stage⟩

theorem Hist.thawed_commits {h : Hist} (ht : h.Thawed) (rs : List (Nat × TapRec)) :
    (rs.foldl (fun h e => h.commit e.2) h).Thawed := by
  induction rs generalizing h with
  | nil => exact ht
  | cons e rest ih => exact ih (Hist.thawed_commit ht e.2)

theorem Hist.lanes_commits (h : Hist) (rs : List (Nat × TapRec)) :
    (rs.foldl (fun h e => h.commit e.2) h).lanes = h.lanes := by
  induction rs generalizing h with
  | nil => rfl
  | cons e rest ih => exact ih _

/-! ### The persistence lanes (R25) -/

theorem Hist.lanes_serveLanes (h : Hist) : h.serveLanes.lanes = [] := Hist.emptyLanes_kept.wordsWorn _ rfl

theorem Hist.serveLanes_of_empty {h : Hist} (hl : h.lanes = []) : h.serveLanes = h := by
  obtain ⟨persist, recorder, lanes, dev, wsec, wfrac, up⟩ := h
  obtain rfl : lanes = [] := hl
  rfl

theorem Hist.thawed_own {h : Hist} (hl : h.lanes = []) (ht : h.Thawed) (code : Nat) (data : List Byte) :
    (h.own code data).Thawed := by
  rw [Hist.own, Hist.serveLanes_of_empty hl]
  exact Hist.thawed_kept.place _ ht

/-! ### The end of a freeze (R623) -/

/-- The history as a freeze ends, before its stage is committed. -/
def Hist.thaw (h : Hist) : Hist := { h with recorder := { h.recorder with frozen := false, stage := [], freezeDrop := 0 } }

theorem Hist.endFreeze_of_frozen {h : Hist} (hf : h.recorder.frozen = true) : ∃ data, h.endFreeze =
    (h.serveLanes.recorder.stage.foldl (fun h e => h.commit e.2) h.serveLanes.thaw).own 0x0262 data :=
  ⟨_, if_pos hf⟩

theorem Hist.thawed_endFreeze {h : Hist} (hf : h.recorder.frozen = true) : h.endFreeze.Thawed := by
  obtain ⟨data, hend⟩ := Hist.endFreeze_of_frozen hf
  rw [hend]
  refine Hist.thawed_own ?_ (Hist.thawed_commits ⟨rfl, rfl⟩ _) _ _
  rw [Hist.lanes_commits]
  exact h.lanes_serveLanes

theorem Hist.commits_sameMoment (h : Hist) (rs : List (Nat × TapRec)) :
    h.SameMoment (rs.foldl (fun h e => h.commit e.2) h) := by
  induction rs generalizing h with
  | nil => exact .refl h
  | cons e rest ih => exact (h.commit_sameMoment e.2).trans (ih _)

theorem Hist.endFreeze_sameMoment (h : Hist) : h.SameMoment h.endFreeze := by
  by_cases hf : h.recorder.frozen = true
  · obtain ⟨data, hend⟩ := Hist.endFreeze_of_frozen hf
    have hthaw : h.serveLanes.SameMoment h.serveLanes.thaw := ⟨rfl, rfl, rfl, rfl⟩
    rw [hend]
    exact ((h.serveLanes_sameMoment.trans hthaw).trans (Hist.commits_sameMoment _ _)).trans (Hist.own_sameMoment _ _ _)
  · rw [Hist.endFreeze, if_neg hf]
    exact .refl h

/-! ### The taps while none holds a record -/

theorem Hist.taps_hold (h : Hist) (r : TapRec) : (h.hold r).recorder.taps = h.recorder.taps := by
  unfold Hist.hold
  dsimp only
  split <;> rfl

theorem Hist.taps_submit (h : Hist) (r : TapRec) : (h.submit r).recorder.taps = h.recorder.taps := by
  obtain ⟨n, ⟨hs, -⟩ | ⟨hs, -⟩⟩ := h.submit_cases r
  · rw [hs, Hist.taps_hold]
  · rw [hs]
    rfl

theorem Hist.drainDue_of_noHead {h : Hist} (hn : nextHead h.recorder.taps = none) (n : Nat) : h.drainDue n = h := by
  cases n with
  | zero => rfl
  | succ n => rw [Hist.drainDue, hn]

theorem Hist.taps_place_of_noHead {h : Hist} (hup : h.up = true) (hn : nextHead h.recorder.taps = none) (r : TapRec) :
    (h.place r).recorder.taps = h.recorder.taps := by
  rw [Hist.place, if_pos hup, Hist.drainDue_of_noHead hn, Hist.taps_submit]

theorem Hist.taps_serveLanes_of_noHead {h : Hist} (hup : h.up = true) (hn : nextHead h.recorder.taps = none) :
    h.serveLanes.recorder.taps = h.recorder.taps := by
  have worn (as : List Nat) (g : Hist) (hg : g.up = true) (hgn : nextHead g.recorder.taps = none) :
      (as.foldl Hist.wordWorn g).recorder.taps = g.recorder.taps := by
    induction as generalizing g with
    | nil => rfl
    | cons a as ih =>
      have hplace : (g.wordWorn a).recorder.taps = g.recorder.taps := Hist.taps_place_of_noHead hg hgn _
      exact (ih _ ((g.place_sameMoment _).up.trans hg) ((congrArg nextHead hplace).trans hgn)).trans hplace
  exact worn _ _ hup hn

end Sys2Proof.Machine
end

section
/-! SUPPORT. The rows of the recorder (R609, R613 to R616, R621, R623, R633). -/

namespace Sys2Proof.Machine

variable {s : State}

/-! ### RECORD_TAP_WRITE (R613) -/

theorem exec_recordTapWrite (i : Island) (code : BitVec 16) (data : List Byte) (s : State) :
    exec (.recordTapWrite i code data) s =
      .next { s with recorder := s.recorder.put s.dev (islandNum i) (islandNum i * 256 + code.toNat % 256) data } := rfl

theorem Recorder.put_tap (r : Recorder) (dev i code : Nat) (data : List Byte) :
    (r.put dev i code data).taps.get RecTap.reset i =
      RecTap.place { dtime := dev, code := BitVec.ofNat 16 code, data := data, wall := none } (r.taps.get RecTap.reset i) :=
  Tbl.get_modify_self ..

/-! ### RECORD_COMMIT (R25, R609, R614, R616, R621) -/

theorem exec_recordCommit (s : State) : exec .recordCommit s = .next (if s.aon.mgtUp then s.commitRecord else s) := rfl

theorem State.hist_flushLanes (s : State) : s.flushLanes.hist = s.hist.serveLanes :=
  s.hist_withHist _ s.hist.serveLanes_sameMoment

theorem State.flushLanes_of_empty (hl : s.lanes = []) : s.flushLanes = s := by
  show s.withHist s.hist.serveLanes = s
  rw [Hist.serveLanes_of_empty hl]
  rfl

theorem State.flushLanes_flushLanes (s : State) : s.flushLanes.flushLanes = s.flushLanes :=
  State.flushLanes_of_empty s.hist.lanes_serveLanes

theorem exec_recordCommit_of_head {i : Nat} {r : TapRec} (hup : s.aon.mgtUp = true) (hl : s.lanes = [])
    (hhead : nextHead s.recorder.taps = some (i, r)) : exec .recordCommit s = .next (s.withHist (s.hist.takeFrom i r)) := by
  have hnext : s.hist.takeNext = s.hist.takeFrom i r := by
    have hhead' : nextHead s.hist.recorder.taps = some (i, r) := hhead
    rw [Hist.takeNext, hhead']
  rw [exec_recordCommit, if_pos hup, State.commitRecord, State.flushLanes_of_empty hl, hnext]

/-- The history as MGT has taken the head of tap `i` out of it. -/
def Hist.headTaken (h : Hist) (i : Nat) : Hist :=
  { h with recorder := { h.recorder with taps := h.recorder.taps.modify RecTap.reset i (RecTap.takeHead i h.dev) } }

theorem Hist.takeFrom_eq (h : Hist) (i : Nat) (r : TapRec) : h.takeFrom i r = (h.headTaken i).submit r := rfl

theorem Hist.circ_commit (h : Hist) (r : TapRec) : (h.commit r).persist.circ = h.persist.circ.set [] h.persist.circLine
    (recordLine (recordBody h.persist.nextSeq (max r.dtime h.recorder.lastDt) (r.wall.getD (h.wsec, h.wfrac)).1
      (r.wall.getD (h.wsec, h.wfrac)).2 r)) := rfl

/-- A record committed while no freeze runs stands in the due line of the circulating log (R609, R614, R616). -/
theorem recordCommit_of_running {i : Nat} {r : TapRec} (hup : s.aon.mgtUp = true) (hl : s.lanes = [])
    (hhead : nextHead s.recorder.taps = some (i, r)) (hf : s.recorder.frozen = false) (hr : r.code ≠ 0x0260)
    (hwall : r.wall = none) :
    Completes .recordCommit s fun t =>
      t.persist.nextSeq = s.persist.nextSeq + 1 ∧ t.persist.circLine = (s.persist.circLine + 1) % 49152 ∧
      t.persist.circ.get [] s.persist.circLine =
        recordLine (recordBody s.persist.nextSeq (max r.dtime s.recorder.lastDt) s.aon.rtcSec s.aon.rtcFrac r) ∧
      (∀ j, j ≠ s.persist.circLine → t.persist.circ.get [] j = s.persist.circ.get [] j) ∧
      t.recorder.lastDt = max r.dtime s.recorder.lastDt ∧
      t.recorder.taps.get RecTap.reset i = RecTap.takeHead i s.dev (s.recorder.taps.get RecTap.reset i) ∧
      t = { s with persist := t.persist, recorder := t.recorder } := by
  have htake : s.hist.takeFrom i r = (s.hist.headTaken i).commit r := by
    rw [Hist.takeFrom_eq, Hist.submit_of_ne hr]
    exact if_neg (by simp [Hist.headTaken, State.hist, hf])
  have hcirc := (s.hist.headTaken i).circ_commit r
  refine ⟨_, exec_recordCommit_of_head hup hl hhead, ?_⟩
  rw [htake]
  refine ⟨rfl, rfl, ?_, fun j hj => ?_, rfl, Tbl.get_modify_self .., rfl⟩
  · refine (congrArg (fun t => Tbl.get t [] s.persist.circLine) hcirc).trans ((Tbl.get_set_self ..).trans ?_)
    rw [hwall]
    rfl
  · exact (congrArg (fun t => Tbl.get t [] j) hcirc).trans (Tbl.get_set_of_ne _ _ _ hj.symm)

/-- A record taken while frozen joins the stage (R621). -/
theorem recordCommit_of_frozen {i : Nat} {r : TapRec} (hup : s.aon.mgtUp = true) (hl : s.lanes = [])
    (hhead : nextHead s.recorder.taps = some (i, r)) (hf : s.recorder.frozen = true) (hr : r.code ≠ 0x0260)
    (hroom : s.recorder.stage.length < 256) :
    Completes .recordCommit s fun t =>
      t.recorder.stage = s.recorder.stage ++ [(r.code.toNat / 256, r)] ∧ t.persist = s.persist := by
  have htake : s.hist.takeFrom i r = (s.hist.headTaken i).hold r := by
    rw [Hist.takeFrom_eq, Hist.submit_of_ne hr]
    exact if_pos hf
  have hhold : (s.hist.headTaken i).hold r = { s.hist.headTaken i with recorder :=
      { (s.hist.headTaken i).recorder with stage := s.recorder.stage ++ [(r.code.toNat / 256, r)] } } := if_pos hroom
  refine ⟨_, exec_recordCommit_of_head hup hl hhead, ?_⟩
  rw [htake, hhold]
  exact ⟨rfl, rfl⟩

theorem exec_recordCommit_of_lanes (hup : s.aon.mgtUp = true) : exec .recordCommit s = exec .recordCommit s.flushLanes := by
  have hup' : s.flushLanes.aon.mgtUp = true := hup
  rw [exec_recordCommit, exec_recordCommit, if_pos hup, if_pos hup', State.commitRecord, State.commitRecord,
    State.flushLanes_flushLanes]

theorem exec_recordCommit_of_noHead (hup : s.aon.mgtUp = true) (hn : nextHead s.recorder.taps = none) :
    exec .recordCommit s = .next s.flushLanes := by
  have htaps : nextHead s.hist.serveLanes.recorder.taps = none := by
    rw [Hist.taps_serveLanes_of_noHead (h := s.hist) hup hn]
    exact hn
  have hnext : s.hist.serveLanes.takeNext = s.hist.serveLanes := by rw [Hist.takeNext, htaps]
  have hkept : s.flushLanes.withHist s.hist.serveLanes = s.flushLanes := rfl
  rw [exec_recordCommit, if_pos hup, State.commitRecord, State.hist_flushLanes, hnext, hkept]

/-! ### Bits of a word written with one of them set -/

theorem getLsbD_or_of_left_clear {w v : Word} {k : Nat} (hw : w.getLsbD k = false) : (w ||| v).getLsbD k = v.getLsbD k := by
  rw [BitVec.getLsbD_or, hw, Bool.false_or]

/-! ### MGT_RECCTL (R621, R623, R633) -/

section

variable (w : Word)

theorem exec_recFreeze (s : State) : exec (.recFreeze w) s = .next (s.atMgt fun s => (s.writeRecctl (w ||| 1)).2) := rfl

theorem exec_recUnfreeze (s : State) : exec (.recUnfreeze w) s = .next (s.atMgt fun s => (s.writeRecctl (w ||| 2)).2) := rfl

theorem exec_clrdrop (s : State) : exec (.clrdrop w) s = .next (s.atMgt fun s => (s.writeRecctl (w ||| 4)).2) := rfl

theorem State.writeRecctl_of_locked (hlock : s.session.unlocked = false) : (s.writeRecctl w).2 = s := by
  simp [State.writeRecctl, hlock]

/-- What CLRDROP clears. -/
def State.dropsCleared (s : State) : State := { s with recorder := { s.recorder with stageDrop := 0, tapDrop := 0 } }

theorem State.writeRecctl_of_session (hopen : s.session.unlocked = true) : (s.writeRecctl w).2 =
    let t := if w.getLsbD 0 && !w.getLsbD 1 then s.freeze else if w.getLsbD 1 && !w.getLsbD 0 then s.withHist s.hist.endFreeze else s
    if w.getLsbD 2 then t.dropsCleared else t := by
  unfold State.writeRecctl
  rw [if_neg (by simp [hopen])]
  rfl

theorem atMgt_writeRecctl_of_locked (hlock : s.session.unlocked = false) :
    (s.atMgt fun s => (s.writeRecctl w).2) = s := by
  unfold State.atMgt
  split
  · exact State.writeRecctl_of_locked w hlock
  · rfl

theorem recFreeze_of_session {w : Word} (hup : s.mgtUp = true) (hopen : s.session.unlocked = true)
    (hf : s.recorder.frozen = false) (h1 : w.getLsbD 1 = false) (h2 : w.getLsbD 2 = false) :
    Completes (.recFreeze w) s fun t =>
      t.recorder.frozen = true ∧ t.recorder.frozenAt = s.dev ∧ t.persist = (s.hist.own 0x0261 []).persist := by
  have hwrite : (s.writeRecctl (w ||| 1)).2 = s.freeze := by
    rw [State.writeRecctl_of_session _ hopen, getLsbD_or_of_set (i := 0) (by decide), getLsbD_or_of_left_clear h1,
      getLsbD_or_of_left_clear h2]
    rfl
  refine ⟨_, exec_recFreeze w s, ?_⟩
  rw [State.atMgt_of_up _ _ hup, hwrite, State.freeze, if_neg (by simp [hf])]
  exact ⟨rfl, rfl, rfl⟩

theorem recUnfreeze_of_session {w : Word} (hup : s.mgtUp = true) (hopen : s.session.unlocked = true)
    (hf : s.recorder.frozen = true) (h0 : w.getLsbD 0 = false) (h2 : w.getLsbD 2 = false) :
    Completes (.recUnfreeze w) s fun t =>
      t.recorder.frozen = false ∧ t.recorder.stage = [] ∧ t.hist = s.hist.endFreeze := by
  have hwrite : (s.writeRecctl (w ||| 2)).2 = s.withHist s.hist.endFreeze := by
    rw [State.writeRecctl_of_session _ hopen, getLsbD_or_of_set (i := 1) (by decide), getLsbD_or_of_left_clear h0,
      getLsbD_or_of_left_clear h2]
    rfl
  obtain ⟨hfrozen, hstage⟩ := Hist.thawed_endFreeze (h := s.hist) hf
  refine ⟨_, exec_recUnfreeze w s, ?_⟩
  rw [State.atMgt_of_up _ _ hup, hwrite]
  exact ⟨hfrozen, hstage, s.hist_withHist _ s.hist.endFreeze_sameMoment⟩

theorem exec_clrdrop_of_session {w : Word} (hup : s.mgtUp = true) (hopen : s.session.unlocked = true)
    (h0 : w.getLsbD 0 = false) (h1 : w.getLsbD 1 = false) : exec (.clrdrop w) s = .next s.dropsCleared := by
  have hwrite : (s.writeRecctl (w ||| 4)).2 = s.dropsCleared := by
    rw [State.writeRecctl_of_session _ hopen, getLsbD_or_of_set (i := 2) (by decide), getLsbD_or_of_left_clear h0,
      getLsbD_or_of_left_clear h1]
    rfl
  rw [exec_clrdrop, State.atMgt_of_up _ _ hup, hwrite]

end

/-- Settles O18: a tap takes or drops a record, RECORD_COMMIT serves the lanes and takes the next head, and FREEZE, UNFREEZE and
CLRDROP act in a session alone. -/
theorem recorderKeepsTheHistory : Obligations.RecorderKeepsTheHistory := by
  unfold Obligations.RecorderKeepsTheHistory
  intro s
  refine ⟨fun i code data hroom => ?_, fun i code data hfull => ?_,
    fun i r hhead hf hr hwall hl hup => recordCommit_of_running hup hl hhead hf hr hwall,
    fun i r hhead hf hr hroom hl hup => recordCommit_of_frozen hup hl hhead hf hr hroom,
    exec_recordCommit_of_lanes, exec_recordCommit_of_noHead, fun hdown => ?_,
    fun w hup hopen hf h1 h2 => recFreeze_of_session hup hopen hf h1 h2,
    fun w hup hopen hf h0 h2 => recUnfreeze_of_session hup hopen hf h0 h2,
    fun w hup hopen h0 h1 => exec_clrdrop_of_session hup hopen h0 h1, fun w hlock => ?_⟩
  · refine ⟨_, exec_recordTapWrite i code data s, ?_, fun j hj => Recorder.put_taps_of_ne _ _ _ _ _ (Ne.symm hj), rfl⟩
    rw [Recorder.put_tap, RecTap.place, if_pos hroom]
  · refine ⟨_, exec_recordTapWrite i code data s, ?_⟩
    beta_reduce
    rw [Recorder.put_tap, RecTap.place, if_neg (by omega)]
  · rw [exec_recordCommit, if_neg (by simp [hdown])]
  · rw [exec_recFreeze, exec_recUnfreeze, exec_clrdrop, atMgt_writeRecctl_of_locked _ hlock,
      atMgt_writeRecctl_of_locked _ hlock, atMgt_writeRecctl_of_locked _ hlock]
    exact ⟨rfl, rfl, rfl⟩

end Sys2Proof.Machine
end

section
/-! SUPPORT. Single operations on a CAN controller: reception, its host windows and error confinement (R515, R521 to R523, R537,
R538). -/

namespace Sys2Proof.Machine

/-! ### A step of BUS where its condition holds -/

section

variable {s : State}

theorem State.runBc_of_on (f : Bc → Bc) {ok : Bool} (h : ok = true) : s.runBc ok f = s.withBc (f s.bc) := if_pos h

theorem State.runBc_of_off (f : Bc → Bc) {ok : Bool} (h : ok = false) : s.runBc ok f = s := if_neg (by simp [h])

theorem State.can_withBc (m : Bc) (n : Nat) : (s.withBc m).cans.get Can.reset n = m.can n := rfl

theorem State.withBc_setCan (n : Nat) (c : Can) : s.withBc (s.bc.setCan n c) = { s with cans := s.cans.set Can.reset n c } := rfl

end

/-! ### One controller -/

section

variable {m : Bc} {n : Nat}

@[simp] theorem Bc.can_setCan_self (c : Can) : (m.setCan n c).can n = c := Tbl.get_set_self ..

@[simp] theorem Bc.can_updCan_self (f : Can → Can) : (m.updCan n f).can n = f (m.can n) := Tbl.get_set_self ..

@[simp] theorem Bc.can_note (code : Nat) (data : List Byte) (k : Nat) : (m.note code data).can k = m.can k := rfl

/-- A host buffer of a controller. -/
def Can.buf (c : Can) (b : Nat) : RxBuf := c.bufs.get RxBuf.reset b

/-- A controller with a host buffer's contents. -/
def Can.setBuf (c : Can) (b : Nat) (x : RxBuf) : Can := { c with bufs := c.bufs.set RxBuf.reset b x }

theorem Can.buf_setBuf_self (c : Can) (b : Nat) (x : RxBuf) : (c.setBuf b x).buf b = x := Tbl.get_set_self ..

theorem Can.buf_setBuf_ne (c : Can) (x : RxBuf) {b j : Nat} (h : j ≠ b) : (c.setBuf b x).buf j = c.buf j :=
  Tbl.get_set_of_ne _ _ _ h.symm

theorem Bc.can_updBuf (b : Nat) (f : RxBuf → RxBuf) :
    (m.updBuf n b f).can n = { m.can n with bufs := (m.can n).bufs.modify RxBuf.reset b f } := Bc.can_updCan_self _

theorem Bc.buf_updBuf_self (b : Nat) (f : RxBuf → RxBuf) : ((m.updBuf n b f).can n).buf b = f ((m.can n).buf b) := by
  rw [Bc.can_updBuf]
  exact Tbl.get_modify_self ..

/-! ### A frame received without error (R521 to R523, R537) -/

/-- The controller after a frame that it has received without error, with REC at 127 at the most. -/
def Can.heardGood (c : Can) : Can := Can.confine { c with recCnt := c.recCnt - 1 }

theorem Can.confine_eq (c : Can) : c.confine = { c with estate := if 128 ≤ c.tec ∨ 128 ≤ c.recCnt then 1 else 0 } := by
  simp [Can.confine]

theorem Bc.goodReceive_of_normal (hmode : (m.can n).mode = 1) (hrec : (m.can n).recCnt ≤ 127) :
    m.goodReceive n = m.setCan n (m.can n).heardGood := by
  unfold Bc.goodReceive
  rw [if_neg (by simp [Can.listen, Can.loopback, hmode]), if_pos hrec]
  rfl

theorem RxBuf.arrive_of_free {x : RxBuf} (hlock : x.lock = false) (hnew : x.new = false) (win : List Word) :
    x.arrive win = ({ x with window := win, new := true }, false) := by
  simp [RxBuf.arrive, hlock, hnew]

theorem Bc.hostBuffer_of_free {b : Nat} (hlock : ((m.can n).buf b).lock = false) (hnew : ((m.can n).buf b).new = false)
    (win : List Word) : m.hostBuffer n b win = m.setCan n
      ((m.can n).setBuf b { (m.can n).buf b with window := win, new := true }) := by
  have harrive := RxBuf.arrive_of_free hlock hnew win
  unfold Can.buf at harrive
  unfold Bc.hostBuffer
  simp only [harrive, Bool.false_and, Bool.false_eq_true, if_false]
  rfl

/-- Neither the time service nor the copy link takes a frame. -/
structure Bc.LeavesToBuffers (m : Bc) (n : Nat) (f : CanFrame) : Prop where
  reference : m.isReference n f = false
  copy : m.isCopy n 0 f = false
  ack : m.isCopy n 1 f = false

theorem Bc.LeavesToBuffers.setCan {f : CanFrame} (h : m.LeavesToBuffers n f) (c : Can) : (m.setCan n c).LeavesToBuffers n f :=
  ⟨h.reference, h.copy, h.ack⟩

theorem Bc.offer_of_taken {f : CanFrame} (h : m.LeavesToBuffers n f) {b : Nat}
    (hfind : (List.range 64).find? (fun b => m.env.bufferTakes n b f) = some b) (hhost : m.env.hostMode n b = true) (esi : Bool)
    (lt : Nat) : m.offer n f esi lt = m.hostBuffer n b (frameWords f esi false b (lt / 1000)) := by
  simp only [State.hostMode, Bool.and_eq_true, bne_iff_ne, ne_eq, beq_iff_eq] at hhost
  unfold Bc.offer
  rw [h.reference, h.copy, h.ack, hfind]
  simp only [Bool.false_eq_true, if_false, Bc.intoBuffer, hhost.1, hhost.2]
  simp

theorem Bc.offer_of_unmatched {f : CanFrame} (h : m.LeavesToBuffers n f) (hnone : ∀ b < 64, m.env.bufferTakes n b f = false)
    (esi : Bool) (lt : Nat) : m.offer n f esi lt = m.setCan n { m.can n with noMatch := satInc (m.can n).noMatch } := by
  have hfind : (List.range 64).find? (fun b => m.env.bufferTakes n b f) = none := by
    rw [List.find?_eq_none]
    intro b hb
    rw [hnone b (List.mem_range.mp hb)]
    exact Bool.false_ne_true
  unfold Bc.offer
  rw [h.reference, h.copy, h.ack, hfind]
  rfl

/-! ### Errors (R537) -/

theorem Bc.canError_of_within {e : CanErr} (h : ((m.can n).count e).tec ≤ 255) :
    (m.canError n e).can n = ((m.can n).count e).confine := by
  unfold Bc.canError
  rw [if_neg (by omega)]
  dsimp only
  split <;> simp

/-- The controller as it enters bus-off. -/
def Can.offBus (c : Can) : Can := { c with estate := 2, boSeen := true, recov := 0, won := false }

theorem Bc.busOff_of_emptyQueue (hq : (m.can n).queue = []) :
    m.busOff n = (m.updCan n Can.offBus).note 0x0C01 (leBytes 1 n ++ leBytes 1 (min 255 (m.can n).recCnt)) := by
  have hcan : ((m.updCan n Can.offBus).note 0x0C01 (leBytes 1 n ++ leBytes 1 (min 255 (m.can n).recCnt))).can n =
      (m.can n).offBus := Bc.can_updCan_self _
  have hrec : ((m.updCan n Can.offBus).can n).recCnt = (m.can n).recCnt := by rw [Bc.can_updCan_self]; rfl
  have hqueue : (m.can n).offBus.queue = [] := hq
  show (match (((m.updCan n Can.offBus).note 0x0C01
      (leBytes 1 n ++ leBytes 1 (min 255 ((m.updCan n Can.offBus).can n).recCnt))).can n).queue with
    | e :: _ => _
    | [] => (m.updCan n Can.offBus).note 0x0C01
      (leBytes 1 n ++ leBytes 1 (min 255 ((m.updCan n Can.offBus).can n).recCnt))) = _
  rw [hrec, hcan, hqueue]

theorem Bc.canError_of_busOff {e : CanErr} (h : 255 < ((m.can n).count e).tec) (hq : ((m.can n).count e).queue = []) :
    (m.canError n e).can n = ((m.can n).count e).offBus ∧
      (m.canError n e).qf = m.qf.note 0x0C01 (leBytes 1 n ++ leBytes 1 (min 255 ((m.can n).count e).recCnt)) := by
  have hoff : m.canError n e = (m.setCan n ((m.can n).count e)).busOff n := if_pos h
  rw [hoff, Bc.busOff_of_emptyQueue (by rw [Bc.can_setCan_self]; exact hq), Bc.can_setCan_self]
  refine ⟨?_, rfl⟩
  rw [Bc.can_note, Bc.can_updCan_self, Bc.can_setCan_self]

end

end Sys2Proof.Machine
end

section
/-! SUPPORT. The rows of CAN reception, of the host windows and of error confinement (R515, R521 to R523, R537, R538). -/

namespace Sys2Proof.Machine

variable {s : State} {n : Fin 3}

/-! ### What each row runs -/

theorem exec_canFrameReceived (f : CanFrame) (esi : Bool) (sof : SofTime) : exec (.canFrameReceived n f esi sof) s =
    .next (s.runBc (s.canHears n.val && (s.bc.can n.val).receives && (!f.fdf || (s.bc.can n.val).fden))
      fun m => (m.goodReceive n.val).offer n.val f esi (s.localTime sof)) := rfl

theorem exec_rbWord0Read (b : Fin 64) : exec (.rbWord0Read n b) s = .next (s.readBufferWord n.val b.val 0) := rfl

theorem exec_rbLastWordRead (b : Fin 64) : exec (.rbLastWordRead n b) s =
    .next (s.runBc (s.canUp n.val && s.hostMode n.val b.val) fun m => m.updBuf n.val b.val RxBuf.unlock) := rfl

theorem exec_rbUnlock (b : Fin 64) (w : Word) : exec (.rbUnlock n b w) s = .next (s.writeRbstat n.val b.val (w ||| 0x100)) := rfl

theorem exec_canError (e : CanErr) : exec (.canError n e) s =
    .next (s.runBc (s.canHears n.val && (s.bc.can n.val).mode == 1 && (s.bc.can n.val).receives)
      fun m => m.canError n.val e) := rfl

theorem exec_canBusoffEnd : exec (.canBusoffEnd n) s =
    .next (s.runBc (s.canHears n.val && (s.bc.can n.val).estate == 2) fun m => m.busOffEnd n.val) := rfl

theorem exec_canBusJoin : exec (.canBusJoin n) s =
    .next (s.runBc (s.canHears n.val && ((s.bc.can n.val).mode == 1 || (s.bc.can n.val).mode == 2) &&
      !(s.bc.can n.val).onBus && (s.bc.can n.val).estate != 2)
      fun m => m.updCan n.val fun c => Can.confine { c with onBus := true }) := rfl

/-! ### Frames (R521 to R523) -/

section

variable {f : CanFrame} {esi : Bool} {sof : SofTime}

theorem exec_canFrameReceived_of_normal (hears : s.canHears n.val = true) (hrx : (s.bc.can n.val).receives = true)
    (hmode : (s.bc.can n.val).mode = 1) (hrec : (s.bc.can n.val).recCnt ≤ 127)
    (hfd : f.fdf = false ∨ (s.bc.can n.val).fden = true) : exec (.canFrameReceived n f esi sof) s =
      .next (s.withBc ((s.bc.setCan n.val (s.bc.can n.val).heardGood).offer n.val f esi (s.localTime sof))) := by
  have hok : (s.canHears n.val && (s.bc.can n.val).receives && (!f.fdf || (s.bc.can n.val).fden)) = true := by
    rcases hfd with hfd | hfd <;> simp [hears, hrx, hfd]
  rw [exec_canFrameReceived, State.runBc_of_on _ hok, Bc.goodReceive_of_normal hmode hrec]

theorem canFrameReceived_taken {b : Nat} (hears : s.canHears n.val = true) (hrx : (s.bc.can n.val).receives = true)
    (hmode : (s.bc.can n.val).mode = 1) (hrec : (s.bc.can n.val).recCnt ≤ 127)
    (hfd : f.fdf = false ∨ (s.bc.can n.val).fden = true) (hleft : s.bc.LeavesToBuffers n.val f)
    (hfind : (List.range 64).find? (fun b => s.bufferTakes n.val b f) = some b) (hhost : s.hostMode n.val b = true)
    (hlock : ((s.bc.can n.val).buf b).lock = false) (hnew : ((s.bc.can n.val).buf b).new = false) :
    Completes (.canFrameReceived n f esi sof) s fun t =>
      (t.bc.can n.val).buf b =
        { (s.bc.can n.val).buf b with window := frameWords f esi false b (s.localTime sof / 1000), new := true } ∧
      (t.bc.can n.val).recCnt = (s.bc.can n.val).recCnt - 1 ∧
      (∀ j, j ≠ b → (t.bc.can n.val).buf j = (s.bc.can n.val).buf j) ∧
      (t.bc.can n.val).noMatch = (s.bc.can n.val).noMatch := by
  refine ⟨_, exec_canFrameReceived_of_normal hears hrx hmode hrec hfd, ?_⟩
  rw [Bc.offer_of_taken (hleft.setCan _) hfind hhost, Bc.hostBuffer_of_free, Bc.can_setCan_self]
  · have hcan (c d : Can) : ((s.withBc ((s.bc.setCan n.val c).setCan n.val d)).bc.can n.val) = d := Bc.can_setCan_self _
    simp only [hcan]
    exact ⟨Can.buf_setBuf_self .., rfl, fun j hj => Can.buf_setBuf_ne _ _ hj, rfl⟩
  · rw [Bc.can_setCan_self]
    exact hlock
  · rw [Bc.can_setCan_self]
    exact hnew

theorem canFrameReceived_unmatched (hears : s.canHears n.val = true) (hrx : (s.bc.can n.val).receives = true)
    (hmode : (s.bc.can n.val).mode = 1) (hrec : (s.bc.can n.val).recCnt ≤ 127)
    (hfd : f.fdf = false ∨ (s.bc.can n.val).fden = true) (hleft : s.bc.LeavesToBuffers n.val f)
    (hnone : ∀ b < 64, s.bufferTakes n.val b f = false) :
    Completes (.canFrameReceived n f esi sof) s fun t =>
      (t.bc.can n.val).noMatch = satInc (s.bc.can n.val).noMatch ∧ (t.bc.can n.val).bufs = (s.bc.can n.val).bufs ∧
      t = { s with cans := t.cans } := by
  refine ⟨_, exec_canFrameReceived_of_normal hears hrx hmode hrec hfd, ?_⟩
  rw [Bc.offer_of_unmatched (hleft.setCan _) hnone, Bc.can_setCan_self]
  have hcan (c d : Can) : ((s.withBc ((s.bc.setCan n.val c).setCan n.val d)).bc.can n.val) = d := Bc.can_setCan_self _
  simp only [hcan]
  exact ⟨rfl, rfl, rfl⟩

theorem exec_canFrameReceived_of_unheard
    (h : s.canHears n.val = false ∨ (s.bc.can n.val).receives = false ∨ (f.fdf = true ∧ (s.bc.can n.val).fden = false)) :
    exec (.canFrameReceived n f esi sof) s = .next s := by
  have hok : (s.canHears n.val && (s.bc.can n.val).receives && (!f.fdf || (s.bc.can n.val).fden)) = false := by
    rcases h with h | h | ⟨hf, hd⟩
    · simp [h]
    · simp [h]
    · simp [hf, hd]
  rw [exec_canFrameReceived, State.runBc_of_off _ hok]

end

/-! ### Host windows (R523) -/

section

variable {b : Fin 64}

/-- A row that changes one host buffer of a controller. -/
theorem completes_of_updBuf {c : Instr} {f : RxBuf → RxBuf} (hexec : exec c s = .next (s.withBc (s.bc.updBuf n.val b.val f))) :
    Completes c s fun t => (t.bc.can n.val).buf b.val = f ((s.bc.can n.val).buf b.val) ∧ t = { s with cans := t.cans } :=
  ⟨_, hexec, Bc.buf_updBuf_self .., rfl⟩

theorem exec_rbWord0Read_of_host (hup : s.canUp n.val = true) (hhost : s.hostMode n.val b.val = true) :
    exec (.rbWord0Read n b) s = .next (s.withBc (s.bc.updBuf n.val b.val fun x => { x with lock := true })) := by
  rw [exec_rbWord0Read, State.readBufferWord, State.runBc_of_on _ (by simp [hup, hhost])]
  rfl

theorem exec_rbLastWordRead_of_host (hup : s.canUp n.val = true) (hhost : s.hostMode n.val b.val = true) :
    exec (.rbLastWordRead n b) s = .next (s.withBc (s.bc.updBuf n.val b.val RxBuf.unlock)) := by
  rw [exec_rbLastWordRead, State.runBc_of_on _ (by simp [hup, hhost])]

theorem exec_rbUnlock_of_host (hup : s.canUp n.val = true) (hhost : s.hostMode n.val b.val = true) (w : Word) :
    exec (.rbUnlock n b w) s = .next (s.withBc (s.bc.updBuf n.val b.val fun x => if x.lock then x.unlock else x)) := by
  have hbit : (w ||| 0x100).getLsbD 8 = true := getLsbD_or_of_set (by decide)
  rw [exec_rbUnlock, State.writeRbstat, State.runBc_of_on _ (by rw [hup, hhost, hbit]; rfl)]

theorem RxBuf.unlock_of_none {x : RxBuf} (h : x.pending = none) : x.unlock = { x with lock := false, new := false } := by
  rw [RxBuf.unlock, h]

theorem RxBuf.unlock_of_pending {x : RxBuf} {w : List Word} (h : x.pending = some w) :
    x.unlock = { x with lock := false, window := w, new := true, pending := none } := by
  rw [RxBuf.unlock, h]

end

/-! ### Error confinement (R515, R537, R538) -/

theorem exec_canError_of_normal (hears : s.canHears n.val = true) (hrx : (s.bc.can n.val).receives = true)
    (hmode : (s.bc.can n.val).mode = 1) (e : CanErr) : exec (.canError n e) s = .next (s.withBc (s.bc.canError n.val e)) := by
  rw [exec_canError, State.runBc_of_on _ (by simp [hears, hrx, hmode])]

theorem canError_of_within {e : CanErr} (hears : s.canHears n.val = true) (hrx : (s.bc.can n.val).receives = true)
    (hmode : (s.bc.can n.val).mode = 1) (htec : ((s.bc.can n.val).count e).tec ≤ 255) :
    Completes (.canError n e) s fun t => t.bc.can n.val = ((s.bc.can n.val).count e).confine :=
  ⟨_, exec_canError_of_normal hears hrx hmode e, Bc.canError_of_within htec⟩

theorem canError_of_busOff (hears : s.canHears n.val = true) (hrx : (s.bc.can n.val).receives = true)
    (hmode : (s.bc.can n.val).mode = 1) (htec : 255 < (s.bc.can n.val).tec + 8) (hq : (s.bc.can n.val).queue = []) :
    Completes (.canError n .transmit) s fun t =>
      t.bc.can n.val = { s.bc.can n.val with tec := (s.bc.can n.val).tec + 8, estate := 2, boSeen := true, recov := 0, won := false } ∧
      t.recorder = s.recorder.put s.dev 0x0C 0x0C01 (leBytes 1 n.val ++ leBytes 1 (min 255 (s.bc.can n.val).recCnt)) := by
  obtain ⟨hcan, hqf⟩ := Bc.canError_of_busOff (m := s.bc) (n := n.val) (e := .transmit) htec hq
  exact ⟨_, exec_canError_of_normal hears hrx hmode .transmit, hcan, congrArg Qf.recorder hqf⟩

theorem exec_canError_of_unheard (h : s.canHears n.val = false ∨ (s.bc.can n.val).receives = false ∨ (s.bc.can n.val).mode ≠ 1)
    (e : CanErr) : exec (.canError n e) s = .next s := by
  have hok : (s.canHears n.val && (s.bc.can n.val).mode == 1 && (s.bc.can n.val).receives) = false := by
    rcases h with h | h | h <;> simp [h]
  rw [exec_canError, State.runBc_of_off _ hok]

/-- The controller as bus-off ends. -/
def Can.recovered (c : Can) : Can :=
  { c with estate := 0, tec := 0, recCnt := 0, onBus := false, recov := 0, busoffs := satInc c.busoffs }

theorem Bc.can_busOffEnd (m : Bc) (k : Nat) : (m.busOffEnd k).can k = (m.can k).recovered :=
  Bc.can_updCan_self (m := m) (n := k) Can.recovered

/-- The controller once it has joined the bus. -/
def Can.joined (c : Can) : Can := Can.confine { c with onBus := true }

theorem canBusoffEnd_of_busOff (hears : s.canHears n.val = true) (hoff : (s.bc.can n.val).estate = 2) :
    Completes (.canBusoffEnd n) s fun t => t.bc.can n.val = (s.bc.can n.val).recovered := by
  refine ⟨s.withBc (s.bc.busOffEnd n.val), ?_, ?_⟩
  · rw [exec_canBusoffEnd, State.runBc_of_on _ (by simp [hears, hoff])]
  · exact Bc.can_busOffEnd s.bc n.val

theorem exec_canBusoffEnd_of_other (h : s.canHears n.val = false ∨ (s.bc.can n.val).estate ≠ 2) :
    exec (.canBusoffEnd n) s = .next s := by
  have hok : (s.canHears n.val && (s.bc.can n.val).estate == 2) = false := by
    rcases h with h | h
    · rw [h, Bool.false_and]
    · rw [beq_eq_false_iff_ne.mpr h, Bool.and_false]
  rw [exec_canBusoffEnd, State.runBc_of_off _ hok]

theorem canBusJoin_of_off (hears : s.canHears n.val = true) (hmode : (s.bc.can n.val).mode = 1 ∨ (s.bc.can n.val).mode = 2)
    (hbus : (s.bc.can n.val).onBus = false) (hoff : (s.bc.can n.val).estate ≠ 2) :
    Completes (.canBusJoin n) s fun t =>
      t.bc.can n.val = (s.bc.can n.val).joined ∧ t = { s with cans := t.cans } := by
  have hok : (s.canHears n.val && ((s.bc.can n.val).mode == 1 || (s.bc.can n.val).mode == 2) &&
      !(s.bc.can n.val).onBus && (s.bc.can n.val).estate != 2) = true := by
    rw [bne_iff_ne.mpr hoff]
    rcases hmode with hmode | hmode <;> simp [hears, hmode, hbus]
  refine ⟨s.withBc (s.bc.updCan n.val Can.joined), ?_, Bc.can_updCan_self (m := s.bc) (n := n.val) Can.joined, rfl⟩
  rw [exec_canBusJoin, State.runBc_of_on _ hok]
  rfl

theorem exec_canBusJoin_of_other (h : s.canHears n.val = false ∨ (s.bc.can n.val).onBus = true) :
    exec (.canBusJoin n) s = .next s := by
  have hok : (s.canHears n.val && ((s.bc.can n.val).mode == 1 || (s.bc.can n.val).mode == 2) &&
      !(s.bc.can n.val).onBus && (s.bc.can n.val).estate != 2) = false := by
    rcases h with h | h <;> simp [h]
  rw [exec_canBusJoin, State.runBc_of_off _ hok]

/-! ### A controller that is not there (R514) -/

theorem State.canHears_of_down (h : s.canUp n.val = false) : s.canHears n.val = false := by rw [State.canHears, h, Bool.false_and]

theorem exec_window_of_down (h : s.canUp n.val = false) (b : Fin 64) (w : Word) :
    exec (.rbWord0Read n b) s = .next s ∧ exec (.rbLastWordRead n b) s = .next s ∧ exec (.rbUnlock n b w) s = .next s := by
  have hoff (x : Bool) : (s.canUp n.val && x) = false := by rw [h, Bool.false_and]
  refine ⟨?_, ?_, ?_⟩
  · rw [exec_rbWord0Read, State.readBufferWord, State.runBc_of_off _ (hoff _)]
  · rw [exec_rbLastWordRead, State.runBc_of_off _ (hoff _)]
  · rw [exec_rbUnlock, State.writeRbstat, State.runBc_of_off _ (by rw [h]; rfl)]

end Sys2Proof.Machine
end

section
/-! SUPPORT. CAN reception, host buffers and error confinement (R515, R521 to R523, R537, R538). -/

namespace Sys2Proof.Machine

/-- Settles O47: frames, window reads, errors, the end of bus-off and the join, row by row, where the controller hears the bus. -/
theorem canFramesAreReceived : Obligations.CanFramesAreReceived := by
  unfold Obligations.CanFramesAreReceived
  intro s n
  refine ⟨fun hup => ⟨fun f esi sof b hears hrx hmode hrec hfd href hcopy hack hfind hhost hlock hnew =>
      canFrameReceived_taken hears hrx hmode hrec hfd ⟨href, hcopy, hack⟩ hfind hhost hlock hnew,
    fun f esi sof hears hrx hmode hrec hfd href hcopy hack hnone =>
      canFrameReceived_unmatched hears hrx hmode hrec hfd ⟨href, hcopy, hack⟩ hnone,
    fun f esi sof h => exec_canFrameReceived_of_unheard h, fun b hhost => ?_, fun hears hrx hmode htec => ?_,
    fun hears hrx hmode htec hq => canError_of_busOff hears hrx hmode htec hq, fun hears hrx hmode htec => ?_,
    fun e h => exec_canError_of_unheard h e, fun hears hoff => canBusoffEnd_of_busOff hears hoff,
    fun h => exec_canBusoffEnd_of_other h, fun hears hmode hbus hoff => ?_, fun h => exec_canBusJoin_of_other h⟩,
    fun f esi sof e b w hdown i hi => ?_⟩
  · refine ⟨completes_of_updBuf (exec_rbWord0Read_of_host hup hhost), fun hp => ?_, fun w hp => ?_, fun w hlock hp => ?_,
      fun w hlock => ?_⟩
    · exact (completes_of_updBuf (exec_rbLastWordRead_of_host hup hhost)).imp
        fun t ht => ⟨ht.1.trans (RxBuf.unlock_of_none hp), ht.2⟩
    · exact (completes_of_updBuf (exec_rbLastWordRead_of_host hup hhost)).imp
        fun t ht => ht.1.trans (RxBuf.unlock_of_pending hp)
    · refine (completes_of_updBuf (exec_rbUnlock_of_host hup hhost w)).imp fun t ht => ht.1.trans ?_
      exact (if_pos hlock).trans (RxBuf.unlock_of_none hp)
    · refine (completes_of_updBuf (exec_rbUnlock_of_host hup hhost w)).imp fun t ht => ht.1.trans ?_
      exact if_neg (Bool.eq_false_iff.mp hlock)
  · exact (canError_of_within (e := .transmit) hears hrx hmode htec).imp fun t ht => ht.trans (Can.confine_eq _)
  · refine (canError_of_within (e := .dominant false) hears hrx hmode htec).imp fun t ht => ?_
    exact ⟨(congrArg Can.recCnt ht :), (congrArg Can.tec ht :)⟩
  · refine (canBusJoin_of_off hears hmode hbus hoff).imp fun t ht => ⟨ht.1.trans ?_, ht.2⟩
    exact Can.confine_eq _
  · obtain ⟨hword0, hlast, hunlock⟩ := exec_window_of_down hdown b w
    have hdeaf := State.canHears_of_down hdown
    simp only [List.mem_cons, List.not_mem_nil, or_false] at hi
    rcases hi with rfl | rfl | rfl | rfl | rfl | rfl | rfl
    · exact exec_canFrameReceived_of_unheard (.inl hdeaf)
    · exact hword0
    · exact hlast
    · exact hunlock
    · exact exec_canError_of_unheard (.inl hdeaf) e
    · exact exec_canBusoffEnd_of_other (.inl hdeaf)
    · exact exec_canBusJoin_of_other (.inl hdeaf)

end Sys2Proof.Machine
end

section
/-! SUPPORT. Single operations of the time service: its states, a master's reference, a slave's pairs (R541 to R545). -/

namespace Sys2Proof.Machine

variable {m : Bc}

/-! ### Connections follow the time service (R564, R566) -/

theorem Bc.time_connState (m : Bc) (c : Nat) (x : ConnState) : (m.connState c x).time = m.time := by
  unfold Bc.connState
  dsimp only
  split <;> rfl

theorem Bc.time_refreshTx (m : Bc) : m.refreshTx.time = m.time :=
  foldl_keeps (p := Bc.time) (fun m c => by
    dsimp only
    split
    · exact m.time_connState c _
    · rfl) _ m

theorem Bc.time_timeState {x : TimeState} (h : m.time.stat ≠ x) :
    (m.timeState x).time = { m.time with stat := x, good := 0 } := by
  unfold Bc.timeState
  rw [if_neg (by simpa using h)]
  exact Bc.time_refreshTx _

/-! ### The master (R541, R542) -/

theorem Bc.enter_of_room {n : Nat} {e : TxEntry} (hlisten : (m.can n).mode ≠ 2) (hfd : (m.can n).fden = true)
    (hroom : (m.can n).queue.length < 32) :
    m.enter n e = m.setCan n { m.can n with queue := (m.can n).queue ++ [e] } := by
  unfold Bc.enter
  exact if_neg (by simp [Can.listen, Can.full, hlisten, hfd, hroom])

theorem Bc.enter_of_classic {n : Nat} {e : TxEntry} (hfd : (m.can n).fden = false) (he : e.head.getLsbD 30 = true) :
    m.enter n e = m := by
  unfold Bc.enter
  exact if_pos (by simp [hfd, he])

/-- The entry of the next reference message. -/
def Bc.referenceEntry (m : Bc) : TxEntry :=
  TxEntry.new .time 0 false
    (BitVec.ofNat 32 (getBits m.time.cfg 28 0 % (if m.time.cfg.getLsbD 29 then 2 ^ 29 else 2 ^ 11) + bit (m.time.cfg.getLsbD 29) * 2 ^ 29 +
      2 ^ 30 + m.env.BUS_CANTXPCFG_BRS m.env.timeCtrl 0 * 2 ^ 31)) false false
    (m.time.reference m.env.BUS_TSCTL_NODE (m.time.seq + 1))

theorem Bc.sendReference_eq (m : Bc) :
    m.sendReference = { m with time := { m.time with seq := m.time.seq + 1 } }.enter m.env.timeCtrl m.referenceEntry := rfl

/-- A reference message is an FD frame (R541). -/
theorem Bc.referenceEntry_fd (m : Bc) : m.referenceEntry.head.getLsbD 30 = true := by
  have hid : getBits m.time.cfg 28 0 % (if m.time.cfg.getLsbD 29 then 2 ^ 29 else 2 ^ 11) < 2 ^ 29 := by
    split <;> omega
  have hide : bit (m.time.cfg.getLsbD 29) ≤ 1 := by cases m.time.cfg.getLsbD 29 <;> decide
  show (BitVec.ofNat 32 _).getLsbD 30 = true
  rw [BitVec.getLsbD_ofNat, Nat.testBit_eq_decide_div_mod_eq]
  simp only [Nat.reduceLT, decide_true, Bool.true_and, decide_eq_true_eq]
  omega

/-! ### A slave's pairs (R543, R544) -/

theorem TimeSvc.nt_at_anchor (t : TimeSvc) : t.nt t.la = t.na := by
  unfold TimeSvc.nt
  rw [sub_self, zero_mul, rnDiv_zero]
  omega

/-- A pair taken while UNSYNC steps to the master's time (R544). -/
theorem TimeSvc.pairStep_of_unsync {t : TimeSvc} (h : t.stat = .unsync) (ls mt : Int) (rper filt : Nat) (stepns free : Int) :
    ∃ rate err, t.pairStep ls mt rper filt stepns free =
      ({ t with la := ls, na := mt, corr := 0, rate := rate, err := err, pair := some (ls, mt), steps := satInc t.steps }, true) := by
  refine ⟨(t.pairStep ls mt rper filt stepns free).1.rate, (t.pairStep ls mt rper filt stepns free).1.err, ?_⟩
  have hstep : (t.stat == .unsync) = true := by rw [h]; rfl
  unfold TimeSvc.pairStep
  simp only [hstep, Bool.true_or, if_true]

theorem Bc.pairState_of_unsync (h : m.time.stat = .unsync) : m.pairState = m.timeState .acquiring := by
  unfold Bc.pairState
  dsimp only
  rw [h]

theorem Bc.time_pair_of_unsync (h : m.time.stat = .unsync) (ls mt : Int) (q : BitVec 16) :
    ∃ rate err, (m.pair ls mt q).time = { m.time with
      stat := .acquiring, good := 0, la := ls, na := mt, corr := 0, rate := rate, err := err, pair := some (ls, mt),
      steps := satInc m.time.steps } := by
  obtain ⟨rate, err, hstep⟩ := TimeSvc.pairStep_of_unsync h ls mt m.env.BUS_TSCTL_RPER m.env.BUS_TSCTL_RFILT
    ((m.env.reg .BUS_TSSTEPNS).toNat : Int) (Config.freeWord m.qf.fresh).toInt
  refine ⟨rate, err, ?_⟩
  unfold Bc.pair
  dsimp only
  rw [hstep, if_pos rfl, Bc.pairState_of_unsync (by exact h)]
  exact Bc.time_timeState fun hx => absurd (h.symm.trans hx) (by decide)

/-! ### HOLDOVER (R545) -/

theorem Bc.time_holdover (h : m.time.stat ≠ .holdover) : m.holdover.time = { m.time with
    stat := .holdover, good := 0, corr := 0, la := m.env.dev * 1000, na := m.time.nt (m.env.dev * 1000) } := by
  unfold Bc.holdover
  exact Bc.time_timeState h

end Sys2Proof.Machine
end

section
/-! SUPPORT. The rows of the time service (R541 to R545, R554). -/

namespace Sys2Proof.Machine

variable {s : State}

/-! ### The master's reference (R541, R542) -/

theorem exec_timeRefSend (s : State) : exec .timeRefSend s =
    .next (s.runBc (s.canUp s.timeCtrl && s.time.stat == .master) Bc.sendReference) := rfl

theorem exec_timeRefSend_of_master (hup : s.canUp s.timeCtrl = true) (hstat : s.time.stat = .master) :
    exec .timeRefSend s = .next (s.withBc s.bc.sendReference) := by
  rw [exec_timeRefSend, State.runBc_of_on _ (by simp [hup, hstat])]

/-- BUS's part once the master has counted its next SEQ. -/
def State.bcCounted (s : State) : Bc := { s.bc with time := { s.time with seq := s.time.seq + 1 } }

theorem timeRefSend_of_room (hup : s.canUp s.timeCtrl = true) (hstat : s.time.stat = .master)
    (hlisten : (s.bc.can s.timeCtrl).mode ≠ 2) (hfd : (s.bc.can s.timeCtrl).fden = true)
    (hroom : (s.bc.can s.timeCtrl).queue.length < 32) :
    Completes .timeRefSend s fun t =>
      t.time = { s.time with seq := s.time.seq + 1 } ∧
      ∃ e, (t.bc.can s.timeCtrl).queue = (s.bc.can s.timeCtrl).queue ++ [e] ∧ e.src = .time ∧
        e.data = s.time.reference s.BUS_TSCTL_NODE (s.time.seq + 1) := by
  have hsend : s.bc.sendReference = s.bcCounted.setCan s.timeCtrl
      { s.bc.can s.timeCtrl with queue := (s.bc.can s.timeCtrl).queue ++ [s.bc.referenceEntry] } :=
    (Bc.sendReference_eq _).trans (Bc.enter_of_room (m := s.bcCounted) hlisten hfd hroom)
  refine ⟨_, exec_timeRefSend_of_master hup hstat, ?_⟩
  rw [hsend]
  exact ⟨rfl, s.bc.referenceEntry, congrArg Can.queue (Bc.can_setCan_self _), rfl, rfl⟩

theorem timeRefSend_of_classic (hup : s.canUp s.timeCtrl = true) (hstat : s.time.stat = .master)
    (hfd : (s.bc.can s.timeCtrl).fden = false) :
    Completes .timeRefSend s fun t => t.cans = s.cans ∧ t.time = { s.time with seq := s.time.seq + 1 } := by
  have hsend : s.bc.sendReference = s.bcCounted :=
    (Bc.sendReference_eq _).trans (Bc.enter_of_classic (m := s.bcCounted) hfd s.bc.referenceEntry_fd)
  refine ⟨_, exec_timeRefSend_of_master hup hstat, ?_⟩
  rw [hsend]
  exact ⟨rfl, rfl⟩

theorem exec_timeRefSend_of_other (h : s.time.stat ≠ .master) : exec .timeRefSend s = .next s := by
  rw [exec_timeRefSend, State.runBc_of_off _ (by simp [h])]

/-! ### A slave's references (R543, R544) -/

theorem exec_timeRefReceived (s : State) : exec .timeRefReceived s =
    .next (s.runBc (s.runs .bus && s.timeRole == 2 && s.time.stat != .off) Bc.takeReference) := rfl

theorem exec_timeRefReceived_of_slave (hruns : s.runs .bus = true) (hrole : s.timeRole = 2) (hstat : s.time.stat ≠ .off) :
    exec .timeRefReceived s = .next (s.withBc s.bc.takeReference) := by
  rw [exec_timeRefReceived, State.runBc_of_on _ (by rw [hruns, hrole, bne_iff_ne.mpr hstat]; rfl)]

section

variable {d : List Byte} {lt l : Nat} {rest : List (List Byte × Nat)}

/-- BUS's part once the slave has taken a reference. -/
def State.bcHeld (s : State) (d : List Byte) (lt : Nat) (rest : List (List Byte × Nat)) : Bc :=
  { s.bc with time := { s.time with
      inbox := rest, seq := BitVec.ofNat 16 (leAt d 0 2), prev := some (BitVec.ofNat 16 (leAt d 0 2), lt) } }

theorem Bc.takeReference_of_first (hbox : s.time.inbox = (d, lt) :: rest) (hprev : s.time.prev = none) :
    s.bc.takeReference = s.bcHeld d lt rest := by
  have hbox' : s.bc.time.inbox = (d, lt) :: rest := hbox
  have hprev' : s.bc.time.prev = none := hprev
  unfold Bc.takeReference
  rw [hbox']
  dsimp only
  rw [hprev']
  rfl

theorem Bc.takeReference_of_pair (hbox : s.time.inbox = (d, lt) :: rest)
    (hprev : s.time.prev = some (BitVec.ofNat 16 (leAt d 0 2) - 1, l)) (hvalid : (d.getD 3 0).getLsbD 0 = true) :
    s.bc.takeReference = (s.bcHeld d lt rest).pair l (leAt d 4 8 : Nat) (BitVec.ofNat 16 (leAt d 0 2)) := by
  have hbox' : s.bc.time.inbox = (d, lt) :: rest := hbox
  have hprev' : s.bc.time.prev = some (BitVec.ofNat 16 (leAt d 0 2) - 1, l) := hprev
  have hnext : (BitVec.ofNat 16 (leAt d 0 2) - 1 + 1 == BitVec.ofNat 16 (leAt d 0 2)) = true := by
    rw [BitVec.sub_add_cancel, BEq.rfl]
  unfold Bc.takeReference
  rw [hbox']
  dsimp only
  rw [hprev']
  dsimp only
  rw [hvalid, hnext]
  rfl

theorem timeRefReceived_of_first (hruns : s.runs .bus = true) (hrole : s.timeRole = 2) (hstat : s.time.stat ≠ .off)
    (hbox : s.time.inbox = (d, lt) :: rest) (hprev : s.time.prev = none) :
    Completes .timeRefReceived s fun t =>
      t.time = { s.time with
        inbox := rest, seq := BitVec.ofNat 16 (leAt d 0 2), prev := some (BitVec.ofNat 16 (leAt d 0 2), lt) } ∧
      t = { s with time := t.time } := by
  refine ⟨_, exec_timeRefReceived_of_slave hruns hrole hstat, ?_⟩
  rw [Bc.takeReference_of_first hbox hprev]
  exact ⟨rfl, rfl⟩

theorem timeRefReceived_of_pair (hruns : s.runs .bus = true) (hrole : s.timeRole = 2) (hstat : s.time.stat = .unsync)
    (hbox : s.time.inbox = (d, lt) :: rest) (hprev : s.time.prev = some (BitVec.ofNat 16 (leAt d 0 2) - 1, l))
    (hvalid : (d.getD 3 0).getLsbD 0 = true) :
    Completes .timeRefReceived s fun t =>
      t.time.stat = .acquiring ∧ t.time.la = l ∧ t.time.na = leAt d 4 8 ∧ t.time.corr = 0 ∧
      t.time.steps = satInc s.time.steps ∧ t.time.pair = some ((l : Int), (leAt d 4 8 : Int)) ∧ t.time.inbox = rest ∧
      t.time.nt l = leAt d 4 8 := by
  obtain ⟨rate, err, htime⟩ := Bc.time_pair_of_unsync (m := s.bcHeld d lt rest) hstat l (leAt d 4 8 : Nat)
    (BitVec.ofNat 16 (leAt d 0 2))
  refine ⟨_, exec_timeRefReceived_of_slave hruns hrole (by rw [hstat]; decide), ?_⟩
  rw [Bc.takeReference_of_pair hbox hprev hvalid]
  have hdone : (s.withBc ((s.bcHeld d lt rest).pair l (leAt d 4 8 : Nat) (BitVec.ofNat 16 (leAt d 0 2)))).time = _ := htime
  beta_reduce
  rw [hdone]
  exact ⟨rfl, rfl, rfl, rfl, rfl, rfl, rfl, TimeSvc.nt_at_anchor _⟩

theorem exec_timeRefReceived_of_none (h : s.time.inbox = []) : exec .timeRefReceived s = .next s := by
  have htake : s.bc.takeReference = s.bc := by
    have hbox : s.bc.time.inbox = [] := h
    rw [Bc.takeReference, hbox]
  rw [exec_timeRefReceived, State.runBc, htake]
  exact congrArg _ (ite_self s)

end

/-! ### Silence (R545) -/

theorem exec_timeHoldoverTimeout (s : State) : exec .timeHoldoverTimeout s =
    .next (s.runBc (s.runs .bus && (s.time.stat == .locked || s.time.stat == .acquiring)) Bc.holdover) := rfl

theorem exec_timeUnsyncTimeout (s : State) : exec .timeUnsyncTimeout s =
    .next (s.runBc (s.runs .bus && s.time.stat == .holdover) fun m => m.timeState .unsync) := rfl

theorem timeHoldoverTimeout_of_synced (hruns : s.runs .bus = true) (hstat : s.time.stat = .locked ∨ s.time.stat = .acquiring) :
    Completes .timeHoldoverTimeout s fun t => t.time = { s.time with
      stat := .holdover, good := 0, corr := 0, la := s.dev * 1000, na := s.time.nt (s.dev * 1000) } := by
  have hother : s.time.stat ≠ .holdover := by rcases hstat with h | h <;> rw [h] <;> decide
  refine ⟨s.withBc s.bc.holdover, ?_, Bc.time_holdover (m := s.bc) hother⟩
  rw [exec_timeHoldoverTimeout, State.runBc_of_on _ (by rcases hstat with h | h <;> rw [hruns, h] <;> rfl)]

theorem exec_timeHoldoverTimeout_of_other
    (h : s.time.stat = .off ∨ s.time.stat = .unsync ∨ s.time.stat = .holdover ∨ s.time.stat = .master) :
    exec .timeHoldoverTimeout s = .next s := by
  have hok : (s.runs .bus && (s.time.stat == .locked || s.time.stat == .acquiring)) = false := by
    rcases h with h | h | h | h <;> rw [h] <;> exact Bool.and_false _
  rw [exec_timeHoldoverTimeout, State.runBc_of_off _ hok]

theorem timeUnsyncTimeout_of_holdover (hruns : s.runs .bus = true) (hstat : s.time.stat = .holdover) :
    Completes .timeUnsyncTimeout s fun t => t.time = { s.time with stat := .unsync, good := 0 } := by
  have hother : s.time.stat ≠ .unsync := by rw [hstat]; decide
  refine ⟨s.withBc (s.bc.timeState .unsync), ?_, Bc.time_timeState (m := s.bc) hother⟩
  rw [exec_timeUnsyncTimeout, State.runBc_of_on _ (by rw [hruns, hstat]; rfl)]

theorem exec_timeUnsyncTimeout_of_other (h : s.time.stat ≠ .holdover) : exec .timeUnsyncTimeout s = .next s := by
  rw [exec_timeUnsyncTimeout, State.runBc_of_off _ (by rw [beq_eq_false_iff_ne.mpr h, Bool.and_false])]

/-! ### Reads of BUS_TSNTLO (R554) -/

theorem exec_tsntloRead (phase : Fin 80) (s : State) : exec (.tsntloRead phase) s =
    .next (if s.runs .bus && s.timeRole != 0 then (s.readTsntlo phase.val).2 else s) := rfl

/-- Settles O48: the master's reference, a slave's references and pairs, the timeouts and the read of BUS_TSNTLO, row by row. -/
theorem networkTimeIsKept : Obligations.NetworkTimeIsKept := by
  unfold Obligations.NetworkTimeIsKept
  intro s
  refine ⟨timeRefSend_of_room, timeRefSend_of_classic, exec_timeRefSend_of_other,
    fun d lt rest => timeRefReceived_of_first, fun d lt rest l => timeRefReceived_of_pair, exec_timeRefReceived_of_none,
    timeHoldoverTimeout_of_synced, exec_timeHoldoverTimeout_of_other, timeUnsyncTimeout_of_holdover,
    exec_timeUnsyncTimeout_of_other, fun phase hruns hrole => ?_, fun phase h => ?_⟩
  · rw [exec_tsntloRead, if_pos (by rw [hruns, bne_iff_ne.mpr hrole]; rfl)]
    rfl
  · rw [exec_tsntloRead, if_neg (by rcases h with h | h <;> simp [h])]

end Sys2Proof.Machine
end

section
/-! SUPPORT. Records beside an engine's posts: what QF writes reaches its own tap only, and a record stays in its tap (R17, R613). -/

namespace Sys2Proof.Machine

/-- The tap of island `j`. -/
def Qf.tap (j : Nat) (x : Qf) : RecTap := x.recorder.taps.get RecTap.reset j

section

variable {j : Nat}

theorem Qf.tap_note_of_ne (x : Qf) {code : Nat} (data : List Byte) (h : code / 256 ≠ j) : (x.note code data).tap j = x.tap j :=
  Recorder.put_taps_of_ne _ _ _ _ _ h

theorem Qf.tap_loseTag (hj : 3 ≠ j) (x : Qf) (n : Nat) (ws : List Word) : (x.loseTag n ws).tap j = x.tap j := by
  unfold Qf.loseTag
  dsimp only
  split
  · rfl
  · split
    · exact Qf.tap_note_of_ne _ _ hj
    · rfl

theorem Qf.tap_countDrops (hj : 3 ≠ j) (x : Qf) (n : Nat) (q : Queue) (dropped : List PoolItem) :
    (x.countDrops n q dropped).tap j = x.tap j := by
  cases dropped with
  | nil => rfl
  | cons it rest =>
    have hlost (l : List PoolItem) (u : Qf) : (l.foldl (fun x it => x.loseTag n it.words) u).tap j = u.tap j :=
      foldl_keeps (fun y e => Qf.tap_loseTag hj y n (PoolItem.words e)) l u
    have hnote (u : Qf) (data : List Byte) : (u.note 0x0303 data).tap j = u.tap j := Qf.tap_note_of_ne u data hj
    simp only [Qf.countDrops, apply_ite (Qf.tap j), hnote, hlost, ite_self]
    rfl

theorem Qf.tap_putWord (hj : 3 ≠ j) (x : Qf) (n : Nat) (first last : Bool) (w : Word) (seq : Nat) :
    (x.putWord n first last w seq).tap j = x.tap j := by
  unfold Qf.putWord
  split
  · rfl
  · dsimp only
    split
    · rfl
    · exact Qf.tap_countDrops hj ..

theorem Qf.tap_portWord (hj : 3 ≠ j) (x : Qf) (port : Nat) (first last : Bool) (w : Word) :
    (x.portWord port first last w).tap j = x.tap j := by
  have hput (seq : Nat) (l : List (Nat × Queue)) : (l.foldl (fun x e => x.putWord e.1 first last w seq) x).tap j = x.tap j :=
    foldl_keeps (fun y e => Qf.tap_putWord hj y e.1 first last w seq) l x
  unfold Qf.portWord
  dsimp only
  split
  · rfl
  · split
    · exact hput ..
    · exact hput ..

/-- An engine's post leaves the taps of the islands other than QF. -/
theorem Qf.tap_post (hj : 3 ≠ j) (x : Qf) (port : Nat) (ws : List Word) : (x.post port ws).tap j = x.tap j := by
  have hwords (first : Bool) : (x.portWords port first ws).tap j = x.tap j := by
    induction ws generalizing x first with
    | nil => rfl
    | cons w ws ih =>
      cases ws with
      | nil => exact Qf.tap_portWord hj ..
      | cons v ws => exact (ih _ _).trans (Qf.tap_portWord hj ..)
  exact hwords true

end

/-- A record placed in a tap leaves the records before it. -/
theorem RecTap.getElem?_place {t : RecTap} {i : Nat} {r : TapRec} (h : t.recs[i]? = some r) (e : TapRec) :
    (t.place e).recs[i]? = some r := by
  unfold RecTap.place
  split
  · exact (List.getElem?_append_left (List.getElem?_eq_some_iff.mp h).1).trans h
  · exact h

/-- A record placed in a tap with room stands behind the others. -/
theorem RecTap.getElem?_place_new {t : RecTap} (h : t.recs.length < 4) (e : TapRec) : (t.place e).recs[t.recs.length]? = some e := by
  unfold RecTap.place
  rw [if_pos h]
  exact List.getElem?_concat_length

theorem Qf.tap_note_self (x : Qf) {code j : Nat} (data : List Byte) (h : code / 256 = j) :
    (x.note code data).tap j = RecTap.place { dtime := x.dev, code := BitVec.ofNat 16 code, data := data, wall := none } (x.tap j) := by
  subst h
  exact Tbl.get_modify_self ..

end Sys2Proof.Machine
end

section
/-! SUPPORT. Single operations of the Porlux engine: a frame sent, the checks of a received one, the virtual inputs
(R556 to R570). -/

namespace Sys2Proof.Machine

variable {m : Bc} {c : Nat}

/-! ### Connections -/

@[simp] theorem Bc.conn_setConn_self (x : Conn) : (m.setConn c x).conn c = x := Tbl.get_set_self ..

@[simp] theorem Bc.conn_note (code : Nat) (data : List Byte) (k : Nat) : (m.note code data).conn k = m.conn k := rfl

theorem Bc.connState_of_same {x : ConnState} (h : (m.conn c).state = x) : m.connState c x = m := by
  unfold Bc.connState
  rw [h]
  exact if_pos (beq_self_eq_true x)

theorem Bc.conn_connState_self {x : ConnState} : (m.connState c x).conn c = { m.conn c with state := x } := by
  by_cases h : (m.conn c).state = x
  · rw [Bc.connState_of_same h, ← h]
  · unfold Bc.connState
    rw [if_neg (by simpa using h)]
    exact Bc.conn_setConn_self _

theorem Bc.conn_nviUpdate (k : Nat) : m.nviUpdate.conn k = m.conn k := by
  unfold Bc.nviUpdate
  split <;> rfl

theorem Bc.intFlt_connState (m : Bc) (c : Nat) (x : ConnState) : (m.connState c x).porlux.intFlt = m.porlux.intFlt := by
  unfold Bc.connState
  dsimp only
  split <;> rfl

theorem Bc.inbox_nviUpdate : m.nviUpdate.porlux.inbox = m.porlux.inbox := by
  unfold Bc.nviUpdate
  split <;> rfl

/-! ### Transmitting (R556, R557, R561, R562) -/

/-- SEQ of the connection's next frame. -/
def Conn.nextSeq (x : Conn) : BitVec 16 := if x.built then x.lastSeq + 1 else 0

/-- The connection once its next frame is built. -/
def Conn.numbered (x : Conn) : Conn := { x with lastSeq := x.nextSeq, built := true }

/-- The entry of the connection's next frame with this payload. -/
def Bc.pxEntry (m : Bc) (c : Nat) (payload : List Byte) : TxEntry :=
  TxEntry.new (.porlux c) 0 false (m.conn c).head false false
    (pxFrame (m.conn c).connId (m.conn c).nextSeq (m.time.net m.env.dev) (m.conn c).len m.env.ownSeed payload)

/-- A controller takes an FD frame. -/
structure Can.TakesFd (x : Can) : Prop where
  length : x.queue.length < 32
  mode : x.mode ≠ 2
  fden : x.fden = true

theorem length_wordsBytes (ws : List Word) : (wordsBytes ws).length = 4 * ws.length := by
  induction ws with
  | nil => rfl
  | cons w ws ih =>
    have hword : (wordBytes w).length = 4 := rfl
    rw [wordsBytes, List.flatMap_cons, List.length_append, hword, ← wordsBytes, ih, List.length_cons]
    omega

/-- The connection's next frame enters the queue of its controller, numbered, stamped and signed. -/
theorem Bc.pxSend_of_room {ws : List Word} (hlive : m.halts (m.conn c) = false) (hroom : (m.can (m.conn c).ctrl).TakesFd)
    (hlen : (m.conn c).plen = 4 * ws.length) :
    (m.pxSend c ws).conn c = (m.conn c).numbered ∧
    ((m.pxSend c ws).can (m.conn c).ctrl).queue = (m.can (m.conn c).ctrl).queue ++ [m.pxEntry c (wordsBytes ws)] := by
  have hpay : (wordsBytes ws ++ List.replicate (m.conn c).plen 0).take (m.conn c).plen = wordsBytes ws :=
    List.take_left' ((length_wordsBytes ws).trans hlen.symm)
  have hsend : m.pxSend c ws = (m.setConn c (m.conn c).numbered).enter (m.conn c).ctrl (m.pxEntry c (wordsBytes ws)) := by
    unfold Bc.pxSend
    dsimp only
    rw [hlive, if_neg Bool.false_ne_true, hpay]
    rfl
  rw [hsend, Bc.enter_of_room (m := m.setConn c (m.conn c).numbered) hroom.mode hroom.fden hroom.length]
  exact ⟨Bc.conn_setConn_self _, congrArg Can.queue (Bc.can_setCan_self _)⟩

/-! ### The virtual inputs (R466, R569, R570) -/

theorem Bc.netInputs_of_held (h : m.porlux.intFlt = true) : m.netInputs = 0 := if_pos h

theorem Bc.intFlt_nviUpdate : m.nviUpdate.porlux.intFlt = m.porlux.intFlt := by
  unfold Bc.nviUpdate
  split <;> rfl

theorem Bc.nviLast_nviUpdate : m.nviUpdate.porlux.nviLast = m.netInputs := by
  unfold Bc.nviUpdate
  split
  next h => exact h.symm
  next => rfl

/-! ### The watchdog (R567) -/

theorem Bc.conn_watchdog_of_run (hrx : (m.conn c).receives = true) (hrun : (m.conn c).state = .run) :
    (m.watchdog c).conn c = { m.conn c with expiries := satInc (m.conn c).expiries, state := .stale } := by
  unfold Bc.watchdog
  dsimp only
  rw [if_neg (by simp [hrx, hrun]), Bc.conn_nviUpdate, Bc.conn_connState_self, Bc.conn_note, Bc.conn_setConn_self]

theorem Bc.watchdog_of_other (hrun : (m.conn c).state ≠ .run) : m.watchdog c = m := by
  unfold Bc.watchdog
  exact if_pos (by simp [hrun])

/-! ### A received frame (R565, R569) -/

/-- PX_DISCARD is due: the first discarded frame since an accepted one, or a second after the last record (R574). -/
def Bc.discardDue (m : Bc) (c : Nat) : Bool :=
  (m.conn c).fresh || (match (m.conn c).discAt with | some t => decide (t + 1000000 ≤ m.env.dev) | none => true)

/-- The connection after a frame discarded with this code. -/
def Bc.discarded (m : Bc) (c code : Nat) : Conn :=
  { m.conn c with
    discards := satInc (m.conn c).discards
    lastErr := BitVec.ofNat 8 code
    fresh := false
    discAt := if m.discardDue c then some m.env.dev else (m.conn c).discAt }

theorem Bc.discard_eq (code seq : Nat) :
    m.discard c code seq =
      if m.discardDue c then
        (m.setConn c (m.discarded c code)).note 0x0C21 (leBytes 1 c ++ leBytes 1 code ++ leBytes 2 seq)
      else m.setConn c (m.discarded c code) := rfl

theorem Bc.conn_discard (code seq : Nat) : (m.discard c code seq).conn c = m.discarded c code := by
  rw [Bc.discard_eq]
  split
  · exact Bc.conn_setConn_self _
  · exact Bc.conn_setConn_self _

theorem Bc.inbox_discard (code seq : Nat) : (m.discard c code seq).porlux.inbox = m.porlux.inbox := by
  rw [Bc.discard_eq]
  split <;> rfl

/-- The connection after a frame that passes every check. -/
def Conn.passed (x : Conn) (r : PxRecord) (period : Word) : Conn :=
  { x with lastSeq := BitVec.ofNat 16 (leAt r.frame.data 2 2), accAt := some r.at_, period := period, fresh := true }

/-- The connection with the values of a SAFETY frame. -/
def Conn.valued (x : Conn) (d : List Byte) : Conn := { x with values := (pxWord d 0).setWidth 16, word1 := pxWord d 1 }

theorem Bc.deliver_of_safety {r : PxRecord} (hkind : (m.conn c).kind = 0) :
    m.deliver c r = (m.setConn c ((m.conn c).valued r.frame.data)).nviUpdate := by
  unfold Bc.deliver
  dsimp only
  rw [hkind]
  rfl

theorem Bc.accept_of_run {r : PxRecord} (hrun : (m.conn c).state = .run) :
    m.accept c r = (m.setConn c ((m.conn c).passed r (m.env.reg .BUS_PXCPER [c]))).deliver c r := by
  have hnext (d : Nat) : nextConnState (m.conn c) d = .run := by rw [nextConnState, hrun]
  have hstate : ((m.setConn c ((m.conn c).passed r (m.env.reg .BUS_PXCPER [c]))).conn c).state = .run :=
    (congrArg Conn.state (Bc.conn_setConn_self _)).trans hrun
  unfold Bc.accept
  dsimp only
  rw [hnext]
  exact congrArg (Bc.deliver · c r) (Bc.connState_of_same hstate)

theorem Bc.accept_of_safety {r : PxRecord} (hkind : (m.conn c).kind = 0) (hrun : (m.conn c).state = .run) :
    (m.accept c r).porlux.inbox = m.porlux.inbox ∧
    (m.accept c r).conn c = ((m.conn c).passed r (m.env.reg .BUS_PXCPER [c])).valued r.frame.data := by
  have hk : ((m.setConn c ((m.conn c).passed r (m.env.reg .BUS_PXCPER [c]))).conn c).kind = 0 :=
    (congrArg Conn.kind (Bc.conn_setConn_self _)).trans hkind
  rw [Bc.accept_of_run hrun, Bc.deliver_of_safety hk, Bc.conn_nviUpdate, Bc.inbox_nviUpdate, Bc.conn_setConn_self, Bc.conn_setConn_self]
  exact ⟨rfl, rfl⟩

theorem Bc.checked_of_pass {r : PxRecord} (hfirst : (m.conn c).accAt = none) (hpass : m.checks c r = 0) :
    m.checked c r = m.accept c r := by
  unfold Bc.checked
  dsimp only
  rw [hfirst, if_neg Bool.false_ne_true, hpass]
  rfl

/-- A frame whose SEQ is not new is discarded and nothing more (R565). -/
theorem Bc.checked_of_repeated {r : PxRecord} (hfirst : (m.conn c).accAt = none) (hfail : m.checks c r = 4) :
    m.checked c r = m.discard c 4 (leAt r.frame.data 2 2) := by
  unfold Bc.checked
  dsimp only
  rw [hfirst, if_neg Bool.false_ne_true, hfail]
  rfl

/-- BUS's part once the engine has taken the oldest frame record. -/
def Bc.untaken (m : Bc) (rest : List PxRecord) : Bc := { m with porlux := { m.porlux with inbox := rest } }

section

variable {r : PxRecord} {rest : List PxRecord} (hbox : m.porlux.inbox = r :: rest) (hheld : m.porlux.intFlt = false)
  (howner : m.owner r.frame = some c)
include hbox hheld howner

theorem Bc.takeRecord_of_parity : m.takeRecord true = (m.untaken rest).discard c 0x0A (leAt r.frame.data 2 2) := by
  have how : Bc.owner { m with porlux := { m.porlux with inbox := rest } } r.frame = some c := howner
  unfold Bc.takeRecord
  rw [hbox]
  dsimp only
  rw [if_neg (by simp [hheld]), how]
  rfl

theorem Bc.takeRecord_of_length (hfd : r.frame.fdf = true) (hlen : (m.conn c).len = r.frame.data.length) :
    m.takeRecord false = (m.untaken rest).checked c r := by
  have how : Bc.owner { m with porlux := { m.porlux with inbox := rest } } r.frame = some c := howner
  have hl : (Bc.conn { m with porlux := { m.porlux with inbox := rest } } c).len = r.frame.data.length := hlen
  unfold Bc.takeRecord
  rw [hbox]
  dsimp only
  rw [if_neg (by simp [hheld]), how]
  dsimp only
  rw [hl, if_neg Bool.false_ne_true, if_neg (by simp [hfd])]
  rfl

end

/-! ### Internal checks (R570) -/

/-- The record PX_INTERNAL. -/
def Bc.internalRecord (m : Bc) (c : Nat) (k : PxFault) : TapRec :=
  { dtime := m.qf.dev, code := 0x0C23, wall := none, data := [BitVec.ofNat 8 c, match k with | .recheck => 1 | .parity => 2] }

theorem Bc.intFlt_refreshTx : m.refreshTx.porlux.intFlt = m.porlux.intFlt :=
  foldl_keeps (p := fun m => m.porlux.intFlt) (fun m c => by
    dsimp only
    split
    · exact m.intFlt_connState c _
    · rfl) _ m

theorem Bc.tap_note {code : Nat} (data : List Byte) (h : code / 256 = 0x0C) :
    (m.note code data).qf.tap 0x0C =
      RecTap.place { dtime := m.qf.dev, code := BitVec.ofNat 16 code, data := data, wall := none } (m.qf.tap 0x0C) :=
  Qf.tap_note_self _ _ h

theorem Bc.record_connState {i : Nat} {e : TapRec} (x : ConnState) (h : (m.qf.tap 0x0C).recs[i]? = some e) :
    ((m.connState c x).qf.tap 0x0C).recs[i]? = some e := by
  unfold Bc.connState
  dsimp only
  split
  · exact h
  · rw [Bc.tap_note _ rfl]
    exact RecTap.getElem?_place h _

/-- A record of BUS stays in its tap while the connections follow the engine. -/
theorem Bc.record_refreshTx {i : Nat} {e : TapRec} (h : (m.qf.tap 0x0C).recs[i]? = some e) :
    (m.refreshTx.qf.tap 0x0C).recs[i]? = some e := by
  unfold Bc.refreshTx
  refine List.foldlRecOn (motive := fun n : Bc => (n.qf.tap 0x0C).recs[i]? = some e) _ _ h fun n hn k _ => ?_
  dsimp only
  split
  · exact Bc.record_connState _ hn
  · exact hn

theorem Bc.record_nviUpdate : m.nviUpdate.qf.tap 0x0C = m.qf.tap 0x0C := by
  unfold Bc.nviUpdate
  split
  · rfl
  · exact Qf.tap_post (by decide) ..

theorem Bc.record_internal (k : PxFault) (hroom : (m.qf.tap 0x0C).recs.length < 4) :
    ((m.internal c k).qf.tap 0x0C).recs[(m.qf.tap 0x0C).recs.length]? = some (m.internalRecord c k) := by
  unfold Bc.internal
  dsimp only
  rw [Bc.record_nviUpdate]
  refine Bc.record_refreshTx ?_
  rw [Bc.tap_note _ rfl]
  refine (RecTap.getElem?_place_new hroom _).trans ?_
  cases k <;> rfl

theorem Bc.intFlt_internal (k : PxFault) : (m.internal c k).porlux.intFlt = true := by
  unfold Bc.internal
  dsimp only
  rw [Bc.intFlt_nviUpdate, Bc.intFlt_refreshTx]
  rfl

theorem Bc.nviLast_internal (k : PxFault) : (m.internal c k).porlux.nviLast = 0 := by
  unfold Bc.internal
  dsimp only
  rw [Bc.nviLast_nviUpdate]
  exact Bc.netInputs_of_held (Bc.intFlt_refreshTx.trans rfl)

end Sys2Proof.Machine
end

section
/-! SUPPORT. The rows of the Porlux engine (R556 to R570). -/

namespace Sys2Proof.Machine

variable {s : State} (c : Fin 64)

theorem Qf.takeAllStaged_of_not_ready (x : Qf) (code n : Nat) (h : x.fabric.ready code = false) : x.takeAllStaged code n = ([], x) := by
  have htake := x.takeItems_of_not_ready code n h
  unfold Qf.takeItems at htake
  obtain ⟨hitems, hqf⟩ := Prod.mk.inj htake
  exact Prod.ext (List.map_eq_nil_iff.mp hitems) hqf

theorem State.takeNvo_of_none (h : s.noneWaits [0x0CE9]) : s.takeNvo = s := by
  unfold State.takeNvo
  dsimp only
  rw [Qf.takeAllStaged_of_not_ready _ _ _ (h _ (List.mem_singleton.mpr rfl))]
  rfl

theorem exec_pxFrameBuild (s : State) :
    exec (.pxFrameBuild c) s = .next ((if s.pxUp then s.takeNvo else s).runBc (if s.pxUp then s.takeNvo else s).pxUp
      fun m => m.buildFrame c.val) := rfl

theorem exec_pxFrameBuild_of_none (hup : s.pxUp = true) (hnone : s.noneWaits [0x0CE9]) :
    exec (.pxFrameBuild c) s = .next (s.withBc (s.bc.buildFrame c.val)) := by
  rw [exec_pxFrameBuild, if_pos hup, State.takeNvo_of_none hnone, State.runBc_of_on _ hup]

theorem exec_pxDataSend (s : State) : exec (.pxDataSend c) s = .next (s.runBc s.pxUp fun m => m.dataSend c.val) := rfl

theorem exec_pxHeartbeat (s : State) : exec (.pxHeartbeat c) s = .next (s.runBc s.pxUp fun m => m.heartbeat c.val) := rfl

theorem exec_pxFrameReceive (parity : Bool) (s : State) :
    exec (.pxFrameReceive parity) s = .next (s.runBc s.pxUp fun m => m.takeRecord parity) := rfl

theorem exec_pxWatchdogExpire (s : State) : exec (.pxWatchdogExpire c) s = .next (s.runBc s.pxUp fun m => m.watchdog c.val) := rfl

theorem exec_nviPostTick (s : State) : exec .nviPostTick s = .next (s.runBc s.pxUp Bc.postNvi) := rfl

theorem exec_pxInternal (k : PxFault) (s : State) : exec (.pxInternal c k) s = .next (s.runBc s.pxUp fun m => m.internal c.val k) := rfl

theorem exec_pxClrcnt (w : Word) (s : State) : exec (.pxClrcnt w) s = .next (s.writePxctl (w ||| 1)) := rfl

theorem State.qf_withBc {m : Bc} (h : m.qf.dev = s.dev) : (s.withBc m).qf = m.qf := by rw [State.qf, State.withBc, ← h]

/-! ### Transmitting -/

theorem Bc.buildFrame_of_safety {m : Bc} {k : Nat} (htx : (m.conn k).transmits = true) (hkind : (m.conn k).kind = 0) :
    m.buildFrame k = m.pxSend k m.safetyPayload := by
  unfold Bc.buildFrame
  dsimp only
  rw [htx, hkind, if_neg (by decide), if_pos rfl]

theorem Bc.safetyPayload_of_zeros {m : Bc} (htile : m.env.tile 0x0B 0 = none) (hnvo : m.porlux.nvo = none) :
    m.safetyPayload = [0xFFFF0000, 0] := by
  unfold Bc.safetyPayload Bc.nvoWords
  dsimp only
  rw [htile, hnvo]
  rfl

theorem Conn.plen_of_safety {x : Conn} (h : x.kind = 0) : x.plen = 8 := if_pos h

theorem pxFrameBuild_of_safety (hup : s.pxUp = true) (htx : (s.bc.conn c.val).transmits = true)
    (hkind : (s.bc.conn c.val).kind = 0) (htile : s.tile 0x0B 0 = none) (hnone : s.noneWaits [0x0CE9])
    (hnvo : s.porlux.nvo = none) :
    exec (.pxFrameBuild c) s = .next (s.withBc (s.bc.pxSend c.val [0xFFFF0000, 0])) := by
  rw [exec_pxFrameBuild_of_none c hup hnone, Bc.buildFrame_of_safety htx hkind, Bc.safetyPayload_of_zeros htile hnvo]

theorem exec_pxFrameBuild_of_idle (hup : s.pxUp = true) (hidle : (s.bc.conn c.val).transmits = false)
    (hnone : s.noneWaits [0x0CE9]) : exec (.pxFrameBuild c) s = .next s := by
  have hbuild : s.bc.buildFrame c.val = s.bc := if_pos (by simp [hidle])
  rw [exec_pxFrameBuild_of_none c hup hnone, hbuild]
  rfl

theorem Bc.sendFragments_of_one {m : Bc} {k : Nat} (hplen : (m.conn k).plen = 8) (w : Word) (n : Nat) :
    m.sendFragments k [w] (n + 1) 0 = m.pxSend k [1, w] := by
  have hwords : (m.conn k).fragWords = 1 := by rw [Conn.fragWords, hplen]
  unfold Bc.sendFragments
  dsimp only
  rw [hwords]
  exact if_neg (Nat.lt_irrefl 1)

theorem Conn.convWords_of_unmarked {x : Conn} (h : x.tm = 0) (near : Nat) (f : Nat → Nat) (w : Word) :
    x.convWords near f [w] = [w] := by
  unfold Conn.convWords
  rw [h]
  exact congrArg (· :: []) (if_neg (by simp))

/-- An item of one unmarked word is one fragment (R562, R563). -/
theorem Bc.dataSend_of_one {m : Bc} {k : Nat} {w : Word} {q : Qf} (htx : (m.conn k).transmits = true) (hkind : (m.conn k).kind = 1)
    (hlive : m.halts (m.conn k) = false) (hplen : (m.conn k).plen = 8) (htm : (m.conn k).tm = 0)
    (htake : m.qf.takeItem (0x0CD8 + (m.conn k).dport) = (some { words := [w], poison := false }, q)) :
    m.dataSend k = { m with qf := q }.pxSend k [1, w] := by
  have hwords : (m.conn k).fragWords = 1 := by rw [Conn.fragWords, hplen]
  unfold Bc.dataSend
  dsimp only
  rw [if_neg (by simp [htx, hkind, hlive]), htake]
  dsimp only
  rw [hwords, if_neg (by decide), List.take_of_length_le (by simp), Conn.convWords_of_unmarked htm]
  exact Bc.sendFragments_of_one (m := { m with qf := q }) hplen w 15

theorem Bc.dataSend_of_other {m : Bc} {k : Nat} (h : (m.conn k).transmits = false ∨ (m.conn k).kind ≠ 1) : m.dataSend k = m := by
  unfold Bc.dataSend
  exact if_pos (by rcases h with h | h <;> simp [h])

theorem Bc.heartbeat_of_data {m : Bc} {k : Nat} (htx : (m.conn k).transmits = true) (hkind : (m.conn k).kind = 1) :
    m.heartbeat k = m.pxSend k [0] := if_pos (by simp [htx, hkind])

theorem Bc.heartbeat_of_other {m : Bc} {k : Nat} (h : (m.conn k).transmits = false ∨ (m.conn k).kind ≠ 1) : m.heartbeat k = m :=
  if_neg (by rcases h with h | h <;> simp [h])

/-! ### A unit without a working Porlux -/

theorem State.writePxctl_of_down (hup : s.pxUp = false) (w : Word) : s.writePxctl w = s :=
  State.runBc_of_off _ (by rw [hup, Bool.false_and])

theorem exec_pxFrameBuild_of_down (hup : s.pxUp = false) : exec (.pxFrameBuild c) s = .next s := by
  rw [exec_pxFrameBuild, hup, if_neg Bool.false_ne_true, State.runBc_of_off _ hup]

theorem exec_porlux_of_down (hup : s.pxUp = false) (parity : Bool) (k : PxFault) (w : Word) (i : Instr)
    (hi : i ∈ [Instr.pxFrameBuild c, .pxDataSend c, .pxHeartbeat c, .pxFrameReceive parity, .pxWatchdogExpire c, .nviPostTick,
      .pxInternal c k, .pxClrcnt w]) : exec i s = .next s := by
  have off (f : Bc → Bc) : Host.Outcome.next (s.runBc s.pxUp f) = (.next s : Host.Outcome State Fault Refusal) :=
    congrArg _ (State.runBc_of_off f hup)
  simp only [List.mem_cons, List.not_mem_nil, or_false] at hi
  rcases hi with rfl | rfl | rfl | rfl | rfl | rfl | rfl | rfl
  · exact exec_pxFrameBuild_of_down c hup
  · exact off _
  · exact off _
  · exact off _
  · exact off _
  · exact off _
  · exact off _
  · exact congrArg _ (State.writePxctl_of_down hup _)

/-! ### Counters (R572) -/

/-- The connection with its counters cleared. -/
def Conn.cleared (x : Conn) : Conn := { x with discards := 0, expiries := 0 }

/-- The engine with its counters cleared. -/
def Porlux.cleared (p : Porlux) : Porlux :=
  { p with unknown := 0, conns := (List.range 64).foldl (fun t k => t.modify Conn.reset k Conn.cleared) p.conns }

theorem Tbl.get_foldl_modify {α : Type} [DecidableEq α] {d : α} {f : α → α} (hf : ∀ x, f (f x) = f x) (ks : List Nat) (t : Tbl α)
    (k : Nat) : (ks.foldl (fun t j => t.modify d j f) t).get d k = if k ∈ ks then f (t.get d k) else t.get d k := by
  induction ks generalizing t with
  | nil => rfl
  | cons j ks ih =>
    rw [List.foldl_cons, ih, Tbl.get_modify]
    by_cases hjk : j = k
    · subst hjk
      simp [hf]
    · simp [hjk, Ne.symm hjk]

theorem Porlux.conns_cleared (p : Porlux) {k : Nat} (hk : k < 64) :
    p.cleared.conns.get Conn.reset k = (p.conns.get Conn.reset k).cleared := by
  rw [Porlux.cleared, Tbl.get_foldl_modify (f := Conn.cleared) fun _ => rfl, if_pos (List.mem_range.mpr hk)]

theorem State.writePxctl_of_clear (hup : s.pxUp = true) (w : Word) : s.writePxctl (w ||| 1) = { s with porlux := s.porlux.cleared } := by
  have hset : (w ||| 1#32).getLsbD 0 = true := by simp
  exact State.runBc_of_on _ (by rw [hup, Bool.true_and]; exact hset)

end Sys2Proof.Machine
end

namespace Sys2Proof.Machine

/-- Settles O49, a clause at a time: a frame sent is numbered, stamped and signed and enters its controller's queue, a received one
passes the checks or is discarded, and a held engine posts inputs of 0. -/
theorem porluxFramesAreBuiltAndChecked : Obligations.PorluxFramesAreBuiltAndChecked := by
  intro s conn queue nextSeq sent room
  have sends (c : Fin 64) (q : Qf) (ws : List Word)
      (hlive : s.bc.halts (conn s c.val) = false) (hroom : room (conn s c.val)) (hlen : (conn s c.val).plen = 4 * ws.length) :
      sent c.val (s.withBc ({ s.bc with qf := q }.pxSend c.val ws)) (wordsBytes ws) := by
    obtain ⟨hlength, hmode, hfden⟩ := hroom
    obtain ⟨hconn, hqueue⟩ := Bc.pxSend_of_room (m := { s.bc with qf := q }) (c := c.val) hlive ⟨hlength, hmode, hfden⟩ hlen
    exact ⟨hconn, _, hqueue, rfl, rfl, rfl⟩
  refine ⟨fun hup => ⟨?_, ?_, ?_, ?_, ?_, ?_, ?_, ?_, ?_, ?_, ?_, ?_, ?_, ?_⟩, ?_⟩
  case refine_1 =>
    intro c htx hkind hlive hroom htile hnone hnvo
    exact ⟨_, pxFrameBuild_of_safety c hup htx hkind htile hnone hnvo,
      sends c s.qf _ hlive hroom (Conn.plen_of_safety hkind)⟩
  case refine_2 => exact fun c hidle hnone => exec_pxFrameBuild_of_idle c hup hidle hnone
  case refine_3 =>
    intro c w q htx hkind hlive hroom hplen htm htake
    have hexec := exec_pxDataSend c s
    rw [State.runBc_of_on _ hup, Bc.dataSend_of_one (m := s.bc) htx hkind hlive hplen htm htake] at hexec
    exact ⟨_, hexec, sends c q _ hlive hroom hplen⟩
  case refine_4 =>
    intro c h
    rw [exec_pxDataSend, exec_pxHeartbeat, State.runBc_of_on _ hup, State.runBc_of_on _ hup, Bc.dataSend_of_other (m := s.bc) h,
      Bc.heartbeat_of_other (m := s.bc) h]
    exact ⟨rfl, rfl⟩
  case refine_5 =>
    intro c htx hkind hlive hroom hplen
    have hexec := exec_pxHeartbeat c s
    rw [State.runBc_of_on _ hup, Bc.heartbeat_of_data (m := s.bc) htx hkind] at hexec
    exact ⟨_, hexec, sends c s.qf _ hlive hroom hplen⟩
  case refine_6 =>
    intro r rest c hbox hheld howner hfd hlen hfirst hkind hrun hpass
    have hexec := exec_pxFrameReceive false s
    rw [State.runBc_of_on _ hup, Bc.takeRecord_of_length (m := s.bc) hbox hheld howner hfd hlen,
      Bc.checked_of_pass (m := s.bc.untaken rest) hfirst hpass] at hexec
    obtain ⟨hinbox, hconn⟩ := Bc.accept_of_safety (m := s.bc.untaken rest) (r := r) hkind hrun
    exact ⟨_, hexec, hinbox, (congrArg Conn.lastSeq hconn :), (congrArg Conn.accAt hconn :), (congrArg Conn.state hconn :).trans hrun,
      (congrArg Conn.values hconn :), (congrArg Conn.word1 hconn :), (congrArg Conn.discards hconn :)⟩
  case refine_7 =>
    intro r rest c hbox hheld howner hfd hlen hfirst hfail
    have hexec := exec_pxFrameReceive false s
    rw [State.runBc_of_on _ hup, Bc.takeRecord_of_length (m := s.bc) hbox hheld howner hfd hlen,
      Bc.checked_of_repeated (m := s.bc.untaken rest) hfirst hfail] at hexec
    have hconn := (s.bc.untaken rest).conn_discard (c := c) 4 (leAt r.frame.data 2 2)
    exact ⟨_, hexec, Bc.inbox_discard .., (congrArg Conn.lastErr hconn :), (congrArg Conn.discards hconn :),
      (congrArg Conn.lastSeq hconn :),
      (congrArg Conn.values hconn :), (congrArg Conn.state hconn :)⟩
  case refine_8 =>
    intro r rest c hbox hheld howner
    have hexec := exec_pxFrameReceive true s
    rw [State.runBc_of_on _ hup, Bc.takeRecord_of_parity (m := s.bc) hbox hheld howner] at hexec
    have hconn := (s.bc.untaken rest).conn_discard (c := c) 0x0A (leAt r.frame.data 2 2)
    exact ⟨_, hexec, Bc.inbox_discard .., (congrArg Conn.lastErr hconn :), (congrArg Conn.discards hconn :)⟩
  case refine_9 =>
    intro parity hbox
    have htake : s.bc.takeRecord parity = s.bc := by
      unfold Bc.takeRecord
      rw [show s.bc.porlux.inbox = [] from hbox]
    rw [exec_pxFrameReceive, State.runBc_of_on _ hup, htake]
    rfl
  case refine_10 =>
    intro c hrx hrun
    have hexec := exec_pxWatchdogExpire c s
    rw [State.runBc_of_on _ hup] at hexec
    have hconn := Bc.conn_watchdog_of_run (m := s.bc) hrx hrun
    exact ⟨_, hexec, (congrArg Conn.state hconn :), (congrArg Conn.expiries hconn :), (congrArg Conn.lastSeq hconn :)⟩
  case refine_11 =>
    intro c hrun
    rw [exec_pxWatchdogExpire, State.runBc_of_on _ hup, Bc.watchdog_of_other (m := s.bc) hrun]
    rfl
  case refine_12 =>
    refine ⟨_, (exec_nviPostTick s).trans (congrArg _ (State.runBc_of_on _ hup)), rfl, ?_⟩
    exact State.qf_withBc (Qf.post_dev ..)
  case refine_13 =>
    intro c k
    have hheld := Bc.intFlt_internal (m := s.bc) (c := c.val) k
    refine ⟨_, (exec_pxInternal c k s).trans (congrArg _ (State.runBc_of_on _ hup)), hheld, Bc.nviLast_internal k,
      Bc.netInputs_of_held hheld, fun hlen => ?_⟩
    exact Bc.record_internal k hlen
  case refine_14 =>
    exact fun w => ⟨_, (exec_pxClrcnt w s).trans (congrArg _ (State.writePxctl_of_clear hup w)), rfl,
      fun k hk => s.porlux.conns_cleared hk, rfl⟩
  case refine_15 => exact fun c parity k w hdown => exec_porlux_of_down c hdown parity k w

end Sys2Proof.Machine

section
/-! SUPPORT. Requests and responses as bytes: what a port hears in the bytes of a request, whole or growing (R637, R638, R651). -/

namespace Sys2Proof.Machine

/-! ### Numbers as bytes -/

theorem ofLe_leBytes (n x : Nat) : ofLe (leBytes n x) = x % 256 ^ n := by
  induction n generalizing x with
  | zero => rw [pow_zero, Nat.mod_one]; rfl
  | succ n ih =>
    rw [leBytes, ofLe, ih, BitVec.toNat_ofNat, pow_succ' 256 n]
    exact (Nat.mod_mul (a := 256)).symm

theorem length_leBytes (n x : Nat) : (leBytes n x).length = n := by
  induction n generalizing x with
  | zero => rfl
  | succ n ih => rw [leBytes, List.length_cons, ih]

theorem ofLe_wordBytes (w : Word) : BitVec.ofNat 32 (ofLe (wordBytes w)) = w := by
  have hw : w.toNat % 256 ^ 4 = w.toNat := Nat.mod_eq_of_lt w.isLt
  rw [wordBytes, ofLe_leBytes, hw, BitVec.ofNat_toNat, BitVec.setWidth_eq]

/-- Words written as bytes are read back, whatever follows them. -/
theorem bytesWords_wordsBytes (ws : List Word) (rest : List Byte) : bytesWords ws.length (wordsBytes ws ++ rest) = ws := by
  induction ws with
  | nil => rfl
  | cons w ws ih =>
    have hhead : ((wordsBytes (w :: ws) ++ rest).drop (4 * 0)).take 4 = wordBytes w := rfl
    have htail (k : Nat) : (wordsBytes (w :: ws) ++ rest).drop (4 * (k + 1)) = (wordsBytes ws ++ rest).drop (4 * k) := by
      rw [Nat.mul_succ, Nat.add_comm, ← List.drop_drop]
      rfl
    unfold bytesWords at ih ⊢
    rw [List.length_cons, List.range_succ_eq_map, List.map_cons, hhead, ofLe_wordBytes, List.map_map]
    exact congrArg (w :: ·) ((List.map_congr_left fun k _ => by
      rw [Function.comp_apply, Nat.succ_eq_add_one, htail]).trans ih)

/-! ### Requests (R637, R638) -/

theorem lenWords_ofNat {n : Nat} (hpos : 1 ≤ n) (hle : n ≤ 256) : lenWords (BitVec.ofNat 8 n) = n := by
  unfold lenWords
  rcases Nat.lt_or_eq_of_le hle with hlt | rfl
  · have hto : (BitVec.ofNat 8 n).toNat = n := by rw [BitVec.toNat_ofNat, Nat.mod_eq_of_lt hlt]
    have hne : BitVec.ofNat 8 n ≠ 0 := fun h => absurd (hto.symm.trans (congrArg BitVec.toNat h)) (Nat.ne_of_gt hpos)
    rw [if_neg hne, hto]
  · rfl

/-- The opcode of a request's form. -/
def requestOp (write fixed : Bool) : Byte := if fixed then (if write then 0x0A else 0x0B) else if write then 0x02 else 0x03

theorem portOp_requestOp (write fixed : Bool) : portOp (requestOp write fixed) = some (write, fixed) := by
  cases write <;> cases fixed <;> rfl

/-- The address whose bytes a request carries, the most significant first. -/
theorem address_ofBytes (addr : BitVec 24) :
    BitVec.ofNat 24 ((BitVec.ofNat 8 (addr.toNat / 256 / 256)).toNat * 2 ^ 16 + (BitVec.ofNat 8 (addr.toNat / 256)).toNat * 2 ^ 8 +
      (BitVec.ofNat 8 addr.toNat).toNat) = addr := by
  have hlt : addr.toNat < 2 ^ 24 := addr.isLt
  apply BitVec.eq_of_toNat_eq
  simp only [BitVec.toNat_ofNat]
  omega

theorem requestBytes_eq (write fixed : Bool) (addr : BitVec 24) (len : Nat) (ws : List Word) :
    requestBytes write fixed addr len ws =
      requestOp write fixed :: BitVec.ofNat 8 (addr.toNat / 256 / 256) :: BitVec.ofNat 8 (addr.toNat / 256) ::
        BitVec.ofNat 8 addr.toNat :: BitVec.ofNat 8 len :: wordsBytes ws := rfl

/-- A port hears the request that bytes spell, and of a write the words that have arrived whole. -/
theorem hear_requestBytes {write fixed : Bool} {addr : BitVec 24} {len : Nat} {ws : List Word} (rest : List Byte)
    (hpos : 1 ≤ len) (hle : len ≤ 256) (hws : write = true → ws.length ≤ len)
    (hrest : write = true → len ≤ ws.length ∨ rest.length < 4) :
    hear (requestBytes write fixed addr len ws ++ rest) =
      .request { write := write, fixed := fixed, addr := addr, count := len, words := if write then ws else [] } := by
  have hwords : write = true → bytesWords (min len ((wordsBytes ws ++ rest).length / 4)) (wordsBytes ws ++ rest) = ws := by
    intro hw
    have hn : min len ((wordsBytes ws ++ rest).length / 4) = ws.length := by
      have := hws hw
      have := hrest hw
      rw [List.length_append, length_wordsBytes]
      omega
    rw [hn, bytesWords_wordsBytes]
  rw [requestBytes_eq]
  simp only [List.cons_append]
  unfold hear
  dsimp only
  rw [portOp_requestOp]
  dsimp only
  rw [lenWords_ofNat hpos hle, address_ofBytes]
  cases write with
  | false => rfl
  | true => exact congrArg (fun l => Heard.request { write := true, fixed, addr, count := len, words := l }) (hwords rfl)

theorem hear_requestBytes_whole {write fixed : Bool} {addr : BitVec 24} {ws : List Word} {len : Nat} (rest : List Byte)
    (hpos : 1 ≤ len) (hle : len ≤ 256) (hws : write = true → ws.length = len) :
    hear (requestBytes write fixed addr len ws ++ rest) =
      .request { write := write, fixed := fixed, addr := addr, count := len, words := if write then ws else [] } :=
  hear_requestBytes rest hpos hle (fun h => (hws h).le) fun h => .inl (hws h).ge

theorem length_requestBytes (write fixed : Bool) (addr : BitVec 24) (len : Nat) (ws : List Word) :
    (requestBytes write fixed addr len ws).length = 5 + 4 * ws.length := by
  rw [requestBytes_eq, ← length_wordsBytes]
  simp only [List.length_cons]
  omega

theorem leAt_crc (req : List Byte) (crc : BitVec 16) : leAt (req ++ leBytes 2 crc.toNat) req.length 2 = crc.toNat := by
  rw [leAt, List.drop_left, List.take_of_length_le (length_leBytes 2 _).le, ofLe_leBytes]
  exact Nat.mod_eq_of_lt crc.isLt

/-! ### Responses (R638, R651) -/

theorem Xfer.uartBytes_eq (t : Xfer) : t.uartBytes = answer true t.ended t.status t.done t.words := rfl

theorem Xfer.spiBytes_eq (t : Xfer) : t.spiBytes = answer false t.ended t.status t.done t.words := rfl

end Sys2Proof.Machine
end

section
/-! SUPPORT. The accesses of a transaction: a burst of writes or reads, up to the first that fails (R637 to R639). -/

namespace Sys2Proof.Machine

variable {p : Port} {fixed : Bool} {addr : BitVec 24}

theorem statusCode_eq_zero_iff (c : Status) : BitVec.ofNat 8 (statusCode c) = 0 ↔ c = .ok := by cases c <;> decide

/-! ### Accesses one behind the other -/

theorem Burst.writes_append (xs ys : List Word) (i : Nat) (b : Burst) :
    b.writes p fixed addr i (xs ++ ys) = (b.writes p fixed addr i xs).writes p fixed addr (i + xs.length) ys := by
  induction xs generalizing i b with
  | nil => rfl
  | cons x xs ih =>
    rw [List.cons_append, Burst.writes, ih, Burst.writes, List.length_cons, Nat.add_assoc, Nat.add_comm 1]

theorem Burst.reads_add (n m i : Nat) (b : Burst) :
    b.reads p fixed addr i (n + m) = (b.reads p fixed addr i n).reads p fixed addr (i + n) m := by
  induction n generalizing i b with
  | zero => rw [Nat.zero_add]; rfl
  | succ n ih => rw [Nat.succ_add, Burst.reads, ih, Burst.reads, Nat.add_assoc, Nat.add_comm 1]

/-! ### One access -/

section

variable {s u : State} {d : Nat} {l : List Word} {a : Nat} {c : Status}

theorem Burst.open_of_up (hup : s.mgtUp = true) : Burst.open ⟨0, d, l, s⟩ = true := by
  rw [Burst.open, hup]
  rfl

theorem Burst.write_of_result {w : Word} (hup : s.mgtUp = true) (h : s.accessWrite p a w = (c, u)) :
    Burst.write p a w ⟨0, d, l, s⟩ = ⟨BitVec.ofNat 8 (statusCode c), if c = .ok then d + 1 else d, l, u⟩ := by
  rw [Burst.write, if_pos (Burst.open_of_up hup), h]
  rfl

theorem Burst.read_of_result {w : Word} (hup : s.mgtUp = true) (h : s.accessRead p a = (c, w, u)) :
    Burst.read p a ⟨0, d, l, s⟩ = ⟨BitVec.ofNat 8 (statusCode c), if c = .ok then d + 1 else d, l ++ [w], u⟩ := by
  rw [Burst.read, if_pos (Burst.open_of_up hup), h]
  rfl

end

/-! ### Accesses after one that failed (R639) -/

section

variable {b : Burst} (hfail : b.status ≠ 0)
include hfail

theorem Burst.open_of_failed : b.open = false := by
  rw [Burst.open, beq_eq_false_iff_ne.mpr hfail]
  rfl

theorem Burst.writes_of_failed (ws : List Word) (i : Nat) : b.writes p fixed addr i ws = b := by
  induction ws generalizing i with
  | nil => rfl
  | cons w ws ih => rw [Burst.writes, Burst.write, Burst.open_of_failed hfail, if_neg Bool.false_ne_true, ih]

omit hfail in
theorem Burst.reads_of_failed (n i : Nat) (b : Burst) (hfail : b.status ≠ 0) :
    b.reads p fixed addr i n = { b with words := b.words ++ List.replicate n 0 } := by
  induction n generalizing i b with
  | zero => rw [List.replicate_zero, List.append_nil]; rfl
  | succ n ih =>
    rw [Burst.reads, Burst.read, Burst.open_of_failed hfail, if_neg Bool.false_ne_true]
    exact (ih _ { b with words := b.words ++ [0] } hfail).trans (congrArg (Burst.mk _ _ · _) (List.append_assoc ..))

end

/-! ### Accesses that end OK -/

section

variable {at_ : Nat → State} {a d : Nat} {l : List Word} (hup : (at_ a).mgtUp = true)
include hup

/-- Writes `a` to `a + k` of a request end OK, each on the device that the one before it left. -/
theorem Burst.writes_of_ok {ws : List Word} (k : Nat) (hk : a + k ≤ ws.length)
    (hok : ∀ i, a ≤ i → i < a + k →
      (at_ i).accessWrite p (accessAddr fixed addr i) (ws.getD i 0) = (.ok, at_ (i + 1)) ∧ (at_ (i + 1)).mgtUp = true) :
    Burst.writes p fixed addr a ((ws.drop a).take k) ⟨0, d, l, at_ a⟩ = ⟨0, d + k, l, at_ (a + k)⟩ ∧
      (at_ (a + k)).mgtUp = true := by
  induction k with
  | zero => exact ⟨rfl, hup⟩
  | succ k ih =>
    obtain ⟨hburst, hupk⟩ := ih (by omega) fun i ha hi => hok i ha (by omega)
    obtain ⟨hwrite, hnext⟩ := hok (a + k) (Nat.le_add_right a k) (Nat.lt_succ_self _)
    have hlast : ((ws.drop a).take (k + 1)) = (ws.drop a).take k ++ [ws.getD (a + k) 0] := by
      rw [List.take_add_one, List.getElem?_drop, List.getD_eq_getElem _ _ (by omega), List.getElem?_eq_getElem (by omega)]
      rfl
    have hlen : ((ws.drop a).take k).length = k := List.length_take_of_le (by rw [List.length_drop]; omega)
    rw [hlast, Burst.writes_append, hburst, hlen, Burst.writes, Burst.write_of_result hupk hwrite]
    exact ⟨rfl, hnext⟩

/-- Reads `a` to `a + k` of a request end OK with the words `v`. -/
theorem Burst.reads_of_ok {v : Nat → Word} (k : Nat)
    (hok : ∀ i, a ≤ i → i < a + k →
      (at_ i).accessRead p (accessAddr fixed addr i) = (.ok, v i, at_ (i + 1)) ∧ (at_ (i + 1)).mgtUp = true) :
    Burst.reads p fixed addr a k ⟨0, d, l, at_ a⟩ = ⟨0, d + k, l ++ (List.range k).map fun i => v (a + i), at_ (a + k)⟩ ∧
      (at_ (a + k)).mgtUp = true := by
  induction k with
  | zero => exact ⟨congrArg (Burst.mk 0 d · (at_ a)) (List.append_nil l).symm, hup⟩
  | succ k ih =>
    obtain ⟨hburst, hupk⟩ := ih fun i ha hi => hok i ha (by omega)
    obtain ⟨hread, hnext⟩ := hok (a + k) (Nat.le_add_right a k) (Nat.lt_succ_self _)
    rw [Burst.reads_add, hburst, Burst.reads, Burst.read_of_result hupk hread, List.range_succ, List.map_append, ← List.append_assoc]
    exact ⟨rfl, hnext⟩

end

/-! ### Accesses of which one fails (R639) -/

section

variable {at_ : Nat → State} {a m k d : Nat} {l : List Word} {c : Status} {u : State}
  (hup : (at_ a).mgtUp = true) (ham : a ≤ m) (hmk : m < a + k) (hfail : c ≠ .ok)
include hup ham hmk hfail

theorem Burst.writes_of_failure {ws : List Word} (hk : a + k ≤ ws.length)
    (hok : ∀ i, a ≤ i → i < m →
      (at_ i).accessWrite p (accessAddr fixed addr i) (ws.getD i 0) = (.ok, at_ (i + 1)) ∧ (at_ (i + 1)).mgtUp = true)
    (hwrite : (at_ m).accessWrite p (accessAddr fixed addr m) (ws.getD m 0) = (c, u)) :
    Burst.writes p fixed addr a ((ws.drop a).take k) ⟨0, d, l, at_ a⟩ = ⟨BitVec.ofNat 8 (statusCode c), d + (m - a), l, u⟩ := by
  obtain ⟨j, rfl⟩ := Nat.exists_eq_add_of_le ham
  obtain ⟨n, rfl⟩ := Nat.exists_eq_add_of_lt (Nat.lt_of_add_lt_add_left hmk)
  obtain ⟨hburst, hupm⟩ := Burst.writes_of_ok (d := d) (l := l) hup j (by omega) hok
  have hsplit : (ws.drop a).take (j + n + 1) = (ws.drop a).take j ++ ws.getD (a + j) 0 :: (ws.drop (a + j + 1)).take n := by
    rw [Nat.add_assoc, List.take_add, List.drop_drop, List.drop_eq_getElem_cons (i := a + j) (by omega),
      List.getD_eq_getElem _ _ (by omega)]
    rfl
  have hlen : ((ws.drop a).take j).length = j := List.length_take_of_le (by rw [List.length_drop]; omega)
  rw [hsplit, Burst.writes_append, hburst, hlen, Burst.writes, Burst.write_of_result hupm hwrite, if_neg hfail,
    Burst.writes_of_failed (mt (statusCode_eq_zero_iff c).mp hfail), Nat.add_sub_cancel_left]

theorem Burst.reads_of_failure {v : Nat → Word}
    (hok : ∀ i, a ≤ i → i < m →
      (at_ i).accessRead p (accessAddr fixed addr i) = (.ok, v i, at_ (i + 1)) ∧ (at_ (i + 1)).mgtUp = true)
    (hread : (at_ m).accessRead p (accessAddr fixed addr m) = (c, 0, u)) :
    Burst.reads p fixed addr a k ⟨0, d, l, at_ a⟩ = ⟨BitVec.ofNat 8 (statusCode c), d + (m - a),
      l ++ ((List.range (m - a)).map fun i => v (a + i)) ++ List.replicate (a + k - m) 0, u⟩ := by
  obtain ⟨j, rfl⟩ := Nat.exists_eq_add_of_le ham
  obtain ⟨n, rfl⟩ := Nat.exists_eq_add_of_lt (Nat.lt_of_add_lt_add_left hmk)
  obtain ⟨hburst, hupm⟩ := Burst.reads_of_ok (d := d) (l := l) hup j hok
  have hzeros : a + (j + n + 1) - (a + j) = n + 1 := by omega
  rw [Nat.add_assoc j, Burst.reads_add, hburst, Nat.add_comm n 1, Burst.reads_add, Burst.reads, Burst.reads,
    Burst.read_of_result hupm hread, if_neg hfail, Burst.reads_of_failed _ _ _ (mt (statusCode_eq_zero_iff c).mp hfail),
    Nat.add_sub_cancel_left, Nat.add_comm 1 n, ← Nat.add_assoc j, hzeros, List.replicate_succ, List.append_assoc _ [_]]
  rfl

end

end Sys2Proof.Machine
end

section
/-! SUPPORT. The transactions of a port: what a request command does with the bytes it brings (R637 to R652). -/

namespace Sys2Proof.Machine

variable {s : State} {p : Port} {bytes : List Byte} {k : Nat} {c : Instr}

/-! ### What reaches a port -/

theorem exec_request (hc : c ∈ requestCommands p bytes k) : exec c s = .next (s.transact p bytes k) := by
  simp only [List.mem_cons, List.not_mem_nil, or_false] at hc
  rcases hc with rfl | rfl | rfl | rfl <;> rfl

/-- While MGT works and no HIBERNATE is being entered, a chip select wakes nothing (R135, R646). -/
theorem State.fireWake_of_up (hup : s.mgtUp = true) (hhib : s.power.hib ≠ .entering) (src : BitVec 4) : s.fireWake src = s := by
  have hstate : s.power.state ≠ .hibernate := fun h => by
    rw [State.mgtUp, h] at hup
    exact absurd hup Bool.false_ne_true
  unfold State.fireWake
  rw [if_neg hstate, if_neg fun h => hhib h.2.1]

theorem State.selectWakes_of_up (hup : s.mgtUp = true) (hhib : s.power.hib ≠ .entering) : s.selectWakes p = s := by
  unfold State.selectWakes
  dsimp only
  rw [State.fireWake_of_up hup hhib, ite_self]

theorem State.selectWakes_of_disabled (h : s.PWR_WAKEEN_EN = 0) : s.selectWakes p = s := by
  unfold State.selectWakes testBit
  dsimp only
  rw [h, Nat.zero_div]
  simp

theorem exec_request_of_up (hc : c ∈ requestCommands p bytes k) (hup : s.mgtUp = true) (hhib : s.power.hib ≠ .entering) :
    exec c s = .next (if s.portUart p then s.uartBytes bytes k else s.spiBytes p bytes k) := by
  rw [exec_request hc, State.transact, if_neg (by simp [hup]), State.selectWakes_of_up hup hhib]

theorem exec_request_of_down (hc : c ∈ requestCommands p bytes k) (hdown : s.mgtUp = false) (hoff : s.PWR_WAKEEN_EN = 0) :
    exec c s = .next s := by
  rw [exec_request hc, State.transact, if_pos (by simp [hdown]), State.selectWakes_of_disabled hoff]

theorem eq_mgmt_of_portUart (h : s.portUart p = true) : p = .mgmt := by
  cases p with
  | mgmt => rfl
  | host => exact absurd h Bool.false_ne_true

/-! ### A whole request (R637, R651) -/

variable {rx : List Byte} {a : Nat} {vs : List Word} {resp : List Byte}

theorem State.spiBytes_of_request {r : Request} (hheard : s.ports.heard p bytes = Xfer.after rx a vs resp) (hr : hear rx = .request r) :
    s.spiBytes p bytes k = s.perform p false (Xfer.after rx a vs resp) r k := by
  unfold State.spiBytes
  rw [hheard]
  dsimp only
  rw [show (Xfer.after rx a vs resp).rx = rx from rfl, hr]
  exact if_neg Bool.false_ne_true

/-- A UART request that stands whole is performed where its CRC fits, and answered with FRAME where it does not. -/
theorem State.uartBytes_of_request {r : Request} {req : List Byte} (crc : BitVec 16)
    (hheard : s.ports.heard .mgmt bytes = Xfer.after (0xA5 :: (req ++ leBytes 2 crc.toNat)) a vs resp)
    (hr : hear (req ++ leBytes 2 crc.toNat) = .request r) (hsize : r.size = req.length) :
    s.uartBytes bytes k =
      if crc = crc16 req then s.perform .mgmt true (Xfer.after (0xA5 :: (req ++ leBytes 2 crc.toNat)) a vs resp) r k
      else (s.mportError 3).frameError .mgmt true (Xfer.after (0xA5 :: (req ++ leBytes 2 crc.toNat)) a vs resp) := by
  have hwhole : ¬(req ++ leBytes 2 crc.toNat).length < r.size + 2 := by
    rw [List.length_append, length_leBytes, hsize]
    exact Nat.lt_irrefl _
  unfold State.uartBytes
  rw [hheard]
  dsimp only
  rw [show (Xfer.after (0xA5 :: (req ++ leBytes 2 crc.toNat)) a vs resp).rx = 0xA5 :: (req ++ leBytes 2 crc.toNat) from rfl]
  dsimp only
  rw [if_neg (not_not.mpr rfl), hr]
  dsimp only
  rw [if_neg hwhole, hsize, leAt_crc, List.take_left]
  simp only [BitVec.toNat_inj]

/-- The request that a transaction has received. -/
def Request.of (write fixed : Bool) (addr : BitVec 24) (len : Nat) (ws : List Word) : Request :=
  { write := write, fixed := fixed, addr := addr, count := len, words := if write then ws else [] }

section

variable {write fixed : Bool} {addr : BitVec 24} {len : Nat} {ws : List Word} (hpos : 1 ≤ len) (hle : len ≤ 256)
  (hws : ws.length = if write then len else 0)
include hpos hle hws

theorem hear_request_behind (rest : List Byte) :
    hear (requestBytes write fixed addr len ws ++ rest) = .request (Request.of write fixed addr len ws) :=
  hear_requestBytes_whole rest hpos hle fun h => hws.trans (if_pos h)

omit hpos hle in
theorem Request.size_of : (Request.of write fixed addr len ws).size = (requestBytes write fixed addr len ws).length := by
  rw [length_requestBytes, hws]
  cases write <;> rfl

/-- A whole request is performed, up to `k` accesses more (R637, R651). -/
theorem exec_request_of_whole (hc : c ∈ requestCommands p bytes k) (hup : s.mgtUp = true) (hhib : s.power.hib ≠ .entering)
    (hrx : rx = framed (s.portUart p) (requestBytes write fixed addr len ws))
    (hheard : s.ports.heard p bytes = Xfer.after rx a vs resp) :
    exec c s = .next (s.perform p (s.portUart p) (Xfer.after rx a vs resp) (Request.of write fixed addr len ws) k) := by
  rw [exec_request_of_up hc hup hhib]
  cases huart : s.portUart p with
  | false =>
    rw [huart, framed, if_neg Bool.false_ne_true] at hrx
    have hr : hear rx = .request (Request.of write fixed addr len ws) := by
      rw [hrx, ← hear_request_behind hpos hle hws [], List.append_nil]
    exact congrArg _ (State.spiBytes_of_request hheard hr)
  | true =>
    obtain rfl := eq_mgmt_of_portUart huart
    rw [huart, framed, if_pos rfl] at hrx
    subst hrx
    rw [if_pos rfl, State.uartBytes_of_request _ hheard (hear_request_behind hpos hle hws _) (Request.size_of hws), if_pos rfl]

end

/-! ### The state after the accesses (R638, R656) -/

/-- The burst after the accesses of one command closes as the transaction's answer says. -/
theorem Burst.close_eq_answered {u : State} {uart : Bool} (hup : u.mgtUp = true) (huart : u.portUart p = uart) (len n : Nat)
    (status : Byte) (done : Nat) (ws : List Word) :
    Burst.close p uart { Xfer.after rx a vs resp with acc := n } (decide (len ≤ n)) ⟨status, done, ws, u⟩ =
      u.answered p rx n len status done ws := by
  subst huart
  unfold Burst.close State.answered
  dsimp only
  rw [if_neg (by simp [hup])]
  cases u.portUart p with
  | false => cases decide (len ≤ n) <;> rfl
  | true => cases decide (len ≤ n) <;> rfl

theorem State.perform_of_room {uart : Bool} {r : Request} (hk : r.steps a k = k) :
    s.perform p uart (Xfer.after rx a vs resp) r k =
      (r.run p a k ⟨0, a, vs, s⟩).close p uart { Xfer.after rx a vs resp with acc := a + k } (decide (r.count ≤ a + k)) := by
  unfold State.perform
  dsimp only
  rw [show (Xfer.after rx a vs resp).acc = a from rfl, hk]
  rfl

theorem Request.steps_of_write {fixed : Bool} {addr : BitVec 24} {ws : List Word} (hk : a + k ≤ ws.length) :
    (Request.of true fixed addr ws.length ws).steps a k = k :=
  Nat.min_eq_left (Nat.le_sub_of_add_le' hk)

theorem Request.steps_of_read {fixed : Bool} {addr : BitVec 24} {len : Nat} (hk : a + k ≤ len) :
    (Request.of false fixed addr len []).steps a k = k :=
  Nat.min_eq_left (Nat.le_sub_of_add_le' hk)

/-- A write request performs its next `k` writes. -/
theorem exec_request_of_writes {fixed : Bool} {addr : BitVec 24} {ws : List Word} {b : Burst}
    (hpos : 1 ≤ ws.length) (hle : ws.length ≤ 256) (hk : a + k ≤ ws.length)
    (hc : c ∈ requestCommands p bytes k) (hup : s.mgtUp = true) (hhib : s.power.hib ≠ .entering)
    (hrx : rx = framed (s.portUart p) (requestBytes true fixed addr ws.length ws))
    (hheard : s.ports.heard p bytes = Xfer.after rx a vs resp)
    (hb : Burst.writes p fixed addr a ((ws.drop a).take k) ⟨0, a, vs, s⟩ = b) (hbup : b.env.mgtUp = true)
    (hbuart : b.env.portUart p = s.portUart p) :
    exec c s = .next (b.env.answered p rx (a + k) ws.length b.status b.done b.words) := by
  rw [exec_request_of_whole (write := true) hpos hle rfl hc hup hhib hrx hheard, State.perform_of_room (Request.steps_of_write hk),
    show Request.run (Request.of true fixed addr ws.length ws) p a k ⟨0, a, vs, s⟩ = b from hb]
  exact congrArg _ (Burst.close_eq_answered hbup hbuart ..)

/-- A read request performs its next `k` reads. -/
theorem exec_request_of_reads {fixed : Bool} {addr : BitVec 24} {len : Nat} {b : Burst}
    (hpos : 1 ≤ len) (hle : len ≤ 256) (hk : a + k ≤ len)
    (hc : c ∈ requestCommands p bytes k) (hup : s.mgtUp = true) (hhib : s.power.hib ≠ .entering)
    (hrx : rx = framed (s.portUart p) (requestBytes false fixed addr len []))
    (hheard : s.ports.heard p bytes = Xfer.after rx a vs resp)
    (hb : Burst.reads p fixed addr a k ⟨0, a, vs, s⟩ = b) (hbup : b.env.mgtUp = true)
    (hbuart : b.env.portUart p = s.portUart p) :
    exec c s = .next (b.env.answered p rx (a + k) len b.status b.done b.words) := by
  have hrun : Request.run (Request.of false fixed addr len []) p a k ⟨0, a, vs, s⟩ = b := by
    rw [Request.run, Request.steps_of_read hk]
    exact hb
  rw [exec_request_of_whole (write := false) hpos hle rfl hc hup hhib hrx hheard, State.perform_of_room (Request.steps_of_read hk), hrun]
  exact congrArg _ (Burst.close_eq_answered hbup hbuart ..)

end Sys2Proof.Machine
end

section
/-! SUPPORT. Requests that no access answers, and the ends of a transaction (R640, R645, R648, R652). -/

namespace Sys2Proof.Machine

variable {s : State} {p : Port} {bytes : List Byte} {k : Nat} {c : Instr}

/-! ### A first byte that is no opcode, and a request still growing (R640) -/

theorem portOp_eq_none {op : Byte} (h : op ∉ [(0x02 : Byte), 0x03, 0x0A, 0x0B]) : portOp op = none := by
  unfold portOp
  split
  next e => exact absurd (BitVec.eq_of_toNat_eq (y := 0x02#8) e ▸ by simp) h
  next e => exact absurd (BitVec.eq_of_toNat_eq (y := 0x03#8) e ▸ by simp) h
  next e => exact absurd (BitVec.eq_of_toNat_eq (y := 0x0A#8) e ▸ by simp) h
  next e => exact absurd (BitVec.eq_of_toNat_eq (y := 0x0B#8) e ▸ by simp) h
  next => rfl

theorem hear_of_unknown {op : Byte} (rest : List Byte) (h : op ∉ [(0x02 : Byte), 0x03, 0x0A, 0x0B]) : hear (op :: rest) = .unknown := by
  unfold hear
  dsimp only
  rw [portOp_eq_none h]

theorem hear_of_growing {op : Byte} {rest : List Byte} (h : op ∈ [(0x02 : Byte), 0x03, 0x0A, 0x0B]) (hlen : rest.length < 4) :
    hear (op :: rest) = .head := by
  have hop : ∃ o, portOp op = some o := by
    simp only [List.mem_cons, List.not_mem_nil, or_false] at h
    rcases h with rfl | rfl | rfl | rfl <;> exact ⟨_, rfl⟩
  obtain ⟨o, ho⟩ := hop
  unfold hear
  dsimp only
  rw [ho]
  match rest, hlen with
  | [], _ | [_], _ | [_, _], _ | [_, _, _], _ => rfl

/-- A transaction that ends with FRAME before any access (R640, R652). -/
theorem State.frameError_of_spi (hup : s.mgtUp = true) (rx : List Byte) :
    s.frameError p false (Xfer.after rx 0 [] []) = { s with ports :=
      (s.ports.setXfer p { Xfer.reset with
        active := true, rx := rx, ended := true, status := 9, response := [0x5A, 9, 0] }).setLast p 9 } := by
  unfold State.frameError Burst.close
  dsimp only
  rw [if_neg (by simp [hup]), if_pos rfl]
  rfl

theorem exec_request_of_unknown {op : Byte} {rest : List Byte} (hc : c ∈ requestCommands p bytes k) (hup : s.mgtUp = true)
    (hhib : s.power.hib ≠ .entering) (hspi : s.portUart p = false) (hheard : s.ports.heard p bytes = Xfer.after (op :: rest) 0 [] [])
    (hop : op ∉ [(0x02 : Byte), 0x03, 0x0A, 0x0B]) :
    exec c s = .next { s with ports :=
      (s.ports.setXfer p { Xfer.reset with
        active := true, rx := op :: rest, ended := true, status := 9, response := [0x5A, 9, 0] }).setLast p 9 } := by
  have hbytes : s.spiBytes p bytes k = s.frameError p false (Xfer.after (op :: rest) 0 [] []) := by
    unfold State.spiBytes
    rw [hheard]
    dsimp only
    rw [show (Xfer.after (op :: rest) 0 [] []).rx = op :: rest from rfl, hear_of_unknown rest hop]
    exact if_neg Bool.false_ne_true
  rw [exec_request_of_up hc hup hhib, hspi, if_neg Bool.false_ne_true, hbytes, State.frameError_of_spi hup]

theorem exec_request_of_growing {op : Byte} {rest : List Byte} (hc : c ∈ requestCommands p bytes k) (hup : s.mgtUp = true)
    (hhib : s.power.hib ≠ .entering) (hspi : s.portUart p = false) (hheard : s.ports.heard p bytes = Xfer.after (op :: rest) 0 [] [])
    (hop : op ∈ [(0x02 : Byte), 0x03, 0x0A, 0x0B]) (hlen : rest.length < 4) :
    exec c s = .next { s with ports := s.ports.setXfer p (Xfer.after (op :: rest) 0 [] []) } := by
  have hbytes : s.spiBytes p bytes k = s.withXfer p (Xfer.after (op :: rest) 0 [] []) := by
    unfold State.spiBytes
    rw [hheard]
    dsimp only
    rw [show (Xfer.after (op :: rest) 0 [] []).rx = op :: rest from rfl, hear_of_growing hop hlen]
    exact if_neg Bool.false_ne_true
  rw [exec_request_of_up hc hup hhib, hspi, if_neg Bool.false_ne_true, hbytes]
  rfl

/-! ### A UART request that fails (R652) -/

/-- MPORT_ERROR is due: the first error, or a second after the last record (R658). -/
def State.mportDue (s : State) : Bool :=
  match s.ports.errNotedAt with
  | some t => decide (t + 1000000 ≤ s.dev)
  | none => true

/-- The device with one more abandoned or failed UART request counted. -/
def State.mportCounted (s : State) : State :=
  { s with ports := { s.ports with
    errors := satInc s.ports.errors, errNotedAt := if s.mportDue then some s.dev else s.ports.errNotedAt } }

theorem State.mportError_eq (kind : Nat) :
    s.mportError kind =
      if s.mportDue then s.mportCounted.commitNote 0x0270 (leBytes 1 kind ++ leBytes 2 (satInc s.ports.errors).toNat)
      else s.mportCounted := rfl

/-- A UART request abandoned or failed counts in ERRORS; the ports keep the rest, and only MGT's history changes beside them. -/
theorem State.mportError_spec (kind : Nat) :
    (s.mportError kind).ports.errors = satInc s.ports.errors ∧ (s.mportError kind).ports.mgmt = s.ports.mgmt ∧
    s.mportError kind = { s with
      ports := (s.mportError kind).ports, persist := (s.mportError kind).persist, recorder := (s.mportError kind).recorder,
      lanes := (s.mportError kind).lanes } := by
  rw [State.mportError_eq]
  split
  · exact ⟨rfl, rfl, rfl⟩
  · exact ⟨rfl, rfl, rfl⟩

/-- Ports written behind it leave the rest as it is. -/
theorem State.mportError_withPorts (kind : Nat) (x : Ports) :
    { s.mportError kind with ports := x } = { s with
      ports := x, persist := (s.mportError kind).persist, recorder := (s.mportError kind).recorder,
      lanes := (s.mportError kind).lanes } := by
  obtain ⟨_, _, hsame⟩ := s.mportError_spec kind
  generalize s.mportError kind = t at hsame ⊢
  rw [hsame]

theorem State.mgtUp_mportError (kind : Nat) : (s.mportError kind).mgtUp = s.mgtUp := by
  obtain ⟨_, _, hsame⟩ := s.mportError_spec kind
  rw [hsame]
  rfl

/-- The transaction that a failed CRC ends. -/
def Xfer.crcFailed (rx : List Byte) : Xfer :=
  { Xfer.reset with rx := rx, ended := true, status := 9, response := 0x5A :: 9 :: 0 :: leBytes 2 (crc16 [9, 0]).toNat }

theorem State.frameError_of_uart (hup : s.mgtUp = true) (rx : List Byte) :
    s.frameError .mgmt true (Xfer.after rx 0 [] []) = { s with ports := (s.ports.setXfer .mgmt (Xfer.crcFailed rx)).setLast .mgmt 9 } := by
  unfold State.frameError Burst.close
  dsimp only
  rw [if_neg (by simp [hup]), if_pos rfl]
  rfl

theorem request_of_failedCrc {write fixed : Bool} {addr : BitVec 24} {ws : List Word} {crc : BitVec 16} (hpos : 1 ≤ ws.length)
    (hle : ws.length ≤ 256) (hc : c ∈ requestCommands .mgmt bytes k) (hup : s.mgtUp = true) (hhib : s.power.hib ≠ .entering)
    (huart : s.uartMode = true) (hcrc : crc ≠ crc16 (requestBytes write fixed addr ws.length (if write then ws else [])))
    (hheard : s.ports.heard .mgmt bytes =
      Xfer.after (0xA5 :: (requestBytes write fixed addr ws.length (if write then ws else []) ++ leBytes 2 crc.toNat)) 0 [] []) :
    Completes c s fun t =>
      t.ports.mgmt.status = 9 ∧ t.ports.mgmt.done = 0 ∧ t.ports.mgmt.ended = true ∧ t.ports.mgmt.active = false ∧
      t.ports.mgmt.response = 0x5A :: 9 :: 0 :: leBytes 2 (crc16 [9, 0]).toNat ∧ t.ports.mgmtLast = 9 ∧
      t.ports.errors = satInc s.ports.errors ∧
      t = { s with ports := t.ports, persist := t.persist, recorder := t.recorder, lanes := t.lanes } := by
  have hws : (if write then ws else []).length = if write then ws.length else 0 := by cases write <;> rfl
  have hport : s.portUart .mgmt = true := huart
  have hexec := exec_request_of_up hc hup hhib
  rw [hport, if_pos rfl, State.uartBytes_of_request crc hheard (hear_request_behind hpos hle hws _) (Request.size_of hws),
    if_neg hcrc, State.frameError_of_uart (s.mgtUp_mportError 3 ▸ hup)] at hexec
  obtain ⟨herr, _, _⟩ := s.mportError_spec 3
  exact ⟨_, hexec, rfl, rfl, rfl, rfl, rfl, rfl, herr, s.mportError_withPorts 3 _⟩

end Sys2Proof.Machine
end

section
/-! SUPPORT. The ends of a transaction, abandoned requests and the tag a host frees (R645, R648, R650, R652). -/

namespace Sys2Proof.Machine

variable {s : State} {p : Port}

/-! ### The rise of the chip select (R645) -/

theorem Ports.xfer_setXfer (x : Ports) (t : Xfer) : (x.setXfer p t).xfer p = t := by cases p <;> rfl

/-- LASTST of a port. -/
def Ports.last (x : Ports) (p : Port) : BitVec 8 :=
  match p with
  | .host => x.hostLast
  | .mgmt => x.mgmtLast

theorem Ports.last_setLast_setXfer (x : Ports) (c : BitVec 8) (t : Xfer) : ((x.setLast p c).setXfer p t).last p = c := by cases p <;> rfl

/-- The device once the chip select has risen over a transaction. -/
def State.deselected (s : State) (p : Port) : State :=
  { s with ports := (s.ports.setLast p (s.ports.xfer p).status).setXfer p { s.ports.xfer p with active := false } }

theorem State.deselected_of_ok (h : (s.ports.xfer p).status = 0) : s.deselected p =
    { s with ports := (s.ports.setLast p 0).setXfer p { s.ports.xfer p with active := false } } :=
  congrArg (fun c => { s with ports := (s.ports.setLast p c).setXfer p { s.ports.xfer p with active := false } }) h

theorem exec_chipSelectRise_of_active (hup : s.mgtUp = true) (hspi : s.portUart p = false) (hact : (s.ports.xfer p).active = true)
    (begun : Bool) :
    exec (.chipSelectRise p begun) s =
      .next (if begun && !(s.ports.xfer p).ended then (s.deselected p).overtaken p (s.ports.xfer p) else s.deselected p) := by
  have hexec : exec (.chipSelectRise p begun) s = .next (s.atMgt fun s =>
      if (s.ports.xfer p).active && !s.portUart p then
        if begun && !(s.ports.xfer p).ended then (s.deselected p).overtaken p (s.ports.xfer p) else s.deselected p
      else s) := rfl
  rw [hexec, State.atMgt_of_up _ _ hup, if_pos (by simp [hact, hspi])]

theorem exec_chipSelectRise_of_idle (hact : (s.ports.xfer p).active = false) (begun : Bool) :
    exec (.chipSelectRise p begun) s = .next s := by
  have hexec : exec (.chipSelectRise p begun) s = .next (s.atMgt fun s =>
      if (s.ports.xfer p).active && !s.portUart p then
        if begun && !(s.ports.xfer p).ended then (s.deselected p).overtaken p (s.ports.xfer p) else s.deselected p
      else s) := rfl
  exact hexec.trans (congrArg _ (ite_eq_right_iff.mpr fun _ => if_neg (by simp [hact])))

section

variable {x : Xfer} {fixed : Bool} {addr : BitVec 24} {n : Nat} {ws : List Word} (hstatus : x.status = 0)
include hstatus

theorem State.overtaken_of_write {w : Word} (hpos : 1 ≤ n) (hle : n ≤ 256) (hrx : x.rx = requestBytes true fixed addr n ws)
    (hws : ws.length ≤ n) (hw : ws[x.acc]? = some w) :
    s.overtaken p x = (s.accessWrite p (accessAddr fixed addr x.acc) w).2 := by
  have hr : hear x.rx = .request { write := true, fixed := fixed, addr := addr, count := n, words := ws } := by
    rw [hrx]
    simpa using hear_requestBytes (write := true) [] hpos hle (fun _ => hws) fun _ => .inr (by decide)
  have hacc : x.acc < n := (List.getElem?_eq_some_iff.mp hw).1.trans_le hws
  unfold State.overtaken
  rw [hr]
  dsimp only
  rw [hstatus, if_neg (by simpa using hacc), if_pos rfl, hw]

theorem State.overtaken_of_read (hle : n ≤ 256) (hacc : x.acc < n) (hrx : x.rx = requestBytes false fixed addr n []) :
    s.overtaken p x = if isQueueData (accessAddr fixed addr x.acc) then s else (s.accessRead p (accessAddr fixed addr x.acc)).2.2 := by
  have hr : hear x.rx = .request { write := false, fixed := fixed, addr := addr, count := n, words := [] } := by
    rw [hrx]
    simpa using hear_requestBytes (write := false) (ws := []) [] (by omega) hle (fun h => absurd h Bool.false_ne_true)
      fun h => absurd h Bool.false_ne_true
  unfold State.overtaken
  rw [hr]
  dsimp only
  rw [hstatus, if_neg (by simpa using hacc), if_neg Bool.false_ne_true]

end

/-! ### UART requests abandoned (R652) -/

theorem exec_uartGapTimeout (s : State) : exec .uartGapTimeout s =
    .next (s.atMgt fun s => if s.uartMode then (s.withXfer .mgmt Xfer.reset).mportError 1 else s) := rfl

theorem exec_uartByteOverlap (s : State) : exec .uartByteOverlap s =
    .next (s.atMgt fun s => if s.uartMode then s.mportError 2 else s) := rfl

theorem uartGapTimeout_counts (hup : s.mgtUp = true) (huart : s.uartMode = true) :
    Completes .uartGapTimeout s fun t => t.ports.errors = satInc s.ports.errors ∧ t.ports.mgmt = Xfer.reset ∧
      t = { s with ports := t.ports, persist := t.persist, recorder := t.recorder, lanes := t.lanes } := by
  have hexec := exec_uartGapTimeout s
  rw [State.atMgt_of_up _ _ hup, if_pos huart] at hexec
  exact ⟨_, hexec, (s.withXfer .mgmt Xfer.reset).mportError_spec 1⟩

theorem uartByteOverlap_counts (hup : s.mgtUp = true) (huart : s.uartMode = true) :
    Completes .uartByteOverlap s fun t => t.ports.errors = satInc s.ports.errors ∧ t.ports.mgmt = s.ports.mgmt ∧
      t = { s with ports := t.ports, persist := t.persist, recorder := t.recorder, lanes := t.lanes } := by
  have hexec := exec_uartByteOverlap s
  rw [State.atMgt_of_up _ _ hup, if_pos huart] at hexec
  exact ⟨_, hexec, s.mportError_spec 2⟩

theorem exec_uart_of_spi (hspi : s.uartMode = false) {c : Instr} (hc : c ∈ [Instr.uartGapTimeout, .uartByteOverlap]) :
    exec c s = .next s := by
  simp only [List.mem_cons, List.not_mem_nil, or_false] at hc
  rcases hc with rfl | rfl
  · rw [exec_uartGapTimeout, State.atMgt, hspi, if_neg Bool.false_ne_true, ite_self]
  · rw [exec_uartByteOverlap, State.atMgt, hspi, if_neg Bool.false_ne_true, ite_self]

/-! ### A tag freed by the host (R648) -/

theorem Ports.tags_closeTag (x : Ports) (tag k : Nat) : (x.closeTag tag).tags.getLsbD k = (x.tags.getLsbD k && !decide (k = tag)) := by
  by_cases hk : k < 256
  · rcases Nat.lt_trichotomy k tag with hlt | rfl | hgt
    · simp [Ports.closeTag, hk, Nat.ne_of_lt hlt, hlt]
    · simp [Ports.closeTag, hk]
    · have hsub : k - tag ≠ 0 := by omega
      simp [Ports.closeTag, hk, Nat.ne_of_gt hgt, hsub, Nat.not_lt_of_gt hgt]
  · have hout : ∀ y : BitVec 256, y.getLsbD k = false := fun y => BitVec.getLsbD_of_ge y k (Nat.not_lt.mp hk)
    rw [hout, hout, Bool.false_and]

theorem getBits_go (w : Word) : getBits (w ||| 0x100) 7 0 = getBits w 7 0 := by
  rw [getBits, getBits, BitVec.toNat_or, pow_zero, Nat.div_one, Nat.div_one, Nat.or_mod_two_pow]
  exact Nat.or_zero _

theorem exec_gtagclr (w : Word) (s : State) : exec (.gtagclr w) s = .next { s with ports := s.ports.closeTag (getBits w 7 0) } := by
  have hgo : (w ||| 0x100).getLsbD 8 = true := by simp
  have hexec : exec (.gtagclr w) s = .next { s with ports := s.ports.writeGtagclr (w ||| 0x100) } := rfl
  rw [hexec, Ports.writeGtagclr, if_pos hgo, getBits_go]

end Sys2Proof.Machine
end

namespace Sys2Proof.Machine

/-- Settles O22, a clause at a time: the accesses of a request go on one behind the other until the first that fails, and what is
neither a whole request nor a good one performs none. -/
theorem portTransactionsPerformTheirAccesses : Obligations.PortTransactionsPerformTheirAccesses := by
  intro s p bytes k
  refine ⟨?_, ?_, ?_, ?_, ?_, ?_, ?_, ?_, ?_, ?_, ?_, ?_, ?_, ?_, ?_⟩
  case refine_1 =>
    intro c fixed addr ws a resp at_ rx hc hup hhib hpos hle hk hrx hheard hat hok
    subst hat
    obtain ⟨hburst, hupk⟩ := Burst.writes_of_ok hup k hk fun i ha hi => ⟨(hok i ha hi).1, (hok i ha hi).2.1⟩
    have huart : (at_ (a + k)).portUart p = (at_ a).portUart p := by
      cases k with
      | zero => rfl
      | succ k => exact (hok (a + k) (Nat.le_add_right a k) (Nat.lt_succ_self _)).2.2
    exact exec_request_of_writes hpos hle hk hc hup hhib hrx hheard hburst hupk huart
  case refine_2 =>
    intro c fixed addr ws a m st u resp at_ rx hc hup hhib hpos hle hk ham hmk hrx hheard hat hok hwrite hst hupu huart
    subst hat
    have hburst := Burst.writes_of_failure (d := a) (l := []) hup ham hmk hst hk hok hwrite
    rw [Nat.add_sub_cancel' ham] at hburst
    exact exec_request_of_writes hpos hle hk hc hup hhib hrx hheard hburst hupu huart
  case refine_3 =>
    intro c fixed addr len a vs resp v at_ rx hc hup hhib hpos hle hk hrx hheard hat hok
    subst hat
    obtain ⟨hburst, hupk⟩ := Burst.reads_of_ok hup k fun i ha hi => ⟨(hok i ha hi).1, (hok i ha hi).2.1⟩
    have huart : (at_ (a + k)).portUart p = (at_ a).portUart p := by
      cases k with
      | zero => rfl
      | succ k => exact (hok (a + k) (Nat.le_add_right a k) (Nat.lt_succ_self _)).2.2
    exact exec_request_of_reads hpos hle hk hc hup hhib hrx hheard hburst hupk huart
  case refine_4 =>
    intro c fixed addr len a m st u vs resp v at_ rx hc hup hhib hpos hle hk ham hmk hrx hheard hat hok hread hst hupu huart
    subst hat
    have hburst := Burst.reads_of_failure (d := a) (l := vs) hup ham hmk hst hok hread
    rw [Nat.add_sub_cancel' ham] at hburst
    exact exec_request_of_reads hpos hle hk hc hup hhib hrx hheard hburst hupu huart
  case refine_5 => exact fun c op rest hc hup hhib hspi hheard hop => exec_request_of_unknown hc hup hhib hspi hheard hop
  case refine_6 => exact fun c op rest hc hup hhib hspi hheard hop hlen => exec_request_of_growing hc hup hhib hspi hheard hop hlen
  case refine_7 =>
    exact fun c wr fixed addr ws crc hc hup hhib huart hpos hle hcrc hheard =>
      request_of_failedCrc hpos hle hc hup hhib huart hcrc hheard
  case refine_8 => exact fun c hc hdown hoff => exec_request_of_down hc hdown hoff
  case refine_9 =>
    intro b hup hspi hact hend
    have hexec := exec_chipSelectRise_of_active hup hspi hact b
    rw [if_neg (by rcases hend with h | h <;> simp [h])] at hexec
    exact ⟨_, hexec, Ports.xfer_setXfer .., rfl, Ports.last_setLast_setXfer ..⟩
  case refine_10 =>
    intro fixed addr n ws x u w hup hspi hx hact hend hstatus hpos hle hrx hws hw hu
    subst hx hu
    rw [exec_chipSelectRise_of_active hup hspi hact, if_pos (by simp [hend]),
      State.overtaken_of_write hstatus hpos hle hrx hws hw, State.deselected_of_ok hstatus]
  case refine_11 =>
    intro fixed addr n x u hup hspi hx hact hend hstatus hle hacc hrx hu
    subst hx hu
    rw [exec_chipSelectRise_of_active hup hspi hact, if_pos (by simp [hend]),
      State.overtaken_of_read hstatus hle hacc hrx, State.deselected_of_ok hstatus]
  case refine_12 => exact fun b hact => exec_chipSelectRise_of_idle hact b
  case refine_13 =>
    intro c hc hup huart
    simp only [List.mem_cons, List.not_mem_nil, or_false] at hc
    rcases hc with rfl | rfl
    · exact uartGapTimeout_counts hup huart
    · exact uartByteOverlap_counts hup huart
  case refine_14 => exact fun c hc hspi => exec_uart_of_spi hspi hc
  case refine_15 =>
    intro w
    refine ⟨_, exec_gtagclr w s, ?_, fun k hk => ?_, rfl⟩
    · exact (Ports.tags_closeTag ..).trans (by simp)
    · exact (Ports.tags_closeTag ..).trans (by simp [hk])

end Sys2Proof.Machine

section
/-! SUPPORT. What an island's step writes leaves the waiting commands: records, posts, and the steps of SEQ, MPI, MC, SCH and BUS. -/

namespace Sys2Proof.Machine

/-- Steps that each leave the waiting commands leave them one behind the other. -/
theorem State.pending_foldl {α : Type} {f : State → α → State} (hf : ∀ s a, (f s a).pending = s.pending) (l : List α) (s : State) :
    (l.foldl f s).pending = s.pending := foldl_keeps hf l s

/-! ### Registers, records and posts -/

@[simp] theorem State.pending_setReg (s : State) (r : Reg) (idx : List Nat) (w : Word) :
    (s.setReg r idx w).pending = s.pending := rfl

@[simp] theorem State.pending_atPwr (s : State) (f : State → State) (hf : ∀ s : State, (f s).pending = s.pending) :
    (s.atPwr f).pending = s.pending := by simp [State.atPwr, hf, apply_ite State.pending]

@[simp] theorem State.pending_atMgt (s : State) (f : State → State) (hf : ∀ s : State, (f s).pending = s.pending) :
    (s.atMgt f).pending = s.pending := by simp [State.atMgt, hf, apply_ite State.pending]

@[simp] theorem State.pending_note (s : State) (code : Nat) (data : List Byte) : (s.note code data).pending = s.pending := rfl

@[simp] theorem State.pending_noteIf (s : State) (b : Bool) (code : Nat) (data : List Byte) :
    (s.noteIf b code data).pending = s.pending := ite_keeps rfl rfl

@[simp] theorem State.pending_aonNote (s : State) (code : Nat) (data : List Byte) :
    (s.aonNote code data).pending = s.pending := ite_keeps rfl rfl

@[simp] theorem State.pending_tick (s : State) : s.tick.pending = s.pending := rfl

@[simp] theorem State.pending_writeRwk (s : State) (r : Reg) (idx : List Nat) (w : Word) :
    (s.writeRwk r idx w).pending = s.pending := rfl

@[simp] theorem State.pending_withQf (s : State) (x : Qf) : (s.withQf x).pending = s.pending := rfl

@[simp] theorem State.pending_post (s : State) (port : Nat) (ws : List Word) : (s.post port ws).pending = s.pending := rfl

@[simp] theorem State.pending_takeNvo (s : State) : s.takeNvo.pending = s.pending := by
  unfold State.takeNvo
  dsimp only
  split <;> rfl

/-! ### Loop and motor engines, door functions -/

@[simp] theorem State.pending_withMc (s : State) (m : Mc) : (s.withMc m).pending = s.pending := rfl

@[simp] theorem State.pending_runMc (s : State) (ok : Bool) (f : Mc → Mc) : (s.runMc ok f).pending = s.pending := ite_keeps rfl rfl

@[simp] theorem State.pending_writeMcCtl (s : State) (i : Nat) (w : Word) :
    (s.writeMcCtl i w).pending = s.pending := ite_keeps rfl rfl

@[simp] theorem State.pending_writeMcStat (s : State) (i : Nat) (w : Word) : (s.writeMcStat i w).pending = s.pending := rfl

@[simp] theorem State.pending_writeLecmd (s : State) (e : Nat) (w : Word) : (s.writeLecmd e w).pending = s.pending := rfl

@[simp] theorem State.pending_writeLestat (s : State) (e : Nat) (w : Word) : (s.writeLestat e w).pending = s.pending := rfl

@[simp] theorem State.pending_writeLehold (s : State) (e : Nat) (w : Word) :
    (s.writeLehold e w).pending = s.pending := ite_keeps rfl rfl

@[simp] theorem State.pending_writeFbset (s : State) (i : Nat) (w : Word) : (s.writeFbset i w).pending = s.pending := rfl

@[simp] theorem State.pending_runDoor (s : State) (i : Nat) (f : Mc → Mc) : (s.runDoor i f).pending = s.pending := ite_keeps rfl rfl

@[simp] theorem State.pending_runDoorCommand (s : State) (i : Nat) (f : Mc → Mc) :
    (s.runDoorCommand i f).pending = s.pending := by simp [State.runDoorCommand, apply_ite State.pending]

@[simp] theorem State.pending_writeDstat (s : State) (i : Nat) (w : Word) : (s.writeDstat i w).pending = s.pending := rfl

/-! ### CAN, network time, Porlux -/

@[simp] theorem State.pending_withBc (s : State) (m : Bc) : (s.withBc m).pending = s.pending := rfl

@[simp] theorem State.pending_runBc (s : State) (ok : Bool) (f : Bc → Bc) : (s.runBc ok f).pending = s.pending := ite_keeps rfl rfl

@[simp] theorem State.pending_writeCanTxgo (s : State) (n : Nat) (w : Word) :
    (s.writeCanTxgo n w).pending = s.pending := ite_keeps rfl rfl

@[simp] theorem State.pending_countRecov (s : State) (n : Nat) : (s.countRecov n).pending = s.pending := ite_keeps rfl rfl

@[simp] theorem State.pending_writeCanTxcancel (s : State) (n : Nat) (phase : TxPhase) (w : Word) :
    (s.writeCanTxcancel n phase w).pending = s.pending := ite_keeps rfl rfl

@[simp] theorem State.pending_readBufferWord (s : State) (n b k : Nat) :
    (s.readBufferWord n b k).pending = s.pending := ite_keeps rfl rfl

@[simp] theorem State.pending_writeRbstat (s : State) (n b : Nat) (w : Word) :
    (s.writeRbstat n b w).pending = s.pending := ite_keeps rfl rfl

@[simp] theorem State.pending_writeCanstat (s : State) (n : Nat) (w : Word) :
    (s.writeCanstat n w).pending = s.pending := ite_keeps rfl rfl

@[simp] theorem State.pending_readTsntlo (s : State) (phase : Nat) : (s.readTsntlo phase).2.pending = s.pending := rfl

@[simp] theorem State.pending_writePxctl (s : State) (w : Word) : (s.writePxctl w).pending = s.pending := ite_keeps rfl rfl

/-! ### Figure engines -/

@[simp] theorem State.pending_withFc (s : State) (x : Fc) : (s.withFc x).pending = s.pending := rfl

@[simp] theorem State.pending_figStep (s : State) (f : Nat) (bad : Bool) (run : FigStep → Option (Fc → Figure → Fc)) :
    (s.figStep f bad run).pending = s.pending := by
  unfold State.figStep
  dsimp only
  split
  · split
    · split
      · exact ite_keeps rfl rfl
      · rfl
    · rfl
  · rfl

@[simp] theorem State.pending_seePads (s : State) (pads : BitVec 64) : (s.seePads pads).pending = s.pending := rfl

@[simp] theorem State.pending_resumeFigures (s : State) : s.resumeFigures.pending = s.pending := rfl

@[simp] theorem State.pending_writeSeqFctl (s : State) (f : Nat) (w : Word) :
    (s.writeSeqFctl f w).pending = s.pending := ite_keeps rfl rfl

@[simp] theorem State.pending_writeSeqFflag (s : State) (f : Nat) (w : Word) :
    (s.writeSeqFflag f w).pending = s.pending := ite_keeps rfl rfl

@[simp] theorem State.pending_writeSeqFsig (s : State) (f : Nat) (w : Word) : (s.writeSeqFsig f w).pending = s.pending := rfl

@[simp] theorem State.pending_figExpire (s : State) (f t : Nat) : (s.figExpire f t).pending = s.pending := rfl

/-! ### Fusion and planners -/

@[simp] theorem State.pending_withMpi (s : State) (m : Mpi) : (s.withMpi m).pending = s.pending := rfl

@[simp] theorem State.pending_runMpi (s : State) (ok : Bool) (f : Mpi → Mpi) :
    (s.runMpi ok f).pending = s.pending := ite_keeps rfl rfl

@[simp] theorem State.pending_writeFcmd (s : State) (w : Word) : (s.writeFcmd w).pending = s.pending := ite_keeps rfl rfl

@[simp] theorem State.pending_writeNland (s : State) (w : Word) : (s.writeNland w).pending = s.pending := ite_keeps rfl rfl

@[simp] theorem State.pending_moveItem (s : State) (p : Nat) (k : Nat) (it : Item) :
    (s.moveItem p k it).pending = s.pending := ite_keeps rfl rfl

@[simp] theorem State.pending_writePlctl (s : State) (p : Nat) (w : Word) :
    (s.writePlctl p w).pending = s.pending := ite_keeps rfl rfl

@[simp] theorem State.pending_writePlstat (s : State) (p : Nat) (w : Word) :
    (s.writePlstat p w).pending = s.pending := ite_keeps rfl rfl

/-! ### The call scheduler -/

@[simp] theorem State.pending_withSc (s : State) (m : Sc) : (s.withSc m).pending = s.pending := rfl

@[simp] theorem State.pending_runSc (s : State) (ok : Bool) (f : Sc → Sc) : (s.runSc ok f).pending = s.pending := ite_keeps rfl rfl

@[simp] theorem State.pending_callOf (s : State) (it : Item) (k : Nat) : (s.callOf it k).pending = s.pending := ite_keeps rfl rfl

@[simp] theorem State.pending_assignOf (s : State) (it : Item) (op : Nat) :
    (s.assignOf it op).pending = s.pending := ite_keeps rfl rfl

@[simp] theorem State.pending_handshakeOf (s : State) (it : Item) (cmd : Nat) :
    (s.handshakeOf it cmd).pending = s.pending := ite_keeps rfl rfl

@[simp] theorem State.pending_writeSchCtl (s : State) (w : Word) : (s.writeSchCtl w).pending = s.pending := rfl

@[simp] theorem State.pending_writeSchStat (s : State) (w : Word) : (s.writeSchStat w).pending = s.pending := rfl

end Sys2Proof.Machine
end

section
/-! SUPPORT. The safety functions, fault reaction, the recorder, the lease and the epochs leave the waiting commands. -/

namespace Sys2Proof.Machine

/-! ### The lattice and its reactions -/

@[simp] theorem State.pending_withSf (s : State) (m : Sf) : (s.withSf m).pending = s.pending := rfl

@[simp] theorem State.pending_runSf (s : State) (ok : Bool) (f : Sf → Sf) : (s.runSf ok f).pending = s.pending := ite_keeps rfl rfl

@[simp] theorem State.pending_dropEpoch (s : State) : s.dropEpoch.pending = s.pending := by
  unfold State.dropEpoch
  dsimp only
  split <;> simp [apply_ite State.pending]

@[simp] theorem State.pending_followLease (s : State) (was : LeaseState) :
    (s.followLease was).pending = s.pending := by simp [State.followLease, apply_ite State.pending]

@[simp] theorem State.pending_leaseDecided (s : State) : s.leaseDecided.pending = s.pending := ite_keeps rfl rfl

@[simp] theorem State.pending_followGate (s : State) (was : LeaseState) :
    (s.followGate was).pending = s.pending := by simp [State.followGate]

@[simp] theorem State.pending_runGate (s : State) (ok : Bool) (f : Sf → Sf) :
    (s.runGate ok f).pending = s.pending := by simp [State.runGate]

@[simp] theorem State.pending_writeSfiLatctl (s : State) (w : Word) : (s.writeSfiLatctl w).pending = s.pending := rfl

@[simp] theorem State.pending_noteBlock (s : State) (b : Nat) (us : BitVec 16) (cause : BitVec 16) (x : BlockStat) :
    (s.noteBlock b us cause x).pending = s.pending := rfl

@[simp] theorem State.pending_setBlock (s : State) (b : Nat) (x : BlockStat) : (s.setBlock b x).pending = s.pending := rfl

@[simp] theorem State.pending_stopBlock (s : State) (b : Nat) :
    (s.stopBlock b).pending = s.pending := by simp [State.stopBlock, apply_ite State.pending]

@[simp] theorem State.pending_testPassed (s : State) (b : Nat) : (s.testPassed b).pending = s.pending := by
  unfold State.testPassed
  split <;> rfl

@[simp] theorem State.pending_blockTest (s : State) (b : Nat) (pass : Bool) (us : BitVec 16) :
    (s.blockTest b pass us).pending = s.pending := by
  unfold State.blockTest
  dsimp only
  split <;> simp [apply_ite State.pending]

@[simp] theorem State.pending_writeMgtQclr (s : State) (w : Word) : (s.writeMgtQclr w).pending = s.pending := rfl

@[simp] theorem State.pending_writeSfiTestctl (s : State) (w : Word) :
    (s.writeSfiTestctl w).pending = s.pending := ite_keeps rfl rfl

/-! ### The recorder -/

@[simp] theorem State.pending_withHist (s : State) (h : Hist) : (s.withHist h).pending = s.pending := rfl

@[simp] theorem State.pending_commitNote (s : State) (code : Nat) (data : List Byte) :
    (s.commitNote code data).pending = s.pending := rfl

@[simp] theorem State.pending_flushLanes (s : State) : s.flushLanes.pending = s.pending := rfl

@[simp] theorem State.pending_loseRecords (s : State) : s.loseRecords.pending = s.pending := rfl

@[simp] theorem State.pending_copyAonLog (s : State) : s.copyAonLog.pending = s.pending := rfl

@[simp] theorem State.pending_commitRecord (s : State) : s.commitRecord.pending = s.pending := rfl

@[simp] theorem State.pending_storeDtmark (s : State) : s.storeDtmark.pending = s.pending := ite_keeps rfl rfl

@[simp] theorem State.pending_latchRtc (s : State) : s.latchRtc.pending = s.pending := rfl

@[simp] theorem State.pending_latchWear (s : State) : s.latchWear.pending = s.pending := rfl

@[simp] theorem State.pending_tamperInput (s : State) (before pulse : BitVec 5) (i : Nat) :
    (s.tamperInput before pulse i).pending = s.pending := by
  unfold State.tamperInput
  dsimp only
  split
  · rfl
  · split
    · exact State.pending_aonNote ..
    · rfl

@[simp] theorem State.pending_tamperSample (s : State) (before pulse : BitVec 5) :
    (s.tamperSample before pulse).pending = s.pending := foldl_keeps (fun u i => u.pending_tamperInput before pulse i) _ _

/-! ### The lease and the epochs -/

@[simp] theorem State.pending_withLi (s : State) (m : Li) : (s.withLi m).pending = s.pending := ite_keeps rfl rfl

@[simp] theorem State.pending_runLi (s : State) (ok : Bool) (f : Li → Li) :
    (s.runLi ok f).pending = s.pending := by simp [State.runLi, apply_ite State.pending]

@[simp] theorem State.pending_writeLictl (s : State) (w : Word) : (s.writeLictl w).pending = s.pending := by simp [State.writeLictl]

@[simp] theorem State.pending_handAbort (s : State) (reason : Nat) : (s.handAbort reason).pending = s.pending := rfl

@[simp] theorem State.pending_handStep (s : State) : s.handStep.pending = s.pending := by
  unfold State.handStep
  dsimp only
  split <;> simp [apply_ite State.pending]

@[simp] theorem State.pending_writeLsctl (s : State) (w : Word) :
    (s.writeLsctl w).pending = s.pending := by simp [State.writeLsctl, apply_ite State.pending]

@[simp] theorem State.pending_beginEpoch (s : State) : s.beginEpoch.pending = s.pending := rfl

@[simp] theorem State.pending_epochStep (s : State) : s.epochStep.pending = s.pending := by
  unfold State.epochStep
  dsimp only
  split <;> simp [apply_ite State.pending]

@[simp] theorem State.pending_linkBack (s : State) : s.linkBack.pending = s.pending := ite_keeps rfl rfl

@[simp] theorem State.pending_linkSeen (s : State) : s.linkSeen.pending = s.pending := ite_keeps rfl rfl

@[simp] theorem State.pending_linkFault (s : State) :
    s.linkFault.pending = s.pending := by simp [State.linkFault, apply_ite State.pending]

@[simp] theorem State.pending_epochAcked (s : State) (r : EpochRun) (ok : Bool) :
    (s.epochAcked r ok).pending = s.pending := by simp [State.epochAcked, apply_ite State.pending]

@[simp] theorem State.pending_takeAck (s : State) : s.takeAck.pending = s.pending := by
  unfold State.takeAck
  split
  · rfl
  · dsimp only
    split
    · split <;> simp
    · simp

@[simp] theorem State.pending_sendAck (s : State) (epoch : Word) (result : Nat) :
    (s.sendAck epoch result).pending = s.pending := rfl

@[simp] theorem State.pending_commitFrame (s : State) (d : List Byte) : (s.commitFrame d).pending = s.pending := ite_keeps rfl rfl

@[simp] theorem State.pending_takeCopyFrame (s : State) : s.takeCopyFrame.pending = s.pending := by
  unfold State.takeCopyFrame
  dsimp only
  split <;> simp [apply_ite State.pending]

@[simp] theorem State.pending_commitEpoch (s : State) : s.commitEpoch.pending = s.pending := by
  unfold State.commitEpoch
  split <;> rfl

@[simp] theorem State.pending_takeover (s : State) : s.takeover.pending = s.pending := by
  unfold State.takeover
  dsimp only
  split <;> simp [apply_ite State.pending]

end Sys2Proof.Machine
end

section
/-! SUPPORT. The tempo switch, the supplies, the rescue sequence and the start leave the waiting commands. -/

namespace Sys2Proof.Machine

/-! ### The tempo switch -/

@[simp] theorem State.pending_storeQrem (s : State) : s.storeQrem.pending = s.pending := rfl

@[simp] theorem State.pending_pfailAssert (s : State) : s.pfailAssert.pending = s.pending := ite_keeps rfl rfl

@[simp] theorem State.pending_pfailChange (s : State) (on : Bool) :
    (s.pfailChange on).pending = s.pending := by simp [State.pfailChange, apply_ite State.pending]

@[simp] theorem State.pending_pfailLine (s : State) (on : Bool) :
    (s.pfailLine on).pending = s.pending := by simp [State.pfailLine, apply_ite State.pending]

@[simp] theorem State.pending_releasePfail (s : State) :
    s.releasePfail.pending = s.pending := foldl_keeps State.pending_pfailChange _ _

@[simp] theorem State.pending_tempoRefuse (s : State) (target reason : Nat) :
    (s.tempoRefuse target reason).pending = s.pending := rfl

@[simp] theorem State.pending_tempoGo (s : State) (target : Nat) :
    (s.tempoGo target).pending = s.pending := by simp [State.tempoGo, apply_ite State.pending]

@[simp] theorem State.pending_writeSysTempo (s : State) (w : Word) :
    (s.writeSysTempo w).pending = s.pending := by simp [State.writeSysTempo, apply_ite State.pending]

@[simp] theorem State.pending_tempoCheck (s : State) :
    s.tempoCheck.pending = s.pending := by simp [State.tempoCheck, apply_ite State.pending]

@[simp] theorem State.pending_dropNumbered (s : State) : s.dropNumbered.pending = s.pending := State.pending_withQf ..

@[simp] theorem State.pending_tempoDone (s : State) : s.tempoDone.pending = s.pending := by simp [State.tempoDone]

/-! ### The field die -/

@[simp] theorem State.pending_block (s : State) (b : BitVec 4) : (s.block b).pending = s.pending := rfl

@[simp] theorem State.pending_driveReady (s : State) (d : PadDrive) : (s.driveReady d).pending = s.pending := ite_keeps rfl rfl

@[simp] theorem State.pending_checkPads (s : State) (im : Image) (rs : List PadReading) :
    (s.checkPads im rs).pending = s.pending := by
  unfold State.checkPads
  dsimp only
  split
  · exact State.pending_driveReady ..
  · refine (State.pending_block ..).trans ((State.pending_commitNote ..).trans ?_)
    exact foldl_keeps (fun u p => u.pending_commitNote 0x0230 (mismatchData rs p)) _ _

@[simp] theorem State.pending_writeLepstat (s : State) (p : Nat) (w : Word) :
    (s.writeLepstat p w).pending = s.pending := ite_keeps rfl rfl

@[simp] theorem State.pending_settleOutputs (s : State) : s.settleOutputs.pending = s.pending := ite_keeps rfl rfl

/-! ### The rescue sequence -/

@[simp] theorem State.pending_rescueMode (s : State) :
    s.rescueMode.pending = s.pending := by simp [State.rescueMode, apply_ite State.pending]

@[simp] theorem State.pending_batteryItem (s : State) (it : Item) : (s.batteryItem it).pending = s.pending := by
  unfold State.batteryItem
  split <;> rfl

@[simp] theorem State.pending_drainBattery (s : State) (k : Nat) : (s.drainBattery k).pending = s.pending := by
  induction k generalizing s with
  | zero => rfl
  | succ k ih =>
    unfold State.drainBattery
    dsimp only
    split
    · rfl
    · refine (ih _).trans ?_
      split
      · split
        · exact (State.pending_batteryItem ..).trans rfl
        · rfl
      · rfl

@[simp] theorem State.pending_setCharge (s : State) (c : Int) : (s.setCharge c).pending = s.pending := rfl

@[simp] theorem State.pending_integrate (s : State) : s.integrate.pending = s.pending := rfl

@[simp] theorem State.pending_decideHold (s : State) (reason : Nat) : (s.decideHold reason).pending = s.pending := rfl

@[simp] theorem State.pending_postMove (s : State) (kind : Nat) (target vmax : Word) :
    (s.postMove kind target vmax).pending = s.pending := rfl

@[simp] theorem State.pending_requestDoor (s : State) (landing : Nat) : (s.requestDoor landing).pending = s.pending := rfl

@[simp] theorem State.pending_decideGo (s : State) (inPlace : Bool) (e : Estimate) :
    (s.decideGo inPlace e).pending = s.pending := ite_keeps rfl rfl

@[simp] theorem State.pending_rescueDecide (s : State) (up down : Option Estimate) :
    (s.rescueDecide up down).pending = s.pending := by
  unfold State.rescueDecide
  dsimp only
  split
  · exact State.pending_decideHold ..
  · split
    · exact State.pending_decideHold ..
    · split <;> simp [apply_ite State.pending]

@[simp] theorem State.pending_enterEstimating (s : State) : s.enterEstimating.pending = s.pending := rfl

@[simp] theorem State.pending_beginRescue (s : State) : s.beginRescue.pending = s.pending := ite_keeps rfl rfl

@[simp] theorem State.pending_enterAbandoned (s : State) : s.enterAbandoned.pending = s.pending := rfl

@[simp] theorem State.pending_abandon (s : State) : s.abandon.pending = s.pending := rfl

@[simp] theorem State.pending_rescueLockout (s : State) : s.rescueLockout.pending = s.pending := ite_keeps rfl rfl

@[simp] theorem State.pending_senseMains (s : State) (present : Bool) :
    (s.senseMains present).pending = s.pending := ite_keeps rfl rfl

@[simp] theorem State.pending_mainsItem (s : State) (it : Item) : (s.mainsItem it).pending = s.pending := by
  unfold State.mainsItem
  split
  · exact State.pending_senseMains ..
  · rfl

@[simp] theorem State.pending_mainsFiltered (s : State) :
    s.mainsFiltered.pending = s.pending := by simp [State.mainsFiltered, apply_ite State.pending]

@[simp] theorem State.pending_rescueAtRest (s : State) : s.rescueAtRest.pending = s.pending := ite_keeps rfl rfl

@[simp] theorem State.pending_estimateReply (s : State) (id : Nat) (e : Estimate) : (s.estimateReply id e).pending = s.pending := by
  unfold State.estimateReply
  dsimp only
  split
  · rfl
  · split
    · exact State.pending_rescueDecide ..
    · rfl

@[simp] theorem State.pending_checkReply (s : State) (e : Estimate) : (s.checkReply e).pending = s.pending := ite_keeps rfl rfl

@[simp] theorem State.pending_replyItem (s : State) (it : Item) :
    (s.replyItem it).pending = s.pending := by simp [State.replyItem, apply_ite State.pending]

@[simp] theorem State.pending_rescueEvent (s : State) (it : Item) :
    (s.rescueEvent it).pending = s.pending := by simp [State.rescueEvent, apply_ite State.pending]

@[simp] theorem State.pending_doorAnswer (s : State) (it : Item) :
    (s.doorAnswer it).pending = s.pending := by simp [State.doorAnswer, apply_ite State.pending]

@[simp] theorem State.pending_drainPort (s : State) (port : Nat) (f : State → Item → State)
    (hf : ∀ (s : State) (it : Item), (f s it).pending = s.pending) :
    (s.drainPort port f).pending = s.pending := (foldl_keeps (p := State.pending) hf _ _).trans rfl

@[simp] theorem State.pending_accountTick (s : State) : s.accountTick.pending = s.pending := by
  unfold State.accountTick
  dsimp only
  have hintegrate (u : State) : (if u.rescueExists then u.integrate else u).pending = u.pending := ite_keeps u.pending_integrate rfl
  rw [hintegrate, State.pending_drainPort _ _ _ State.pending_doorAnswer, State.pending_drainPort _ _ _ State.pending_replyItem,
    State.pending_drainPort _ _ _ State.pending_rescueEvent, State.pending_rescueLockout,
    State.pending_drainPort _ _ _ State.pending_mainsItem, State.pending_drainBattery]

@[simp] theorem State.pending_energyCheck (s : State) : s.energyCheck.pending = s.pending := by
  unfold State.energyCheck
  split <;> rfl

/-! ### Register words stored -/

@[simp] theorem State.pending_storeFields (s : State) (accs : List Access) (r : Reg) (idx : List Nat) (w : Word) :
    (s.storeFields accs r idx w).pending = s.pending := rfl

@[simp] theorem State.pending_adoptBaud (s : State) : s.adoptBaud.pending = s.pending := rfl

/-! ### The password session -/

@[simp] theorem State.pending_logChange (s : State) (kind detail : Nat) (addr old new : Nat) :
    (s.logChange kind detail addr old new).pending = s.pending := rfl

@[simp] theorem State.pending_closeWindow (s : State) : s.closeWindow.pending = s.pending := by
  unfold State.closeWindow
  split <;> rfl

@[simp] theorem State.pending_endSession (s : State) (cause : Nat) : (s.endSession cause).pending = s.pending := by
  simp [State.endSession, apply_ite State.pending]

@[simp] theorem State.pending_shutSession (s : State) (cause : Nat) :
    (s.shutSession cause).pending = s.pending := by simp [State.shutSession, apply_ite State.pending]

@[simp] theorem State.pending_lockSession (s : State) (cause : Nat) :
    (s.lockSession cause).pending = s.pending := by simp [State.lockSession, apply_ite State.pending]

@[simp] theorem State.pending_openSession (s : State) : s.openSession.pending = s.pending := rfl

@[simp] theorem State.pending_writePwdata (s : State) (w : Word) : (s.writePwdata w).pending = s.pending := ite_keeps rfl rfl

@[simp] theorem State.pending_passwordCommand (s : State) (set : Bool) (len : Nat) :
    (s.passwordCommand set len).pending = s.pending := by
  unfold State.passwordCommand
  dsimp only
  split <;> simp [apply_ite State.pending]

@[simp] theorem State.pending_writePwcmd (s : State) (w : Word) : (s.writePwcmd w).pending = s.pending := by
  unfold State.writePwcmd
  split <;> simp

@[simp] theorem State.pending_setDone (s : State) (pw : List Byte) :
    (s.setDone pw).pending = s.pending := by simp [State.setDone, apply_ite State.pending]

@[simp] theorem State.pending_unlockDone (s : State) (pw : List Byte) : (s.unlockDone pw).pending = s.pending := by
  unfold State.unlockDone
  simp [apply_ite State.pending]

@[simp] theorem State.pending_derivationDone (s : State) : s.derivationDone.pending = s.pending := by
  unfold State.derivationDone
  split
  · rfl
  · dsimp only
    split
    · exact (State.pending_setDone ..).trans rfl
    · exact (State.pending_unlockDone ..).trans rfl

@[simp] theorem State.pending_writeKeydata (s : State) (w : Word) : (s.writeKeydata w).pending = s.pending := rfl

@[simp] theorem State.pending_writeKeycmd (s : State) (w : Word) : (s.writeKeycmd w).2.pending = s.pending := by
  unfold State.writeKeycmd
  dsimp only
  split
  · rfl
  · split
    · rfl
    · exact ite_keeps (p := State.pending) (State.pending_logChange ..) rfl

/-! ### Resets -/

@[simp] theorem State.pending_abandonTest (s : State) (t : Nat × Nat × BitVec 16) : (s.abandonTest t).pending = s.pending := rfl

@[simp] theorem State.pending_commitAll (s : State) : s.commitAll.pending = s.pending := State.pending_withHist ..

@[simp] theorem State.pending_abandonSlotOp (s : State) : s.abandonSlotOp.pending = s.pending := rfl

@[simp] theorem State.pending_beforeReset (s : State) (reload : Bool) : (s.beforeReset reload).pending = s.pending := by
  unfold State.beforeReset
  dsimp only
  split
  · simp [State.pending_foldl State.pending_abandonTest]
  · split <;> simp [State.pending_foldl State.pending_abandonTest]

@[simp] theorem State.pending_clearIslands (s : State) : s.clearIslands.pending = s.pending := rfl

@[simp] theorem State.pending_resetPwr (s : State) (keep : Bool) : (s.resetPwr keep).pending = s.pending := ite_keeps rfl rfl

@[simp] theorem State.pending_resetMgt (s : State) (keepPwr keep : Bool) :
    (s.resetMgt keepPwr keep).pending = s.pending := ite_keeps rfl rfl

@[simp] theorem State.pending_wipe (s : State) (keepPwr keepMgt : Bool) :
    (s.wipe keepPwr keepMgt).pending = s.pending := by simp [State.wipe]

@[simp] theorem State.pending_toReset (s : State) (c : ResetCause) : (s.toReset c).pending = s.pending := by simp [State.toReset]

@[simp] theorem State.pending_restart (s : State) (c : ResetCause) : (s.restart c).pending = s.pending := by simp [State.restart]

/-! ### The start -/

@[simp] theorem State.pending_writeRstreq (s : State) (w : Word) :
    (s.writeRstreq w).pending = s.pending := by simp [State.writeRstreq, apply_ite State.pending]

@[simp] theorem State.pending_takeAon (s : State) : s.takeAon.pending = s.pending := ite_keeps rfl rfl

@[simp] theorem State.pending_seedTime (s : State) : s.seedTime.pending = s.pending := rfl

@[simp] theorem State.pending_loadParam (s : State) (p : Nat × Word) : (s.loadParam p).pending = s.pending := by
  unfold State.loadParam
  split
  · rfl
  · split
    · exact State.pending_writeMgtQclr ..
    all_goals rfl

@[simp] theorem State.pending_loadLepModes (s : State) (im : Image) : (s.loadLepModes im).pending = s.pending :=
  State.pending_foldl (fun u (r : PinRec) => u.pending_setReg .SFI_LEPCFG [r.pad - 231] _) _ s

@[simp] theorem State.pending_loadOverlay (s : State) (im : Image) (slotB : Bool) :
    (s.loadOverlay im slotB).pending = s.pending := by
  simp [State.loadOverlay, State.pending_foldl State.pending_loadParam, apply_ite State.pending]

@[simp] theorem State.pending_applyImage (s : State) (im : Image) (slotB : Bool) : (s.applyImage im slotB).pending = s.pending := by
  simp [State.applyImage, State.pending_foldl State.pending_loadParam]

@[simp] theorem State.pending_slotFail (s : State) (slotB : Bool) (code : Nat) : (s.slotFail slotB code).pending = s.pending := rfl

@[simp] theorem State.pending_loadImage (s : State) : s.loadImage.pending = s.pending := by
  unfold State.loadImage
  dsimp only
  split
  · exact State.pending_applyImage ..
  · split <;> simp

@[simp] theorem State.pending_startMotion (s : State) (im : Image) : (s.startMotion im).pending = s.pending := rfl

@[simp] theorem State.pending_startIslands (s : State) (im : Image) :
    (s.startIslands im).pending = s.pending := by simp [State.startIslands, apply_ite State.pending]

@[simp] theorem State.pending_startTransient (s : State) (f : SelfTestFail) :
    (s.startTransient f).pending = s.pending := by simp [State.startTransient, apply_ite State.pending]

@[simp] theorem State.pending_selftestFail (s : State) (f : SelfTestFail) : (s.selftestFail f).pending = s.pending := rfl

@[simp] theorem State.pending_blockTests (s : State) : s.blockTests.pending = s.pending := rfl

@[simp] theorem State.pending_testsPassed (s : State) :
    s.testsPassed.pending = s.pending := by simp [State.testsPassed, apply_ite State.pending]

@[simp] theorem State.pending_recordWake (s : State) : s.recordWake.pending = s.pending := ite_keeps rfl rfl

/-! ### Power states -/

@[simp] theorem State.pending_aonOff (s : State) : s.aonOff.pending = s.pending := rfl

@[simp] theorem State.pending_vaultWatch (s : State) : s.vaultWatch.pending = s.pending := ite_keeps rfl rfl

@[simp] theorem State.pending_lastActs (s : State) : s.lastActs.pending = s.pending := by
  simp [State.lastActs, apply_ite State.pending]

@[simp] theorem State.pending_writePwrState (s : State) (w : Word) :
    (s.writePwrState w).pending = s.pending := by simp [State.writePwrState, apply_ite State.pending]

@[simp] theorem State.pending_wake (s : State) (src : BitVec 4) : (s.wake src).pending = s.pending := by
  simp [State.wake]

@[simp] theorem State.pending_fireWake (s : State) (src : BitVec 4) :
    (s.fireWake src).pending = s.pending := by simp [State.fireWake, apply_ite State.pending]

@[simp] theorem State.pending_writePwrSup (s : State) (w : Word) : (s.writePwrSup w).pending = s.pending := rfl

end Sys2Proof.Machine
end

section
/-! SUPPORT. The image slots, the registers and the ports leave the waiting commands. -/

namespace Sys2Proof.Machine

/-! ### The image slots -/

@[simp] theorem State.pending_slotEnd (s : State) (stat : LoaderStat) (reason : Nat) :
    (s.slotEnd stat reason).pending = s.pending := rfl

@[simp] theorem State.pending_slotRefuse (s : State) (reason : Nat) : (s.slotRefuse reason).pending = s.pending := rfl

@[simp] theorem State.pending_slotDone (s : State) : s.slotDone.pending = s.pending := rfl

@[simp] theorem State.pending_acceptRefuse (s : State) (reason : Nat) : (s.acceptRefuse reason).pending = s.pending := rfl

@[simp] theorem State.pending_slotBegin (s : State) (op : SlotOp) (slotB : Bool) : (s.slotBegin op slotB).pending = s.pending := rfl

@[simp] theorem State.pending_slotFree (s : State) : s.slotFree.pending = s.pending := rfl

@[simp] theorem State.pending_noteRefused (s : State) (addr code : Nat) : (s.noteRefused addr code).pending = s.pending := rfl

@[simp] theorem State.pending_slotAct (s : State) (cmd : Nat) (slotB : Bool) : (s.slotAct cmd slotB).pending = s.pending := by
  unfold State.slotAct
  dsimp only
  split <;> simp [apply_ite State.pending]

@[simp] theorem State.pending_slotDeny (s : State) (cmd reason : Nat) :
    (s.slotDeny cmd reason).pending = s.pending := by simp [State.slotDeny, apply_ite State.pending]

@[simp] theorem State.pending_writeSlotcmd (s : State) (w : Word) : (s.writeSlotcmd w).2.pending = s.pending := by
  unfold State.writeSlotcmd
  dsimp only
  split
  · rfl
  · split
    · exact State.pending_slotAct ..
    · exact State.pending_slotDeny ..

@[simp] theorem State.pending_slotRow (s : State) (cmd : Nat) (slotB : Bool) :
    (s.slotRow cmd slotB).pending = s.pending := by simp [State.slotRow]

@[simp] theorem State.pending_slotChecked (s : State) (slotB : Bool) : (s.slotChecked slotB).pending = s.pending := rfl

@[simp] theorem State.pending_copyDone (s : State) : s.copyDone.pending = s.pending := ite_keeps rfl rfl

@[simp] theorem State.pending_startStructureReload (s : State) : s.startStructureReload.pending = s.pending := by
  simp [State.startStructureReload]

@[simp] theorem State.pending_tryReload (s : State) :
    s.tryReload.pending = s.pending := by simp [State.tryReload, apply_ite State.pending]

@[simp] theorem State.pending_writeSlotdata (s : State) (w : Word) : (s.writeSlotdata w).pending = s.pending := by
  unfold State.writeSlotdata
  dsimp only
  split <;> simp [apply_ite State.pending]

@[simp] theorem State.pending_readSlotdata (s : State) : (s.readSlotdata).2.pending = s.pending := by
  unfold State.readSlotdata
  split
  · dsimp only
    split <;> rfl
  · rfl

/-! ### The recorder's controls -/

@[simp] theorem State.pending_freeze (s : State) : s.freeze.pending = s.pending := ite_keeps rfl rfl

@[simp] theorem State.pending_writeRecctl (s : State) (w : Word) : (s.writeRecctl w).2.pending = s.pending := by
  unfold State.writeRecctl
  dsimp only
  split <;> simp [apply_ite State.pending]

@[simp] theorem State.pending_setClock (s : State) (w : Word) : (s.setClock w).pending = s.pending := rfl

@[simp] theorem State.pending_writeRtcset (s : State) (w : Word) : (s.writeRtcset w).2.pending = s.pending := by
  unfold State.writeRtcset
  split <;> simp

/-! ### Register writes -/

@[simp] theorem State.pending_writeFsw (s : State) (w : Word) : (s.writeFsw w).pending = s.pending := rfl

@[simp] theorem State.pending_writeQcfg (s : State) (n : Nat) (w : Word) : (s.writeQcfg n w).pending = s.pending := by
  unfold State.writeQcfg
  split <;> rfl

@[simp] theorem State.pending_writeQrem (s : State) (w : Word) : (s.writeQrem w).pending = s.pending := rfl

@[simp] theorem State.pending_writePlain (s : State) (r : Reg) (idx : List Nat) (w : Word) :
    (s.writePlain r idx w).pending = s.pending := ite_keeps rfl rfl

@[simp] theorem State.pending_writeReg (s : State) (r : Reg) (idx : List Nat) (w : Word) :
    (s.writeReg r idx w).pending = s.pending := by
  unfold State.writeReg
  dsimp only
  split
  · rfl
  · split <;> simp

@[simp] theorem State.pending_pwcmdWrite (s : State) (w : Word) :
    (s.pwcmdWrite w).2.pending = s.pending := by simp [State.pwcmdWrite]

@[simp] theorem State.pending_writeSlotaddr (s : State) (w : Word) : (s.writeSlotaddr w).pending = s.pending := rfl

@[simp] theorem State.pending_writeRecsel (s : State) (w : Word) : (s.writeRecsel w).pending = s.pending := rfl

@[simp] theorem State.pending_writeKeep (s : State) (i : Nat) (w : Word) : (s.writeKeep i w).pending = s.pending := rfl

@[simp] theorem State.pending_writeMgtReg (s : State) (r : Reg) (idx : List Nat) (w : Word) :
    (s.writeMgtReg r idx w).2.pending = s.pending := by
  unfold State.writeMgtReg
  split <;> simp [lockedOr]

@[simp] theorem State.pending_applyRwl (s : State) (r : Reg) (idx : List Nat) (w : Word) :
    (s.applyRwl r idx w).pending = s.pending := by
  unfold State.applyRwl
  split <;> simp

@[simp] theorem State.pending_keepInOverlay (s : State) (a : Nat) (w : Word) : (s.keepInOverlay a w).pending = s.pending := rfl

@[simp] theorem State.pending_acceptRwl (s : State) (r : Reg) (idx : List Nat) (w : Word) :
    (s.acceptRwl r idx w).pending = s.pending := by
  simp [State.acceptRwl, apply_ite State.pending]

@[simp] theorem State.pending_writeRwl (s : State) (r : Reg) (idx : List Nat) (w : Word) :
    (s.writeRwl r idx w).2.pending = s.pending := by
  unfold State.writeRwl
  dsimp only
  split
  · exact State.pending_noteRefused ..
  · split
    · exact State.pending_noteRefused ..
    · split
      · exact State.pending_noteRefused ..
      · exact ite_keeps (p := State.pending) rfl (State.pending_acceptRwl ..)

/-! ### Accesses -/

@[simp] theorem State.pending_readTimeNow (s : State) : (s.readTimeNow).2.pending = s.pending := by
  unfold State.readTimeNow
  split <;> rfl

@[simp] theorem State.pending_readReg (s : State) (r : Reg) (idx : List Nat) : (s.readReg r idx).2.pending = s.pending := by
  unfold State.readReg
  dsimp only
  split <;> simp [apply_ite State.pending]

@[simp] theorem State.pending_portWrite (s : State) (p : Port) (r : Reg) (idx : List Nat) (w : Word) :
    (s.portWrite p r idx w).2.pending = s.pending := by
  unfold State.portWrite
  split
  · split
    · rfl
    · exact State.pending_writeReg ..
  · split
    · exact State.pending_writeRwl ..
    · exact State.pending_writeMgtReg ..

@[simp] theorem State.pending_seeLines (s : State) (r : Reg) : (s.seeLines r).pending = s.pending := by
  unfold State.seeLines
  split <;> simp

@[simp] theorem State.pending_accessRead (s : State) (p : Port) (a : Nat) : (s.accessRead p a).2.2.pending = s.pending := by
  unfold State.accessRead
  split
  · rfl
  · exact (State.pending_readReg ..).trans (State.pending_seeLines ..)

@[simp] theorem State.pending_accessWrite (s : State) (p : Port) (a : Nat) (w : Word) :
    (s.accessWrite p a w).2.pending = s.pending := by
  unfold State.accessWrite
  split
  · rfl
  · exact State.pending_portWrite ..

@[simp] theorem State.pending_serveRequest (s : State) (i : Nat) (ws : List Word) :
    (s.serveRequest i ws).2.pending = s.pending := by
  unfold State.serveRequest
  dsimp only
  split
  · rfl
  · split
    · rfl
    · split
      · rfl
      · split
        · exact State.pending_readReg ..
        · split
          · exact State.pending_portWrite ..
          · rfl

@[simp] theorem State.pending_regRequest (s : State) (f i : Nat) : (s.regRequest f i).pending = s.pending := by
  unfold State.regRequest
  dsimp only
  split <;> simp [apply_ite State.pending]

/-! ### Transactions -/

theorem Burst.pending_write (p : Port) (a : Nat) (w : Word) (b : Burst) : (b.write p a w).env.pending = b.env.pending := by
  unfold Burst.write
  split
  · exact State.pending_accessWrite ..
  · rfl

theorem Burst.pending_read (p : Port) (a : Nat) (b : Burst) : (b.read p a).env.pending = b.env.pending := by
  unfold Burst.read
  split
  · exact State.pending_accessRead ..
  · rfl

theorem Burst.pending_writes (p : Port) (fixed : Bool) (addr : BitVec 24) (i : Nat) (ws : List Word) (b : Burst) :
    (b.writes p fixed addr i ws).env.pending = b.env.pending := by
  induction ws generalizing i b with
  | nil => rfl
  | cons w ws ih => exact (ih ..).trans (Burst.pending_write ..)

theorem Burst.pending_reads (p : Port) (fixed : Bool) (addr : BitVec 24) (i n : Nat) (b : Burst) :
    (b.reads p fixed addr i n).env.pending = b.env.pending := by
  induction n generalizing i b with
  | zero => rfl
  | succ n ih => exact (ih ..).trans (Burst.pending_read ..)

theorem Request.pending_run (r : Request) (p : Port) (i k : Nat) (b : Burst) : (r.run p i k b).env.pending = b.env.pending := by
  unfold Request.run
  split
  · exact Burst.pending_writes ..
  · exact Burst.pending_reads ..

theorem Burst.pending_close (p : Port) (uart : Bool) (t : Xfer) (ended : Bool) (b : Burst) :
    (Burst.close p uart t ended b).pending = b.env.pending :=
  ite_keeps rfl (ite_keeps rfl rfl)

@[simp] theorem State.pending_withXfer (s : State) (p : Port) (t : Xfer) : (s.withXfer p t).pending = s.pending := rfl

@[simp] theorem State.pending_perform (s : State) (p : Port) (uart : Bool) (t : Xfer) (r : Request) (k : Nat) :
    (s.perform p uart t r k).pending = s.pending := (Burst.pending_close ..).trans (Request.pending_run ..)

@[simp] theorem State.pending_frameError (s : State) (p : Port) (uart : Bool) (t : Xfer) :
    (s.frameError p uart t).pending = s.pending := Burst.pending_close ..

@[simp] theorem State.pending_mportError (s : State) (kind : Nat) : (s.mportError kind).pending = s.pending := ite_keeps rfl rfl

@[simp] theorem State.pending_spiBytes (s : State) (p : Port) (bytes : List Byte) (k : Nat) :
    (s.spiBytes p bytes k).pending = s.pending := by
  unfold State.spiBytes
  dsimp only
  split
  · rfl
  · split
    · rfl
    · exact State.pending_frameError ..
    · exact State.pending_perform ..

@[simp] theorem State.pending_uartBytes (s : State) (bytes : List Byte) (k : Nat) : (s.uartBytes bytes k).pending = s.pending := by
  unfold State.uartBytes
  dsimp only
  split
  · rfl
  · split
    · rfl
    · split
      · rfl
      · exact State.pending_frameError ..
      · split
        · rfl
        · split
          · exact State.pending_perform ..
          · exact (State.pending_frameError ..).trans (State.pending_mportError ..)

@[simp] theorem State.pending_selectWakes (s : State) (p : Port) :
    (s.selectWakes p).pending = s.pending := by simp [State.selectWakes, apply_ite State.pending]

@[simp] theorem State.pending_transact (s : State) (p : Port) (bytes : List Byte) (k : Nat) :
    (s.transact p bytes k).pending = s.pending := by simp [State.transact, apply_ite State.pending]

@[simp] theorem State.pending_overtaken (s : State) (p : Port) (t : Xfer) : (s.overtaken p t).pending = s.pending := by
  unfold State.overtaken
  split
  · dsimp only
    split
    · rfl
    · split
      · split
        · exact State.pending_accessWrite ..
        · rfl
      · split
        · rfl
        · exact State.pending_accessRead ..
  · rfl

/-! ### Commands that are one RWL write -/

@[simp] theorem State.pending_mgmtWrite (s : State) (r : Reg) (idx : List Nat) (w : Word) :
    (s.mgmtWrite r idx w).pending = s.pending := by simp [State.mgmtWrite]

end Sys2Proof.Machine
end

namespace Sys2Proof.Machine

/-- Settles O54: each command answers a state made of the operations above, none of which touches the waiting commands. -/
theorem everyCommandAnswersAndKeepsTheQueue : Obligations.EveryCommandAnswersAndKeepsTheQueue := by
  intro c s
  cases c
  case stagePush p _ _ => cases p <;> exact ⟨_, rfl, by simp [apply_ite State.pending]⟩
  case stallReadTimeout p => cases p <;> exact ⟨_, rfl, by simp [apply_ite State.pending]⟩
  case vaneWindowExpire v =>
    cases hpend : (s.fusion.pairs.get VanePair.reset v.val).pend with
    | none => exact ⟨s, by simp [exec, execVaneWindowExpire, hpend], rfl⟩
    | some e => exact ⟨_, by simp [exec, execVaneWindowExpire, hpend]; rfl, s.pending_withMpi _⟩
  case defresCheckComplete =>
    refine ⟨_, rfl, ?_⟩
    split
    · split
      · rfl
      · split <;> simp
    · rfl
  case hibernateEntered =>
    refine ⟨_, rfl, ?_⟩
    split
    · dsimp only
      split <;> simp [State.pending_foldl State.pending_abandonTest]
    · rfl
  case selftestComplete =>
    refine ⟨_, rfl, ?_⟩
    split
    · dsimp only
      split <;> simp [State.pending_foldl State.pending_startTransient, State.pending_foldl State.pending_selftestFail]
    · rfl
  case islandStart =>
    refine ⟨_, rfl, ?_⟩
    split
    · split <;> simp
    · rfl
  case mainsSenseChange level =>
    refine ⟨_, rfl, State.pending_atPwr _ _ fun u => ?_⟩
    split <;> simp
  case keydataWrite w => exact ⟨_, rfl, State.pending_atMgt _ _ fun u => u.pending_writeKeydata w⟩
  case rtcsecRead => exact ⟨_, rfl, State.pending_atMgt _ _ State.pending_latchRtc⟩
  case wearloRead => exact ⟨_, rfl, State.pending_atMgt _ _ State.pending_latchWear⟩
  case eraseComplete => exact ⟨_, rfl, by split <;> simp⟩
  case verifyComplete => exact ⟨_, rfl, by split <;> simp⟩
  case copyAbComplete => exact ⟨_, rfl, by split <;> simp⟩
  case acceptVerified => exact ⟨_, rfl, by split <;> simp [apply_ite State.pending]⟩
  case structureReloadStart => exact ⟨_, rfl, by split <;> simp⟩
  case ovlClearComplete => exact ⟨_, rfl, by split <;> simp⟩
  all_goals exact ⟨_, rfl, by simp [apply_ite State.pending]⟩

end Sys2Proof.Machine
